-- ==== Sys2Proof/Word.lean ====
section
/-!
DEFINITION. Word.lean: the word types of the KTD-6448's register model and their plainest arithmetic.
-/

namespace Sys2Proof

/-- A 32-bit register, general register or CSR (R105, R146). -/
abbrev Word := BitVec 32

/-- One byte of a memory (R108). -/
abbrev Byte := BitVec 8

/-- A 64-bit value, held in two registers LO and HI (R116). -/
abbrev DWord := BitVec 64

/-- Requester numbers of R124: engine n is n, the host 16, the debug port 17. -/
abbrev Req := Fin 18

/-- The host as a requester (R124). -/
def Req.host : Req := 16

/-- The debug port as a requester (R124). -/
def Req.debug : Req := 17

/-- What a read of the controller sent to host memory brings back: the bytes of a successful completion, a completion with
Unsupported Request or Completer Abort status, or a poisoned completion (Table 7.5; a timeout is a command of its own). -/
inductive Ret where
  | data (bytes : List Byte)
  | failed
  | poisoned
deriving DecidableEq, Repr

/-- What the AON island has sampled of the quorum inputs (R699): the levels of QW_IN[1:0], where they are not as sampled last, and how many ticks
ago QW_IN[0] last changed, where it has changed more often than the levels tell. -/
structure Quorum where
  level : Option (BitVec 2) := none
  moved : Option Nat := none
deriving DecidableEq, Repr

end Sys2Proof
end

