-- ==== Sys2Proof/Syntax.lean ====
section
/-!
DEFINITION. Syntax.lean: the commands of the block, one constructor per row of spec/opcode_table.json, with their
operands. The first group of operands of a register-write command is who writes (Req) and what is written; of an
engine instruction, which engine executes it and the fields of its word (05_xaone_isa.md, Tables 5.2 and 5.3); of an
event, the instance it befalls and what arrives with it. A frame is given as the bytes of its payload, in wire order.
-/

namespace Sys2Proof

/-- The commands. Each docstring names the table row and its governing rule. -/
inductive Instr where
  /-- POWER_ON_RESET (R54). PG_IN low puts every island except VAULT into power-on reset, whatever RESET_N does. -/
  | powerOnReset
  /-- RESET_RELEASE (R82). On reset release the boot ROM starts on SPE0/SPE1, reads the sampled straps and begins loading the first stage. -/
  | resetRelease (bootSel : Fin 4) (twinSel : Bool)
  /-- WARM_RESET (R76). RESET_N low while PG_IN is high performs a warm reset and records its cause. -/
  | warmReset
  /-- SOFT_RESET (R76). Writing SYS_RST_CTRL.SOFT_RESET starts a software warm reset. -/
  | softReset (req : Req)
  /-- PERST_ASSERT (R75). PERST_N low resets the endpoint, ends DMA descriptors in progress with ERR 7 and abandons intake, but printing continues. -/
  | perstAssert
  /-- PERST_RELEASE (R91). PERST_N release starts link training and the 100 ms configuration readiness limit. -/
  | perstRelease
  /-- FUNCTION_LEVEL_RESET (R75). A PCIe FLR resets the DMA channels and MSI-X state while the link stays up. -/
  | functionLevelReset
  /-- DEBUG_RESET (R728). TRST_N low resets the DEBUG island and the JTAG TAP. -/
  | debugReset
  /-- TEST_EN_HIGH (R48). TEST_EN high holds the controller in reset and keeps the PCIe endpoint from training. -/
  | testEnHigh
  /-- RAIL_EXCURSION (R56). A rail that leaves its monitor window raises the rail-monitor fault at S4 and a class B glitch to the Geode. -/
  | railExcursion (rail : Fin 9)
  /-- VAULT_SUPPLY_SWITCH (R58). The vault switches its supply between VDD_IO18 and VBAT without losing state. -/
  | vaultSupplySwitch (toVbat : Bool)
  /-- VBAT_LOSS (R60). VBAT below 1.8 V while the vault runs on VBAT loses the key-encryption key. -/
  | vbatLoss
  /-- CLOCK_FAIL (R617). SYSCLK_IN absent for 1 us or a core PLL out of lock raises source 5. -/
  | clockFail
  /-- PARK (R61). A request for PARKED is accepted only with every domain stopped and no DMA descriptor in progress, and is otherwise refused. -/
  | park (req : Req)
  /-- PARK_DONE (R64). Entry to PARKED completes: engines are suspended after draining, lanes are powered down and PARKED is set. -/
  | parkDone
  /-- UNPARK (R63). Writing PARK to 0 requests the return from PARKED to IDLE. -/
  | unpark (req : Req)
  /-- UNPARK_DONE (R63). PARKED clears, suspended engines resume and lanes must negotiate again. -/
  | unparkDone
  /-- FUSES_READ (R613). After reset the PLLs lock and the fuses are read; a read error ends boot with FAIL_CODE 10. -/
  | fusesRead (readError : Bool)
  /-- QSPI_READ_DONE (R83). The boot ROM's QSPI read of a first-stage image completes. -/
  | qspiReadDone (image : List Byte)
  /-- QSPI_TIMEOUT (R88). No valid header within 10 ms fails boot with FAIL_CODE 7. -/
  | qspiTimeout
  /-- FIRST_STAGE_CHECKS_DONE (R85). The checks of Table 3.4 finish, accepting the image, trying the fallback or failing boot. -/
  | firstStageChecksDone
  /-- HOST_GO (R88). Writing HOST_GO in HOST_LOAD_WAIT starts the first-stage checks on the host-loaded image. -/
  | hostGo (req : Req)
  /-- CFG_READY (R91). Setting CFG_READY ends Configuration RRS. -/
  | cfgReady (req : Req)
  /-- FIRST_STAGE_LATE (R92). CFG_READY still 0 1,000 ms after the first PERST_N release fails boot with FAIL_CODE 11. -/
  | firstStageLate
  /-- CONFIG_REQUEST (R91). A PCIe configuration request is completed with RRS until CFG_READY, and normally afterwards. -/
  | configRequest (write : Bool) (off : Nat) (v : Word)
  /-- GUARD_UNLOCK (R125). A write of the key and block_id to GUARD_UNLOCK unlocks that block for the requester's next write. -/
  | guardUnlock (req : Req) (v : Word)
  /-- UNLOCK_EXPIRE (R126). An accepted unlock lapses 1,024 TIMEBASE ticks after acceptance. -/
  | unlockExpire (req : Req)
  /-- REGISTER_WRITE (R105). A write to a register with no row of its own takes effect under the access, guard, write-once and same-cycle rules. -/
  | registerWrite (req : Req) (addr : Nat) (v : Word) (be : BitVec 4)
  /-- LO_STAGE_WRITE (R118). A write to the LO half of a 64-bit pair is staged until the HI write. -/
  | loStageWrite (req : Req) (addr : Nat) (v : Word)
  /-- SQ_WRITE_BACK (R121). A write to an SQ register clears its event bits only if the written SEQ matches. -/
  | sqWriteBack (req : Req) (addr : Nat) (v : Word)
  /-- BAD_REGISTER_READ (R106). A misaligned, partial or unmapped read returns the aligned word or 0 and raises source 20. -/
  | badRegisterRead (req : Req) (addr : Nat) (len : Nat)
  /-- MEMORY_WINDOW_WRITE (R108). A write of 1 to 512 bytes to a memory window not crossing 4 KiB takes effect. -/
  | memoryWindowWrite (req : Req) (addr : Nat) (bytes : List Byte)
  /-- NOZZLE_TABLE_WRITE (R109). An aligned 8-byte write replaces one nozzle-table entry in one cycle, with parity recomputed. -/
  | nozzleTableWrite (req : Req) (addr : Nat) (bytes : List Byte)
  /-- SHADOW_ARM (R744). A write carrying ARM = 1 checks the shadow and arms or refuses the commit. -/
  | shadowArm (req : Req) (addr : Nat) (v : Word)
  /-- ENG_START (R155). START on a verified, stopped engine resets its registers and starts it at ENG_ENTRY. -/
  | engStart (req : Req) (e : Fin 16)
  /-- ENG_STOP (R158). STOP halts the engine at the next instruction boundary after loads complete and stores drain. -/
  | engStop (req : Req) (e : Fin 16)
  /-- ENG_EVSET (R179). A write to ENG_EVSET sets a software event 128 to 191 pending in the engine. -/
  | engEvset (req : Req) (e : Fin 16) (v : Word)
  /-- ADD (R149). rd := rs1 + rs2 modulo 2^32. -/
  | add (e : Fin 16) (rd rs1 rs2 : Fin 32) (sh : BitVec 5)
  /-- SUB (R149). rd := rs1 - rs2 modulo 2^32. -/
  | sub (e : Fin 16) (rd rs1 rs2 : Fin 32) (sh : BitVec 5)
  /-- AND (R149). rd := rs1 and rs2. -/
  | and (e : Fin 16) (rd rs1 rs2 : Fin 32) (sh : BitVec 5)
  /-- OR (R149). rd := rs1 or rs2. -/
  | or (e : Fin 16) (rd rs1 rs2 : Fin 32) (sh : BitVec 5)
  /-- XOR (R149). rd := rs1 xor rs2. -/
  | xor (e : Fin 16) (rd rs1 rs2 : Fin 32) (sh : BitVec 5)
  /-- SLL (R149). Logical left shift by rs2[4:0]. -/
  | sll (e : Fin 16) (rd rs1 rs2 : Fin 32) (sh : BitVec 5)
  /-- SRL (R149). Logical right shift by rs2[4:0]. -/
  | srl (e : Fin 16) (rd rs1 rs2 : Fin 32) (sh : BitVec 5)
  /-- SRA (R149). Arithmetic right shift by rs2[4:0]. -/
  | sra (e : Fin 16) (rd rs1 rs2 : Fin 32) (sh : BitVec 5)
  /-- SLT (R149). rd := 1 if rs1 < rs2 signed. -/
  | slt (e : Fin 16) (rd rs1 rs2 : Fin 32) (sh : BitVec 5)
  /-- SLTU (R149). rd := 1 if rs1 < rs2 unsigned. -/
  | sltu (e : Fin 16) (rd rs1 rs2 : Fin 32) (sh : BitVec 5)
  /-- MUL (R149). rd := low 32 bits of the product, available after two cycles. -/
  | mul (e : Fin 16) (rd rs1 rs2 : Fin 32) (sh : BitVec 5)
  /-- MULH (R149). rd := high 32 bits of the signed product. -/
  | mulh (e : Fin 16) (rd rs1 rs2 : Fin 32) (sh : BitVec 5)
  /-- MULHU (R149). rd := high 32 bits of the unsigned product. -/
  | mulhu (e : Fin 16) (rd rs1 rs2 : Fin 32) (sh : BitVec 5)
  /-- MULQ (R166). Signed product rounded half up, shifted by sh and saturated to 32 bits. -/
  | mulq (e : Fin 16) (rd rs1 rs2 : Fin 32) (sh : BitVec 5)
  /-- ADDI (R149). rd := rs1 + sext(imm). -/
  | addi (e : Fin 16) (rd rs1 : Fin 32) (imm : BitVec 16)
  /-- ANDI (R149). rd := rs1 and zext(imm). -/
  | andi (e : Fin 16) (rd rs1 : Fin 32) (imm : BitVec 16)
  /-- ORI (R149). rd := rs1 or zext(imm). -/
  | ori (e : Fin 16) (rd rs1 : Fin 32) (imm : BitVec 16)
  /-- XORI (R149). rd := rs1 xor zext(imm). -/
  | xori (e : Fin 16) (rd rs1 : Fin 32) (imm : BitVec 16)
  /-- SLTI (R149). rd := 1 if rs1 < sext(imm) signed. -/
  | slti (e : Fin 16) (rd rs1 : Fin 32) (imm : BitVec 16)
  /-- SLTIU (R149). rd := 1 if rs1 < sext(imm) unsigned. -/
  | sltiu (e : Fin 16) (rd rs1 : Fin 32) (imm : BitVec 16)
  /-- SLLI (R149). Left shift by an immediate amount. -/
  | slli (e : Fin 16) (rd rs1 : Fin 32) (imm : BitVec 16)
  /-- SRLI (R149). Logical right shift by an immediate amount. -/
  | srli (e : Fin 16) (rd rs1 : Fin 32) (imm : BitVec 16)
  /-- SRAI (R149). Arithmetic right shift by an immediate amount. -/
  | srai (e : Fin 16) (rd rs1 : Fin 32) (imm : BitVec 16)
  /-- LUI (R149). rd := imm << 16. -/
  | lui (e : Fin 16) (rd rs1 : Fin 32) (imm : BitVec 16)
  /-- LW (R150). Load a word from DMEM in one cycle, or from device space, stalling until the data returns. -/
  | lw (e : Fin 16) (rd rs1 : Fin 32) (imm : BitVec 16)
  /-- LH (R150). Load a sign-extended half-word. -/
  | lh (e : Fin 16) (rd rs1 : Fin 32) (imm : BitVec 16)
  /-- LHU (R150). Load a zero-extended half-word. -/
  | lhu (e : Fin 16) (rd rs1 : Fin 32) (imm : BitVec 16)
  /-- LB (R150). Load a sign-extended byte. -/
  | lb (e : Fin 16) (rd rs1 : Fin 32) (imm : BitVec 16)
  /-- LBU (R150). Load a zero-extended byte. -/
  | lbu (e : Fin 16) (rd rs1 : Fin 32) (imm : BitVec 16)
  /-- SW (R151). Store a word to DMEM, or post it to device space through the store buffer. -/
  | sw (e : Fin 16) (rd rs1 : Fin 32) (imm : BitVec 16)
  /-- SH (R151). Store a half-word. -/
  | sh (e : Fin 16) (rd rs1 : Fin 32) (imm : BitVec 16)
  /-- SB (R151). Store a byte. -/
  | sb (e : Fin 16) (rd rs1 : Fin 32) (imm : BitVec 16)
  /-- CALLR (R153). rd := PC + 4 and jump to rs1 + sext(imm). -/
  | callr (e : Fin 16) (rd rs1 : Fin 32) (imm : BitVec 16)
  /-- CSRR (R160). Read a CSR into rd. -/
  | csrr (e : Fin 16) (rd rs1 : Fin 32) (imm : BitVec 16)
  /-- CSRW (R161). Write rs1 to a CSR, including watchdog kicks and event clears. -/
  | csrw (e : Fin 16) (rd rs1 : Fin 32) (imm : BitVec 16)
  /-- CSRM (R167). Return a CSR's old value and apply a masked write to one half of it. -/
  | csrm (e : Fin 16) (rd rs1 : Fin 32) (imm : BitVec 16)
  /-- BEQ (R165). Branch if rs1 = rs2. -/
  | beq (e : Fin 16) (rs1 rs2 : Fin 32) (off : BitVec 16)
  /-- BNE (R165). Branch if rs1 differs from rs2. -/
  | bne (e : Fin 16) (rs1 rs2 : Fin 32) (off : BitVec 16)
  /-- BLT (R165). Branch if rs1 < rs2 signed. -/
  | blt (e : Fin 16) (rs1 rs2 : Fin 32) (off : BitVec 16)
  /-- BGE (R165). Branch if rs1 >= rs2 signed. -/
  | bge (e : Fin 16) (rs1 rs2 : Fin 32) (off : BitVec 16)
  /-- BLTU (R165). Branch if rs1 < rs2 unsigned. -/
  | bltu (e : Fin 16) (rs1 rs2 : Fin 32) (off : BitVec 16)
  /-- BGEU (R165). Branch if rs1 >= rs2 unsigned. -/
  | bgeu (e : Fin 16) (rs1 rs2 : Fin 32) (off : BitVec 16)
  /-- J (R165). Jump by a signed word offset. -/
  | j (e : Fin 16) (off : BitVec 26)
  /-- CALL (R153). Jump by a signed word offset with g31 := PC + 4. -/
  | call (e : Fin 16) (off : BitVec 26)
  /-- SNOP (R162). No operation; `w` is the word as fetched, which may be any word: one that spells no listed instruction is illegal (R163). -/
  | snop (e : Fin 16) (w : Word)
  /-- HALT (R157). Stop the engine with HALT_CAUSE 1 after posted stores drain. -/
  | halt (e : Fin 16) (z : BitVec 20)
  /-- TRAP (R186). Trap with cause SOFTWARE and TVAL := code. -/
  | trap (e : Fin 16) (z : BitVec 20)
  /-- RETT (R186). PC := TPC and IN_TRAP := 0. -/
  | rett (e : Fin 16) (z : BitVec 20)
  /-- WAIT (R179). Retire at once if the event is pending, otherwise stall until it is. -/
  | wait (e : Fin 16) (z : BitVec 20)
  /-- WAIT_WAKE (R179). The awaited event becomes pending and a stalled WAIT retires, clearing an edge latch. -/
  | waitWake (e : Fin 16)
  /-- FENCE_E (R220). Engine-local fence over DMEM stores and CSR writes. -/
  | fenceE (e : Fin 16) (z : BitVec 20)
  /-- FENCE_D (R220). Device fence over device stores and print operations. -/
  | fenceD (e : Fin 16) (z : BitVec 20)
  /-- FENCE_H (R220). Host fence over host-memory writes and released completion records. -/
  | fenceH (e : Fin 16) (z : BitVec 20)
  /-- FENCE_L (R221). Line fence that waits until earlier lines have fired or been spoiled. -/
  | fenceL (e : Fin 16) (z : BitVec 20)
  /-- FENCE_RETIRE (R220). A stalled fence retires when its condition comes to hold. -/
  | fenceRetire (e : Fin 16)
  /-- LISSUE (R174). An FSE copies a 32-byte line descriptor from DMEM into its pipeline's line-issue queue. -/
  | lissue (e : Fin 16) (rd rs1 rs2 aux : Fin 32)
  /-- NZLD (R170). Load a nozzle-table entry into a register pair. -/
  | nzld (e : Fin 16) (rd rs1 rs2 aux : Fin 32)
  /-- NZST (R172). Store a register pair into a nozzle-table entry, with hardware parity. -/
  | nzst (e : Fin 16) (rd rs1 rs2 aux : Fin 32)
  /-- NZCAS (R171). Indivisibly compare an entry and, if equal, replace it, reporting success. -/
  | nzcas (e : Fin 16) (rd rs1 rs2 aux : Fin 32)
  /-- LGPUT (R175). Hand a 128-byte record in DMEM to the ledger and return an acceptance code. -/
  | lgput (e : Fin 16) (rd rs1 rs2 aux : Fin 32)
  /-- CSWAP (R177). Arm a calibration set to swap at its next boundary. -/
  | cswap (e : Fin 16) (rd rs1 rs2 aux : Fin 32)
  /-- EMIT (R178). Push a 64-bit word into another engine's mailbox. -/
  | emit (e : Fin 16) (rd rs1 rs2 aux : Fin 32)
  /-- RECV (R178). Pop the oldest mailbox word, or report an empty mailbox. -/
  | recv (e : Fin 16) (rd rs1 rs2 aux : Fin 32)
  /-- LOAD_RETURN (R150). The data of a stalled device load returns and the load retires. -/
  | loadReturn (e : Fin 16)
  /-- LOAD_TIMEOUT (R150). A device load not returned after 4,096 engine cycles traps with device bus error. -/
  | loadTimeout (e : Fin 16)
  /-- STALL_RELEASE (R151). Room appears in a full store buffer, issue queue, ledger input or mailbox and the stalled instruction completes. -/
  | stallRelease (e : Fin 16)
  /-- WATCHDOG_EXPIRE (R185). The engine watchdog reaches 0 and traps with cause WATCHDOG. -/
  | watchdogExpire (e : Fin 16)
  /-- TIMER_MATCH (R179). TIMEBASE reaches the engine's TIMER compare value and raises event 1. -/
  | timerMatch (e : Fin 16)
  /-- JQ_ENABLE (R194). Setting JQ_CTRL.ENABLE enables intake if the ring, inbox and index conditions hold. -/
  | jqEnable (req : Req) (k : Fin 8) (v : Word)
  /-- JQ_DISABLE (R195). Clearing ENABLE stops intake while open jobs run to completion. -/
  | jqDisable (req : Req) (k : Fin 8) (v : Word)
  /-- IDX_CLR (R196). IDX_CLR returns a drained queue's four ring indices to 0. -/
  | idxClr (req : Req) (k : Fin 8) (v : Word)
  /-- DOORBELL (R197). A write to JQ_TAIL posts jobs if the new index is within the ring limits. -/
  | doorbell (req : Req) (k : Fin 8) (v : Word)
  /-- JOB_INTAKE (R199). With TAIL not HEAD and the inbox slot free, the controller starts taking in the next job by reading its descriptor. -/
  | jobIntake
  /-- JOB_DESC_RETURN (R202). The job descriptor arrives and is checked under Table 6.4. -/
  | jobDescReturn (k : Fin 8) (ret : Ret)
  /-- ITEM_ARRAY_RETURN (R199). With item-table room the item descriptors arrive, are checked and the job is written to the inbox, HEAD advances and
  event 8 + k is raised. -/
  | itemArrayReturn (k : Fin 8) (ret : Ret)
  /-- JQ_DONE (R209). The owner releases a job's inbox slot through JQ_DONE. -/
  | jqDone (req : Req) (k : Fin 8) (slot : Fin 64)
  /-- JQ_ABORT (R216). JQ_DONE with ABORT withdraws every QUEUED item of the job and spoils those in PRINTING. -/
  | jqAbort (req : Req) (k : Fin 8) (slot : Fin 64)
  /-- COMPLETION_RELEASE (R207). Once a job's items are all decided or withdrawn, its completion record is written to the ring and CQ_TAIL
  advances. -/
  | completionRelease (k : Fin 8)
  /-- CQ_HEAD_WRITE (R215). A write of JQ_CQ_HEAD frees completion-ring room, or is ignored beyond CQ_TAIL. -/
  | cqHeadWrite (req : Req) (k : Fin 8) (v : Word)
  /-- LINK_UP (R238). The PCIe link enters L0 and SPEED and WIDTH are updated. -/
  | linkUp (speed : Fin 16) (width : Fin 16)
  /-- LINK_DOWN (R239). The link leaves L0 for Detect or Disabled: requests end, descriptors end with ERR 7 and printing continues. -/
  | linkDown
  /-- PCIE_ERROR_RX (R242). A UR/CA, poisoned or malformed TLP is received and raises source 17. -/
  | pcieErrorRx (kind : Fin 4)
  /-- CPL_TIMEOUT (R280). A non-posted request of the controller times out. -/
  | cplTimeout (what : Fin 64)
  /-- BME_CLEAR (R286). Bus Master Enable cleared: channels with work enter WAIT_BME and no requests are sent. -/
  | bmeClear
  /-- BME_SET (R286). Bus Master Enable returns to 1 and waiting channels resume. -/
  | bmeSet
  /-- D3HOT_ENTRY (R241). The function enters D3hot and sends no requests or messages while printing continues. -/
  | d3hotEntry
  /-- BAR2_READ (R245). A host read through the DDR window returns data, or 0s with source 27 for a disabled page or beyond memory.
  `upsets` names the bytes DDR hands over upset: false corrected, true not (R292, R293). -/
  | bar2Read (off len : Nat) (upsets : List (Nat × Bool) := [])
  /-- BAR2_WRITE (R245). A host write through the DDR window reaches DDR, or is ignored with source 27. -/
  | bar2Write (off : Nat) (bytes : List Byte)
  /-- UNSUPPORTED_REQUEST (R237). An I/O, AtomicOp or BAR4/BAR5 request is completed with Unsupported Request. -/
  | unsupportedRequest
  /-- MSIX_UNMASK (R251). Unmasking a vector with its pending bit set sends one message and clears the bit. -/
  | msixUnmask (vec : Fin 64)
  /-- ASPM_L1_ENTRY (R240). In PARKED with ASPM L1 enabled the controller starts L1 entry. -/
  | aspmL1Entry
  /-- DMA_GO (R287). GO starts a channel's chain at CH_HEAD if its configuration is valid. -/
  | dmaGo (req : Req) (c : Fin 32)
  /-- DMA_KICK (R258). KICK makes a channel in WAIT_DESC fetch again. -/
  | dmaKick (req : Req) (c : Fin 32)
  /-- DMA_ABORT (R283). ABORT stops fetching and issuing, ends descriptors in progress with ERR 6 and returns to IDLE. -/
  | dmaAbort (req : Req) (c : Fin 32)
  /-- DMA_FLUSH (R271). FLUSH makes a D2H ring channel drain until its fill is 0. -/
  | dmaFlush (req : Req) (c : Fin 32)
  /-- DESC_FETCH_RETURN (R256). A fetched descriptor arrives and is taken as ready, not ready or malformed. -/
  | descFetchReturn (c : Fin 32) (ret : Ret)
  /-- DMA_REQUEST_ISSUE (R270). A channel issues a data request once quota, buffer and ring room allow. -/
  | dmaRequestIssue (c : Fin 32)
  /-- DATA_RETURN (R276). Returned data is passed to its target in address order and its reservation is released. `n` is the
  request's place among those open, oldest first; `upsets` is as in BAR2_READ. -/
  | dataReturn (c : Fin 32) (ret : Ret) (n : Nat := 0) (upsets : List (Nat × Bool) := [])
  /-- DESC_COMPLETE (R277). A descriptor completes, writes back STATUS, counts and raises its IRQ event. `refused` says that the
  write-back is refused (R282). -/
  | descComplete (c : Fin 32) (refused : Bool := false)
  /-- RING_COUNT_WRITE (R268). A software write of CH_PROD or CH_CONS moves the count, or is ignored with CFG_ERROR. -/
  | ringCountWrite (req : Req) (c : Fin 32) (prod : Bool) (v : Word)
  /-- DDR_TRAIN (R98). MEMC_CH_CFG.TRAIN starts training of a DDR channel. -/
  | ddrTrain (req : Req) (m : Fin 2) (v : Word)
  /-- TRAIN_DONE (R290). DDR training of a channel ends as passed or failed. -/
  | trainDone (m : Fin 2) (pass : Bool) (failStep : BitVec 8) (capacity : BitVec 16)
  /-- SCRUB_STEP (R294). Background scrub reads an address and corrects single-bit errors. -/
  | scrubStep (addr : Nat) (err : Fin 3)
  /-- STREAM_ENABLE (R301). Setting RAS_STREAM.ENABLE enables a stream if every condition holds. -/
  | streamEnable (req : Req) (n : Fin 32) (v : Word)
  /-- STREAM_DISABLE (R303). Clearing ENABLE disables a stream while its domain is stopped. -/
  | streamDisable (req : Req) (n : Fin 32) (v : Word)
  /-- LINE_BOUNDARY (R342). A domain's boundary falls: DCD_LINE advances, the stamp is taken and event 16 + d is raised. -/
  | lineBoundary (d : Fin 4)
  /-- SLICE_HANDOVER (R311). The raster path finishes stitch, mask, substitution and widths for a slice and hands its drop counts to the pipeline. -/
  | sliceHandover (l : Fin 64)
  /-- DCD_GO (R361). GO starts a stopped domain at DCD_START if every start condition holds. -/
  | dcdGo (req : Req) (d : Fin 4)
  /-- DCD_STOP (R363). STOP puts the domain in STOPPING until issued lines have fired. -/
  | dcdStop (req : Req) (d : Fin 4)
  /-- DERATE (R372). A write of DCD_CTRL.DERATE is a derate request counted at the next boundary. -/
  | derate (req : Req) (d : Fin 4)
  /-- PLANNING_TICK (R371). Every 4 us the speed factor slews and every axis planner advances its command. -/
  | planningTick
  /-- SENSE_RX (R390). A SENSE frame arrives: temperatures, slopes and supply factor are updated and the limits evaluated. -/
  | senseRx (l : Fin 64) (payload : List Byte)
  /-- RISE_UPDATE (R387). Every 16,384 ticks each zone's predicted rise is updated and T_PEAK evaluated. -/
  | riseUpdate
  /-- CLR_INHIBIT (R407). A clear request is accepted only when every inhibit condition is gone, taking effect at the next FIRST take-up. -/
  | clrInhibit (req : Req) (h : Fin 64)
  /-- FORCE_INHIBIT (R404). Setting FORCE_INHIBIT inhibits the head with cause FORCED. -/
  | forceInhibit (req : Req) (h : Fin 64)
  /-- LANE_ENABLE (R415). Setting HL_CTRL.ENABLE enables a lane and starts negotiation if the range and domain conditions hold. -/
  | laneEnable (req : Req) (l : Fin 64)
  /-- LANE_DISABLE (R439). Clearing ENABLE sends ABORT and silences the lane. -/
  | laneDisable (req : Req) (l : Fin 64)
  /-- ACQUIRE (R448). Setting ACQUIRE makes the lane request the head's lease. -/
  | acquire (req : Req) (l : Fin 64)
  /-- RELEASE (R451). RELEASE sends ABORT then RELEASE and the lane holds no lease. -/
  | release (req : Req) (l : Fin 64)
  /-- RENEG (R425). RENEG restarts negotiation of the lane. -/
  | reneg (req : Req) (l : Fin 64)
  /-- CAP_TX (R425). During negotiation the lane sends a CAP frame at least every 10 us; `hold` blocks of it go later.
  Links 64 and 65 are the Basalt lanes (R694). -/
  | capTx (link : Fin 66) (hold : Nat := 0)
  /-- CAP_RX (R426). A CAP frame from the bridge is received and counted toward mode selection or acknowledgement. -/
  | capRx (l : Fin 64) (payload : List Byte)
  /-- RATE_SWITCH (R428). After 10 us electrically idle the lane resumes at the selected rate with IDLE frames. -/
  | rateSwitch (link : Fin 66)
  /-- NEG_FALLBACK (R428). Without an echoed selection within 1 ms the lane returns to the base rate and the next lower rate. -/
  | negFallback (link : Fin 66)
  /-- NEG_TIMEOUT (R430). A lane not UP 20 ms after negotiation started enters FAILED. -/
  | negTimeout (link : Fin 66)
  /-- FIRE_TX (R431). The lane sends the FIRE frames of a processed slice in ascending FIRST; `hold` blocks of this one go later. -/
  | fireTx (l : Fin 64) (hold : Nat := 0)
  /-- SYNC_TX (R433). At each slot start the lane sends the SYNC block for that slot. -/
  | syncTx (l : Fin 64)
  /-- IDLE_TX (R442). An IDLE frame is sent so that valid frames end at least every 2 us; `hold` blocks go later. -/
  | idleTx (l : Fin 64) (hold : Nat := 0)
  /-- LEASE_REQUEST_TX (R448). While ACQUIRE is set and no lease is held, REQUEST is sent every 100 us; `hold` blocks go later. -/
  | leaseRequestTx (l : Fin 64) (hold : Nat := 0)
  /-- LEASE_RENEW_TX (R448). While the lease is held, RENEW is sent every 500 us; `hold` blocks go later. -/
  | leaseRenewTx (l : Fin 64) (hold : Nat := 0)
  /-- LEASE_GRANT_RX (R448). A GRANT starts holding the lease with its epoch. -/
  | leaseGrantRx (l : Fin 64) (epoch : Word)
  /-- LEASE_RENEWED_RX (R449). A RENEWED extends the controller's hold time. -/
  | leaseRenewedRx (l : Fin 64) (epoch : Word)
  /-- LEASE_NO_LEASE_RX (R449). A NO_LEASE loses the lease. -/
  | leaseNoLeaseRx (l : Fin 64) (holder : BitVec 8)
  /-- LEASE_DENY_RX (R449). A DENY records the holder and REMAIN and raises source 53. -/
  | leaseDenyRx (l : Fin 64) (holder : Bool) (remain : BitVec 16)
  /-- LEASE_RELEASED_RX (R451). A RELEASED confirms the end of the lease. -/
  | leaseReleasedRx (l : Fin 64)
  /-- LEASE_EXPIRE (R449). At t_a + 1.8 ms the lease is lost: ABORT, ACQUIRE cleared and source 52. -/
  | leaseExpire (l : Fin 64)
  /-- LINK_LOCK_LOSS (R456). The lane receiver loses block lock, the lane is lost and negotiation restarts. -/
  | linkLockLoss (link : Fin 66)
  /-- UPSTREAM_SILENCE (R456). No valid upstream frame for 16 us makes the lane lost. -/
  | upstreamSilence (l : Fin 64)
  /-- BAD_FRAME_RX (R421). An invalid upstream frame or block is discarded and counted with source 50; or bits come in, among which the
  receiver finds what is to be accepted or discarded (R417). -/
  | badFrameRx (l : Fin 64) (bits : Option (List Bool) := none)
  /-- CX_READ (R459). GO with OP READ sends one CTRL read request to the bridge. -/
  | cxRead (req : Req) (l : Fin 64)
  /-- CX_WRITE (R459). GO with OP WRITE sends one CTRL write request to the bridge. -/
  | cxWrite (req : Req) (l : Fin 64)
  /-- CTRL_REPLY_RX (R459). A CTRL reply arrives with its status and data. -/
  | ctrlReplyRx (l : Fin 64) (tag : BitVec 8) (status : BitVec 8) (data : Word)
  /-- CTRL_TIMEOUT (R459). No CTRL reply within 100 us sets STATUS 4 and raises source 56. -/
  | ctrlTimeout (l : Fin 64)
  /-- VERIFY_RX (R479). A VERIFY frame arrives and its events or raw samples are processed. -/
  | verifyRx (l : Fin 64) (payload : List Byte)
  /-- HOLD_RELEASE (R486). A write to VFY_HOLD_REL removes a nozzle from its hold list. -/
  | holdRelease (req : Req) (v : Word)
  /-- AXIS_ENABLE (R502). Writing ENABLE drives EN[a], refused when OFF, S4 or undetected feedback. -/
  | axisEnable (req : Req) (a : Fin 16)
  /-- AXIS_GO (R508). GO starts the axis's position, velocity or gear motion. -/
  | axisGo (req : Req) (a : Fin 16)
  /-- AXIS_STOP (R515). STOP ramps the axis down on D2 then D1. -/
  | axisStop (req : Req) (a : Fin 16)
  /-- AXIS_QSTOP (R515). QSTOP ramps the axis down on QSDEC. -/
  | axisQstop (req : Req) (a : Fin 16)
  /-- AXIS_HOME (R520). HOME on an IDLE axis starts the homing sequence. -/
  | axisHome (req : Req) (a : Fin 16)
  /-- MOT_POS_WRITE (R513). A write of MOT_POS in IDLE loads the command position and re-latches the stall reference. -/
  | motPosWrite (req : Req) (a : Fin 16) (v : DWord)
  /-- LIMIT_TRIP (R518). A limit becoming active toward the motion stops the axis with source 81. `high` is the
  level its ball takes (R503). -/
  | limitTrip (a : Fin 16) (neg high : Bool)
  /-- HOME_EDGE (R521). A qualified HOME edge latches the position and advances the homing phase. `high` is the level the ball
  takes (R503); where it is not `held`, the ball changes back at once. -/
  | homeEdge (a : Fin 16) (high : Bool) (held : Bool := true)
  /-- GROUP_GO (R526). A group GO starts an interpolated path to every member's target. -/
  | groupGo (req : Req) (g : Fin 4)
  /-- GROUP_STOP (R528). A group STOP stops the whole path. -/
  | groupStop (req : Req) (g : Fin 4)
  /-- FB_ENABLE (R541). Setting FB_CTRL.EN enables a channel if its mode and IP_SH are allowed. -/
  | fbEnable (req : Req) (c : Fin 12)
  /-- FB_DISABLE (R555). Clearing EN stops a channel and clears DETECTED. -/
  | fbDisable (req : Req) (c : Fin 12)
  /-- REDETECT (R555). REDETECT restarts detection in AUTO mode. -/
  | redetect (req : Req) (c : Fin 12)
  /-- DETECT_ATTEMPT (R554). A detection attempt classifies 256 samples as DIGITAL, SINCOS or undecided. -/
  | detectAttempt (c : Fin 12) (samples : List (BitVec 16 × BitVec 16))
  /-- ENCODER_EDGE (R546). An accepted digital edge changes the counted position and is stamped. `a` and `b` are the levels of the inputs, which have
  stood for `age` ticks: long enough, and they are accepted (R543, R544, R740). -/
  | encoderEdge (c : Fin 12) (a b : Bool) (age : Nat := 16)
  /-- SINCOS_SAMPLE (R550). A sin/cos sample pair is corrected and converted into a position. -/
  | sincosSample (c : Fin 12) (sin cos : BitVec 16)
  /-- LOW_SPEED_TIMEOUT (R559). No edge or sample for LSTMO us sets LOW_SPEED and zeroes FB_SPEED. -/
  | lowSpeedTimeout (c : Fin 12)
  /-- INDEX_EVENT (R562). An index edge latches the position and checks it against the reference. Z has stood high for `age` ticks (R543). -/
  | indexEvent (c : Fin 12) (age : Nat := 16)
  /-- FB_POS_WRITE (R556). A write of FB_POS loads the position, or is ignored while owned, geared or used by a reject output. -/
  | fbPosWrite (req : Req) (c : Fin 12) (v : DWord)
  /-- EMU_ENABLE (R574). Enabling an emulation output is refused with DEN 0 or an undetected source. -/
  | emuEnable (req : Req) (n : Fin 4)
  /-- EMU_STEP (R572). The emulation output makes one quadrature step toward its target count. -/
  | emuStep (n : Fin 4)
  /-- TIMER_START (R576). A write of LP_TMR_START resets and starts the selected sample timers together. -/
  | timerStart (req : Req) (v : Word)
  /-- LOOP_TICK (R578). A sample timer ticks: inputs are captured, shadows committed and the ticking loops computed. -/
  | loopTick (t : Fin 8)
  /-- LOOP_RUN (R586). Setting RUN starts a loop if its sources and destination are valid. -/
  | loopRun (req : Req) (l : Fin 32)
  /-- LOOP_STOP (R587). Clearing RUN stops the loop before its next tick, keeping its history. -/
  | loopStop (req : Req) (l : Fin 32)
  /-- LOOP_INIT (R583). INIT with RUN at 0 zeroes the input history and loads LP_YINIT into the output history. -/
  | loopInit (req : Req) (l : Fin 32)
  /-- PWM_PERIOD_START (R585). A PWM period begins and takes the duty in force. -/
  | pwmPeriodStart (p : Fin 16)
  /-- CAL_RUN (R599). CAL_CMD.GO starts an ADC offset or sin/cos calibration run. -/
  | calRun (req : Req) (v : Word)
  /-- CAL_RUN_END (R603). A run completes and replaces its staged values. -/
  | calRunEnd (samples : List (BitVec 16 × BitVec 16))
  /-- CAL_TIMEOUT (R602). A SINCOS run not done within TMO ms aborts with TIMEOUT. -/
  | calTimeout
  /-- CAL_APPLY (R597). A write of CAL_APPLY arms a calibration set, or answers a refusal code. -/
  | calApply (req : Req) (v : Word)
  /-- NZ_SET_WRITE (R606). After boundary B and its slices finish, the CAL block writes a NOZZLE set's trims. -/
  | nzSetWrite (l : Fin 64)
  /-- CAL_TRIGGER_EVAL (R609). Every 1 ms each enabled trigger compares temperature change with DT and may start a run. -/
  | calTriggerEval
  /-- QZ_PROG (R612). QZ_CMD.PROG starts programming QZ_BUF into the lowest free Quartz slot, or is refused. -/
  | qzProg (req : Req)
  /-- QZ_PROG_END (R611). A Quartz write ends, committed or failed on read-back. -/
  | qzProgEnd (ok : Bool)
  /-- FAULT_RESUME (R625). RESUME ends safe state if no S3/S4 latch, live level or FAULT_IN_N remains. -/
  | faultResume (req : Req)
  /-- ERR_HOLD_RELEASE (R641). Writing ERR_HOLD = 0 releases ERR_N after the pulse width. -/
  | errHoldRelease (req : Req)
  /-- ERR_PULSE_END (R640). An ERR_N pulse ends PW x 10 us after its latest latch. -/
  | errPulseEnd
  /-- FAULT_FORCE (R637). FORCE raises a source once as an injected event at its severity. -/
  | faultForce (req : Req) (n : Fin 128)
  /-- SEV_WRITE (R636). A write of FLT_CFG.SEV sets a source's severity, refused below default for protected sources. -/
  | sevWrite (req : Req) (n : Fin 128) (sev : BitVec 3)
  /-- FLT_SRC_CLEAR (R631). A matching write-back clears TRANSIENT, INJECTED and, if not live, LATCHED. -/
  | fltSrcClear (req : Req) (n : Fin 128) (v : Word)
  /-- FAULT_IN_ASSERT (R643). FAULT_IN_N accepted low latches source 10 and drives EN and PWM low. -/
  | faultInAssert
  /-- FAULT_IN_RELEASE (R644). FAULT_IN_N accepted high again drops the LIVE status of source 10. -/
  | faultInRelease
  /-- FUSE_PROGRAM (R647). SEC_FPROG.GO starts blowing a security fuse field if its condition holds. -/
  | fuseProgram (req : Req) (v : Word)
  /-- FUSE_PROGRAM_DONE (R647). Fuse programming ends within 10 ms. -/
  | fuseProgramDone
  /-- TOKEN_CHECK (R650). SEC_TOK_CTRL.GO checks a token and replaces the nonce. -/
  | tokenCheck (req : Req) (op : BitVec 5)
  /-- TOKEN_EXPIRE (R650). A valid token's authorisation lapses after 1 s. -/
  | tokenExpire
  /-- IMAGE_LOAD (R652). SEC_LD_CTRL.GO starts the loader on an engine image staged in DDR. -/
  | imageLoad (req : Req) (e : Fin 16)
  /-- IMAGE_LOAD_DONE (R652). A load ends in success with VERIFIED and a measurement, or in failure with source 100. -/
  | imageLoadDone (ddrError : Bool)
  /-- PROVISION (R659). GEO_CMD.PROVISION draws a new KEK and device key pair and queues a KEY record. -/
  | provision (req : Req)
  /-- GEO_UNLOCK (R660). GEO_CMD.UNLOCK after a valid UNLOCK token clears REG_LOCK. -/
  | geoUnlock (req : Req)
  /-- CLASSC (R656). GEO_CMD.CLASSC raises a software class C tamper event. -/
  | classc (req : Req)
  /-- TAMPER_SAMPLE (R59). At each tamper sample the meshes, switches and die temperature are checked. -/
  | tamperSample (mesh : BitVec 8) (switches : BitVec 4) (dieTemp : BitVec 16)
  /-- VBAT_LOW (R656). VBAT below 1.9 V on vault power is a class B tamper event. -/
  | vbatLow
  /-- XTAL_STOP (R656). The 32.768 kHz oscillator stopped for 1 ms is a class B tamper event. -/
  | xtalStop
  /-- LEDGER_OPEN (R672). LG_CTRL.OPEN opens the ledger and appends BOOT, KEY, IMAGE and TAMPER records. -/
  | ledgerOpen (req : Req)
  /-- LEDGER_CLOSE (R674). LG_CTRL.CLOSE appends CLOSE and closes the ledger, unless refused. -/
  | ledgerClose (req : Req)
  /-- LEDGER_ACCEPT (R662). The ledger accepts a waiting record into the chain with counter, stamp and PREV. -/
  | ledgerAccept
  /-- CP_SIG (R663). The checkpoint signature completes and CP_SIG is accepted, raising event 4. -/
  | cpSig
  /-- LEDGER_SEND (R670). A buffered record is written to the host ring with an MSI-X event and LG_TAIL advances. -/
  | ledgerSend
  /-- LG_RING_HI_WRITE (R670). A write of LG_RING_HI while closed sets the ring and returns LG_TAIL and LG_HEAD to 0. -/
  | lgRingHiWrite (req : Req) (v : Word)
  /-- SUPPLY_AUTH (R680). Authentication of an ink supply channel starts with HELLO. -/
  | supplyAuth (n : Fin 16)
  /-- SUPPLY_RESPONSE (R678). A supply's I2C response arrives and is verified, advancing authentication or a decrement. -/
  | supplyResponse (n : Fin 16) (bytes : List Byte)
  /-- SUPPLY_BUSY_RETRY (R678). After BUSY the response read is repeated every 1 ms for at most 50 ms. -/
  | supplyBusyRetry (n : Fin 16)
  /-- SUPPLY_REAUTH (R681). Every REAUTH seconds a channel authenticates again. -/
  | supplyReauth (n : Fin 16)
  /-- SUPPLY_TIMEOUT (R681). A NACK, CRC error or timeout ends a transaction; three in a row disconnect the channel. -/
  | supplyTimeout (n : Fin 16)
  /-- SUPPLY_DECREMENT (R683). Every INTERVAL ms a DECREMENT is sent for the accumulated ink. -/
  | supplyDecrement (n : Fin 16)
  /-- SELF_TEST (R686). Known-answer crypto tests run after reset, and a failure raises source 105. -/
  | selfTest (ok : Bool)
  /-- ENTROPY_TEST_FAIL (R686). The continuous entropy test fails and sets SELFTEST_FAIL. -/
  | entropyTestFail
  /-- TWIN_ENABLE (R690). Setting TWIN_CFG.EN enters PAIRING if keys, DDR and stopped domains allow. -/
  | twinEnable (req : Req)
  /-- TWIN_SWITCH (R693). SWITCH hands the PRIMARY role to a STANDBY with both twins idle. -/
  | twinSwitch (req : Req)
  /-- TWIN_REJOIN (R705). REJOIN leaves ISOLATED for PAIRING while the link is up. -/
  | twinRejoin (req : Req)
  /-- BASALT_CAP_RX (R694). A Basalt CAP frame drives per-lane negotiation. -/
  | basaltCapRx (i : Fin 2) (payload : List Byte)
  /-- HELLO_RX (R696). A HELLO nonce arrives and the session key is derived. `i` is the lane it comes on. -/
  | helloRx (nonce : List Byte) (i : Fin 2 := 0)
  /-- AUTH_RX (R696). A peer AUTH signature is verified and the session set up, or source 117 raised. `i` is the lane
  it comes on. -/
  | authRx (payload : List Byte) (i : Fin 2 := 0)
  /-- BASALT_RENEG (R696). After a failed authentication the lane renegotiates 10 ms later. -/
  | basaltReneg (i : Fin 2)
  /-- HEARTBEAT_TX (R698). Every 50 us HB is sent on every UP lane and QW_OUT[0] toggles. -/
  | heartbeatTx
  /-- HB_RX (R698). A valid encrypted HB arrives as a heartbeat with the peer's role, leases and acknowledgements. `q` is what
  the AON island has sampled of the quorum inputs. -/
  | hbRx (i : Fin 2) (payload : List Byte) (q : Quorum := {})
  /-- MIRROR_RX (R702). A MIRROR frame delivers boundary, ledger and nozzle entries to the STANDBY. -/
  | mirrorRx (i : Fin 2) (payload : List Byte)
  /-- CSIGN_RX (R706). A CSIGN arrives and the PRIMARY appends a COUNTERSIGN record. -/
  | csignRx (i : Fin 2) (payload : List Byte)
  /-- ROLE_RX (R693). A ROLE frame announces the peer's new role. -/
  | roleRx (i : Fin 2) (payload : List Byte)
  /-- HEARTBEAT_LOSS (R707). No heartbeat for 1 ms: a STANDBY takes over, waits or isolates by the quorum. -/
  | heartbeatLoss (q : Quorum := {})
  /-- QUORUM_SILENT (R699). QW_IN[0] unchanged for 1 ms makes the peer silent on the quorum. `q` is what the AON island has sampled. -/
  | quorumSilent (q : Quorum := {})
  /-- TAKEOVER_DECIDE (R707). The 100 us allowance after heartbeat loss ends and the STANDBY isolates if the peer is still alive. -/
  | takeoverDecide (q : Quorum := {})
  /-- LEASE_WAIT_EXPIRE (R709). LEASE_WAIT passes without every lease and the twin yields. -/
  | leaseWaitExpire
  /-- MIRROR_ACK_TIMEOUT (R700). A mirror entry unacknowledged for 200 us raises source 118. -/
  | mirrorAckTimeout
  /-- QUORUM_MISMATCH (R699). Quorum wires and heartbeats disagreeing for 200 us raise source 119. `q` is what the AON island has sampled. -/
  | quorumMismatch (q : Quorum := {})
  /-- DEBUG_UNLOCK (R714). DBG_CTRL.UNLOCK unlocks debug, requiring a valid DEBUG token on a regulated part. -/
  | debugUnlock (req : Req)
  /-- DEBUG_LOCK (R715). DBG_CTRL.LOCK locks debug and clears BENCH. -/
  | debugLock (req : Req)
  /-- BENCH (R717). Setting BENCH enables bench mode while debug is unlocked. -/
  | bench (req : Req)
  /-- FREEZE (R718). DBG_CTRL.FREEZE requests an Obsidian freeze. -/
  | freeze (req : Req)
  /-- FREEZE_PIN (R719). FREEZE_N accepted low stamps DBG_FRZ_TB, drives EN, PWM and REJ low and freezes the islands. -/
  | freezePin (stops : List (BitVec 7))
  /-- DEBUG_RESUME (R726). RESUME ends a bench-mode freeze, restarting islands with outputs disabled. -/
  | debugResume (req : Req)
  /-- DBGACC (R723). The JTAG DBGACC instruction makes 32-bit reads and writes through the debug port. -/
  | dbgacc (write : Bool) (addr : Nat) (v : Word)
  /-- MWIN_DATA_READ (R724). A read of DBG_MWIN_DATA returns 4 bytes of SRAM and advances ADDR. -/
  | mwinDataRead (req : Req)
  /-- MWIN_DATA_WRITE (R724). A write of DBG_MWIN_DATA is applied only in bench mode. -/
  | mwinDataWrite (req : Req) (v : Word)
  /-- SCANOUT (R725). SCANOUT shifts out and rotates back an island's scan chain while frozen. -/
  | scanout
  /-- EXTEST (R728). Boundary-scan EXTEST, available unlocked with RESET_N low or frozen. `tdi` are the bits shifted in, none for no shift. -/
  | extest (tdi : List Bool := [])
  /-- SAMPLE_PRELOAD (R728). Boundary-scan SAMPLE/PRELOAD. `tdi` are the bits shifted in, none for no shift. -/
  | samplePreload (tdi : List Bool := [])
  /-- IDCODE (R728). Shift out IDCODE 0x1644_8967. -/
  | idcode
  /-- CLAMP (R728). Boundary-scan CLAMP under the EXTEST condition. -/
  | clamp
  /-- HIGHZ (R728). Boundary-scan HIGHZ under the EXTEST condition. -/
  | highz
  /-- BYPASS (R728). Select the bypass register, also for unlisted or unavailable codes. -/
  | bypass
  /-- AON_ISLAND_RUNS (R46). Once VDD_IO33 is in range and the AON island runs, it drives the reset state of Table 2.4 and starts holding ERR_N
  low. -/
  | aonIslandRuns
  /-- RAIL_RETURN (R56). A rail that had left its monitor window returns within it, so SYS_RAIL_STAT shows it in range and the LIVE status of level
  source 0 falls, possibly setting TRANSIENT. -/
  | railReturn (rail : Fin 9)
  /-- CLOCK_RETURN (R617). SYSCLK_IN returns or the core PLL regains lock, and the LIVE status of level source 5 falls, so a RESUME can be
  accepted. -/
  | clockReturn
  /-- LOCAL_GATE_WINDOW (R494). The dark or test window of a local-gate lane ends and the controller applies R466, R468 and R469 to the local ADC
  samples to classify the test fire or collect dark statistics. -/
  | localGateWindow (g : Fin 4) (test : Bool) (samples : List (List (BitVec 12)))
deriving DecidableEq, Repr

end Sys2Proof
end

