-- ==== Sys2Proof/Decode.lean ====
section
/-!
DEFINITION. Decode.lean: the command a word spells by the table's bits. spec/opcode_table.json gives no row bits: the block is commanded by
register accesses, bus transactions, pins and events, and no word spells one.
-/

namespace Sys2Proof

/-- The command a word of `nbits` bits spells: none, for no row of the table gives bits. -/
def decodeTableWord (_nbits _w : Nat) : Option Instr := none

end Sys2Proof
end

