-- ==== Sys2Proof/Config.lean ====
section
/-!
DEFINITION. Config.lean: what the manual leaves open or takes from outside, as constants with no body: nothing can be proved of their
values, so what is proved holds whatever they are.
-/

namespace Sys2Proof

/-- Free words: draws of the DRBG, contents of scan chains and every other value the manual does not give (log 2). -/
opaque Config.freeWord : Nat → Word

/-- Length in bits of the scan chain of an island (R725); the chain maps are issued apart from the manual. -/
opaque Config.scanLen : Nat → Word

/-- The bits a scan chain holds, by draw, island and place (R725); with 32 for the island, the levels captured at the balls (R728). -/
opaque Config.scanBit : Nat → Nat → Nat → Bool

/-- Length in bits of the boundary register (R728); its map is issued apart from the manual. -/
opaque Config.boundaryLen : Nat

/-- What the boundary register drives on a ball it covers, by its bits and the ball; none where it does not drive it (R728). -/
opaque Config.boundaryCell : List Bool → Nat → Option Bool

/-- The P-384 public key, in its 97-byte form, of a private key of 48 bytes (R658, R659). The manual names the curve. -/
opaque Config.pubKey384 : List Byte → List Byte

/-- ECDSA P-384 verification (R649, R188): public key, message hash, signature r then s. The manual names the standard. -/
opaque Config.verify384 : List Byte → List Byte → List Byte → Bool

/-- ECDSA P-384 signature under the device key or twin key whose public key is given (R663, R696); `n` draws its nonce. -/
opaque Config.sign384 : Nat → List Byte → List Byte → List Byte

/-- ECDSA P-256 verification (R679, R680): public key, message hash, signature. -/
opaque Config.verify256 : List Byte → List Byte → List Byte → Bool

/-- The key stream of AES-256-GCM: key, IV and place of the byte (R658, R697). The manual names the standard. -/
opaque Config.gcmStream : List Byte → List Byte → Nat → Byte

/-- The tag of AES-256-GCM: key, IV, additional data and ciphertext (R658, R697). -/
opaque Config.gcmTag : List Byte → List Byte → List Byte → List Byte → List Byte

/-- The peer's TWIN_CFG.PREFER, which R692 compares and no frame of Table 19.2 carries. -/
opaque Config.peerPrefer : Bool

end Sys2Proof
end

