-- ==== Sys2Proof/Machine/Bytes.lean ====
section
/-!
DEFINITION. Bytes.lean: bits of numbers, signed values and their saturation, and little-endian bytes.
-/

namespace Sys2Proof.Machine

/-! Numbers -/

/-- Bits hi:lo of a number. -/
def bits (n hi lo : Nat) : Nat := n / 2 ^ lo % 2 ^ (hi + 1 - lo)

/-- Bit i of a number. -/
def bitAt (n i : Nat) : Bool := n / 2 ^ i % 2 = 1

/-- A number's bits as a two's complement value of width w. -/
def toSigned (w n : Nat) : Int :=
  let m := n % 2 ^ w
  if m < 2 ^ (w - 1) then (m : Int) else (m : Int) - (2 ^ w : Nat)

/-- The w-bit two's complement pattern of an integer. -/
def ofSigned (w : Nat) (i : Int) : Nat := (i % ((2 ^ w : Nat) : Int)).toNat

/-- Saturation to a signed width. -/
def satS (w : Nat) (i : Int) : Int :=
  let hi : Int := (2 ^ (w - 1) : Nat)
  if i < -hi then -hi else if hi - 1 < i then hi - 1 else i

/-- Division rounding down ("asr", and div of a non-negative dividend). -/
def asr (i : Int) (n : Nat) : Int := i / ((2 ^ n : Nat) : Int)

/-- Division truncating toward zero. -/
def tdiv (a b : Int) : Int := Int.tdiv a b

/-- The integers i with bit i of n set, below w. -/
def bitsSet (n w : Nat) : List Nat := (List.range w).filter (bitAt n)

/-- A Bool as a bit. -/
def b2n (b : Bool) : Nat := if b then 1 else 0

/-! Bytes -/

/-- A number's little-endian bytes. -/
def leBytes : Nat → Nat → List Byte
  | 0, _ => []
  | n + 1, v => BitVec.ofNat 8 v :: leBytes n (v / 256)

/-- The number of little-endian bytes. -/
def ofLe : List Byte → Nat
  | [] => 0
  | b :: bs => b.toNat + 256 * ofLe bs

/-- Field of a byte layout: `len` bytes at `off`, little-endian; bytes past the end read 0. -/
def leAt (bs : List Byte) (off len : Nat) : Nat := ofLe ((bs.drop off).take len)

/-- `len` bytes at `off`, padded with 0. -/
def slice (bs : List Byte) (off len : Nat) : List Byte :=
  let t := (bs.drop off).take len
  t ++ List.replicate (len - t.length) 0

/-- Are all these bytes 0? -/
def allZero (bs : List Byte) : Bool := bs.all (· = 0)

/-- Zero bytes. -/
def zeros (n : Nat) : List Byte := List.replicate n 0

end Sys2Proof.Machine
end

