-- ==== Sys2Proof/Machine/State.lean ====
section
/-!
DEFINITION. State.lean: everything the spec gives the machine, as plain data. Arrays of like units and register files are
lists of (key, value) pairs in one canonical form (Machine/Map.lean): an unlisted key reads as the value after reset.
-/

namespace Sys2Proof.Machine

/-- The reasons a step could stop the machine. The spec gives every command of this block an effect, so no meaning raises one. -/
inductive Fault where
  /-- Raised by no meaning: kept so that the type is not empty. Safe. -/
  | unused
deriving DecidableEq, Repr

/-- The reasons a command could be refused by the model. -/
inductive Refusal where
  /-- Raised by Dispatch for a command that has no meaning yet. Safe. -/
  | notModelled (mnemonic : String)
deriving DecidableEq, Repr

/-- Attributes of a request or message: a 64-bit address header, Relaxed Ordering, No Snoop (R235, R236), and of a read request the width of its tag
in bits (R233). -/
structure Attr where
  wide : Bool := false
  tag : Nat := 0
  ro : Bool := false
  ns : Bool := false
deriving DecidableEq, Repr

/-- What the part sends to the outside, each item as it leaves (State.out holds them, newest first). -/
inductive Out where
  /-- A posted memory write to host memory (R210, R670, R277). -/
  | hostWrite (addr : Nat) (bytes : List Byte) (attr : Attr)
  /-- A memory read request to host memory, with the number of bytes asked for. -/
  | hostRead (addr len : Nat) (attr : Attr)
  /-- An MSI-X message of a vector (R212, R251). -/
  | msix (vec : Nat) (attr : Attr)
  /-- An error message of AER: 0 correctable, 1 non-fatal, 2 fatal (R242). -/
  | pcieError (severity : Nat)
  /-- A completion of a request of the host, with data or without: status 0 successful, 1 Unsupported Request, 2 Configuration
  Request Retry, 4 Completer Abort, 8 successful with EP set (R91, R107, R237, R245, R246, R721). -/
  | completion (status : Nat) (bytes : List Byte)
  /-- A word answered to a register or DBG read. -/
  | readWord (req : Nat) (v : Word)
  /-- A frame on a head lane: its TYPE (Table 11.2) and payload. -/
  | frame (lane kind : Nat) (payload : List Byte)
  /-- A SYNC block (R433): LINE, slot and EPOCH. -/
  | sync (lane line phase epoch : Nat)
  /-- An ABORT block and its REASON (R439). -/
  | abort (lane reason : Nat)
  /-- A frame on a Basalt lane: its TYPE (Table 19.2) and payload. -/
  | basalt (lane kind : Nat) (payload : List Byte)
  /-- Step pulses of an axis: how many, and whether DIR is positive (R498). -/
  | step (axis count : Nat) (positive : Bool)
  /-- A quadrature step of an emulation output (R572). -/
  | emu (n : Nat) (forward : Bool)
  /-- An index pulse of an emulation output, its width in units of 10 ns (R573). -/
  | emuZ (n width : Nat)
  /-- An I2C write to a supply: bus, address and bytes (R678). -/
  | i2c (bus addr : Nat) (bytes : List Byte)
  /-- An I2C read from a supply: bus and address (R678). -/
  | i2cRead (bus addr : Nat)
  /-- A QSPI read of the boot ROM: command, address and how many bytes of it are sent, dummy clocks, bytes read (R83). -/
  | qspi (cmd addr addrBytes dummy len : Nat)
  /-- Bits shifted out of the JTAG port (R723, R725, R728). -/
  | jtag (bits : List Bool)
  /-- A PWM period: its length and its high time, in LOOP cycles (R585). -/
  | pwm (p period high : Nat)
  /-- A toggle of QW_OUT[i] (R698). -/
  | quorum (i : Nat)
  /-- The PCIe link begins training, or asks for L1 (R91, R240). -/
  | link (toL1 : Bool)
deriving DecidableEq, Repr

/-- A device store waiting in an engine's store buffer (R151): address and bytes. An aperture store's address is 2^32 plus its DDR
address; `nozzle` marks an NZST entry, whose address is the nozzle. -/
structure Posted where
  addr : Nat
  bytes : List Byte
  nozzle : Bool := false
deriving DecidableEq, Repr

/-- An engine (05_xaone_isa.md): registers, PC, CSRs, latches of its events, mailbox, store buffer, the instruction it is stalled in
and since when, and the FENCE.L mark. The watchdog has `wdog` ticks left at `wdogFrom` and counts while `wdogOn`; `timerDone` says
that TIMER has been reached; `stopAsked` that a STOP waits for a device load (R158); `parkTb` is when PARKED suspended it (R64);
`checked` that its image passed every check of R652, its signature among them (R95). -/
structure Engine where
  gpr : List (Nat × Word) := []
  pc : BitVec 16 := 0
  running : Bool := false
  halted : Bool := false
  haltCause : Nat := 0
  lastCause : Nat := 0
  suspended : Bool := false
  parkTb : Nat := 0
  startTb : Nat := 0
  status : Word := 0
  tvec : Word := 0
  tpc : Word := 0
  tcause : Word := 0
  tval : Word := 0
  tscratch : Word := 0
  wdogLoad : BitVec 16 := 0
  wdog : Nat := 0
  wdogFrom : Nat := 0
  wdogOn : Bool := false
  timer : BitVec 64 := 0xFFFFFFFFFFFFFFFF
  timerStage : Word := 0
  timerDone : Bool := false
  pendingEv : BitVec 256 := 0
  mailbox : List DWord := []
  storeBuf : List Posted := []
  stall : Option Instr := none
  stallAt : Nat := 0
  fenceMark : Nat := 0
  stopAsked : Bool := false
  trapVector : Word := 0
  apBase : Nat := 0
  checked : Bool := false
deriving DecidableEq, Repr

/-- Where an item stands (Table 1.6); a delivered or withdrawn item leaves the table. -/
inductive Stage where
  | queued | printing | verifying | decided
deriving DecidableEq, Repr

/-- A recorded cause (Table 18.10): its code, its stamp, and whether it spoils. -/
structure Cause where
  code : Nat
  stamp : Nat
  spoils : Bool
deriving DecidableEq, Repr

/-- An item in the item table (R201, Table 6.2, R34, R490). `raster` holds what the ring held of each stream line at its take-up, `prints` the issued
lines that are PRINT lines of the item, counted from START (R669). `windowed` says that its reject window has started (R538), `late` that its outcome
became final there (R35); `outside` lists the lines taken with the lanes that their LANE_MASK leaves out (Table 6.5); `kept` is the counter of a
mirrored ITEM record whose outcome it keeps (R708, Table 19.4). -/
structure Item where
  id : Nat
  serial : Nat
  lines : Nat
  gap : Nat
  regulated : Bool
  reject : Nat
  dcd : Nat
  queue : Nat
  slot : Nat
  index : Nat
  tag : Word
  pipeMask : BitVec 8
  blank : Bool
  ovsPolicy : Nat
  replay : Bool
  parity : Bool := false
  stage : Stage := .queued
  causes : List Cause := []
  result : Option Nat := none
  recorded : Bool := false
  late : Bool := false
  windowed : Bool := false
  kept : Option Nat := none
  allBlank : Bool := false
  lineOf : Option Nat := none
  lastLine : Option Nat := none
  taken : List (Nat × Nat) := []
  outside : List (Nat × Nat) := []
  donePipes : BitVec 8 := 0
  raster : List (Nat × Nat × List Byte) := []
  prints : List Nat := []
  events : List Byte := []
  eventCount : Nat := 0
  lost : Nat := 0
  printed : List Nat := []
  judged : List (Nat × Nat × Nat) := []
  shortTest : Bool := false
  invalidTest : Bool := false
  suspect : Bool := false
deriving DecidableEq, Repr

/-- A job in an inbox slot (R195, R207 to R209). -/
structure Job where
  queue : Nat
  slot : Nat
  tag : Word
  count : Nat
  dcd : Nat
  pipeMask : BitVec 8
  blank : Bool
  replay : Bool
  replayOut : Nat
  refuse : Nat := 0
  done : Bool := false
  aborted : Bool := false
  written : Bool := false
  released : Bool := false
  accepted : Nat := 0
  spoiled : Nat := 0
  suspect : Nat := 0
  partialCount : Nat := 0
  withdrawn : Nat := 0
  finished : Nat := 0
  ledgerFirst : Nat := 0
  stalled : Bool := false
  replayEvents : List (Nat × Nat × DWord) := []
deriving DecidableEq, Repr

/-- An item record of a replay job on its way to REPLAY_OUT: its job, when it came about, its host address and its bytes (R229). -/
structure ReplayWrite where
  queue : Nat
  slot : Nat
  tb : Nat
  addr : Nat
  bytes : List Byte
deriving DecidableEq, Repr

/-- Intake of one queue (R199): the step it has reached, what it has read, and of the item array or of a replay job's event stream the
bytes asked for and those that have come. -/
inductive Intake where
  | idle
  | readDesc
  | waitRoom (desc : List Byte)
  | readItems (desc : List Byte) (asked : Nat) (got : List Byte)
  | readStream (desc items : List Byte) (asked : Nat) (got : List Byte)
deriving DecidableEq, Repr

/-- A line descriptor in a pipeline's line-issue queue, with its number in the order of issue (R174, R221). -/
structure LineDesc where
  seq : Nat
  bytes : List Byte
deriving DecidableEq, Repr

/-- A line taken by a pipeline and not yet fired or spoiled (R221, R367). -/
structure TakenLine where
  seq : Nat
  pipe : Nat
  dcd : Nat
  line : Nat
  kind : Nat
  item : Option Nat
  mask : BitVec 8
  first : Bool
  last : Bool
deriving DecidableEq, Repr

/-- Negotiation phase of a head lane or Basalt lane (R425 to R430, R694). -/
inductive NegPhase where
  | off | caps | selecting | switching | echoing | up | failed
deriving DecidableEq, Repr

/-- What the width equation uses for a slice, as it stood at take-up (R383): the committed head set, FH_KTCFG, the values
derived from the last SENSE and rise update, and the lane's SCAN_W where CAL_SCAN is enabled (R604). -/
structure Energy where
  wBase : Word
  wLim : Word
  pre : Word
  ktcfg : Word
  kv : Nat
  points : List Nat
  ts : List Int
  slopes : List Int
  rises : List Nat
  scan : Option Nat
deriving DecidableEq, Repr

/-- What the stages make of a slice: the level each decision fires, what each column's dot chose (a decision, or none where
it is split or lost), raises, counts, the nozzles read with an entry error, and the SUBST fields ignored. -/
structure Dots where
  fire : List (Nat × Nat) := []
  chosen : List (Nat × Option Nat) := []
  raises : List Nat := []
  redirect : Nat := 0
  rowfall : Nat := 0
  split : Nat := 0
  lost : Nat := 0
  suppressed : Nat := 0
  errors : List Nat := []
  badSubst : Nat := 0
deriving DecidableEq, Repr

/-- A slice of a lane between take-up and its last SYNC (R308, R311, R431 to R433). `test` lists the decision index and the
gate section of each test fire. `dots` and `fire` are what the nozzle table as it stood at take-up makes of it: its dots, and the drop count and
the TRIM of each decision that fires (R312). -/
structure Slice where
  line : Nat
  period : Nat
  bcount : Nat
  kind : Nat
  item : Option Nat
  blank : Bool
  stream : Option Nat
  data : List Byte
  rline : Nat
  pass : Option (Nat × Nat)
  mask : Nat
  testLine : Bool
  test : List (Nat × Nat)
  replay : Bool
  leased : Bool
  energy : Energy
  dots : Dots := {}
  fire : List (Nat × Nat) := []
  trims : List (Nat × Nat) := []
  handed : Bool := false
  decisions : List Nat := []
  framed : Nat := 0
  framesDone : Bool := false
  syncs : Nat := 0
deriving DecidableEq, Repr

/-- What a CTRL request is for: software's access, read or write (R459), the dark window of a gap, or its new gate levels
and the line they apply from (R477). -/
inductive CtrlUse where
  | cxRead | cxWrite | window | levels | apply
deriving DecidableEq, Repr

/-- A CTRL request outstanding on a lane: its TAG, when sent, and what it is for (R459, R477). -/
structure Ctrl where
  tag : Nat
  sentAt : Nat
  use : CtrlUse
deriving DecidableEq, Repr

/-- A head lane (11_head_lanes.md): negotiation with the bridge's own masks (`peerCap`, R428), lease with the last REQUEST and RENEW (R448), when
it was granted (R462) and whether it was lost (R704), slices in flight and CTRL requests. -/
structure Lane where
  phase : NegPhase := .off
  startedAt : Nat := 0
  lost : Bool := false
  lastCap : List Byte := []
  peerCap : List Byte := []
  capSame : Nat := 0
  sel : List Byte := []
  rate : Nat := 0
  switchAt : Nat := 0
  leaseAt : Option Nat := none
  lastAsk : Option Nat := none
  denyAt : Option Nat := none
  requestAt : Option Nat := none
  renewAt : Option Nat := none
  leaseLost : Bool := false
  grantAt : Option Nat := none
  slices : List Slice := []
  ctrl : List Ctrl := []
  ctrlTag : Nat := 0
  lastSense : Nat := 0xFFFFFFFF
  heldFirst : Bool := false
deriving DecidableEq, Repr

/-- The plan of a lane's present gap (R470, R475 to R478): settings as taken at its first line, RAW frames as received, and
how far the new levels are: `levels` waits for the slot-0 SYNC of the first test line (R468), `confirms` counts the answers. `replay` marks a
plan of which a replay job re-makes the duty counts only (R227, R231), `ended` one whose test phase is over (R473). -/
structure Gap where
  item : Nat
  g : Nat
  clear : Nat
  dark : Nat
  settle : Nat
  m : Nat
  n : Nat
  det : Word
  win : Word
  cls : Word
  darkFrom : Nat
  testFrom : Nat
  raws : List (Nat × Nat × List Nat) := []
  judged : Bool := false
  levels : List Nat := []
  confirms : Nat := 0
  unconfirmed : Bool := false
  ended : Bool := false
  replay : Bool := false
deriving DecidableEq, Repr

/-- A test line whose classes are not final (R479, R481): its dot period, item, and the nozzles fired with their sections. -/
structure TestLine where
  period : Nat
  item : Nat
  fired : List (Nat × Nat)
  inhibited : Bool
  noThr : Bool
deriving DecidableEq, Repr

/-- Verification of a lane. `fired` holds the two fired bits of each nozzle (R488), bit 0 for even item parity. -/
structure VLane where
  gap : Option Gap := none
  tests : List TestLine := []
  fired : List (Nat × Nat) := []
deriving DecidableEq, Repr

/-- A hold and when it has effect (R483 to R487): from a domain's boundary count on, until another if released. -/
structure Hold where
  nozzle : Nat
  since : Nat
  until_ : Option Nat
deriving DecidableEq, Repr

/-- A feedback channel beyond its registers (14_position_feedback.md). Distances are in 2^-32 counts; `off` is what an
FB_POS write added to the cycle count, `detectAt` when the next detection attempt may end (R554), `corr` a correction that the sample after
the index is to make, with the time of the index (R565). -/
structure Channel where
  levA : Bool := false
  levB : Bool := false
  cyc : Int := 0
  off : Int := 0
  angle : Option Nat := none
  stamp : Nat := 0
  edges : Nat := 0
  dx : Int := 0
  tau : Nat := 0
  sign : Int := 0
  errs : List Nat := []
  outRun : Nat := 0
  inRun : Nat := 0
  detecting : Bool := false
  attempts : Nat := 0
  detectAt : Nat := 0
  corr : Option (Int × Nat) := none
  goodAmp : Nat × Nat := (4096, 12288)
deriving DecidableEq, Repr

/-- The active set of a compare unit (R566, R569): NEXT in 2^-32 counts, PITCH 32.32. -/
structure Cmp where
  next : Int := 0
  pitch : Nat := 0x100000000
deriving DecidableEq, Repr

/-- An emulation output (R571 to R573): the source position at EN, the emitted count, when it last stepped, and whether the
lag limit is exceeded. -/
structure Emu where
  x0 : Int := 0
  emitted : Int := 0
  lastStep : Nat := 0
  behind : Bool := false
deriving DecidableEq, Repr

/-- How a stopping axis ramps (Table 13.1). -/
inductive Ramp where
  | none | stop | quick
deriving DecidableEq, Repr

/-- Homing phases (Table 13.2); each motion phase ends in a ramp stop. -/
inductive Homing where
  | none | fast | fastTurn | backStop | backOff | backRamp | slow | slowRamp
deriving DecidableEq, Repr

/-- A motion axis: what 13_motion.md gives it beyond its registers. Speeds are in 2^-32 counts per tick; `dir` is the level
of DIR; `limP`, `limN` and `home` are the qualified levels of the balls LIMP, LIMN and HOME, and `limPAt`, `limNAt` and `homeAt` since when
each ball stands at the other level (R503, R517, R521); `homeRaw` is the position at the raw edge of HOME. `move` is when and how far the
last tick moved the axis, `seek` says that it moves to MOT_TARGET (R508), `reached` holds the ceiling under which MOT_VEL was reached
(R512). `loaded` says that the position was loaded, `stalled` that the stall check has tripped (R513, R514). `gearRem` over `gearRemDen` is
the remainder of a gear (R529), `gearMet` says that its master met GAT since the last tick (R530, R539). -/
structure Axis where
  frac : Nat := 0
  v : Int := 0
  move : Nat × Int := (0, 0)
  seek : Bool := false
  ramp : Ramp := .none
  moving : Bool := false
  homing : Homing := .none
  homeNeg : Bool := false
  homeTurned : Bool := false
  backFrom : Option Int := none
  homeToggles : List Nat := []
  x0 : Int := 0
  p0 : Int := 0
  loaded : Bool := false
  devTicks : Nat := 0
  stalled : Bool := false
  geared : Bool := false
  gearNum : Int := 1
  gearDen : Nat := 1
  gearRem : Int := 0
  gearRemDen : Nat := 1
  gearMet : Bool := false
  gearPrev : Int := 0
  deficit : Int := 0
  holdD : Option (Nat × Nat) := none
  reached : Option Nat := none
  finishing : Bool := false
  goodPair : Nat × Nat × Nat × Nat := (0, 0, 0, 0)
  goodRate : Nat × Nat := (0, 10)
  dir : Bool := false
  limP : Bool := false
  limPAt : Option Nat := none
  limN : Bool := false
  limNAt : Option Nat := none
  home : Bool := false
  homeAt : Option Nat := none
  homeRaw : Int := 0
deriving DecidableEq, Repr

/-- An interpolation group on its path (R526): s and v in 2^-32 counts, the members' starts and deltas. -/
structure Group where
  active : Bool := false
  lead : Nat := 0
  s : Int := 0
  v : Int := 0
  length : Nat := 0
  parts : List (Nat × Int × Int) := []
  ramp : Ramp := .none
  restart : Bool := false
  finishing : Bool := false
  holdD : Option (Nat × Nat) := none
deriving DecidableEq, Repr

/-- An item queued on a reject station, or one that could not be queued (R535). The reference is taken at the boundary of
`refLine` where the item entered PRINTING before it. -/
structure RejEntry where
  item : Nat
  ref : Option Int
  refLine : Nat
  dist : Int
  len : Int
  opened : Bool := false
  high : Bool := false
  queued : Bool := true
deriving DecidableEq, Repr

/-- A reject station (R534 to R538). -/
structure Reject where
  entries : List RejEntry := []
  high : Bool := false
deriving DecidableEq, Repr

/-- A trace unit's ring (R591 to R594): meas, e, u, y of each entry by index, and its progress. -/
structure Trace where
  ring : List (Nat × (Word × Word × Word × Word)) := []
  index : Nat := 0
  skip : Nat := 0
  post : Option Nat := none
  prev : Option (Word × Word × Word × Word) := none
deriving DecidableEq, Repr

/-- A record waiting for the ledger: TYPE, AUX, SOURCE, body, and the item whose record it is. -/
structure Rec where
  kind : Nat
  aux : Nat
  source : Nat
  body : List Byte
  item : Option Nat := none
deriving DecidableEq, Repr

/-- The print ledger (R661 to R676). `buffer` holds each buffered record with the chain value after it, `signing` the counter and
bytes of each CP_HASH whose signature is not accepted yet, `keyDue` the DEVKEY slot and body of each KEY record the chain does not hold
yet, which stay through a reset (R673). `tested` says that the known-answer tests have run since the reset, `openWaits` that an OPEN waits for
them (R686). -/
structure Ledger where
  tested : Bool := false
  openWaits : Bool := false
  isOpen : Bool := false
  opened : Bool := false
  closing : Bool := false
  h : List Byte := List.replicate 48 0
  buffer : List (List Byte × List Byte) := []
  own : List Rec := []
  nozzle : List (List Byte) := []
  signing : List (Nat × List Byte) := []
  markFail : Bool := false
  keyDue : List (Nat × List Byte) := []
deriving DecidableEq, Repr

/-- An entry of the vault log (R656, R657); `appended` once the chain holds its record. -/
structure TamperEntry where
  monitor : Nat
  actions : Nat
  count : Nat
  stamp : Nat
  appended : Bool := false
deriving DecidableEq, Repr

/-- The Geode's volatile storage (R654) and vault supply (R58 to R60). `count` is the 48-bit count of its
clock as it stood at TIMEBASE `countAt`, `countRem` the part of a clock then passed, in 390,625ths; `waiting`
lists the fault sources of events detected while the main rails are off or held in reset, which wait for them (R657). `told` says that
a BOOT record has told the loss of the vault's state, `floors` holds the LG_SERIAL_FLOOR in force since that OPEN (R203, R675). -/
structure Geode where
  kek : Option (BitVec 256) := none
  next : Nat := 1
  sent : Nat := 0
  hSent : List Byte := List.replicate 48 0
  lastSerial : List (Nat × Nat) := []
  regLock : Bool := false
  log : List TamperEntry := []
  overflow : Nat := 0
  count : Nat := 0
  countRem : Nat := 0
  countAt : Nat := 0
  lost : Bool := false
  told : Bool := false
  floors : List (Nat × Nat) := []
  kekLost : Bool := false
  active : BitVec 12 := 0
  psk : Option (List Byte) := none
  onVbat : Bool := false
  vbatLow : Bool := false
  waiting : List Nat := []
deriving DecidableEq, Repr

/-- The security fuses (Table 18.1). KEY_HASH and DEVKEY, of 80 bytes, are by slot. -/
structure Fuses where
  regulated : Bool := false
  revoke : BitVec 4 := 0
  tamperUnused : BitVec 6 := 0
  policy : List (Nat × BitVec 4) := []
  rollback : Nat := 0
  hwm : Nat := 0
  devkeyUsed : BitVec 4 := 0
  devkey : List (Nat × List Byte) := []
  subsys : Word := 0
  dsn : DWord := 0
  keyHash : List (Nat × List Byte) := []
  supplyRoot : List Byte := []
deriving DecidableEq, Repr

/-- Where a supply channel's transaction stands (R678 to R684). -/
inductive SupplyPhase where
  | idle | hello | select | cert | challenge | decrement | resync
deriving DecidableEq, Repr

/-- An ink supply channel beyond its registers. `reauth` says that a re-authentication waits for the decrement due before it (R687). -/
structure Supply where
  phase : SupplyPhase := .idle
  nonce : List Byte := []
  ink : Byte := 0
  pubkey : List Byte := []
  amount : Nat := 0
  busySince : Option Nat := none
  busyAt : Nat := 0
  fails : Nat := 0
  decrFails : Nat := 0
  needSync : Bool := false
  authAt : Nat := 0
  spentAt : Option Nat := none
  reauth : Bool := false
deriving DecidableEq, Repr

/-- A measured image waiting for its IMAGE record (R653). -/
structure Measured where
  engine : Nat
  body : List Byte
deriving DecidableEq, Repr

/-- A dot-clock domain beyond its registers (09_dot_clock.md): the active shadow set, counts of boundaries, the targets of
the last and the next boundary (64.32), the fixed-clock accumulator and the TIMEBASE it stands at, speed factors in 1.24. `replayTail` holds the
entries that replay jobs have left for lines still to come (R228). -/
structure Domain where
  pitch : Nat := 0x100000000
  freq : Nat := 257698
  trim : Int := 0
  start : Nat := 0
  made : Nat := 0
  bcount : Nat := 0
  target : Int := 0
  lastTarget : Int := 0
  step : Int := 0x100000000
  accum : Nat := 0
  accumAt : Nat := 0
  speed : Nat := 0x1000000
  speedTarget : Nat := 0x1000000
  speedDerate : Nat := 0x1000000
  derate : Bool := false
  quiet : Nat := 0
  blockBlank : Bool := false
  hold : Bool := false
  itemParity : Bool := false
  replayTail : List (Nat × Nat × DWord) := []
deriving DecidableEq, Repr

/-- A raster stream beyond its registers: CH_CONS when it was enabled, the stream lines CH_CONS has passed since, and the lines that every
lane, and that the lane with the least delay, had taken up or missed at the last boundary (R299, R302, RAS_FILL). `held` lists what the ring held
of an issued line at the take-up of the lane with the least delay, while a pipeline has still to take the line (R669). -/
structure Stream where
  base : Nat := 0
  passed : Nat := 0
  taken : Nat := 0
  begun : Nat := 0
  held : List (Nat × List Byte) := []
deriving DecidableEq, Repr

/-- What has become of a data request: it is outstanding, its bytes have come, or it has ended with an error (R276, R280). -/
inductive Arrival where
  | wait
  | data (bytes : List Byte)
  | lost
deriving DecidableEq, Repr

/-- A data request of a descriptor: its offset and length in the descriptor, and what has become of it (R276). -/
structure DataReq where
  off : Nat
  len : Nat
  st : Arrival := .wait
deriving DecidableEq, Repr

/-- A descriptor a channel has fetched and not written back (R257): its host address and bytes, whether its checks of R745 are
made, the ring count its span begins at, the bytes asked for, the requests not passed yet, the bytes moved in order (BYTES), the
bytes written to the target, those that came and wait for a whole unit, and its ERR. -/
structure Desc where
  addr : Nat
  bytes : List Byte
  begun : Bool := false
  span : Option Nat := none
  asked : Nat := 0
  reqs : List DataReq := []
  moved : Nat := 0
  filled : Nat := 0
  carry : List Byte := []
  err : Nat := 0
deriving DecidableEq, Repr

/-- Why a channel fetches nothing more: LAST (R261), a fetch error (R279), ABORT (R283), a reset or link loss (R285). -/
inductive DmaStop where
  | none | last | fetchError | abort | reset
deriving DecidableEq, Repr

/-- A DMA channel beyond its registers (07_host_dma.md R253 to R288): whether a chain runs, the address of the descriptor it fetches
next (CH_HEAD keeps the address of the first), whether it ended in ERROR, a fetch in
flight, why it fetches no more, WAIT_DESC, PAUSED, FLUSH, its descriptors, the ring count up to which bytes are asked for,
poisoned spans (count and length), the last good watermarks (R144), and CH_CFG and the ring's address as a reset of the function found
them: the ring goes on under them until they are written again (R75, R281). -/
structure Dma where
  active : Bool := false
  next : Nat := 0
  failed : Bool := false
  fetching : Bool := false
  stop : DmaStop := .none
  waitDesc : Bool := false
  paused : Bool := false
  flush : Bool := false
  descs : List Desc := []
  tail : Nat := 0
  spans : List (Nat × Nat) := []
  wm : Nat × Nat := (0, 255)
  keptCfg : Option Word := none
  keptRing : Option Nat := none
deriving DecidableEq, Repr

/-- A head beyond its registers (10_firing_energy.md): the active shadow set, the last good pairs of R144, the sense points in
force, the time of the last valid SENSE and how many temperatures it held, the drops handed over per zone since the last rise update. -/
structure Head where
  wBase : Word := 0x3200
  wLim : Word := 0x06400001
  pre : Word := 0
  vWin : Nat × Nat := (0, 0)
  tLim : Nat × Nat := (0x320, 0x3C0)
  duty : Nat × Nat := (1, 16)
  points : List Nat := [0]
  ts : List Int := [0]
  slopes : List Int := []
  senseAt : Option Nat := none
  heard : Nat := 1
  drops : List (Nat × Nat) := []
  clearing : Bool := false
  resumeFirst : Bool := false
deriving DecidableEq, Repr

/-- The PCIe function beyond its registers (07_host_dma.md R232 to R251): the controls it obeys, the other writable words of its
configuration space, and the AER registers with their masks and severities, which a function level reset leaves. `lostDue` and `backDue` say that
the link was lost, and that it came back, while the HOST island was frozen (R720, R721). -/
structure Pcie where
  msixEnable : Bool := false
  functionMask : Bool := false
  tag10 : Bool := false
  extTag : Bool := true
  maxPayload : Nat := 128
  maxRead : Nat := 512
  aspmL1 : Bool := false
  memSpace : Bool := false
  cfg : List (Nat × Word) := []
  aer : List (Nat × Word) := []
  lostDue : Bool := false
  backDue : Bool := false
deriving DecidableEq, Repr

/-- A Basalt lane (R694 to R697): negotiation, with the rates the peer has offered in it, and SEQ of each direction. `capSame` counts identical CAPs,
and once a mode is selected holds which halves of the echo have been exchanged: bit 0 sent, bit 1 received. -/
structure BasaltLane where
  phase : NegPhase := .off
  startedAt : Nat := 0
  lastCap : List Byte := []
  capSame : Nat := 0
  sel : List Byte := []
  rate : Nat := 0
  offered : Nat := 0
  switchAt : Nat := 0
  txSeq : Nat := 1
  rxSeq : Nat := 0
  renegAt : Option Nat := none
deriving DecidableEq, Repr

/-- Twin operation beyond its registers (19_twin.md). Times are TIMEBASE stamps. `mirrored` lists the ITEM records that have arrived, by domain and
serial. `qwAt` is when QW_IN[0] last changed, `csign` the counter of the last CP_HASH countersigned, `qwOut` holds the levels of QW_OUT[0] and
QW_OUT[1], `lostAt` when heartbeats were lost. `targets` holds the last mirrored next target of each domain and its stamp. -/
structure Twin where
  lanes : List (Nat × BasaltLane) := []
  nonce : List Byte := []
  peerNonce : List Byte := []
  key : Option (List Byte) := none
  hbAt : Nat := 0
  lostAt : Option Nat := none
  qwAt : Option Nat := none
  qwOut : Bool × Bool := (false, false)
  peerStates : List Nat := []
  mseq : Nat := 0
  unacked : List (Nat × Nat) := []
  rxMseq : Nat := 0
  mirrorH : Option (List Byte) := none
  mirrored : List (Nat × Nat × List Byte) := []
  csign : Option Nat := none
  targets : List (Nat × (Int × Nat)) := []
  enteredAt : Nat := 0
  sentAt : Option Nat := none
  remain : List (Nat × (Nat × Nat)) := []
  hSent : Bool := false
deriving DecidableEq, Repr

/-- Pins and power beyond the registers (02_package_power.md, 03_startup.md): TEST_EN, RESET_N and PERST_N as they stand, the
TIMEBASE of the first PERST_N release since RESET_N rose (R92), and whether the last reset was a power-on reset, so that the
fuse read selects a Quartz slot (R613); `aonRuns` says that the AON island runs (R46); `porHeld` that the reset
in progress is a power-on reset. `bootSel` and `twinSel` are the straps as last sampled, `strapsDue` says that RESET_N is to rise with
the next release, so that they are sampled then (R49). `parkAt` is the tick of a request for PARKED (R62); `clockOut` says that SYSCLK_IN or
the PLLs have failed and are not back (R617). -/
structure Power where
  testEn : Bool := false
  resetLow : Bool := false
  perstLow : Bool := true
  perstAt : Option Nat := none
  por : Bool := true
  aonRuns : Bool := true
  porHeld : Bool := false
  bootSel : Nat := 0
  twinSel : Bool := false
  strapsDue : Bool := true
  parkAt : Option Nat := none
  clockOut : Bool := false
deriving DecidableEq, Repr

/-- The boot ROM (R82): whether it has started, whether the fuses are read, and whether it is at the fallback image. -/
structure Boot where
  started : Bool := false
  fusesRead : Bool := false
  fallback : Bool := false
deriving DecidableEq, Repr

/-- A calibration run (R599 to R602): subject, instance, when GO was accepted, and of a SINCOS run the raw pairs collected
since cyc first changed, the direction and the whole cycles so far. -/
structure CalRun where
  subject : Nat
  inst : Nat
  since : Nat
  dir : Int := 0
  cycles : Nat := 0
  samples : List (Int × Int) := []
deriving DecidableEq, Repr

/-- An armed calibration set (R596, R606): its number, the engine that armed it or none for CAL_APPLY, and of a NOZZLE set the
boundary count of its lane's domain at the ARM. -/
structure CalArm where
  set : Nat
  engine : Option Nat
  since : Nat := 0
deriving DecidableEq, Repr

/-- The CAL block: the run in progress, the sets with a completed run, the armed sets, and the triggers whose run was refused (R609). -/
structure Cal where
  run : Option CalRun := none
  staged : List Nat := []
  armed : List CalArm := []
  retry : List Nat := []
deriving DecidableEq, Repr

/-- The Quartz store (R610): its blown bytes, the slot selected at power-on, and the slot being programmed. -/
structure Quartz where
  store : List (Nat × Byte) := []
  slot : Option Nat := none
  prog : Option Nat := none
deriving DecidableEq, Repr

/-- A load of the image loader in progress (R652). -/
structure Load where
  engine : Nat
  src : Nat
  len : Nat
deriving DecidableEq, Repr

/-- The SECURITY block: valid tokens not used yet (operation and when checked, R650), fuse fields being blown (FIELD, INDEX,
data, R647), the load in progress, and the measurements not yet in the ledger (R653). -/
structure Security where
  tokens : List (Nat × Nat) := []
  fprog : List (Nat × Nat × List Byte) := []
  load : Option Load := none
  measured : List Measured := []
deriving DecidableEq, Repr

/-- A 66-bit block of the line code before the scrambler: control or data, and its eight bytes (R417, R419). -/
structure Block where
  control : Bool
  bytes : List Byte
deriving DecidableEq, Repr

/-- The transmitter of a lane (R417, R422): the last 58 bits scrambled, bit 0 the last one sent, the blocks of a frame in progress
that are still to go, and of a FIRE frame its dot period (R432). -/
structure LineTx where
  scr : BitVec 58 := 0
  rest : List Block := []
  fire : Option Nat := none
deriving DecidableEq, Repr

/-- The receiver of a lane (R417, R419, R421): the bits of the block coming in, oldest first, the bits to slip, the counts of sync headers and
of invalid ones, the last 58 bits received, block lock, and of a frame in progress its header and data blocks. -/
structure LineRx where
  bits : List Bool := []
  skip : Nat := 0
  count : Nat := 0
  invalid : Nat := 0
  scr : BitVec 58 := 0
  locked : Bool := false
  header : Option (List Byte) := none
  data : List (List Byte) := []
deriving DecidableEq, Repr

/-- The state of the block: everything the spec names, and the queue of the commands waiting. `jtagIr` is the
instruction the TAP has selected, `bsr` what the boundary register holds (R728), `scanKey` the draw of the scan chains of a freeze (R725),
`poison` and `soft` list the beats of DDR with an uncorrectable and with a single-bit error, `doneJobs` the jobs whose records may be released, in
that order (R25), `replayOut` the item records of replay jobs that wait for the link (R229, R241), `frozenFaultIn` a FAULT_IN_N acceptance recorded
during a freeze (R722), `planAt` the TIMEBASE of the last planning tick (R371), `riseAt` that of the last update of the rises (R387). `loopSat` counts
the samples a loop has been saturated for, and says whether source 9 was raised for them (R582). `wire` holds the blocks as they left on a lane,
newest first, with the lane: head lanes 0 to 63, Basalt lanes 64 and 65 (R417); `lineTx` and `lineRx` are the transmitters and receivers of those
lanes. -/
structure State where
  regs : List (Nat × Word) := []
  mem : List Host.Cell := []
  poison : List Nat := []
  soft : List Nat := []
  tb : Nat := 0
  pending : List Instr := []
  out : List Out := []
  wire : List (Nat × BitVec 66) := []
  lineTx : List (Nat × LineTx) := []
  lineRx : List (Nat × LineRx) := []
  free : Nat := 0
  firstThis : Bool := false
  fltRead : BitVec 128 := 0
  engines : List (Nat × Engine) := []
  items : List Item := []
  nextItem : Nat := 0
  jobs : List Job := []
  intake : List (Nat × Intake) := []
  intakeNext : Nat := 0
  waitingCpl : List (Nat × Nat × Nat) := []
  doneJobs : List (Nat × Nat) := []
  replayOut : List ReplayWrite := []
  unlocks : List (Nat × Nat × Nat) := []
  w1Locked : List Nat := []
  staged : List (Nat × Word) := []
  issueQ : List (Nat × List LineDesc) := []
  issueSeq : Nat := 0
  taken : List TakenLine := []
  expect : List (Nat × Nat) := []
  streams : List (Nat × Stream) := []
  dmas : List (Nat × Dma) := []
  dmaTurn : List (Nat × Nat) := []
  lanes : List (Nat × Lane) := []
  vlanes : List (Nat × VLane) := []
  holds : List Hold := []
  nzDirty : List (Nat × Nat) := []
  channels : List (Nat × Channel) := []
  cmps : List (Nat × Cmp) := []
  emus : List (Nat × Emu) := []
  domains : List (Nat × Domain) := []
  heads : List (Nat × Head) := []
  axes : List (Nat × Axis) := []
  groups : List (Nat × Group) := []
  rejects : List (Nat × Reject) := []
  traces : List (Nat × Trace) := []
  timerAt : List (Nat × Nat) := []
  gateLast : List (Nat × Nat) := []
  loopSat : List (Nat × Nat × Bool) := []
  pwmDuty : List (Nat × Nat) := []
  pwmAt : List (Nat × Nat) := []
  ledger : Ledger := {}
  geode : Geode := {}
  fuses : Fuses := {}
  supplies : List (Nat × Supply) := []
  twin : Twin := {}
  pcie : Pcie := {}
  power : Power := {}
  boot : Boot := {}
  cal : Cal := {}
  quartz : Quartz := {}
  sec : Security := {}
  frozenFaultIn : Bool := false
  planAt : Option Nat := none
  riseAt : Option Nat := none
  jtagIr : Nat := 0x02
  bsr : List Bool := []
  scanKey : Nat := 0
  errPulseEnd : Option Nat := none
  errRelease : Option Nat := none
deriving DecidableEq, Repr

/-- The machine right after reset: every part at its value after reset. -/
def State.reset : State := {}

end Sys2Proof.Machine
end

