-- ==== Sys2Proof/Machine/LineCode.lean ====
section
/-!
DEFINITION. LineCode.lean: the line code of the head lanes and the Basalt lanes (11_head_lanes.md R417 to R423; 19_twin.md R694): 66-bit
blocks, the scrambler, block lock, the blocks of a frame, its CRC, and what a receiver makes of the bits that come in.
-/

namespace Sys2Proof.Machine

/-! CRC (R423) -/

/-- The CRC register after one bit, reflected. -/
def crcBit (poly c : Nat) (bit : Bool) : Nat :=
  let x := (c % 2 = 1) != bit
  if x then (c / 2) ^^^ poly else c / 2

/-- The CRC of bytes for a polynomial written reflected: initial value and final XOR 0xFFFFFFFF. -/
def crcOf (poly : Nat) (bs : List Byte) : Nat :=
  (bs.foldl (fun c b => (List.range 8).foldl (fun c i => crcBit poly c (bitAt b.toNat i)) c) 0xFFFFFFFF) ^^^ 0xFFFFFFFF

/-- CRC-32. -/
def crc32 (bs : List Byte) : Nat := crcOf 0xEDB88320 bs

/-- The reflected polynomial of CRC-32, or of CRC-32C. -/
def crcPoly (c : Bool) : Nat := if c then 0x82F63B78 else 0xEDB88320

/-! The scrambler (R417) -/

/-- What x^58 + x^39 + 1 adds to a bit: the bits sent 39 and 58 bit times before. Bit 0 of `st` is the last one sent. -/
def scrTap (st : Nat) : Nat := (st / 2 ^ 38 + st / 2 ^ 57) % 2

/-- Scramble `n` bits of a value, its bit 0 first; the value sent and the last 58 bits. -/
def scramble : Nat → Nat → Nat → Nat × Nat
  | 0, st, _ => (0, st)
  | n + 1, st, v =>
    let o := (v + scrTap st) % 2
    let r := scramble n ((2 * st + o) % 2 ^ 58) (v / 2)
    (o + 2 * r.1, r.2)

/-- Descramble `n` bits. -/
def descramble : Nat → Nat → Nat → Nat × Nat
  | 0, st, _ => (0, st)
  | n + 1, st, v =>
    let r := descramble n ((2 * st + v % 2) % 2 ^ 58) (v / 2)
    ((v + scrTap st) % 2 + 2 * r.1, r.2)

/-! Blocks and frames (R417, R419 to R422) -/

/-- A block as it goes out, bit 0 first: the sync header, 0b01 for data and 0b10 for control in order of transmission, then its eight bytes
scrambled, byte 0 first and bit 0 of each first. -/
def Block.word (b : Block) (st : BitVec 58) : BitVec 66 × BitVec 58 :=
  let r := scramble 64 st.toNat (ofLe b.bytes)
  (BitVec.ofNat 66 ((if b.control then 1 else 2) + 4 * r.1), BitVec.ofNat 58 r.2)

/-- Send blocks through the scrambler, oldest first. -/
def sendBlocks : BitVec 58 → List Block → List (BitVec 66) × BitVec 58
  | st, [] => ([], st)
  | st, b :: bs =>
    let w := b.word st
    let r := sendBlocks w.2 bs
    (w.1 :: r.1, r.2)

/-- Header bytes 0 to 6 of a frame (R420). -/
def frameHeader (kind src len : Nat) : List Byte := [BitVec.ofNat 8 kind, BitVec.ofNat 8 src] ++ leBytes 2 len ++ zeros 3

/-- The blocks of a frame: START with the header, its payload in whole blocks, END with the CRC over both (Table 11.1, R420). -/
def frameBlocks (poly kind src : Nat) (payload : List Byte) : List Block :=
  let len := (payload.length + 7) / 8
  let data := slice payload 0 (8 * len)
  let h := frameHeader kind src len
  ⟨true, 0x3C :: h⟩ :: ((List.range len).map fun i => ⟨false, slice data (8 * i) 8⟩) ++
    [⟨true, [0xC3] ++ leBytes 4 (crcOf poly (h ++ data)) ++ zeros 3⟩]

/-- The SYNC block of a slot (R433). -/
def syncBlock (line phase epoch : Nat) : Block :=
  let bs := leBytes 2 line ++ [BitVec.ofNat 8 phase] ++ leBytes 2 epoch ++ [0]
  ⟨true, [0x5A] ++ bs ++ [bs.foldl (· ^^^ ·) 0]⟩

/-- The ABORT block of a reason (Table 11.1, R422). -/
def abortBlock (reason : Nat) : Block := ⟨true, [0xA5, BitVec.ofNat 8 reason] ++ List.replicate 6 0xA5⟩

/-! The receiver (R417, R419, R421) -/

/-- What the bits of a lane turn out to be: block lock is lost, a frame or block is discarded, or a frame has come, with its header and
payload. -/
inductive LineEvent where
  | lost
  | bad
  | frame (header payload : List Byte)
deriving DecidableEq, Repr

/-- Do the TYPE and LEN of an upstream frame agree with Table 11.2, the COUNT of its payload included? -/
def upTypeOk (kind len : Nat) (payload : List Byte) : Bool :=
  if kind = 0x01 then len = 0
  else if kind = 0x02 then len = 2
  else if kind = 0x03 then len = 1
  else if kind = 0x04 then
    let n := leAt payload 2 1
    1 ≤ n && n ≤ 16 && ((leAt payload 0 1 = 0x81 && (len = 1 || len = 1 + (n + 1) / 2)) || (leAt payload 0 1 = 0x82 && len = 1))
  else if kind = 0x20 then len = 5
  else if kind = 0x21 then len = (if leAt payload 4 1 = 0 then 1 + leAt payload 5 1 else 18)
  else false

/-- The conditions of R421 on a frame that has ended: header, payload and the bytes of its END block. -/
def upFrameOk (poly : Nat) (h payload fin : List Byte) : Bool :=
  leAt h 1 1 < 2 && leAt h 4 3 = 0 && 8 * leAt h 2 2 = payload.length && upTypeOk (leAt h 0 1) (leAt h 2 2) payload &&
  leAt fin 0 4 = crcOf poly (h ++ payload) && leAt fin 4 3 = 0

/-- The receiver between frames. -/
def LineRx.noFrame (x : LineRx) : LineRx := { x with header := none, data := [] }

/-- A block comes in: `none` one with a sync header of neither kind. An invalid block is counted and discards the frame it interrupts (R419),
SYNC and ABORT may stand inside a frame (R422), and a START inside a frame begins another. -/
def LineRx.block (x : LineRx) (poly : Nat) : Option Block → LineRx × List LineEvent
  | none => (x.noFrame, [.bad])
  | some b =>
    let rest := b.bytes.drop 1
    let kind := leAt b.bytes 0 1
    if !b.control then (if x.header.isSome then { x with data := x.data ++ [b.bytes] } else x, [])
    else if kind = 0x3C then ({ x with header := some rest, data := [] }, if x.header.isSome then [.bad] else [])
    else if kind = 0xC3 then
      match x.header with
      | none => (x, [.bad])
      | some h => (x.noFrame, if upFrameOk poly h x.data.flatten rest then [.frame h x.data.flatten] else [.bad])
    else if kind = 0x5A || (kind = 0xA5 && (rest.drop 1).all (· = 0xA5)) then (x, [])
    else (x.noFrame, [.bad])

/-- The block lock state machine of Clause 49 for a sync header that is valid or not: 64 in a row without an invalid one bring lock, 16 invalid
among 64 lose it; without lock an invalid one lets the alignment slip by a bit. -/
def LineRx.lock (x : LineRx) (ok : Bool) : LineRx :=
  let n := x.count + 1
  let bad := x.invalid + if ok then 0 else 1
  if !ok && (16 ≤ bad || !x.locked) then { x.noFrame with locked := false, skip := 1, count := 0, invalid := 0 }
  else if n = 64 then { x with locked := x.locked || bad = 0, count := 0, invalid := 0 }
  else { x with count := n, invalid := bad }

/-- The number of a list of bits, the first at bit 0. -/
def ofBits (bs : List Bool) : Nat := bs.foldr (fun b n => (if b then 1 else 0) + 2 * n) 0

/-- The little-endian bytes of a block's 64 bits. -/
def blockBytes (v : Nat) : List Byte := leBytes 8 v

/-- 66 bits have come in: block lock, and with it the block. -/
def LineRx.word (x : LineRx) (poly : Nat) (bs : List Bool) : LineRx × List LineEvent :=
  let v := ofBits bs
  let ok := v % 4 = 1 || v % 4 = 2
  let r := descramble 64 x.scr.toNat (v / 4)
  let y := { x with bits := [], scr := BitVec.ofNat 58 r.2 }.lock ok
  if !x.locked then (y, [])
  else if !y.locked then (y, [.lost])
  else y.block poly (if ok then some ⟨v % 4 = 1, blockBytes r.1⟩ else none)

/-- One bit comes in. -/
def LineRx.bit (x : LineRx) (poly : Nat) (b : Bool) : LineRx × List LineEvent :=
  if x.skip ≠ 0 then ({ x with skip := x.skip - 1 }, [])
  else if x.bits.length < 65 then ({ x with bits := x.bits ++ [b] }, [])
  else x.word poly (x.bits ++ [b])

end Sys2Proof.Machine
end

