-- ==== Sys2Proof/Machine/FaultTable.lean ====
section
/-!
DEFINITION. FaultTable.lean: the fault sources (Tables 17.1 and 17.2 of 17_faults.md and the source tables of the other chapters):
their numbers, default severities, kinds, and which of them name their affected items (R621).
-/

namespace Sys2Proof.Machine

/-- Source 0. -/
def Src.RAIL_MONITOR : Nat := 0
/-- Source 1. -/
def Src.SPE_LOCKSTEP : Nat := 1
/-- Source 2. -/
def Src.ENGINE_HALT : Nat := 2
/-- Source 3. -/
def Src.ENGINE_WATCHDOG : Nat := 3
/-- Source 4. -/
def Src.SIGNED_PAGE : Nat := 4
/-- Source 5. -/
def Src.CLOCK_FAIL : Nat := 5
/-- Source 8. -/
def Src.LOOP_CFG_ERROR : Nat := 8
/-- Source 9. -/
def Src.LOOP_SATURATED : Nat := 9
/-- Source 10. -/
def Src.FAULT_IN : Nat := 10
/-- Source 12. -/
def Src.MEM_TRAINING_FAIL : Nat := 12
/-- Source 13. -/
def Src.MEM_ECC_CORRECTED : Nat := 13
/-- Source 14. -/
def Src.MEM_ECC_UNCORRECTABLE : Nat := 14
/-- Source 16. -/
def Src.PCIE_LINK_DOWN : Nat := 16
/-- Source 17. -/
def Src.PCIE_ERROR : Nat := 17
/-- Source 18. -/
def Src.DMA_BUS_ERROR : Nat := 18
/-- Source 19. -/
def Src.DMA_FETCH_ERROR : Nat := 19
/-- Source 20. -/
def Src.REG_ACCESS_ERROR : Nat := 20
/-- Source 21. -/
def Src.WRITE_ONCE_VIOLATION : Nat := 21
/-- Source 22. -/
def Src.GUARD_REFUSED : Nat := 22
/-- Source 23. -/
def Src.CONFIG_MISMATCH : Nat := 23
/-- Source 24. -/
def Src.JOB_REFUSED : Nat := 24
/-- Source 25. -/
def Src.JQ_INDEX_ERROR : Nat := 25
/-- Source 26. -/
def Src.JQ_DONE_ERROR : Nat := 26
/-- Source 27. -/
def Src.BAR2_ACCESS_ERROR : Nat := 27
/-- Source 28. -/
def Src.DMA_WB_ERROR : Nat := 28
/-- Source 29. -/
def Src.DMA_CFG_ERROR : Nat := 29
/-- Source 32. -/
def Src.NZ_ENTRY_ERROR : Nat := 32
/-- Source 33. -/
def Src.LINE_DESC_ERROR : Nat := 33
/-- Source 34. -/
def Src.RASTER_POISONED : Nat := 34
/-- Source 35. -/
def Src.RASTER_CFG_ERROR : Nat := 35
/-- Source 36. -/
def Src.RASTER_UNDERRUN : Nat := 36
/-- Source 37. -/
def Src.RASTER_DOT_LOST : Nat := 37
/-- Source 38. -/
def Src.SUBST_INVALID : Nat := 38
/-- Source 39. -/
def Src.SCAN_DIR_MISMATCH : Nat := 39
/-- Source 40. -/
def Src.DCD_OVERSPEED : Nat := 40
/-- Source 41. -/
def Src.DCD_LAG_LIMIT : Nat := 41
/-- Source 42. -/
def Src.DCD_CFG_ERROR : Nat := 42
/-- Source 43. -/
def Src.DCD_PACING_LOSS : Nat := 43
/-- Source 44. -/
def Src.LINE_ISSUE_LATE : Nat := 44
/-- Source 45. -/
def Src.HEAD_INHIBIT : Nat := 45
/-- Source 46. -/
def Src.FIRING_CFG_ERROR : Nat := 46
/-- Source 47. -/
def Src.FIRING_DERATE : Nat := 47
/-- Source 48. -/
def Src.HL_LINK_DOWN : Nat := 48
/-- Source 49. -/
def Src.HL_NEG_FAIL : Nat := 49
/-- Source 50. -/
def Src.HL_CRC_ERROR : Nat := 50
/-- Source 51. -/
def Src.HL_FIRE_LATE : Nat := 51
/-- Source 52. -/
def Src.HL_LEASE_LOST : Nat := 52
/-- Source 53. -/
def Src.HL_LEASE_DENIED : Nat := 53
/-- Source 54. -/
def Src.HL_NOZ_RANGE : Nat := 54
/-- Source 55. -/
def Src.HL_SENSE_ERROR : Nat := 55
/-- Source 56. -/
def Src.HL_CTRL_TIMEOUT : Nat := 56
/-- Source 57. -/
def Src.HL_DATA_LOST : Nat := 57
/-- Source 58. -/
def Src.HL_CFG_ERROR : Nat := 58
/-- Source 59. -/
def Src.HL_BRIDGE_RESET : Nat := 59
/-- Source 64. -/
def Src.VFY_MISS : Nat := 64
/-- Source 65. -/
def Src.VFY_SUSPECT : Nat := 65
/-- Source 66. -/
def Src.VFY_HOLD_FULL : Nat := 66
/-- Source 67. -/
def Src.VFY_NO_REPORT : Nat := 67
/-- Source 68. -/
def Src.VFY_GATE_CAL_ABORT : Nat := 68
/-- Source 69. -/
def Src.VFY_RES_OVERFLOW : Nat := 69
/-- Source 70. -/
def Src.VFY_PARTIAL : Nat := 70
/-- Source 71. -/
def Src.VFY_MISMATCH : Nat := 71
/-- Source 72. -/
def Src.VFY_CFG_ERROR : Nat := 72
/-- Source 73. -/
def Src.CAL_DUE : Nat := 73
/-- Source 74. -/
def Src.CAL_ABORT : Nat := 74
/-- Source 75. -/
def Src.QZ_NONE : Nat := 75
/-- Source 76. -/
def Src.CAL_CFG_ERROR : Nat := 76
/-- Source 77. -/
def Src.QZ_PROG_FAIL : Nat := 77
/-- Source 78. -/
def Src.QZ_LOW : Nat := 78
/-- Source 80. -/
def Src.MOT_STALL : Nat := 80
/-- Source 81. -/
def Src.MOT_LIMIT : Nat := 81
/-- Source 82. -/
def Src.MOT_HOMING_FAULT : Nat := 82
/-- Source 83. -/
def Src.MOT_OVERSHOOT : Nat := 83
/-- Source 84. -/
def Src.MOT_STEP_RATE : Nat := 84
/-- Source 85. -/
def Src.MOT_CFG_ERROR : Nat := 85
/-- Source 86. -/
def Src.REJ_QUEUE_FULL : Nat := 86
/-- Source 87. -/
def Src.REJ_DECISION_LATE : Nat := 87
/-- Source 88. -/
def Src.FB_ILLEGAL : Nat := 88
/-- Source 89. -/
def Src.FB_INDEX_FAULT : Nat := 89
/-- Source 90. -/
def Src.FB_SIGNAL_LOSS : Nat := 90
/-- Source 91. -/
def Src.FB_DIR_CHANGE : Nat := 91
/-- Source 92. -/
def Src.FB_DETECT_FAIL : Nat := 92
/-- Source 93. -/
def Src.FB_CFG_ERROR : Nat := 93
/-- Source 94. -/
def Src.FB_CMP_SKIP : Nat := 94
/-- Source 95. -/
def Src.FB_EMU_RATE : Nat := 95
/-- Source 96. -/
def Src.TAMPER_A : Nat := 96
/-- Source 97. -/
def Src.TAMPER_B : Nat := 97
/-- Source 98. -/
def Src.TAMPER_C : Nat := 98
/-- Source 99. -/
def Src.VAULT_KEY_LOST : Nat := 99
/-- Source 100. -/
def Src.IMAGE_REFUSED : Nat := 100
/-- Source 101. -/
def Src.LEDGER_STALL : Nat := 101
/-- Source 102. -/
def Src.SUPPLY_AUTH_FAIL : Nat := 102
/-- Source 103. -/
def Src.SUPPLY_USAGE_FAIL : Nat := 103
/-- Source 104. -/
def Src.DEBUG_UNLOCK_FAIL : Nat := 104
/-- Source 105. -/
def Src.CRYPTO_SELFTEST : Nat := 105
/-- Source 112. -/
def Src.BASALT_LINK_DOWN : Nat := 112
/-- Source 113. -/
def Src.TWIN_HEARTBEAT_LOST : Nat := 113
/-- Source 114. -/
def Src.TWIN_TAKEOVER : Nat := 114
/-- Source 115. -/
def Src.TWIN_ISOLATED : Nat := 115
/-- Source 116. -/
def Src.BASALT_NEG_FAIL : Nat := 116
/-- Source 117. -/
def Src.BASALT_AUTH_FAIL : Nat := 117
/-- Source 118. -/
def Src.TWIN_MIRROR_LAG : Nat := 118
/-- Source 119. -/
def Src.QUORUM_MISMATCH : Nat := 119
/-- Source 120. -/
def Src.TWIN_YIELD : Nat := 120

/-- The default severity of a source (the tables named above); 0 for a reserved one, whose FLT_CFG reads 0 (R618). -/
def defaultSeverity (s : Nat) : Nat :=
  if s ∈ [0, 1, 5, 10, 96, 97, 105] then 4
  else if s ∈ [2, 12, 41, 80, 84, 86, 98, 99, 101, 102] then 3
  else if s ∈ [4, 14, 33, 34, 36, 39, 43, 45, 48, 51, 52, 57, 66, 88, 90, 103, 113, 114, 115] then 2
  else if s ∈ [3, 8, 9, 16, 17, 18, 19, 20, 21, 23, 25, 26, 27, 28, 29, 32, 35, 38, 40, 42, 44, 46, 49, 54, 55, 56, 58, 59, 65, 67, 68, 69, 71, 72, 74, 75, 76, 77, 81, 82, 85, 87, 89, 92, 93, 94, 95, 100, 104, 112, 116, 117, 118, 119] then 1
  else 0

/-- A source some table of spec/ defines; every other one is reserved and never raised (R618). -/
def sourceDefined (s : Nat) : Bool :=
  s ∈ [0, 1, 2, 3, 4, 5, 8, 9, 10, 12, 13, 14, 16, 17, 18, 19, 20, 21, 22, 23, 24, 25, 26, 27, 28, 29, 32, 33, 34, 35, 36, 37, 38, 39, 40, 41, 42, 43, 44, 45, 46, 47, 48, 49, 50, 51, 52, 53, 54, 55, 56, 57, 58, 59, 64, 65, 66, 67, 68, 69, 70, 71, 72, 73, 74, 75, 76, 77, 78, 80, 81, 82, 83, 84, 85, 86, 87, 88, 89, 90, 91, 92, 93, 94, 95, 96, 97, 98, 99, 100, 101, 102, 103, 104, 105, 112, 113, 114, 115, 116, 117, 118, 119, 120]

/-- LEVEL sources: those of Table 17.2 and the two of R616. -/
def sourceLevel (s : Nat) : Bool := s ∈ [0, 5, 10, 48, 90, 96, 101, 112, 113, 115]

/-- The sources that name their affected items (R621). -/
def sourceNamesItems (s : Nat) : Bool :=
  s ∈ [33, 34, 36, 39, 40, 43, 44, 45, 48, 51, 52, 57, 86, 87, 114, 115]

/-- The sources whose severity cannot be set below its default (R636). -/
def sourceProtected (s : Nat) : Bool := s ∈ [10, 96, 97, 98]

end Sys2Proof.Machine
end

