-- ==== Sys2Proof/Machine/Map.lean ====
section
/-!
DEFINITION. Map.lean: sparse data by key in one canonical form: keys strictly rising, and no entry equal to what an unlisted key
reads as. Register files, memories and the arrays of like units are held this way, so that equal contents are equal
lists.
-/

namespace Sys2Proof.Machine

/-- What key `k` reads as: its first entry, or `dflt k` where none is listed. -/
def Map.get {α : Type} (dflt : Nat → α) : List (Nat × α) → Nat → α
  | [], k => dflt k
  | (j, v) :: m, k => if j = k then v else Map.get dflt m k

/-- Put an entry at its place by key, over the entry of the same key if there is one. -/
def Map.insert {α : Type} (k : Nat) (v : α) : List (Nat × α) → List (Nat × α)
  | [] => [(k, v)]
  | (j, w) :: m =>
    if k < j then (k, v) :: (j, w) :: m
    else if j = k then (k, v) :: m
    else (j, w) :: Map.insert k v m

/-- Drop every entry of a key. -/
def Map.erase {α : Type} (k : Nat) : List (Nat × α) → List (Nat × α)
  | [] => []
  | (j, w) :: m => if j = k then Map.erase k m else (j, w) :: Map.erase k m

/-- Write `v` at `k`; writing what an unlisted key reads as removes the entry. -/
def Map.set {α : Type} [DecidableEq α] (dflt : Nat → α) (m : List (Nat × α)) (k : Nat) (v : α) : List (Nat × α) :=
  if v = dflt k then Map.erase k m else Map.insert k v m

/-- The entries of a run of values from key `k`, those at their default left out. -/
def Map.block {α : Type} [DecidableEq α] (dflt : Nat → α) : Nat → List α → List (Nat × α)
  | _, [] => []
  | k, v :: vs => if v = dflt k then Map.block dflt (k + 1) vs else (k, v) :: Map.block dflt (k + 1) vs

/-- Write a run of values from key `k`. -/
def Map.put {α : Type} [DecidableEq α] (dflt : Nat → α) (m : List (Nat × α)) (k : Nat) (vs : List α) : List (Nat × α) :=
  m.filter (fun e => e.1 < k) ++ (Map.block dflt k vs ++ m.filter (fun e => k + vs.length ≤ e.1))

/-- What the `n` keys from `k` read as. -/
def Map.run {α : Type} (dflt : Nat → α) (m : List (Nat × α)) (k n : Nat) : List α :=
  (List.range n).map fun i => Map.get dflt m (k + i)

/-- Do the keys rise strictly from `lo`? -/
def Map.rises {α : Type} : Nat → List (Nat × α) → Bool
  | _, [] => true
  | lo, (j, _) :: m => decide (lo ≤ j) && Map.rises (j + 1) m

/-- `Map.run` in one pass over entries whose keys rise from `k`. -/
def Map.walk {α : Type} (dflt : Nat → α) : Nat → Nat → List (Nat × α) → List α
  | 0, _, _ => []
  | n + 1, k, [] => dflt k :: Map.walk dflt n (k + 1) []
  | n + 1, k, (j, v) :: m =>
    if j = k then v :: Map.walk dflt n (k + 1) m else dflt k :: Map.walk dflt n (k + 1) ((j, v) :: m)

/-- `Map.run` as it is computed. -/
def Map.runFast {α : Type} (dflt : Nat → α) (m : List (Nat × α)) (k n : Nat) : List α :=
  let w := m.filter (fun e => k ≤ e.1)
  if Map.rises k w then Map.walk dflt n k w else Map.run dflt m k n

theorem Map.get_filter_ge {α : Type} (dflt : Nat → α) (m : List (Nat × α)) (k i : Nat) (h : k ≤ i) :
    Map.get dflt (m.filter (fun e => k ≤ e.1)) i = Map.get dflt m i := by
  induction m with
  | nil => rfl
  | cons e m ih =>
    obtain ⟨j, v⟩ := e
    by_cases hj : k ≤ j
    · simp [hj, Map.get, ih]
    · have : j ≠ i := by omega
      simp [hj, Map.get, ih, this]

theorem Map.get_below {α : Type} (dflt : Nat → α) (m : List (Nat × α)) (lo i : Nat) (h : Map.rises lo m = true)
    (hi : i < lo) : Map.get dflt m i = dflt i := by
  induction m generalizing lo with
  | nil => rfl
  | cons e m ih =>
    obtain ⟨j, v⟩ := e
    simp [Map.rises] at h
    have : j ≠ i := by omega
    simp [Map.get, this]
    exact ih _ h.2 (by omega)

theorem Map.walk_eq {α : Type} (dflt : Nat → α) (n k : Nat) (m : List (Nat × α)) (h : Map.rises k m = true) :
    Map.walk dflt n k m = Map.run dflt m k n := by
  induction n generalizing k m with
  | zero => rfl
  | succ n ih =>
    have hr : ∀ m : List (Nat × α), Map.run dflt m k (n + 1) = Map.get dflt m k :: Map.run dflt m (k + 1) n := by
      intro m
      simp [Map.run, List.range_succ_eq_map, Nat.add_assoc, Nat.add_comm 1]
    rw [hr]
    match m, h with
    | [], h => simp [Map.walk, Map.get, ih (k + 1) [] rfl]
    | (j, v) :: m, h =>
      simp [Map.rises] at h
      by_cases hj : j = k
      · subst hj
        have e : Map.run dflt ((j, v) :: m) (j + 1) n = Map.run dflt m (j + 1) n := by
          simp only [Map.run]
          refine List.map_congr_left fun i _ => ?_
          have : j ≠ j + 1 + i := by omega
          simp [Map.get, this]
        simp [Map.walk, Map.get, ih _ _ h.2, e]
      · have h' : Map.rises (k + 1) ((j, v) :: m) = true := by simp [Map.rises, h.2]; omega
        have e := Map.get_below dflt m (j + 1) k h.2 (by omega)
        simp [Map.walk, Map.get, hj, ih _ _ h', e]

@[csimp] theorem Map.run_eq : @Map.run = @Map.runFast := by
  funext α dflt m k n
  simp only [Map.runFast]
  split
  · next h =>
    rw [Map.walk_eq _ _ _ _ h]
    simp only [Map.run]
    exact List.map_congr_left fun i _ => (Map.get_filter_ge dflt m k (k + i) (by omega)).symm
  · rfl

/-- Keys strictly rising from a lower bound, and no entry at its default. -/
def Map.wfFrom {α : Type} [DecidableEq α] (dflt : Nat → α) : Option Nat → List (Nat × α) → Bool
  | _, [] => true
  | lo, (j, v) :: m =>
    (match lo with
      | none => true
      | some l => decide (l < j)) && decide (v ≠ dflt j) && Map.wfFrom dflt (some j) m

/-- The canonical form. -/
def Map.wf {α : Type} [DecidableEq α] (dflt : Nat → α) (m : List (Nat × α)) : Bool := Map.wfFrom dflt none m

/-! Lists in order of a key -/

/-- Put an element into a list that ascends by a key, before those of its own key. -/
def insertOn {α : Type} (key : α → Nat) (x : α) : List α → List α
  | [] => [x]
  | y :: ys => if key x ≤ key y then x :: y :: ys else y :: insertOn key x ys

/-- A list in ascending order of a key; elements of one key keep their order. -/
def sortOn {α : Type} (key : α → Nat) : List α → List α
  | [] => []
  | x :: xs => insertOn key x (sortOn key xs)

end Sys2Proof.Machine
end

