-- ==== Sys2Proof/Machine/RegNames.lean ====
section
/-!
DEFINITION. RegNames.lean: the BAR0 offset of every register (Reg) and the place of every named field (Fld), from the register
tables of spec/ (02_package_power.md to 20_freeze_debug.md). A register of an array takes its index, of an array in an
array both, outer first.
-/

namespace Sys2Proof.Machine

/-- A field: the register's BAR0 offset and the bit range hi:lo. -/
structure Field where
  addr : Nat
  hi : Nat
  lo : Nat
deriving DecidableEq, Repr

/-! 03_startup.md -/
def Reg.SYS_ID : Nat := 0x0
def Fld.SYS_ID_VENDOR : Field := ⟨Reg.SYS_ID, 15, 0⟩
def Fld.SYS_ID_DEVICE : Field := ⟨Reg.SYS_ID, 31, 16⟩
def Reg.SYS_REV : Nat := 0x4
def Fld.SYS_REV_REV : Field := ⟨Reg.SYS_REV, 7, 0⟩
/-! 02_package_power.md -/
def Reg.SYS_PWR_CTRL : Nat := 0x40
def Fld.SYS_PWR_CTRL_PARK : Field := ⟨Reg.SYS_PWR_CTRL, 0, 0⟩
def Fld.SYS_PWR_CTRL_PARKED : Field := ⟨Reg.SYS_PWR_CTRL, 8, 8⟩
def Fld.SYS_PWR_CTRL_PARK_REFUSED : Field := ⟨Reg.SYS_PWR_CTRL, 9, 9⟩
def Reg.SYS_RAIL_STAT : Nat := 0x44
def Fld.SYS_RAIL_STAT_OK : Field := ⟨Reg.SYS_RAIL_STAT, 8, 0⟩
/-! 03_startup.md -/
def Reg.SYS_RST_CAUSE : Nat := 0x48
def Fld.SYS_RST_CAUSE_POR : Field := ⟨Reg.SYS_RST_CAUSE, 0, 0⟩
def Fld.SYS_RST_CAUSE_PIN : Field := ⟨Reg.SYS_RST_CAUSE, 1, 1⟩
def Fld.SYS_RST_CAUSE_SOFT : Field := ⟨Reg.SYS_RST_CAUSE, 2, 2⟩
def Fld.SYS_RST_CAUSE_ITEMS_OPEN : Field := ⟨Reg.SYS_RST_CAUSE, 8, 8⟩
def Fld.SYS_RST_CAUSE_SEQ : Field := ⟨Reg.SYS_RST_CAUSE, 31, 24⟩
def Reg.SYS_BOOT_STAT : Nat := 0x4c
def Fld.SYS_BOOT_STAT_STAGE : Field := ⟨Reg.SYS_BOOT_STAT, 3, 0⟩
def Fld.SYS_BOOT_STAT_FAIL_CODE : Field := ⟨Reg.SYS_BOOT_STAT, 7, 4⟩
def Fld.SYS_BOOT_STAT_FALLBACK_USED : Field := ⟨Reg.SYS_BOOT_STAT, 8, 8⟩
def Fld.SYS_BOOT_STAT_KEY_SLOT : Field := ⟨Reg.SYS_BOOT_STAT, 10, 9⟩
def Fld.SYS_BOOT_STAT_REGULATED : Field := ⟨Reg.SYS_BOOT_STAT, 11, 11⟩
def Fld.SYS_BOOT_STAT_UNSIGNED : Field := ⟨Reg.SYS_BOOT_STAT, 12, 12⟩
def Fld.SYS_BOOT_STAT_BOOT_SEL : Field := ⟨Reg.SYS_BOOT_STAT, 14, 13⟩
def Fld.SYS_BOOT_STAT_TWIN_SEL : Field := ⟨Reg.SYS_BOOT_STAT, 15, 15⟩
def Fld.SYS_BOOT_STAT_CFG_READY : Field := ⟨Reg.SYS_BOOT_STAT, 16, 16⟩
def Fld.SYS_BOOT_STAT_HOST_GO : Field := ⟨Reg.SYS_BOOT_STAT, 17, 17⟩
def Reg.SYS_RST_CTRL : Nat := 0x50
def Fld.SYS_RST_CTRL_SOFT_RESET : Field := ⟨Reg.SYS_RST_CTRL, 0, 0⟩
def Reg.SYS_ENG_STAT : Nat := 0x54
def Fld.SYS_ENG_STAT_VERIFIED : Field := ⟨Reg.SYS_ENG_STAT, 15, 0⟩
def Fld.SYS_ENG_STAT_RUNNING : Field := ⟨Reg.SYS_ENG_STAT, 31, 16⟩
/-! 04_register_model.md -/
def Reg.GUARD_UNLOCK : Nat := 0x10000
def Fld.GUARD_UNLOCK_BLOCK : Field := ⟨Reg.GUARD_UNLOCK, 7, 0⟩
def Fld.GUARD_UNLOCK_ZERO : Field := ⟨Reg.GUARD_UNLOCK, 15, 8⟩
def Fld.GUARD_UNLOCK_KEY : Field := ⟨Reg.GUARD_UNLOCK, 31, 16⟩
def Reg.GUARD_STAT : Nat := 0x10004
def Fld.GUARD_STAT_CONSEC : Field := ⟨Reg.GUARD_STAT, 3, 0⟩
def Fld.GUARD_STAT_TOTAL : Field := ⟨Reg.GUARD_STAT, 23, 8⟩
def Reg.GUARD_REFUSE : Nat := 0x10008
def Fld.GUARD_REFUSE_REFUSED : Field := ⟨Reg.GUARD_REFUSE, 0, 0⟩
def Fld.GUARD_REFUSE_LAST_BLOCK : Field := ⟨Reg.GUARD_REFUSE, 15, 8⟩
def Fld.GUARD_REFUSE_LAST_REQ : Field := ⟨Reg.GUARD_REFUSE, 20, 16⟩
def Fld.GUARD_REFUSE_SEQ : Field := ⟨Reg.GUARD_REFUSE, 31, 24⟩
def Reg.GUARD_OPEN : Nat := 0x1000c
def Fld.GUARD_OPEN_PENDING : Field := ⟨Reg.GUARD_OPEN, 0, 0⟩
def Fld.GUARD_OPEN_BLOCK : Field := ⟨Reg.GUARD_OPEN, 15, 8⟩
/-! 01_architecture.md -/
def Reg.TB_LO : Nat := 0x20000
def Fld.TB_LO_COUNT_LO : Field := ⟨Reg.TB_LO, 31, 0⟩
def Reg.TB_HI : Nat := 0x20004
def Fld.TB_HI_COUNT_HI : Field := ⟨Reg.TB_HI, 31, 0⟩
/-! 17_faults.md -/
def Reg.FLT_CTRL : Nat := 0x30000
def Fld.FLT_CTRL_RESUME : Field := ⟨Reg.FLT_CTRL, 0, 0⟩
def Fld.FLT_CTRL_ERR_HOLD : Field := ⟨Reg.FLT_CTRL, 1, 1⟩
def Reg.FLT_STAT : Nat := 0x30004
def Fld.FLT_STAT_RESUME_REFUSED : Field := ⟨Reg.FLT_STAT, 0, 0⟩
def Fld.FLT_STAT_SEV_REFUSED : Field := ⟨Reg.FLT_STAT, 1, 1⟩
def Fld.FLT_STAT_FORCE_REFUSED : Field := ⟨Reg.FLT_STAT, 2, 2⟩
def Fld.FLT_STAT_SAFE_LEVEL : Field := ⟨Reg.FLT_STAT, 10, 8⟩
def Fld.FLT_STAT_ERR_N_LOW : Field := ⟨Reg.FLT_STAT, 11, 11⟩
def Fld.FLT_STAT_FAULT_IN_LOW : Field := ⟨Reg.FLT_STAT, 12, 12⟩
def Fld.FLT_STAT_SEQ : Field := ⟨Reg.FLT_STAT, 31, 24⟩
def Reg.FLT_ERRN : Nat := 0x30008
def Fld.FLT_ERRN_PW : Field := ⟨Reg.FLT_ERRN, 13, 0⟩
def Fld.FLT_ERRN_MIN_SEV : Field := ⟨Reg.FLT_ERRN, 18, 16⟩
def Fld.FLT_ERRN_HOLD_ON_SEV : Field := ⟨Reg.FLT_ERRN, 22, 20⟩
def Reg.FLT_IRQ : Nat := 0x3000c
def Fld.FLT_IRQ_VECTOR : Field := ⟨Reg.FLT_IRQ, 5, 0⟩
def Fld.FLT_IRQ_EN : Field := ⟨Reg.FLT_IRQ, 7, 7⟩
def Fld.FLT_IRQ_MIN_SEV : Field := ⟨Reg.FLT_IRQ, 10, 8⟩
def Reg.FLT_FIRST : Nat := 0x30010
def Fld.FLT_FIRST_VALID : Field := ⟨Reg.FLT_FIRST, 0, 0⟩
def Fld.FLT_FIRST_SOURCE : Field := ⟨Reg.FLT_FIRST, 14, 8⟩
def Fld.FLT_FIRST_SEV : Field := ⟨Reg.FLT_FIRST, 18, 16⟩
def Fld.FLT_FIRST_INJECTED : Field := ⟨Reg.FLT_FIRST, 19, 19⟩
def Fld.FLT_FIRST_SEQ : Field := ⟨Reg.FLT_FIRST, 31, 24⟩
def Reg.FLT_FIRST_TB_LO : Nat := 0x30014
def Fld.FLT_FIRST_TB_LO_TB : Field := ⟨Reg.FLT_FIRST_TB_LO, 31, 0⟩
def Reg.FLT_FIRST_TB_HI : Nat := 0x30018
def Fld.FLT_FIRST_TB_HI_TB : Field := ⟨Reg.FLT_FIRST_TB_HI, 31, 0⟩
def Reg.FLT_FIRST_SET (i : Nat) : Nat := 0x30020 + 0x4 * i
def Fld.FLT_FIRST_SET_SET (i : Nat) : Field := ⟨Reg.FLT_FIRST_SET i, 31, 0⟩
def Reg.FLT_LATCH_SUM (i : Nat) : Nat := 0x30040 + 0x4 * i
def Fld.FLT_LATCH_SUM_LATCHED (i : Nat) : Field := ⟨Reg.FLT_LATCH_SUM i, 31, 0⟩
def Reg.FLT_LIVE_SUM (i : Nat) : Nat := 0x30050 + 0x4 * i
def Fld.FLT_LIVE_SUM_LIVE (i : Nat) : Field := ⟨Reg.FLT_LIVE_SUM i, 31, 0⟩
def Reg.FLT_SRC (i : Nat) : Nat := 0x31000 + 0x10 * i
def Fld.FLT_SRC_LATCHED (i : Nat) : Field := ⟨Reg.FLT_SRC i, 0, 0⟩
def Fld.FLT_SRC_TRANSIENT (i : Nat) : Field := ⟨Reg.FLT_SRC i, 1, 1⟩
def Fld.FLT_SRC_INJECTED (i : Nat) : Field := ⟨Reg.FLT_SRC i, 2, 2⟩
def Fld.FLT_SRC_LIVE (i : Nat) : Field := ⟨Reg.FLT_SRC i, 3, 3⟩
def Fld.FLT_SRC_SEV (i : Nat) : Field := ⟨Reg.FLT_SRC i, 6, 4⟩
def Fld.FLT_SRC_SEQ (i : Nat) : Field := ⟨Reg.FLT_SRC i, 31, 24⟩
def Reg.FLT_CFG (i : Nat) : Nat := 0x31004 + 0x10 * i
def Fld.FLT_CFG_SEV (i : Nat) : Field := ⟨Reg.FLT_CFG i, 2, 0⟩
def Fld.FLT_CFG_FORCE (i : Nat) : Field := ⟨Reg.FLT_CFG i, 3, 3⟩
def Reg.FLT_INFO (i : Nat) : Nat := 0x31008 + 0x10 * i
def Fld.FLT_INFO_INFO (i : Nat) : Field := ⟨Reg.FLT_INFO i, 31, 0⟩
def Reg.FLT_CNT (i : Nat) : Nat := 0x3100c + 0x10 * i
def Fld.FLT_CNT_COUNT (i : Nat) : Field := ⟨Reg.FLT_CNT i, 15, 0⟩
/-! 07_host_dma.md -/
def Reg.PCIE_LINK_STAT : Nat := 0x40000
def Fld.PCIE_LINK_STAT_SPEED : Field := ⟨Reg.PCIE_LINK_STAT, 3, 0⟩
def Fld.PCIE_LINK_STAT_WIDTH : Field := ⟨Reg.PCIE_LINK_STAT, 7, 4⟩
def Fld.PCIE_LINK_STAT_LINK_UP : Field := ⟨Reg.PCIE_LINK_STAT, 8, 8⟩
def Fld.PCIE_LINK_STAT_BME : Field := ⟨Reg.PCIE_LINK_STAT, 9, 9⟩
def Fld.PCIE_LINK_STAT_D3HOT : Field := ⟨Reg.PCIE_LINK_STAT, 10, 10⟩
def Fld.PCIE_LINK_STAT_L1 : Field := ⟨Reg.PCIE_LINK_STAT, 11, 11⟩
def Reg.PCIE_ERR_STAT : Nat := 0x40004
def Fld.PCIE_ERR_STAT_LINK_DOWN : Field := ⟨Reg.PCIE_ERR_STAT, 0, 0⟩
def Fld.PCIE_ERR_STAT_CPL_TIMEOUT : Field := ⟨Reg.PCIE_ERR_STAT, 1, 1⟩
def Fld.PCIE_ERR_STAT_UR_CA : Field := ⟨Reg.PCIE_ERR_STAT, 2, 2⟩
def Fld.PCIE_ERR_STAT_POISONED : Field := ⟨Reg.PCIE_ERR_STAT, 3, 3⟩
def Fld.PCIE_ERR_STAT_UNEXPECTED_CPL : Field := ⟨Reg.PCIE_ERR_STAT, 4, 4⟩
def Fld.PCIE_ERR_STAT_MALFORMED : Field := ⟨Reg.PCIE_ERR_STAT, 5, 5⟩
def Fld.PCIE_ERR_STAT_FLR : Field := ⟨Reg.PCIE_ERR_STAT, 6, 6⟩
def Fld.PCIE_ERR_STAT_PERST : Field := ⟨Reg.PCIE_ERR_STAT, 7, 7⟩
def Fld.PCIE_ERR_STAT_SEQ : Field := ⟨Reg.PCIE_ERR_STAT, 31, 24⟩
def Reg.BAR2_PAGE (i : Nat) : Nat := 0x40100 + 0x4 * i
def Fld.BAR2_PAGE_BASE (i : Nat) : Field := ⟨Reg.BAR2_PAGE i, 10, 0⟩
def Fld.BAR2_PAGE_EN (i : Nat) : Field := ⟨Reg.BAR2_PAGE i, 16, 16⟩
def Reg.CH_CFG (i : Nat) : Nat := 0x41000 + 0x40 * i
def Fld.CH_CFG_DIR (i : Nat) : Field := ⟨Reg.CH_CFG i, 0, 0⟩
def Fld.CH_CFG_RING_EN (i : Nat) : Field := ⟨Reg.CH_CFG i, 1, 1⟩
def Fld.CH_CFG_RING_LOG2 (i : Nat) : Field := ⟨Reg.CH_CFG i, 6, 2⟩
def Fld.CH_CFG_PRIO (i : Nat) : Field := ⟨Reg.CH_CFG i, 9, 8⟩
def Fld.CH_CFG_VECTOR (i : Nat) : Field := ⟨Reg.CH_CFG i, 15, 10⟩
def Fld.CH_CFG_RB_QUOTA (i : Nat) : Field := ⟨Reg.CH_CFG i, 21, 16⟩
def Reg.CH_CTRL (i : Nat) : Nat := 0x41004 + 0x40 * i
def Fld.CH_CTRL_GO (i : Nat) : Field := ⟨Reg.CH_CTRL i, 0, 0⟩
def Fld.CH_CTRL_KICK (i : Nat) : Field := ⟨Reg.CH_CTRL i, 1, 1⟩
def Fld.CH_CTRL_ABORT (i : Nat) : Field := ⟨Reg.CH_CTRL i, 2, 2⟩
def Fld.CH_CTRL_FLUSH (i : Nat) : Field := ⟨Reg.CH_CTRL i, 3, 3⟩
def Reg.CH_HEAD_LO (i : Nat) : Nat := 0x41008 + 0x40 * i
def Fld.CH_HEAD_LO_HEAD_LO (i : Nat) : Field := ⟨Reg.CH_HEAD_LO i, 31, 5⟩
def Reg.CH_HEAD_HI (i : Nat) : Nat := 0x4100c + 0x40 * i
def Fld.CH_HEAD_HI_HEAD_HI (i : Nat) : Field := ⟨Reg.CH_HEAD_HI i, 31, 0⟩
def Reg.CH_RING_LO (i : Nat) : Nat := 0x41010 + 0x40 * i
def Fld.CH_RING_LO_RING_LO (i : Nat) : Field := ⟨Reg.CH_RING_LO i, 31, 12⟩
def Reg.CH_RING_HI (i : Nat) : Nat := 0x41014 + 0x40 * i
def Fld.CH_RING_HI_RING_HI (i : Nat) : Field := ⟨Reg.CH_RING_HI i, 3, 0⟩
def Reg.CH_WM (i : Nat) : Nat := 0x41018 + 0x40 * i
def Fld.CH_WM_LOW_WM (i : Nat) : Field := ⟨Reg.CH_WM i, 7, 0⟩
def Fld.CH_WM_HIGH_WM (i : Nat) : Field := ⟨Reg.CH_WM i, 15, 8⟩
def Reg.CH_PROD (i : Nat) : Nat := 0x4101c + 0x40 * i
def Fld.CH_PROD_COUNT (i : Nat) : Field := ⟨Reg.CH_PROD i, 30, 0⟩
def Reg.CH_CONS (i : Nat) : Nat := 0x41020 + 0x40 * i
def Fld.CH_CONS_COUNT (i : Nat) : Field := ⟨Reg.CH_CONS i, 30, 0⟩
def Reg.CH_STAT (i : Nat) : Nat := 0x41024 + 0x40 * i
def Fld.CH_STAT_CHAIN_DONE (i : Nat) : Field := ⟨Reg.CH_STAT i, 0, 0⟩
def Fld.CH_STAT_BAD_SEEN (i : Nat) : Field := ⟨Reg.CH_STAT i, 1, 1⟩
def Fld.CH_STAT_FETCH_ERROR (i : Nat) : Field := ⟨Reg.CH_STAT i, 2, 2⟩
def Fld.CH_STAT_WB_ERROR (i : Nat) : Field := ⟨Reg.CH_STAT i, 3, 3⟩
def Fld.CH_STAT_RESET_ENDED (i : Nat) : Field := ⟨Reg.CH_STAT i, 4, 4⟩
def Fld.CH_STAT_CFG_ERROR (i : Nat) : Field := ⟨Reg.CH_STAT i, 5, 5⟩
def Fld.CH_STAT_STATE (i : Nat) : Field := ⟨Reg.CH_STAT i, 10, 8⟩
def Fld.CH_STAT_SEQ (i : Nat) : Field := ⟨Reg.CH_STAT i, 31, 24⟩
def Reg.CH_ERRCNT (i : Nat) : Nat := 0x41028 + 0x40 * i
def Fld.CH_ERRCNT_BAD (i : Nat) : Field := ⟨Reg.CH_ERRCNT i, 15, 0⟩
def Fld.CH_ERRCNT_WB (i : Nat) : Field := ⟨Reg.CH_ERRCNT i, 31, 16⟩
def Reg.CH_DONECNT (i : Nat) : Nat := 0x4102c + 0x40 * i
def Fld.CH_DONECNT_COUNT (i : Nat) : Field := ⟨Reg.CH_DONECNT i, 31, 0⟩
def Reg.CH_LASTBAD_LO (i : Nat) : Nat := 0x41030 + 0x40 * i
def Fld.CH_LASTBAD_LO_ADDR (i : Nat) : Field := ⟨Reg.CH_LASTBAD_LO i, 31, 0⟩
def Reg.CH_LASTBAD_HI (i : Nat) : Nat := 0x41034 + 0x40 * i
def Fld.CH_LASTBAD_HI_ADDR (i : Nat) : Field := ⟨Reg.CH_LASTBAD_HI i, 31, 0⟩
def Reg.CH_INFLIGHT (i : Nat) : Nat := 0x41038 + 0x40 * i
def Fld.CH_INFLIGHT_DESC (i : Nat) : Field := ⟨Reg.CH_INFLIGHT i, 3, 0⟩
def Fld.CH_INFLIGHT_RB_KIB (i : Nat) : Field := ⟨Reg.CH_INFLIGHT i, 16, 8⟩
/-! 06_jobs_ordering.md -/
def Reg.JQ_CTRL (i : Nat) : Nat := 0x48000 + 0x40 * i
def Fld.JQ_CTRL_ENABLE (i : Nat) : Field := ⟨Reg.JQ_CTRL i, 0, 0⟩
def Fld.JQ_CTRL_OWNER (i : Nat) : Field := ⟨Reg.JQ_CTRL i, 3, 1⟩
def Fld.JQ_CTRL_RING_LOG2 (i : Nat) : Field := ⟨Reg.JQ_CTRL i, 7, 4⟩
def Fld.JQ_CTRL_INBOX_LOG2 (i : Nat) : Field := ⟨Reg.JQ_CTRL i, 10, 8⟩
def Fld.JQ_CTRL_IDX_CLR (i : Nat) : Field := ⟨Reg.JQ_CTRL i, 11, 11⟩
def Fld.JQ_CTRL_CQ_LOG2 (i : Nat) : Field := ⟨Reg.JQ_CTRL i, 15, 12⟩
def Fld.JQ_CTRL_VECTOR (i : Nat) : Field := ⟨Reg.JQ_CTRL i, 21, 16⟩
def Fld.JQ_CTRL_DRAINED (i : Nat) : Field := ⟨Reg.JQ_CTRL i, 24, 24⟩
def Reg.JQ_RING_LO (i : Nat) : Nat := 0x48004 + 0x40 * i
def Fld.JQ_RING_LO_BASE_LO (i : Nat) : Field := ⟨Reg.JQ_RING_LO i, 31, 5⟩
def Reg.JQ_RING_HI (i : Nat) : Nat := 0x48008 + 0x40 * i
def Fld.JQ_RING_HI_BASE_HI (i : Nat) : Field := ⟨Reg.JQ_RING_HI i, 31, 0⟩
def Reg.JQ_CQ_LO (i : Nat) : Nat := 0x4800c + 0x40 * i
def Fld.JQ_CQ_LO_BASE_LO (i : Nat) : Field := ⟨Reg.JQ_CQ_LO i, 31, 5⟩
def Reg.JQ_CQ_HI (i : Nat) : Nat := 0x48010 + 0x40 * i
def Fld.JQ_CQ_HI_BASE_HI (i : Nat) : Field := ⟨Reg.JQ_CQ_HI i, 31, 0⟩
def Reg.JQ_TAIL (i : Nat) : Nat := 0x48014 + 0x40 * i
def Fld.JQ_TAIL_TAIL (i : Nat) : Field := ⟨Reg.JQ_TAIL i, 15, 0⟩
def Reg.JQ_HEAD (i : Nat) : Nat := 0x48018 + 0x40 * i
def Fld.JQ_HEAD_HEAD (i : Nat) : Field := ⟨Reg.JQ_HEAD i, 15, 0⟩
def Reg.JQ_CQ_TAIL (i : Nat) : Nat := 0x4801c + 0x40 * i
def Fld.JQ_CQ_TAIL_CQ_TAIL (i : Nat) : Field := ⟨Reg.JQ_CQ_TAIL i, 15, 0⟩
def Reg.JQ_CQ_HEAD (i : Nat) : Nat := 0x48020 + 0x40 * i
def Fld.JQ_CQ_HEAD_CQ_HEAD (i : Nat) : Field := ⟨Reg.JQ_CQ_HEAD i, 15, 0⟩
def Reg.JQ_INBOX (i : Nat) : Nat := 0x48024 + 0x40 * i
def Fld.JQ_INBOX_OFFSET (i : Nat) : Field := ⟨Reg.JQ_INBOX i, 16, 7⟩
def Reg.JQ_DONE (i : Nat) : Nat := 0x48028 + 0x40 * i
def Fld.JQ_DONE_SLOT (i : Nat) : Field := ⟨Reg.JQ_DONE i, 5, 0⟩
def Fld.JQ_DONE_ABORT (i : Nat) : Field := ⟨Reg.JQ_DONE i, 8, 8⟩
def Reg.JQ_STAT (i : Nat) : Nat := 0x4802c + 0x40 * i
def Fld.JQ_STAT_REFUSED (i : Nat) : Field := ⟨Reg.JQ_STAT i, 0, 0⟩
def Fld.JQ_STAT_INDEX_ERROR (i : Nat) : Field := ⟨Reg.JQ_STAT i, 1, 1⟩
def Fld.JQ_STAT_CQ_STALL (i : Nat) : Field := ⟨Reg.JQ_STAT i, 2, 2⟩
def Fld.JQ_STAT_NOT_OWNER (i : Nat) : Field := ⟨Reg.JQ_STAT i, 3, 3⟩
def Fld.JQ_STAT_CFG_ERROR (i : Nat) : Field := ⟨Reg.JQ_STAT i, 4, 4⟩
def Fld.JQ_STAT_LAST_REFUSE (i : Nat) : Field := ⟨Reg.JQ_STAT i, 15, 8⟩
def Fld.JQ_STAT_SEQ (i : Nat) : Field := ⟨Reg.JQ_STAT i, 31, 24⟩
/-! 07_host_dma.md -/
def Reg.MSIX_TABLE (i : Nat) : Nat := 0x4c000 + 0x4 * i
def Fld.MSIX_TABLE_WORD (i : Nat) : Field := ⟨Reg.MSIX_TABLE i, 31, 0⟩
def Reg.MSIX_PBA (i : Nat) : Nat := 0x4d000 + 0x4 * i
def Fld.MSIX_PBA_PENDING (i : Nat) : Field := ⟨Reg.MSIX_PBA i, 31, 0⟩
def Reg.MEMC_CH_CFG (i : Nat) : Nat := 0x50000 + 0x100 * i
def Fld.MEMC_CH_CFG_RATE (i : Nat) : Field := ⟨Reg.MEMC_CH_CFG i, 2, 0⟩
def Fld.MEMC_CH_CFG_TWO_RANK (i : Nat) : Field := ⟨Reg.MEMC_CH_CFG i, 3, 3⟩
def Fld.MEMC_CH_CFG_DENSITY (i : Nat) : Field := ⟨Reg.MEMC_CH_CFG i, 5, 4⟩
def Fld.MEMC_CH_CFG_X16 (i : Nat) : Field := ⟨Reg.MEMC_CH_CFG i, 6, 6⟩
def Fld.MEMC_CH_CFG_TRAIN (i : Nat) : Field := ⟨Reg.MEMC_CH_CFG i, 8, 8⟩
def Reg.MEMC_CH_STAT (i : Nat) : Nat := 0x50004 + 0x100 * i
def Fld.MEMC_CH_STAT_TRAIN_STATE (i : Nat) : Field := ⟨Reg.MEMC_CH_STAT i, 1, 0⟩
def Fld.MEMC_CH_STAT_FAIL_STEP (i : Nat) : Field := ⟨Reg.MEMC_CH_STAT i, 15, 8⟩
def Fld.MEMC_CH_STAT_CAPACITY (i : Nat) : Field := ⟨Reg.MEMC_CH_STAT i, 31, 16⟩
def Reg.MEMC_ECC_STAT (i : Nat) : Nat := 0x50008 + 0x100 * i
def Fld.MEMC_ECC_STAT_CE (i : Nat) : Field := ⟨Reg.MEMC_ECC_STAT i, 0, 0⟩
def Fld.MEMC_ECC_STAT_UE (i : Nat) : Field := ⟨Reg.MEMC_ECC_STAT i, 1, 1⟩
def Fld.MEMC_ECC_STAT_BY_SCRUB (i : Nat) : Field := ⟨Reg.MEMC_ECC_STAT i, 2, 2⟩
def Fld.MEMC_ECC_STAT_SEQ (i : Nat) : Field := ⟨Reg.MEMC_ECC_STAT i, 31, 24⟩
def Reg.MEMC_ECC_ADDR_LO (i : Nat) : Nat := 0x5000c + 0x100 * i
def Fld.MEMC_ECC_ADDR_LO_ADDR (i : Nat) : Field := ⟨Reg.MEMC_ECC_ADDR_LO i, 31, 0⟩
def Reg.MEMC_ECC_ADDR_HI (i : Nat) : Nat := 0x50010 + 0x100 * i
def Fld.MEMC_ECC_ADDR_HI_ADDR (i : Nat) : Field := ⟨Reg.MEMC_ECC_ADDR_HI i, 31, 0⟩
def Reg.MEMC_ECC_CNT (i : Nat) : Nat := 0x50014 + 0x100 * i
def Fld.MEMC_ECC_CNT_CE (i : Nat) : Field := ⟨Reg.MEMC_ECC_CNT i, 15, 0⟩
def Fld.MEMC_ECC_CNT_UE (i : Nat) : Field := ⟨Reg.MEMC_ECC_CNT i, 31, 16⟩
def Reg.MEMC_SCRUB : Nat := 0x50200
def Fld.MEMC_SCRUB_EN : Field := ⟨Reg.MEMC_SCRUB, 0, 0⟩
def Fld.MEMC_SCRUB_PERIOD : Field := ⟨Reg.MEMC_SCRUB, 15, 8⟩
/-! 08_raster_path.md -/
def Reg.RAS_SCAN (i : Nat) : Nat := 0x60800 + 0x10 * i
def Fld.RAS_SCAN_SCAN_EN (i : Nat) : Field := ⟨Reg.RAS_SCAN i, 0, 0⟩
def Fld.RAS_SCAN_PASSES (i : Nat) : Field := ⟨Reg.RAS_SCAN i, 2, 1⟩
def Fld.RAS_SCAN_PASS0 (i : Nat) : Field := ⟨Reg.RAS_SCAN i, 4, 3⟩
def Fld.RAS_SCAN_DIR0 (i : Nat) : Field := ⟨Reg.RAS_SCAN i, 5, 5⟩
def Fld.RAS_SCAN_UNIDIR (i : Nat) : Field := ⟨Reg.RAS_SCAN i, 6, 6⟩
def Fld.RAS_SCAN_PASS_LINES (i : Nat) : Field := ⟨Reg.RAS_SCAN i, 23, 8⟩
def Reg.RAS_SCAN_STAT (i : Nat) : Nat := 0x60804 + 0x10 * i
def Fld.RAS_SCAN_STAT_PASS (i : Nat) : Field := ⟨Reg.RAS_SCAN_STAT i, 1, 0⟩
def Fld.RAS_SCAN_STAT_DIR (i : Nat) : Field := ⟨Reg.RAS_SCAN_STAT i, 2, 2⟩
def Fld.RAS_SCAN_STAT_BLOCK (i : Nat) : Field := ⟨Reg.RAS_SCAN_STAT i, 31, 8⟩
def Reg.RAS_STREAM (i : Nat) : Nat := 0x61000 + 0x20 * i
def Fld.RAS_STREAM_ENABLE (i : Nat) : Field := ⟨Reg.RAS_STREAM i, 0, 0⟩
def Fld.RAS_STREAM_BPP (i : Nat) : Field := ⟨Reg.RAS_STREAM i, 1, 1⟩
def Fld.RAS_STREAM_ONE_LEVEL (i : Nat) : Field := ⟨Reg.RAS_STREAM i, 3, 2⟩
def Fld.RAS_STREAM_DCD (i : Nat) : Field := ⟨Reg.RAS_STREAM i, 5, 4⟩
def Fld.RAS_STREAM_PIPE (i : Nat) : Field := ⟨Reg.RAS_STREAM i, 8, 6⟩
def Fld.RAS_STREAM_CHANNEL (i : Nat) : Field := ⟨Reg.RAS_STREAM i, 20, 16⟩
def Fld.RAS_STREAM_LANES (i : Nat) : Field := ⟨Reg.RAS_STREAM i, 31, 24⟩
def Reg.RAS_STREAM_STAT (i : Nat) : Nat := 0x61004 + 0x20 * i
def Fld.RAS_STREAM_STAT_UNDERRUN (i : Nat) : Field := ⟨Reg.RAS_STREAM_STAT i, 0, 0⟩
def Fld.RAS_STREAM_STAT_POISONED (i : Nat) : Field := ⟨Reg.RAS_STREAM_STAT i, 1, 1⟩
def Fld.RAS_STREAM_STAT_CFG_ERROR (i : Nat) : Field := ⟨Reg.RAS_STREAM_STAT i, 2, 2⟩
def Fld.RAS_STREAM_STAT_ACTIVE (i : Nat) : Field := ⟨Reg.RAS_STREAM_STAT i, 8, 8⟩
def Fld.RAS_STREAM_STAT_SEQ (i : Nat) : Field := ⟨Reg.RAS_STREAM_STAT i, 31, 24⟩
def Reg.RAS_FILL (i : Nat) : Nat := 0x61008 + 0x20 * i
def Fld.RAS_FILL_LINES (i : Nat) : Field := ⟨Reg.RAS_FILL i, 23, 0⟩
def Reg.RAS_LINE_BYTES (i : Nat) : Nat := 0x6100c + 0x20 * i
def Fld.RAS_LINE_BYTES_BYTES (i : Nat) : Field := ⟨Reg.RAS_LINE_BYTES i, 15, 0⟩
def Reg.RAS_SKEW (i : Nat) : Nat := 0x62000 + 0x20 * i
def Fld.RAS_SKEW_DELAY (i : Nat) : Field := ⟨Reg.RAS_SKEW i, 17, 0⟩
def Fld.RAS_SKEW_PHASE (i : Nat) : Field := ⟨Reg.RAS_SKEW i, 29, 24⟩
def Reg.RAS_GEOM (i : Nat) : Nat := 0x62004 + 0x20 * i
def Fld.RAS_GEOM_ROWS (i : Nat) : Field := ⟨Reg.RAS_GEOM i, 1, 0⟩
def Fld.RAS_GEOM_SPLIT_EN (i : Nat) : Field := ⟨Reg.RAS_GEOM i, 2, 2⟩
def Fld.RAS_GEOM_X_OFF (i : Nat) : Field := ⟨Reg.RAS_GEOM i, 15, 8⟩
def Fld.RAS_GEOM_Y_OFF (i : Nat) : Field := ⟨Reg.RAS_GEOM i, 23, 16⟩
def Reg.RAS_MASKSEL (i : Nat) : Nat := 0x62008 + 0x20 * i
def Fld.RAS_MASKSEL_MASK (i : Nat) : Field := ⟨Reg.RAS_MASKSEL i, 5, 0⟩
def Reg.RAS_STITCH (i : Nat) : Nat := 0x6200c + 0x20 * i
def Fld.RAS_STITCH_WIDTH_L (i : Nat) : Field := ⟨Reg.RAS_STITCH i, 7, 0⟩
def Fld.RAS_STITCH_ID_L (i : Nat) : Field := ⟨Reg.RAS_STITCH i, 13, 8⟩
def Fld.RAS_STITCH_WIDTH_R (i : Nat) : Field := ⟨Reg.RAS_STITCH i, 23, 16⟩
def Fld.RAS_STITCH_ID_R (i : Nat) : Field := ⟨Reg.RAS_STITCH i, 29, 24⟩
def Reg.RAS_SUBCNT_A (i : Nat) : Nat := 0x62010 + 0x20 * i
def Fld.RAS_SUBCNT_A_REDIRECT (i : Nat) : Field := ⟨Reg.RAS_SUBCNT_A i, 15, 0⟩
def Fld.RAS_SUBCNT_A_ROWFALL (i : Nat) : Field := ⟨Reg.RAS_SUBCNT_A i, 31, 16⟩
def Reg.RAS_SUBCNT_B (i : Nat) : Nat := 0x62014 + 0x20 * i
def Fld.RAS_SUBCNT_B_SPLIT (i : Nat) : Field := ⟨Reg.RAS_SUBCNT_B i, 15, 0⟩
def Fld.RAS_SUBCNT_B_LOST (i : Nat) : Field := ⟨Reg.RAS_SUBCNT_B i, 31, 16⟩
/-! 09_dot_clock.md -/
def Reg.DCD_CTRL (i : Nat) : Nat := 0x68000 + 0x100 * i
def Fld.DCD_CTRL_MODE (i : Nat) : Field := ⟨Reg.DCD_CTRL i, 1, 0⟩
def Fld.DCD_CTRL_GO (i : Nat) : Field := ⟨Reg.DCD_CTRL i, 2, 2⟩
def Fld.DCD_CTRL_STOP (i : Nat) : Field := ⟨Reg.DCD_CTRL i, 3, 3⟩
def Fld.DCD_CTRL_DERATE (i : Nat) : Field := ⟨Reg.DCD_CTRL i, 4, 4⟩
def Fld.DCD_CTRL_STATE (i : Nat) : Field := ⟨Reg.DCD_CTRL i, 9, 8⟩
def Reg.DCD_SRC (i : Nat) : Nat := 0x68004 + 0x100 * i
def Fld.DCD_SRC_CHANNEL (i : Nat) : Field := ⟨Reg.DCD_SRC i, 3, 0⟩
def Fld.DCD_SRC_CMP (i : Nat) : Field := ⟨Reg.DCD_SRC i, 5, 4⟩
def Fld.DCD_SRC_REVERSE (i : Nat) : Field := ⟨Reg.DCD_SRC i, 8, 8⟩
def Fld.DCD_SRC_LEAD (i : Nat) : Field := ⟨Reg.DCD_SRC i, 31, 16⟩
def Reg.DCD_START (i : Nat) : Nat := 0x68008 + 0x100 * i
def Fld.DCD_START_LINE (i : Nat) : Field := ⟨Reg.DCD_START i, 31, 0⟩
def Reg.DCD_ORIGIN_LO (i : Nat) : Nat := 0x6800c + 0x100 * i
def Fld.DCD_ORIGIN_LO_POS (i : Nat) : Field := ⟨Reg.DCD_ORIGIN_LO i, 31, 0⟩
def Reg.DCD_ORIGIN_HI (i : Nat) : Nat := 0x68010 + 0x100 * i
def Fld.DCD_ORIGIN_HI_POS (i : Nat) : Field := ⟨Reg.DCD_ORIGIN_HI i, 31, 0⟩
def Reg.DCD_TMIN (i : Nat) : Nat := 0x68014 + 0x100 * i
def Fld.DCD_TMIN_TICKS (i : Nat) : Field := ⟨Reg.DCD_TMIN i, 23, 0⟩
def Reg.DCD_PITCH_LO (i : Nat) : Nat := 0x68018 + 0x100 * i
def Fld.DCD_PITCH_LO_FRAC (i : Nat) : Field := ⟨Reg.DCD_PITCH_LO i, 31, 0⟩
def Reg.DCD_PITCH_HI (i : Nat) : Nat := 0x6801c + 0x100 * i
def Fld.DCD_PITCH_HI_INT (i : Nat) : Field := ⟨Reg.DCD_PITCH_HI i, 31, 0⟩
def Reg.DCD_FREQ (i : Nat) : Nat := 0x68020 + 0x100 * i
def Fld.DCD_FREQ_FREQ (i : Nat) : Field := ⟨Reg.DCD_FREQ i, 31, 0⟩
def Reg.DCD_TRIM (i : Nat) : Nat := 0x68024 + 0x100 * i
def Fld.DCD_TRIM_TRIM (i : Nat) : Field := ⟨Reg.DCD_TRIM i, 5, 0⟩
/-! 04_register_model.md -/
def Reg.DCD_SHCTL (i : Nat) : Nat := 0x68028 + 0x100 * i
def Fld.DCD_SHCTL_ARM (i : Nat) : Field := ⟨Reg.DCD_SHCTL i, 0, 0⟩
def Fld.DCD_SHCTL_PENDING (i : Nat) : Field := ⟨Reg.DCD_SHCTL i, 1, 1⟩
def Fld.DCD_SHCTL_COMMIT_SEQ (i : Nat) : Field := ⟨Reg.DCD_SHCTL i, 15, 8⟩
/-! 09_dot_clock.md -/
def Reg.DCD_OVS (i : Nat) : Nat := 0x6802c + 0x100 * i
def Fld.DCD_OVS_TOL (i : Nat) : Field := ⟨Reg.DCD_OVS i, 7, 0⟩
def Fld.DCD_OVS_LAG_MAX (i : Nat) : Field := ⟨Reg.DCD_OVS i, 15, 8⟩
def Reg.DCD_SLOW (i : Nat) : Nat := 0x68030 + 0x100 * i
def Fld.DCD_SLOW_FILL_REF (i : Nat) : Field := ⟨Reg.DCD_SLOW i, 15, 0⟩
def Fld.DCD_SLOW_AXIS (i : Nat) : Field := ⟨Reg.DCD_SLOW i, 19, 16⟩
def Fld.DCD_SLOW_EN (i : Nat) : Field := ⟨Reg.DCD_SLOW i, 20, 20⟩
def Reg.DCD_DERATE (i : Nat) : Nat := 0x68034 + 0x100 * i
def Fld.DCD_DERATE_SLEW (i : Nat) : Field := ⟨Reg.DCD_DERATE i, 11, 0⟩
def Fld.DCD_DERATE_STEP (i : Nat) : Field := ⟨Reg.DCD_DERATE i, 23, 16⟩
def Fld.DCD_DERATE_HOLD (i : Nat) : Field := ⟨Reg.DCD_DERATE i, 31, 24⟩
def Reg.DCD_SPEED (i : Nat) : Nat := 0x68038 + 0x100 * i
def Fld.DCD_SPEED_S (i : Nat) : Field := ⟨Reg.DCD_SPEED i, 15, 0⟩
def Fld.DCD_SPEED_S_TARGET (i : Nat) : Field := ⟨Reg.DCD_SPEED i, 31, 16⟩
def Reg.DCD_STAT (i : Nat) : Nat := 0x6803c + 0x100 * i
def Fld.DCD_STAT_OVERSPEED (i : Nat) : Field := ⟨Reg.DCD_STAT i, 0, 0⟩
def Fld.DCD_STAT_LAG_LIMIT (i : Nat) : Field := ⟨Reg.DCD_STAT i, 1, 1⟩
def Fld.DCD_STAT_ISSUE_LATE (i : Nat) : Field := ⟨Reg.DCD_STAT i, 2, 2⟩
def Fld.DCD_STAT_PACING_LOSS (i : Nat) : Field := ⟨Reg.DCD_STAT i, 3, 3⟩
def Fld.DCD_STAT_CFG_ERROR (i : Nat) : Field := ⟨Reg.DCD_STAT i, 4, 4⟩
def Fld.DCD_STAT_DERATED (i : Nat) : Field := ⟨Reg.DCD_STAT i, 5, 5⟩
def Fld.DCD_STAT_SEQ (i : Nat) : Field := ⟨Reg.DCD_STAT i, 31, 24⟩
def Reg.DCD_LINE (i : Nat) : Nat := 0x68040 + 0x100 * i
def Fld.DCD_LINE_P (i : Nat) : Field := ⟨Reg.DCD_LINE i, 31, 0⟩
def Reg.DCD_PHASE (i : Nat) : Nat := 0x68044 + 0x100 * i
def Fld.DCD_PHASE_PHASE (i : Nat) : Field := ⟨Reg.DCD_PHASE i, 5, 0⟩
def Fld.DCD_PHASE_LAG (i : Nat) : Field := ⟨Reg.DCD_PHASE i, 31, 16⟩
def Reg.DCD_BOUND_TB_LO (i : Nat) : Nat := 0x68048 + 0x100 * i
def Fld.DCD_BOUND_TB_LO_TB (i : Nat) : Field := ⟨Reg.DCD_BOUND_TB_LO i, 31, 0⟩
def Reg.DCD_BOUND_TB_HI (i : Nat) : Nat := 0x6804c + 0x100 * i
def Fld.DCD_BOUND_TB_HI_TB (i : Nat) : Field := ⟨Reg.DCD_BOUND_TB_HI i, 31, 0⟩
def Reg.DCD_BLOCK_ORIGIN_LO (i : Nat) : Nat := 0x68050 + 0x100 * i
def Fld.DCD_BLOCK_ORIGIN_LO_POS (i : Nat) : Field := ⟨Reg.DCD_BLOCK_ORIGIN_LO i, 31, 0⟩
def Reg.DCD_BLOCK_ORIGIN_HI (i : Nat) : Nat := 0x68054 + 0x100 * i
def Fld.DCD_BLOCK_ORIGIN_HI_POS (i : Nat) : Field := ⟨Reg.DCD_BLOCK_ORIGIN_HI i, 31, 0⟩
def Reg.DCD_BLOCK_CTL (i : Nat) : Nat := 0x68058 + 0x100 * i
def Fld.DCD_BLOCK_CTL_VALID (i : Nat) : Field := ⟨Reg.DCD_BLOCK_CTL i, 0, 0⟩
/-! 10_firing_energy.md -/
def Reg.FH_WBASE (i : Nat) : Nat := 0x70000 + 0x100 * i
def Fld.FH_WBASE_W_BASE (i : Nat) : Field := ⟨Reg.FH_WBASE i, 15, 0⟩
def Reg.FH_WLIM (i : Nat) : Nat := 0x70004 + 0x100 * i
def Fld.FH_WLIM_W_MIN (i : Nat) : Field := ⟨Reg.FH_WLIM i, 11, 0⟩
def Fld.FH_WLIM_W_MAX (i : Nat) : Field := ⟨Reg.FH_WLIM i, 27, 16⟩
def Reg.FH_PRE (i : Nat) : Nat := 0x70008 + 0x100 * i
def Fld.FH_PRE_PRE_W (i : Nat) : Field := ⟨Reg.FH_PRE i, 7, 0⟩
def Fld.FH_PRE_PRE_GAP (i : Nat) : Field := ⟨Reg.FH_PRE i, 15, 8⟩
def Fld.FH_PRE_DROP_GAP (i : Nat) : Field := ⟨Reg.FH_PRE i, 27, 16⟩
def Reg.FH_SHCTL (i : Nat) : Nat := 0x7000c + 0x100 * i
def Fld.FH_SHCTL_ARM (i : Nat) : Field := ⟨Reg.FH_SHCTL i, 0, 0⟩
def Fld.FH_SHCTL_PENDING (i : Nat) : Field := ⟨Reg.FH_SHCTL i, 1, 1⟩
def Fld.FH_SHCTL_COMMIT_SEQ (i : Nat) : Field := ⟨Reg.FH_SHCTL i, 15, 8⟩
def Reg.FH_VNOM (i : Nat) : Nat := 0x70010 + 0x100 * i
def Fld.FH_VNOM_V_NOM (i : Nat) : Field := ⟨Reg.FH_VNOM i, 15, 0⟩
def Reg.FH_VWIN (i : Nat) : Nat := 0x70014 + 0x100 * i
def Fld.FH_VWIN_V_LO (i : Nat) : Field := ⟨Reg.FH_VWIN i, 15, 0⟩
def Fld.FH_VWIN_V_HI (i : Nat) : Field := ⟨Reg.FH_VWIN i, 31, 16⟩
def Reg.FH_TLIM (i : Nat) : Nat := 0x70018 + 0x100 * i
def Fld.FH_TLIM_T_SOFT (i : Nat) : Field := ⟨Reg.FH_TLIM i, 15, 0⟩
def Fld.FH_TLIM_T_HARD (i : Nat) : Field := ⟨Reg.FH_TLIM i, 31, 16⟩
def Reg.FH_KTCFG (i : Nat) : Nat := 0x7001c + 0x100 * i
def Fld.FH_KTCFG_T0 (i : Nat) : Field := ⟨Reg.FH_KTCFG i, 15, 0⟩
def Fld.FH_KTCFG_KT_SH (i : Nat) : Field := ⟨Reg.FH_KTCFG i, 19, 16⟩
def Fld.FH_KTCFG_KT_BANK (i : Nat) : Field := ⟨Reg.FH_KTCFG i, 20, 20⟩
def Reg.FH_RISE (i : Nat) : Nat := 0x70020 + 0x100 * i
def Fld.FH_RISE_K_RISE (i : Nat) : Field := ⟨Reg.FH_RISE i, 15, 0⟩
def Fld.FH_RISE_TAU_SH (i : Nat) : Field := ⟨Reg.FH_RISE i, 20, 16⟩
def Fld.FH_RISE_SENSE_TMO (i : Nat) : Field := ⟨Reg.FH_RISE i, 31, 24⟩
def Reg.FH_SPCFG (i : Nat) : Nat := 0x70024 + 0x100 * i
def Fld.FH_SPCFG_NSP_M1 (i : Nat) : Field := ⟨Reg.FH_SPCFG i, 3, 0⟩
def Reg.FH_DUTY (i : Nat) : Nat := 0x70028 + 0x100 * i
def Fld.FH_DUTY_DUTY_N (i : Nat) : Field := ⟨Reg.FH_DUTY i, 9, 0⟩
def Fld.FH_DUTY_DUTY_WIN (i : Nat) : Field := ⟨Reg.FH_DUTY i, 26, 16⟩
def Fld.FH_DUTY_GUARD_EN (i : Nat) : Field := ⟨Reg.FH_DUTY i, 31, 31⟩
def Reg.FH_BUDGET (i : Nat) : Nat := 0x7002c + 0x100 * i
def Fld.FH_BUDGET_BUDGET (i : Nat) : Field := ⟨Reg.FH_BUDGET i, 23, 0⟩
def Reg.FH_BWIN (i : Nat) : Nat := 0x70030 + 0x100 * i
def Fld.FH_BWIN_HB_WIN (i : Nat) : Field := ⟨Reg.FH_BWIN i, 15, 0⟩
def Reg.FH_CTRL (i : Nat) : Nat := 0x70034 + 0x100 * i
def Fld.FH_CTRL_CLR_INHIBIT (i : Nat) : Field := ⟨Reg.FH_CTRL i, 0, 0⟩
def Fld.FH_CTRL_FORCE_INHIBIT (i : Nat) : Field := ⟨Reg.FH_CTRL i, 1, 1⟩
def Reg.FH_STAT (i : Nat) : Nat := 0x70038 + 0x100 * i
def Fld.FH_STAT_T_SOFT (i : Nat) : Field := ⟨Reg.FH_STAT i, 0, 0⟩
def Fld.FH_STAT_INHIBIT_EV (i : Nat) : Field := ⟨Reg.FH_STAT i, 1, 1⟩
def Fld.FH_STAT_BUDGET (i : Nat) : Field := ⟨Reg.FH_STAT i, 2, 2⟩
def Fld.FH_STAT_CFG_ERROR (i : Nat) : Field := ⟨Reg.FH_STAT i, 3, 3⟩
def Fld.FH_STAT_CAUSE (i : Nat) : Field := ⟨Reg.FH_STAT i, 10, 8⟩
def Fld.FH_STAT_INHIBITED (i : Nat) : Field := ⟨Reg.FH_STAT i, 11, 11⟩
def Fld.FH_STAT_SEQ (i : Nat) : Field := ⟨Reg.FH_STAT i, 31, 24⟩
def Reg.FH_TEMP (i : Nat) : Nat := 0x7003c + 0x100 * i
def Fld.FH_TEMP_T_PEAK (i : Nat) : Field := ⟨Reg.FH_TEMP i, 15, 0⟩
def Fld.FH_TEMP_V_MEAS (i : Nat) : Field := ⟨Reg.FH_TEMP i, 31, 16⟩
def Reg.FH_KV (i : Nat) : Nat := 0x70040 + 0x100 * i
def Fld.FH_KV_KV (i : Nat) : Field := ⟨Reg.FH_KV i, 15, 0⟩
def Reg.FH_CNT (i : Nat) : Nat := 0x70044 + 0x100 * i
def Fld.FH_CNT_SUPPRESSED (i : Nat) : Field := ⟨Reg.FH_CNT i, 15, 0⟩
def Fld.FH_CNT_INHIBITS (i : Nat) : Field := ⟨Reg.FH_CNT i, 31, 16⟩
def Reg.FH_BUCKET (i : Nat) : Nat := 0x70048 + 0x100 * i
def Fld.FH_BUCKET_BH (i : Nat) : Field := ⟨Reg.FH_BUCKET i, 31, 0⟩
def Reg.FH_SPPOS (i j : Nat) : Nat := 0x70050 + 0x100 * i + 0x4 * j
def Fld.FH_SPPOS_POS_EVEN (i j : Nat) : Field := ⟨Reg.FH_SPPOS i j, 15, 0⟩
def Fld.FH_SPPOS_POS_ODD (i j : Nat) : Field := ⟨Reg.FH_SPPOS i j, 31, 16⟩
def Reg.FH_SENSE (i j : Nat) : Nat := 0x70070 + 0x100 * i + 0x4 * j
def Fld.FH_SENSE_TS_EVEN (i j : Nat) : Field := ⟨Reg.FH_SENSE i j, 15, 0⟩
def Fld.FH_SENSE_TS_ODD (i j : Nat) : Field := ⟨Reg.FH_SENSE i j, 31, 16⟩
def Reg.FH_RISEZ (i j : Nat) : Nat := 0x70090 + 0x100 * i + 0x4 * j
def Fld.FH_RISEZ_RISE (i j : Nat) : Field := ⟨Reg.FH_RISEZ i j, 31, 0⟩
def Reg.FIR_NZERR : Nat := 0x78000
def Fld.FIR_NZERR_PARITY : Field := ⟨Reg.FIR_NZERR, 0, 0⟩
def Fld.FIR_NZERR_STATE_BAD : Field := ⟨Reg.FIR_NZERR, 1, 1⟩
def Fld.FIR_NZERR_INDEX : Field := ⟨Reg.FIR_NZERR, 19, 2⟩
def Fld.FIR_NZERR_SEQ : Field := ⟨Reg.FIR_NZERR, 31, 24⟩
/-! 11_head_lanes.md -/
def Reg.HL_CTRL (i : Nat) : Nat := 0x80000 + 0x400 * i
def Fld.HL_CTRL_ENABLE (i : Nat) : Field := ⟨Reg.HL_CTRL i, 0, 0⟩
def Fld.HL_CTRL_ACQUIRE (i : Nat) : Field := ⟨Reg.HL_CTRL i, 1, 1⟩
def Fld.HL_CTRL_RELEASE (i : Nat) : Field := ⟨Reg.HL_CTRL i, 2, 2⟩
def Fld.HL_CTRL_RENEG (i : Nat) : Field := ⟨Reg.HL_CTRL i, 3, 3⟩
def Reg.HL_CFG (i : Nat) : Nat := 0x80004 + 0x400 * i
def Fld.HL_CFG_DCD (i : Nat) : Field := ⟨Reg.HL_CFG i, 1, 0⟩
def Fld.HL_CFG_RATE_MAX (i : Nat) : Field := ⟨Reg.HL_CFG i, 3, 2⟩
def Fld.HL_CFG_FIRE_RATE (i : Nat) : Field := ⟨Reg.HL_CFG i, 4, 4⟩
def Fld.HL_CFG_NPH_MAX (i : Nat) : Field := ⟨Reg.HL_CFG i, 7, 5⟩
def Fld.HL_CFG_RES_COARSE_OK (i : Nat) : Field := ⟨Reg.HL_CFG i, 8, 8⟩
def Reg.HL_NOZ (i : Nat) : Nat := 0x80008 + 0x400 * i
def Fld.HL_NOZ_NBASE (i : Nat) : Field := ⟨Reg.HL_NOZ i, 17, 0⟩
def Fld.HL_NOZ_COUNT (i : Nat) : Field := ⟨Reg.HL_NOZ i, 31, 18⟩
def Reg.HL_STAT (i : Nat) : Nat := 0x8000c + 0x400 * i
def Fld.HL_STAT_NEG_DONE (i : Nat) : Field := ⟨Reg.HL_STAT i, 0, 0⟩
def Fld.HL_STAT_NEG_FAIL (i : Nat) : Field := ⟨Reg.HL_STAT i, 1, 1⟩
def Fld.HL_STAT_LINK_DOWN (i : Nat) : Field := ⟨Reg.HL_STAT i, 2, 2⟩
def Fld.HL_STAT_GRANTED (i : Nat) : Field := ⟨Reg.HL_STAT i, 3, 3⟩
def Fld.HL_STAT_LEASE_LOST (i : Nat) : Field := ⟨Reg.HL_STAT i, 4, 4⟩
def Fld.HL_STAT_FIRE_LATE (i : Nat) : Field := ⟨Reg.HL_STAT i, 5, 5⟩
def Fld.HL_STAT_DATA_LOST (i : Nat) : Field := ⟨Reg.HL_STAT i, 6, 6⟩
def Fld.HL_STAT_BRIDGE_RESET (i : Nat) : Field := ⟨Reg.HL_STAT i, 7, 7⟩
def Fld.HL_STAT_CFG_ERROR (i : Nat) : Field := ⟨Reg.HL_STAT i, 8, 8⟩
def Fld.HL_STAT_SENSE_ERROR (i : Nat) : Field := ⟨Reg.HL_STAT i, 9, 9⟩
def Fld.HL_STAT_CTRL_TIMEOUT (i : Nat) : Field := ⟨Reg.HL_STAT i, 10, 10⟩
def Fld.HL_STAT_DENIED (i : Nat) : Field := ⟨Reg.HL_STAT i, 11, 11⟩
def Fld.HL_STAT_SEQ (i : Nat) : Field := ⟨Reg.HL_STAT i, 31, 24⟩
def Reg.HL_LINK (i : Nat) : Nat := 0x80010 + 0x400 * i
def Fld.HL_LINK_STATE (i : Nat) : Field := ⟨Reg.HL_LINK i, 1, 0⟩
def Fld.HL_LINK_RATE (i : Nat) : Field := ⟨Reg.HL_LINK i, 3, 2⟩
def Fld.HL_LINK_CRC32C (i : Nat) : Field := ⟨Reg.HL_LINK i, 4, 4⟩
def Fld.HL_LINK_RES_COARSE (i : Nat) : Field := ⟨Reg.HL_LINK i, 5, 5⟩
def Fld.HL_LINK_NPH (i : Nat) : Field := ⟨Reg.HL_LINK i, 8, 6⟩
def Fld.HL_LINK_FIRE_24K (i : Nat) : Field := ⟨Reg.HL_LINK i, 9, 9⟩
def Fld.HL_LINK_FIRE_TICKS (i : Nat) : Field := ⟨Reg.HL_LINK i, 31, 16⟩
def Reg.HL_LEASE (i : Nat) : Nat := 0x80014 + 0x400 * i
def Fld.HL_LEASE_STATE (i : Nat) : Field := ⟨Reg.HL_LEASE i, 1, 0⟩
def Fld.HL_LEASE_HOLDER_ID (i : Nat) : Field := ⟨Reg.HL_LEASE i, 2, 2⟩
def Fld.HL_LEASE_REMAIN (i : Nat) : Field := ⟨Reg.HL_LEASE i, 31, 16⟩
def Reg.HL_EPOCH (i : Nat) : Nat := 0x80018 + 0x400 * i
def Fld.HL_EPOCH_EPOCH (i : Nat) : Field := ⟨Reg.HL_EPOCH i, 31, 0⟩
def Reg.HL_PCAP (i j : Nat) : Nat := 0x80020 + 0x400 * i + 0x4 * j
def Fld.HL_PCAP_BYTES (i j : Nat) : Field := ⟨Reg.HL_PCAP i j, 31, 0⟩
def Reg.HL_CX_ADDR (i : Nat) : Nat := 0x80030 + 0x400 * i
def Fld.HL_CX_ADDR_VALUE (i : Nat) : Field := ⟨Reg.HL_CX_ADDR i, 31, 0⟩
def Reg.HL_CX_WDATA (i : Nat) : Nat := 0x80034 + 0x400 * i
def Fld.HL_CX_WDATA_VALUE (i : Nat) : Field := ⟨Reg.HL_CX_WDATA i, 31, 0⟩
def Reg.HL_CX_CMD (i : Nat) : Nat := 0x80038 + 0x400 * i
def Fld.HL_CX_CMD_GO (i : Nat) : Field := ⟨Reg.HL_CX_CMD i, 0, 0⟩
def Fld.HL_CX_CMD_OP (i : Nat) : Field := ⟨Reg.HL_CX_CMD i, 2, 1⟩
def Fld.HL_CX_CMD_BUSY (i : Nat) : Field := ⟨Reg.HL_CX_CMD i, 3, 3⟩
def Fld.HL_CX_CMD_STATUS (i : Nat) : Field := ⟨Reg.HL_CX_CMD i, 6, 4⟩
def Reg.HL_CX_RDATA (i : Nat) : Nat := 0x8003c + 0x400 * i
def Fld.HL_CX_RDATA_DATA (i : Nat) : Field := ⟨Reg.HL_CX_RDATA i, 31, 0⟩
def Reg.HL_ERRCNT (i : Nat) : Nat := 0x80040 + 0x400 * i
def Fld.HL_ERRCNT_FRAME_BAD (i : Nat) : Field := ⟨Reg.HL_ERRCNT i, 15, 0⟩
def Fld.HL_ERRCNT_LINES_LOST (i : Nat) : Field := ⟨Reg.HL_ERRCNT i, 31, 16⟩
/-! 12_drop_verification.md -/
def Reg.VFY_DCFG (i : Nat) : Nat := 0x90000 + 0x20 * i
def Fld.VFY_DCFG_CLEAR_LINES (i : Nat) : Field := ⟨Reg.VFY_DCFG i, 7, 0⟩
def Fld.VFY_DCFG_DARK_LINES (i : Nat) : Field := ⟨Reg.VFY_DCFG i, 15, 8⟩
def Fld.VFY_DCFG_SETTLE_LINES (i : Nat) : Field := ⟨Reg.VFY_DCFG i, 23, 16⟩
def Fld.VFY_DCFG_TEST_DROPS (i : Nat) : Field := ⟨Reg.VFY_DCFG i, 25, 24⟩
def Fld.VFY_DCFG_DEGR_POLICY (i : Nat) : Field := ⟨Reg.VFY_DCFG i, 27, 26⟩
def Fld.VFY_DCFG_EN (i : Nat) : Field := ⟨Reg.VFY_DCFG i, 31, 31⟩
def Reg.VFY_DET (i : Nat) : Nat := 0x90004 + 0x20 * i
def Fld.VFY_DET_K (i : Nat) : Field := ⟨Reg.VFY_DET i, 7, 0⟩
def Fld.VFY_DET_MAD_MIN (i : Nat) : Field := ⟨Reg.VFY_DET i, 15, 8⟩
def Fld.VFY_DET_MAD_MAX (i : Nat) : Field := ⟨Reg.VFY_DET i, 27, 16⟩
def Reg.VFY_WIN (i : Nat) : Nat := 0x90008 + 0x20 * i
def Fld.VFY_WIN_TW_START (i : Nat) : Field := ⟨Reg.VFY_WIN i, 11, 0⟩
def Fld.VFY_WIN_TW_LEN (i : Nat) : Field := ⟨Reg.VFY_WIN i, 27, 16⟩
def Reg.VFY_CLS (i : Nat) : Nat := 0x9000c + 0x20 * i
def Fld.VFY_CLS_DEPTH_WEAK (i : Nat) : Field := ⟨Reg.VFY_CLS i, 11, 0⟩
def Fld.VFY_CLS_VEL_TOL (i : Nat) : Field := ⟨Reg.VFY_CLS i, 23, 16⟩
def Fld.VFY_CLS_DARK_START (i : Nat) : Field := ⟨Reg.VFY_CLS i, 31, 24⟩
def Reg.VFY_HOLD_REL : Nat := 0x90100
def Fld.VFY_HOLD_REL_NOZZLE : Field := ⟨Reg.VFY_HOLD_REL, 17, 0⟩
def Reg.VFY_HOLD_CNT (i : Nat) : Nat := 0x90140 + 0x4 * i
def Fld.VFY_HOLD_CNT_COUNT (i : Nat) : Field := ⟨Reg.VFY_HOLD_CNT i, 8, 0⟩
def Reg.VFY_LGATE (i : Nat) : Nat := 0x90200 + 0x4 * i
def Fld.VFY_LGATE_EN (i : Nat) : Field := ⟨Reg.VFY_LGATE i, 0, 0⟩
def Fld.VFY_LGATE_LANE (i : Nat) : Field := ⟨Reg.VFY_LGATE i, 6, 1⟩
def Fld.VFY_LGATE_INVERT (i : Nat) : Field := ⟨Reg.VFY_LGATE i, 7, 7⟩
def Reg.VFY_LANE (i : Nat) : Nat := 0x91000 + 0x20 * i
def Fld.VFY_LANE_EN (i : Nat) : Field := ⟨Reg.VFY_LANE i, 0, 0⟩
def Fld.VFY_LANE_LOCAL (i : Nat) : Field := ⟨Reg.VFY_LANE i, 1, 1⟩
def Fld.VFY_LANE_LGATE (i : Nat) : Field := ⟨Reg.VFY_LANE i, 3, 2⟩
def Fld.VFY_LANE_THR_VALID (i : Nat) : Field := ⟨Reg.VFY_LANE i, 4, 4⟩
def Reg.VFY_VEL (i : Nat) : Nat := 0x91004 + 0x20 * i
def Fld.VFY_VEL_T_REF (i : Nat) : Field := ⟨Reg.VFY_VEL i, 15, 0⟩
def Fld.VFY_VEL_OFS (i : Nat) : Field := ⟨Reg.VFY_VEL i, 27, 16⟩
def Reg.VFY_CURSOR (i : Nat) : Nat := 0x91008 + 0x20 * i
def Fld.VFY_CURSOR_POS (i : Nat) : Field := ⟨Reg.VFY_CURSOR i, 12, 0⟩
def Reg.VFY_LSTAT (i : Nat) : Nat := 0x9100c + 0x20 * i
def Fld.VFY_LSTAT_MISS (i : Nat) : Field := ⟨Reg.VFY_LSTAT i, 0, 0⟩
def Fld.VFY_LSTAT_HOLD_FULL (i : Nat) : Field := ⟨Reg.VFY_LSTAT i, 1, 1⟩
def Fld.VFY_LSTAT_NO_REPORT (i : Nat) : Field := ⟨Reg.VFY_LSTAT i, 2, 2⟩
def Fld.VFY_LSTAT_MISMATCH (i : Nat) : Field := ⟨Reg.VFY_LSTAT i, 3, 3⟩
def Fld.VFY_LSTAT_CAL_ABORT (i : Nat) : Field := ⟨Reg.VFY_LSTAT i, 4, 4⟩
def Fld.VFY_LSTAT_CFG_ERROR (i : Nat) : Field := ⟨Reg.VFY_LSTAT i, 5, 5⟩
def Fld.VFY_LSTAT_ABORT_REASON (i : Nat) : Field := ⟨Reg.VFY_LSTAT i, 10, 8⟩
def Fld.VFY_LSTAT_SEQ (i : Nat) : Field := ⟨Reg.VFY_LSTAT i, 31, 24⟩
def Reg.VFY_RESQ (i : Nat) : Nat := 0x91010 + 0x20 * i
def Fld.VFY_RESQ_RD (i : Nat) : Field := ⟨Reg.VFY_RESQ i, 5, 0⟩
def Fld.VFY_RESQ_WR (i : Nat) : Field := ⟨Reg.VFY_RESQ i, 13, 8⟩
def Fld.VFY_RESQ_OVF (i : Nat) : Field := ⟨Reg.VFY_RESQ i, 31, 16⟩
def Reg.VFY_LCNT (i : Nat) : Nat := 0x91014 + 0x20 * i
def Fld.VFY_LCNT_MISSES (i : Nat) : Field := ⟨Reg.VFY_LCNT i, 15, 0⟩
def Fld.VFY_LCNT_WEAKS (i : Nat) : Field := ⟨Reg.VFY_LCNT i, 31, 16⟩
def Reg.VFY_LEVELS (i j : Nat) : Nat := 0x94000 + 0x40 * i + 0x4 * j
def Fld.VFY_LEVELS_BASE (i j : Nat) : Field := ⟨Reg.VFY_LEVELS i j, 11, 0⟩
def Fld.VFY_LEVELS_THR (i j : Nat) : Field := ⟨Reg.VFY_LEVELS i j, 27, 16⟩
def Reg.VFY_HOLD_ENT (i j : Nat) : Nat := 0x96000 + 0x400 * i + 0x4 * j
def Fld.VFY_HOLD_ENT_NOZZLE (i j : Nat) : Field := ⟨Reg.VFY_HOLD_ENT i j, 17, 0⟩
def Fld.VFY_HOLD_ENT_VALID (i j : Nat) : Field := ⟨Reg.VFY_HOLD_ENT i j, 31, 31⟩
def Reg.VFY_RING (i j : Nat) : Nat := 0x98000 + 0x200 * i + 0x4 * j
def Fld.VFY_RING_WORD (i j : Nat) : Field := ⟨Reg.VFY_RING i j, 31, 0⟩
/-! 13_motion.md -/
def Reg.MOT_CTRL (i : Nat) : Nat := 0xa0000 + 0x200 * i
def Fld.MOT_CTRL_ENABLE (i : Nat) : Field := ⟨Reg.MOT_CTRL i, 0, 0⟩
def Fld.MOT_CTRL_GO (i : Nat) : Field := ⟨Reg.MOT_CTRL i, 1, 1⟩
def Fld.MOT_CTRL_STOP (i : Nat) : Field := ⟨Reg.MOT_CTRL i, 2, 2⟩
def Fld.MOT_CTRL_QSTOP (i : Nat) : Field := ⟨Reg.MOT_CTRL i, 3, 3⟩
def Fld.MOT_CTRL_HOME (i : Nat) : Field := ⟨Reg.MOT_CTRL i, 4, 4⟩
def Reg.MOT_CFG (i : Nat) : Nat := 0xa0004 + 0x200 * i
def Fld.MOT_CFG_KIND (i : Nat) : Field := ⟨Reg.MOT_CFG i, 1, 0⟩
def Fld.MOT_CFG_MODE (i : Nat) : Field := ⟨Reg.MOT_CFG i, 3, 2⟩
def Fld.MOT_CFG_NO_OVERSHOOT (i : Nat) : Field := ⟨Reg.MOT_CFG i, 4, 4⟩
def Fld.MOT_CFG_DIR_INV (i : Nat) : Field := ⟨Reg.MOT_CFG i, 5, 5⟩
def Fld.MOT_CFG_LIM_EN (i : Nat) : Field := ⟨Reg.MOT_CFG i, 6, 6⟩
def Fld.MOT_CFG_LIM_INV (i : Nat) : Field := ⟨Reg.MOT_CFG i, 7, 7⟩
def Fld.MOT_CFG_HOME_INV (i : Nat) : Field := ⟨Reg.MOT_CFG i, 8, 8⟩
def Fld.MOT_CFG_FB (i : Nat) : Field := ⟨Reg.MOT_CFG i, 15, 12⟩
def Reg.MOT_STEPCFG (i : Nat) : Nat := 0xa0008 + 0x200 * i
def Fld.MOT_STEPCFG_STEP_W (i : Nat) : Field := ⟨Reg.MOT_STEPCFG i, 7, 0⟩
def Fld.MOT_STEPCFG_DIR_SETUP (i : Nat) : Field := ⟨Reg.MOT_STEPCFG i, 15, 8⟩
def Reg.MOT_TARGET_LO (i : Nat) : Nat := 0xa000c + 0x200 * i
def Fld.MOT_TARGET_LO_TARGET (i : Nat) : Field := ⟨Reg.MOT_TARGET_LO i, 31, 0⟩
def Reg.MOT_TARGET_HI (i : Nat) : Nat := 0xa0010 + 0x200 * i
def Fld.MOT_TARGET_HI_TARGET (i : Nat) : Field := ⟨Reg.MOT_TARGET_HI i, 31, 0⟩
def Reg.MOT_VSTART (i : Nat) : Nat := 0xa0014 + 0x200 * i
def Fld.MOT_VSTART_V (i : Nat) : Field := ⟨Reg.MOT_VSTART i, 31, 0⟩
def Reg.MOT_VSTOP (i : Nat) : Nat := 0xa0018 + 0x200 * i
def Fld.MOT_VSTOP_V (i : Nat) : Field := ⟨Reg.MOT_VSTOP i, 31, 0⟩
def Reg.MOT_VCORNER (i : Nat) : Nat := 0xa001c + 0x200 * i
def Fld.MOT_VCORNER_V (i : Nat) : Field := ⟨Reg.MOT_VCORNER i, 31, 0⟩
def Reg.MOT_VMAX (i : Nat) : Nat := 0xa0020 + 0x200 * i
def Fld.MOT_VMAX_V (i : Nat) : Field := ⟨Reg.MOT_VMAX i, 31, 0⟩
def Reg.MOT_A1 (i : Nat) : Nat := 0xa0024 + 0x200 * i
def Fld.MOT_A1_A (i : Nat) : Field := ⟨Reg.MOT_A1 i, 31, 0⟩
def Reg.MOT_A2 (i : Nat) : Nat := 0xa0028 + 0x200 * i
def Fld.MOT_A2_A (i : Nat) : Field := ⟨Reg.MOT_A2 i, 31, 0⟩
def Reg.MOT_D1 (i : Nat) : Nat := 0xa002c + 0x200 * i
def Fld.MOT_D1_A (i : Nat) : Field := ⟨Reg.MOT_D1 i, 31, 0⟩
def Reg.MOT_D2 (i : Nat) : Nat := 0xa0030 + 0x200 * i
def Fld.MOT_D2_A (i : Nat) : Field := ⟨Reg.MOT_D2 i, 31, 0⟩
def Reg.MOT_QSDEC (i : Nat) : Nat := 0xa0034 + 0x200 * i
def Fld.MOT_QSDEC_A (i : Nat) : Field := ⟨Reg.MOT_QSDEC i, 31, 0⟩
def Reg.MOT_VEL (i : Nat) : Nat := 0xa0038 + 0x200 * i
def Fld.MOT_VEL_V (i : Nat) : Field := ⟨Reg.MOT_VEL i, 31, 0⟩
def Reg.MOT_POS_LO (i : Nat) : Nat := 0xa003c + 0x200 * i
def Fld.MOT_POS_LO_POS (i : Nat) : Field := ⟨Reg.MOT_POS_LO i, 31, 0⟩
def Reg.MOT_POS_HI (i : Nat) : Nat := 0xa0040 + 0x200 * i
def Fld.MOT_POS_HI_POS (i : Nat) : Field := ⟨Reg.MOT_POS_HI i, 31, 0⟩
def Reg.MOT_SPEED (i : Nat) : Nat := 0xa0044 + 0x200 * i
def Fld.MOT_SPEED_V (i : Nat) : Field := ⟨Reg.MOT_SPEED i, 31, 0⟩
def Reg.MOT_STAT (i : Nat) : Nat := 0xa0048 + 0x200 * i
def Fld.MOT_STAT_DONE (i : Nat) : Field := ⟨Reg.MOT_STAT i, 0, 0⟩
def Fld.MOT_STAT_OVERSHOOT (i : Nat) : Field := ⟨Reg.MOT_STAT i, 1, 1⟩
def Fld.MOT_STAT_STALL (i : Nat) : Field := ⟨Reg.MOT_STAT i, 2, 2⟩
def Fld.MOT_STAT_LIMIT (i : Nat) : Field := ⟨Reg.MOT_STAT i, 3, 3⟩
def Fld.MOT_STAT_HOME_FAULT (i : Nat) : Field := ⟨Reg.MOT_STAT i, 4, 4⟩
def Fld.MOT_STAT_STEP_RATE (i : Nat) : Field := ⟨Reg.MOT_STAT i, 5, 5⟩
def Fld.MOT_STAT_CFG_ERROR (i : Nat) : Field := ⟨Reg.MOT_STAT i, 6, 6⟩
def Fld.MOT_STAT_HFAULT_CAUSE (i : Nat) : Field := ⟨Reg.MOT_STAT i, 10, 8⟩
def Fld.MOT_STAT_SEQ (i : Nat) : Field := ⟨Reg.MOT_STAT i, 31, 24⟩
def Reg.MOT_STATE (i : Nat) : Nat := 0xa004c + 0x200 * i
def Fld.MOT_STATE_STATE (i : Nat) : Field := ⟨Reg.MOT_STATE i, 2, 0⟩
def Fld.MOT_STATE_LIMP_IN (i : Nat) : Field := ⟨Reg.MOT_STATE i, 3, 3⟩
def Fld.MOT_STATE_LIMN_IN (i : Nat) : Field := ⟨Reg.MOT_STATE i, 4, 4⟩
def Fld.MOT_STATE_HOME_IN (i : Nat) : Field := ⟨Reg.MOT_STATE i, 5, 5⟩
def Fld.MOT_STATE_NEG (i : Nat) : Field := ⟨Reg.MOT_STATE i, 6, 6⟩
def Fld.MOT_STATE_MISMATCH (i : Nat) : Field := ⟨Reg.MOT_STATE i, 7, 7⟩
def Reg.MOT_DEVWIN (i : Nat) : Nat := 0xa0050 + 0x200 * i
def Fld.MOT_DEVWIN_WIN (i : Nat) : Field := ⟨Reg.MOT_DEVWIN i, 23, 0⟩
def Reg.MOT_DEVTIME (i : Nat) : Nat := 0xa0054 + 0x200 * i
def Fld.MOT_DEVTIME_TICKS (i : Nat) : Field := ⟨Reg.MOT_DEVTIME i, 15, 0⟩
def Reg.MOT_FBSCALE (i : Nat) : Nat := 0xa0058 + 0x200 * i
def Fld.MOT_FBSCALE_K (i : Nat) : Field := ⟨Reg.MOT_FBSCALE i, 31, 0⟩
def Reg.MOT_DEV (i : Nat) : Nat := 0xa005c + 0x200 * i
def Fld.MOT_DEV_DEV (i : Nat) : Field := ⟨Reg.MOT_DEV i, 31, 0⟩
def Reg.MOT_HCFG (i : Nat) : Nat := 0xa0060 + 0x200 * i
def Fld.MOT_HCFG_HDIR (i : Nat) : Field := ⟨Reg.MOT_HCFG i, 0, 0⟩
def Fld.MOT_HCFG_DEB (i : Nat) : Field := ⟨Reg.MOT_HCFG i, 16, 4⟩
def Fld.MOT_HCFG_CHAT_MAX (i : Nat) : Field := ⟨Reg.MOT_HCFG i, 31, 24⟩
def Reg.MOT_HCHATWIN (i : Nat) : Nat := 0xa0064 + 0x200 * i
def Fld.MOT_HCHATWIN_WIN (i : Nat) : Field := ⟨Reg.MOT_HCHATWIN i, 15, 0⟩
def Reg.MOT_HFAST (i : Nat) : Nat := 0xa0068 + 0x200 * i
def Fld.MOT_HFAST_V (i : Nat) : Field := ⟨Reg.MOT_HFAST i, 31, 0⟩
def Reg.MOT_HSLOW (i : Nat) : Nat := 0xa006c + 0x200 * i
def Fld.MOT_HSLOW_V (i : Nat) : Field := ⟨Reg.MOT_HSLOW i, 31, 0⟩
def Reg.MOT_HBACK (i : Nat) : Nat := 0xa0070 + 0x200 * i
def Fld.MOT_HBACK_COUNTS (i : Nat) : Field := ⟨Reg.MOT_HBACK i, 23, 0⟩
def Reg.MOT_HOFS_LO (i : Nat) : Nat := 0xa0074 + 0x200 * i
def Fld.MOT_HOFS_LO_POS (i : Nat) : Field := ⟨Reg.MOT_HOFS_LO i, 31, 0⟩
def Reg.MOT_HOFS_HI (i : Nat) : Nat := 0xa0078 + 0x200 * i
def Fld.MOT_HOFS_HI_POS (i : Nat) : Field := ⟨Reg.MOT_HOFS_HI i, 31, 0⟩
def Reg.MOT_HLATCH_LO (i : Nat) : Nat := 0xa007c + 0x200 * i
def Fld.MOT_HLATCH_LO_POS (i : Nat) : Field := ⟨Reg.MOT_HLATCH_LO i, 31, 0⟩
def Reg.MOT_HLATCH_HI (i : Nat) : Nat := 0xa0080 + 0x200 * i
def Fld.MOT_HLATCH_HI_POS (i : Nat) : Field := ⟨Reg.MOT_HLATCH_HI i, 31, 0⟩
def Reg.MOT_GCFG (i : Nat) : Nat := 0xa0084 + 0x200 * i
def Fld.MOT_GCFG_MASTER (i : Nat) : Field := ⟨Reg.MOT_GCFG i, 3, 0⟩
def Reg.MOT_GNUM (i : Nat) : Nat := 0xa0088 + 0x200 * i
def Fld.MOT_GNUM_NUM (i : Nat) : Field := ⟨Reg.MOT_GNUM i, 31, 0⟩
def Reg.MOT_GDEN (i : Nat) : Nat := 0xa008c + 0x200 * i
def Fld.MOT_GDEN_DEN (i : Nat) : Field := ⟨Reg.MOT_GDEN i, 31, 0⟩
def Reg.MOT_GAT_LO (i : Nat) : Nat := 0xa0090 + 0x200 * i
def Fld.MOT_GAT_LO_POS (i : Nat) : Field := ⟨Reg.MOT_GAT_LO i, 31, 0⟩
def Reg.MOT_GAT_HI (i : Nat) : Nat := 0xa0094 + 0x200 * i
def Fld.MOT_GAT_HI_POS (i : Nat) : Field := ⟨Reg.MOT_GAT_HI i, 31, 0⟩
def Reg.MOT_GATCTL (i : Nat) : Nat := 0xa0098 + 0x200 * i
def Fld.MOT_GATCTL_AT_EN (i : Nat) : Field := ⟨Reg.MOT_GATCTL i, 0, 0⟩
def Reg.MOT_GSHCTL (i : Nat) : Nat := 0xa009c + 0x200 * i
def Fld.MOT_GSHCTL_ARM (i : Nat) : Field := ⟨Reg.MOT_GSHCTL i, 0, 0⟩
def Fld.MOT_GSHCTL_PENDING (i : Nat) : Field := ⟨Reg.MOT_GSHCTL i, 1, 1⟩
def Fld.MOT_GSHCTL_COMMIT_SEQ (i : Nat) : Field := ⟨Reg.MOT_GSHCTL i, 15, 8⟩
def Reg.GRP_CFG (i : Nat) : Nat := 0xa8000 + 0x10 * i
def Fld.GRP_CFG_MEMBERS (i : Nat) : Field := ⟨Reg.GRP_CFG i, 15, 0⟩
def Reg.GRP_CTRL (i : Nat) : Nat := 0xa8004 + 0x10 * i
def Fld.GRP_CTRL_GO (i : Nat) : Field := ⟨Reg.GRP_CTRL i, 0, 0⟩
def Fld.GRP_CTRL_STOP (i : Nat) : Field := ⟨Reg.GRP_CTRL i, 1, 1⟩
def Reg.GRP_STAT (i : Nat) : Nat := 0xa8008 + 0x10 * i
def Fld.GRP_STAT_DONE (i : Nat) : Field := ⟨Reg.GRP_STAT i, 0, 0⟩
def Fld.GRP_STAT_CFG_ERROR (i : Nat) : Field := ⟨Reg.GRP_STAT i, 1, 1⟩
def Fld.GRP_STAT_LEAD (i : Nat) : Field := ⟨Reg.GRP_STAT i, 19, 16⟩
def Fld.GRP_STAT_SEQ (i : Nat) : Field := ⟨Reg.GRP_STAT i, 31, 24⟩
def Reg.REJ_CFG (i : Nat) : Nat := 0xa9000 + 0x20 * i
def Fld.REJ_CFG_EN (i : Nat) : Field := ⟨Reg.REJ_CFG i, 0, 0⟩
def Fld.REJ_CFG_DCD (i : Nat) : Field := ⟨Reg.REJ_CFG i, 2, 1⟩
def Fld.REJ_CFG_CHANNEL (i : Nat) : Field := ⟨Reg.REJ_CFG i, 7, 4⟩
def Reg.REJ_DIST (i : Nat) : Nat := 0xa9004 + 0x20 * i
def Fld.REJ_DIST_COUNTS (i : Nat) : Field := ⟨Reg.REJ_DIST i, 31, 0⟩
def Reg.REJ_LEN (i : Nat) : Nat := 0xa9008 + 0x20 * i
def Fld.REJ_LEN_COUNTS (i : Nat) : Field := ⟨Reg.REJ_LEN i, 31, 0⟩
def Reg.REJ_STAT (i : Nat) : Nat := 0xa900c + 0x20 * i
def Fld.REJ_STAT_PULSE (i : Nat) : Field := ⟨Reg.REJ_STAT i, 0, 0⟩
def Fld.REJ_STAT_LATE (i : Nat) : Field := ⟨Reg.REJ_STAT i, 1, 1⟩
def Fld.REJ_STAT_QUEUE_FULL (i : Nat) : Field := ⟨Reg.REJ_STAT i, 2, 2⟩
def Fld.REJ_STAT_OVF_SPAN (i : Nat) : Field := ⟨Reg.REJ_STAT i, 3, 3⟩
def Fld.REJ_STAT_CFG_ERROR (i : Nat) : Field := ⟨Reg.REJ_STAT i, 4, 4⟩
def Fld.REJ_STAT_QUEUED (i : Nat) : Field := ⟨Reg.REJ_STAT i, 16, 8⟩
def Fld.REJ_STAT_SEQ (i : Nat) : Field := ⟨Reg.REJ_STAT i, 31, 24⟩
def Reg.REJ_CNT (i : Nat) : Nat := 0xa9010 + 0x20 * i
def Fld.REJ_CNT_PULSES (i : Nat) : Field := ⟨Reg.REJ_CNT i, 15, 0⟩
def Fld.REJ_CNT_LATE (i : Nat) : Field := ⟨Reg.REJ_CNT i, 31, 16⟩
/-! 14_position_feedback.md -/
def Reg.FB_CTRL (i : Nat) : Nat := 0xb0000 + 0x200 * i
def Fld.FB_CTRL_EN (i : Nat) : Field := ⟨Reg.FB_CTRL i, 0, 0⟩
def Fld.FB_CTRL_REDETECT (i : Nat) : Field := ⟨Reg.FB_CTRL i, 1, 1⟩
def Reg.FB_CFG (i : Nat) : Nat := 0xb0004 + 0x200 * i
def Fld.FB_CFG_MODE (i : Nat) : Field := ⟨Reg.FB_CFG i, 2, 0⟩
def Fld.FB_CFG_DIR_INV (i : Nat) : Field := ⟨Reg.FB_CFG i, 3, 3⟩
def Fld.FB_CFG_INDEX_EN (i : Nat) : Field := ⟨Reg.FB_CFG i, 4, 4⟩
def Fld.FB_CFG_INDEX_GATE (i : Nat) : Field := ⟨Reg.FB_CFG i, 5, 5⟩
def Fld.FB_CFG_CORRECT_ON_INDEX (i : Nat) : Field := ⟨Reg.FB_CFG i, 6, 6⟩
def Fld.FB_CFG_FILT (i : Nat) : Field := ⟨Reg.FB_CFG i, 15, 8⟩
def Fld.FB_CFG_IP_SH (i : Nat) : Field := ⟨Reg.FB_CFG i, 19, 16⟩
def Reg.FB_POS_LO (i : Nat) : Nat := 0xb0008 + 0x200 * i
def Fld.FB_POS_LO_POS (i : Nat) : Field := ⟨Reg.FB_POS_LO i, 31, 0⟩
def Reg.FB_POS_HI (i : Nat) : Nat := 0xb000c + 0x200 * i
def Fld.FB_POS_HI_POS (i : Nat) : Field := ⟨Reg.FB_POS_HI i, 31, 0⟩
def Reg.FB_POS_FRAC (i : Nat) : Nat := 0xb0010 + 0x200 * i
def Fld.FB_POS_FRAC_FRAC (i : Nat) : Field := ⟨Reg.FB_POS_FRAC i, 31, 0⟩
def Reg.FB_SPEED (i : Nat) : Nat := 0xb0014 + 0x200 * i
def Fld.FB_SPEED_V (i : Nat) : Field := ⟨Reg.FB_SPEED i, 31, 0⟩
def Reg.FB_LSTMO (i : Nat) : Nat := 0xb0018 + 0x200 * i
def Fld.FB_LSTMO_US (i : Nat) : Field := ⟨Reg.FB_LSTMO i, 15, 0⟩
def Reg.FB_LATENCY (i : Nat) : Nat := 0xb001c + 0x200 * i
def Fld.FB_LATENCY_TICKS (i : Nat) : Field := ⟨Reg.FB_LATENCY i, 15, 0⟩
def Reg.FB_STAT (i : Nat) : Nat := 0xb0020 + 0x200 * i
def Fld.FB_STAT_DIR_CHG (i : Nat) : Field := ⟨Reg.FB_STAT i, 0, 0⟩
def Fld.FB_STAT_ILLEGAL_FAULT (i : Nat) : Field := ⟨Reg.FB_STAT i, 1, 1⟩
def Fld.FB_STAT_IDX_MISMATCH (i : Nat) : Field := ⟨Reg.FB_STAT i, 2, 2⟩
def Fld.FB_STAT_IDX_FAULT (i : Nat) : Field := ⟨Reg.FB_STAT i, 3, 3⟩
def Fld.FB_STAT_SIG_LOSS (i : Nat) : Field := ⟨Reg.FB_STAT i, 4, 4⟩
def Fld.FB_STAT_DETECT_FAIL (i : Nat) : Field := ⟨Reg.FB_STAT i, 5, 5⟩
def Fld.FB_STAT_CFG_ERROR (i : Nat) : Field := ⟨Reg.FB_STAT i, 6, 6⟩
def Fld.FB_STAT_CMP_SKIP (i : Nat) : Field := ⟨Reg.FB_STAT i, 7, 7⟩
def Fld.FB_STAT_IGN_CORR (i : Nat) : Field := ⟨Reg.FB_STAT i, 8, 8⟩
def Fld.FB_STAT_OWNED_WR (i : Nat) : Field := ⟨Reg.FB_STAT i, 9, 9⟩
def Fld.FB_STAT_SEQ (i : Nat) : Field := ⟨Reg.FB_STAT i, 31, 24⟩
def Reg.FB_LIVE (i : Nat) : Nat := 0xb0024 + 0x200 * i
def Fld.FB_LIVE_DIR (i : Nat) : Field := ⟨Reg.FB_LIVE i, 0, 0⟩
def Fld.FB_LIVE_LOW_SPEED (i : Nat) : Field := ⟨Reg.FB_LIVE i, 1, 1⟩
def Fld.FB_LIVE_DETECTED (i : Nat) : Field := ⟨Reg.FB_LIVE i, 2, 2⟩
def Fld.FB_LIVE_DET_MODE (i : Nat) : Field := ⟨Reg.FB_LIVE i, 4, 3⟩
def Fld.FB_LIVE_SIG_OK (i : Nat) : Field := ⟨Reg.FB_LIVE i, 5, 5⟩
def Fld.FB_LIVE_POS_UNSURE (i : Nat) : Field := ⟨Reg.FB_LIVE i, 6, 6⟩
def Reg.FB_ERRCFG (i : Nat) : Nat := 0xb0028 + 0x200 * i
def Fld.FB_ERRCFG_ERR_MAX (i : Nat) : Field := ⟨Reg.FB_ERRCFG i, 4, 0⟩
def Fld.FB_ERRCFG_ERR_WIN (i : Nat) : Field := ⟨Reg.FB_ERRCFG i, 31, 16⟩
def Reg.FB_ERRCNT (i : Nat) : Nat := 0xb002c + 0x200 * i
def Fld.FB_ERRCNT_ILLEGAL (i : Nat) : Field := ⟨Reg.FB_ERRCNT i, 15, 0⟩
def Reg.FB_LPR (i : Nat) : Nat := 0xb0030 + 0x200 * i
def Fld.FB_LPR_LPR (i : Nat) : Field := ⟨Reg.FB_LPR i, 31, 0⟩
def Reg.FB_IDXREF (i : Nat) : Nat := 0xb0034 + 0x200 * i
def Fld.FB_IDXREF_REF (i : Nat) : Field := ⟨Reg.FB_IDXREF i, 31, 0⟩
def Reg.FB_IDXCFG (i : Nat) : Nat := 0xb0038 + 0x200 * i
def Fld.FB_IDXCFG_TOL (i : Nat) : Field := ⟨Reg.FB_IDXCFG i, 15, 0⟩
def Fld.FB_IDXCFG_REF_VALID (i : Nat) : Field := ⟨Reg.FB_IDXCFG i, 16, 16⟩
def Reg.FB_IDXPOS_LO (i : Nat) : Nat := 0xb003c + 0x200 * i
def Fld.FB_IDXPOS_LO_POS (i : Nat) : Field := ⟨Reg.FB_IDXPOS_LO i, 31, 0⟩
def Reg.FB_IDXPOS_HI (i : Nat) : Nat := 0xb0040 + 0x200 * i
def Fld.FB_IDXPOS_HI_POS (i : Nat) : Field := ⟨Reg.FB_IDXPOS_HI i, 31, 0⟩
def Reg.FB_IDXDIFF (i : Nat) : Nat := 0xb0044 + 0x200 * i
def Fld.FB_IDXDIFF_DIFF (i : Nat) : Field := ⟨Reg.FB_IDXDIFF i, 31, 0⟩
def Reg.FB_SCOFS (i : Nat) : Nat := 0xb0048 + 0x200 * i
def Fld.FB_SCOFS_OFS_S (i : Nat) : Field := ⟨Reg.FB_SCOFS i, 15, 0⟩
def Fld.FB_SCOFS_OFS_C (i : Nat) : Field := ⟨Reg.FB_SCOFS i, 31, 16⟩
def Reg.FB_SCGAIN (i : Nat) : Nat := 0xb004c + 0x200 * i
def Fld.FB_SCGAIN_GAIN_S (i : Nat) : Field := ⟨Reg.FB_SCGAIN i, 15, 0⟩
def Fld.FB_SCGAIN_GAIN_C (i : Nat) : Field := ⟨Reg.FB_SCGAIN i, 31, 16⟩
def Reg.FB_AMPWIN (i : Nat) : Nat := 0xb0050 + 0x200 * i
def Fld.FB_AMPWIN_AMP_LO (i : Nat) : Field := ⟨Reg.FB_AMPWIN i, 15, 0⟩
def Fld.FB_AMPWIN_AMP_HI (i : Nat) : Field := ⟨Reg.FB_AMPWIN i, 31, 16⟩
def Reg.FB_LOSS (i : Nat) : Nat := 0xb0054 + 0x200 * i
def Fld.FB_LOSS_LOSS_N (i : Nat) : Field := ⟨Reg.FB_LOSS i, 7, 0⟩
def Reg.FB_SCRAW (i : Nat) : Nat := 0xb0058 + 0x200 * i
def Fld.FB_SCRAW_SIN (i : Nat) : Field := ⟨Reg.FB_SCRAW i, 15, 0⟩
def Fld.FB_SCRAW_COS (i : Nat) : Field := ⟨Reg.FB_SCRAW i, 31, 16⟩
def Reg.CMP_CTL (i j : Nat) : Nat := 0xb0100 + 0x200 * i + 0x20 * j
def Fld.CMP_CTL_EN (i j : Nat) : Field := ⟨Reg.CMP_CTL i j, 0, 0⟩
def Fld.CMP_CTL_DIR (i j : Nat) : Field := ⟨Reg.CMP_CTL i j, 1, 1⟩
def Fld.CMP_CTL_OWNED (i j : Nat) : Field := ⟨Reg.CMP_CTL i j, 2, 2⟩
def Fld.CMP_CTL_OWNER (i j : Nat) : Field := ⟨Reg.CMP_CTL i j, 4, 3⟩
def Reg.CMP_NEXT_FRAC (i j : Nat) : Nat := 0xb0104 + 0x200 * i + 0x20 * j
def Fld.CMP_NEXT_FRAC_NEXT (i j : Nat) : Field := ⟨Reg.CMP_NEXT_FRAC i j, 31, 0⟩
def Reg.CMP_NEXT_LO (i j : Nat) : Nat := 0xb0108 + 0x200 * i + 0x20 * j
def Fld.CMP_NEXT_LO_NEXT (i j : Nat) : Field := ⟨Reg.CMP_NEXT_LO i j, 31, 0⟩
def Reg.CMP_NEXT_HI (i j : Nat) : Nat := 0xb010c + 0x200 * i + 0x20 * j
def Fld.CMP_NEXT_HI_NEXT (i j : Nat) : Field := ⟨Reg.CMP_NEXT_HI i j, 31, 0⟩
def Reg.CMP_PITCH_LO (i j : Nat) : Nat := 0xb0110 + 0x200 * i + 0x20 * j
def Fld.CMP_PITCH_LO_PITCH (i j : Nat) : Field := ⟨Reg.CMP_PITCH_LO i j, 31, 0⟩
def Reg.CMP_PITCH_HI (i j : Nat) : Nat := 0xb0114 + 0x200 * i + 0x20 * j
def Fld.CMP_PITCH_HI_PITCH (i j : Nat) : Field := ⟨Reg.CMP_PITCH_HI i j, 31, 0⟩
def Reg.CMP_SHCTL (i j : Nat) : Nat := 0xb0118 + 0x200 * i + 0x20 * j
def Fld.CMP_SHCTL_ARM (i j : Nat) : Field := ⟨Reg.CMP_SHCTL i j, 0, 0⟩
def Fld.CMP_SHCTL_PENDING (i j : Nat) : Field := ⟨Reg.CMP_SHCTL i j, 1, 1⟩
def Fld.CMP_SHCTL_COMMIT_SEQ (i j : Nat) : Field := ⟨Reg.CMP_SHCTL i j, 15, 8⟩
def Reg.CMP_HITS (i j : Nat) : Nat := 0xb011c + 0x200 * i + 0x20 * j
def Fld.CMP_HITS_HITS (i j : Nat) : Field := ⟨Reg.CMP_HITS i j, 31, 0⟩
def Reg.EMU_CFG (i : Nat) : Nat := 0xb8000 + 0x20 * i
def Fld.EMU_CFG_EN (i : Nat) : Field := ⟨Reg.EMU_CFG i, 0, 0⟩
def Fld.EMU_CFG_SRC (i : Nat) : Field := ⟨Reg.EMU_CFG i, 4, 1⟩
def Fld.EMU_CFG_Z_EN (i : Nat) : Field := ⟨Reg.EMU_CFG i, 5, 5⟩
def Fld.EMU_CFG_MINGAP (i : Nat) : Field := ⟨Reg.EMU_CFG i, 15, 8⟩
def Fld.EMU_CFG_ZW (i : Nat) : Field := ⟨Reg.EMU_CFG i, 23, 16⟩
def Reg.EMU_NUM (i : Nat) : Nat := 0xb8004 + 0x20 * i
def Fld.EMU_NUM_NUM (i : Nat) : Field := ⟨Reg.EMU_NUM i, 31, 0⟩
def Reg.EMU_DEN (i : Nat) : Nat := 0xb8008 + 0x20 * i
def Fld.EMU_DEN_DEN (i : Nat) : Field := ⟨Reg.EMU_DEN i, 31, 0⟩
def Reg.EMU_STAT (i : Nat) : Nat := 0xb800c + 0x20 * i
def Fld.EMU_STAT_RATE (i : Nat) : Field := ⟨Reg.EMU_STAT i, 0, 0⟩
def Fld.EMU_STAT_SEQ (i : Nat) : Field := ⟨Reg.EMU_STAT i, 31, 24⟩
def Reg.EMU_LAG (i : Nat) : Nat := 0xb8010 + 0x20 * i
def Fld.EMU_LAG_LAG (i : Nat) : Field := ⟨Reg.EMU_LAG i, 31, 0⟩
/-! 15_loop_array.md -/
def Reg.LP_CTRL (i : Nat) : Nat := 0xc0000 + 0x100 * i
def Fld.LP_CTRL_RUN (i : Nat) : Field := ⟨Reg.LP_CTRL i, 0, 0⟩
def Fld.LP_CTRL_INIT (i : Nat) : Field := ⟨Reg.LP_CTRL i, 1, 1⟩
def Reg.LP_CFG (i : Nat) : Nat := 0xc0004 + 0x100 * i
def Fld.LP_CFG_TIMER (i : Nat) : Field := ⟨Reg.LP_CFG i, 2, 0⟩
def Fld.LP_CFG_AW (i : Nat) : Field := ⟨Reg.LP_CFG i, 3, 3⟩
def Fld.LP_CFG_ORDER3 (i : Nat) : Field := ⟨Reg.LP_CFG i, 4, 4⟩
def Fld.LP_CFG_SRC_MEAS (i : Nat) : Field := ⟨Reg.LP_CFG i, 15, 8⟩
def Fld.LP_CFG_SRC_REF (i : Nat) : Field := ⟨Reg.LP_CFG i, 23, 16⟩
def Fld.LP_CFG_DST_KIND (i : Nat) : Field := ⟨Reg.LP_CFG i, 25, 24⟩
def Fld.LP_CFG_DST_IDX (i : Nat) : Field := ⟨Reg.LP_CFG i, 29, 26⟩
def Reg.LP_REF (i : Nat) : Nat := 0xc0008 + 0x100 * i
def Fld.LP_REF_REF (i : Nat) : Field := ⟨Reg.LP_REF i, 31, 0⟩
def Reg.LP_SHCTL (i : Nat) : Nat := 0xc000c + 0x100 * i
def Fld.LP_SHCTL_ARM (i : Nat) : Field := ⟨Reg.LP_SHCTL i, 0, 0⟩
def Fld.LP_SHCTL_PENDING (i : Nat) : Field := ⟨Reg.LP_SHCTL i, 1, 1⟩
def Fld.LP_SHCTL_COMMIT_SEQ (i : Nat) : Field := ⟨Reg.LP_SHCTL i, 15, 8⟩
def Reg.LP_B (i j : Nat) : Nat := 0xc0010 + 0x100 * i + 0x4 * j
def Fld.LP_B_B (i j : Nat) : Field := ⟨Reg.LP_B i j, 31, 0⟩
def Reg.LP_A (i j : Nat) : Nat := 0xc0020 + 0x100 * i + 0x4 * j
def Fld.LP_A_A (i j : Nat) : Field := ⟨Reg.LP_A i j, 31, 0⟩
def Reg.LP_SHB (i : Nat) : Nat := 0xc002c + 0x100 * i
def Fld.LP_SHB_SB0 (i : Nat) : Field := ⟨Reg.LP_SHB i, 4, 0⟩
def Fld.LP_SHB_SB1 (i : Nat) : Field := ⟨Reg.LP_SHB i, 12, 8⟩
def Fld.LP_SHB_SB2 (i : Nat) : Field := ⟨Reg.LP_SHB i, 20, 16⟩
def Fld.LP_SHB_SB3 (i : Nat) : Field := ⟨Reg.LP_SHB i, 28, 24⟩
def Reg.LP_SHA (i : Nat) : Nat := 0xc0030 + 0x100 * i
def Fld.LP_SHA_SA1 (i : Nat) : Field := ⟨Reg.LP_SHA i, 4, 0⟩
def Fld.LP_SHA_SA2 (i : Nat) : Field := ⟨Reg.LP_SHA i, 12, 8⟩
def Fld.LP_SHA_SA3 (i : Nat) : Field := ⟨Reg.LP_SHA i, 20, 16⟩
def Reg.LP_OMIN (i : Nat) : Nat := 0xc0034 + 0x100 * i
def Fld.LP_OMIN_OMIN (i : Nat) : Field := ⟨Reg.LP_OMIN i, 31, 0⟩
def Reg.LP_OMAX (i : Nat) : Nat := 0xc0038 + 0x100 * i
def Fld.LP_OMAX_OMAX (i : Nat) : Field := ⟨Reg.LP_OMAX i, 31, 0⟩
def Reg.LP_STAT (i : Nat) : Nat := 0xc003c + 0x100 * i
def Fld.LP_STAT_SAT_EV (i : Nat) : Field := ⟨Reg.LP_STAT i, 0, 0⟩
def Fld.LP_STAT_CFG_ERROR (i : Nat) : Field := ⟨Reg.LP_STAT i, 1, 1⟩
def Fld.LP_STAT_FORCED (i : Nat) : Field := ⟨Reg.LP_STAT i, 2, 2⟩
def Fld.LP_STAT_SWAP_SAT (i : Nat) : Field := ⟨Reg.LP_STAT i, 3, 3⟩
def Fld.LP_STAT_SEQ (i : Nat) : Field := ⟨Reg.LP_STAT i, 31, 24⟩
def Reg.LP_LIVE (i : Nat) : Nat := 0xc0040 + 0x100 * i
def Fld.LP_LIVE_RUNNING (i : Nat) : Field := ⟨Reg.LP_LIVE i, 0, 0⟩
def Fld.LP_LIVE_SAT (i : Nat) : Field := ⟨Reg.LP_LIVE i, 1, 1⟩
def Fld.LP_LIVE_SAT_HI (i : Nat) : Field := ⟨Reg.LP_LIVE i, 2, 2⟩
def Fld.LP_LIVE_SAT_LO (i : Nat) : Field := ⟨Reg.LP_LIVE i, 3, 3⟩
def Reg.LP_Y (i : Nat) : Nat := 0xc0044 + 0x100 * i
def Fld.LP_Y_VALUE (i : Nat) : Field := ⟨Reg.LP_Y i, 31, 0⟩
def Reg.LP_U (i : Nat) : Nat := 0xc0048 + 0x100 * i
def Fld.LP_U_VALUE (i : Nat) : Field := ⟨Reg.LP_U i, 31, 0⟩
def Reg.LP_E (i : Nat) : Nat := 0xc004c + 0x100 * i
def Fld.LP_E_VALUE (i : Nat) : Field := ⟨Reg.LP_E i, 31, 0⟩
def Reg.LP_XH (i j : Nat) : Nat := 0xc0050 + 0x100 * i + 0x4 * j
def Fld.LP_XH_XH (i j : Nat) : Field := ⟨Reg.LP_XH i j, 31, 0⟩
def Reg.LP_YH (i j : Nat) : Nat := 0xc005c + 0x100 * i + 0x4 * j
def Fld.LP_YH_YH (i j : Nat) : Field := ⟨Reg.LP_YH i j, 31, 0⟩
def Reg.LP_YINIT (i : Nat) : Nat := 0xc0068 + 0x100 * i
def Fld.LP_YINIT_Y0 (i : Nat) : Field := ⟨Reg.LP_YINIT i, 31, 0⟩
def Reg.LP_SATLIM (i : Nat) : Nat := 0xc006c + 0x100 * i
def Fld.LP_SATLIM_SAMPLES (i : Nat) : Field := ⟨Reg.LP_SATLIM i, 15, 0⟩
def Reg.LP_ACTIVE (i j : Nat) : Nat := 0xc0080 + 0x100 * i + 0x4 * j
def Fld.LP_ACTIVE_VALUE (i j : Nat) : Field := ⟨Reg.LP_ACTIVE i j, 31, 0⟩
def Reg.LP_EIN (i : Nat) : Nat := 0xc2000 + 0x4 * i
def Fld.LP_EIN_VALUE (i : Nat) : Field := ⟨Reg.LP_EIN i, 31, 0⟩
def Reg.LP_TMR (i : Nat) : Nat := 0xc3000 + 0x10 * i
def Fld.LP_TMR_PERIOD (i : Nat) : Field := ⟨Reg.LP_TMR i, 23, 0⟩
def Fld.LP_TMR_EN (i : Nat) : Field := ⟨Reg.LP_TMR i, 31, 31⟩
def Reg.LP_TMR_START : Nat := 0xc3080
def Fld.LP_TMR_START_START : Field := ⟨Reg.LP_TMR_START, 7, 0⟩
def Reg.PWM_CFG (i : Nat) : Nat := 0xc4000 + 0x10 * i
def Fld.PWM_CFG_EN (i : Nat) : Field := ⟨Reg.PWM_CFG i, 0, 0⟩
def Fld.PWM_CFG_SRC (i : Nat) : Field := ⟨Reg.PWM_CFG i, 1, 1⟩
def Fld.PWM_CFG_SAFE_S3 (i : Nat) : Field := ⟨Reg.PWM_CFG i, 2, 2⟩
def Reg.PWM_PERIOD (i : Nat) : Nat := 0xc4004 + 0x10 * i
def Fld.PWM_PERIOD_CYCLES (i : Nat) : Field := ⟨Reg.PWM_PERIOD i, 23, 0⟩
def Reg.PWM_DUTY (i : Nat) : Nat := 0xc4008 + 0x10 * i
def Fld.PWM_DUTY_DUTY (i : Nat) : Field := ⟨Reg.PWM_DUTY i, 15, 0⟩
def Reg.TRC_CTRL (i : Nat) : Nat := 0xc8000 + 0x40 * i
def Fld.TRC_CTRL_ARM (i : Nat) : Field := ⟨Reg.TRC_CTRL i, 0, 0⟩
def Fld.TRC_CTRL_LOOP (i : Nat) : Field := ⟨Reg.TRC_CTRL i, 12, 8⟩
def Fld.TRC_CTRL_DECIM (i : Nat) : Field := ⟨Reg.TRC_CTRL i, 31, 16⟩
def Reg.TRC_TRIG (i : Nat) : Nat := 0xc8004 + 0x40 * i
def Fld.TRC_TRIG_COND (i : Nat) : Field := ⟨Reg.TRC_TRIG i, 2, 0⟩
def Fld.TRC_TRIG_NODE (i : Nat) : Field := ⟨Reg.TRC_TRIG i, 5, 4⟩
def Fld.TRC_TRIG_POST (i : Nat) : Field := ⟨Reg.TRC_TRIG i, 29, 16⟩
def Reg.TRC_LEVEL (i : Nat) : Nat := 0xc8008 + 0x40 * i
def Fld.TRC_LEVEL_LEVEL (i : Nat) : Field := ⟨Reg.TRC_LEVEL i, 31, 0⟩
def Reg.TRC_STAT (i : Nat) : Nat := 0xc800c + 0x40 * i
def Fld.TRC_STAT_TRIGGERED (i : Nat) : Field := ⟨Reg.TRC_STAT i, 0, 0⟩
def Fld.TRC_STAT_DONE (i : Nat) : Field := ⟨Reg.TRC_STAT i, 1, 1⟩
def Fld.TRC_STAT_FILL (i : Nat) : Field := ⟨Reg.TRC_STAT i, 15, 2⟩
def Fld.TRC_STAT_TRIG_IDX (i : Nat) : Field := ⟨Reg.TRC_STAT i, 28, 16⟩
def Reg.TRC_PAGE (i : Nat) : Nat := 0xc8010 + 0x40 * i
def Fld.TRC_PAGE_PAGE (i : Nat) : Field := ⟨Reg.TRC_PAGE i, 4, 0⟩
def Reg.TRC_WIN (i j : Nat) : Nat := 0xcc000 + 0x1000 * i + 0x4 * j
def Fld.TRC_WIN_WORD (i j : Nat) : Field := ⟨Reg.TRC_WIN i j, 31, 0⟩
/-! 16_calibration.md -/
def Reg.CAL_CMD : Nat := 0xd0000
def Fld.CAL_CMD_GO : Field := ⟨Reg.CAL_CMD, 0, 0⟩
def Fld.CAL_CMD_SUBJECT : Field := ⟨Reg.CAL_CMD, 9, 8⟩
def Fld.CAL_CMD_INSTANCE : Field := ⟨Reg.CAL_CMD, 21, 16⟩
def Reg.CAL_STAT : Nat := 0xd0004
def Fld.CAL_STAT_DONE : Field := ⟨Reg.CAL_STAT, 0, 0⟩
def Fld.CAL_STAT_ABORT : Field := ⟨Reg.CAL_STAT, 1, 1⟩
def Fld.CAL_STAT_CFG_ERROR : Field := ⟨Reg.CAL_STAT, 2, 2⟩
def Fld.CAL_STAT_SWAPPED : Field := ⟨Reg.CAL_STAT, 3, 3⟩
def Fld.CAL_STAT_BUSY : Field := ⟨Reg.CAL_STAT, 8, 8⟩
def Fld.CAL_STAT_REASON : Field := ⟨Reg.CAL_STAT, 15, 12⟩
def Fld.CAL_STAT_SEQ : Field := ⟨Reg.CAL_STAT, 31, 24⟩
def Reg.CAL_APPLY : Nat := 0xd0008
def Fld.CAL_APPLY_SET : Field := ⟨Reg.CAL_APPLY, 15, 0⟩
def Fld.CAL_APPLY_RESULT : Field := ⟨Reg.CAL_APPLY, 17, 16⟩
def Reg.CAL_DIETEMP : Nat := 0xd000c
def Fld.CAL_DIETEMP_T : Field := ⟨Reg.CAL_DIETEMP, 15, 0⟩
def Reg.CAL_LIM : Nat := 0xd0010
def Fld.CAL_LIM_NOISE_MAX : Field := ⟨Reg.CAL_LIM, 7, 0⟩
def Fld.CAL_LIM_TMO : Field := ⟨Reg.CAL_LIM, 15, 8⟩
def Fld.CAL_LIM_AMP_MIN : Field := ⟨Reg.CAL_LIM, 31, 16⟩
def Reg.CAL_DUE : Nat := 0xd0014
def Fld.CAL_DUE_DUE : Field := ⟨Reg.CAL_DUE, 15, 0⟩
def Reg.CAL_TRIG (i : Nat) : Nat := 0xd0100 + 0x8 * i
def Fld.CAL_TRIG_SET (i : Nat) : Field := ⟨Reg.CAL_TRIG i, 15, 0⟩
def Fld.CAL_TRIG_DT (i : Nat) : Field := ⟨Reg.CAL_TRIG i, 20, 16⟩
def Fld.CAL_TRIG_AUTO (i : Nat) : Field := ⟨Reg.CAL_TRIG i, 21, 21⟩
def Fld.CAL_TRIG_EN (i : Nat) : Field := ⟨Reg.CAL_TRIG i, 22, 22⟩
def Reg.CAL_TLAST (i : Nat) : Nat := 0xd0104 + 0x8 * i
def Fld.CAL_TLAST_T_LAST (i : Nat) : Field := ⟨Reg.CAL_TLAST i, 15, 0⟩
def Reg.CAL_NZCFG : Nat := 0xd0200
def Fld.CAL_NZCFG_COUNT : Field := ⟨Reg.CAL_NZCFG, 13, 0⟩
def Reg.CAL_SCAN (i : Nat) : Nat := 0xd0400 + 0x4 * i
def Fld.CAL_SCAN_SCAN_W (i : Nat) : Field := ⟨Reg.CAL_SCAN i, 11, 0⟩
def Fld.CAL_SCAN_EN (i : Nat) : Field := ⟨Reg.CAL_SCAN i, 31, 31⟩
def Reg.CAL_ADC_STAGE (i : Nat) : Nat := 0xd0600 + 0x4 * i
def Fld.CAL_ADC_STAGE_OFS_A (i : Nat) : Field := ⟨Reg.CAL_ADC_STAGE i, 15, 0⟩
def Fld.CAL_ADC_STAGE_OFS_B (i : Nat) : Field := ⟨Reg.CAL_ADC_STAGE i, 31, 16⟩
def Reg.CAL_ADCOFS (i : Nat) : Nat := 0xd0640 + 0x4 * i
def Fld.CAL_ADCOFS_OFS_A (i : Nat) : Field := ⟨Reg.CAL_ADCOFS i, 15, 0⟩
def Fld.CAL_ADCOFS_OFS_B (i : Nat) : Field := ⟨Reg.CAL_ADCOFS i, 31, 16⟩
def Reg.CAL_SC_STAGE (i : Nat) : Nat := 0xd0680 + 0x8 * i
def Fld.CAL_SC_STAGE_OFS_S (i : Nat) : Field := ⟨Reg.CAL_SC_STAGE i, 15, 0⟩
def Fld.CAL_SC_STAGE_OFS_C (i : Nat) : Field := ⟨Reg.CAL_SC_STAGE i, 31, 16⟩
def Reg.CAL_SC_STAGE_G (i : Nat) : Nat := 0xd0684 + 0x8 * i
def Fld.CAL_SC_STAGE_G_GAIN_S (i : Nat) : Field := ⟨Reg.CAL_SC_STAGE_G i, 15, 0⟩
def Fld.CAL_SC_STAGE_G_GAIN_C (i : Nat) : Field := ⟨Reg.CAL_SC_STAGE_G i, 31, 16⟩
def Reg.QZ_BUF (i : Nat) : Nat := 0xd1000 + 0x4 * i
def Fld.QZ_BUF_WORD (i : Nat) : Field := ⟨Reg.QZ_BUF i, 31, 0⟩
def Reg.QZ_ACTIVE (i : Nat) : Nat := 0xd1100 + 0x4 * i
def Fld.QZ_ACTIVE_WORD (i : Nat) : Field := ⟨Reg.QZ_ACTIVE i, 31, 0⟩
def Reg.QZ_CMD : Nat := 0xd1200
def Fld.QZ_CMD_PROG : Field := ⟨Reg.QZ_CMD, 0, 0⟩
def Reg.QZ_STAT : Nat := 0xd1204
def Fld.QZ_STAT_PROG_DONE : Field := ⟨Reg.QZ_STAT, 0, 0⟩
def Fld.QZ_STAT_PROG_FAIL : Field := ⟨Reg.QZ_STAT, 1, 1⟩
def Fld.QZ_STAT_PROG_REFUSED : Field := ⟨Reg.QZ_STAT, 2, 2⟩
def Fld.QZ_STAT_BUSY : Field := ⟨Reg.QZ_STAT, 8, 8⟩
def Fld.QZ_STAT_SEQ : Field := ⟨Reg.QZ_STAT, 31, 24⟩
def Reg.QZ_SLOTS : Nat := 0xd1208
def Fld.QZ_SLOTS_SLOT : Field := ⟨Reg.QZ_SLOTS, 5, 0⟩
def Fld.QZ_SLOTS_FREE : Field := ⟨Reg.QZ_SLOTS, 13, 8⟩
def Fld.QZ_SLOTS_NONE : Field := ⟨Reg.QZ_SLOTS, 16, 16⟩
def Reg.CAL_NZBUF (i : Nat) : Nat := 0xd8000 + 0x4 * i
def Fld.CAL_NZBUF_NOZZLE (i : Nat) : Field := ⟨Reg.CAL_NZBUF i, 17, 0⟩
def Fld.CAL_NZBUF_TRIM (i : Nat) : Field := ⟨Reg.CAL_NZBUF i, 27, 18⟩
/-! 18_security_ledger.md -/
def Reg.SEC_STAT : Nat := 0xe0000
def Fld.SEC_STAT_REGULATED : Field := ⟨Reg.SEC_STAT, 0, 0⟩
def Fld.SEC_STAT_SELFTEST_FAIL : Field := ⟨Reg.SEC_STAT, 1, 1⟩
def Fld.SEC_STAT_FPROG_REFUSED : Field := ⟨Reg.SEC_STAT, 2, 2⟩
def Fld.SEC_STAT_SEQ : Field := ⟨Reg.SEC_STAT, 31, 24⟩
def Reg.SEC_FPROG : Nat := 0xe0004
def Fld.SEC_FPROG_FIELD : Field := ⟨Reg.SEC_FPROG, 3, 0⟩
def Fld.SEC_FPROG_INDEX : Field := ⟨Reg.SEC_FPROG, 9, 8⟩
def Fld.SEC_FPROG_GO : Field := ⟨Reg.SEC_FPROG, 16, 16⟩
def Reg.SEC_FDATA (i : Nat) : Nat := 0xe0040 + 0x4 * i
def Fld.SEC_FDATA_WORD (i : Nat) : Field := ⟨Reg.SEC_FDATA i, 31, 0⟩
def Reg.SEC_FUSE (i : Nat) : Nat := 0xe0100 + 0x4 * i
def Fld.SEC_FUSE_WORD (i : Nat) : Field := ⟨Reg.SEC_FUSE i, 31, 0⟩
def Reg.SEC_TOK_CTRL : Nat := 0xe0200
def Fld.SEC_TOK_CTRL_OP : Field := ⟨Reg.SEC_TOK_CTRL, 4, 0⟩
def Fld.SEC_TOK_CTRL_GO : Field := ⟨Reg.SEC_TOK_CTRL, 8, 8⟩
def Reg.SEC_TOK_STAT : Nat := 0xe0204
def Fld.SEC_TOK_STAT_VALID : Field := ⟨Reg.SEC_TOK_STAT, 0, 0⟩
def Fld.SEC_TOK_STAT_INVALID : Field := ⟨Reg.SEC_TOK_STAT, 1, 1⟩
def Fld.SEC_TOK_STAT_CONSEC : Field := ⟨Reg.SEC_TOK_STAT, 5, 4⟩
def Fld.SEC_TOK_STAT_SEQ : Field := ⟨Reg.SEC_TOK_STAT, 31, 24⟩
def Reg.SEC_TOK_NONCE (i : Nat) : Nat := 0xe0220 + 0x4 * i
def Fld.SEC_TOK_NONCE_WORD (i : Nat) : Field := ⟨Reg.SEC_TOK_NONCE i, 31, 0⟩
def Reg.SEC_TOK_PUB (i : Nat) : Nat := 0xe0240 + 0x4 * i
def Fld.SEC_TOK_PUB_WORD (i : Nat) : Field := ⟨Reg.SEC_TOK_PUB i, 31, 0⟩
def Reg.SEC_TOK_SIG (i : Nat) : Nat := 0xe02c0 + 0x4 * i
def Fld.SEC_TOK_SIG_WORD (i : Nat) : Field := ⟨Reg.SEC_TOK_SIG i, 31, 0⟩
def Reg.SEC_LD_SRC_LO : Nat := 0xe0400
def Fld.SEC_LD_SRC_LO_ADDR : Field := ⟨Reg.SEC_LD_SRC_LO, 31, 0⟩
def Reg.SEC_LD_SRC_HI : Nat := 0xe0404
def Fld.SEC_LD_SRC_HI_ADDR : Field := ⟨Reg.SEC_LD_SRC_HI, 31, 0⟩
def Reg.SEC_LD_LEN : Nat := 0xe0408
def Fld.SEC_LD_LEN_BYTES : Field := ⟨Reg.SEC_LD_LEN, 18, 0⟩
def Reg.SEC_LD_CTRL : Nat := 0xe040c
def Fld.SEC_LD_CTRL_ENGINE : Field := ⟨Reg.SEC_LD_CTRL, 3, 0⟩
def Fld.SEC_LD_CTRL_GO : Field := ⟨Reg.SEC_LD_CTRL, 8, 8⟩
def Reg.SEC_LD_STAT : Nat := 0xe0410
def Fld.SEC_LD_STAT_DONE : Field := ⟨Reg.SEC_LD_STAT, 0, 0⟩
def Fld.SEC_LD_STAT_FAIL : Field := ⟨Reg.SEC_LD_STAT, 1, 1⟩
def Fld.SEC_LD_STAT_BUSY : Field := ⟨Reg.SEC_LD_STAT, 2, 2⟩
def Fld.SEC_LD_STAT_FAIL_CODE : Field := ⟨Reg.SEC_LD_STAT, 11, 8⟩
def Fld.SEC_LD_STAT_PENDING : Field := ⟨Reg.SEC_LD_STAT, 16, 12⟩
def Fld.SEC_LD_STAT_SEQ : Field := ⟨Reg.SEC_LD_STAT, 31, 24⟩
def Reg.SEC_LD_MEAS (i : Nat) : Nat := 0xe0420 + 0x4 * i
def Fld.SEC_LD_MEAS_WORD (i : Nat) : Field := ⟨Reg.SEC_LD_MEAS i, 31, 0⟩
def Reg.LG_CTRL : Nat := 0xe1000
def Fld.LG_CTRL_OPEN : Field := ⟨Reg.LG_CTRL, 0, 0⟩
def Fld.LG_CTRL_CLOSE : Field := ⟨Reg.LG_CTRL, 1, 1⟩
def Reg.LG_STAT : Nat := 0xe1004
def Fld.LG_STAT_OPEN_REFUSED : Field := ⟨Reg.LG_STAT, 0, 0⟩
def Fld.LG_STAT_CLOSE_REFUSED : Field := ⟨Reg.LG_STAT, 1, 1⟩
def Fld.LG_STAT_IS_OPEN : Field := ⟨Reg.LG_STAT, 8, 8⟩
def Fld.LG_STAT_STALL : Field := ⟨Reg.LG_STAT, 9, 9⟩
def Fld.LG_STAT_SEQ : Field := ⟨Reg.LG_STAT, 31, 24⟩
def Reg.LG_CFG : Nat := 0xe1008
def Fld.LG_CFG_RING_LOG2 : Field := ⟨Reg.LG_CFG, 4, 0⟩
def Fld.LG_CFG_VECTOR : Field := ⟨Reg.LG_CFG, 13, 8⟩
def Reg.LG_RING_LO : Nat := 0xe100c
def Fld.LG_RING_LO_ADDR : Field := ⟨Reg.LG_RING_LO, 31, 0⟩
def Reg.LG_RING_HI : Nat := 0xe1010
def Fld.LG_RING_HI_ADDR : Field := ⟨Reg.LG_RING_HI, 31, 0⟩
def Reg.LG_TAIL : Nat := 0xe1014
def Fld.LG_TAIL_TAIL : Field := ⟨Reg.LG_TAIL, 31, 0⟩
def Reg.LG_HEAD : Nat := 0xe1018
def Fld.LG_HEAD_HEAD : Field := ⟨Reg.LG_HEAD, 31, 0⟩
def Reg.LG_NEXT_LO : Nat := 0xe1020
def Fld.LG_NEXT_LO_NEXT : Field := ⟨Reg.LG_NEXT_LO, 31, 0⟩
def Reg.LG_NEXT_HI : Nat := 0xe1024
def Fld.LG_NEXT_HI_NEXT : Field := ⟨Reg.LG_NEXT_HI, 31, 0⟩
def Reg.LG_BUFFERED : Nat := 0xe1028
def Fld.LG_BUFFERED_RECORDS : Field := ⟨Reg.LG_BUFFERED, 9, 0⟩
def Reg.LG_SERIAL_FLOOR_LO (i : Nat) : Nat := 0xe1030 + 0x8 * i
def Fld.LG_SERIAL_FLOOR_LO_SERIAL (i : Nat) : Field := ⟨Reg.LG_SERIAL_FLOOR_LO i, 31, 0⟩
def Reg.LG_SERIAL_FLOOR_HI (i : Nat) : Nat := 0xe1034 + 0x8 * i
def Fld.LG_SERIAL_FLOOR_HI_SERIAL (i : Nat) : Field := ⟨Reg.LG_SERIAL_FLOOR_HI i, 31, 0⟩
def Reg.LG_CHAIN (i : Nat) : Nat := 0xe1060 + 0x4 * i
def Fld.LG_CHAIN_WORD (i : Nat) : Field := ⟨Reg.LG_CHAIN i, 31, 0⟩
def Reg.LG_DEVPUB (i : Nat) : Nat := 0xe1090 + 0x4 * i
def Fld.LG_DEVPUB_WORD (i : Nat) : Field := ⟨Reg.LG_DEVPUB i, 31, 0⟩
def Reg.GEO_STAT : Nat := 0xe2000
def Fld.GEO_STAT_KEK_VALID : Field := ⟨Reg.GEO_STAT, 0, 0⟩
def Fld.GEO_STAT_DEVKEY_VALID : Field := ⟨Reg.GEO_STAT, 1, 1⟩
def Fld.GEO_STAT_REG_LOCK : Field := ⟨Reg.GEO_STAT, 2, 2⟩
def Fld.GEO_STAT_VAULT_LOST : Field := ⟨Reg.GEO_STAT, 3, 3⟩
def Fld.GEO_STAT_ON_VBAT : Field := ⟨Reg.GEO_STAT, 4, 4⟩
def Fld.GEO_STAT_PROV_REFUSED : Field := ⟨Reg.GEO_STAT, 8, 8⟩
def Fld.GEO_STAT_SEQ : Field := ⟨Reg.GEO_STAT, 31, 24⟩
def Reg.GEO_MON : Nat := 0xe2004
def Fld.GEO_MON_ACTIVE : Field := ⟨Reg.GEO_MON, 11, 0⟩
def Reg.GEO_CMD : Nat := 0xe2008
def Fld.GEO_CMD_PROVISION : Field := ⟨Reg.GEO_CMD, 0, 0⟩
def Fld.GEO_CMD_UNLOCK : Field := ⟨Reg.GEO_CMD, 1, 1⟩
def Fld.GEO_CMD_CLASSC : Field := ⟨Reg.GEO_CMD, 2, 2⟩
def Reg.GEO_LOG : Nat := 0xe2010
def Fld.GEO_LOG_COUNT : Field := ⟨Reg.GEO_LOG, 3, 0⟩
def Fld.GEO_LOG_OVF : Field := ⟨Reg.GEO_LOG, 15, 8⟩
def Reg.GEO_LOGENT (i : Nat) : Nat := 0xe2020 + 0x4 * i
def Fld.GEO_LOGENT_WORD (i : Nat) : Field := ⟨Reg.GEO_LOGENT i, 31, 0⟩
def Reg.SUP_CFG (i : Nat) : Nat := 0xe3000 + 0x40 * i
def Fld.SUP_CFG_EN (i : Nat) : Field := ⟨Reg.SUP_CFG i, 0, 0⟩
def Fld.SUP_CFG_BUS (i : Nat) : Field := ⟨Reg.SUP_CFG i, 2, 1⟩
def Fld.SUP_CFG_ADDR (i : Nat) : Field := ⟨Reg.SUP_CFG i, 14, 8⟩
def Fld.SUP_CFG_REAUTH (i : Nat) : Field := ⟨Reg.SUP_CFG i, 31, 16⟩
def Reg.SUP_STAT (i : Nat) : Nat := 0xe3004 + 0x40 * i
def Fld.SUP_STAT_STATE (i : Nat) : Field := ⟨Reg.SUP_STAT i, 1, 0⟩
def Fld.SUP_STAT_AUTH_FAIL (i : Nat) : Field := ⟨Reg.SUP_STAT i, 8, 8⟩
def Fld.SUP_STAT_DECR_FAIL (i : Nat) : Field := ⟨Reg.SUP_STAT i, 9, 9⟩
def Fld.SUP_STAT_DISCONNECT (i : Nat) : Field := ⟨Reg.SUP_STAT i, 10, 10⟩
def Fld.SUP_STAT_SEQ (i : Nat) : Field := ⟨Reg.SUP_STAT i, 31, 24⟩
def Reg.SUP_USED_LO (i : Nat) : Nat := 0xe3008 + 0x40 * i
def Fld.SUP_USED_LO_USED (i : Nat) : Field := ⟨Reg.SUP_USED_LO i, 31, 0⟩
def Reg.SUP_USED_HI (i : Nat) : Nat := 0xe300c + 0x40 * i
def Fld.SUP_USED_HI_USED (i : Nat) : Field := ⟨Reg.SUP_USED_HI i, 31, 0⟩
def Reg.SUP_SEQ (i : Nat) : Nat := 0xe3010 + 0x40 * i
def Fld.SUP_SEQ_SEQ (i : Nat) : Field := ⟨Reg.SUP_SEQ i, 31, 0⟩
def Reg.SUP_ACC_LO (i : Nat) : Nat := 0xe3014 + 0x40 * i
def Fld.SUP_ACC_LO_ACC (i : Nat) : Field := ⟨Reg.SUP_ACC_LO i, 31, 0⟩
def Reg.SUP_ACC_HI (i : Nat) : Nat := 0xe3018 + 0x40 * i
def Fld.SUP_ACC_HI_ACC (i : Nat) : Field := ⟨Reg.SUP_ACC_HI i, 31, 0⟩
def Reg.SUP_ID (i j : Nat) : Nat := 0xe3020 + 0x40 * i + 0x4 * j
def Fld.SUP_ID_WORD (i j : Nat) : Field := ⟨Reg.SUP_ID i j, 31, 0⟩
def Reg.SUP_LANE (i : Nat) : Nat := 0xe3400 + 0x4 * i
def Fld.SUP_LANE_CHANNEL (i : Nat) : Field := ⟨Reg.SUP_LANE i, 3, 0⟩
def Fld.SUP_LANE_VOL (i : Nat) : Field := ⟨Reg.SUP_LANE i, 31, 8⟩
def Reg.SUP_TIMING : Nat := 0xe3600
def Fld.SUP_TIMING_INTERVAL : Field := ⟨Reg.SUP_TIMING, 13, 0⟩
def Reg.SUP_ROOT (i : Nat) : Nat := 0xe3640 + 0x4 * i
def Fld.SUP_ROOT_WORD (i : Nat) : Field := ⟨Reg.SUP_ROOT i, 31, 0⟩
/-! 19_twin.md -/
def Reg.TWIN_CFG : Nat := 0xf0000
def Fld.TWIN_CFG_EN : Field := ⟨Reg.TWIN_CFG, 0, 0⟩
def Fld.TWIN_CFG_PREFER : Field := ⟨Reg.TWIN_CFG, 1, 1⟩
def Fld.TWIN_CFG_RATE_MAX : Field := ⟨Reg.TWIN_CFG, 3, 2⟩
def Reg.TWIN_CTRL : Nat := 0xf0004
def Fld.TWIN_CTRL_SWITCH : Field := ⟨Reg.TWIN_CTRL, 0, 0⟩
def Fld.TWIN_CTRL_REJOIN : Field := ⟨Reg.TWIN_CTRL, 1, 1⟩
def Reg.TWIN_STAT : Nat := 0xf0008
def Fld.TWIN_STAT_TAKEOVER_EV : Field := ⟨Reg.TWIN_STAT, 0, 0⟩
def Fld.TWIN_STAT_YIELD : Field := ⟨Reg.TWIN_STAT, 1, 1⟩
def Fld.TWIN_STAT_ISOLATE_EV : Field := ⟨Reg.TWIN_STAT, 2, 2⟩
def Fld.TWIN_STAT_CFG_ERROR : Field := ⟨Reg.TWIN_STAT, 3, 3⟩
def Fld.TWIN_STAT_AUTH_FAIL : Field := ⟨Reg.TWIN_STAT, 4, 4⟩
def Fld.TWIN_STAT_MIRROR_LAG : Field := ⟨Reg.TWIN_STAT, 5, 5⟩
def Fld.TWIN_STAT_SEQ : Field := ⟨Reg.TWIN_STAT, 31, 24⟩
def Reg.TWIN_STATE : Nat := 0xf000c
def Fld.TWIN_STATE_ROLE : Field := ⟨Reg.TWIN_STATE, 2, 0⟩
def Fld.TWIN_STATE_PEER_ROLE : Field := ⟨Reg.TWIN_STATE, 5, 3⟩
def Fld.TWIN_STATE_LANES_UP : Field := ⟨Reg.TWIN_STATE, 7, 6⟩
def Fld.TWIN_STATE_QW_IN : Field := ⟨Reg.TWIN_STATE, 9, 8⟩
def Fld.TWIN_STATE_HB_LOST : Field := ⟨Reg.TWIN_STATE, 10, 10⟩
def Fld.TWIN_STATE_WAIT_IDLE : Field := ⟨Reg.TWIN_STATE, 11, 11⟩
def Reg.TWIN_TIMING : Nat := 0xf0010
def Fld.TWIN_TIMING_LEASE_WAIT : Field := ⟨Reg.TWIN_TIMING, 7, 0⟩
def Fld.TWIN_TIMING_POS_TOL : Field := ⟨Reg.TWIN_TIMING, 31, 8⟩
def Reg.TWIN_LGM_LO : Nat := 0xf0018
def Fld.TWIN_LGM_LO_ADDR : Field := ⟨Reg.TWIN_LGM_LO, 31, 0⟩
def Reg.TWIN_LGM_HI : Nat := 0xf001c
def Fld.TWIN_LGM_HI_ADDR : Field := ⟨Reg.TWIN_LGM_HI, 31, 0⟩
def Reg.TWIN_LGM_CFG : Nat := 0xf0020
def Fld.TWIN_LGM_CFG_LOG2 : Field := ⟨Reg.TWIN_LGM_CFG, 4, 0⟩
def Reg.TWIN_LGM_WR : Nat := 0xf0024
def Fld.TWIN_LGM_WR_WR : Field := ⟨Reg.TWIN_LGM_WR, 31, 0⟩
def Reg.TWIN_PEER_LEASES_LO : Nat := 0xf0028
def Fld.TWIN_PEER_LEASES_LO_MASK : Field := ⟨Reg.TWIN_PEER_LEASES_LO, 31, 0⟩
def Reg.TWIN_PEER_LEASES_HI : Nat := 0xf002c
def Fld.TWIN_PEER_LEASES_HI_MASK : Field := ⟨Reg.TWIN_PEER_LEASES_HI, 31, 0⟩
def Reg.TWIN_PSK (i : Nat) : Nat := 0xf0040 + 0x4 * i
def Fld.TWIN_PSK_WORD (i : Nat) : Field := ⟨Reg.TWIN_PSK i, 31, 0⟩
def Reg.TWIN_PEER_PUB (i : Nat) : Nat := 0xf0060 + 0x4 * i
def Fld.TWIN_PEER_PUB_WORD (i : Nat) : Field := ⟨Reg.TWIN_PEER_PUB i, 31, 0⟩
/-! 20_freeze_debug.md -/
def Reg.DBG_CTRL : Nat := 0x100000
def Fld.DBG_CTRL_UNLOCK : Field := ⟨Reg.DBG_CTRL, 0, 0⟩
def Fld.DBG_CTRL_LOCK : Field := ⟨Reg.DBG_CTRL, 1, 1⟩
def Fld.DBG_CTRL_BENCH : Field := ⟨Reg.DBG_CTRL, 2, 2⟩
def Fld.DBG_CTRL_FREEZE : Field := ⟨Reg.DBG_CTRL, 3, 3⟩
def Fld.DBG_CTRL_RESUME : Field := ⟨Reg.DBG_CTRL, 4, 4⟩
def Reg.DBG_STAT : Nat := 0x100004
def Fld.DBG_STAT_UNLOCK_REFUSED : Field := ⟨Reg.DBG_STAT, 0, 0⟩
def Fld.DBG_STAT_FREEZE_REFUSED : Field := ⟨Reg.DBG_STAT, 1, 1⟩
def Fld.DBG_STAT_RESUME_REFUSED : Field := ⟨Reg.DBG_STAT, 2, 2⟩
def Fld.DBG_STAT_UNLOCKED : Field := ⟨Reg.DBG_STAT, 8, 8⟩
def Fld.DBG_STAT_FROZEN : Field := ⟨Reg.DBG_STAT, 9, 9⟩
def Fld.DBG_STAT_BENCH_AT_FREEZE : Field := ⟨Reg.DBG_STAT, 10, 10⟩
def Fld.DBG_STAT_SEQ : Field := ⟨Reg.DBG_STAT, 31, 24⟩
def Reg.DBG_FRZ_TB_LO : Nat := 0x100008
def Fld.DBG_FRZ_TB_LO_TB : Field := ⟨Reg.DBG_FRZ_TB_LO, 31, 0⟩
def Reg.DBG_FRZ_TB_HI : Nat := 0x10000c
def Fld.DBG_FRZ_TB_HI_TB : Field := ⟨Reg.DBG_FRZ_TB_HI, 31, 0⟩
def Reg.DBG_ISL_STOP (i : Nat) : Nat := 0x100040 + 0x4 * i
def Fld.DBG_ISL_STOP_CYCLES (i : Nat) : Field := ⟨Reg.DBG_ISL_STOP i, 6, 0⟩
def Reg.DBG_MWIN_ADDR : Nat := 0x100100
def Fld.DBG_MWIN_ADDR_ADDR : Field := ⟨Reg.DBG_MWIN_ADDR, 23, 2⟩
def Reg.DBG_MWIN_DATA : Nat := 0x100104
def Fld.DBG_MWIN_DATA_DATA : Field := ⟨Reg.DBG_MWIN_DATA, 31, 0⟩
def Reg.DBG_SCAN_SEL : Nat := 0x100110
def Fld.DBG_SCAN_SEL_ISLAND : Field := ⟨Reg.DBG_SCAN_SEL, 4, 0⟩
def Reg.DBG_SCAN_LEN : Nat := 0x100114
def Fld.DBG_SCAN_LEN_BITS : Field := ⟨Reg.DBG_SCAN_LEN, 31, 0⟩
/-! 05_xaone_isa.md -/
def Reg.ENG_CTRL (i : Nat) : Nat := 0x200000 + 0x1000 * i
def Fld.ENG_CTRL_START (i : Nat) : Field := ⟨Reg.ENG_CTRL i, 0, 0⟩
def Fld.ENG_CTRL_STOP (i : Nat) : Field := ⟨Reg.ENG_CTRL i, 1, 1⟩
def Reg.ENG_STAT (i : Nat) : Nat := 0x200004 + 0x1000 * i
def Fld.ENG_STAT_RUNNING (i : Nat) : Field := ⟨Reg.ENG_STAT i, 0, 0⟩
def Fld.ENG_STAT_HALTED (i : Nat) : Field := ⟨Reg.ENG_STAT i, 1, 1⟩
def Fld.ENG_STAT_WAITING (i : Nat) : Field := ⟨Reg.ENG_STAT i, 2, 2⟩
def Fld.ENG_STAT_IN_TRAP (i : Nat) : Field := ⟨Reg.ENG_STAT i, 3, 3⟩
def Fld.ENG_STAT_HALT_CAUSE (i : Nat) : Field := ⟨Reg.ENG_STAT i, 11, 8⟩
def Fld.ENG_STAT_LAST_TCAUSE (i : Nat) : Field := ⟨Reg.ENG_STAT i, 15, 12⟩
def Reg.ENG_ENTRY (i : Nat) : Nat := 0x200008 + 0x1000 * i
def Fld.ENG_ENTRY_ENTRY (i : Nat) : Field := ⟨Reg.ENG_ENTRY i, 15, 2⟩
def Reg.ENG_AP_LO (i : Nat) : Nat := 0x200010 + 0x1000 * i
def Fld.ENG_AP_LO_BASE_LO (i : Nat) : Field := ⟨Reg.ENG_AP_LO i, 31, 26⟩
def Reg.ENG_AP_HI (i : Nat) : Nat := 0x200014 + 0x1000 * i
def Fld.ENG_AP_HI_BASE_HI (i : Nat) : Field := ⟨Reg.ENG_AP_HI i, 31, 0⟩
def Reg.ENG_EVSET (i : Nat) : Nat := 0x200018 + 0x1000 * i
def Fld.ENG_EVSET_EV (i : Nat) : Field := ⟨Reg.ENG_EVSET i, 7, 0⟩
def Reg.ENG_SIGPAGES (i : Nat) : Nat := 0x20001c + 0x1000 * i
def Fld.ENG_SIGPAGES_LOCKED (i : Nat) : Field := ⟨Reg.ENG_SIGPAGES i, 15, 0⟩

end Sys2Proof.Machine
end

