-- ==== Sys2Proof/Machine/RegTable.lean ====
section
/-!
DEFINITION. RegTable.lean: the register tables of spec/ as data: where each register lies, its reset value and the access code of
each field (Table 0.4 of 00_scope.md; gw marks a guarded field that reads 0). Bits of no field are KP (R135).
-/

namespace Sys2Proof.Machine

/-- Access codes (00_scope.md; R105, R119, R124, R132). -/
inductive Acc where
  | ro | rw | wo | gd | w1 | sq | gw
deriving DecidableEq, Repr

/-- One row of a register table: a register, or an array (stride1, count1), or an array in an array. -/
structure RegRow where
  base : Nat
  stride1 : Nat
  count1 : Nat
  stride2 : Nat
  count2 : Nat
  reset : Nat
  fields : List (Nat × Nat × Acc)
deriving Repr

/-- Block 0x00. -/
def rows00 : List RegRow := [
  -- SYS_ID, 03_startup.md R2
  ⟨0x0, 0x4, 1, 0x4, 1, 0x64481f7c, [(15, 0, .ro), (31, 16, .ro)]⟩,
  -- SYS_REV, 03_startup.md R2
  ⟨0x4, 0x4, 1, 0x4, 1, 0x10, [(7, 0, .ro)]⟩,
  -- SYS_PWR_CTRL, 02_package_power.md R61
  ⟨0x40, 0x4, 1, 0x4, 1, 0x0, [(0, 0, .gd), (8, 8, .ro), (9, 9, .ro)]⟩,
  -- SYS_RAIL_STAT, 02_package_power.md R56
  ⟨0x44, 0x4, 1, 0x4, 1, 0x1ff, [(8, 0, .ro)]⟩,
  -- SYS_RST_CAUSE, 03_startup.md R76
  ⟨0x48, 0x4, 1, 0x4, 1, 0x1000001, [(0, 0, .sq), (1, 1, .sq), (2, 2, .sq), (8, 8, .sq), (31, 24, .sq)]⟩,
  -- SYS_BOOT_STAT, 03_startup.md R82
  ⟨0x4c, 0x4, 1, 0x4, 1, 0x0, [(3, 0, .ro), (7, 4, .ro), (8, 8, .ro), (10, 9, .ro), (11, 11, .ro), (12, 12, .ro), (14, 13, .ro), (15, 15, .ro), (16, 16, .w1), (17, 17, .wo)]⟩,
  -- SYS_RST_CTRL, 03_startup.md R76
  ⟨0x50, 0x4, 1, 0x4, 1, 0x0, [(0, 0, .gd)]⟩,
  -- SYS_ENG_STAT, 03_startup.md R96
  ⟨0x54, 0x4, 1, 0x4, 1, 0x0, [(15, 0, .ro), (31, 16, .ro)]⟩]

/-- Block 0x01. -/
def rows01 : List RegRow := [
  -- GUARD_UNLOCK, 04_register_model.md R125
  ⟨0x10000, 0x4, 1, 0x4, 1, 0x0, [(7, 0, .wo), (15, 8, .wo), (31, 16, .wo)]⟩,
  -- GUARD_STAT, 04_register_model.md R130
  ⟨0x10004, 0x4, 1, 0x4, 1, 0x0, [(3, 0, .ro), (23, 8, .ro)]⟩,
  -- GUARD_REFUSE, 04_register_model.md R131
  ⟨0x10008, 0x4, 1, 0x4, 1, 0x0, [(0, 0, .sq), (15, 8, .ro), (20, 16, .ro), (31, 24, .sq)]⟩,
  -- GUARD_OPEN, 04_register_model.md R126
  ⟨0x1000c, 0x4, 1, 0x4, 1, 0x0, [(0, 0, .ro), (15, 8, .ro)]⟩]

/-- Block 0x02. -/
def rows02 : List RegRow := [
  -- TB_LO, 01_architecture.md R20
  ⟨0x20000, 0x4, 1, 0x4, 1, 0x0, [(31, 0, .ro)]⟩,
  -- TB_HI, 01_architecture.md R20
  ⟨0x20004, 0x4, 1, 0x4, 1, 0x0, [(31, 0, .ro)]⟩]

/-- Block 0x03. -/
def rows03 : List RegRow := [
  -- FLT_CTRL, 17_faults.md R625
  ⟨0x30000, 0x4, 1, 0x4, 1, 0x2, [(0, 0, .gd), (1, 1, .rw)]⟩,
  -- FLT_STAT, 17_faults.md R625
  ⟨0x30004, 0x4, 1, 0x4, 1, 0x800, [(0, 0, .sq), (1, 1, .sq), (2, 2, .sq), (10, 8, .ro), (11, 11, .ro), (12, 12, .ro), (31, 24, .sq)]⟩,
  -- FLT_ERRN, 17_faults.md R640
  ⟨0x30008, 0x4, 1, 0x4, 1, 0x20064, [(13, 0, .gd), (18, 16, .gd), (22, 20, .gd)]⟩,
  -- FLT_IRQ, 17_faults.md R639
  ⟨0x3000c, 0x4, 1, 0x4, 1, 0x100, [(5, 0, .rw), (7, 7, .rw), (10, 8, .rw)]⟩,
  -- FLT_FIRST, 17_faults.md R627
  ⟨0x30010, 0x4, 1, 0x4, 1, 0x0, [(0, 0, .sq), (14, 8, .ro), (18, 16, .ro), (19, 19, .ro), (31, 24, .sq)]⟩,
  -- FLT_FIRST_TB_LO, 17_faults.md R627
  ⟨0x30014, 0x4, 1, 0x4, 1, 0x0, [(31, 0, .ro)]⟩,
  -- FLT_FIRST_TB_HI, 17_faults.md R627
  ⟨0x30018, 0x4, 1, 0x4, 1, 0x0, [(31, 0, .ro)]⟩,
  -- FLT_FIRST_SET, 17_faults.md R627
  ⟨0x30020, 0x4, 4, 0x4, 1, 0x0, [(31, 0, .ro)]⟩,
  -- FLT_LATCH_SUM, 17_faults.md R630
  ⟨0x30040, 0x4, 4, 0x4, 1, 0x0, [(31, 0, .ro)]⟩,
  -- FLT_LIVE_SUM, 17_faults.md R630
  ⟨0x30050, 0x4, 4, 0x4, 1, 0x0, [(31, 0, .ro)]⟩,
  -- FLT_SRC, 17_faults.md R620
  ⟨0x31000, 0x10, 128, 0x4, 1, 0x0, [(0, 0, .sq), (1, 1, .sq), (2, 2, .sq), (3, 3, .ro), (6, 4, .ro), (31, 24, .sq)]⟩,
  -- FLT_CFG, 17_faults.md R635
  ⟨0x31004, 0x10, 128, 0x4, 1, 0x0, [(2, 0, .gd), (3, 3, .gd)]⟩,
  -- FLT_INFO, 17_faults.md R634
  ⟨0x31008, 0x10, 128, 0x4, 1, 0x0, [(31, 0, .ro)]⟩,
  -- FLT_CNT, 17_faults.md R620
  ⟨0x3100c, 0x10, 128, 0x4, 1, 0x0, [(15, 0, .rw)]⟩]

/-- Block 0x04. -/
def rows04a : List RegRow := [
  -- PCIE_LINK_STAT, 07_host_dma.md R238
  ⟨0x40000, 0x4, 1, 0x4, 1, 0x0, [(3, 0, .ro), (7, 4, .ro), (8, 8, .ro), (9, 9, .ro), (10, 10, .ro), (11, 11, .ro)]⟩,
  -- PCIE_ERR_STAT, 07_host_dma.md R242
  ⟨0x40004, 0x4, 1, 0x4, 1, 0x0, [(0, 0, .sq), (1, 1, .sq), (2, 2, .sq), (3, 3, .sq), (4, 4, .sq), (5, 5, .sq), (6, 6, .sq), (7, 7, .sq), (31, 24, .sq)]⟩,
  -- BAR2_PAGE, 07_host_dma.md R245
  ⟨0x40100, 0x4, 16, 0x4, 1, 0x0, [(10, 0, .gd), (16, 16, .gd)]⟩,
  -- CH_CFG, 07_host_dma.md R287
  ⟨0x41000, 0x40, 32, 0x4, 1, 0x10000, [(0, 0, .gd), (1, 1, .gd), (6, 2, .gd), (9, 8, .gd), (15, 10, .gd), (21, 16, .gd)]⟩,
  -- CH_CTRL, 07_host_dma.md R287
  ⟨0x41004, 0x40, 32, 0x4, 1, 0x0, [(0, 0, .rw), (1, 1, .wo), (2, 2, .wo), (3, 3, .wo)]⟩,
  -- CH_HEAD_LO, 07_host_dma.md R288
  ⟨0x41008, 0x40, 32, 0x4, 1, 0x0, [(31, 5, .rw)]⟩,
  -- CH_HEAD_HI, 07_host_dma.md R288
  ⟨0x4100c, 0x40, 32, 0x4, 1, 0x0, [(31, 0, .rw)]⟩,
  -- CH_RING_LO, 07_host_dma.md R265
  ⟨0x41010, 0x40, 32, 0x4, 1, 0x0, [(31, 12, .gd)]⟩,
  -- CH_RING_HI, 07_host_dma.md R265
  ⟨0x41014, 0x40, 32, 0x4, 1, 0x0, [(3, 0, .gd)]⟩,
  -- CH_WM, 07_host_dma.md R270
  ⟨0x41018, 0x40, 32, 0x4, 1, 0xff00, [(7, 0, .rw), (15, 8, .rw)]⟩,
  -- CH_PROD, 07_host_dma.md R266
  ⟨0x4101c, 0x40, 32, 0x4, 1, 0x0, [(30, 0, .rw)]⟩,
  -- CH_CONS, 07_host_dma.md R266
  ⟨0x41020, 0x40, 32, 0x4, 1, 0x0, [(30, 0, .rw)]⟩,
  -- CH_STAT, 07_host_dma.md R261
  ⟨0x41024, 0x40, 32, 0x4, 1, 0x0, [(0, 0, .sq), (1, 1, .sq), (2, 2, .sq), (3, 3, .sq), (4, 4, .sq), (5, 5, .sq), (10, 8, .ro), (31, 24, .sq)]⟩,
  -- CH_ERRCNT, 07_host_dma.md R280
  ⟨0x41028, 0x40, 32, 0x4, 1, 0x0, [(15, 0, .rw), (31, 16, .rw)]⟩,
  -- CH_DONECNT, 07_host_dma.md R277
  ⟨0x4102c, 0x40, 32, 0x4, 1, 0x0, [(31, 0, .rw)]⟩,
  -- CH_LASTBAD_LO, 07_host_dma.md R280
  ⟨0x41030, 0x40, 32, 0x4, 1, 0x0, [(31, 0, .ro)]⟩,
  -- CH_LASTBAD_HI, 07_host_dma.md R280
  ⟨0x41034, 0x40, 32, 0x4, 1, 0x0, [(31, 0, .ro)]⟩,
  -- CH_INFLIGHT, 07_host_dma.md R257
  ⟨0x41038, 0x40, 32, 0x4, 1, 0x0, [(3, 0, .ro), (16, 8, .ro)]⟩,
  -- JQ_CTRL, 06_jobs_ordering.md R194
  ⟨0x48000, 0x40, 8, 0x4, 1, 0x0, [(0, 0, .gd), (3, 1, .gd), (7, 4, .gd), (10, 8, .gd), (11, 11, .wo), (15, 12, .gd), (21, 16, .gd), (24, 24, .ro)]⟩,
  -- JQ_RING_LO, 06_jobs_ordering.md R193
  ⟨0x48004, 0x40, 8, 0x4, 1, 0x0, [(31, 5, .gd)]⟩,
  -- JQ_RING_HI, 06_jobs_ordering.md R193
  ⟨0x48008, 0x40, 8, 0x4, 1, 0x0, [(31, 0, .gd)]⟩,
  -- JQ_CQ_LO, 06_jobs_ordering.md R193
  ⟨0x4800c, 0x40, 8, 0x4, 1, 0x0, [(31, 5, .gd)]⟩,
  -- JQ_CQ_HI, 06_jobs_ordering.md R193
  ⟨0x48010, 0x40, 8, 0x4, 1, 0x0, [(31, 0, .gd)]⟩,
  -- JQ_TAIL, 06_jobs_ordering.md R197
  ⟨0x48014, 0x40, 8, 0x4, 1, 0x0, [(15, 0, .rw)]⟩,
  -- JQ_HEAD, 06_jobs_ordering.md R199
  ⟨0x48018, 0x40, 8, 0x4, 1, 0x0, [(15, 0, .ro)]⟩,
  -- JQ_CQ_TAIL, 06_jobs_ordering.md R210
  ⟨0x4801c, 0x40, 8, 0x4, 1, 0x0, [(15, 0, .ro)]⟩,
  -- JQ_CQ_HEAD, 06_jobs_ordering.md R215
  ⟨0x48020, 0x40, 8, 0x4, 1, 0x0, [(15, 0, .rw)]⟩,
  -- JQ_INBOX, 06_jobs_ordering.md R194
  ⟨0x48024, 0x40, 8, 0x4, 1, 0x0, [(16, 7, .gd)]⟩,
  -- JQ_DONE, 06_jobs_ordering.md R209
  ⟨0x48028, 0x40, 8, 0x4, 1, 0x0, [(5, 0, .wo), (8, 8, .wo)]⟩,
  -- JQ_STAT, 06_jobs_ordering.md R202
  ⟨0x4802c, 0x40, 8, 0x4, 1, 0x0, [(0, 0, .sq), (1, 1, .sq), (2, 2, .sq), (3, 3, .sq), (4, 4, .sq), (15, 8, .ro), (31, 24, .sq)]⟩]

/-- Block 0x04. -/
def rows04b : List RegRow := [
  -- MSIX_TABLE, 07_host_dma.md R249
  ⟨0x4c000, 0x4, 256, 0x4, 1, 0x0, [(31, 0, .rw)]⟩,
  -- MSIX_PBA, 07_host_dma.md R249
  ⟨0x4d000, 0x4, 2, 0x4, 1, 0x0, [(31, 0, .ro)]⟩]

/-- Block 0x04. -/
def rows04 : List RegRow := rows04a ++ rows04b

/-- Block 0x05. -/
def rows05 : List RegRow := [
  -- MEMC_CH_CFG, 07_host_dma.md R98
  ⟨0x50000, 0x100, 2, 0x4, 1, 0x0, [(2, 0, .gd), (3, 3, .gd), (5, 4, .gd), (6, 6, .gd), (8, 8, .gd)]⟩,
  -- MEMC_CH_STAT, 07_host_dma.md R290
  ⟨0x50004, 0x100, 2, 0x4, 1, 0x0, [(1, 0, .ro), (15, 8, .ro), (31, 16, .ro)]⟩,
  -- MEMC_ECC_STAT, 07_host_dma.md R292
  ⟨0x50008, 0x100, 2, 0x4, 1, 0x0, [(0, 0, .sq), (1, 1, .sq), (2, 2, .sq), (31, 24, .sq)]⟩,
  -- MEMC_ECC_ADDR_LO, 07_host_dma.md R292
  ⟨0x5000c, 0x100, 2, 0x4, 1, 0x0, [(31, 0, .ro)]⟩,
  -- MEMC_ECC_ADDR_HI, 07_host_dma.md R292
  ⟨0x50010, 0x100, 2, 0x4, 1, 0x0, [(31, 0, .ro)]⟩,
  -- MEMC_ECC_CNT, 07_host_dma.md R292
  ⟨0x50014, 0x100, 2, 0x4, 1, 0x0, [(15, 0, .rw), (31, 16, .rw)]⟩,
  -- MEMC_SCRUB, 07_host_dma.md R294
  ⟨0x50200, 0x4, 1, 0x4, 1, 0x1800, [(0, 0, .gd), (15, 8, .gd)]⟩]

/-- Block 0x06. -/
def rows06a : List RegRow := [
  -- RAS_SCAN, 08_raster_path.md R333
  ⟨0x60800, 0x10, 4, 0x4, 1, 0x100, [(0, 0, .gd), (2, 1, .gd), (4, 3, .gd), (5, 5, .gd), (6, 6, .gd), (23, 8, .gd)]⟩,
  -- RAS_SCAN_STAT, 08_raster_path.md R333
  ⟨0x60804, 0x10, 4, 0x4, 1, 0x0, [(1, 0, .ro), (2, 2, .ro), (31, 8, .ro)]⟩,
  -- RAS_STREAM, 08_raster_path.md R301
  ⟨0x61000, 0x20, 32, 0x4, 1, 0x4, [(0, 0, .gd), (1, 1, .gd), (3, 2, .gd), (5, 4, .gd), (8, 6, .gd), (20, 16, .gd), (31, 24, .gd)]⟩,
  -- RAS_STREAM_STAT, 08_raster_path.md R314
  ⟨0x61004, 0x20, 32, 0x4, 1, 0x0, [(0, 0, .sq), (1, 1, .sq), (2, 2, .sq), (8, 8, .ro), (31, 24, .sq)]⟩,
  -- RAS_FILL, 08_raster_path.md R315
  ⟨0x61008, 0x20, 32, 0x4, 1, 0x0, [(23, 0, .ro)]⟩,
  -- RAS_LINE_BYTES, 08_raster_path.md R296
  ⟨0x6100c, 0x20, 32, 0x4, 1, 0x0, [(15, 0, .ro)]⟩,
  -- RAS_SKEW, 08_raster_path.md R304
  ⟨0x62000, 0x20, 64, 0x4, 1, 0x0, [(17, 0, .gd), (29, 24, .gd)]⟩,
  -- RAS_GEOM, 08_raster_path.md R323
  ⟨0x62004, 0x20, 64, 0x4, 1, 0x0, [(1, 0, .gd), (2, 2, .gd), (15, 8, .gd), (23, 16, .gd)]⟩,
  -- RAS_MASKSEL, 08_raster_path.md R326
  ⟨0x62008, 0x20, 64, 0x4, 1, 0x0, [(5, 0, .rw)]⟩,
  -- RAS_STITCH, 08_raster_path.md R318
  ⟨0x6200c, 0x20, 64, 0x4, 1, 0x0, [(7, 0, .gd), (13, 8, .gd), (23, 16, .gd), (29, 24, .gd)]⟩,
  -- RAS_SUBCNT_A, 08_raster_path.md R327
  ⟨0x62010, 0x20, 64, 0x4, 1, 0x0, [(15, 0, .rw), (31, 16, .rw)]⟩,
  -- RAS_SUBCNT_B, 08_raster_path.md R327
  ⟨0x62014, 0x20, 64, 0x4, 1, 0x0, [(15, 0, .rw), (31, 16, .rw)]⟩,
  -- DCD_CTRL, 09_dot_clock.md R361
  ⟨0x68000, 0x100, 4, 0x4, 1, 0x0, [(1, 0, .gd), (2, 2, .rw), (3, 3, .rw), (4, 4, .wo), (9, 8, .ro)]⟩,
  -- DCD_SRC, 09_dot_clock.md R346
  ⟨0x68004, 0x100, 4, 0x4, 1, 0x0, [(3, 0, .gd), (5, 4, .gd), (8, 8, .gd), (31, 16, .gd)]⟩,
  -- DCD_START, 09_dot_clock.md R341
  ⟨0x68008, 0x100, 4, 0x4, 1, 0x0, [(31, 0, .gd)]⟩,
  -- DCD_ORIGIN_LO, 09_dot_clock.md R346
  ⟨0x6800c, 0x100, 4, 0x4, 1, 0x0, [(31, 0, .gd)]⟩,
  -- DCD_ORIGIN_HI, 09_dot_clock.md R346
  ⟨0x68010, 0x100, 4, 0x4, 1, 0x0, [(31, 0, .gd)]⟩,
  -- DCD_TMIN, 09_dot_clock.md R344
  ⟨0x68014, 0x100, 4, 0x4, 1, 0x411a, [(23, 0, .gd)]⟩,
  -- DCD_PITCH_LO, 09_dot_clock.md R347
  ⟨0x68018, 0x100, 4, 0x4, 1, 0x0, [(31, 0, .rw)]⟩,
  -- DCD_PITCH_HI, 09_dot_clock.md R347
  ⟨0x6801c, 0x100, 4, 0x4, 1, 0x1, [(31, 0, .rw)]⟩,
  -- DCD_FREQ, 09_dot_clock.md R358
  ⟨0x68020, 0x100, 4, 0x4, 1, 0x3eea2, [(31, 0, .rw)]⟩,
  -- DCD_TRIM, 09_dot_clock.md R347
  ⟨0x68024, 0x100, 4, 0x4, 1, 0x0, [(5, 0, .rw)]⟩,
  -- DCD_SHCTL, 04_register_model.md R139
  ⟨0x68028, 0x100, 4, 0x4, 1, 0x0, [(0, 0, .rw), (1, 1, .ro), (15, 8, .ro)]⟩,
  -- DCD_OVS, 09_dot_clock.md R375
  ⟨0x6802c, 0x100, 4, 0x4, 1, 0x404, [(7, 0, .rw), (15, 8, .rw)]⟩,
  -- DCD_SLOW, 09_dot_clock.md R370
  ⟨0x68030, 0x100, 4, 0x4, 1, 0x0, [(15, 0, .rw), (19, 16, .gd), (20, 20, .rw)]⟩,
  -- DCD_DERATE, 09_dot_clock.md R372
  ⟨0x68034, 0x100, 4, 0x4, 1, 0x1000084, [(11, 0, .rw), (23, 16, .rw), (31, 24, .rw)]⟩,
  -- DCD_SPEED, 09_dot_clock.md R371
  ⟨0x68038, 0x100, 4, 0x4, 1, 0x80008000, [(15, 0, .ro), (31, 16, .ro)]⟩,
  -- DCD_STAT, 09_dot_clock.md R361
  ⟨0x6803c, 0x100, 4, 0x4, 1, 0x0, [(0, 0, .sq), (1, 1, .sq), (2, 2, .sq), (3, 3, .sq), (4, 4, .sq), (5, 5, .sq), (31, 24, .sq)]⟩,
  -- DCD_LINE, 09_dot_clock.md R340
  ⟨0x68040, 0x100, 4, 0x4, 1, 0x0, [(31, 0, .ro)]⟩,
  -- DCD_PHASE, 09_dot_clock.md R350
  ⟨0x68044, 0x100, 4, 0x4, 1, 0x0, [(5, 0, .ro), (31, 16, .ro)]⟩]

/-- Block 0x06. -/
def rows06b : List RegRow := [
  -- DCD_BOUND_TB_LO, 09_dot_clock.md R342
  ⟨0x68048, 0x100, 4, 0x4, 1, 0x0, [(31, 0, .ro)]⟩,
  -- DCD_BOUND_TB_HI, 09_dot_clock.md R342
  ⟨0x6804c, 0x100, 4, 0x4, 1, 0x0, [(31, 0, .ro)]⟩,
  -- DCD_BLOCK_ORIGIN_LO, 09_dot_clock.md R356
  ⟨0x68050, 0x100, 4, 0x4, 1, 0x0, [(31, 0, .rw)]⟩,
  -- DCD_BLOCK_ORIGIN_HI, 09_dot_clock.md R356
  ⟨0x68054, 0x100, 4, 0x4, 1, 0x0, [(31, 0, .rw)]⟩,
  -- DCD_BLOCK_CTL, 09_dot_clock.md R356
  ⟨0x68058, 0x100, 4, 0x4, 1, 0x0, [(0, 0, .rw)]⟩]

/-- Block 0x06. -/
def rows06 : List RegRow := rows06a ++ rows06b

/-- Block 0x07. -/
def rows07 : List RegRow := [
  -- FH_WBASE, 10_firing_energy.md R384
  ⟨0x70000, 0x100, 64, 0x4, 1, 0x3200, [(15, 0, .rw)]⟩,
  -- FH_WLIM, 10_firing_energy.md R384
  ⟨0x70004, 0x100, 64, 0x4, 1, 0x6400001, [(11, 0, .rw), (27, 16, .rw)]⟩,
  -- FH_PRE, 10_firing_energy.md R392
  ⟨0x70008, 0x100, 64, 0x4, 1, 0x0, [(7, 0, .rw), (15, 8, .rw), (27, 16, .rw)]⟩,
  -- FH_SHCTL, 10_firing_energy.md R393
  ⟨0x7000c, 0x100, 64, 0x4, 1, 0x0, [(0, 0, .rw), (1, 1, .ro), (15, 8, .ro)]⟩,
  -- FH_VNOM, 10_firing_energy.md R390
  ⟨0x70010, 0x100, 64, 0x4, 1, 0x0, [(15, 0, .rw)]⟩,
  -- FH_VWIN, 10_firing_energy.md R390
  ⟨0x70014, 0x100, 64, 0x4, 1, 0x0, [(15, 0, .gd), (31, 16, .gd)]⟩,
  -- FH_TLIM, 10_firing_energy.md R403
  ⟨0x70018, 0x100, 64, 0x4, 1, 0x3c00320, [(15, 0, .gd), (31, 16, .gd)]⟩,
  -- FH_KTCFG, 10_firing_energy.md R388
  ⟨0x7001c, 0x100, 64, 0x4, 1, 0x0, [(15, 0, .rw), (19, 16, .rw), (20, 20, .rw)]⟩,
  -- FH_RISE, 10_firing_energy.md R387
  ⟨0x70020, 0x100, 64, 0x4, 1, 0x4000000, [(15, 0, .rw), (20, 16, .rw), (31, 24, .gd)]⟩,
  -- FH_SPCFG, 10_firing_energy.md R386
  ⟨0x70024, 0x100, 64, 0x4, 1, 0x0, [(3, 0, .rw)]⟩,
  -- FH_DUTY, 10_firing_energy.md R396
  ⟨0x70028, 0x100, 64, 0x4, 1, 0x100001, [(9, 0, .gd), (26, 16, .gd), (31, 31, .gd)]⟩,
  -- FH_BUDGET, 10_firing_energy.md R401
  ⟨0x7002c, 0x100, 64, 0x4, 1, 0xffffff, [(23, 0, .rw)]⟩,
  -- FH_BWIN, 10_firing_energy.md R401
  ⟨0x70030, 0x100, 64, 0x4, 1, 0x10, [(15, 0, .rw)]⟩,
  -- FH_CTRL, 10_firing_energy.md R407
  ⟨0x70034, 0x100, 64, 0x4, 1, 0x0, [(0, 0, .gd), (1, 1, .rw)]⟩,
  -- FH_STAT, 10_firing_energy.md R404
  ⟨0x70038, 0x100, 64, 0x4, 1, 0x0, [(0, 0, .sq), (1, 1, .sq), (2, 2, .sq), (3, 3, .sq), (10, 8, .ro), (11, 11, .ro), (31, 24, .sq)]⟩,
  -- FH_TEMP, 10_firing_energy.md R402
  ⟨0x7003c, 0x100, 64, 0x4, 1, 0x0, [(15, 0, .ro), (31, 16, .ro)]⟩,
  -- FH_KV, 10_firing_energy.md R390
  ⟨0x70040, 0x100, 64, 0x4, 1, 0x0, [(15, 0, .ro)]⟩,
  -- FH_CNT, 10_firing_energy.md R397
  ⟨0x70044, 0x100, 64, 0x4, 1, 0x0, [(15, 0, .rw), (31, 16, .rw)]⟩,
  -- FH_BUCKET, 10_firing_energy.md R401
  ⟨0x70048, 0x100, 64, 0x4, 1, 0x0, [(31, 0, .ro)]⟩,
  -- FH_SPPOS, 10_firing_energy.md R386
  ⟨0x70050, 0x100, 64, 0x4, 8, 0x0, [(15, 0, .rw), (31, 16, .rw)]⟩,
  -- FH_SENSE, 10_firing_energy.md R386
  ⟨0x70070, 0x100, 64, 0x4, 8, 0x0, [(15, 0, .ro), (31, 16, .ro)]⟩,
  -- FH_RISEZ, 10_firing_energy.md R387
  ⟨0x70090, 0x100, 64, 0x4, 16, 0x0, [(31, 0, .ro)]⟩,
  -- FIR_NZERR, 10_firing_energy.md R381
  ⟨0x78000, 0x4, 1, 0x4, 1, 0x0, [(0, 0, .sq), (1, 1, .sq), (19, 2, .ro), (31, 24, .sq)]⟩]

/-- Block 0x08. -/
def rows08 : List RegRow := [
  -- HL_CTRL, 11_head_lanes.md R415
  ⟨0x80000, 0x400, 64, 0x4, 1, 0x0, [(0, 0, .gd), (1, 1, .rw), (2, 2, .wo), (3, 3, .rw)]⟩,
  -- HL_CFG, 11_head_lanes.md R416
  ⟨0x80004, 0x400, 64, 0x4, 1, 0x88, [(1, 0, .gd), (3, 2, .gd), (4, 4, .gd), (7, 5, .gd), (8, 8, .gd)]⟩,
  -- HL_NOZ, 11_head_lanes.md R414
  ⟨0x80008, 0x400, 64, 0x4, 1, 0x0, [(17, 0, .gd), (31, 18, .gd)]⟩,
  -- HL_STAT, 11_head_lanes.md R430
  ⟨0x8000c, 0x400, 64, 0x4, 1, 0x0, [(0, 0, .sq), (1, 1, .sq), (2, 2, .sq), (3, 3, .sq), (4, 4, .sq), (5, 5, .sq), (6, 6, .sq), (7, 7, .sq), (8, 8, .sq), (9, 9, .sq), (10, 10, .sq), (11, 11, .sq), (31, 24, .sq)]⟩,
  -- HL_LINK, 11_head_lanes.md R426
  ⟨0x80010, 0x400, 64, 0x4, 1, 0x0, [(1, 0, .ro), (3, 2, .ro), (4, 4, .ro), (5, 5, .ro), (8, 6, .ro), (9, 9, .ro), (31, 16, .ro)]⟩,
  -- HL_LEASE, 11_head_lanes.md R448
  ⟨0x80014, 0x400, 64, 0x4, 1, 0x0, [(1, 0, .ro), (2, 2, .ro), (31, 16, .ro)]⟩,
  -- HL_EPOCH, 11_head_lanes.md R448
  ⟨0x80018, 0x400, 64, 0x4, 1, 0x0, [(31, 0, .ro)]⟩,
  -- HL_PCAP, 11_head_lanes.md R426
  ⟨0x80020, 0x400, 64, 0x4, 4, 0x0, [(31, 0, .ro)]⟩,
  -- HL_CX_ADDR, 11_head_lanes.md R459
  ⟨0x80030, 0x400, 64, 0x4, 1, 0x0, [(31, 0, .rw)]⟩,
  -- HL_CX_WDATA, 11_head_lanes.md R459
  ⟨0x80034, 0x400, 64, 0x4, 1, 0x0, [(31, 0, .rw)]⟩,
  -- HL_CX_CMD, 11_head_lanes.md R459
  ⟨0x80038, 0x400, 64, 0x4, 1, 0x0, [(0, 0, .rw), (2, 1, .rw), (3, 3, .ro), (6, 4, .ro)]⟩,
  -- HL_CX_RDATA, 11_head_lanes.md R459
  ⟨0x8003c, 0x400, 64, 0x4, 1, 0x0, [(31, 0, .ro)]⟩,
  -- HL_ERRCNT, 11_head_lanes.md R421
  ⟨0x80040, 0x400, 64, 0x4, 1, 0x0, [(15, 0, .rw), (31, 16, .rw)]⟩]

/-- Block 0x09. -/
def rows09 : List RegRow := [
  -- VFY_DCFG, 12_drop_verification.md R470
  ⟨0x90000, 0x20, 4, 0x4, 1, 0x10f200c, [(7, 0, .gd), (15, 8, .gd), (23, 16, .gd), (25, 24, .gd), (27, 26, .gd), (31, 31, .gd)]⟩,
  -- VFY_DET, 12_drop_verification.md R475
  ⟨0x90004, 0x20, 4, 0x4, 1, 0x400218, [(7, 0, .rw), (15, 8, .rw), (27, 16, .rw)]⟩,
  -- VFY_WIN, 12_drop_verification.md R465
  ⟨0x90008, 0x20, 4, 0x4, 1, 0xb40226, [(11, 0, .rw), (27, 16, .rw)]⟩,
  -- VFY_CLS, 12_drop_verification.md R479
  ⟨0x9000c, 0x20, 4, 0x4, 1, 0x40050028, [(11, 0, .rw), (23, 16, .rw), (31, 24, .rw)]⟩,
  -- VFY_HOLD_REL, 12_drop_verification.md R486
  ⟨0x90100, 0x4, 1, 0x4, 1, 0x0, [(17, 0, .wo)]⟩,
  -- VFY_HOLD_CNT, 12_drop_verification.md R483
  ⟨0x90140, 0x4, 8, 0x4, 1, 0x0, [(8, 0, .ro)]⟩,
  -- VFY_LGATE, 12_drop_verification.md R494
  ⟨0x90200, 0x4, 4, 0x4, 1, 0x0, [(0, 0, .gd), (6, 1, .gd), (7, 7, .gd)]⟩,
  -- VFY_LANE, 12_drop_verification.md R477
  ⟨0x91000, 0x20, 64, 0x4, 1, 0x0, [(0, 0, .gd), (1, 1, .gd), (3, 2, .gd), (4, 4, .ro)]⟩,
  -- VFY_VEL, 12_drop_verification.md R480
  ⟨0x91004, 0x20, 64, 0x4, 1, 0x0, [(15, 0, .rw), (27, 16, .rw)]⟩,
  -- VFY_CURSOR, 12_drop_verification.md R473
  ⟨0x91008, 0x20, 64, 0x4, 1, 0x0, [(12, 0, .gd)]⟩,
  -- VFY_LSTAT, 12_drop_verification.md R476
  ⟨0x9100c, 0x20, 64, 0x4, 1, 0x0, [(0, 0, .sq), (1, 1, .sq), (2, 2, .sq), (3, 3, .sq), (4, 4, .sq), (5, 5, .sq), (10, 8, .ro), (31, 24, .sq)]⟩,
  -- VFY_RESQ, 12_drop_verification.md R482
  ⟨0x91010, 0x20, 64, 0x4, 1, 0x0, [(5, 0, .rw), (13, 8, .ro), (31, 16, .rw)]⟩,
  -- VFY_LCNT, 12_drop_verification.md R479
  ⟨0x91014, 0x20, 64, 0x4, 1, 0x0, [(15, 0, .rw), (31, 16, .rw)]⟩,
  -- VFY_LEVELS, 12_drop_verification.md R475
  ⟨0x94000, 0x40, 64, 0x4, 16, 0x0, [(11, 0, .ro), (27, 16, .ro)]⟩,
  -- VFY_HOLD_ENT, 12_drop_verification.md R483
  ⟨0x96000, 0x400, 8, 0x4, 256, 0x0, [(17, 0, .ro), (31, 31, .ro)]⟩,
  -- VFY_RING, 12_drop_verification.md R482
  ⟨0x98000, 0x200, 64, 0x4, 128, 0x0, [(31, 0, .ro)]⟩]

/-- Block 0x0a. -/
def rows0Aa : List RegRow := [
  -- MOT_CTRL, 13_motion.md R502
  ⟨0xa0000, 0x200, 16, 0x4, 1, 0x0, [(0, 0, .gd), (1, 1, .rw), (2, 2, .wo), (3, 3, .wo), (4, 4, .rw)]⟩,
  -- MOT_CFG, 13_motion.md R497
  ⟨0xa0004, 0x200, 16, 0x4, 1, 0xf000, [(1, 0, .gd), (3, 2, .gd), (4, 4, .rw), (5, 5, .gd), (6, 6, .gd), (7, 7, .gd), (8, 8, .gd), (15, 12, .gd)]⟩,
  -- MOT_STEPCFG, 13_motion.md R498
  ⟨0xa0008, 0x200, 16, 0x4, 1, 0xa0a, [(7, 0, .gd), (15, 8, .gd)]⟩,
  -- MOT_TARGET_LO, 13_motion.md R509
  ⟨0xa000c, 0x200, 16, 0x4, 1, 0x0, [(31, 0, .rw)]⟩,
  -- MOT_TARGET_HI, 13_motion.md R509
  ⟨0xa0010, 0x200, 16, 0x4, 1, 0x0, [(31, 0, .rw)]⟩,
  -- MOT_VSTART, 13_motion.md R506
  ⟨0xa0014, 0x200, 16, 0x4, 1, 0x0, [(31, 0, .rw)]⟩,
  -- MOT_VSTOP, 13_motion.md R506
  ⟨0xa0018, 0x200, 16, 0x4, 1, 0x0, [(31, 0, .rw)]⟩,
  -- MOT_VCORNER, 13_motion.md R506
  ⟨0xa001c, 0x200, 16, 0x4, 1, 0x0, [(31, 0, .rw)]⟩,
  -- MOT_VMAX, 13_motion.md R500
  ⟨0xa0020, 0x200, 16, 0x4, 1, 0x0, [(31, 0, .rw)]⟩,
  -- MOT_A1, 13_motion.md R505
  ⟨0xa0024, 0x200, 16, 0x4, 1, 0xf4240, [(31, 0, .rw)]⟩,
  -- MOT_A2, 13_motion.md R505
  ⟨0xa0028, 0x200, 16, 0x4, 1, 0xf4240, [(31, 0, .rw)]⟩,
  -- MOT_D1, 13_motion.md R505
  ⟨0xa002c, 0x200, 16, 0x4, 1, 0xf4240, [(31, 0, .rw)]⟩,
  -- MOT_D2, 13_motion.md R505
  ⟨0xa0030, 0x200, 16, 0x4, 1, 0xf4240, [(31, 0, .rw)]⟩,
  -- MOT_QSDEC, 13_motion.md R515
  ⟨0xa0034, 0x200, 16, 0x4, 1, 0xf4240, [(31, 0, .rw)]⟩,
  -- MOT_VEL, 13_motion.md R512
  ⟨0xa0038, 0x200, 16, 0x4, 1, 0x0, [(31, 0, .rw)]⟩,
  -- MOT_POS_LO, 13_motion.md R513
  ⟨0xa003c, 0x200, 16, 0x4, 1, 0x0, [(31, 0, .rw)]⟩,
  -- MOT_POS_HI, 13_motion.md R513
  ⟨0xa0040, 0x200, 16, 0x4, 1, 0x0, [(31, 0, .rw)]⟩,
  -- MOT_SPEED, 13_motion.md R504
  ⟨0xa0044, 0x200, 16, 0x4, 1, 0x0, [(31, 0, .ro)]⟩,
  -- MOT_STAT, 13_motion.md R508
  ⟨0xa0048, 0x200, 16, 0x4, 1, 0x0, [(0, 0, .sq), (1, 1, .sq), (2, 2, .sq), (3, 3, .sq), (4, 4, .sq), (5, 5, .sq), (6, 6, .sq), (10, 8, .ro), (31, 24, .sq)]⟩,
  -- MOT_STATE, 13_motion.md R515
  ⟨0xa004c, 0x200, 16, 0x4, 1, 0x0, [(2, 0, .ro), (3, 3, .ro), (4, 4, .ro), (5, 5, .ro), (6, 6, .ro), (7, 7, .ro)]⟩,
  -- MOT_DEVWIN, 13_motion.md R514
  ⟨0xa0050, 0x200, 16, 0x4, 1, 0x0, [(23, 0, .rw)]⟩,
  -- MOT_DEVTIME, 13_motion.md R514
  ⟨0xa0054, 0x200, 16, 0x4, 1, 0x1, [(15, 0, .rw)]⟩,
  -- MOT_FBSCALE, 13_motion.md R513
  ⟨0xa0058, 0x200, 16, 0x4, 1, 0x10000, [(31, 0, .rw)]⟩,
  -- MOT_DEV, 13_motion.md R513
  ⟨0xa005c, 0x200, 16, 0x4, 1, 0x0, [(31, 0, .ro)]⟩,
  -- MOT_HCFG, 13_motion.md R521
  ⟨0xa0060, 0x200, 16, 0x4, 1, 0x8000000, [(0, 0, .gd), (16, 4, .gd), (31, 24, .gd)]⟩,
  -- MOT_HCHATWIN, 13_motion.md R523
  ⟨0xa0064, 0x200, 16, 0x4, 1, 0x3e8, [(15, 0, .rw)]⟩,
  -- MOT_HFAST, 13_motion.md R520
  ⟨0xa0068, 0x200, 16, 0x4, 1, 0x0, [(31, 0, .rw)]⟩,
  -- MOT_HSLOW, 13_motion.md R520
  ⟨0xa006c, 0x200, 16, 0x4, 1, 0x0, [(31, 0, .rw)]⟩,
  -- MOT_HBACK, 13_motion.md R520
  ⟨0xa0070, 0x200, 16, 0x4, 1, 0x0, [(23, 0, .rw)]⟩,
  -- MOT_HOFS_LO, 13_motion.md R522
  ⟨0xa0074, 0x200, 16, 0x4, 1, 0x0, [(31, 0, .rw)]⟩]

/-- Block 0x0a. -/
def rows0Ab : List RegRow := [
  -- MOT_HOFS_HI, 13_motion.md R522
  ⟨0xa0078, 0x200, 16, 0x4, 1, 0x0, [(31, 0, .rw)]⟩,
  -- MOT_HLATCH_LO, 13_motion.md R521
  ⟨0xa007c, 0x200, 16, 0x4, 1, 0x0, [(31, 0, .ro)]⟩,
  -- MOT_HLATCH_HI, 13_motion.md R521
  ⟨0xa0080, 0x200, 16, 0x4, 1, 0x0, [(31, 0, .ro)]⟩,
  -- MOT_GCFG, 13_motion.md R529
  ⟨0xa0084, 0x200, 16, 0x4, 1, 0x0, [(3, 0, .gd)]⟩,
  -- MOT_GNUM, 13_motion.md R530
  ⟨0xa0088, 0x200, 16, 0x4, 1, 0x1, [(31, 0, .rw)]⟩,
  -- MOT_GDEN, 13_motion.md R530
  ⟨0xa008c, 0x200, 16, 0x4, 1, 0x1, [(31, 0, .rw)]⟩,
  -- MOT_GAT_LO, 13_motion.md R530
  ⟨0xa0090, 0x200, 16, 0x4, 1, 0x0, [(31, 0, .rw)]⟩,
  -- MOT_GAT_HI, 13_motion.md R530
  ⟨0xa0094, 0x200, 16, 0x4, 1, 0x0, [(31, 0, .rw)]⟩,
  -- MOT_GATCTL, 13_motion.md R530
  ⟨0xa0098, 0x200, 16, 0x4, 1, 0x0, [(0, 0, .rw)]⟩,
  -- MOT_GSHCTL, 13_motion.md R530
  ⟨0xa009c, 0x200, 16, 0x4, 1, 0x0, [(0, 0, .rw), (1, 1, .ro), (15, 8, .ro)]⟩,
  -- GRP_CFG, 13_motion.md R525
  ⟨0xa8000, 0x10, 4, 0x4, 1, 0x0, [(15, 0, .gd)]⟩,
  -- GRP_CTRL, 13_motion.md R526
  ⟨0xa8004, 0x10, 4, 0x4, 1, 0x0, [(0, 0, .rw), (1, 1, .wo)]⟩,
  -- GRP_STAT, 13_motion.md R525
  ⟨0xa8008, 0x10, 4, 0x4, 1, 0x0, [(0, 0, .sq), (1, 1, .sq), (19, 16, .ro), (31, 24, .sq)]⟩,
  -- REJ_CFG, 13_motion.md R534
  ⟨0xa9000, 0x20, 4, 0x4, 1, 0x0, [(0, 0, .gd), (2, 1, .gd), (7, 4, .gd)]⟩,
  -- REJ_DIST, 13_motion.md R535
  ⟨0xa9004, 0x20, 4, 0x4, 1, 0x0, [(31, 0, .gd)]⟩,
  -- REJ_LEN, 13_motion.md R536
  ⟨0xa9008, 0x20, 4, 0x4, 1, 0x0, [(31, 0, .rw)]⟩,
  -- REJ_STAT, 13_motion.md R535
  ⟨0xa900c, 0x20, 4, 0x4, 1, 0x0, [(0, 0, .sq), (1, 1, .sq), (2, 2, .sq), (3, 3, .ro), (4, 4, .sq), (16, 8, .ro), (31, 24, .sq)]⟩,
  -- REJ_CNT, 13_motion.md R537
  ⟨0xa9010, 0x20, 4, 0x4, 1, 0x0, [(15, 0, .rw), (31, 16, .rw)]⟩]

/-- Block 0x0a. -/
def rows0A : List RegRow := rows0Aa ++ rows0Ab

/-- Block 0x0b. -/
def rows0Ba : List RegRow := [
  -- FB_CTRL, 14_position_feedback.md R541
  ⟨0xb0000, 0x200, 12, 0x4, 1, 0x0, [(0, 0, .gd), (1, 1, .rw)]⟩,
  -- FB_CFG, 14_position_feedback.md R542
  ⟨0xb0004, 0x200, 12, 0x4, 1, 0x0, [(2, 0, .gd), (3, 3, .gd), (4, 4, .gd), (5, 5, .gd), (6, 6, .rw), (15, 8, .gd), (19, 16, .gd)]⟩,
  -- FB_POS_LO, 14_position_feedback.md R556
  ⟨0xb0008, 0x200, 12, 0x4, 1, 0x0, [(31, 0, .rw)]⟩,
  -- FB_POS_HI, 14_position_feedback.md R556
  ⟨0xb000c, 0x200, 12, 0x4, 1, 0x0, [(31, 0, .rw)]⟩,
  -- FB_POS_FRAC, 14_position_feedback.md R550
  ⟨0xb0010, 0x200, 12, 0x4, 1, 0x0, [(31, 0, .ro)]⟩,
  -- FB_SPEED, 14_position_feedback.md R558
  ⟨0xb0014, 0x200, 12, 0x4, 1, 0x0, [(31, 0, .ro)]⟩,
  -- FB_LSTMO, 14_position_feedback.md R559
  ⟨0xb0018, 0x200, 12, 0x4, 1, 0x2710, [(15, 0, .rw)]⟩,
  -- FB_LATENCY, 14_position_feedback.md R544
  ⟨0xb001c, 0x200, 12, 0x4, 1, 0x18, [(15, 0, .ro)]⟩,
  -- FB_STAT, 14_position_feedback.md R560
  ⟨0xb0020, 0x200, 12, 0x4, 1, 0x0, [(0, 0, .sq), (1, 1, .sq), (2, 2, .sq), (3, 3, .sq), (4, 4, .sq), (5, 5, .sq), (6, 6, .sq), (7, 7, .sq), (8, 8, .sq), (9, 9, .sq), (31, 24, .sq)]⟩,
  -- FB_LIVE, 14_position_feedback.md R555
  ⟨0xb0024, 0x200, 12, 0x4, 1, 0x20, [(0, 0, .ro), (1, 1, .ro), (2, 2, .ro), (4, 3, .ro), (5, 5, .ro), (6, 6, .ro)]⟩,
  -- FB_ERRCFG, 14_position_feedback.md R547
  ⟨0xb0028, 0x200, 12, 0x4, 1, 0x0, [(4, 0, .rw), (31, 16, .rw)]⟩,
  -- FB_ERRCNT, 14_position_feedback.md R547
  ⟨0xb002c, 0x200, 12, 0x4, 1, 0x0, [(15, 0, .rw)]⟩,
  -- FB_LPR, 14_position_feedback.md R563
  ⟨0xb0030, 0x200, 12, 0x4, 1, 0x0, [(31, 0, .rw)]⟩,
  -- FB_IDXREF, 14_position_feedback.md R563
  ⟨0xb0034, 0x200, 12, 0x4, 1, 0x0, [(31, 0, .rw)]⟩,
  -- FB_IDXCFG, 14_position_feedback.md R563
  ⟨0xb0038, 0x200, 12, 0x4, 1, 0x0, [(15, 0, .rw), (16, 16, .rw)]⟩,
  -- FB_IDXPOS_LO, 14_position_feedback.md R562
  ⟨0xb003c, 0x200, 12, 0x4, 1, 0x0, [(31, 0, .ro)]⟩,
  -- FB_IDXPOS_HI, 14_position_feedback.md R562
  ⟨0xb0040, 0x200, 12, 0x4, 1, 0x0, [(31, 0, .ro)]⟩,
  -- FB_IDXDIFF, 14_position_feedback.md R564
  ⟨0xb0044, 0x200, 12, 0x4, 1, 0x0, [(31, 0, .ro)]⟩,
  -- FB_SCOFS, 14_position_feedback.md R550
  ⟨0xb0048, 0x200, 12, 0x4, 1, 0x0, [(15, 0, .rw), (31, 16, .rw)]⟩,
  -- FB_SCGAIN, 14_position_feedback.md R550
  ⟨0xb004c, 0x200, 12, 0x4, 1, 0x40004000, [(15, 0, .rw), (31, 16, .rw)]⟩,
  -- FB_AMPWIN, 14_position_feedback.md R552
  ⟨0xb0050, 0x200, 12, 0x4, 1, 0x30001000, [(15, 0, .rw), (31, 16, .rw)]⟩,
  -- FB_LOSS, 14_position_feedback.md R552
  ⟨0xb0054, 0x200, 12, 0x4, 1, 0x4, [(7, 0, .rw)]⟩,
  -- FB_SCRAW, 14_position_feedback.md R550
  ⟨0xb0058, 0x200, 12, 0x4, 1, 0x0, [(15, 0, .ro), (31, 16, .ro)]⟩,
  -- CMP_CTL, 14_position_feedback.md R567
  ⟨0xb0100, 0x200, 12, 0x20, 4, 0x0, [(0, 0, .rw), (1, 1, .rw), (2, 2, .ro), (4, 3, .ro)]⟩,
  -- CMP_NEXT_FRAC, 14_position_feedback.md R566
  ⟨0xb0104, 0x200, 12, 0x20, 4, 0x0, [(31, 0, .rw)]⟩,
  -- CMP_NEXT_LO, 14_position_feedback.md R566
  ⟨0xb0108, 0x200, 12, 0x20, 4, 0x0, [(31, 0, .rw)]⟩,
  -- CMP_NEXT_HI, 14_position_feedback.md R566
  ⟨0xb010c, 0x200, 12, 0x20, 4, 0x0, [(31, 0, .rw)]⟩,
  -- CMP_PITCH_LO, 14_position_feedback.md R566
  ⟨0xb0110, 0x200, 12, 0x20, 4, 0x0, [(31, 0, .rw)]⟩,
  -- CMP_PITCH_HI, 14_position_feedback.md R566
  ⟨0xb0114, 0x200, 12, 0x20, 4, 0x1, [(31, 0, .rw)]⟩,
  -- CMP_SHCTL, 14_position_feedback.md R569
  ⟨0xb0118, 0x200, 12, 0x20, 4, 0x0, [(0, 0, .rw), (1, 1, .ro), (15, 8, .ro)]⟩]

/-- Block 0x0b. -/
def rows0Bb : List RegRow := [
  -- CMP_HITS, 14_position_feedback.md R567
  ⟨0xb011c, 0x200, 12, 0x20, 4, 0x0, [(31, 0, .rw)]⟩,
  -- EMU_CFG, 14_position_feedback.md R574
  ⟨0xb8000, 0x20, 4, 0x4, 1, 0xa0400, [(0, 0, .gd), (4, 1, .gd), (5, 5, .gd), (15, 8, .gd), (23, 16, .gd)]⟩,
  -- EMU_NUM, 14_position_feedback.md R571
  ⟨0xb8004, 0x20, 4, 0x4, 1, 0x1, [(31, 0, .gd)]⟩,
  -- EMU_DEN, 14_position_feedback.md R571
  ⟨0xb8008, 0x20, 4, 0x4, 1, 0x1, [(31, 0, .gd)]⟩,
  -- EMU_STAT, 14_position_feedback.md R572
  ⟨0xb800c, 0x20, 4, 0x4, 1, 0x0, [(0, 0, .sq), (31, 24, .sq)]⟩,
  -- EMU_LAG, 14_position_feedback.md R572
  ⟨0xb8010, 0x20, 4, 0x4, 1, 0x0, [(31, 0, .ro)]⟩]

/-- Block 0x0b. -/
def rows0B : List RegRow := rows0Ba ++ rows0Bb

/-- Block 0x0c. -/
def rows0Ca : List RegRow := [
  -- LP_CTRL, 15_loop_array.md R586
  ⟨0xc0000, 0x100, 32, 0x4, 1, 0x0, [(0, 0, .rw), (1, 1, .wo)]⟩,
  -- LP_CFG, 15_loop_array.md R579
  ⟨0xc0004, 0x100, 32, 0x4, 1, 0xff0000, [(2, 0, .gd), (3, 3, .gd), (4, 4, .gd), (15, 8, .gd), (23, 16, .gd), (25, 24, .gd), (29, 26, .gd)]⟩,
  -- LP_REF, 15_loop_array.md R579
  ⟨0xc0008, 0x100, 32, 0x4, 1, 0x0, [(31, 0, .rw)]⟩,
  -- LP_SHCTL, 15_loop_array.md R589
  ⟨0xc000c, 0x100, 32, 0x4, 1, 0x0, [(0, 0, .rw), (1, 1, .ro), (15, 8, .ro)]⟩,
  -- LP_B, 15_loop_array.md R581
  ⟨0xc0010, 0x100, 32, 0x4, 4, 0x0, [(31, 0, .rw)]⟩,
  -- LP_A, 15_loop_array.md R581
  ⟨0xc0020, 0x100, 32, 0x4, 3, 0x0, [(31, 0, .rw)]⟩,
  -- LP_SHB, 15_loop_array.md R581
  ⟨0xc002c, 0x100, 32, 0x4, 1, 0x0, [(4, 0, .rw), (12, 8, .rw), (20, 16, .rw), (28, 24, .rw)]⟩,
  -- LP_SHA, 15_loop_array.md R581
  ⟨0xc0030, 0x100, 32, 0x4, 1, 0x0, [(4, 0, .rw), (12, 8, .rw), (20, 16, .rw)]⟩,
  -- LP_OMIN, 15_loop_array.md R581
  ⟨0xc0034, 0x100, 32, 0x4, 1, 0x80000000, [(31, 0, .rw)]⟩,
  -- LP_OMAX, 15_loop_array.md R581
  ⟨0xc0038, 0x100, 32, 0x4, 1, 0x7fffffff, [(31, 0, .rw)]⟩,
  -- LP_STAT, 15_loop_array.md R582
  ⟨0xc003c, 0x100, 32, 0x4, 1, 0x0, [(0, 0, .sq), (1, 1, .sq), (2, 2, .sq), (3, 3, .sq), (31, 24, .sq)]⟩,
  -- LP_LIVE, 15_loop_array.md R582
  ⟨0xc0040, 0x100, 32, 0x4, 1, 0x0, [(0, 0, .ro), (1, 1, .ro), (2, 2, .ro), (3, 3, .ro)]⟩,
  -- LP_Y, 15_loop_array.md R584
  ⟨0xc0044, 0x100, 32, 0x4, 1, 0x0, [(31, 0, .ro)]⟩,
  -- LP_U, 15_loop_array.md R581
  ⟨0xc0048, 0x100, 32, 0x4, 1, 0x0, [(31, 0, .ro)]⟩,
  -- LP_E, 15_loop_array.md R581
  ⟨0xc004c, 0x100, 32, 0x4, 1, 0x0, [(31, 0, .ro)]⟩,
  -- LP_XH, 15_loop_array.md R581
  ⟨0xc0050, 0x100, 32, 0x4, 3, 0x0, [(31, 0, .ro)]⟩,
  -- LP_YH, 15_loop_array.md R581
  ⟨0xc005c, 0x100, 32, 0x4, 3, 0x0, [(31, 0, .ro)]⟩,
  -- LP_YINIT, 15_loop_array.md R583
  ⟨0xc0068, 0x100, 32, 0x4, 1, 0x0, [(31, 0, .rw)]⟩,
  -- LP_SATLIM, 15_loop_array.md R582
  ⟨0xc006c, 0x100, 32, 0x4, 1, 0x0, [(15, 0, .rw)]⟩,
  -- LP_ACTIVE, 15_loop_array.md R589
  ⟨0xc0080, 0x100, 32, 0x4, 11, 0x0, [(31, 0, .ro)]⟩,
  -- LP_EIN, 15_loop_array.md R580
  ⟨0xc2000, 0x4, 32, 0x4, 1, 0x0, [(31, 0, .rw)]⟩,
  -- LP_TMR, 15_loop_array.md R576
  ⟨0xc3000, 0x10, 8, 0x4, 1, 0x9c40, [(23, 0, .gd), (31, 31, .gd)]⟩,
  -- LP_TMR_START, 15_loop_array.md R576
  ⟨0xc3080, 0x4, 1, 0x4, 1, 0x0, [(7, 0, .wo)]⟩,
  -- PWM_CFG, 15_loop_array.md R585
  ⟨0xc4000, 0x10, 16, 0x4, 1, 0x0, [(0, 0, .gd), (1, 1, .gd), (2, 2, .gd)]⟩,
  -- PWM_PERIOD, 15_loop_array.md R585
  ⟨0xc4004, 0x10, 16, 0x4, 1, 0x10000, [(23, 0, .gd)]⟩,
  -- PWM_DUTY, 15_loop_array.md R585
  ⟨0xc4008, 0x10, 16, 0x4, 1, 0x0, [(15, 0, .rw)]⟩,
  -- TRC_CTRL, 15_loop_array.md R591
  ⟨0xc8000, 0x40, 4, 0x4, 1, 0x0, [(0, 0, .rw), (12, 8, .rw), (31, 16, .rw)]⟩,
  -- TRC_TRIG, 15_loop_array.md R592
  ⟨0xc8004, 0x40, 4, 0x4, 1, 0x10000000, [(2, 0, .rw), (5, 4, .rw), (29, 16, .rw)]⟩,
  -- TRC_LEVEL, 15_loop_array.md R592
  ⟨0xc8008, 0x40, 4, 0x4, 1, 0x0, [(31, 0, .rw)]⟩,
  -- TRC_STAT, 15_loop_array.md R593
  ⟨0xc800c, 0x40, 4, 0x4, 1, 0x0, [(0, 0, .ro), (1, 1, .ro), (15, 2, .ro), (28, 16, .ro)]⟩]

/-- Block 0x0c. -/
def rows0Cb : List RegRow := [
  -- TRC_PAGE, 15_loop_array.md R594
  ⟨0xc8010, 0x40, 4, 0x4, 1, 0x0, [(4, 0, .rw)]⟩,
  -- TRC_WIN, 15_loop_array.md R594
  ⟨0xcc000, 0x1000, 4, 0x4, 1024, 0x0, [(31, 0, .ro)]⟩]

/-- Block 0x0c. -/
def rows0C : List RegRow := rows0Ca ++ rows0Cb

/-- Block 0x0d. -/
def rows0D : List RegRow := [
  -- CAL_CMD, 16_calibration.md R599
  ⟨0xd0000, 0x4, 1, 0x4, 1, 0x0, [(0, 0, .rw), (9, 8, .rw), (21, 16, .rw)]⟩,
  -- CAL_STAT, 16_calibration.md R599
  ⟨0xd0004, 0x4, 1, 0x4, 1, 0x0, [(0, 0, .sq), (1, 1, .sq), (2, 2, .sq), (3, 3, .sq), (8, 8, .ro), (15, 12, .ro), (31, 24, .sq)]⟩,
  -- CAL_APPLY, 16_calibration.md R597
  ⟨0xd0008, 0x4, 1, 0x4, 1, 0x0, [(15, 0, .wo), (17, 16, .ro)]⟩,
  -- CAL_DIETEMP, 16_calibration.md R613
  ⟨0xd000c, 0x4, 1, 0x4, 1, 0x0, [(15, 0, .ro)]⟩,
  -- CAL_LIM, 16_calibration.md R602
  ⟨0xd0010, 0x4, 1, 0x4, 1, 0x10006410, [(7, 0, .rw), (15, 8, .rw), (31, 16, .rw)]⟩,
  -- CAL_DUE, 16_calibration.md R609
  ⟨0xd0014, 0x4, 1, 0x4, 1, 0x0, [(15, 0, .ro)]⟩,
  -- CAL_TRIG, 16_calibration.md R609
  ⟨0xd0100, 0x8, 16, 0x4, 1, 0x0, [(15, 0, .rw), (20, 16, .rw), (21, 21, .rw), (22, 22, .rw)]⟩,
  -- CAL_TLAST, 16_calibration.md R608
  ⟨0xd0104, 0x8, 16, 0x4, 1, 0x0, [(15, 0, .ro)]⟩,
  -- CAL_NZCFG, 16_calibration.md R605
  ⟨0xd0200, 0x4, 1, 0x4, 1, 0x0, [(13, 0, .rw)]⟩,
  -- CAL_SCAN, 16_calibration.md R604
  ⟨0xd0400, 0x4, 64, 0x4, 1, 0x0, [(11, 0, .rw), (31, 31, .rw)]⟩,
  -- CAL_ADC_STAGE, 16_calibration.md R600
  ⟨0xd0600, 0x4, 12, 0x4, 1, 0x0, [(15, 0, .ro), (31, 16, .ro)]⟩,
  -- CAL_ADCOFS, 16_calibration.md R598
  ⟨0xd0640, 0x4, 12, 0x4, 1, 0x0, [(15, 0, .ro), (31, 16, .ro)]⟩,
  -- CAL_SC_STAGE, 16_calibration.md R601
  ⟨0xd0680, 0x8, 4, 0x4, 1, 0x0, [(15, 0, .ro), (31, 16, .ro)]⟩,
  -- CAL_SC_STAGE_G, 16_calibration.md R601
  ⟨0xd0684, 0x8, 4, 0x4, 1, 0x40004000, [(15, 0, .ro), (31, 16, .ro)]⟩,
  -- QZ_BUF, 16_calibration.md R611
  ⟨0xd1000, 0x4, 38, 0x4, 1, 0x0, [(31, 0, .rw)]⟩,
  -- QZ_ACTIVE, 16_calibration.md R613
  ⟨0xd1100, 0x4, 40, 0x4, 1, 0x0, [(31, 0, .ro)]⟩,
  -- QZ_CMD, 16_calibration.md R611
  ⟨0xd1200, 0x4, 1, 0x4, 1, 0x0, [(0, 0, .gd)]⟩,
  -- QZ_STAT, 16_calibration.md R611
  ⟨0xd1204, 0x4, 1, 0x4, 1, 0x0, [(0, 0, .sq), (1, 1, .sq), (2, 2, .sq), (8, 8, .ro), (31, 24, .sq)]⟩,
  -- QZ_SLOTS, 16_calibration.md R613
  ⟨0xd1208, 0x4, 1, 0x4, 1, 0x0, [(5, 0, .ro), (13, 8, .ro), (16, 16, .ro)]⟩,
  -- CAL_NZBUF, 16_calibration.md R605
  ⟨0xd8000, 0x4, 8192, 0x4, 1, 0x0, [(17, 0, .rw), (27, 18, .rw)]⟩]

/-- Block 0x0e. -/
def rows0Ea : List RegRow := [
  -- SEC_STAT, 18_security_ledger.md R647
  ⟨0xe0000, 0x4, 1, 0x4, 1, 0x0, [(0, 0, .ro), (1, 1, .ro), (2, 2, .sq), (31, 24, .sq)]⟩,
  -- SEC_FPROG, 18_security_ledger.md R647
  ⟨0xe0004, 0x4, 1, 0x4, 1, 0x0, [(3, 0, .gd), (9, 8, .gd), (16, 16, .gd)]⟩,
  -- SEC_FDATA, 18_security_ledger.md R647
  ⟨0xe0040, 0x4, 12, 0x4, 1, 0x0, [(31, 0, .wo)]⟩,
  -- SEC_FUSE, 18_security_ledger.md R646
  ⟨0xe0100, 0x4, 64, 0x4, 1, 0x0, [(31, 0, .ro)]⟩,
  -- SEC_TOK_CTRL, 18_security_ledger.md R650
  ⟨0xe0200, 0x4, 1, 0x4, 1, 0x0, [(4, 0, .rw), (8, 8, .rw)]⟩,
  -- SEC_TOK_STAT, 18_security_ledger.md R651
  ⟨0xe0204, 0x4, 1, 0x4, 1, 0x0, [(0, 0, .sq), (1, 1, .sq), (5, 4, .ro), (31, 24, .sq)]⟩,
  -- SEC_TOK_NONCE, 18_security_ledger.md R650
  ⟨0xe0220, 0x4, 8, 0x4, 1, 0x0, [(31, 0, .ro)]⟩,
  -- SEC_TOK_PUB, 18_security_ledger.md R649
  ⟨0xe0240, 0x4, 25, 0x4, 1, 0x0, [(31, 0, .wo)]⟩,
  -- SEC_TOK_SIG, 18_security_ledger.md R649
  ⟨0xe02c0, 0x4, 24, 0x4, 1, 0x0, [(31, 0, .wo)]⟩,
  -- SEC_LD_SRC_LO, 18_security_ledger.md R652
  ⟨0xe0400, 0x4, 1, 0x4, 1, 0x0, [(31, 0, .rw)]⟩,
  -- SEC_LD_SRC_HI, 18_security_ledger.md R652
  ⟨0xe0404, 0x4, 1, 0x4, 1, 0x0, [(31, 0, .rw)]⟩,
  -- SEC_LD_LEN, 18_security_ledger.md R652
  ⟨0xe0408, 0x4, 1, 0x4, 1, 0x0, [(18, 0, .rw)]⟩,
  -- SEC_LD_CTRL, 18_security_ledger.md R652
  ⟨0xe040c, 0x4, 1, 0x4, 1, 0x0, [(3, 0, .gd), (8, 8, .gd)]⟩,
  -- SEC_LD_STAT, 18_security_ledger.md R652
  ⟨0xe0410, 0x4, 1, 0x4, 1, 0x0, [(0, 0, .sq), (1, 1, .sq), (2, 2, .ro), (11, 8, .ro), (16, 12, .ro), (31, 24, .sq)]⟩,
  -- SEC_LD_MEAS, 18_security_ledger.md R652
  ⟨0xe0420, 0x4, 12, 0x4, 1, 0x0, [(31, 0, .ro)]⟩,
  -- LG_CTRL, 18_security_ledger.md R672
  ⟨0xe1000, 0x4, 1, 0x4, 1, 0x0, [(0, 0, .gd), (1, 1, .gd)]⟩,
  -- LG_STAT, 18_security_ledger.md R671
  ⟨0xe1004, 0x4, 1, 0x4, 1, 0x0, [(0, 0, .sq), (1, 1, .sq), (8, 8, .ro), (9, 9, .ro), (31, 24, .sq)]⟩,
  -- LG_CFG, 18_security_ledger.md R670
  ⟨0xe1008, 0x4, 1, 0x4, 1, 0x0, [(4, 0, .gd), (13, 8, .gd)]⟩,
  -- LG_RING_LO, 18_security_ledger.md R670
  ⟨0xe100c, 0x4, 1, 0x4, 1, 0x0, [(31, 0, .gd)]⟩,
  -- LG_RING_HI, 18_security_ledger.md R670
  ⟨0xe1010, 0x4, 1, 0x4, 1, 0x0, [(31, 0, .gd)]⟩,
  -- LG_TAIL, 18_security_ledger.md R670
  ⟨0xe1014, 0x4, 1, 0x4, 1, 0x0, [(31, 0, .ro)]⟩,
  -- LG_HEAD, 18_security_ledger.md R670
  ⟨0xe1018, 0x4, 1, 0x4, 1, 0x0, [(31, 0, .rw)]⟩,
  -- LG_NEXT_LO, 18_security_ledger.md R662
  ⟨0xe1020, 0x4, 1, 0x4, 1, 0x0, [(31, 0, .ro)]⟩,
  -- LG_NEXT_HI, 18_security_ledger.md R662
  ⟨0xe1024, 0x4, 1, 0x4, 1, 0x0, [(31, 0, .ro)]⟩,
  -- LG_BUFFERED, 18_security_ledger.md R671
  ⟨0xe1028, 0x4, 1, 0x4, 1, 0x0, [(9, 0, .ro)]⟩,
  -- LG_SERIAL_FLOOR_LO, 18_security_ledger.md R675
  ⟨0xe1030, 0x8, 4, 0x4, 1, 0x0, [(31, 0, .w1)]⟩,
  -- LG_SERIAL_FLOOR_HI, 18_security_ledger.md R675
  ⟨0xe1034, 0x8, 4, 0x4, 1, 0x0, [(31, 0, .w1)]⟩,
  -- LG_CHAIN, 18_security_ledger.md R662
  ⟨0xe1060, 0x4, 12, 0x4, 1, 0x0, [(31, 0, .ro)]⟩,
  -- LG_DEVPUB, 18_security_ledger.md R659
  ⟨0xe1090, 0x4, 25, 0x4, 1, 0x0, [(31, 0, .ro)]⟩,
  -- GEO_STAT, 18_security_ledger.md R659
  ⟨0xe2000, 0x4, 1, 0x4, 1, 0x0, [(0, 0, .ro), (1, 1, .ro), (2, 2, .ro), (3, 3, .ro), (4, 4, .ro), (8, 8, .sq), (31, 24, .sq)]⟩]

/-- Block 0x0e. -/
def rows0Eb : List RegRow := [
  -- GEO_MON, 18_security_ledger.md R655
  ⟨0xe2004, 0x4, 1, 0x4, 1, 0x0, [(11, 0, .ro)]⟩,
  -- GEO_CMD, 18_security_ledger.md R659
  ⟨0xe2008, 0x4, 1, 0x4, 1, 0x0, [(0, 0, .gd), (1, 1, .gd), (2, 2, .gd)]⟩,
  -- GEO_LOG, 18_security_ledger.md R657
  ⟨0xe2010, 0x4, 1, 0x4, 1, 0x0, [(3, 0, .ro), (15, 8, .ro)]⟩,
  -- GEO_LOGENT, 18_security_ledger.md R657
  ⟨0xe2020, 0x4, 16, 0x4, 1, 0x0, [(31, 0, .ro)]⟩,
  -- SUP_CFG, 18_security_ledger.md R681
  ⟨0xe3000, 0x40, 16, 0x4, 1, 0xe100000, [(0, 0, .gd), (2, 1, .gd), (14, 8, .gd), (31, 16, .rw)]⟩,
  -- SUP_STAT, 18_security_ledger.md R680
  ⟨0xe3004, 0x40, 16, 0x4, 1, 0x0, [(1, 0, .ro), (8, 8, .sq), (9, 9, .sq), (10, 10, .sq), (31, 24, .sq)]⟩,
  -- SUP_USED_LO, 18_security_ledger.md R680
  ⟨0xe3008, 0x40, 16, 0x4, 1, 0x0, [(31, 0, .ro)]⟩,
  -- SUP_USED_HI, 18_security_ledger.md R680
  ⟨0xe300c, 0x40, 16, 0x4, 1, 0x0, [(31, 0, .ro)]⟩,
  -- SUP_SEQ, 18_security_ledger.md R680
  ⟨0xe3010, 0x40, 16, 0x4, 1, 0x0, [(31, 0, .ro)]⟩,
  -- SUP_ACC_LO, 18_security_ledger.md R683
  ⟨0xe3014, 0x40, 16, 0x4, 1, 0x0, [(31, 0, .ro)]⟩,
  -- SUP_ACC_HI, 18_security_ledger.md R683
  ⟨0xe3018, 0x40, 16, 0x4, 1, 0x0, [(31, 0, .ro)]⟩,
  -- SUP_ID, 18_security_ledger.md R680
  ⟨0xe3020, 0x40, 16, 0x4, 4, 0x0, [(31, 0, .ro)]⟩,
  -- SUP_LANE, 18_security_ledger.md R683
  ⟨0xe3400, 0x4, 64, 0x4, 1, 0x0, [(3, 0, .rw), (31, 8, .rw)]⟩,
  -- SUP_TIMING, 18_security_ledger.md R683
  ⟨0xe3600, 0x4, 1, 0x4, 1, 0x64, [(13, 0, .rw)]⟩,
  -- SUP_ROOT, 18_security_ledger.md R680
  ⟨0xe3640, 0x4, 17, 0x4, 1, 0x0, [(31, 0, .rw)]⟩]

/-- Block 0x0e. -/
def rows0E : List RegRow := rows0Ea ++ rows0Eb

/-- Block 0x0f. -/
def rows0F : List RegRow := [
  -- TWIN_CFG, 19_twin.md R690
  ⟨0xf0000, 0x4, 1, 0x4, 1, 0x8, [(0, 0, .gd), (1, 1, .gd), (3, 2, .gd)]⟩,
  -- TWIN_CTRL, 19_twin.md R693
  ⟨0xf0004, 0x4, 1, 0x4, 1, 0x0, [(0, 0, .gd), (1, 1, .gd)]⟩,
  -- TWIN_STAT, 19_twin.md R710
  ⟨0xf0008, 0x4, 1, 0x4, 1, 0x0, [(0, 0, .sq), (1, 1, .sq), (2, 2, .sq), (3, 3, .sq), (4, 4, .sq), (5, 5, .sq), (31, 24, .sq)]⟩,
  -- TWIN_STATE, 19_twin.md R692
  ⟨0xf000c, 0x4, 1, 0x4, 1, 0x0, [(2, 0, .ro), (5, 3, .ro), (7, 6, .ro), (9, 8, .ro), (10, 10, .ro), (11, 11, .ro)]⟩,
  -- TWIN_TIMING, 19_twin.md R709
  ⟨0xf0010, 0x4, 1, 0x4, 1, 0x428, [(7, 0, .rw), (31, 8, .rw)]⟩,
  -- TWIN_LGM_LO, 19_twin.md R702
  ⟨0xf0018, 0x4, 1, 0x4, 1, 0x0, [(31, 0, .gd)]⟩,
  -- TWIN_LGM_HI, 19_twin.md R702
  ⟨0xf001c, 0x4, 1, 0x4, 1, 0x0, [(31, 0, .gd)]⟩,
  -- TWIN_LGM_CFG, 19_twin.md R702
  ⟨0xf0020, 0x4, 1, 0x4, 1, 0x0, [(4, 0, .gd)]⟩,
  -- TWIN_LGM_WR, 19_twin.md R702
  ⟨0xf0024, 0x4, 1, 0x4, 1, 0x0, [(31, 0, .ro)]⟩,
  -- TWIN_PEER_LEASES_LO, 19_twin.md R698
  ⟨0xf0028, 0x4, 1, 0x4, 1, 0x0, [(31, 0, .ro)]⟩,
  -- TWIN_PEER_LEASES_HI, 19_twin.md R698
  ⟨0xf002c, 0x4, 1, 0x4, 1, 0x0, [(31, 0, .ro)]⟩,
  -- TWIN_PSK, 19_twin.md R691
  ⟨0xf0040, 0x4, 8, 0x4, 1, 0x0, [(31, 0, .gw)]⟩,
  -- TWIN_PEER_PUB, 19_twin.md R691
  ⟨0xf0060, 0x4, 25, 0x4, 1, 0x0, [(31, 0, .gd)]⟩]

/-- Block 0x10. -/
def rows10 : List RegRow := [
  -- DBG_CTRL, 20_freeze_debug.md R714
  ⟨0x100000, 0x4, 1, 0x4, 1, 0x0, [(0, 0, .gd), (1, 1, .wo), (2, 2, .gd), (3, 3, .wo), (4, 4, .wo)]⟩,
  -- DBG_STAT, 20_freeze_debug.md R714
  ⟨0x100004, 0x4, 1, 0x4, 1, 0x0, [(0, 0, .sq), (1, 1, .sq), (2, 2, .sq), (8, 8, .ro), (9, 9, .ro), (10, 10, .ro), (31, 24, .sq)]⟩,
  -- DBG_FRZ_TB_LO, 20_freeze_debug.md R719
  ⟨0x100008, 0x4, 1, 0x4, 1, 0x0, [(31, 0, .ro)]⟩,
  -- DBG_FRZ_TB_HI, 20_freeze_debug.md R719
  ⟨0x10000c, 0x4, 1, 0x4, 1, 0x0, [(31, 0, .ro)]⟩,
  -- DBG_ISL_STOP, 20_freeze_debug.md R720
  ⟨0x100040, 0x4, 17, 0x4, 1, 0x0, [(6, 0, .ro)]⟩,
  -- DBG_MWIN_ADDR, 20_freeze_debug.md R724
  ⟨0x100100, 0x4, 1, 0x4, 1, 0x0, [(23, 2, .rw)]⟩,
  -- DBG_MWIN_DATA, 20_freeze_debug.md R724
  ⟨0x100104, 0x4, 1, 0x4, 1, 0x0, [(31, 0, .rw)]⟩,
  -- DBG_SCAN_SEL, 20_freeze_debug.md R725
  ⟨0x100110, 0x4, 1, 0x4, 1, 0x0, [(4, 0, .rw)]⟩,
  -- DBG_SCAN_LEN, 20_freeze_debug.md R725
  ⟨0x100114, 0x4, 1, 0x4, 1, 0x0, [(31, 0, .ro)]⟩]

/-- Block 0x20. -/
def rows20 : List RegRow := [
  -- ENG_CTRL, 05_xaone_isa.md R155
  ⟨0x200000, 0x1000, 16, 0x4, 1, 0x0, [(0, 0, .gd), (1, 1, .gd)]⟩,
  -- ENG_STAT, 05_xaone_isa.md R155
  ⟨0x200004, 0x1000, 16, 0x4, 1, 0x0, [(0, 0, .ro), (1, 1, .ro), (2, 2, .ro), (3, 3, .ro), (11, 8, .ro), (15, 12, .ro)]⟩,
  -- ENG_ENTRY, 05_xaone_isa.md R155
  ⟨0x200008, 0x1000, 16, 0x4, 1, 0x0, [(15, 2, .gd)]⟩,
  -- ENG_AP_LO, 05_xaone_isa.md R159
  ⟨0x200010, 0x1000, 16, 0x4, 1, 0x0, [(31, 26, .gd)]⟩,
  -- ENG_AP_HI, 05_xaone_isa.md R159
  ⟨0x200014, 0x1000, 16, 0x4, 1, 0x0, [(31, 0, .gd)]⟩,
  -- ENG_EVSET, 05_xaone_isa.md R179
  ⟨0x200018, 0x1000, 16, 0x4, 1, 0x0, [(7, 0, .wo)]⟩,
  -- ENG_SIGPAGES, 05_xaone_isa.md R190
  ⟨0x20001c, 0x1000, 16, 0x4, 1, 0x0, [(15, 0, .ro)]⟩]

/-- The rows of a block (R103, Table 4.1). -/
def rowsOfBlock (b : Nat) : List RegRow :=
  match b with
  | 0x0 => rows00
  | 0x1 => rows01
  | 0x2 => rows02
  | 0x3 => rows03
  | 0x4 => rows04
  | 0x5 => rows05
  | 0x6 => rows06
  | 0x7 => rows07
  | 0x8 => rows08
  | 0x9 => rows09
  | 0xa => rows0A
  | 0xb => rows0B
  | 0xc => rows0C
  | 0xd => rows0D
  | 0xe => rows0E
  | 0xf => rows0F
  | 0x10 => rows10
  | 0x20 => rows20
  | _ => []

/-- Is this offset one of the row's registers? -/
def RegRow.holds (r : RegRow) (a : Nat) : Bool :=
  r.base ≤ a &&
    (let o := a - r.base
     let i := o / r.stride1
     let p := o % r.stride1
     i < r.count1 && p % r.stride2 = 0 && p / r.stride2 < r.count2)

/-- The row of a BAR0 offset; none where it is unmapped (R107). -/
def rowOf (a : Nat) : Option RegRow :=
  if a % 4 = 0 then (rowsOfBlock (a / 0x10000)).find? (·.holds a) else none

/-- A register's value after reset, where its row gives one value for each instance: JQ_CTRL (R194), HL_NOZ (R414),
FB_CFG (R542), FLT_CFG (R635, the source's default severity), VFY_LEVELS (log 5), the active copies LP_ACTIVE (log 7) and the vector controls of the
MSI-X table, masked (log 4, PRESUMED). -/
def resetSpecial (a : Nat) : Option Nat :=
  if 0x48000 ≤ a && a < 0x48200 && a % 0x40 = 0 then some (0x01000000 + 2 * ((a - 0x48000) / 0x40))
  else if 0x80000 ≤ a && a < 0x90000 && a % 0x400 = 8 then some (0x40000000 + 4096 * ((a - 0x80000) / 0x400))
  else if 0xB0004 ≤ a && a < 0xB1804 && a % 0x200 = 4 then some (0xA0000 + if (a - 0xB0000) / 0x200 < 8 then 0 else 4)
  else if 0x31000 ≤ a && a < 0x31800 && a % 0x10 = 4 then some (defaultSeverity ((a - 0x31000) / 0x10))
  else if 0x4C000 ≤ a && a < 0x4C400 && a % 0x10 = 0xC then some 1
  else if 0x94000 ≤ a && a < 0x95000 && a % 4 = 0 then some 0x0FFF0FFF
  else if 0xC0080 ≤ a && a < 0xC2000 && 0x80 ≤ a % 0x100 then activeReset ((a % 0x100 - 0x80) / 4)
  else none
where
  /-- LP_ACTIVE[j] starts as the reset value of the shadow register it is the active copy of (R589). -/
  activeReset (j : Nat) : Option Nat :=
    if j = 9 then some 0x80000000 else if j = 10 then some 0x7FFFFFFF else if j < 11 then some 0 else none

/-- The value an unlisted register reads as: its reset value; 0 at an unmapped offset. -/
def resetOf (a : Nat) : Word :=
  match resetSpecial a with
  | some v => BitVec.ofNat 32 v
  | none => match rowOf a with
    | some r => BitVec.ofNat 32 r.reset
    | none => 0

end Sys2Proof.Machine
end

