-- ==== Sys2Proof/Machine/Ops.lean ====
section
/-!
DEFINITION. Ops.lean: the named operations every meaning is built from: registers and fields, SQ events, counters, memory, bytes, what
leaves the part, and the units by index.
-/

namespace Sys2Proof.Machine

/-! Registers (R104, R116) -/

/-- The word a register holds. -/
def State.rd (s : State) (a : Nat) : Word := Map.get resetOf s.regs a

/-- Put a word into a register. -/
def State.wr (s : State) (a : Nat) (v : Word) : State := { s with regs := Map.set resetOf s.regs a v }

/-- The value of a field. -/
def State.f (s : State) (x : Field) : Nat := bits (s.rd x.addr).toNat x.hi x.lo

/-- A one-bit field as a Bool. -/
def State.b (s : State) (x : Field) : Bool := s.f x = 1

/-- A word with bits hi:lo replaced. -/
def putBits (w : Word) (hi lo v : Nat) : Word :=
  let n := w.toNat
  BitVec.ofNat 32 (n / 2 ^ (hi + 1) * 2 ^ (hi + 1) + v % 2 ^ (hi + 1 - lo) * 2 ^ lo + n % 2 ^ lo)

/-- Set a field. -/
def State.setF (s : State) (x : Field) (v : Nat) : State := s.wr x.addr (putBits (s.rd x.addr) x.hi x.lo v)

/-- Set a one-bit field. -/
def State.setB (s : State) (x : Field) (v : Bool) : State := s.setF x (b2n v)

/-- A whole register as a number. -/
def State.rn (s : State) (a : Nat) : Nat := (s.rd a).toNat

/-- Set a whole register from a number. -/
def State.wn (s : State) (a : Nat) (v : Nat) : State := s.wr a (BitVec.ofNat 32 v)

/-- A 64-bit value in LO at `a` and HI at `a + 4` (R116). -/
def State.rd64 (s : State) (a : Nat) : Nat := s.rn a + s.rn (a + 4) * 0x100000000

/-- Put a 64-bit value. -/
def State.wr64 (s : State) (a : Nat) (v : Nat) : State := (s.wn a (v % 0x100000000)).wn (a + 4) (v / 0x100000000)

/-- A signed 64-bit value. -/
def State.rdS64 (s : State) (a : Nat) : Int := toSigned 64 (s.rd64 a)

/-- Put a signed 64-bit value. -/
def State.wrS64 (s : State) (a : Nat) (v : Int) : State := s.wr64 a (ofSigned 64 v)

/-- A signed register. -/
def State.rdS (s : State) (a : Nat) : Int := toSigned 32 (s.rn a)

/-- Several event bits of an SQ register set as one event: SEQ rises by 1 (R119, R120). -/
def sqEvent (w : Word) (ms : List Nat) : Word :=
  let w' := ms.foldl (fun w m => putBits w m m 1) w
  putBits w' 31 24 (bits w.toNat 31 24 + 1)

/-- An event of an SQ register (R120). -/
def State.ev (s : State) (x : Field) : State := s.wr x.addr (sqEvent (s.rd x.addr) [x.lo])

/-- Count up a counter field, saturating at its greatest value. -/
def State.incSat (s : State) (x : Field) (n : Nat) : State := s.setF x (min (s.f x + n) (2 ^ (x.hi + 1 - x.lo) - 1))

/-! Bytes of registers -/

/-- The bytes of a run of registers, one word each, little-endian, the last bytes cut to `len`. -/
def State.regBytes (s : State) (a len : Nat) : List Byte :=
  (((List.range ((len + 3) / 4)).map fun i => leBytes 4 (s.rn (a + 4 * i))).flatten).take len

/-- Put bytes into a run of registers, the last word padded with 0. -/
def State.putBytes (s : State) (a : Nat) (bs : List Byte) : State :=
  (List.range ((bs.length + 3) / 4)).foldl (fun s i => s.wn (a + 4 * i) (leAt bs (4 * i) 4)) s

/-! Memory, by DMA device address (Table 7.3): DDR from 0, the BAR0 memory windows at 0x8_0000_0000 plus their offset -/

/-- The device address of BAR0 offset 0. -/
def barBase : Nat := 0x800000000

/-- What an unlisted byte reads as: 0x00, 0x40 alternating in the energy tables (R389: every entry 0x4000), else 0 (log 8). -/
def memDefault (a : Nat) : Byte :=
  if barBase + 0xB00000 ≤ a ∧ a < barBase + 0xB04000 ∧ a % 2 = 1 then 0x40 else 0

/-- The canonical form of a memory. -/
abbrev Memory.wf (m : List Host.Cell) : Prop := Map.wf memDefault m = true

/-- One byte of memory. -/
def State.byte (s : State) (a : Nat) : Byte := Map.get memDefault s.mem a

/-- `n` bytes from `a`. -/
def State.readMem (s : State) (a n : Nat) : List Byte := Map.run memDefault s.mem a n

/-- Bytes put at `a` in order. -/
def State.writeMem (s : State) (a : Nat) (bs : List Byte) : State := { s with mem := Map.put memDefault s.mem a bs }

/-- The device address of an engine's DMEM (Table 4.1: IMEM 64 KiB, then DMEM 128 KiB). -/
def dmemBase (e : Nat) : Nat := barBase + 0x400000 + 0x40000 * e + 0x10000

/-- The device address of an engine's IMEM. -/
def imemBase (e : Nat) : Nat := barBase + 0x400000 + 0x40000 * e

/-- The device address of a nozzle-table entry. -/
def nozzleAddr (n : Nat) : Nat := barBase + 0x800000 + 8 * n

/-- A nozzle-table entry as stored (R378). -/
def State.nozzle (s : State) (n : Nat) : Nat := ofLe (s.readMem (nozzleAddr n) 8)

/-- The number of ones among the first w bits. -/
def onesBelow (n : Nat) : Nat → Nat
  | 0 => 0
  | w + 1 => onesBelow n w + n / 2 ^ w % 2

/-- An entry with PARITY set so that its 64 bits hold an even number of ones (R380, R172). -/
def withParity (v : Nat) : Nat :=
  let low := v % 0x8000000000000000
  low + onesBelow low 63 % 2 * 0x8000000000000000

/-! What leaves the part -/

/-- Has the boot failed (R89)? -/
def State.bootFailed (s : State) : Bool := s.f Fld.SYS_BOOT_STAT_STAGE = 4

/-- Does firmware run: has the boot ROM started a first stage, and has boot not failed since (Table 3.2)? -/
def State.firmware (s : State) : Bool := s.f Fld.SYS_BOOT_STAT_STAGE = 3

/-- The outputs of Table 3.2 that are still until firmware runs, TDO among them (log 93). -/
def Out.still : Out → Bool
  | .frame .. | .sync .. | .abort .. | .basalt .. | .step .. | .emu .. | .emuZ .. | .pwm .. | .quorum .. | .i2c .. | .i2cRead .. | .jtag .. => true
  | .hostWrite .. | .hostRead .. | .msix .. | .completion .. | .readWord .. | .qspi .. | .link .. | .pcieError .. => false

/-- The outputs of Table 3.2 that only a failed boot holds still: QSPI. -/
def Out.boots : Out → Bool
  | .qspi .. => true
  | .hostWrite .. | .hostRead .. | .msix .. | .completion .. | .readWord .. | .frame .. | .sync .. | .abort .. | .basalt .. | .step ..
  | .jtag .. | .emu .. | .emuZ .. | .i2c .. | .i2cRead .. | .pwm .. | .quorum .. | .link .. | .pcieError .. => false

/-- What a head lane of a STANDBY does not send: IDLE frames alone go out on it, and CAP frames until it is UP (Table 19.4). -/
def Out.fires : Out → Bool
  | .frame _ kind _ => kind ≠ 0x01 && kind ≠ 0x02
  | .sync .. | .abort .. => true
  | .hostWrite .. | .hostRead .. | .msix .. | .completion .. | .readWord .. | .basalt .. | .step .. | .qspi .. | .jtag .. | .emu .. | .emuZ ..
  | .i2c .. | .i2cRead .. | .pwm .. | .quorum .. | .link .. | .pcieError .. => false

/-! Units by index -/

/-- Unit `i` of `engines`. -/
def State.eng (s : State) (i : Nat) : Engine := Map.get (fun _ => {}) s.engines i

/-- Put unit `i` of `engines`. -/
def State.setEng (s : State) (i : Nat) (v : Engine) : State := { s with engines := Map.set (fun _ => {}) s.engines i v }

/-- Change unit `i` of `engines`. -/
def State.modEng (s : State) (i : Nat) (g : Engine → Engine) : State := s.setEng i (g (s.eng i))

/-- Unit `i` of `lanes`. -/
def State.lane (s : State) (i : Nat) : Lane := Map.get (fun _ => {}) s.lanes i

/-- Put unit `i` of `lanes`. -/
def State.setLane (s : State) (i : Nat) (v : Lane) : State := { s with lanes := Map.set (fun _ => {}) s.lanes i v }

/-- Change unit `i` of `lanes`. -/
def State.modLane (s : State) (i : Nat) (g : Lane → Lane) : State := s.setLane i (g (s.lane i))

/-- Unit `i` of `domains`. -/
def State.dom (s : State) (i : Nat) : Domain := Map.get (fun _ => {}) s.domains i

/-- Put unit `i` of `domains`. -/
def State.setDom (s : State) (i : Nat) (v : Domain) : State := { s with domains := Map.set (fun _ => {}) s.domains i v }

/-- Change unit `i` of `domains`. -/
def State.modDom (s : State) (i : Nat) (g : Domain → Domain) : State := s.setDom i (g (s.dom i))

/-- Unit `i` of `heads`. -/
def State.head (s : State) (i : Nat) : Head := Map.get (fun _ => {}) s.heads i

/-- Put unit `i` of `heads`. -/
def State.setHead (s : State) (i : Nat) (v : Head) : State := { s with heads := Map.set (fun _ => {}) s.heads i v }

/-- Change unit `i` of `heads`. -/
def State.modHead (s : State) (i : Nat) (g : Head → Head) : State := s.setHead i (g (s.head i))

/-- Unit `i` of `axes`. -/
def State.axis (s : State) (i : Nat) : Axis := Map.get (fun _ => {}) s.axes i

/-- Put unit `i` of `axes`. -/
def State.setAxis (s : State) (i : Nat) (v : Axis) : State := { s with axes := Map.set (fun _ => {}) s.axes i v }

/-- Change unit `i` of `axes`. -/
def State.modAxis (s : State) (i : Nat) (g : Axis → Axis) : State := s.setAxis i (g (s.axis i))

/-- Unit `i` of `groups`. -/
def State.group (s : State) (i : Nat) : Group := Map.get (fun _ => {}) s.groups i

/-- Put unit `i` of `groups`. -/
def State.setGroup (s : State) (i : Nat) (v : Group) : State := { s with groups := Map.set (fun _ => {}) s.groups i v }

/-- Change unit `i` of `groups`. -/
def State.modGroup (s : State) (i : Nat) (g : Group → Group) : State := s.setGroup i (g (s.group i))

/-- Unit `i` of `rejects`. -/
def State.rej (s : State) (i : Nat) : Reject := Map.get (fun _ => {}) s.rejects i

/-- Put unit `i` of `rejects`. -/
def State.setRej (s : State) (i : Nat) (v : Reject) : State := { s with rejects := Map.set (fun _ => {}) s.rejects i v }

/-- Change unit `i` of `rejects`. -/
def State.modRej (s : State) (i : Nat) (g : Reject → Reject) : State := s.setRej i (g (s.rej i))

/-- Unit `i` of `traces`. -/
def State.trace (s : State) (i : Nat) : Trace := Map.get (fun _ => {}) s.traces i

/-- Put unit `i` of `traces`. -/
def State.setTrace (s : State) (i : Nat) (v : Trace) : State := { s with traces := Map.set (fun _ => {}) s.traces i v }

/-- Change unit `i` of `traces`. -/
def State.modTrace (s : State) (i : Nat) (g : Trace → Trace) : State := s.setTrace i (g (s.trace i))

/-- Unit `i` of `supplies`. -/
def State.supply (s : State) (i : Nat) : Supply := Map.get (fun _ => {}) s.supplies i

/-- Put unit `i` of `supplies`. -/
def State.setSupply (s : State) (i : Nat) (v : Supply) : State := { s with supplies := Map.set (fun _ => {}) s.supplies i v }

/-- Change unit `i` of `supplies`. -/
def State.modSupply (s : State) (i : Nat) (g : Supply → Supply) : State := s.setSupply i (g (s.supply i))

/-- Unit `i` of `vlanes`. -/
def State.vlane (s : State) (i : Nat) : VLane := Map.get (fun _ => {}) s.vlanes i

/-- Put unit `i` of `vlanes`. -/
def State.setVLane (s : State) (i : Nat) (v : VLane) : State := { s with vlanes := Map.set (fun _ => {}) s.vlanes i v }

/-- Change unit `i` of `vlanes`. -/
def State.modVLane (s : State) (i : Nat) (g : VLane → VLane) : State := s.setVLane i (g (s.vlane i))

/-- Unit `i` of `channels`. -/
def State.chan (s : State) (i : Nat) : Channel := Map.get (fun _ => {}) s.channels i

/-- Put unit `i` of `channels`. -/
def State.setChan (s : State) (i : Nat) (v : Channel) : State := { s with channels := Map.set (fun _ => {}) s.channels i v }

/-- Change unit `i` of `channels`. -/
def State.modChan (s : State) (i : Nat) (g : Channel → Channel) : State := s.setChan i (g (s.chan i))

/-- Unit `i` of `cmps`. -/
def State.cmp (s : State) (i : Nat) : Cmp := Map.get (fun _ => {}) s.cmps i

/-- Put unit `i` of `cmps`. -/
def State.setCmp (s : State) (i : Nat) (v : Cmp) : State := { s with cmps := Map.set (fun _ => {}) s.cmps i v }

/-- Change unit `i` of `cmps`. -/
def State.modCmp (s : State) (i : Nat) (g : Cmp → Cmp) : State := s.setCmp i (g (s.cmp i))

/-- Unit `i` of `emus`. -/
def State.emu (s : State) (i : Nat) : Emu := Map.get (fun _ => {}) s.emus i

/-- Put unit `i` of `emus`. -/
def State.setEmu (s : State) (i : Nat) (v : Emu) : State := { s with emus := Map.set (fun _ => {}) s.emus i v }

/-- Change unit `i` of `emus`. -/
def State.modEmu (s : State) (i : Nat) (g : Emu → Emu) : State := s.setEmu i (g (s.emu i))

/-- Unit `i` of `streams`. -/
def State.strm (s : State) (i : Nat) : Stream := Map.get (fun _ => {}) s.streams i

/-- Put unit `i` of `streams`. -/
def State.setStrm (s : State) (i : Nat) (v : Stream) : State := { s with streams := Map.set (fun _ => {}) s.streams i v }

/-- Change unit `i` of `streams`. -/
def State.modStrm (s : State) (i : Nat) (g : Stream → Stream) : State := s.setStrm i (g (s.strm i))

/-- Unit `i` of `dmas`. -/
def State.dma (s : State) (i : Nat) : Dma := Map.get (fun _ => {}) s.dmas i

/-- Put unit `i` of `dmas`. -/
def State.setDma (s : State) (i : Nat) (v : Dma) : State := { s with dmas := Map.set (fun _ => {}) s.dmas i v }

/-- Change unit `i` of `dmas`. -/
def State.modDma (s : State) (i : Nat) (g : Dma → Dma) : State := s.setDma i (g (s.dma i))

/-! Sending (R417, R420) -/

/-- Does a lane's line code use CRC-32C: a head lane once its mode is selected, which it is when the SELECT has been acknowledged, if that
is the mode; a Basalt lane, numbered 64 and 65, from then on (R423, R694; DEDUCED, log 100)? -/
def State.laneCrc32c (s : State) (l : Nat) : Bool :=
  let after (p : NegPhase) : Bool := p = .switching || p = .echoing || p = .up
  if l < 64 then
    let x := s.lane l
    after x.phase && x.sel.getD 1 0 = 2
  else after (Map.get (fun _ => {}) s.twin.lanes (l - 64)).phase

/-- The blocks by which something goes out on a head lane or Basalt lane (R420, R422, R433, R439); SRC is the sender's controller ID. -/
def State.lineBlocks (s : State) : Out → Option (Nat × List Block)
  | .frame l kind p => some (l, frameBlocks (crcPoly (s.laneCrc32c l)) kind (s.f Fld.SYS_BOOT_STAT_TWIN_SEL) p)
  | .basalt i kind p => some (64 + i, frameBlocks (crcPoly (s.laneCrc32c (64 + i))) kind (s.f Fld.SYS_BOOT_STAT_TWIN_SEL) p)
  | .sync l line phase epoch => some (l, [syncBlock line phase epoch])
  | .abort l reason => some (l, [abortBlock reason])
  | .hostWrite .. | .hostRead .. | .msix .. | .completion .. | .readWord .. | .step .. | .jtag .. | .emu .. | .emuZ .. | .i2c .. | .i2cRead ..
  | .pwm .. | .quorum .. | .link .. | .pcieError .. | .qspi .. => none

/-- The transmitter of a lane. -/
def State.tx (s : State) (l : Nat) : LineTx := Map.get (fun _ => {}) s.lineTx l

/-- The receiver of a lane. -/
def State.rx (s : State) (l : Nat) : LineRx := Map.get (fun _ => {}) s.lineRx l

/-- Put the receiver of a lane. -/
def State.setRx (s : State) (l : Nat) (x : LineRx) : State := { s with lineRx := Map.set (fun _ => {}) s.lineRx l x }

/-- The dot period of a FIRE frame, its first four payload bytes (Table 11.3). -/
def Out.firePeriod : Out → Option Nat
  | .frame _ 0x10 p => some (leAt p 0 4)
  | _ => none

/-- The wires and transmitters after blocks have gone out on a lane; the last `hold` of them, of a frame of dot period `fire`, are still to
go. -/
def State.onWire (s : State) (l hold : Nat) (fire : Option Nat) (bs : List Block) : List (Nat × BitVec 66) × List (Nat × LineTx) :=
  let r := sendBlocks (s.tx l).scr (bs.take (bs.length - hold))
  ((r.1.reverse.map fun w => (l, w)) ++ s.wire,
    Map.set (fun _ => {}) s.lineTx l
      { scr := r.2, rest := bs.drop (bs.length - hold), fire := if hold = 0 then none else fire })

/-- The wires and transmitters after something is sent: a frame follows what is left of the one before and leaves `hold` blocks to go; a SYNC
or ABORT block stands inside a frame in progress (R422). -/
def State.wired (s : State) (hold : Nat) (o : Out) : List (Nat × BitVec 66) × List (Nat × LineTx) :=
  match s.lineBlocks o with
  | none => (s.wire, s.lineTx)
  | some (l, bs) =>
    match o with
    | .sync .. | .abort .. =>
      let r := sendBlocks (s.tx l).scr bs
      ((r.1.reverse.map fun w => (l, w)) ++ s.wire, Map.set (fun _ => {}) s.lineTx l { s.tx l with scr := r.2 })
    | _ => s.onWire l (min hold (bs.length - 1)) o.firePeriod ((s.tx l).rest ++ bs)

/-- Send something, a frame but for its last `hold` blocks. Until firmware runs, and after a failed boot, the outputs of Table 3.2 stay as they
are in the boot ROM phase (R79, R81); the boot's own QSPI reads end with a failed boot. A STANDBY's head lanes send only IDLE (Table 19.4). -/
def State.emitHeld (s : State) (hold : Nat) (o : Out) : State :=
  if (o.still && !s.firmware) || (o.boots && s.bootFailed) || (o.fires && s.f Fld.TWIN_STATE_ROLE = 3) then s
  else { s with out := o :: s.out, wire := (s.wired hold o).1, lineTx := (s.wired hold o).2 }

/-- Send something. -/
def State.emit (s : State) (o : Out) : State := s.emitHeld 0 o

/-- What is left of a frame in progress on a lane goes out. -/
def State.finishFrame (s : State) (l : Nat) : State :=
  { s with wire := (s.onWire l 0 none (s.tx l).rest).1, lineTx := (s.onWire l 0 none (s.tx l).rest).2 }

/-- The transmitter of a lane stops, and with it a frame in progress (R425, R428, R430, R443). -/
def State.dropFrame (s : State) (l : Nat) : State :=
  { s with lineTx := Map.set (fun _ => {}) s.lineTx l { s.tx l with rest := [], fire := none } }

/-- Do `g` for each index of a list, in order. -/
def State.forEach (s : State) (l : List Nat) (g : State → Nat → State) : State := l.foldl g s

/-- Do `g` if a condition holds. -/
def State.when (s : State) (c : Bool) (g : State → State) : State := if c then g s else s

/-- Has a period passed since the last time something was done, if it ever was (log 101)? -/
def State.every (s : State) (last : Option Nat) (period : Nat) : Bool :=
  match last with
  | none => true
  | some t => decide (t + period ≤ s.tb)

/-- The start of every command: a new cycle in which no fault has latched yet (R627). -/
def State.begin (s : State) : State := { s with firstThis := false }

/-! Clocks -/

/-- A dot-clock domain starts in the same tick as an accepted request for PARKED: the request is refused (R62). -/
def State.parkClash (s : State) : State :=
  if s.power.parkAt = some s.tb && !s.b Fld.SYS_PWR_CTRL_PARKED then
    (s.setB Fld.SYS_PWR_CTRL_PARK false).setB Fld.SYS_PWR_CTRL_PARK_REFUSED true
  else s

/-- Is every island but the vault's held in reset: in a warm or power-on reset, under TEST_EN, or with the AON island not running (R48,
R54)? -/
def State.inReset (s : State) : Bool := s.power.resetLow || s.power.testEn || !s.power.aonRuns

/-- Do the main rails' clocks stand still for everything but resets, the vault, the pins of the AON island and debug: frozen or in reset
(R54, R48, R720)? The fault collector stands still with them. -/
def State.asleep (s : State) : Bool := s.b Fld.DBG_STAT_FROZEN || s.inReset

/-- A command of an island on the main rails: it acts as a new cycle while the clocks run, and not at all while they stand still. -/
def State.awake (s : State) (g : State → State) : State := if s.asleep then s else g s.begin

end Sys2Proof.Machine
end

