-- ==== Sys2Proof/Machine/Fault.lean ====
section
/-!
DEFINITION. Fault.lean: events to the engines, MSI-X events, item spoiling, ABORT, and the fault collector's latch with the reactions
of each severity (17_faults.md R620 to R642; 13_motion.md Table 13.1; 15_loop_array.md R588).
-/

namespace Sys2Proof.Machine
open Reg Fld

/-! Events of the engines (R179, Table 5.8) -/

/-- Set event `ev` pending in engine `e`. -/
def State.engEvent (s : State) (ev e : Nat) : State :=
  s.modEng e fun x => { x with pendingEv := x.pendingEv ||| (1#256 <<< ev) }

/-- Set an event pending in each engine of a list. -/
def State.engEvents (s : State) (ev : Nat) (es : List Nat) : State := s.forEach es fun s e => s.engEvent ev e

/-- Every engine. -/
def allEngines : List Nat := List.range 16

/-- FSE0 to FSE7 are engines 0 to 7, MCE0 to MCE3 8 to 11, VSE0 and VSE1 12 and 13, SPE0 and SPE1 14 and 15 (Table 3.7). -/
def mcEngines : List Nat := [8, 9, 10, 11]

/-- The VSEs. -/
def vsEngines : List Nat := [12, 13]

/-! MSI-X (R250, R251) -/

/-- May the function send requests and messages: link up, Bus Master Enable set, not in D3hot (R239, R241, R286)? -/
def State.canSend (s : State) : Bool :=
  s.b PCIE_LINK_STAT_LINK_UP && s.b PCIE_LINK_STAT_BME && !s.b PCIE_LINK_STAT_D3HOT

/-- Requests of the controller for `n` bytes from `a`: none crosses 4 KiB or is longer than `m` (R234). -/
def splitReq (m : Nat) : Nat → Nat → Nat → List (Nat × Nat)
  | 0, _, _ => []
  | k + 1, a, n =>
    if n = 0 then []
    else
      let len := min n (min (max m 1) (4096 - a % 4096))
      (a, len) :: splitReq m k (a + len) (n - len)

/-- The header of a request to a host address: 64-bit from 4 GiB on (R235); Relaxed Ordering and No Snoop clear unless a DMA descriptor
gives them for its data (R236). -/
def Attr.to (x : Attr) (a : Nat) : Attr := { x with wide := decide (0x100000000 ≤ a) }

/-- The width of the tags in use (R233). -/
def State.tagBits (s : State) : Nat := if s.pcie.tag10 then 10 else if s.pcie.extTag then 8 else 5

/-- A read of host memory, split under R234, with tags of the width in use. -/
def State.hostRead (s : State) (a n : Nat) (x : Attr := {}) : State :=
  (splitReq s.pcie.maxRead n a n).foldl (fun s r => s.emit (.hostRead r.1 r.2 { x.to r.1 with tag := s.tagBits })) s

/-- A posted write to host memory, split under R234. -/
def State.hostWrite (s : State) (a : Nat) (bs : List Byte) (x : Attr := {}) : State :=
  (splitReq s.pcie.maxPayload bs.length a bs.length).foldl
    (fun s r => s.emit (.hostWrite r.1 ((bs.drop (r.1 - a)).take r.2) (x.to r.1))) s

/-- Is this vector masked, by its own mask bit or by Function Mask? -/
def State.vectorMasked (s : State) (v : Nat) : Bool :=
  s.pcie.functionMask || bitAt (s.rn (MSIX_TABLE (4 * v + 3))) 0

/-- The message of a vector goes out, to the address its table entry holds (R212, R236, R249). -/
def State.sendMsix (s : State) (v : Nat) : State :=
  s.emit (.msix v (Attr.to {} (s.rd64 (MSIX_TABLE (4 * v)))))

/-- An event on an MSI-X vector: a message, a pending bit while masked, nothing while MSI-X Enable is 0 (R251). While the
function may not send, the event waits in the pending bit (R239, R241). -/
def State.msix (s : State) (v : Nat) : State :=
  let v := v % 64
  if !s.pcie.msixEnable then s
  else if s.vectorMasked v || !s.canSend then
    s.wr (MSIX_PBA (v / 32)) (putBits (s.rd (MSIX_PBA (v / 32))) (v % 32) (v % 32) 1)
  else s.sendMsix v

/-! Items (R30 to R35) -/

/-- Change the item of an id. -/
def State.modItem (s : State) (id : Nat) (g : Item → Item) : State :=
  { s with items := s.items.map fun i => if i.id = id then g i else i }

/-- The item of an id. -/
def State.item? (s : State) (id : Nat) : Option Item := s.items.find? (·.id = id)

/-- Record a cause on an item, once, with its stamp (R34); an outcome that is final takes no more (R32, R35). Replay evaluates
LINE_ERROR and DEGRADED only: every other cause arises from live conditions (R230). -/
def Item.addCause (tb : Nat) (code : Nat) (spoils : Bool) (i : Item) : Item :=
  if i.stage = .decided || i.late || i.kept.isSome || (i.replay && code ≠ 5 && code ≠ 10) then i
  else if i.causes.any (fun c => c.code = code && (c.spoils || !spoils)) then i
  else { i with causes := i.causes.filter (·.code ≠ code) ++ [⟨code, tb, spoils⟩] }

/-- Is the item SPOILED? -/
def Item.spoiled (i : Item) : Bool := i.causes.any (·.spoils)

/-- A cause comes about for an item. In STANDBY, where the outcome comes with the mirrored ITEM record, R432, R450, R455 and R622 spoil nothing
(Table 19.4). -/
def State.cause (s : State) (code : Nat) (spoils : Bool) (i : Item) : Item :=
  if s.f TWIN_STATE_ROLE = 3 && [6, 7, 8, 20, 21].contains code then i else i.addCause s.tb code spoils

/-- SPOIL an item with a cause of Table 18.10. -/
def State.spoil (s : State) (code id : Nat) : State := s.modItem id (s.cause code true)

/-- Spoil every item that meets a condition. -/
def State.spoilWhere (s : State) (code : Nat) (p : Item → Bool) : State :=
  { s with items := s.items.map fun i => if p i then s.cause code true i else i }

/-! ABORT (R439, R440) -/

/-- Is the lane UP? -/
def State.laneUp (s : State) (l : Nat) : Bool := s.f (HL_LINK_STATE l) = 2

/-- The slice fires no drops. A replay job's slice fires none as it is, and its dots stay as they are (R230). -/
def Slice.blanked (c : Slice) : Slice :=
  if c.replay then c else { c with blank := true, decisions := c.decisions.map fun _ => 0 }

/-- Send ABORT on a lane that is UP: no SYNC of a line with FIRE frames sent before it follows (Table 11.8), and the slices
already taken up fire no drops (R406). -/
def State.abortLane (s : State) (l reason : Nat) : State :=
  let s := s.when (s.laneUp l) (·.emit (.abort l reason))
  s.modLane l fun x => { x with slices := (x.slices.filter fun c => c.framed = 0).map Slice.blanked }

/-- The test fires of a lane whose dot period has not passed are classed as inhibited (R406, R622, Table 12.3). -/
def State.inhibitTests (s : State) (l : Nat) : State :=
  let now := s.rn (DCD_LINE (s.f (HL_CFG_DCD l)))
  s.modVLane l fun v =>
    { v with tests := v.tests.map fun t =>
        if (t.period + 0x100000000 - now) % 0x100000000 < 0x80000000 then { t with inhibited := true } else t }

/-- Every lane. -/
def allLanes : List Nat := List.range 64

/-! Stops of motion, PWM and loops (Table 13.1, R588) -/

/-- Start an axis's stop ramp: gear disengaged, homing ended; a quick stop is never softened. -/
def Axis.stopOn (r : Ramp) (x : Axis) : Axis :=
  if x.moving || x.geared || x.homing ≠ .none then
    { x with moving := true, geared := false, homing := .none, ramp := if x.ramp = .quick then .quick else r }
  else x

/-- The group an axis moves in, if any. -/
def State.groupOf (s : State) (a : Nat) : Option Nat :=
  (List.range 4).find? fun g => (s.group g).active && bitAt (s.f (GRP_CFG_MEMBERS g)) a

/-- Stop a loop with FORCED, its history kept (R588). -/
def State.forceLoop (s : State) (l : Nat) : State :=
  if s.b (LP_CTRL_RUN l) then
    ((s.setB (LP_CTRL_RUN l) false).setB (LP_LIVE_RUNNING l) false).ev (LP_STAT_FORCED l)
  else s

/-- The loops whose destination is the speed of an axis (R584). -/
def State.loopsOf (s : State) (a : Nat) : List Nat :=
  (List.range 32).filter fun l => s.f (LP_CFG_DST_KIND l) = 2 && s.f (LP_CFG_DST_IDX l) = a

/-- Stop an axis on a ramp, and force the loops that drive it (R588); a member of a moving group stops the whole path (R528), with the loops of
every axis on it. -/
def State.stopAxis (s : State) (r : Ramp) (a : Nat) : State :=
  match s.groupOf a with
  | some g => (s.modGroup g fun x => { x with ramp := if x.ramp = .quick then .quick else r, restart := false }).forEach
      ((bitsSet (s.f (GRP_CFG_MEMBERS g)) 16).flatMap s.loopsOf) State.forceLoop
  | none =>
    let x := (s.axis a).stopOn r
    let s := s.setAxis a x
    if x.moving then (s.setF (MOT_STATE_STATE a) 3).forEach (s.loopsOf a) State.forceLoop else s

/-- Are the enables forced low: firmware does not run, FAULT_IN_N low, safe state at S4, or a freeze (R79, R81, R623, R643, R719)? -/
def State.pinsCut (s : State) : Bool :=
  !s.firmware || s.b DBG_STAT_FROZEN || s.b FLT_STAT_FAULT_IN_LOW || s.f FLT_STAT_SAFE_LEVEL = 4

/-- Is PWM p held low whatever its EN: with the enables, in STANDBY (Table 19.4), and with SAFE_S3 in safe state at S3 (R588)? -/
def State.pwmLow (s : State) (p : Nat) : Bool :=
  s.pinsCut || s.f TWIN_STATE_ROLE = 3 || (s.f FLT_STAT_SAFE_LEVEL = 3 && s.b (PWM_CFG_SAFE_S3 p))

/-- Is PWM p forced low at this level: every one at S4, those with SAFE_S3 at S3? -/
def State.pwmForced (s : State) (s4 : Bool) (p : Nat) : Bool := s4 || s.b (PWM_CFG_SAFE_S3 p)

/-- Table 13.1 and R588 for a fault of S3 or S4, or FAULT_IN_N: loops, PWM outputs, axes. -/
def State.safeOutputs (s : State) (s4 : Bool) : State :=
  let s := s.forEach (List.range 32) fun s l =>
    let k := s.f (LP_CFG_DST_KIND l)
    s.when (k = 2 || (k = 1 && s.pwmForced s4 (s.f (LP_CFG_DST_IDX l)))) (·.forceLoop l)
  let s := s.forEach (List.range 16) fun s p => s.when (s.pwmForced s4 p) (·.setB (PWM_CFG_EN p) false)
  s.forEach (List.range 16) fun s a =>
    (s.stopAxis (if s4 then .quick else .stop) a).when s4 (·.setB (MOT_CTRL_ENABLE a) false)

/-! ERR_N (R640 to R642) -/

/-- Ticks of a pulse: PW x 10 us, PW taken as 1 to 10,000. -/
def State.errPulseTicks (s : State) : Nat := min (max (s.f FLT_ERRN_PW) 1) 10000 * 8000

/-- ERR_N_LOW follows what drives the pin: reset and the boot ROM, until a first stage runs (Table 3.2), so a failed boot too (R81), a freeze
(R722), ERR_HOLD, a pulse, a release not yet due, safe state at S4. While the AON island does not run it is released (R80). -/
def State.errDrive (s : State) : State :=
  s.setB FLT_STAT_ERR_N_LOW
    (s.power.aonRuns && (!s.firmware || s.b DBG_STAT_FROZEN || s.b FLT_CTRL_ERR_HOLD || s.errPulseEnd.isSome || s.errRelease.isSome ||
      s.f FLT_STAT_SAFE_LEVEL = 4))

/-! The latch (R620 to R639) -/

/-- The severity in force of a source: values 5 to 7 act as S4 (R636). -/
def State.severity (s : State) (src : Nat) : Nat := min 4 (s.f (FLT_CFG_SEV src))

/-- First-fault rules (R627 to R629): `firstThis` says that the first fault came in this cycle. -/
def State.firstFault (s : State) (src sev : Nat) (injected : Bool) : State :=
  let set (s : State) : State :=
    ((s.setF FLT_FIRST_SOURCE src).setF FLT_FIRST_SEV sev).setB FLT_FIRST_INJECTED injected
  let mark (s : State) : State :=
    s.wr (FLT_FIRST_SET (src / 32)) (putBits (s.rd (FLT_FIRST_SET (src / 32))) (src % 32) (src % 32) 1)
  let s :=
    if !s.b FLT_FIRST_VALID then
      let s := (List.range 4).foldl (fun s k => s.wn (FLT_FIRST_SET k) 0) s
      { mark ((set s).wr64 FLT_FIRST_TB_LO s.tb) with firstThis := true }
    else if s.firstThis then
      let s := mark s
      let old := s.f FLT_FIRST_SEV
      if old < sev || (old = sev && src < s.f FLT_FIRST_SOURCE) then set s else s
    else s
  s.ev FLT_FIRST_VALID

/-- The reaction of the severity (Table 17.3, R621 to R623). In safe state every lane is held until a line with FIRST (R626). -/
def State.react (s : State) (src sev : Nat) : State :=
  if sev = 2 then
    if sourceNamesItems src then s else s.spoilWhere 19 fun i => i.stage = .printing
  else if 3 ≤ sev then
    let s := s.setF FLT_STAT_SAFE_LEVEL (max (s.f FLT_STAT_SAFE_LEVEL) sev)
    let s := s.spoilWhere (if sev = 3 then 20 else 21) fun i => i.stage = .printing
    let s := s.forEach allLanes fun s l =>
      ((s.abortLane l 0x10).inhibitTests l).modLane l fun x => { x with heldFirst := true }
    s.safeOutputs (sev = 4)
  else s

/-- A latch's write of FLT_SRC: LATCHED, INJECTED for an injected event, SEQ and SEV (R620); a new latch has not been read (R632). -/
def State.latchSrc (s : State) (injected : Bool) (src sev : Nat) : State :=
  let w := sqEvent (s.rd (FLT_SRC src)) (if injected then [0, 2] else [0])
  let t := s.wr (FLT_SRC src) (putBits w 6 4 sev)
  if s.b (FLT_SRC_LATCHED src) then t else { t with fltRead := t.fltRead &&& ~~~(1#128 <<< src) }

/-- The source's bit in FLT_LATCH_SUM, its information and its count (R620, R630, R634). -/
def State.latchWrites (s : State) (injected : Bool) (src info sev : Nat) : State :=
  let s := s.latchSrc injected src sev
  let s := s.wr (FLT_LATCH_SUM (src / 32)) (putBits (s.rd (FLT_LATCH_SUM (src / 32))) (src % 32) (src % 32) 1)
  (s.wn (FLT_INFO src) info).incSat (FLT_CNT_COUNT src) 1

/-- The collector latches a fault: status, severity, information and count, first fault, event 3, the reaction, the host
interrupt and ERR_N. A reserved source is never raised (R618). -/
def State.raiseWith (s : State) (injected : Bool) (src info : Nat) : State :=
  if !sourceDefined src then s else
  let sev := s.severity src
  let s := s.latchWrites injected src info sev
  let s := s.firstFault src sev injected
  let s := s.engEvents 3 allEngines
  let s := s.react src sev
  let s := s.when (s.b FLT_IRQ_EN && s.f FLT_IRQ_MIN_SEV ≤ sev) fun s => s.msix (s.f FLT_IRQ_VECTOR)
  let s := if s.f FLT_ERRN_MIN_SEV ≤ sev then
      { s with errPulseEnd := some (s.tb + s.errPulseTicks) } else s
  let hold := s.f FLT_ERRN_HOLD_ON_SEV
  let s := s.when (hold ≠ 0 && hold ≤ sev) (·.setB FLT_CTRL_ERR_HOLD true)
  s.errDrive

/-- A source is raised by its condition. In a freeze the collector stands still, and latches nothing (R720). -/
def State.raise (s : State) (src info : Nat) : State := if s.b DBG_STAT_FROZEN then s else s.raiseWith false src info

/-- LIVE of a LEVEL source follows its condition (R630); when it falls while LATCHED and unread, TRANSIENT is set (R632). -/
def State.setLive (s : State) (src : Nat) (on : Bool) : State :=
  let was := s.b (FLT_SRC_LIVE src)
  let s := s.setB (FLT_SRC_LIVE src) on
  let s := s.wr (FLT_LIVE_SUM (src / 32)) (putBits (s.rd (FLT_LIVE_SUM (src / 32))) (src % 32) (src % 32) (b2n on))
  if was && !on && s.b (FLT_SRC_LATCHED src) && !s.fltRead.getLsbD src then s.ev (FLT_SRC_TRANSIENT src) else s

/-- The condition of a LEVEL source comes about: LIVE, and a latch (R633 where it is latched already). A frozen collector sees it when it runs
again. -/
def State.raiseLive (s : State) (src info : Nat) : State :=
  if s.b DBG_STAT_FROZEN then s else (s.setLive src true).raise src info

/-- LIVE of a LEVEL source follows its condition while the collector runs: a condition that comes about raises the source, one that ends
clears LIVE. A collector in reset or frozen sees the condition as it stands when it runs again (R48, R54, R720). -/
def State.liveFollows (s : State) (src : Nat) (on : Bool) : State :=
  if s.asleep || s.b (FLT_SRC_LIVE src) = on then s else if on then s.raiseLive src 0 else s.setLive src false

/-- Is the part in safe state? -/
def State.inSafe (s : State) : Bool := 3 ≤ s.f FLT_STAT_SAFE_LEVEL

/-- Is a fault of S3 or S4 latched (R516, R586)? -/
def State.latchedAtLeast (s : State) (sev : Nat) : Bool :=
  (List.range 128).any fun i => s.b (FLT_SRC_LATCHED i) && sev ≤ s.f (FLT_SRC_SEV i)

/-! Pairs that must agree (R144, R145) -/

/-- Check a pair whose first field is at `off`: a failing pair raises source 23 at each use. -/
def State.pair (s : State) (ok : Bool) (off : Nat) : State := if ok then s else s.raise 23 (off % 0x1000000)

end Sys2Proof.Machine
end

