-- ==== Sys2Proof/Machine/Mirror.lean ====
section
/-!
DEFINITION. Mirror.lean: Basalt frames and the mirror entries of the PRIMARY (19_twin.md R694 to R700, Table 19.3), and the writes of
the nozzle table they follow (R173, R380, R667).
-/

namespace Sys2Proof.Machine
open Reg Fld

/-! AES-256-GCM (R658, R697) -/

/-- Plaintext and ciphertext differ by the key stream. -/
def gcmStream (key iv text : List Byte) : List Byte :=
  ((List.range text.length).zip text).map fun x => x.2 ^^^ Config.gcmStream key iv x.1

/-- The tag of 16 bytes. -/
def gcmTag (key iv aad cipher : List Byte) : List Byte := slice (Config.gcmTag key iv aad cipher) 0 16

/-- Sealing: the ciphertext and its tag. -/
def gcmSeal (key iv aad text : List Byte) : List Byte :=
  let c := gcmStream key iv text
  c ++ gcmTag key iv aad c

/-- Opening of a ciphertext with its tag; none where the tag fails. -/
def gcmOpen (key iv aad sealed : List Byte) : Option (List Byte) :=
  let c := sealed.take (sealed.length - 16)
  if 16 ≤ sealed.length && sealed.drop (sealed.length - 16) = gcmTag key iv aad c then some (gcmStream key iv c) else none

/-! Frames and entries -/

/-- The role (Table 19.1): 0 SOLO, 1 PAIRING, 2 PRIMARY, 3 STANDBY, 4 TAKEOVER, 5 ISOLATED. -/
def State.role (s : State) : Nat := s.f TWIN_STATE_ROLE

/-- Put the role; QW_OUT[1] is high while PRIMARY (R698). -/
def State.setRole (s : State) (r : Nat) : State :=
  let s := s.setF TWIN_STATE_ROLE r
  let hi := decide (r = 2)
  if s.twin.qwOut.2 = hi then s
  else ({ s with twin := { s.twin with qwOut := (s.twin.qwOut.1, hi) } }).emit (.quorum 1)

/-- The controller ID: TWIN_SEL as sampled (R689). -/
def State.twinId (s : State) : Nat := s.f SYS_BOOT_STAT_TWIN_SEL

/-- A Basalt lane. -/
def State.basaltLane (s : State) (i : Nat) : BasaltLane := Map.get (fun _ => {}) s.twin.lanes i

/-- Change a Basalt lane. -/
def State.modBasalt (s : State) (i : Nat) (g : BasaltLane → BasaltLane) : State :=
  { s with twin := { s.twin with lanes := Map.set (fun _ => {}) s.twin.lanes i (g (s.basaltLane i)) } }

/-- Is a Basalt lane UP? -/
def State.basaltUp (s : State) (i : Nat) : Bool := s.basaltLane i |>.phase |> (· = .up)

/-- Send an encrypted frame on a Basalt lane (R697): SEQ, then ciphertext and tag. -/
def State.sendEnc (s : State) (i kind : Nat) (payload : List Byte) : State :=
  match s.twin.key with
  | none => s
  | some k =>
    let x := s.basaltLane i
    let seq := leBytes 8 x.txSeq
    let iv := [BitVec.ofNat 8 s.twinId, BitVec.ofNat 8 i] ++ zeros 2 ++ seq
    let aad := frameHeader kind s.twinId ((payload.length + 31) / 8) ++ seq
    let s := s.emit (.basalt i kind (seq ++ gcmSeal k iv aad payload))
    s.modBasalt i fun x => { x with txSeq := x.txSeq + 1 }

/-- Send an encrypted frame on every UP lane. -/
def State.sendAll (s : State) (kind : Nat) (payload : List Byte) : State :=
  s.forEach [0, 1] fun s i => s.when (s.basaltUp i) (·.sendEnc i kind payload)

/-- Send a mirror entry while PRIMARY with a session: the next MSEQ, waiting for its acknowledgement (Table 19.3, R700). The
layout of an entry is the model's choice (log 20): kind, domain or flags, two zero bytes, line or nozzle, then its values. -/
def State.mirror (s : State) (entry : List Byte) : State :=
  if s.role = 2 && s.twin.key.isSome then
    let m := s.twin.mseq + 1
    let s := { s with twin := { s.twin with mseq := m, unacked := s.twin.unacked ++ [(m, s.tb)] } }
    s.sendAll 0x51 (leBytes 8 m ++ entry)
  else s

/-- A BOUNDARY entry: domain, line, position and next target. -/
def boundaryEntry (d line : Nat) (pos target : Int) : List Byte :=
  [1, BitVec.ofNat 8 d, 0, 0] ++ leBytes 4 line ++ leBytes 8 (ofSigned 64 pos) ++ slice (leBytes 12 (ofSigned 96 target)) 0 16

/-- A LEDGER entry: the record, and the chain value with the first entry of a session. -/
def ledgerEntry (h : Option (List Byte)) (r : List Byte) : List Byte :=
  [2, BitVec.ofNat 8 (b2n h.isSome)] ++ zeros 6 ++ r ++ h.getD []

/-- An NZ entry: a nozzle with bits 31:0 of its entry, or a hold added or released. -/
def nzEntry (hold : Bool) (n v : Nat) : List Byte :=
  [3, BitVec.ofNat 8 (b2n hold), 0, 0] ++ leBytes 4 n ++ leBytes 8 v

/-! Nozzle table writes -/

/-- Note a change of a nozzle's entry (bit 0) or hold (bit 1) for the event log (R667); where it has effect now, mirror it. -/
def State.nzChanged (s : State) (n : Nat) (hold : Bool) (v : Nat) (now : Bool) : State :=
  let old := Map.get (fun _ => 0) s.nzDirty n
  let s := { s with nzDirty := Map.set (fun _ => 0) s.nzDirty n (old ||| if hold then 2 else 1) }
  s.when now (·.mirror (nzEntry hold n v))

/-- Write a nozzle-table entry whole; PARITY is set (R380), a change of bits 31:0 is noted. -/
def State.writeNozzle (s : State) (n v : Nat) : State :=
  let old := s.nozzle n
  let s := s.writeMem (nozzleAddr n) (leBytes 8 (withParity v))
  if old % 0x100000000 = v % 0x100000000 then s else s.nzChanged n false (v % 0x100000000) true

end Sys2Proof.Machine
end

