-- ==== Sys2Proof/Machine/Sha.lean ====
section
/-!
DEFINITION. Sha.lean: SHA-256 and SHA-384 (FIPS 180-4), which the manual names for the ledger chain (R662), the item hashes (R669), images
(R188) and tokens (R649). PRESUMED (log 9): the manual names the functions and does not restate them.
-/

namespace Sys2Proof.Machine

/-- The first 80 primes. -/
def shaPrimes : List Nat :=
  [2, 3, 5, 7, 11, 13, 17, 19, 23, 29] ++ [31, 37, 41, 43, 47, 53, 59, 61, 67, 71] ++ [73, 79, 83, 89, 97, 101, 103, 107, 109, 113] ++
  [127, 131, 137, 139, 149, 151, 157, 163, 167, 173] ++ [179, 181, 191, 193, 197, 199, 211, 223, 227, 229] ++
  [233, 239, 241, 251, 257, 263, 269, 271, 277, 281] ++ [283, 293, 307, 311, 313, 317, 331, 337, 347, 349] ++
  [353, 359, 367, 373, 379, 383, 389, 397, 401, 409]

/-- The greatest r with r^k at most n, bit by bit from bit b - 1 down, above what is found already. -/
def rootBits (k n : Nat) : Nat → Nat → Nat
  | 0, r => r
  | b + 1, r => rootBits k n b (if (r + 2 ^ b) ^ k ≤ n then r + 2 ^ b else r)

/-- The first 64 bits of the fraction of the k-th root of p, which FIPS 180-4 takes its constants and initial values from. -/
def rootFraction (k p : Nat) : Nat := rootBits k (p * 2 ^ (64 * k)) 69 0 % 2 ^ 64

/-- SHA-512 constants, which SHA-384 uses: of cube roots. -/
def sha512K : List (BitVec 64) := shaPrimes.map fun p => BitVec.ofNat 64 (rootFraction 3 p)

/-- SHA-256 constants: both functions take the fractions of the same cube roots, to 32 and to 64 bits. -/
def sha256K : List (BitVec 32) := (shaPrimes.take 64).map fun p => BitVec.ofNat 32 (rootFraction 3 p / 2 ^ 32)

/-- SHA-256 initial value: of the square roots of the first eight primes. -/
def sha256H : List (BitVec 32) := (shaPrimes.take 8).map fun p => BitVec.ofNat 32 (rootFraction 2 p / 2 ^ 32)

/-- SHA-384 initial value: of the square roots of the next eight. -/
def sha384H : List (BitVec 64) := ((shaPrimes.drop 8).take 8).map fun p => BitVec.ofNat 64 (rootFraction 2 p)

/-- The message schedule, newest word first: `n` more words after those given. -/
def shaSchedule {w : Nat} (s0 s1 : BitVec w → BitVec w) : Nat → List (BitVec w) → List (BitVec w)
  | 0, ws => ws
  | n + 1, ws =>
    shaSchedule s0 s1 n ((s1 (ws.getD 1 0) + ws.getD 6 0 + s0 (ws.getD 14 0) + ws.getD 15 0) :: ws)

/-- "Choose": the bits of `y` where `x` has a one, of `z` elsewhere. -/
def shaChoose {w : Nat} (x y z : BitVec w) : BitVec w := z ^^^ (x &&& (y ^^^ z))

/-- "Majority": the bits at least two of three words have. -/
def shaMajority {w : Nat} (x y z : BitVec w) : BitVec w := (x &&& (y ||| z)) ||| (y &&& z)

/-- One round on the eight working words, oldest name first, with the sum of its constant and its schedule word. -/
def shaRound {w : Nat} (b0 b1 : BitVec w → BitVec w) (v : List (BitVec w)) (km : BitVec w) : List (BitVec w) :=
  let x (i : Nat) : BitVec w := v.getD i 0
  let add := x 7 + km + shaChoose (x 4) (x 5) (x 6) + b1 (x 4)
  (add + shaMajority (x 0) (x 1) (x 2) + b0 (x 0)) :: v.take 3 ++ (x 3 + add) :: (v.drop 4).take 3

/-- Big-endian words of `n` bytes. -/
def beWords (w n : Nat) : Nat → List Byte → List (BitVec w)
  | 0, _ => []
  | k + 1, bs => BitVec.ofNat w ((bs.take n).foldl (fun a b => a * 256 + b.toNat) 0) :: beWords w n k (bs.drop n)

/-- A number's big-endian bytes. -/
def beBytes (n v : Nat) : List Byte := (leBytes n v).reverse

/-- One block into the hash value. -/
def shaBlock {w : Nat} (n rounds : Nat) (ks : List (BitVec w)) (b0 b1 s0 s1 : BitVec w → BitVec w)
    (hs : List (BitVec w)) (block : List Byte) : List (BitVec w) :=
  let ws := (shaSchedule s0 s1 (rounds - 16) (beWords w n 16 block).reverse).reverse
  (hs.zip (((ks.zip ws).map fun x => x.1 + x.2).foldl (shaRound b0 b1) hs)).map fun x => x.1 + x.2

/-- Blocks of `len` bytes, `k` of them. -/
def shaBlocks {w : Nat} (f : List (BitVec w) → List Byte → List (BitVec w)) (len : Nat) :
    Nat → List Byte → List (BitVec w) → List (BitVec w)
  | 0, _, h => h
  | k + 1, m, h => shaBlocks f len k (m.drop len) (f h (m.take len))

/-- The padded message: 0x80, zeros, the bit length in `lenBytes` bytes. -/
def shaPad (block lenBytes : Nat) (m : List Byte) : List Byte :=
  let n := m.length + 1 + lenBytes
  m ++ [0x80] ++ zeros ((block - n % block) % block) ++ beBytes lenBytes (8 * m.length)

/-- SHA-256. -/
def sha256 (m : List Byte) : List Byte :=
  let p := shaPad 64 8 m
  let r (x : BitVec 32) (n : Nat) : BitVec 32 := x.rotateRight n
  let h := shaBlocks (shaBlock 4 64 sha256K
    (fun x => r x 2 ^^^ r x 13 ^^^ r x 22) (fun x => r x 6 ^^^ r x 11 ^^^ r x 25)
    (fun x => r x 7 ^^^ r x 18 ^^^ x >>> 3) (fun x => r x 17 ^^^ r x 19 ^^^ x >>> 10)) 64 (p.length / 64) p sha256H
  (h.map fun x => beBytes 4 x.toNat).flatten

/-- SHA-384. -/
def sha384 (m : List Byte) : List Byte :=
  let p := shaPad 128 16 m
  let r (x : BitVec 64) (n : Nat) : BitVec 64 := x.rotateRight n
  let h := shaBlocks (shaBlock 8 80 sha512K
    (fun x => r x 28 ^^^ r x 34 ^^^ r x 39) (fun x => r x 14 ^^^ r x 18 ^^^ r x 41)
    (fun x => r x 1 ^^^ r x 8 ^^^ x >>> 7) (fun x => r x 19 ^^^ r x 61 ^^^ x >>> 6)) 128 (p.length / 128) p sha384H
  ((h.map fun x => beBytes 8 x.toNat).flatten).take 48

end Sys2Proof.Machine
end

