-- ==== Sys2Proof/Machine/Ledger.lean ====
section
/-!
DEFINITION. Ledger.lean: the print ledger's chain, buffer and delivery (18_security_ledger.md R661 to R676), the item records (Table 18.8),
and what an item's record does to the item and its job (R26, R35, R39).
-/

namespace Sys2Proof.Machine
open Reg Fld

/-- The next free value (log 2). -/
def State.fresh (s : State) : Nat × State := (s.free, { s with free := s.free + 1 })

/-- Word `i` of those drawn at a number: no two are one word. -/
def freeAt (k i : Nat) : Word := Config.freeWord (k * 4096 + i % 4096)

/-- `n` free bytes drawn at a number. -/
def freeBytes (k n : Nat) : List Byte :=
  ((List.range ((n + 3) / 4)).map fun i => leBytes 4 (freeAt k i).toNat).flatten.take n

/-- Send a frame within another command: how many of its blocks are still to go at the next command is not given, so that a SYNC or ABORT may
stand inside it (R422, log 100). -/
def State.emitFree (s : State) (o : Out) : State :=
  let (k, s) := s.fresh
  s.emitHeld (freeAt k 0).toNat o

/-! Records -/

/-- A record's 128 bytes: header of Table 18.6 and body padded to 96 bytes. -/
def recBytes (kind source aux next tb : Nat) (prev body : List Byte) : List Byte :=
  leBytes 2 kind ++ [1, BitVec.ofNat 8 source] ++ leBytes 4 aux ++ leBytes 8 next ++ leBytes 8 tb ++
    prev.take 8 ++ slice body 0 96

/-- Does the ledger take in records: open, and no CLOSE queued or accepted (R674)? -/
def State.ledgerTakes (s : State) : Bool := s.ledger.isOpen && !s.ledger.closing && !s.ledger.own.any (·.kind = 12)

/-- Queue a record of the ledger's own (SOURCE 0x10). -/
def State.ownRecord (s : State) (kind aux : Nat) (body : List Byte) : State :=
  { s with ledger := { s.ledger with own := s.ledger.own ++ [⟨kind, aux, 0x10, body, none⟩] } }

/-- The TAMPER record of an entry (Table 18.7); OVF, byte 0x22, is filled in as the chain takes it. -/
def TamperEntry.record (e : TamperEntry) : Rec :=
  let cls := if e.monitor < 8 then 1 else if e.monitor < 16 then 2 else 3
  ⟨7, cls, 0x10, [BitVec.ofNat 8 e.monitor, BitVec.ofNat 8 e.actions, 0] ++ zeros 5 ++ leBytes 8 e.count ++ leBytes 8 e.stamp, none⟩

/-- The item's code words for a ledger record: CAUSES, and PRIMARY for a SPOILED item (R666). -/
def Item.causeWords (i : Item) : Nat × Nat :=
  let mask := i.causes.foldl (fun m c => m + 2 ^ c.code) 0
  let best := (i.causes.filter (·.spoils)).foldl (fun (b : Option Cause) c =>
    match b with
    | none => some c
    | some d => if c.stamp < d.stamp || (c.stamp = d.stamp && c.code < d.code) then some c else some d) none
  (mask, match best with
    | some c => c.code
    | none => 0)

/-- Body of an ITEM record (Table 18.8). -/
def Item.body (i : Item) : List Byte :=
  let (mask, primary) := i.causeWords
  leBytes 8 i.serial ++ leBytes 4 i.tag.toNat ++ leBytes 3 i.lines ++
  [BitVec.ofNat 8 (i.dcd + 4 * i.queue),
   BitVec.ofNat 8 ((i.result.getD 0) + 4 * b2n i.spoiled + 8 * b2n i.regulated),
   BitVec.ofNat 8 primary, BitVec.ofNat 8 i.reject, BitVec.ofNat 8 i.pipeMask.toNat] ++
  leBytes 4 mask ++ leBytes 4 i.eventCount ++ leBytes 4 (min i.lost 0xFFFFFFFF) ++
  sha256 ((i.raster.filter fun x => i.prints.contains x.1).map (·.2.2)).flatten ++ sha256 i.events

/-- The item keeps the outcome of a mirrored ITEM record (R708, Table 19.4), and its own marks of SPOILED beside it (R32). -/
def Item.keepOutcome (tb : Nat) (r : List Byte) (i : Item) : Item :=
  let own := i.causes.filter (·.spoils)
  let causes := (bitsSet (leAt r 0x34 4) 32).map fun c => Cause.mk c tb (bitAt (leAt r 0x30 1) 2)
  { i with result := some (leAt r 0x30 1 % 4), kept := some (leAt r 8 8)
           causes := own ++ causes.filter fun c => !own.any (·.code = c.code) }

/-- The mirrored ITEM record of an item, if it has arrived. -/
def State.mirrorOf (s : State) (i : Item) : Option (List Byte) :=
  if i.replay then none else (s.twin.mirrored.find? fun m => m.1 = i.dcd && m.2.1 = i.serial).map (·.2.2)

/-! Jobs and items after the record (R26, R35, R538) -/

/-- Change the job of a queue's slot. -/
def State.modJob (s : State) (queue slot : Nat) (g : Job → Job) : State :=
  { s with jobs := s.jobs.map fun j => if j.queue = queue && j.slot = slot then g j else j }

/-- The job of a queue's slot. -/
def State.job? (s : State) (queue slot : Nat) : Option Job := s.jobs.find? fun j => j.queue = queue && j.slot = slot

/-- May this job's record be released (R26, R207)? -/
def Job.releasable (j : Job) : Bool :=
  !j.released && (j.refuse ≠ 0 || (j.done && j.finished + j.withdrawn = j.count))

/-- A job whose record may be released now joins the others, in the order in which they came to that (R25, R213). The records of a
replay job's items must have gone out. -/
def State.noteDone (s : State) (queue slot : Nat) : State :=
  match s.job? queue slot with
  | none => s
  | some j =>
    if !j.releasable || s.doneJobs.contains (queue, slot) || s.replayOut.any (fun w => w.queue = queue && w.slot = slot) then s
    else { s with doneJobs := s.doneJobs ++ [(queue, slot)] }

/-- Is an item open: in PRINTING, VERIFYING or DECIDED (R77)? -/
def State.itemsOpen (s : State) : Bool := s.items.any fun i => i.stage ≠ .queued

/-- Remove an item from the item table (R201). -/
def State.dropItem (s : State) (id : Nat) : State :=
  { s with items := s.items.filter (·.id ≠ id) }

/-- The item has entered DECIDED with its record in the chain at `counter` (0 for a replay item): its job counts it, and it is
DELIVERED at once where it has no station or its window has opened already (R35, R538). -/
def State.decided (s : State) (id counter : Nat) : State :=
  match s.item? id with
  | none => s
  | some i =>
    let s := s.modJob i.queue i.slot fun j =>
      { j with finished := j.finished + 1
               accepted := j.accepted + b2n (!i.spoiled)
               spoiled := j.spoiled + b2n i.spoiled
               suspect := j.suspect + b2n (i.result = some 2)
               partialCount := j.partialCount + b2n (i.result = some 1)
               ledgerFirst := if j.ledgerFirst = 0 then counter else j.ledgerFirst }
    let s := s.modItem id fun i => { i with stage := .decided, recorded := true }
    let s := s.noteDone i.queue i.slot
    if i.windowed || i.reject = 0xFF || i.replay then s.dropItem id else s

/-! Acceptance into the chain (R662, R663, R668, R671, R676) -/

/-- Capacity of the buffer (R671). -/
def ledgerCap : Nat := 512

/-- Blow the high-water mark a counter at a 2^32 boundary needs, shown in its mirror (Table 18.1); no mark left makes source 101 LIVE until reset
(R676). -/
def State.blowMark (s : State) : State :=
  let mark := s.geode.next / 0x100000000
  if s.geode.next % 0x100000000 = 0 && s.fuses.hwm < mark then
    if mark ≤ 255 then ({ s with fuses := { s.fuses with hwm := mark } }).wn (SEC_FUSE 3) mark
    else
      let s := { s with ledger := { s.ledger with markFail := true } }
      (s.setB LG_STAT_STALL true).raiseLive 101 0
  else s

/-- The 128 bytes of a record as it enters the chain now: counter, stamp and PREV; an item's body, and OVF in a TAMPER record, are drawn up
now (R657). -/
def State.recordBytes (s : State) (r : Rec) : List Byte :=
  let body := match r.item with
    | some id => match s.item? id with
      | some i => i.body
      | none => r.body
    | none => if r.kind = 7 then r.body.set 2 (BitVec.ofNat 8 s.geode.overflow) else r.body
  recBytes r.kind r.source r.aux s.geode.next s.tb s.ledger.h body

/-- A record joins the chain and the buffer, and the mirror of the STANDBY (R661, R662, R671). -/
def State.linked (s : State) (bytes : List Byte) : State :=
  let l := s.ledger
  let h := sha384 (l.h ++ bytes)
  let s := s.mirror (ledgerEntry (if s.twin.hSent then none else some l.h) bytes)
  { s with twin := { s.twin with hSent := s.twin.hSent || s.role = 2 && s.twin.key.isSome }
           ledger := { s.ledger with h := h, buffer := s.ledger.buffer ++ [(bytes, h)] }
           geode := { s.geode with next := s.geode.next + 1 } }

/-- A full buffer makes source 101 LIVE (R671). -/
def State.bufferFull (s : State) : State :=
  if ledgerCap ≤ s.ledger.buffer.length && !s.b LG_STAT_STALL then (s.setB LG_STAT_STALL true).raiseLive 101 0 else s

/-- The first entry of the log that a TAMPER record stands for is appended. -/
def markAppended (r : Rec) : List TamperEntry → List TamperEntry
  | [] => []
  | e :: es => if !e.appended && e.record = r then { e with appended := true } :: es else e :: markAppended r es

/-- What a KEY or TAMPER record in the chain settles: the key's record is no longer due; the entry is appended and OVF clears (R657, R673). -/
def State.recordSettled (s : State) (r : Rec) : State :=
  if r.kind = 3 then { s with ledger := { s.ledger with keyDue := s.ledger.keyDue.erase (r.aux, r.body) } }
  else if r.kind = 7 then
    { (s.setF GEO_LOG_OVF 0) with geode := { s.geode with overflow := 0, log := markAppended r s.geode.log } }
  else s

/-- Put one record into the chain: an item is decided by its record, event 4 follows a CP_SIG record. -/
def State.chain (s : State) (r : Rec) : State :=
  let c := s.geode.next
  let s := (s.linked (s.recordBytes r)).recordSettled r
  let s := match r.item with
    | some id => s.decided id c
    | none => s
  (s.when (r.kind = 10) (·.engEvents 4 allEngines)).bufferFull

/-- May the ledger take a record now? -/
def State.ledgerRoom (s : State) : Bool :=
  s.ledger.isOpen && !s.ledger.closing && !s.ledger.markFail && s.ledger.buffer.length < ledgerCap

/-- The signer field of a checkpoint: 8 bytes of SHA-384 of the device public key, zeros without a device key (R663). -/
def State.signer (s : State) : List Byte :=
  if s.b GEO_STAT_DEVKEY_VALID then (sha384 (s.regBytes (LG_DEVPUB 0) 97)).take 8 else zeros 8

/-- The checkpoint that comes before any other record when NEXT mod 1,024 = 1,023, and starts the signing (R663). -/
def State.checkpoint (s : State) : State :=
  let c := s.geode.next
  let body := s.ledger.h ++ s.signer ++ zeros 40
  let s := s.chain ⟨9, 0, 0x10, body, none⟩
  match s.ledger.buffer.getLast? with
  | some (bytes, _) => { s with ledger := { s.ledger with signing := s.ledger.signing ++ [(c, bytes)] } }
  | none => s

/-- Accept the next record due: the checkpoint, waiting nozzle entries before an ITEM record, else the oldest waiting (R663, R665,
R668); nothing where none is due or there is no room. -/
def State.acceptNext (s : State) : State :=
  if !s.ledgerRoom then s
  else if s.ledger.own = [] && s.geode.next % 1024 ≠ 1023 then s
  else
    let s := s.blowMark
    if s.ledger.markFail then s
    else if s.geode.next % 1024 = 1023 then s.checkpoint
    else match s.ledger.own with
      | [] => s
      | r :: rest =>
        let es := s.ledger.nozzle.take 6
        if r.kind = 4 && es ≠ [] then
          let s := { s with ledger := { s.ledger with nozzle := s.ledger.nozzle.drop 6 } }
          s.chain ⟨5, es.length, 0x10, es.flatten, none⟩
        else
          let s := { s with ledger := { s.ledger with own := rest, closing := r.kind = 12 } }
          s.chain r

/-- Accept waiting records until none is left or there is no room, `n` at most. -/
def State.acceptAll : Nat → State → State
  | 0, s => s
  | n + 1, s => if s.ledger.own = [] || !s.ledgerRoom then s else acceptAll n s.acceptNext

/-- A nozzle event waits in log order; six waiting are packed into an NZEVENT record, which goes ahead of an ITEM record that waits (R667,
R668). -/
def State.logNozzle (s : State) (line nozzle entry : Nat) (hold : Bool) : State :=
  let e := leBytes 4 line ++ leBytes 4 (nozzle % 0x40000 + 0x40000000 * b2n hold) ++ leBytes 8 entry
  let l : Ledger := { s.ledger with nozzle := s.ledger.nozzle ++ [e] }
  if 6 ≤ l.nozzle.length then
    let (first, items) := l.own.span (·.kind ≠ 4)
    { s with ledger := { l with nozzle := l.nozzle.drop 6
                                own := first ++ ⟨5, 6, 0x10, (l.nozzle.take 6).flatten, none⟩ :: items } }
  else { s with ledger := l }

/-! The item leaves VERIFYING (R37, R489, R490) -/

/-- The item record of a replay job's item is on its way to bytes 128 x index of REPLAY_OUT, the fields that the ledger fills at 0
(R229). -/
def State.replayRecord (s : State) (i : Item) : State :=
  match s.job? i.queue i.slot with
  | some j =>
    let w : ReplayWrite := ⟨i.queue, i.slot, s.tb, j.replayOut + 128 * i.index, recBytes 4 0x10 0 0 0 (zeros 8) i.body⟩
    { s with replayOut := s.replayOut ++ [w] }
  | none => s

/-- The item records of replay jobs go out while the function may send, and their jobs may end (R229, R241). -/
def State.sendReplay (s : State) : State :=
  if !s.canSend then s
  else
    let ws := s.replayOut
    let s := ws.foldl (fun s w => s.hostWrite w.addr w.bytes) { s with replayOut := [] }
    ws.foldl (fun s w => s.noteDone w.queue w.slot) s

/-- An item leaves VERIFYING with its result: a SUSPECT regulated item is SPOILED, any other SUSPECT is recorded; sources 65 and
70; the record is queued, or written to REPLAY_OUT (R37, R39, R229, R490). -/
def State.leaveVerifying (s : State) (id result : Nat) : State :=
  match s.item? id with
  | none => s
  | some i =>
    if i.result.isSome then s else
    let s := s.modItem id fun i => { (if result = 2 then s.cause 11 i.regulated i else i) with result := some result }
    let s := s.when (result = 2 && !i.replay) (·.raise 65 i.dcd)
    let s := s.when (result = 1 && !i.replay) (·.raise 70 i.dcd)
    if i.replay then
      match s.item? id with
      | some i => ((s.replayRecord i).decided id 0).sendReplay
      | none => s
    else { s with ledger := { s.ledger with own := s.ledger.own ++ [⟨4, 0, 0x10, [], some id⟩] } }

end Sys2Proof.Machine
end

