-- ==== Sys2Proof/Machine/Position.lean ====
section
/-!
DEFINITION. Position.lean: positions of feedback channels, the forward direction of a domain and the interpolated position and phase
(14_position_feedback.md R556; 09_dot_clock.md R340 to R350, R355, R358; 08_raster_path.md R332, R333).
-/

namespace Sys2Proof.Machine
open Reg Fld

/-- 2^32, one count in 64.32. -/
def one : Int := 0x100000000

/-- Position of a channel in 2^-32 counts. -/
def State.pos64 (s : State) (c : Nat) : Int := s.rdS64 (FB_POS_LO c) * one + (s.rn (FB_POS_FRAC c) : Int)

/-- Put the position of a channel. -/
def State.setPos64 (s : State) (c : Nat) (x : Int) : State :=
  (s.wrS64 (FB_POS_LO c) (x / one)).wn (FB_POS_FRAC c) (x % one).toNat

/-- Has no edge or sample come for LSTMO (R559)? -/
def State.quietFor (s : State) (c : Nat) : Bool := (s.chan c).stamp + 800 * max 1 (s.f (FB_LSTMO_US c)) ≤ s.tb

/-- LOW_SPEED: set at EN until the second edge, and once LSTMO has passed, on a channel that is not enabled too (R559). -/
def State.lowNow (s : State) (c : Nat) : Bool := s.b (FB_LIVE_LOW_SPEED c) || s.quietFor c

/-- Is the channel's low-speed timeout expired (R559)? -/
def State.slow (s : State) (c : Nat) : Bool := s.lowNow c || (s.chan c).edges < 2

/-! Scanning blocks (R332, R333): boundary `i` of a run, counted from 0, begins dot period START - 4 + i -/

/-- Is the domain in scanning mode? -/
def State.scanning (s : State) (d : Nat) : Bool := s.b (RAS_SCAN_SCAN_EN d)

/-- Lines of a block. -/
def State.passLines (s : State) (d : Nat) : Nat := max 1 (s.f (RAS_SCAN_PASS_LINES d))

/-- The block of stream line r. -/
def State.blockOf (s : State) (d r : Nat) : Nat := r / s.passLines d

/-- Does block b run in reverse? -/
def State.blockRev (s : State) (d b : Nat) : Bool :=
  if s.b (RAS_SCAN_UNIDIR d) then s.b (RAS_SCAN_DIR0 d) else xor (s.b (RAS_SCAN_DIR0 d)) (b % 2 = 1)

/-- The pass of block b. -/
def State.blockPass (s : State) (d b : Nat) : Nat := (b + s.f (RAS_SCAN_PASS0 d)) % (s.f (RAS_SCAN_PASSES d) + 1)

/-- The issued line, counted from START, whose dot period boundary i begins: a 32-bit count (R300, R341). -/
def lineIndex (i : Nat) : Nat := (i - 4) % 0x100000000

/-- The sign by which channel counts become forward positions at boundary i (R346, R355). -/
def State.forward (s : State) (d i : Nat) : Int :=
  (if s.b (DCD_SRC_REVERSE d) then -1 else 1) *
  (if s.scanning d && s.f (DCD_CTRL_MODE d) = 1 && s.blockRev d (s.blockOf d (lineIndex i)) then -1 else 1)

/-- The interpolated position (R349), forward, at boundary i. A stamp lags its edge or sample by the channel's latency, so the interpolation runs
behind the position until LEAD has made up for it. -/
def State.xhat (s : State) (d i : Nat) : Int :=
  let c := s.f (DCD_SRC_CHANNEL d)
  let sg := s.forward d i
  let x := sg * s.pos64 c
  let ch := s.chan c
  let dx := sg * ch.dx
  if s.slow c || dx < 0 || ch.tau = 0 then x
  else
    let t : Int := (s.tb : Int) - (ch.stamp : Int) + (s.f (DCD_SRC_LEAD d) : Int)
    x + min (tdiv (dx * t) (ch.tau : Int)) (dx - 1)

/-- FREQ in use: FREQ x S, truncated (R374). -/
def Domain.effFreq (x : Domain) : Nat := x.freq * x.speed / 0x1000000

/-- The accumulator with the cycles since it was last set (R358). -/
def State.accumNow (s : State) (d : Nat) : Nat :=
  let x := s.dom d
  x.accum + x.effFreq * (s.tb - x.accumAt)

/-- How far x̂ lies past the last boundary's target, in 64ths of the step to the next (R350). -/
def State.phaseRaw (s : State) (d : Nat) : Nat :=
  let x := s.dom d
  (max 0 (64 * (s.xhat d (x.made - 1) - x.lastTarget) / (if x.step ≤ 0 then 1 else x.step))).toNat

/-- The interpolated phase of a running domain (R350, R358). -/
def State.phase (s : State) (d : Nat) : Nat :=
  let x := s.dom d
  if s.f (DCD_CTRL_STATE d) = 0 || x.made = 0 && s.f (DCD_CTRL_MODE d) = 1 then 0
  else if s.f (DCD_CTRL_MODE d) = 2 then bits (s.accumNow d) 31 26
  else min (s.phaseRaw d) 63

/-- The phase of a running domain where it is looked at past the limit of R350: a domain in HOLD makes no boundary, so its phase runs on
(log 95). -/
def State.phaseNow (s : State) (d : Nat) : Nat := if (s.dom d).hold && !(s.f (DCD_CTRL_STATE d) = 0) then s.phaseRaw d else s.phase d

/-- Difference of two 32-bit line counts, signed. -/
def lineDiff (a b : Nat) : Int := toSigned 32 (a + 0x100000000 - b % 0x100000000)

/-! Lanes of a domain -/

/-- The enabled lanes of a domain (R413). -/
def State.domainLanes (s : State) (d : Nat) : List Nat :=
  allLanes.filter fun l => s.b (HL_CTRL_ENABLE l) && s.f (HL_CFG_DCD l) = d

/-- A lane's rows and columns (R297). -/
def State.rows (s : State) (l : Nat) : Nat := 2 ^ s.f (RAS_GEOM_ROWS l)

/-- Columns of a lane. -/
def State.cols (s : State) (l : Nat) : Nat := s.f (HL_NOZ_COUNT l) / s.rows l

/-- Phase slots a lane negotiated. -/
def State.nph (s : State) (l : Nat) : Nat := 2 ^ s.f (HL_LINK_NPH l)

/-- A lane's fire period in ticks: as negotiated while UP, else of FIRE_RATE (R345). -/
def State.firePeriod (s : State) (l : Nat) : Nat :=
  if s.laneUp l then s.f (HL_LINK_FIRE_TICKS l) else if s.b (HL_CFG_FIRE_RATE l) then 33333 else 16666

/-- Where slot phi of dot period P begins, in 64ths of a dot from the boundary of P (R395). -/
def State.slotStart (s : State) (l phi : Nat) : Nat := s.f (RAS_SKEW_PHASE l) + phi * 64 / s.nph l

/-- Has the domain reached a point, in 64ths of a dot from the boundary of P? -/
def State.reached (s : State) (d p at64 : Nat) : Bool :=
  let q := lineDiff (s.rn (DCD_LINE d)) p
  (at64 / 64 : Nat) < q || (0 ≤ q && (at64 : Int) ≤ 64 * q + (s.phaseNow d : Nat))

/-- The enabled lane that holds a nozzle, if any. -/
def State.laneOf (s : State) (n : Nat) : Option Nat :=
  allLanes.find? fun l => s.b (HL_CTRL_ENABLE l) && s.f (HL_NOZ_NBASE l) ≤ n && n < s.f (HL_NOZ_NBASE l) + s.f (HL_NOZ_COUNT l)

/-- Does the lane hold its lease (R449)? -/
def State.held (s : State) (l : Nat) : Bool := s.f (HL_LEASE_STATE l) = 2

/-- The lanes whose leases a lane fires under: its own in SOLO, in PRIMARY its whole bar (R703). -/
def State.leaseLanes (s : State) (l : Nat) : List Nat := if s.role = 2 then s.domainLanes (s.f (HL_CFG_DCD l)) else [l]

/-- May the lane fire: its own lease in SOLO, every lease of the bar in PRIMARY, never in another role (R450, R703, Table 19.1)? -/
def State.mayFire (s : State) (l : Nat) : Bool :=
  match s.role with
  | 0 => s.held l
  | 2 => (s.domainLanes (s.f (HL_CFG_DCD l))).all s.held
  | _ => false

/-- May a slice taken up now fire: a lease granted in this very cycle counts from the next take-up (R450, R462)? -/
def State.leasedNow (s : State) (l : Nat) : Bool := s.mayFire l && !(s.leaseLanes l).any fun m => (s.lane m).grantAt = some s.tb

end Sys2Proof.Machine
end

