-- ==== Sys2Proof/Machine/Verify.lean ====
section
/-!
DEFINITION. Verify.lean: drop verification (12_drop_verification.md R463 to R496): holds, gap plans, gate levels, test classes, result
records and the judging of items.
-/

namespace Sys2Proof.Machine
open Reg Fld

/-! Holds (R483 to R487) -/

/-- Boundary count from which a change made now in a domain has effect: of Q + 2 while it runs (R485), at once while it is
stopped. -/
def State.holdFrom (s : State) (d : Nat) : Nat :=
  if s.f (DCD_CTRL_STATE d) = 0 then (s.dom d).bcount else (s.dom d).bcount + 2

/-- The domain of a nozzle's lane; 0 where no enabled lane holds it. -/
def State.nozzleDomain (s : State) (n : Nat) : Nat :=
  match s.laneOf n with
  | some l => s.f (HL_CFG_DCD l)
  | none => 0

/-- The hold list of a pipeline: its entries not released. -/
def State.holdList (s : State) (k : Nat) : List Nat :=
  (s.holds.filter fun h => h.nozzle / 32768 = k && h.until_.isNone).map (·.nozzle)

/-- Is a nozzle held at a take-up at boundary count b? -/
def State.heldAt (s : State) (n b : Nat) : Bool :=
  s.holds.any fun h => h.nozzle = n && h.since ≤ b &&
    match h.until_ with
    | none => true
    | some u => b < u

/-- Add a nozzle to its pipeline's hold list; true where the list is full (R484). -/
def State.addHold (s : State) (n : Nat) : State × Bool :=
  let l := s.holdList (n / 32768)
  if l.contains n then (s, false)
  else if 256 ≤ l.length then (s, true)
  else
    let d := s.nozzleDomain n
    let b := (s.dom d).bcount
    let rest := s.holds.filter fun h => !(h.nozzle = n && b < h.since)
    let h : Hold := { nozzle := n, since := s.holdFrom d, until_ := none }
    (({ s with holds := rest ++ [h] }).nzChanged n true 1 (h.since ≤ b), false)

/-- Release a hold (R485, R486). -/
def State.releaseHold (s : State) (n : Nat) : State :=
  if (s.holdList (n / 32768)).contains n then
    let d := s.nozzleDomain n
    let u := s.holdFrom d
    let end_ (h : Hold) : Hold := if h.nozzle = n && h.until_.isNone then { h with until_ := some u } else h
    ({ s with holds := s.holds.map end_ }).nzChanged n true 0 (u ≤ (s.dom d).bcount)
  else s

/-- Clear a pipeline's hold list (R487). -/
def State.clearHolds (s : State) (k : Nat) : State :=
  let gone := s.holdList k
  let s := { s with holds := s.holds.filter fun h => h.nozzle / 32768 ≠ k }
  s.forEach gone fun s n => s.nzChanged n true 0 true

/-- At a boundary the PRIMARY mirrors the holds of a domain whose change has effect from here (R485, Table 19.3). -/
def State.mirrorHolds (s : State) (d : Nat) : State :=
  let b := (s.dom d).bcount
  let mine := s.holds.filter fun h => s.nozzleDomain h.nozzle = d
  let s := (mine.filter fun h => h.until_ = some b).foldl (fun s h => s.mirror (nzEntry true h.nozzle 0)) s
  (mine.filter fun h => h.since = b && h.until_.all (b < ·)).foldl (fun s h => s.mirror (nzEntry true h.nozzle 1)) s

/-- A mirrored hold or release has effect at once (R173, Table 19.3). -/
def State.holdNow (s : State) (n : Nat) (on : Bool) : State :=
  let b := (s.dom (s.nozzleDomain n)).bcount
  let s := if on then (s.addHold n).1 else s.releaseHold n
  { s with holds := s.holds.map fun h =>
      if h.nozzle ≠ n then h else if on then { h with since := min h.since b } else { h with until_ := h.until_.map (min b) } }

/-! Geometry of tests (R463, R472) -/

/-- Gate sections of a lane: 16, or 1 on a local gate (R494). -/
def State.sections (s : State) (l : Nat) : Nat := if s.b (VFY_LANE_LOCAL l) then 1 else 16

/-- Test positions of a lane. -/
def State.positions (s : State) (l : Nat) : Nat := s.f (HL_NOZ_COUNT l) / s.sections l

/-- The gate section of decision j (R463). -/
def State.sectionOf (s : State) (l j : Nat) : Nat :=
  let w := s.cols l / s.sections l
  if w = 0 then 0 else j % s.cols l / w

/-- The decision index of position k in section sec (R472). -/
def State.testDecision (s : State) (l k sec : Nat) : Nat :=
  let nph := s.nph l
  let q := max 1 (s.positions l / nph)
  let phi := nph - 1 - k / q
  let r2 := k % q
  let row := r2 % s.rows l
  let col := sec * (s.cols l / s.sections l) + phi + r2 / s.rows l * nph
  row * s.cols l + col

/-- The test fires of test line t of a gap: position (CURSOR + t) mod p in every section, without the nozzles in FAILED or
DISABLED (R473, R474): decision index and section. -/
def State.testFires (s : State) (l t : Nat) : List (Nat × Nat) :=
  let p := max 1 (s.positions l)
  let k := (s.f (VFY_CURSOR_POS l) + t) % p
  ((List.range (s.sections l)).map fun sec => (s.testDecision l k sec, sec)).filter fun (j, _) =>
    let st := bits (s.nozzle (s.f (HL_NOZ_NBASE l) + j)) 12 10
    st ≠ 3 && st ≠ 4

/-! CTRL requests (R459, R477) -/

/-- The next TAG of a lane and a CTRL WRITE or READ frame with it; in STANDBY a lane sends IDLE frames only (Table 19.4). -/
def State.sendCtrl (s : State) (l : Nat) (use : CtrlUse) (op addr : Nat) (ws : List Nat) : State :=
  let x := s.lane l
  let tag := x.ctrlTag
  let hdr := [BitVec.ofNat 8 op, BitVec.ofNat 8 tag, BitVec.ofNat 8 (max 1 ws.length), 0] ++ leBytes 4 addr
  let body := (ws.map (leBytes 4)).flatten
  let s := s.when (s.laneUp l && s.role ≠ 3) (·.emitFree (.frame l 0x04 (hdr ++ slice body 0 ((body.length + 7) / 8 * 8))))
  s.modLane l fun x => { x with ctrlTag := (tag + 1) % 256, ctrl := x.ctrl ++ [⟨tag, s.tb, use⟩] }

/-! Gap plans (R470, R471, R475 to R478) -/

/-- A CFG_ERROR of the lane's gap plan (R471). -/
def State.gapCfgError (s : State) (l : Nat) : State := (s.ev (VFY_LSTAT_CFG_ERROR l)).raise 72 l

/-- Division rounding up. -/
def cdiv (a b : Nat) : Nat := (a + b - 1) / b

/-- The conditions of R471. -/
def State.gapOk (s : State) (l d : Nat) : Bool :=
  let F := s.firePeriod l
  let start := s.f (VFY_WIN_TW_START d)
  let len := s.f (VFY_WIN_TW_LEN d)
  let nph := s.nph l
  2 + cdiv (80 * (start + len)) F ≤ s.f (VFY_DCFG_CLEAR_LINES d) &&
  1 + cdiv 220000 F ≤ s.f (VFY_DCFG_SETTLE_LINES d) &&
  8 ≤ s.f (VFY_DCFG_DARK_LINES d) && start + len ≤ 2000 &&
  80 * len ≤ (if nph = 1 then F else F - F / nph) &&
  s.f (VFY_CLS_DARK_START d) + 64 ≤ F / 80 &&
  0 < s.cols l && s.cols l % (s.sections l * nph) = 0

/-- The item has a verdict on a lane: its test lines, and how many are still open; on a lane it printed on, m < n marks the item short
(R489). -/
def State.judgeLane (s : State) (id l m n : Nat) : State :=
  s.modItem id fun i =>
    { i with judged := i.judged.filter (·.1 ≠ l) ++ [(l, m, m)]
             shortTest := i.shortTest || (i.printed.contains l && (decide (m < n) || n = 0)) }

/-- The first gap line of an item on a lane (R470, R471): the plan, and the dark window at the head bridge (R469). The plan of a replay job's
gap stands for the duty counts of its test lines alone: nothing is sent, and the item counts no test lines (R227, R231). -/
def State.planGap (s : State) (l d id gapLines period : Nat) (replay : Bool) : State :=
  let n := s.positions l
  let on := s.b (VFY_DCFG_EN d) && s.b (VFY_LANE_EN l) && (s.role = 0 || s.role = 2)
  if !on then (s.judgeLane id l 0 n).modVLane l fun v => { v with gap := none }
  else
    let c := s.f (VFY_DCFG_CLEAR_LINES d)
    let dk := s.f (VFY_DCFG_DARK_LINES d)
    let st := s.f (VFY_DCFG_SETTLE_LINES d)
    let ok := s.gapOk l d
    let s := s.when (!ok && !replay) (·.gapCfgError l)
    let m := if ok then min n (gapLines - (c + dk + st + 37)) else 0
    let g : Gap :=
      { item := id, g := 0, clear := c, dark := dk, settle := st, m := m, n := n, det := s.rd (VFY_DET d),
        win := s.rd (VFY_WIN d), cls := s.rd (VFY_CLS d), darkFrom := (period + c) % 0x100000000,
        testFrom := (period + c + dk + st) % 0x100000000, replay := replay }
    let s := s.judgeLane id l (if replay then 0 else m) n
    let s := s.modVLane l fun v => { v with gap := some g }
    s.when (0 < m && !replay && !s.b (VFY_LANE_LOCAL l)) fun s =>
      s.sendCtrl l .window 2 0x144
        [s.rn (VFY_WIN d) % 0x10000000, g.darkFrom, dk % 256 + 256 * s.f (VFY_CLS_DARK_START d) + 0x80000000]

/-- The lower median of a list: the least of its values that at least half of them, rounded up, do not exceed. -/
def lowerMedian (xs : List Nat) : Nat :=
  let half := (xs.length + 1) / 2
  match xs.filter fun x => half ≤ (xs.filter (· ≤ x)).length with
  | [] => 0
  | y :: ys => ys.foldl min y

/-- Gate levels of one section from its dark samples (R475): m_s, a_s, THR. -/
def gateLevel (k madMin : Nat) (xs : List Nat) : Nat × Nat × Nat :=
  let m := lowerMedian xs
  let a := lowerMedian (xs.map fun x => if x < m then m - x else x - m)
  (m, a, min 4094 (m + (k * max a madMin + 2) / 4))

/-- The dark samples of a section. -/
def Gap.samples (g : Gap) (sec : Nat) : List Nat :=
  ((g.raws.filter fun r => r.2.1 = sec).map fun r => r.2.2).flatten

/-- Has a RAW frame come for every line and section of the dark phase? -/
def Gap.complete (g : Gap) (secs : Nat) : Bool :=
  (List.range g.dark).all fun i => (List.range secs).all fun sec =>
    g.raws.any fun r => r.1 = (g.darkFrom + i) % 0x100000000 && r.2.1 = sec

/-- The abort reason of R476; 0 where none applies. -/
def Gap.abortReason (g : Gap) (secs : Nat) : Nat :=
  let k := bits g.det.toNat 7 0
  let madMin := bits g.det.toNat 15 8
  let lv := (List.range secs).map fun sec => (g.samples sec, gateLevel k madMin (g.samples sec))
  if !g.complete secs then 1
  else if g.raws.any fun r => r.2.2.any (· = 4095) then 2
  else if lv.any fun (_, _, a, _) => bits g.det.toNat 27 16 < a then 3
  else if lv.any fun (xs, _, _, thr) => g.dark < (xs.filter fun x => thr ≤ x).length then 4
  else 0

/-- Confirmed levels of a gap come into use (R468). -/
def State.gateUse (s : State) (l : Nat) : State :=
  match (s.vlane l).gap with
  | none => s
  | some g =>
    if g.confirms < 2 || g.levels = [] then s
    else
      let s := (List.range 16).foldl (fun s sec => s.wn (VFY_LEVELS l sec) (g.levels.getD sec 0)) s
      s.modVLane l fun v => { v with gap := some { g with levels := [] } }

/-- The slot-0 SYNC of a dot period has gone: confirmed levels held aside for that line come into use together (R468). -/
def State.gateApply (s : State) (l period : Nat) : State :=
  s.when ((s.vlane l).gap.any (·.testFrom = period)) (·.gateUse l)

/-- All of a gap's level writes are answered: THR_VALID (R477), and the levels are held aside until the slot-0 SYNC of the first test line, or
come into use at once where that has passed (R468). -/
def State.gateConfirmed (s : State) (l : Nat) (g : Gap) : State :=
  let s := (s.modVLane l fun v => { v with gap := some { g with confirms := 2 } }).setB (VFY_LANE_THR_VALID l) true
  s.when (s.reached (s.f (HL_CFG_DCD l)) g.testFrom (s.slotStart l 0)) (·.gateUse l)

/-- The computation of a lane's levels (R475 to R477): an abort, or the levels sent to the bridge; for a local gate the controller holds them
aside itself (R494), with no answer to wait for (DEDUCED, log 57). -/
def State.gateCal (s : State) (l : Nat) : State :=
  match (s.vlane l).gap with
  | none => s
  | some g =>
    if g.judged then s else
    let secs := s.sections l
    let why := g.abortReason secs
    let s := s.modVLane l fun v => { v with gap := some { g with judged := true } }
    if why ≠ 0 then ((s.ev (VFY_LSTAT_CAL_ABORT l)).setF (VFY_LSTAT_ABORT_REASON l) why).raise 68 l
    else
      let ws := (List.range 16).map fun sec =>
        if sec < secs then
          let (m, _, thr) := gateLevel (bits g.det.toNat 7 0) (bits g.det.toNat 15 8) (g.samples sec)
          m + 0x10000 * thr
        else s.rn (VFY_LEVELS l sec)
      let s := s.modVLane l fun v => { v with gap := some { g with judged := true, levels := ws } }
      if s.b (VFY_LANE_LOCAL l) then s.gateConfirmed l { g with judged := true, levels := ws }
      else
        (s.sendCtrl l .levels 2 0x100 ws).sendCtrl l .apply 2 0x140 [g.testFrom]

/-- A reply to one of the two level writes (R477): both with STATUS 0 confirm the levels. -/
def State.levelReply (s : State) (l status : Nat) : State :=
  match (s.vlane l).gap with
  | none => s
  | some g =>
    if status ≠ 0 || g.levels = [] || 2 ≤ g.confirms then s
    else if g.confirms = 0 then s.modVLane l fun v => { v with gap := some { g with confirms := 1 } }
    else s.gateConfirmed l g

/-! Items leave VERIFYING (R489, R490) -/

/-- The dot period at which the gap after an item ends on a lane of a delay: that of the next item's first line (R470). -/
def Item.gapEnd (i : Item) (delay : Nat) : Nat := (i.lastLine.getD 0 + 1 + i.gap + delay) % 0x100000000

/-- Has the gap after an item ended on a lane of a delay? A stopped domain ends it. -/
def State.gapOver (s : State) (i : Item) (delay : Nat) : Bool :=
  s.f (DCD_CTRL_STATE i.dcd) = 0 || 0 ≤ lineDiff (s.rn (DCD_LINE i.dcd)) (i.gapEnd delay)

/-- The lanes a gap concerns that follows an item printed on none: those of its domain and pipelines. -/
def State.itemLanes (s : State) (i : Item) : List Nat := (s.domainLanes i.dcd).filter fun l => bitAt i.pipeMask.toNat (l / 8)

/-- May the item leave VERIFYING: on every lane it printed on, its gap is over, or its test lines all have classes? A lane
without test lines waits for its gap only where no lane has any; for an item that printed on no lane the lanes of its domain and pipelines count
(R490). -/
def State.mayLeave (s : State) (i : Item) : Bool :=
  let ls := if i.printed = [] then s.itemLanes i else i.printed
  i.stage = .verifying && i.result.isNone && (ls ≠ [] || s.gapOver i 0) &&
  ls.all fun l =>
    s.gapOver i (s.f (RAS_SKEW_DELAY l)) ||
    match i.judged.find? (·.1 = l) with
    | some (_, m, left) => (0 < m && left = 0) || (m = 0 && i.judged.any fun j => ls.contains j.1 && 0 < j.2.1)
    | none => false

/-- The verification result of an item, of the lanes it printed on (R489). Test lines the gap ended before count as not planned: it was shorter than a
full-verify gap (R38). -/
def Item.verdict (i : Item) : Nat :=
  if i.suspect then 2
  else if i.shortTest || i.invalidTest || (i.judged.any fun j => i.printed.contains j.1 && 0 < j.2.2) ||
      i.printed.any fun l => !i.judged.any (·.1 = l) then 1
  else 0

/-- Let an item leave VERIFYING if it may. Only SOLO and PRIMARY write ITEM records (Table 19.1); in STANDBY the outcome comes with
the mirrored record, and one that keeps such an outcome is DECIDED with it (R708, Table 19.4). -/
def State.judgeItem (s : State) (id : Nat) : State :=
  match s.item? id with
  | some i =>
    match i.kept with
    | some counter => s.when (i.stage = .verifying) (·.decided id counter)
    | none => if (s.role = 0 || s.role = 2) && s.mayLeave i then s.leaveVerifying id i.verdict else s
  | none => s

/-- Let every item that may leave VERIFYING leave it. -/
def State.judgeAll (s : State) : State := s.forEach (s.items.map (·.id)) fun s id => s.judgeItem id

/-! Classes and result records (R479 to R484) -/

/-- An EVENTS record as received: SHADOW, SATURATED, SECTION, DEPTH, TRANSIT (Table 11.3). -/
structure TestReport where
  index : Nat
  sec : Nat
  shadow : Bool
  saturated : Bool
  depth : Nat
  transit : Nat
deriving DecidableEq, Repr

/-- Division rounded to the nearest, halves away from 0. -/
def rdiv (a : Int) (b : Nat) : Int :=
  if b = 0 then 0
  else if 0 ≤ a then (2 * a + b) / (2 * b) else -((2 * -a + b) / (2 * b))

/-- VEL_ERR (R480), saturated to 16 bits. -/
def State.velErr (s : State) (l : Nat) (r : TestReport) : Int :=
  let t : Int := (r.transit : Int) - (s.f (VFY_VEL_OFS l) : Int)
  if !r.shadow || t ≤ 0 then 0
  else satS 16 (rdiv (1000 * ((s.f (VFY_VEL_T_REF l) : Int) - t)) t.toNat)

/-- A result record in the lane's ring, or an overflow (R482). -/
def State.resultRecord (s : State) (l : Nat) (ws : List Nat) : State :=
  let wr := s.f (VFY_RESQ_WR l)
  if 32 ≤ (wr + 64 - s.f (VFY_RESQ_RD l)) % 64 then
    (s.incSat (VFY_RESQ_OVF l) 1).raise 69 l
  else
    let s := (List.range 4).foldl (fun s i => s.wn (VFY_RING l (wr % 32 * 4 + i)) (ws.getD i 0)) s
    (s.setF (VFY_RESQ_WR l) ((wr + 1) % 64)).engEvents (32 + l) vsEngines

/-- Is a line's THR missing or its gap's levels unconfirmed (R478)? -/
def TestLine.noLevels (t : TestLine) (g : Option Gap) : Bool := t.noThr || (g.map (·.unconfirmed)).getD false

/-- Class and record one test nozzle (Table 12.3). `report` is none where its line had no frame; `bad` a mismatch. -/
def State.classify (s : State) (l : Nat) (t : TestLine) (g : Option Gap) (had bad : Bool) (n sec : Nat) (report : TestReport) :
    State :=
  let cls := (g.map (·.cls)).getD (s.rd (VFY_CLS (s.f (HL_CFG_DCD l))))
  let vel := s.velErr l report
  let c :=
    if t.inhibited then 5
    else if t.noLevels g then 6
    else if !had then 3
    else if bad then 7
    else if report.saturated then 4
    else if !report.shadow then 2
    else if report.depth < bits cls.toNat 11 0 || 10 * (bits cls.toNat 23 16 : Int) < vel.natAbs then 1
    else 0
  let parity := ((s.item? t.item).map (·.parity)).getD false
  let firedBit := bitAt (Map.get (fun _ => 0) (s.vlane l).fired n) (b2n parity)
  let (s, full) := if c = 2 then
      ((((s.ev (VFY_LSTAT_MISS l)).incSat (VFY_LCNT_MISSES l) 1).raise 64 l).addHold n)
    else (s, false)
  let s := s.when full fun s => (s.ev (VFY_LSTAT_HOLD_FULL l)).raise 66 l
  let s := s.when (c = 1) (·.incSat (VFY_LCNT_WEAKS l) 1)
  let s := s.modItem t.item fun i =>
    let counts := firedBit && i.printed.contains l
    { i with suspect := i.suspect || (c = 2 && counts), invalidTest := i.invalidTest || (3 ≤ c && counts) }
  let held := (s.holdList (n / 32768)).contains n
  s.resultRecord l
    [t.period, n + 0x40000 * sec + 0x400000 * c, report.depth % 0x10000 + 0x10000 * (report.transit % 0x10000),
     ofSigned 16 vel + 0x10000 * (b2n firedBit + 2 * b2n held + 4 * b2n full)]

/-- A test line is final (R481): every fired nozzle gets its class; the item counts the line. -/
def State.finishTest (s : State) (l : Nat) (t : TestLine) (frame : Option (List TestReport)) : State :=
  let g := (s.vlane l).gap.filter (·.item = t.item)
  let base := s.f (HL_NOZ_NBASE l)
  let rs := frame.getD []
  let bad := frame.isSome &&
    (rs.any (fun r => !t.fired.any fun f => f.1 = base + r.index && f.2 = r.sec) ||
     t.fired.any (fun f => (rs.filter fun r => base + r.index = f.1).length ≠ 1))
  let s := s.modVLane l fun v => { v with tests := v.tests.filter (· ≠ t) }
  let s := t.fired.foldl (fun s f =>
    s.classify l t g frame.isSome bad f.1 f.2
      ((rs.find? fun r => base + r.index = f.1).getD ⟨0, f.2, false, false, 0, 0⟩)) s
  let judged := !t.inhibited && !t.noLevels g && t.fired ≠ []
  let s := s.when (judged && frame.isNone) fun s => (s.ev (VFY_LSTAT_NO_REPORT l)).raise 67 l
  let s := s.when (judged && bad) fun s => (s.ev (VFY_LSTAT_MISMATCH l)).raise 71 l
  let s := s.modItem t.item fun i =>
    { i with judged := i.judged.map fun j => if j.1 = l then (j.1, j.2.1, j.2.2 - 1) else j }
  s.judgeItem t.item

/-- At a boundary, test lines 32 dot periods old become final without a frame (R481). -/
def State.testTimeouts (s : State) (l now : Nat) : State :=
  ((s.vlane l).tests.filter fun t => 32 ≤ lineDiff now t.period).foldl (fun s t => s.finishTest l t none) s

/-- At a boundary: a dark phase with frames missing aborts at the first test line, where levels not yet confirmed also spoil
the tests of the gap (R476, R478). -/
def State.gapDeadline (s : State) (l now : Nat) : State :=
  match (s.vlane l).gap with
  | some g =>
    if g.m = 0 || g.replay || lineDiff now g.testFrom ≠ 0 then s
    else
      let s := s.gateCal l
      s.modVLane l fun v => { v with gap := v.gap.map fun g => { g with unconfirmed := g.levels ≠ [] && g.confirms < 2 } }
  | none => s

/-! VERIFY frames -/

/-- The EVENTS records of a payload (Table 11.3). -/
def eventReports (bs : List Byte) : List TestReport :=
  (List.range (leAt bs 5 1)).map fun i =>
    let r := bs.drop (8 + 8 * i)
    ⟨leAt r 0 2, leAt r 2 1 % 16, bitAt (leAt r 3 1) 0, bitAt (leAt r 3 1) 1, leAt r 4 2, leAt r 6 2⟩

/-- A VERIFY EVENTS frame (R479, R481): matched with its test line, or counted as late. -/
def State.verifyEvents (s : State) (l line : Nat) (rs : List TestReport) : State :=
  match (s.vlane l).tests.find? (·.period = line) with
  | some t => s.finishTest l t (some rs)
  | none => s.ev (VFY_LSTAT_NO_REPORT l)

/-- A VERIFY RAW frame (R469, R475): one window of a section of a dark line. -/
def State.verifyRaw (s : State) (l line sec : Nat) (xs : List Nat) : State :=
  match (s.vlane l).gap with
  | none => s
  | some g =>
    if g.m = 0 || g.replay || g.judged || sec ≥ s.sections l || g.dark ≤ (lineDiff line g.darkFrom).toNat || lineDiff line g.darkFrom < 0 then s
    else
      let g := { g with raws := g.raws.filter (fun r => !(r.1 = line && r.2.1 = sec)) ++ [(line, sec, xs)] }
      let s := s.modVLane l fun v => { v with gap := some g }
      if g.complete (s.sections l) then s.gateCal l else s

/-- Is the payload a VERIFY frame in the form of Table 11.3? -/
def verifyFrameOk (bs : List Byte) : Bool :=
  let kind := leAt bs 4 1
  let count := leAt bs 5 1
  leAt bs 6 2 = 0 &&
  ((kind = 0 && 1 ≤ count && count ≤ 32 && bs.length = 8 + 8 * count) ||
   (kind = 1 && count = 1 && bs.length = 144 && leAt bs 9 1 = 0 && leAt bs 12 4 = 0))

/-- A VERIFY frame's payload; in STANDBY it is discarded (Table 19.4). -/
def State.verifyRx (s : State) (l : Nat) (bs : List Byte) : State :=
  if s.role = 3 then s
  else if leAt bs 4 1 = 0 then s.verifyEvents l (leAt bs 0 4) (eventReports bs)
  else s.verifyRaw l (leAt bs 0 4) (leAt bs 8 1) ((List.range 64).map fun i => leAt bs (16 + 2 * i) 2 % 4096)

/-- A lane's verification begins anew: THR_VALID clears (R478). -/
def State.thrClear (s : State) (l : Nat) : State := s.setB (VFY_LANE_THR_VALID l) false

end Sys2Proof.Machine
end

