-- ==== Sys2Proof/Machine/Lanes.lean ====
section
/-!
DEFINITION. Lanes.lean: head lanes (11_head_lanes.md): negotiation, leases, bridge access, and the frames and SYNC blocks of a slice.
-/

namespace Sys2Proof.Machine
open Reg Fld

/-! Negotiation (R425 to R430) -/

/-- Fire rate in Hz (Table 11.3 FIRE). -/
def State.fireHz (s : State) (l : Nat) : Nat := if s.b (HL_CFG_FIRE_RATE l) then 24000 else 48000

/-- RATE_MAX, 3 treated as 2. -/
def State.rateMax (s : State) (l : Nat) : Nat := min 2 (s.f (HL_CFG_RATE_MAX l))

/-- NPH_MAX, 5 to 7 treated as 4. -/
def State.nphMax (s : State) (l : Nat) : Nat := min 4 (s.f (HL_CFG_NPH_MAX l))

/-- Is a rate admissible for n nozzles (R427)? -/
def rateOk (n hz r : Nat) : Bool := (n + 255) / 256 * 3960 * hz * 10 ≤ 7 * (2578125000 * 2 ^ r)

/-- The CAP payload of the controller (R423 ff., Table 11.3): rate, CRC, RES, NPH and FIRE masks and CFLAGS. -/
def State.capBytes (s : State) (l : Nat) (masks : List Nat) (flags : Nat) : List Byte :=
  [1] ++ masks.map (BitVec.ofNat 8) ++ [BitVec.ofNat 8 (s.rows l), BitVec.ofNat 8 flags] ++
    leBytes 2 (s.f (HL_NOZ_COUNT l)) ++ zeros 6

/-- The controller's own masks. -/
def State.ownMasks (s : State) (l : Nat) : List Nat :=
  [2 ^ (s.rateMax l + 1) - 1, 3, 1 + 2 * b2n (s.b (HL_CFG_RES_COARSE_OK l)), 2 ^ (s.nphMax l + 1) - 1,
   if s.b (HL_CFG_FIRE_RATE l) then 1 else 2]

/-- Both directions of a lane stop: a frame in progress ends nowhere, and the receiver looks for block lock anew. -/
def State.lineStop (s : State) (l : Nat) : State := (s.dropFrame l).setRx l {}

/-- The CTRL requests of software: they stay outstanding, and end by their reply or timeout (R459), while the lane's own requests end with the
link. -/
def Lane.cxOnly (x : Lane) : List Ctrl := x.ctrl.filter fun c => c.use = .cxRead || c.use = .cxWrite

/-- Negotiation starts (R425): CAP frames at 2.578125 Gbit/s. In PARKED the lanes are powered down, and an enabled lane negotiates when PARKED
is left (R63, R443, Table 2.7). -/
def State.negStart (s : State) (l : Nat) : State :=
  let s := s.thrClear l
  if s.b SYS_PWR_CTRL_PARKED then s else
  let s := (s.setF (HL_LINK_STATE l) 1).lineStop l
  s.modLane l fun x =>
    { x with phase := .caps, startedAt := s.tb, lastCap := [], peerCap := [], capSame := 0, sel := [], ctrl := x.cxOnly }

/-- Negotiation fails (R430). -/
def State.negFail (s : State) (l : Nat) : State :=
  let s := ((s.setF (HL_LINK_STATE l) 3).lineStop l).modLane l fun x => { x with phase := .failed }
  (s.ev (HL_STAT_NEG_FAIL l)).raise 49 l

/-- The highest admissible common rate below a bound (R426, R428). -/
def State.pickRate (s : State) (l mask bound : Nat) : Option Nat :=
  ((List.range (min bound (s.rateMax l + 1))).reverse).find? fun r =>
    bitAt mask r && rateOk (s.f (HL_NOZ_COUNT l)) (s.fireHz l) r

/-- The mode the controller selects from a bridge's CAP, below a rate bound (R426): rate, and the masks of SELECT. -/
def State.pickMode (s : State) (l bound : Nat) (cap : List Byte) : Option (Nat × List Nat) :=
  let fire := if s.b (HL_CFG_FIRE_RATE l) then 1 else 2
  let crc := leAt cap 2 1
  let res := leAt cap 3 1
  let nph := ((List.range (s.nphMax l + 1)).reverse).find? fun i => bitAt (leAt cap 4 1) i
  let crcBit := if bitAt crc 1 then 2 else if bitAt crc 0 then 1 else 0
  let resBit := if bitAt res 0 then 1 else if bitAt res 1 && s.b (HL_CFG_RES_COARSE_OK l) then 2 else 0
  if leAt cap 0 1 = 0 || leAt cap 5 1 &&& fire = 0 || crcBit = 0 || resBit = 0 ||
      leAt cap 8 2 ≠ s.f (HL_NOZ_COUNT l) || leAt cap 6 1 ≠ s.rows l then none
  else match nph, s.pickRate l (leAt cap 1 1) bound with
    | some n, some r => some (r, [2 ^ r, crcBit, resBit, 2 ^ n, fire])
    | _, _ => none

/-- Select a mode, or fail (R426, R428). -/
def State.negSelect (s : State) (l bound : Nat) (cap : List Byte) : State :=
  match s.pickMode l bound cap with
  | some (r, masks) =>
    s.modLane l fun x => { x with phase := .selecting, rate := r, sel := masks.map (BitVec.ofNat 8) }
  | none => s.negFail l

/-- The position of the lowest set bit of a byte. -/
def log2Byte (b : Byte) : Nat := ((List.range 8).find? fun i => bitAt b.toNat i).getD 0

/-- Source 48 is LIVE while a lane is lost (R616). -/
def State.linkLive (s : State) : State :=
  s.when (s.b (FLT_SRC_LIVE 48) && !allLanes.any fun m => (s.lane m).lost) (·.setLive 48 false)

/-- The lane is UP in the selected mode (R428): HL_LINK, NEG_DONE, and source 48 no longer LIVE (R616). -/
def State.linkUp (s : State) (l : Nat) : State :=
  let x := s.lane l
  let sel (i : Nat) : Nat := (x.sel.getD i 0).toNat
  let slow := sel 4 = 1
  let w := 2 + 4 * x.rate + 16 * b2n (sel 1 = 2) + 32 * b2n (sel 2 = 2) + 64 * log2Byte (x.sel.getD 3 1) +
    512 * b2n slow + 65536 * (if slow then 33333 else 16666)
  let s := (s.wn (HL_LINK l) w).modLane l fun x => { x with phase := .up, lost := false }
  (s.ev (HL_STAT_NEG_DONE l)).linkLive

/-- One more half of the echo at the new rate: bit 0 sent, bit 1 received; both bring the lane UP. -/
def State.echoed (s : State) (l bit : Nat) : State :=
  let s := s.modLane l fun x => { x with capSame := x.capSame ||| bit }
  if (s.lane l).capSame = 3 then s.linkUp l else s

/-- CAP frames of the controller (R425, R428), but for their last `hold` blocks. -/
def State.capTx (s : State) (l hold : Nat) : State :=
  let x := s.lane l
  let cap (masks : List Nat) (flags : Nat) : State := s.emitHeld hold (.frame l 0x02 (s.capBytes l masks flags))
  match x.phase with
  | .caps => cap (s.ownMasks l) 0
  | .selecting => cap (x.sel.map (·.toNat)) 1
  | .echoing => (cap (x.sel.map (·.toNat)) 1).echoed l 1
  | _ => s

/-- A received frame or block is discarded and counted (R419, R421). -/
def State.badFrame (s : State) (l : Nat) : State := (s.incSat (HL_ERRCNT_FRAME_BAD l) 1).raise 50 l

/-- Is the payload a CAP in the form of Table 11.3? -/
def capOk (bs : List Byte) : Bool := bs.length = 16 && leAt bs 13 3 = 0 && leAt bs 7 1 < 16

/-- A CAP from the bridge (R426, R428, R458): the receiver has block lock. -/
def State.capRx (s : State) (l : Nat) (bs : List Byte) : State :=
  if !capOk bs then s.badFrame l else
  let x := s.lane l
  if x.phase = .off || x.phase = .failed then s else
  let s := (s.putBytes (HL_PCAP l 0) bs).setRx l { s.rx l with locked := true }
  let seen := bitAt (leAt bs 7 1) 2
  let s := s.when (seen && !bitAt (leAt x.lastCap 7 1) 2) fun s =>
    ((s.ev (HL_STAT_BRIDGE_RESET l)).raise 59 l).thrClear l
  let same := if x.lastCap = bs then x.capSame + 1 else 1
  let echo := (bs.drop 1).take 5 = x.sel
  match x.phase with
  | .caps =>
    let s := s.modLane l fun x => { x with lastCap := bs, capSame := same }
    if 3 ≤ same then (s.modLane l fun x => { x with peerCap := bs }).negSelect l 3 bs else s
  | .selecting =>
    let s := s.modLane l fun x => { x with lastCap := bs }
    if echo && bitAt (leAt bs 7 1) 1 then s.modLane l fun x => { x with phase := .switching, switchAt := s.tb } else s
  | .echoing =>
    let s := s.modLane l fun x => { x with lastCap := bs }
    if echo then s.echoed l 2 else s
  | _ => s.modLane l fun x => { x with lastCap := bs }

/-- After 10 us of electrical idle, transmission resumes at the selected rate with IDLE frames (R428). -/
def State.rateSwitch (s : State) (l : Nat) : State :=
  if (s.lane l).phase = .switching && (s.lane l).switchAt + 8000 ≤ s.tb then
    ((s.lineStop l).emit (.frame l 0x01 [])).modLane l fun x => { x with phase := .echoing, capSame := 0, switchAt := s.tb }
  else s

/-- No echo within 1 ms of the switch: back to 2.578125 Gbit/s, and the next lower admissible rate of the masks the bridge offered (R428). -/
def State.negFallback (s : State) (l : Nat) : State :=
  let x := s.lane l
  if x.phase = .echoing && x.switchAt + 800000 ≤ s.tb then (s.lineStop l).negSelect l x.rate x.peerCap else s

/-- Is the transmitter electrically idle: off, failed, or switching rate (R428, R430, R443)? -/
def NegPhase.still (p : NegPhase) : Bool := p = .off || p = .failed || p = .switching

/-- Is negotiation under way? -/
def NegPhase.busy (p : NegPhase) : Bool := p = .caps || p = .selecting || p = .switching || p = .echoing

/-- The lane is not UP 20 ms after negotiation started (R430). -/
def State.negTimeout (s : State) (l : Nat) : State :=
  let x := s.lane l
  if x.phase.busy && x.startedAt + 16000000 ≤ s.tb then s.negFail l else s

/-! Leases (R444 to R451, R703 to R705) -/

/-- The items of the slices in flight on a lane whose lines count toward them, without replay. -/
def Lane.ownItems (x : Lane) : List Nat :=
  (x.slices.filter fun c => c.kind ≠ 1 && !c.replay).filterMap (·.item)

/-- The items of the slices a lane of a running domain will not fire for lack of a lease are SPOILED with LEASE_LOST (R450). An ABORT that goes
with the loss comes after it, as it drops the slices with frames sent. -/
def State.leaseSpoils (s : State) (l : Nat) : State :=
  s.when (s.f (DCD_CTRL_STATE (s.f (HL_CFG_DCD l))) ≠ 0) fun s => s.forEach (s.lane l).ownItems fun s i => s.spoil 7 i

/-- A lane may not fire for lack of a lease: the slices in flight are not fired (R450). -/
def State.unleased (s : State) (l : Nat) : State :=
  let s := s.leaseSpoils l
  s.modLane l fun x => { x with slices := (x.slices.filter (·.framed = 0)).map fun c => { c.blanked with leased := false } }

/-- The lanes that stop firing with a lane's lease: itself, or in PRIMARY its whole bar (R703). -/
def State.leaseBar (s : State) (l : Nat) : List Nat :=
  if s.role = 2 then
    let bar := s.domainLanes (s.f (HL_CFG_DCD l))
    if bar.contains l then bar else l :: bar
  else [l]

/-- Send RELEASE after ABORT; the lane holds no lease from the ABORT on (R451). -/
def State.releaseLane (s : State) (l : Nat) : State :=
  let bar := s.leaseBar l
  let held := s.held l
  let s := (s.forEach bar fun s m => s.leaseSpoils m).abortLane l 0x13
  let s := s.when (s.laneUp l) (·.emitFree (.frame l 0x03
    ([3, BitVec.ofNat 8 s.twinId, 0, 0] ++ leBytes 4 (s.rn (HL_EPOCH l)))))
  let s := s.setF (HL_LEASE_STATE l) (if held then 3 else 0)
  let s := s.modLane l fun x => { x with leaseAt := none, lastAsk := none }
  s.forEach bar fun s m => s.unleased m

/-- Release every lane that holds a lease. -/
def State.releaseAll (s : State) : State := s.forEach allLanes fun s l => s.when (s.held l) (·.releaseLane l)

/-- Enter ISOLATED (R705). -/
def State.isolate (s : State) : State :=
  if s.role = 5 then s else
  let s := s.releaseAll
  let s := (s.setRole 5).ev TWIN_STAT_ISOLATE_EV
  s.raiseLive 115 0

/-- The lease of a lane is lost (R449): ABORT with a reason where one is still to be sent, ACQUIRE cleared, source 52; a PRIMARY
becomes ISOLATED where the peer is named, or heartbeats are lost while QW_IN[1] is high (R704). -/
def State.loseLease (s : State) (l : Nat) (abort peer : Bool) : State :=
  if !s.held l then s else
  let bar := s.leaseBar l
  let s := s.forEach bar fun s m => s.leaseSpoils m
  let s := s.when abort (·.abortLane l 0x11)
  let s := (s.setF (HL_LEASE_STATE l) 0).setB (HL_CTRL_ACQUIRE l) false
  let s := s.modLane l fun x => { x with leaseAt := none, lastAsk := none, leaseLost := true }
  let s := s.forEach bar fun s m => s.unleased m
  let s := (s.ev (HL_STAT_LEASE_LOST l)).raise 52 l
  s.when (s.role = 2 && (peer || s.b TWIN_STATE_HB_LOST && bitAt (s.f TWIN_STATE_QW_IN) 1)) (·.isolate)

/-- May this role request leases (Table 19.1)? -/
def State.mayRequest (s : State) : Bool := s.role = 0 || s.role = 2 || s.role = 4

/-- A LEASE frame of the controller, but for its last `hold` blocks. -/
def State.leaseFrame (s : State) (l op epoch hold : Nat) : State :=
  s.emitHeld hold (.frame l 0x03 ([BitVec.ofNat 8 op, BitVec.ofNat 8 s.twinId, 0, 0] ++ leBytes 4 epoch))

/-- REQUEST, every 100 us while ACQUIRE is 1 and no lease is held (R448). -/
def State.leaseRequest (s : State) (l hold : Nat) : State :=
  if s.b (HL_CTRL_ACQUIRE l) && s.laneUp l && !s.held l && s.mayRequest && s.every (s.lane l).requestAt 80000 then
    ((s.leaseFrame l 1 0 hold).setF (HL_LEASE_STATE l) 1).modLane l fun x => { x with lastAsk := some s.tb, requestAt := some s.tb }
  else s

/-- RENEW, every 500 us while the lease is held (R448); a STANDBY sends none (Table 19.4). -/
def State.leaseRenew (s : State) (l hold : Nat) : State :=
  if s.held l && s.role ≠ 3 && s.laneUp l && s.every (s.lane l).renewAt 400000 then
    (s.leaseFrame l 2 (s.rn (HL_EPOCH l)) hold).modLane l fun x => { x with lastAsk := some s.tb, renewAt := some s.tb }
  else s

/-- RENEWED: t_a is the time of the ask answered (R449). -/
def State.leaseRenewed (s : State) (l : Nat) : State :=
  let x := s.lane l
  if s.held l && x.lastAsk.isSome then s.setLane l { x with leaseAt := x.lastAsk, lastAsk := none } else s

/-- GRANT: the lease is held from now, with its EPOCH (R448); a take-up of the same cycle does not count under it (R462). The bridge clears
RESET_SEEN with the grant, so that one in a later CAP is of a new reset (R444, R458). -/
def State.leaseGranted (s : State) (l : Nat) (epoch : Word) : State :=
  let x := s.lane l
  if s.laneUp l && x.lastAsk.isSome && s.b (HL_CTRL_ACQUIRE l) then
    let s := s.setLane l { x with leaseAt := x.lastAsk, lastAsk := none, denyAt := none, leaseLost := false, lastCap := [],
                                  grantAt := if s.held l then x.grantAt else some s.tb }
    ((s.setF (HL_LEASE_STATE l) 2).wr (HL_EPOCH l) epoch).ev (HL_STAT_GRANTED l)
  else s

/-- The lease has run 1.8 ms from t_a (R449). -/
def State.leaseExpire (s : State) (l : Nat) : State :=
  match (s.lane l).leaseAt with
  | some t => if t + 1440000 ≤ s.tb then s.loseLease l true false else s
  | none => s

/-! Losing the lane (R456) and disabling it -/

/-- The lane is lost: ABORT, source 48, the lease lost, negotiation anew (R439, R449, R456). -/
def State.laneLost (s : State) (l : Nat) : State :=
  if (s.lane l).phase = .up then
    let s := s.when (s.held l) fun s => s.forEach (s.leaseBar l) fun s m => s.leaseSpoils m
    let s := s.abortLane l 0x12
    let s := (s.ev (HL_STAT_LINK_DOWN l)).raiseLive 48 l
    let s := s.modLane l fun x => { x with lost := true }
    let s := s.loseLease l false false
    let s := s.setF (HL_LEASE_STATE l) 0
    s.negStart l
  else s

/-- The lane is disabled (R439, R443): it holds no lease any more, so that what it had taken up is not fired (R450). A lane that was lost stays
so until it is UP again (R616). -/
def State.laneDisable (s : State) (l : Nat) : State :=
  let s := (s.leaseSpoils l).abortLane l 0x13
  let s := ((s.setB (HL_CTRL_ENABLE l) false).setF (HL_LINK_STATE l) 0).lineStop l
  let s := s.setF (HL_LEASE_STATE l) 0
  s.modLane l fun x => { x with phase := .off, leaseAt := none, lastAsk := none, slices := [], ctrl := x.cxOnly }

/-- The nozzle range of R415: in the lane's bank, and shared with no other enabled lane. -/
def State.rangeOk (s : State) (l : Nat) : Bool :=
  let base := s.f (HL_NOZ_NBASE l)
  let n := s.f (HL_NOZ_COUNT l)
  base / 32768 = l / 8 && 0 < base + n && (base + n - 1) / 32768 = l / 8 &&
  !allLanes.any fun m => m ≠ l && s.b (HL_CTRL_ENABLE m) &&
    (base < s.f (HL_NOZ_NBASE m) + s.f (HL_NOZ_COUNT m) && s.f (HL_NOZ_NBASE m) < base + n)

/-- The conditions of R415 beside those on the nozzle range. -/
def State.enableOk (s : State) (l : Nat) : Bool :=
  let n := s.f (HL_NOZ_COUNT l)
  n ≠ 0 && n ≤ (if s.b (HL_CFG_FIRE_RATE l) then 8192 else 4096) && s.f (DCD_CTRL_STATE (s.f (HL_CFG_DCD l))) = 0

/-- ENABLE := 1 (R415): checked, with source 54 for the nozzle range and 58 for any other condition; then rises, sense and holds start anew and
negotiation begins (R387, R391, R425, R478, R487). -/
def State.laneEnable (s : State) (l : Nat) : State :=
  let range := s.rangeOk l
  let other := s.enableOk l
  if !(range && other) then ((s.ev (HL_STAT_CFG_ERROR l)).when (!range) (·.raise 54 l)).when (!other) (·.raise 58 l)
  else
    let s := s.setB (HL_CTRL_ENABLE l) true
    let s := (List.range 16).foldl (fun s z => s.wn (FH_RISEZ l z) 0) s
    let s := s.modHead l fun h => { h with senseAt := none, drops := [] }
    (s.clearHolds (l / 8)).negStart l

/-! Bridge access (R459) -/

/-- A GO of HL_CX_CMD: one CTRL request with its OP; ignored while BUSY. An OP that Table 11.6 does not list goes out as it is (log 96). -/
def State.cxGo (s : State) (l op : Nat) : State :=
  if s.b (HL_CX_CMD_BUSY l) then s
  else
    let addr := s.rn (HL_CX_ADDR l) / 4 * 4
    let s := s.setB (HL_CX_CMD_BUSY l) true
    if op = 2 then s.sendCtrl l .cxWrite op addr [s.rn (HL_CX_WDATA l)]
    else s.sendCtrl l (if op = 1 then .cxRead else .cxWrite) op addr []

/-- A CTRL reply (R459, R477). -/
def State.ctrlReply (s : State) (l tag status : Nat) (data : Word) : State :=
  match (s.lane l).ctrl.find? (·.tag = tag) with
  | none => s
  | some c =>
    let s := s.modLane l fun x => { x with ctrl := x.ctrl.filter (· ≠ c) }
    match c.use with
    | .cxRead =>
      let s := (s.setB (HL_CX_CMD_BUSY l) false).setF (HL_CX_CMD_STATUS l) (min 3 status)
      if status = 0 then s.wr (HL_CX_RDATA l) data else s
    | .cxWrite => (s.setB (HL_CX_CMD_BUSY l) false).setF (HL_CX_CMD_STATUS l) (min 3 status)
    | .levels => s.levelReply l status
    | .apply => s.levelReply l status
    | .window => s

/-- No reply within 100 us (R459). -/
def State.ctrlTimeout (s : State) (l : Nat) : State :=
  match (s.lane l).ctrl.find? fun c => c.sentAt + 80000 ≤ s.tb with
  | none => s
  | some c =>
    let s := s.modLane l fun x => { x with ctrl := x.ctrl.filter (· ≠ c) }
    match c.use with
    | .cxRead | .cxWrite =>
      let s := (s.setB (HL_CX_CMD_BUSY l) false).setF (HL_CX_CMD_STATUS l) 4
      (s.ev (HL_STAT_CTRL_TIMEOUT l)).raise 56 l
    | _ => s

/-! FIRE and SYNC (R424, R431, R433) -/

/-- A group of 32 decisions: 14 bits each, 56 bytes (R424). -/
def groupBytes (ds : List Nat) : List Byte :=
  leBytes 56 ((List.range 32).foldl (fun w i => w + ds.getD i 0 * 2 ^ (14 * i)) 0)

/-- The FIRE payload of the frame with first decision index `first` (Table 11.3). -/
def State.firePayload (s : State) (l : Nat) (c : Slice) (first : Nat) : List Byte :=
  let n := s.f (HL_NOZ_COUNT l)
  let pre := c.energy.pre.toNat
  let ds := (c.decisions.drop first).take 256
  leBytes 4 c.period ++ leBytes 4 (s.rn (HL_EPOCH l)) ++ leBytes 2 first ++ leBytes 2 (bits pre 27 16) ++
  [BitVec.ofNat 8 (bits pre 7 0), BitVec.ofNat 8 (bits pre 15 8),
   BitVec.ofNat 8 (b2n (c.testLine && c.decisions.any (· ≠ 0)) + 2 * b2n (decide (n ≤ first + 256))), 0] ++
  ((List.range ((min 256 (n - first) + 31) / 32)).map fun g => groupBytes ((ds.drop (32 * g)).take 32)).flatten

/-- Change the slice of a dot period. -/
def State.modSlice (s : State) (l period : Nat) (g : Slice → Slice) : State :=
  s.modLane l fun x => { x with slices := x.slices.map fun c => if c.period = period then g c else c }

/-- Send the next FIRE frame of the lane's oldest slice handed over under the lease (R431), but for its last `hold` blocks, which go before
the lane's next frame or the first SYNC of the slice: a SYNC or ABORT in between stands inside the frame (R422). -/
def State.fireTx (s : State) (l hold : Nat) : State :=
  if !s.laneUp l || !s.mayFire l then s else
  match (s.lane l).slices.find? fun c => c.handed && c.leased && !c.replay && !c.framesDone with
  | none => s
  | some c =>
    let first := 256 * c.framed
    let s := s.emitHeld hold (.frame l 0x10 (s.firePayload l c first))
    s.modSlice l c.period fun c =>
      { c with framed := c.framed + 1, framesDone := decide (s.f (HL_NOZ_COUNT l) ≤ first + 256) }

/-- Send the next SYNC whose slot the domain's phase has reached, of a line whose FIRE frames have been sent (R433); a slice
whose last SYNC has gone has fired. -/
def State.syncTx (s : State) (l : Nat) : State :=
  if !s.laneUp l || !s.mayFire l then s else
  match (s.lane l).slices.find? fun c =>
      c.framesDone && s.reached (s.f (HL_CFG_DCD l)) c.period (s.slotStart l c.syncs) with
  | none => s
  | some c =>
    let s := s.when ((s.tx l).fire = some c.period) (·.finishFrame l)
    let s := s.emit (.sync l (c.period % 0x10000) c.syncs (s.rn (HL_EPOCH l) % 0x10000))
    let s := s.when (c.syncs = 0) (·.gateApply l c.period)
    if c.syncs + 1 = s.nph l then
      s.modLane l fun x => { x with slices := x.slices.filter (·.period ≠ c.period) }
    else s.modSlice l c.period fun c => { c with syncs := c.syncs + 1 }

/-! Commands -/

/-- CAP_RX (R426, R428, R458). -/
def execCapRx (l : Fin 64) (payload : List Byte) (s : State) : Host.Outcome State Fault Refusal :=
  .next (s.awake (·.capRx l payload))

/-- FIRE_TX (R431); `hold` blocks of the frame are still to go when the next command comes. -/
def execFireTx (l : Fin 64) (s : State) (hold : Nat := 0) : Host.Outcome State Fault Refusal :=
  .next (s.awake (·.fireTx l hold))

/-- SYNC_TX (R433). -/
def execSyncTx (l : Fin 64) (s : State) : Host.Outcome State Fault Refusal :=
  .next (s.awake (·.syncTx l))

/-- A lane that is UP and has nothing to send sends IDLE, but for its last `hold` blocks. -/
def State.idleTx (s : State) (l hold : Nat) : State := s.when (s.laneUp l) (·.emitHeld hold (.frame l 0x01 []))

/-- RENEWED counts only with the lane's EPOCH. -/
def State.renewedRx (s : State) (l : Nat) (epoch : Word) : State :=
  if s.rd (HL_EPOCH l) = epoch then s.leaseRenewed l else s

/-- RELEASED ends a release under way. -/
def State.releasedRx (s : State) (l : Nat) : State :=
  if s.f (HL_LEASE_STATE l) = 3 then s.setF (HL_LEASE_STATE l) 0 else s

/-- A VERIFY frame: bad where it is malformed, whatever the lane's state, else taken on a lane that is UP (R421). -/
def State.verifyFrame (s : State) (l : Nat) (payload : List Byte) : State :=
  if !verifyFrameOk payload then s.badFrame l else s.when (s.laneUp l) (·.verifyRx l payload)

/-- IDLE_TX: an IDLE frame on a lane that is UP (R442). -/
def execIdleTx (l : Fin 64) (s : State) (hold : Nat := 0) : Host.Outcome State Fault Refusal :=
  .next (s.awake (·.idleTx l hold))

/-- LEASE_REQUEST_TX (R448). -/
def execLeaseRequestTx (l : Fin 64) (s : State) (hold : Nat := 0) : Host.Outcome State Fault Refusal :=
  .next (s.awake (·.leaseRequest l hold))

/-- LEASE_RENEW_TX (R448). -/
def execLeaseRenewTx (l : Fin 64) (s : State) (hold : Nat := 0) : Host.Outcome State Fault Refusal :=
  .next (s.awake (·.leaseRenew l hold))

/-- LEASE_RENEWED_RX (R449); an answer with another EPOCH than the one held is none. -/
def execLeaseRenewedRx (l : Fin 64) (epoch : Word) (s : State) : Host.Outcome State Fault Refusal :=
  .next (s.awake (·.renewedRx l epoch))

/-- LEASE_RELEASED_RX (R451). -/
def execLeaseReleasedRx (l : Fin 64) (s : State) : Host.Outcome State Fault Refusal :=
  .next (s.awake (·.releasedRx l))

/-- LEASE_EXPIRE (R449). -/
def execLeaseExpire (l : Fin 64) (s : State) : Host.Outcome State Fault Refusal :=
  .next (s.awake (·.leaseExpire l))

/-- UPSTREAM_SILENCE (R456). -/
def execUpstreamSilence (l : Fin 64) (s : State) : Host.Outcome State Fault Refusal :=
  .next (s.awake (·.laneLost l))

/-- CTRL_REPLY_RX (R459, R477). -/
def execCtrlReplyRx (l : Fin 64) (tag status : BitVec 8) (data : Word) (s : State) : Host.Outcome State Fault Refusal :=
  .next (s.awake (·.ctrlReply l tag.toNat status.toNat data))

/-- CTRL_TIMEOUT (R459). -/
def execCtrlTimeout (l : Fin 64) (s : State) : Host.Outcome State Fault Refusal :=
  .next (s.awake (·.ctrlTimeout l))

/-- VERIFY_RX (R479): on a lane that is UP, matched or stored; a malformed frame is discarded and counted (R421). -/
def execVerifyRx (l : Fin 64) (payload : List Byte) (s : State) : Host.Outcome State Fault Refusal :=
  .next (s.awake (·.verifyFrame l payload))

end Sys2Proof.Machine
end

