-- ==== Sys2Proof/Machine/Firing.lean ====
section
/-!
DEFINITION. Firing.lean: the firing pipelines and the raster stages of a slice (10_firing_energy.md R378 to R411; 08_raster_path.md R318
to R331): sense data and limits, inhibits, substitution, widths, duty guards and the hand-over.
-/

namespace Sys2Proof.Machine
open Reg Fld

/-! Temperature, supply and inhibits -/

/-- Are a replay job's lines in the pipeline of lane l (R410)? -/
def State.replaying (s : State) (l : Nat) : Bool :=
  (s.lane l).slices.any (·.replay) ||
  s.taken.any fun t => t.pipe = l / 8 && t.dcd = s.f (HL_CFG_DCD l) &&
    ((t.item.bind s.item?).map (·.replay)).getD false

/-- The item that owns dot period P on a lane; none does before the run's START, nor on a lane that is not enabled or takes no part in the line
(R304, R306, R413, Table 6.5). -/
def State.ownerOf (s : State) (l p : Nat) : Option Item :=
  let d := s.f (HL_CFG_DCD l)
  let delay := s.f (RAS_SKEW_DELAY l)
  let line := (p + 0x100000000 - delay) % 0x100000000
  if !s.b (HL_CTRL_ENABLE l) || ((s.dom d).made : Int) + lineDiff p (s.rn (DCD_LINE d)) < 5 + (delay : Int) then none
  else s.items.find? fun i =>
    i.dcd = d && bitAt i.pipeMask.toNat (l / 8) && !i.outside.contains (line, l) &&
    match i.lineOf with
    | some f => 0 ≤ lineDiff line f && lineDiff line (i.lastLine.getD ((f + i.lines - 1) % 0x100000000)) ≤ 0
    | none => false

/-- An inhibit cause occurs on a head (R404 to R406, Table 10.4): the items of the slices taken up and of the dot period in progress are
SPOILED. -/
def State.inhibit (s : State) (h cause : Nat) : State :=
  if s.replaying h then s
  else if s.b (FH_STAT_INHIBITED h) then s.modHead h fun x => { x with clearing := false }
  else
    let d := s.f (HL_CFG_DCD h)
    let now := if s.f (DCD_CTRL_STATE d) = 0 then none else (s.ownerOf h (s.rn (DCD_LINE d))).filter fun i => !i.replay
    let ids := (s.lane h).ownItems ++ (now.map (·.id)).toList
    let s := (s.abortLane h cause).inhibitTests h
    let s := (s.ev (FH_STAT_INHIBIT_EV h)).setB (FH_STAT_INHIBITED h) true
    let s := (s.setF (FH_STAT_CAUSE h) cause).incSat (FH_CNT_INHIBITS h) 1
    let s := s.modHead h fun x => { x with clearing := false }
    let s := s.forEach ids fun s i => s.spoil 9 i
    s.raise 45 h

/-- A derate request to the head's domain (R372). -/
def State.derateReq (s : State) (h : Nat) : State := s.modDom (s.f (HL_CFG_DCD h)) fun x => { x with derate := true }

/-- The zone rise in 1/16 degree. -/
def State.rise (s : State) (h z : Nat) : Nat := s.rn (FH_RISEZ h z)

/-- The temperature limits in force: the last pair with T_SOFT < T_HARD (R144). "The last pair that met it" is taken as the last one found
good at a use; R144 does not say whether one only written counts (DESIGN CHOICE, log 96). -/
def State.tempLimits (s : State) (h : Nat) : State × Int × Int :=
  let now := (s.f (FH_TLIM_T_SOFT h), s.f (FH_TLIM_T_HARD h))
  let ok := toSigned 16 now.1 < toSigned 16 now.2
  let s := (s.pair ok (FH_TLIM h)).modHead h fun x => { x with tLim := if ok then now else x.tLim }
  (s, toSigned 16 (s.head h).tLim.1, toSigned 16 (s.head h).tLim.2)

/-- Evaluate T_PEAK over the sensed temperatures given and the zone rises (R402 to R404). -/
def State.evalTemp (s : State) (h : Nat) (ts : List Int) : State :=
  let top := ts.foldl max (ts.headD 0)
  let rises := (List.range 16).map fun z => s.rise h z / 4096
  let peak := satS 16 (top + (rises.foldl max 0 : Nat))
  let s := s.setF (FH_TEMP_T_PEAK h) (ofSigned 16 peak)
  if s.replaying h then s
  else
    let (s, soft, hard) := s.tempLimits h
    let s := s.when (soft ≤ peak) fun s => ((s.ev (FH_STAT_T_SOFT h)).raise 47 h).derateReq h
    s.when (hard ≤ peak) (·.inhibit h 1)

/-- The sensed temperatures a head last reported, as held in FH_SENSE. -/
def State.sensed (s : State) (h n : Nat) : List Int :=
  (List.range n).map fun i => toSigned 16 (bits (s.rn (FH_SENSE h (i / 2))) (16 * (i % 2) + 15) (16 * (i % 2)))

/-- The sense points as written: NSP and the columns. -/
def State.sensePoints (s : State) (h : Nat) : List Nat :=
  (List.range (s.f (FH_SPCFG_NSP_M1 h) + 1)).map fun i =>
    bits (s.rn (FH_SPPOS h (i / 2))) (16 * (i % 2) + 15) (16 * (i % 2))

/-- Strictly ascending. -/
def ascending : List Nat → Bool
  | a :: b :: r => decide (a < b) && ascending (b :: r)
  | _ => true

/-- Slopes between sense points (R386). -/
def slopesOf : List Nat → List Int → List Int
  | p :: q :: ps, a :: b :: ts => tdiv ((b - a) * 65536) ((q : Int) - p) :: slopesOf (q :: ps) (b :: ts)
  | _, _ => []

/-- The supply window in force: the last pair with V_LO at most V_HI (R144). -/
def State.supplyWin (s : State) (h : Nat) : State × Nat × Nat :=
  let now := (s.f (FH_VWIN_V_LO h), s.f (FH_VWIN_V_HI h))
  let ok := now.1 ≤ now.2
  let s := (s.pair ok (FH_VWIN h)).modHead h fun x => { x with vWin := if ok then now else x.vWin }
  (s, (s.head h).vWin)

/-- The supply measurement of a SENSE (R390). -/
def State.supplySense (s : State) (h vm : Nat) : State :=
  let s := s.setF (FH_TEMP_V_MEAS h) vm
  if s.replaying h then s else
  let (s, lo, hi) := s.supplyWin h
  if vm = 0 || vm < lo || hi < vm then s.inhibit h 3
  else
    let v := s.f (FH_VNOM_V_NOM h)
    s.setF (FH_KV_KV h) (min 65535 ((v * v * 16384 + vm * vm / 2) / (vm * vm)))

/-- Lines lost on a lane from dot period a to b (R455). -/
def State.dataLost (s : State) (l a b : Nat) : State :=
  let n := (max 0 (lineDiff b a)).toNat
  let ps := (List.range (min (n + 1) 0x1000000)).map fun i => (a + i) % 0x100000000
  let s := ps.foldl (fun s p =>
    match s.ownerOf l p with
    | some i => if i.replay then s else s.spoil 8 i.id
    | none => s) s
  ((s.ev (HL_STAT_DATA_LOST l)).incSat (HL_ERRCNT_LINES_LOST l) ps.length).raise 57 l

/-- Is the payload a SENSE in the form of Table 11.3? An NSP of another value than the lane's is R457's case. -/
def senseOk (bs : List Byte) : Bool :=
  let n := leAt bs 6 1
  bs.length = 40 && leAt bs 7 1 < 16 && allZero (bs.drop (8 + 2 * n))

/-- A SENSE frame (R386, R390, R402, R455, R457). -/
def State.senseRx (s : State) (l : Nat) (bs : List Byte) : State :=
  let n := leAt bs 6 1
  let line := leAt bs 0 4
  let flags := leAt bs 7 1
  if n ≠ s.f (FH_SPCFG_NSP_M1 l) + 1 then (s.ev (HL_STAT_SENSE_ERROR l)).raise 55 l
  else
    let d := s.f (HL_CFG_DCD l)
    let prev := (s.lane l).lastSense
    let upto := if line = 0xFFFFFFFF then s.rn (DCD_LINE d) else line
    let s := s.when (bitAt flags 1) (·.dataLost l (if prev = 0xFFFFFFFF then (s.dom d).start else prev) upto)
    let s := s.when (bitAt flags 0 && !bitAt flags 1) fun s =>
      if line = 0xFFFFFFFF then (s.ev (HL_STAT_DATA_LOST l)).raise 57 l else s.dataLost l line line
    let s := s.when (line ≠ 0xFFFFFFFF) fun s => s.modLane l fun x => { x with lastSense := line }
    let s := s.putBytes (FH_SENSE l 0) (slice bs 8 32)
    let pts := s.sensePoints l
    let ok := ascending pts
    let s := (s.pair ok (FH_SPCFG l)).modHead l fun x => { x with points := if ok then pts else x.points }
    let pts := (s.head l).points
    let ts := s.sensed l pts.length
    let s := s.modHead l fun x => { x with ts := ts, slopes := slopesOf pts ts, senseAt := some s.tb, heard := n }
    let s := s.supplySense l (leAt bs 4 2)
    s.evalTemp l (s.sensed l n)

/-- Rise updates of one head (R387), then its evaluation (R402). -/
def State.riseHead (s : State) (h : Nat) : State :=
  let k := s.f (FH_RISE_K_RISE h)
  let tau := min 20 (s.f (FH_RISE_TAU_SH h))
  let drops := (s.head h).drops
  let s := (List.range 16).foldl (fun s z =>
    let r : Int := (s.rise h z : Int)
    let d : Int := (Map.get (fun _ => 0) drops z : Nat)
    let r' := r + asr ((k : Int) * d - r) tau
    s.wn (FH_RISEZ h z) (max 0 (min r' 0xFFFFFFFF)).toNat) s
  let s := s.modHead h fun x => { x with drops := [] }
  s.evalTemp h (s.sensed h (s.head h).heard)

/-- Does the active set of a head meet the third condition of R393 for its lane's fire period (R394)? PRE_GAP counts as 0 without a pre-pulse
(R392). -/
def State.burstFits (s : State) (h preW preGap wMax dropGap : Nat) : Bool :=
  3 * (preW + (if preW = 0 then 0 else preGap) + wMax) + 2 * dropGap + 80 ≤ s.firePeriod h

/-- R394 of the active set. -/
def State.activeFits (s : State) (h : Nat) : Bool :=
  let x := s.head h
  s.burstFits h (bits x.pre.toNat 7 0) (bits x.pre.toNat 15 8) (bits x.wLim.toNat 27 16) (bits x.pre.toNat 27 16)

/-- CLR_INHIBIT written 1 (R407, R408); not evaluated while a replay job's lines are in the pipelines (R410). -/
def State.clrInhibit (s : State) (h : Nat) : State :=
  if s.replaying h then s else
  let (s, soft, _) := s.tempLimits h
  let (s, lo, hi) := s.supplyWin h
  let x := s.head h
  let F := s.firePeriod h
  let fresh := match x.senseAt with
    | some t => decide (s.tb - t ≤ max 1 (s.f (FH_RISE_SENSE_TMO h)) * F)
    | none => false
  let vm := s.f (FH_TEMP_V_MEAS h)
  if !s.b (FH_CTRL_FORCE_INHIBIT h) && decide (toSigned 16 (s.f (FH_TEMP_T_PEAK h)) < soft) && fresh && vm ≠ 0 &&
      lo ≤ vm && vm ≤ hi && s.activeFits h then
    s.when (s.b (FH_STAT_INHIBITED h)) fun s => s.modHead h fun x => { x with clearing := true }
  else s.ev (FH_STAT_CFG_ERROR h)

/-! The shadow group of a head (R393, R744) -/

/-- Do the shadow registers meet R393? -/
def State.fhShadowOk (s : State) (h : Nat) : Bool :=
  let mn := s.f (FH_WLIM_W_MIN h)
  let mx := s.f (FH_WLIM_W_MAX h)
  1 ≤ mn && mn ≤ mx &&
  s.burstFits h (s.f (FH_PRE_PRE_W h)) (s.f (FH_PRE_PRE_GAP h)) mx (s.f (FH_PRE_DROP_GAP h))

/-- CFG_ERROR of a refused ARM. -/
def State.fhCfgError (s : State) (h : Nat) : State := (s.ev (FH_STAT_CFG_ERROR h)).raise 46 h

/-- A shadow group's control register at `ctl` counts a commit (R139): ARM and PENDING clear, COMMIT_SEQ rises. -/
def State.committed (s : State) (ctl : Nat) : State :=
  let w := (s.rd ctl).toNat
  s.wn ctl ((bits w 15 8 + 1) % 256 * 256)

/-- A group is no longer armed; PENDING and COMMIT_SEQ stay (R140, R141). -/
def State.disarm (s : State) (ctl : Nat) : State := s.setB ⟨ctl, 0, 0⟩ false

/-- A boundary of a head's group (R139, R393). -/
def State.fhCommit (s : State) (h : Nat) : State :=
  if !s.b (FH_SHCTL_ARM h) then s
  else if s.fhShadowOk h then
    (s.modHead h fun x => { x with wBase := s.rd (FH_WBASE h), wLim := s.rd (FH_WLIM h), pre := s.rd (FH_PRE h) }).committed
      (FH_SHCTL h)
  else (s.disarm (FH_SHCTL h)).fhCfgError h

/-- A boundary of a domain is the boundary of each of its heads' groups, an enabled lane's or not (Table 4.5). -/
def State.fhCommits (s : State) (d : Nat) : State :=
  s.forEach (allLanes.filter fun h => s.f (HL_CFG_DCD h) = d) fun s h => s.fhCommit h

/-! Take-up (R383, R391, R394, R401, R404 to R408) -/

/-- The firing checks of a take-up for dot period p: SENSE_LOST and CONFIG causes, a clear in force at a FIRST line, the leak
of the head budget but during replay (R410). -/
def State.headTakeUp (s : State) (h p : Nat) (first : Bool) : State :=
  let x := s.head h
  let F := s.firePeriod h
  let stale := match x.senseAt with
    | some t => decide (max 1 (s.f (FH_RISE_SENSE_TMO h)) * F < s.tb - t)
    | none => true
  let s := s.when stale (·.inhibit h 2)
  let s := s.when (!s.activeFits h) (·.inhibit h 5)
  let s := s.when ((s.head h).clearing && first) fun s =>
    (s.setB (FH_STAT_INHIBITED h) false).modHead h fun x => { x with clearing := false }
  let b := s.f (FH_BUDGET_BUDGET h)
  let w := max 16 (s.f (FH_BWIN_HB_WIN h))
  s.when (!s.replaying h) fun s => s.wn (FH_BUCKET h) (s.rn (FH_BUCKET h) - ((p + 1) * b / w - p * b / w))

/-- What the width equation will use for a slice taken up now (R383). -/
def State.energyOf (s : State) (h : Nat) : Energy :=
  let x := s.head h
  { wBase := x.wBase, wLim := x.wLim, pre := x.pre, ktcfg := s.rd (FH_KTCFG h), kv := s.f (FH_KV_KV h),
    points := x.points, ts := x.ts, slopes := x.slopes, rises := (List.range 16).map fun z => s.rise h z
    scan := if s.b (CAL_SCAN_EN h) then some (max 1 (s.f (CAL_SCAN_SCAN_W h))) else none }

/-! Widths (R384 to R389) -/

/-- Interpolated temperature between sense points (R386): the last point at or below c, with its slope. -/
def interp (c : Int) : List Nat → List Int → List Int → Int
  | p :: q :: ps, t :: ts, m :: ms =>
    if c < (q : Int) then t + asr (m * (c - p) + 32768) 16 else interp c (q :: ps) ts ms
  | _, t :: _, _ => t
  | _, _, _ => 0

/-- The temperature of column c (R386). -/
def Energy.temp (e : Energy) (cols c : Nat) : Int :=
  let ti := if c ≤ e.points.headD 0 then e.ts.headD 0 else interp c e.points e.ts e.slopes
  satS 16 (ti + ((e.rises.getD (c * 16 / max 1 cols) 0 / 4096 : Nat) : Int))

/-- An entry of a head's temperature curve (R389). -/
def State.curve (s : State) (bank h j : Nat) : Nat :=
  ofLe (s.readMem (barBase + 0xB00000 + (bank * 64 + h) * 0x80 + 2 * j) 2)

/-- kt at temperature t (R388). -/
def State.kt (s : State) (e : Energy) (h : Nat) (t : Int) : Int :=
  let w := e.ktcfg.toNat
  let sh := min 8 (bits w 19 16)
  let bank := bits w 20 20
  let x := t - toSigned 16 (bits w 15 0)
  if x < 0 then s.curve bank h 0
  else
    let j := (x / (2 ^ sh : Nat)).toNat
    let f := x % ((2 ^ sh : Nat) : Int)
    if 63 ≤ j then s.curve bank h 63
    else
      let e0 : Int := s.curve bank h j
      let dk := (s.curve bank h (j + 1) : Int) - e0
      if sh = 0 then e0 else e0 + asr (dk * f + (2 ^ (sh - 1) : Nat)) sh

/-- The decision word of decision j with drop count d, with the TRIM its entry had at take-up (R312, R384, R385, R607); a test fire takes SCAN_W
where that is enabled (R604). -/
def State.decision (s : State) (l : Nat) (c : Slice) (j d : Nat) : Nat :=
  if d = 0 then 0
  else
    let e := c.energy
    let cols := s.cols l
    let trim := toSigned 10 (Map.get (fun _ => 0) c.trims j)
    let kt := s.kt e l (e.temp cols (if cols = 0 then 0 else j % cols))
    let p := (bits e.wBase.toNat 15 0 : Int) * (1024 + trim) * kt * (e.kv : Int)
    let w := (asr (p + 0x20000000000) 42).toNat
    let wmin := bits e.wLim.toNat 11 0
    let wmax := bits e.wLim.toNat 27 16
    (if c.testLine then e.scan.getD (min (max w wmin) wmax) else min (max w wmin) wmax) + 4096 * d

/-! Levels of a slice (R298, R318 to R331) -/

/-- The stored level of column c (R298, Table 8.1). -/
def State.storedLevel (s : State) (c : Slice) (col : Nat) : Nat :=
  match c.stream with
  | none => 0
  | some n =>
    if s.b (RAS_STREAM_BPP n) then bits (leAt c.data (col / 4) 1) (2 * (col % 4) + 1) (2 * (col % 4))
    else if bitAt (leAt c.data (col / 8) 1) (col % 8) then s.f (RAS_STREAM_ONE_LEVEL n) else 0

/-- Does the seam keep overlap column c of width w and identifier i on line L: t < w for the left lane (R319, R320)? -/
def seamLeft (line c w i : Nat) : Bool :=
  let h := (line * 40503 + c * 21845 + i * 4093) % 65536
  decide ((h / 256) ^^^ (h % 256) < 256 * (w - c) / (w + 1))

/-- Does the lane keep column c after stitching (R318, R320)? -/
def State.stitchKeeps (s : State) (l line c : Nat) : Bool :=
  let wl := s.f (RAS_STITCH_WIDTH_L l)
  let wr := s.f (RAS_STITCH_WIDTH_R l)
  let n := s.cols l
  (!(decide (c < wl)) || !seamLeft line c wl (s.f (RAS_STITCH_ID_L l))) &&
  (!(decide (n - wr ≤ c)) || seamLeft line (c - (n - wr)) wr (s.f (RAS_STITCH_ID_R l)))

/-- The Mica entry of column c (R322, R323). -/
def State.mica (s : State) (l : Nat) (c : Slice) (col : Nat) : Nat :=
  let x := (col + s.f (RAS_GEOM_X_OFF l)) % 256
  let y := (c.rline + s.f (RAS_GEOM_Y_OFF l)) % 256
  let w := ofLe (s.readMem (barBase + 0xA00000 + c.mask * 0x4000 + y * 0x40 + x / 16 * 4) 4)
  bits w (2 * (x % 16) + 1) (2 * (x % 16))

/-- The row that fires column c (R324). -/
def State.rowOfCol (s : State) (l : Nat) (c : Slice) (col : Nat) : Nat :=
  if c.pass.isSome then 0 else s.mica l c col % s.rows l

/-- The level of column c after stitching and masking (R318 to R325). -/
def State.level (s : State) (l : Nat) (c : Slice) (col : Nat) : Nat :=
  let v := s.storedLevel c col
  if v = 0 || !s.stitchKeeps l c.line col then 0
  else match c.pass with
    | some (p, passes) => if s.mica l c col % passes = p then v else 0
    | none => v

/-- Has an entry bad parity, or a STATE of 5 to 7 (R381)? -/
def entryBad (e : Nat) : Bool := onesBelow e 64 % 2 = 1 || 5 ≤ bits e 12 10

/-- The duty pair in force: the last with DUTY_N at most DUTY_WIN (R144). -/
def State.dutyPair (s : State) (h : Nat) : Nat × Nat := (s.head h).duty

/-- The leak of the element guard for dot period p (R396). -/
def State.dutyLeak (s : State) (h p : Nat) : Nat :=
  let (n, w) := s.dutyPair h
  let w := max 1 w
  (p + 1) * n / w - p * n / w

/-- The element bucket of decision j before it fires (R396). -/
def State.bucketOf (s : State) (l : Nat) (c : Slice) (j : Nat) : Nat :=
  bits (s.nozzle (s.f (HL_NOZ_NBASE l) + j)) 41 32 - s.dutyLeak l c.period

/-- How a nozzle is tried (R379, R381, R397, R483): usable, guarded, or not usable. -/
inductive Tried where
  | usable | guarded | no
deriving DecidableEq, Repr

/-- The result of trying decision j. In replay the event stream's entries stand in for the holds (R677). -/
def State.tryNozzle (s : State) (l : Nat) (c : Slice) (j : Nat) : Tried :=
  let n := s.f (HL_NOZ_NBASE l) + j
  let e := s.nozzle n
  if entryBad e || 2 ≤ bits e 12 10 || (!c.replay && s.heldAt n c.bcount) then .no
  else if s.b (FH_DUTY_GUARD_EN l) && (s.dutyPair l).1 ≤ s.bucketOf l c j then .guarded
  else .usable

/-- Try decision j: note its entry error and a refusal by the guard. -/
def State.trial (s : State) (l : Nat) (c : Slice) (j : Nat) (x : Dots × Bool) : Dots × Bool × Bool :=
  let bad := entryBad (s.nozzle (s.f (HL_NOZ_NBASE l) + j))
  let t := s.tryNozzle l c j
  ({ x.1 with errors := if bad then x.1.errors ++ [j] else x.1.errors }, x.2 || t = .guarded, t = .usable)

/-- Steps 2 and 3 of R327 for the other rows of a column, in order. -/
def State.tryRows (s : State) (l : Nat) (c : Slice) (col k : Nat) : List Nat → Dots × Bool → Dots × Bool × Option Nat
  | [], x => (x.1, x.2, none)
  | i :: is, x =>
    let j := (k + i) % s.rows l * s.cols l + col
    let (d, g, ok) := s.trial l c j x
    if ok then ({ d with rowfall := d.rowfall + 1 }, g, some j) else s.tryRows l c col k is (d, g)

/-- Choose what fires the dot of a column with a level (R327 to R331, R397). -/
def State.placeDot (s : State) (l : Nat) (c : Slice) (x : Dots) (col v : Nat) : Dots :=
  let k := s.rowOfCol l c col
  let j := k * s.cols l + col
  let put (d : Dots) (g : Bool) (j : Nat) : Dots :=
    { d with fire := Map.set (fun _ => 0) d.fire j (Map.get (fun _ => 0) d.fire j + v)
             chosen := Map.insert col (some j) d.chosen
             suppressed := d.suppressed + b2n g }
  let (d, g, ok) := s.trial l c j (x, false)
  if ok then put d g j else
  let base := s.f (HL_NOZ_NBASE l)
  let e := s.nozzle (base + j)
  let sub := bits e 30 13
  let wants := bitAt e 31
  let inside := base ≤ sub && sub < base + s.f (HL_NOZ_COUNT l) && sub ≠ base + j
  let d := if wants && !inside then { d with badSubst := d.badSubst + 1 } else d
  let (d, g, viaSub) := if wants && inside then s.trial l c (sub - base) (d, g) else (d, g, false)
  if viaSub then put { d with redirect := d.redirect + 1 } g (sub - base) else
  let (d, g, row) := s.tryRows l c col k ((List.range (s.rows l)).drop 1) (d, g)
  match row with
  | some j => put d g j
  | none =>
    let d := { d with chosen := Map.insert col none d.chosen, suppressed := d.suppressed + b2n g }
    if s.b (RAS_GEOM_SPLIT_EN l) then
      let nb := (if 0 < col then [col - 1] else []) ++ (if col + 1 < s.cols l then [col + 1] else [])
      { d with split := d.split + 1, raises := d.raises ++ nb }
    else { d with lost := d.lost + 1 }

/-- A raise by a split lands on a column (R329, R330, R398). One on a column whose own dot was split has no chosen nozzle and is lost, as on
a lost dot (DESIGN CHOICE, log 96). -/
def State.placeRaise (s : State) (l : Nat) (c : Slice) (x : Dots) (col : Nat) : Dots :=
  let add (d : Dots) (j : Nat) : Dots := { d with fire := Map.set (fun _ => 0) d.fire j (Map.get (fun _ => 0) d.fire j + 1) }
  match x.chosen.find? (·.1 = col) with
  | some (_, some j) => add x j
  | some (_, none) => { x with lost := x.lost + 1 }
  | none =>
    let j := s.rowOfCol l c col * s.cols l + col
    let (d, g, ok) := s.trial l c j (x, false)
    if ok then add d j else { d with lost := d.lost + 1, suppressed := d.suppressed + b2n g }

/-- The dots of a slice. -/
def State.dots (s : State) (l : Nat) (c : Slice) : Dots :=
  let d := (List.range (s.cols l)).foldl (fun d col =>
    let v := s.level l c col
    if v = 0 then d else s.placeDot l c d col v) {}
  d.raises.foldl (fun d col => s.placeRaise l c d col) d

/-! Hand-over (R311, R331, R387, R396, R399, R401, R488, R683) -/

/-- An entry error read by the substitution stage (R381). -/
def State.entryError (s : State) (n : Nat) : State :=
  let e := s.nozzle n
  let s := s.when (onesBelow e 64 % 2 = 1) (·.ev FIR_NZERR_PARITY)
  let s := s.when (5 ≤ bits e 12 10) (·.ev FIR_NZERR_STATE_BAD)
  (s.setF FIR_NZERR_INDEX n).raise 32 0

/-- The item is DEGRADED by lost dots (R331, R491). -/
def State.degraded (s : State) (id lost : Nat) : State :=
  match s.item? id with
  | none => s
  | some i =>
    let pol := s.f (VFY_DCFG_DEGR_POLICY i.dcd)
    let spoils := match pol with
      | 0 => i.regulated
      | 2 => s.fuses.regulated && i.regulated
      | _ => true
    s.modItem id fun i => { s.cause 10 spoils i with lost := i.lost + lost }

/-- DUTY_COUNT write-back of decision j (R382, R396): bits 41:32 and PARITY of the entry as it stands. -/
def State.dutyBack (s : State) (l : Nat) (c : Slice) (j : Nat) (fires : Bool) : State :=
  let n := s.f (HL_NOZ_NBASE l) + j
  let e := s.nozzle n
  if entryBad e then s
  else
    let b := min 1023 (s.bucketOf l c j + b2n fires)
    if b = bits e 41 32 then s
    else s.writeMem (nozzleAddr n) (leBytes 8 (withParity (e - bits e 41 32 * 0x100000000 + b * 0x100000000)))

/-- Count the drops handed to a lane per zone for the rise model (R387). -/
def State.countDrops (s : State) (l : Nat) (fire : List (Nat × Nat)) : State :=
  let cols := max 1 (s.cols l)
  s.modHead l fun h =>
    { h with drops := fire.foldl (fun m x =>
        let z := x.1 % cols * 16 / cols
        Map.set (fun _ => 0) m z (Map.get (fun _ => 0) m z + x.2)) h.drops }

/-- Count the ink of a slice's drops for the supply (R683). -/
def State.countInk (s : State) (l : Nat) (fire : List (Nat × Nat)) : State :=
  let sum := fire.foldl (fun n x => n + x.2) 0
  let ch := s.f (SUP_LANE_CHANNEL l)
  s.when (s.b (SUP_CFG_EN ch)) fun s =>
    s.wr64 (SUP_ACC_LO ch) (s.rd64 (SUP_ACC_LO ch) + sum * s.f (SUP_LANE_VOL l))

/-- The effects of a PRINT slice's dots beside its decisions: counts, entry errors, lost dots, fired bits. -/
def State.dotEffects (s : State) (l : Nat) (c : Slice) (d : Dots) : State :=
  let base := s.f (HL_NOZ_NBASE l)
  let s := (s.incSat (RAS_SUBCNT_A_REDIRECT l) d.redirect).incSat (RAS_SUBCNT_A_ROWFALL l) d.rowfall
  let s := (s.incSat (RAS_SUBCNT_B_SPLIT l) d.split).incSat (RAS_SUBCNT_B_LOST l) d.lost
  let s := s.incSat (FH_CNT_SUPPRESSED l) d.suppressed
  let s := d.errors.foldl (fun s j => s.entryError (base + j)) s
  let s := (List.range d.badSubst).foldl (fun s _ => s.raise 38 l) s
  match c.item with
  | none => s
  | some id =>
    let s := s.when (0 < d.lost) fun s => (List.range d.lost).foldl (fun s _ => s.raise 37 l) (s.degraded id d.lost)
    let par := b2n (((s.item? id).map (·.parity)).getD false)
    s.modVLane l fun v =>
      { v with fired := d.fire.foldl (fun m x =>
          Map.set (fun _ => 0) m (base + x.1) (Map.get (fun _ => 0) m (base + x.1) ||| 2 ^ par)) v.fired }

/-- The pair condition of FH_DUTY at its use (R144). -/
def State.checkDuty (s : State) (h : Nat) : State :=
  let now := (s.f (FH_DUTY_DUTY_N h), s.f (FH_DUTY_DUTY_WIN h))
  let ok := now.1 ≤ now.2
  (s.pair ok (FH_DUTY h)).modHead h fun x => { x with duty := if ok then now else x.duty }

/-- What a slice's dots become, and the drop count of each decision that fires. -/
def State.sliceFire (s : State) (l : Nat) (c : Slice) : Dots × List (Nat × Nat) :=
  let d : Dots := if c.blank || c.kind ≠ 0 then {} else s.dots l c
  let drops := let n := s.f (VFY_DCFG_TEST_DROPS (s.f (HL_CFG_DCD l))); if n = 0 then 1 else n
  (d, if c.blank then []
    else if c.kind = 1 then c.test.foldl (fun m t => Map.set (fun _ => 0) m t.1 drops) []
    else d.fire.map fun x => (x.1, min 3 x.2))

/-- A slice with what the nozzle table makes of it as it stands at take-up (R312; the choice of that table is log 102's). -/
def State.placed (s : State) (l : Nat) (c : Slice) : Slice :=
  let (d, fire) := s.sliceFire l c
  { c with dots := d, fire := fire, trims := fire.map fun x => (x.1, s.nozzle (s.f (HL_NOZ_NBASE l) + x.1) % 1024) }

/-- The head budget at a take-up: the leak made, the slice's drops are added and the limit is checked, but during replay (R401, R410). -/
def State.budgetAdd (s : State) (l : Nat) (c : Slice) : State :=
  s.when (!s.replaying l) fun s =>
    let sum := c.fire.foldl (fun n x => n + x.2) 0
    let s := s.wn (FH_BUCKET l) (min 0xFFFFFFFF (s.rn (FH_BUCKET l) + sum))
    s.when (s.f (FH_BUDGET_BUDGET l) < s.rn (FH_BUCKET l)) fun s => ((s.ev (FH_STAT_BUDGET l)).raise 47 l).derateReq l

/-- Hand a slice over: its dots or test fires, the decisions, the guards' write-back, and the counts. -/
def State.handSlice (s : State) (l : Nat) (c : Slice) : State :=
  let (d, fire) : Dots × List (Nat × Nat) := if c.blank then ({}, []) else (c.dots, c.fire)
  let n := s.f (HL_NOZ_COUNT l)
  let dec := if fire = [] then [] else
    (List.range n).map fun j => s.decision l c j (Map.get (fun _ => 0) fire j)
  let s := s.modSlice l c.period fun c => { c with handed := true, decisions := dec }
  let s := s.dotEffects l c d
  let s := (List.range n).foldl (fun s j => s.dutyBack l c j (fire.any (·.1 = j))) s
  (s.countDrops l fire).when (c.leased && !c.replay) (·.countInk l fire)

/-- Hand over the lane's oldest slice that waits for it. -/
def State.handover (s : State) (l : Nat) : State :=
  match (s.lane l).slices.find? fun c => !c.handed with
  | some c => s.handSlice l c
  | none => s

/-! Commands -/

/-- SLICE_HANDOVER (R311). -/
def execSliceHandover (l : Fin 64) (s : State) : Host.Outcome State Fault Refusal :=
  .next (s.awake (·.handover l))

/-- A SENSE frame: bad where it is malformed, whatever the lane's state, else taken on a lane that is UP (R421). -/
def State.senseFrame (s : State) (l : Nat) (payload : List Byte) : State :=
  if !senseOk payload then s.badFrame l else s.when (s.laneUp l) (·.senseRx l payload)

/-- The rise update of every head, 16,384 ticks after the one before (R387). -/
def State.riseAll (s : State) : State :=
  if s.every s.riseAt 16384 then ({ s with riseAt := some s.tb }).forEach allLanes fun s h => s.riseHead h else s

/-- SENSE_RX (R386, R390, R402, R455, R457), on a lane that is UP; a malformed frame is discarded and counted (R421). -/
def execSenseRx (l : Fin 64) (payload : List Byte) (s : State) : Host.Outcome State Fault Refusal :=
  .next (s.awake (·.senseFrame l payload))

/-- RISE_UPDATE (R387): every head, every 16,384 ticks. -/
def execRiseUpdate (s : State) : Host.Outcome State Fault Refusal :=
  .next (s.awake (·.riseAll))

end Sys2Proof.Machine
end

