-- ==== Sys2Proof/Machine/CalSwap.lean ====
section
/-!
DEFINITION. CalSwap.lean: what follows a swap of a calibration set, and the NOZZLE sets that a line boundary finds due (16_calibration.md R606
to R608).
-/

namespace Sys2Proof.Machine
open Reg Fld

/-! Triggers (R608, R609) -/

/-- The mean of a head's sensed temperatures, truncated. -/
def State.headMean (s : State) (h : Nat) : Int :=
  let n := s.f (FH_SPCFG_NSP_M1 h) + 1
  tdiv ((s.sensed h n).foldl (· + ·) 0) (n : Int)

/-- The trigger temperature of a set (Table 16.1). -/
def State.setTemp (s : State) (set : Nat) : Int :=
  if set / 256 = 3 then s.headMean (set % 256) else toSigned 16 (s.f CAL_DIETEMP_T)

/-- What follows a swap: T_LAST and DUE of the triggers that name the set; event 2 or SWAPPED; the set is no longer armed. -/
def State.swapped (s : State) (x : CalArm) : State :=
  let s := { s with cal := { s.cal with armed := s.cal.armed.filter (·.set ≠ x.set) } }
  let s := s.forEach (List.range 16) fun s k =>
    if s.b (CAL_TRIG_EN k) && s.f (CAL_TRIG_SET k) = x.set then
      (s.setF (CAL_TLAST_T_LAST k) (ofSigned 16 (s.setTemp x.set))).wr CAL_DUE (putBits (s.rd CAL_DUE) k k 0)
    else s
  match x.engine with
  | some e => s.engEvents 2 (if e = 14 then [14, 15] else [e])
  | none => s.ev CAL_STAT_SWAPPED

/-! NOZZLE sets (R606, R607) -/

/-- Write the trims of a NOZZLE set, in entry order (R606). -/
def State.nzSetWrite (s : State) : State :=
  s.forEach (List.range (s.f CAL_NZCFG_COUNT)) fun s e =>
    let n := s.f (CAL_NZBUF_NOZZLE e)
    s.writeNozzle n (s.nozzle n / 1024 * 1024 + s.f (CAL_NZBUF_TRIM e))

/-- A boundary of a domain finds the NOZZLE sets of its lanes written whose boundary B has passed: a set is finished before boundary B + 1
(R606), so that every slice taken up from there has the new trims (R607). -/
def State.nzSetsDone (s : State) (d : Nat) : State :=
  (s.cal.armed.filter fun x => x.set / 256 = 3 && s.f (HL_CFG_DCD (x.set % 256)) = d && x.since < (s.dom d).bcount).foldl
    (fun s x => s.nzSetWrite.swapped x) s

end Sys2Proof.Machine
end

