-- ==== Sys2Proof/Machine/Memc.lean ====
section
/-!
DEFINITION. Memc.lean: the device memory controller and the memory windows: installed DDR, ECC and poisoned beats, scrub, training,
and accesses to device addresses of Table 7.3 (07_host_dma.md R289 to R294, R98; 04_register_model.md R104, R107 to R110).
-/

namespace Sys2Proof.Machine
open Reg Fld

/-! Installed DDR (R290, R291) -/

/-- Bytes of a DDR channel that its training has brought into use. -/
def State.ddrCap (s : State) (m : Nat) : Nat :=
  if s.f (MEMC_CH_STAT_TRAIN_STATE m) = 2 then s.f (MEMC_CH_STAT_CAPACITY m) * 0x100000 else 0

/-- Installed DDR in bytes. -/
def State.installed (s : State) : Nat := s.ddrCap 0 + s.ddrCap 1

/-- Have both channels passed training (R97, R100)? -/
def State.ddrTrained (s : State) : Bool := s.f (MEMC_CH_STAT_TRAIN_STATE 0) = 2 && s.f (MEMC_CH_STAT_TRAIN_STATE 1) = 2

/-- The channel that holds a DDR address (R291). "Identical" is judged by the registers as they stand (DESIGN CHOICE, log 106). -/
def State.ddrChan (s : State) (a : Nat) : Nat :=
  if s.ddrTrained && s.rd (MEMC_CH_CFG 0) = s.rd (MEMC_CH_CFG 1) then a / 4096 % 2
  else if a < s.ddrCap 0 then 0 else 1

/-! ECC (R292, R293) -/

/-- An error at a DDR address: status as one event, address, count, and source 13 or 14. -/
def State.eccError (s : State) (uncorrectable byScrub : Bool) (a : Nat) : State :=
  let m := s.ddrChan a
  let bits := (if uncorrectable then [1] else [0]) ++ (if byScrub then [2] else [])
  let s := s.wr (MEMC_ECC_STAT m) (sqEvent (s.rd (MEMC_ECC_STAT m)) bits)
  let s := s.wr64 (MEMC_ECC_ADDR_LO m) a
  let s := s.incSat (if uncorrectable then MEMC_ECC_CNT_UE m else MEMC_ECC_CNT_CE m) 1
  s.raise (if uncorrectable then 14 else 13) m

/-- The beats of a list that `n` bytes of DDR from `a` meet. -/
def beatsIn (bs : List Nat) (a n : Nat) : List Nat :=
  if n = 0 then [] else bs.filter fun b => a / 4 ≤ b && b ≤ (a + n - 1) / 4

/-- The poisoned beats that `n` bytes of DDR from `a` meet. -/
def State.badBeats (s : State) (a n : Nat) : List Nat := beatsIn s.poison a n

/-- Correct the single-bit error of a beat, in the data and in memory (R292). -/
def State.eccCorrect (s : State) (byScrub : Bool) (b : Nat) : State :=
  ({ s with soft := s.soft.filter (· ≠ b) }).eccError false byScrub (4 * b)

/-- A read of DDR corrects the single-bit errors it meets; each poisoned beat is an uncorrectable error (R292, R293). -/
def State.eccRead (s : State) (a n : Nat) : State :=
  let s := s.forEach (beatsIn s.soft a n) fun s b => s.eccCorrect false b
  s.forEach (s.badBeats a n) fun s b => s.eccError true false (4 * b)

/-- Write DDR. A beat wholly covered is good again; one covered in part is read first: a single-bit error is corrected, a poisoned beat
stays poisoned, an uncorrectable error (R292, R293). -/
def State.ddrWrite (s : State) (a : Nat) (bs : List Byte) : State :=
  let whole (b : Nat) : Bool := a ≤ 4 * b && 4 * b + 4 ≤ a + bs.length
  let s := { s with poison := s.poison.filter fun b => !(whole b), soft := s.soft.filter fun b => !(whole b) }
  (s.eccRead a bs.length).writeMem a bs

/-- Bit errors that have come about in beats of the DDR: `x.2` says that more than one bit of the beat is wrong (R292, R293). A beat that
is not installed holds none. -/
def State.upset (s : State) (xs : List (Nat × Bool)) : State :=
  (xs.filter fun x => 4 * x.1 < s.installed).foldl (fun s x =>
    if s.poison.contains x.1 then s
    else if x.2 then { s with poison := x.1 :: s.poison, soft := s.soft.filter (· ≠ x.1) }
    else if s.soft.contains x.1 then s
    else { s with soft := x.1 :: s.soft }) s

/-! Memory windows of BAR0 -/

/-- Is a BAR0 offset in a memory window and mapped (R104)? -/
def windowMapped (o : Nat) : Bool :=
  (0x400000 ≤ o && o < 0x800000 && o % 0x40000 < 0x30000) || (0x800000 ≤ o && o < 0xB04000)

/-- Is a BAR0 offset in the range of the memory windows? -/
def windowRange (o : Nat) : Bool := 0x400000 ≤ o && o < 0xC00000

/-- Are all of `n` offsets from `o` mapped? The parts of the windows are runs, so their ends and steps decide. -/
def windowAll (o n : Nat) : Bool := (List.range n).all fun i => windowMapped (o + i)

/-- An offset in SPE1's memories stands for SPE0's: the pair's reads return one copy, writes go to both (R746). -/
def pairOffset (o : Nat) : Nat := if 0x7C0000 ≤ o && o < 0x800000 then o - 0x40000 else o

/-- Does a range of offsets touch an IMEM page locked as signed (R110)? -/
def State.signedHit (s : State) (o n : Nat) : Option Nat :=
  ((List.range n).find? fun i =>
    let p := pairOffset (o + i)
    windowRange p && p < 0x800000 && p % 0x40000 < 0x10000 &&
      bitAt (s.f (ENG_SIGPAGES_LOCKED ((p - 0x400000) / 0x40000))) (p % 0x40000 / 4096)).map
    fun i => (pairOffset (o + i) - 0x400000) / 0x40000

/-- Bytes read from a window: SPE0's copy for the pair, 0 where unmapped. -/
def State.winRead (s : State) (o n : Nat) : List Byte :=
  (List.range n).map fun i => if windowMapped (o + i) then s.byte (barBase + pairOffset (o + i)) else 0

/-- Bytes written to a window's memory, to both copies of the pair (R746). -/
def State.winStore (s : State) (o : Nat) (bs : List Byte) : State :=
  let p := pairOffset o
  let s := s.writeMem (barBase + p) bs
  if 0x780000 ≤ p && p < 0x7C0000 then s.writeMem (barBase + p + 0x40000) bs else s

/-- Nozzle-table entries written one after another (R109). -/
def State.nozzleWrites (s : State) (o : Nat) : List Byte → State
  | b0 :: b1 :: b2 :: b3 :: b4 :: b5 :: b6 :: b7 :: rest =>
    (s.writeNozzle ((o - 0x800000) / 8) (ofLe [b0, b1, b2, b3, b4, b5, b6, b7])).nozzleWrites (o + 8) rest
  | _ => s

/-- May a DMA transfer name this device range (R254, R255)? -/
def State.deviceOk (s : State) (write : Bool) (a n : Nat) : Bool :=
  if a < barBase then a + n ≤ s.installed
  else
    let o := a - barBase
    o + n ≤ 0xC00000 && windowRange o && windowAll o n &&
    (!write || ((s.signedHit o n).isNone &&
      (o + n ≤ 0x800000 || 0xA00000 ≤ o || (o % 8 = 0 && 0x800000 ≤ o && min (o + n) 0xA00000 % 8 = 0))))

/-- Bytes at a device address (Table 7.3). -/
def State.deviceRead (s : State) (a n : Nat) : List Byte :=
  if a < barBase then s.readMem a n else s.winRead (a - barBase) n

/-- Write bytes at a device address; nozzle entries as whole entries, and what goes on past the table as the Mica masks. -/
def State.deviceWrite (s : State) (a : Nat) (bs : List Byte) : State :=
  if a < barBase then s.ddrWrite a bs
  else
    let o := a - barBase
    if 0x800000 ≤ o && o < 0xA00000 then
      (s.nozzleWrites o (bs.take (0xA00000 - o))).winStore 0xA00000 (bs.drop (0xA00000 - o))
    else s.winStore o bs

/-- Does a write at a device address meet a page locked as signed, and in whose memory (R110, R255)? -/
def State.lockedPage (s : State) (a n : Nat) : Option Nat :=
  if a < barBase then none else s.signedHit (a - barBase) n

/-! Training and scrub -/

/-- A write of MEMC_CH_CFG[m] with TRAIN = 1: training starts unless it runs (R98), or boot has failed and the pins stay as they are (R81). -/
def State.ddrTrain (s : State) (m : Nat) : State :=
  if s.f (MEMC_CH_STAT_TRAIN_STATE m) = 1 || s.bootFailed then s
  else ((s.setF (MEMC_CH_STAT_TRAIN_STATE m) 1).setF (MEMC_CH_STAT_FAIL_STEP m) 0).setF (MEMC_CH_STAT_CAPACITY m) 0

/-- Training ends: passed with its capacity, or failed at a step with source 12; a capacity above 16 GiB fails at step 7. -/
def State.trainDone (s : State) (m : Nat) (pass : Bool) (step cap : Nat) : State :=
  if s.f (MEMC_CH_STAT_TRAIN_STATE m) ≠ 1 then s
  else if pass && cap ≤ 16384 then
    (s.setF (MEMC_CH_STAT_TRAIN_STATE m) 2).setF (MEMC_CH_STAT_CAPACITY m) cap
  else
    ((s.setF (MEMC_CH_STAT_TRAIN_STATE m) 3).setF (MEMC_CH_STAT_FAIL_STEP m) (if pass then 7 else step)).raise 12 m

/-- A scrub step reads one beat: `err` is 0 where nothing has come about in it, 1 a single-bit error, 2 a double-bit error. It corrects a
single-bit error, and records and leaves an uncorrectable one (R294). -/
def State.scrubStep (s : State) (a err : Nat) : State :=
  if !s.b MEMC_SCRUB_EN || s.installed ≤ a then s
  else
    let b := a / 4
    let s := s.when (err ≠ 0) (·.upset [(b, decide (err = 2))])
    if s.poison.contains b then s.eccError true true (4 * b)
    else if s.soft.contains b then s.eccCorrect true b
    else s

/-! Commands -/

/-- TRAIN_DONE (R98, R290). -/
def execTrainDone (m : Fin 2) (pass : Bool) (failStep : BitVec 8) (capacity : BitVec 16) (s : State) :
    Host.Outcome State Fault Refusal :=
  .next (s.awake (·.trainDone m pass failStep.toNat capacity.toNat))

/-- SCRUB_STEP (R294). -/
def execScrubStep (addr : Nat) (err : Fin 3) (s : State) : Host.Outcome State Fault Refusal :=
  .next (s.awake (·.scrubStep addr err))

end Sys2Proof.Machine
end

