-- ==== Sys2Proof/Machine/Ring.lean ====
section
/-!
DEFINITION. Ring.lean: the device rings of DMA channels and their pacing (07_host_dma.md R265 to R271).
-/

namespace Sys2Proof.Machine
open Reg Fld

/-- Counts wrap at 2^31. -/
def countMod : Nat := 0x80000000

/-- CH_CFG as it is in force: a reset of the function clears the register and leaves the ring as it is (R75, R281). -/
def State.chCfg (s : State) (c : Nat) : Word := (s.dma c).keptCfg.getD (s.rd (CH_CFG c))

/-- Is the channel D2H (R253)? -/
def State.chD2h (s : State) (c : Nat) : Bool := bitAt (s.chCfg c).toNat 0

/-- Is the channel in ring mode (R265)? -/
def State.chRingEn (s : State) (c : Nat) : Bool := bitAt (s.chCfg c).toNat 1

/-- Ring size of a DMA channel in bytes. -/
def State.chSize (s : State) (c : Nat) : Nat := 2 ^ bits (s.chCfg c).toNat 6 2

/-- Device address of a channel's ring. -/
def State.chRing (s : State) (c : Nat) : Nat := (s.dma c).keptRing.getD (s.rd64 (CH_RING_LO c))

/-- The fill of a ring. -/
def State.chFill (s : State) (c : Nat) : Nat :=
  (s.f (CH_PROD_COUNT c) + countMod - s.f (CH_CONS_COUNT c)) % countMod

/-- `n` bytes of a ring from a count on. -/
def State.ringBytes (s : State) (c count n : Nat) : List Byte :=
  (List.range n).map fun i => s.byte (s.chRing c + (count + i) % s.chSize c)

/-- The address runs of `n` ring bytes from a count: two where they wrap. -/
def State.ringRuns (s : State) (c count n : Nat) : List (Nat × Nat) :=
  let o := count % s.chSize c
  let first := min n (s.chSize c - o)
  (s.chRing c + o, first) :: if first < n then [(s.chRing c, n - first)] else []

/-- Ring bytes are read from DDR, with the errors that this meets. -/
def State.ringEcc (s : State) (c count n : Nat) : State :=
  (s.ringRuns c count n).foldl (fun s r => s.eccRead r.1 r.2) s

/-- Write bytes into a ring from a count on. -/
def State.ringWrite (s : State) (c count : Nat) (bs : List Byte) : State :=
  let o := count % s.chSize c
  let first := s.chSize c - o
  (s.ddrWrite (s.chRing c + o) (bs.take first)).ddrWrite (s.chRing c) (bs.drop first)

/-- The reserved fill: bytes in the ring and bytes asked for and not yet written (R270). Bytes written out of order beyond CH_PROD count
too (DESIGN CHOICE, log 106). -/
def State.chReserved (s : State) (c : Nat) : Nat :=
  ((s.dma c).tail + countMod - s.f (CH_CONS_COUNT c)) % countMod

/-- The watermarks in force, in bytes: the last pair with LOW_WM < HIGH_WM (R144). -/
def State.chMarks (s : State) (c : Nat) : State × Nat × Nat :=
  let now := (s.f (CH_WM_LOW_WM c), s.f (CH_WM_HIGH_WM c))
  let ok := now.1 < now.2
  let s := (s.pair ok (CH_WM c)).modDma c fun m => { m with wm := if ok then now else m.wm }
  (s, (s.dma c).wm.1 * s.chSize c / 256, (s.dma c).wm.2 * s.chSize c / 256)

/-- Bytes a data request holds in the reorder buffer until they are passed; a request that has failed holds none (R274, R276). -/
def DataReq.held (r : DataReq) : Nat := if r.st = .lost then 0 else r.len

/-- Bytes a channel has reserved in the reorder buffer, those of a descriptor fetch among them (R275). -/
def Dma.held (m : Dma) : Nat :=
  (m.descs.flatMap fun d => d.reqs.map DataReq.held).foldl (· + ·) (if m.fetching then 32 else 0)

/-- STATE and CH_INFLIGHT follow the channel (R257, R275, R286). A channel that a reset or link loss ends runs until all has ended. -/
def State.showChannel (s : State) (c : Nat) : State :=
  let m := s.dma c
  let st :=
    if !m.active then (if m.failed then 5 else 0)
    else if m.stop = .reset then 1
    else if !s.b PCIE_LINK_STAT_BME then 4
    else if m.waitDesc then 3
    else if m.paused then 2
    else 1
  ((s.setF (CH_STAT_STATE c) st).setF (CH_INFLIGHT_DESC c) m.descs.length).setF (CH_INFLIGHT_RB_KIB c) (m.held / 1024)

/-- Pacing of a running ring channel (R270, R271). -/
def State.paceChannel (s : State) (c : Nat) : State :=
  if !((s.dma c).active && s.chRingEn c) then s.showChannel c
  else
    let (s, lo, hi) := s.chMarks c
    let m := s.dma c
    let fill := s.chFill c
    let m : Dma :=
      if s.chD2h c then
        let idle := if m.flush then decide (fill = 0) else decide (fill ≤ lo)
        { m with paused := if idle then true else if hi ≤ fill then false else m.paused
                 flush := m.flush && fill ≠ 0 }
      else
        { m with paused := if hi ≤ s.chReserved c then true else if fill ≤ lo then false else m.paused }
    (s.setDma c m).showChannel c

end Sys2Proof.Machine
end

