-- ==== Sys2Proof/Machine/Requests.lean ====
section
/-!
DEFINITION. Requests.lean: what waits for the link: descriptors and their next requests, job intake's reads, the reorder buffer and the
tags, and the turns of the read and the write engine (07_host_dma.md R233, R257, R270 to R278; 06_jobs_ordering.md R198 to R201, R228).
-/

namespace Sys2Proof.Machine
open Reg Fld

/-! Errors of the link (R242) -/

/-- Reset values of the words of configuration space that software writes: Relaxed Ordering and No Snoop enabled, Target Link Speed 16.0
GT/s (log 4). -/
def cfgReset (off : Nat) : Word := if off = 0x78 then 0x0810 else if off = 0xA0 then 4 else 0

/-- A word of configuration space that software writes, as it is held. -/
def Pcie.cfgAt (p : Pcie) (off : Nat) : Nat := (Map.get cfgReset p.cfg off).toNat

/-- Reset values of the AER registers: the default severities, advisory non-fatal errors masked (log 4). -/
def aerReset (off : Nat) : Word := if off = 0x10C then 0x00462030 else if off = 0x114 then 0x2000 else 0

/-- A register of the AER capability at its configuration offset. -/
def Pcie.aerAt (p : Pcie) (off : Nat) : Nat := (Map.get aerReset p.aer off).toNat

/-- Put one. -/
def Pcie.setAer (p : Pcie) (off v : Nat) : Pcie := { p with aer := Map.set aerReset p.aer off (BitVec.ofNat 32 v) }

/-- An uncorrectable error of AER: its status bit is set, with that of Device Status, and unless it is masked a message of its severity goes out where
Device Control or SERR# Enable lets it (log 4). -/
def State.aerError (s : State) (b : Nat) : State :=
  let p := s.pcie
  let sev := 1 + b2n (bitAt (p.aerAt 0x10C) b)
  let s := { s with pcie := (p.setAer 0x104 (p.aerAt 0x104 ||| 2 ^ b)).setAer 0x78 (p.aerAt 0x78 ||| 2 ^ (16 + sev)) }
  let on := bitAt (p.cfgAt 0x78) sev || bitAt (p.cfgAt 0x04) 8
  s.when (!bitAt (p.aerAt 0x108) b && on && s.b PCIE_LINK_STAT_LINK_UP) (·.emit (.pcieError sev))

/-- The AER error of an event of PCIE_ERR_STAT: a completion timeout, a poisoned TLP, an unexpected completion, a malformed TLP. -/
def aerBit (bit : Nat) : Option Nat :=
  if bit = 1 then some 14 else if bit = 3 then some 12 else if bit = 4 then some 16 else if bit = 5 then some 18 else none

/-- A link-level event of PCIE_ERR_STAT; UR_CA, POISONED and MALFORMED raise source 17, besides what AER reports (R242). -/
def State.pcieEvent (s : State) (bit : Nat) : State :=
  let s := s.wr PCIE_ERR_STAT (sqEvent (s.rd PCIE_ERR_STAT) [bit])
  let s := match aerBit bit with
    | some b => s.aerError b
    | none => s
  s.when (bit = 2 || bit = 3 || bit = 5) (·.raise 17 0)

/-! Descriptor fields (Table 7.4) -/

/-- HOST_ADDR. -/
def Desc.host (d : Desc) : Nat := leAt d.bytes 0 8
/-- NEXT. -/
def Desc.next (d : Desc) : Nat := leAt d.bytes 8 8
/-- DEV_ADDR. -/
def Desc.dev (d : Desc) : Nat := leAt d.bytes 16 8
/-- LEN_CTRL. -/
def Desc.lenCtrl (d : Desc) : Nat := leAt d.bytes 24 4
/-- LENGTH. -/
def Desc.len (d : Desc) : Nat := bits d.lenCtrl 23 0
/-- SWAP. -/
def Desc.swap (d : Desc) : Nat := bits d.lenCtrl 25 24
/-- FENCE. -/
def Desc.fence (d : Desc) : Bool := bitAt d.lenCtrl 26
/-- IRQ. -/
def Desc.irq (d : Desc) : Bool := bitAt d.lenCtrl 27
/-- LAST. -/
def Desc.last (d : Desc) : Bool := bitAt d.lenCtrl 28
/-- The attributes of its data requests: RO and NS (R236). -/
def Desc.attr (d : Desc) : Attr := { ro := bitAt d.lenCtrl 30, ns := bitAt d.lenCtrl 29 }

/-- The unit SWAP works in (R272). -/
def swapUnit (m : Nat) : Nat := if m = 0 then 1 else if m = 1 then 2 else 4

/-- Is the data of a descriptor all moved, with nothing outstanding? -/
def Desc.whole (d : Desc) : Bool := d.err = 0 && d.reqs.isEmpty && d.asked = d.len && d.moved = d.len && d.begun

/-- Does the channel move data into a ring (R281)? -/
def State.fillsRing (s : State) (c : Nat) : Bool := s.chRingEn c && !s.chD2h c

/-- May the descriptor end: all moved (R277), or BAD with its requests back and its ring span filled (R280, R281)? -/
def Desc.ended (ring : Bool) (d : Desc) : Bool :=
  d.whole || (d.err ≠ 0 && d.reqs.isEmpty && (!ring || d.span.isNone && d.err ≠ 5 || d.filled = d.len))

/-- The oldest descriptor that may end. -/
def State.endable (s : State) (c : Nat) : Option (Nat × Desc) :=
  ((List.range (s.dma c).descs.length).zip (s.dma c).descs).find? fun x => x.2.ended (s.fillsRing c)

/-- Has the descriptor something left to ask for, or of its span to fill? -/
def Desc.needs (ring : Bool) (d : Desc) : Bool :=
  if d.err = 0 then !(d.begun) || d.asked < d.len
  else if ring && (d.err = 5 || d.span.isSome) then d.span.isNone || d.filled < d.len
  else false

/-- The descriptor whose turn it is: the first that needs something, no FENCE between (R278). -/
def turnOf (ring : Bool) : Nat → List Desc → Option (Nat × Desc)
  | _, [] => none
  | i, d :: ds =>
    if d.fence && i > 0 then none
    else if d.needs ring then some (i, d)
    else if d.fence then none
    else turnOf ring (i + 1) ds

/-! Job intake (R198 to R201, R228) -/

/-- Intake state of a queue. -/
def State.intakeOf (s : State) (k : Nat) : Intake := Map.get (fun _ => .idle) s.intake k

/-- Put a queue's intake state. -/
def State.setIntake (s : State) (k : Nat) (v : Intake) : State :=
  { s with intake := Map.set (fun _ => Intake.idle) s.intake k v }

/-- Size of the job ring in descriptors. -/
def State.ringSize (s : State) (k : Nat) : Nat := 2 ^ s.f (JQ_CTRL_RING_LOG2 k)

/-- Slots of the inbox; INBOX_LOG2 above 6 is refused at ENABLE (R194). -/
def State.inboxSlots (s : State) (k : Nat) : Nat := 2 ^ s.f (JQ_CTRL_INBOX_LOG2 k)

/-- The slot of the job at HEAD. -/
def State.headSlot (s : State) (k : Nat) : Nat := s.f (JQ_HEAD_HEAD k) % s.inboxSlots k

/-- Is this slot of the inbox free (R199, R208)? -/
def State.slotFree (s : State) (k slot : Nat) : Bool := (s.job? k slot).isNone

/-- The host address of the descriptor at HEAD. -/
def State.descAddr (s : State) (k : Nat) : Nat :=
  s.rd64 (JQ_RING_LO k) + s.f (JQ_HEAD_HEAD k) % s.ringSize k * 64

/-- Has a queue a job to take in: work at HEAD and its slot free (R199 step 1)? -/
def State.hasWork (s : State) (k : Nat) : Bool :=
  s.b (JQ_CTRL_ENABLE k) && s.intakeOf k = .idle && s.f (JQ_TAIL_TAIL k) ≠ s.f (JQ_HEAD_HEAD k) && s.slotFree k (s.headSlot k)

/-- May a job go on that waits for item-table room (R199 step 3)? -/
def State.roomCame (s : State) (k : Nat) : Bool :=
  match s.intakeOf k with
  | .waitRoom d => s.items.length + leAt d 6 2 ≤ 1024
  | _ => false

/-- Where an intake reads on, the bytes asked for there, those that have come, and the bytes in all: of the item array, or of a replay
job's event stream, which is read 64 bytes at a time. -/
def Intake.reads : Intake → Option (Nat × Nat × Nat × Nat)
  | .readItems d asked got => some (leAt d 0x10 8, asked, got.length, 32 * leAt d 6 2)
  | .readStream d _ asked got => some (leAt d 0x18 8, asked, got.length, got.length + 64)
  | _ => none

/-- Bytes an intake has reserved in the reorder buffer, and its requests in flight (R233, R274). -/
def State.intakeHeld (s : State) (k : Nat) : Nat × Nat :=
  match s.intakeOf k with
  | .readDesc => (64, 1)
  | i => match i.reads with
    | some (a, asked, got, _) => (asked - got, (splitReq s.pcie.maxRead (asked - got) (a + got) (asked - got)).length)
    | none => (0, 0)

/-- The next piece of an intake's read: its address and length, no piece longer than a read request or across 4 KiB (R234). -/
def State.intakePiece (s : State) (k : Nat) : Option (Nat × Nat) :=
  match (s.intakeOf k).reads with
  | some (a, asked, _, all) =>
    if asked < all then some (a + asked, min (all - asked) (min (max 1 s.pcie.maxRead) (4096 - (a + asked) % 4096))) else none
  | none => none

/-! Reservations (R233, R274, R275) -/

/-- Bytes reserved by every requester. -/
def State.rbHeld (s : State) : Nat :=
  (List.range 8).foldl (fun n k => n + (s.intakeHeld k).1) ((List.range 32).foldl (fun n c => n + (s.dma c).held) 0)

/-- Non-posted requests in flight of a channel: its fetch, and its reads that have not come back. -/
def State.chTags (s : State) (c : Nat) : Nat :=
  let m := s.dma c
  b2n m.fetching + if s.chD2h c then 0 else ((m.descs.flatMap (·.reqs)).filter (·.st = .wait)).length

/-- Non-posted requests in flight. -/
def State.tagsUsed (s : State) : Nat :=
  (List.range 8).foldl (fun n k => n + (s.intakeHeld k).2) ((List.range 32).foldl (fun n c => n + s.chTags c) 0)

/-- The limit of R233: every tag of the width in use, and 256 at most. -/
def State.tagLimit (s : State) : Nat := min 256 (2 ^ s.tagBits)

/-- Does a read of `n` bytes fit the reorder buffer and the tags (R233, R274)? -/
def State.readFits (s : State) (n : Nat) : Bool := s.rbHeld + n ≤ 262144 && s.tagsUsed < s.tagLimit

/-- Does a reservation of `n` bytes fit the channel's quota (R275)? -/
def State.quotaFits (s : State) (c n : Nat) : Bool := (s.dma c).held + n ≤ s.f (CH_CFG_RB_QUOTA c) * 4096

/-! What is ready (R257, R270 to R275) -/

/-- May the channel fetch its next descriptor (R257, R258, R261)? -/
def State.fetchReady (s : State) (c : Nat) : Bool :=
  let m := s.dma c
  m.active && !m.fetching && m.stop = .none && !m.waitDesc && m.descs.length < 8 && s.quotaFits c 32 && s.readFits 32

/-- The bytes a channel's next data request would ask for; 0 where it may ask for none now. -/
def State.nextRequest (s : State) (c : Nat) : Nat :=
  let m := s.dma c
  let ring := s.chRingEn c
  let d2h := s.chD2h c
  if !m.active || !s.canSend || m.stop = .abort || m.stop = .reset || (ring && m.paused) then 0
  else match turnOf (s.fillsRing c) 0 m.descs with
    | some (_, d) =>
      if d.err ≠ 0 || !d.begun then 0
      else
        let host := d.host + d.asked
        let most := min (d.len - d.asked) (min (max 1 (if d2h then s.pcie.maxPayload else s.pcie.maxRead)) (4096 - host % 4096))
        let start := d.span.getD m.tail
        let u := swapUnit d.swap
        let there := (s.f (CH_PROD_COUNT c) + countMod - start % countMod) % countMod / u * u - d.asked
        let n := if ring && d2h then min most there else most
        let room := d2h || !ring || s.chReserved c + n ≤ s.chSize c
        if room && s.quotaFits c n && (if d2h then s.rbHeld + n ≤ 262144 else s.readFits n) then n else 0
    | none => 0

/-- Has the channel anything for its engine to do: a write-back, a fetch or a data request? -/
def State.chReady (s : State) (c : Nat) : Bool :=
  (s.dma c).active && s.canSend && ((s.endable c).isSome || s.fetchReady c || s.nextRequest c ≠ 0)

/-- Has job intake a read to issue: the descriptor of a job to take in, or the next piece of an item array or event stream? -/
def State.intakeReady (s : State) : Bool :=
  s.canSend && (List.range 8).any fun k =>
    if s.hasWork k then s.readFits 64
    else match s.intakePiece k with
      | some (_, n) => s.readFits n
      | none => false

/-! Turns (R273) -/

/-- Which engine serves a participant, 0 reading and 1 writing, and at what priority. The channels are 0 to 31; 32 is job intake, of the
read engine at priority 3. -/
def State.serverOf (s : State) (p : Nat) : Nat × Nat :=
  if p = 32 then (0, 3) else (b2n (s.chD2h p), s.f (CH_CFG_PRIO p))

/-- Has this participant a request ready? -/
def State.partReady (s : State) (p : Nat) : Bool := if p = 32 then s.intakeReady else s.chReady p

/-- Whose turn it is at an engine: of the highest priority with a request ready, the next round-robin after the one served last. -/
def State.turn (s : State) (e : Nat) : Option Nat :=
  let ready := (List.range 33).filter fun p => s.partReady p && (s.serverOf p).1 = e
  [3, 2, 1, 0].findSome? fun prio =>
    let last := Map.get (fun _ => 32) s.dmaTurn (4 * e + prio)
    ((List.range 33).map fun i => (last + 1 + i) % 33).find? fun p => ready.contains p && (s.serverOf p).2 = prio

/-- Is it this participant's turn? -/
def State.isTurn (s : State) (p : Nat) : Bool := s.turn (s.serverOf p).1 = some p

/-- A participant has been served. -/
def State.served (s : State) (p : Nat) : State :=
  let x := s.serverOf p
  { s with dmaTurn := Map.set (fun _ => 32) s.dmaTurn (4 * x.1 + x.2) p }

/-- An intake's next piece has been asked for. -/
def Intake.ask (n : Nat) : Intake → Intake
  | .readItems d asked got => .readItems d (asked + n) got
  | .readStream d its asked got => .readStream d its (asked + n) got
  | i => i

/-- The requests that no command issues go out while it is their turn: a channel's descriptor fetch, and the pieces of item arrays and event
streams; `n` requests at most. -/
def State.arbitrate : Nat → State → State
  | 0, s => s
  | n + 1, s =>
    let fetch := ((List.range 2).filterMap s.turn).find? fun p => p < 32 && s.fetchReady p
    match fetch with
    | some c =>
      arbitrate n ((((s.modDma c fun m => { m with fetching := true }).hostRead (s.dma c).next 32).served c).showChannel c)
    | none =>
      if s.isTurn 32 then
        match (List.range 8).findSome? fun k => (s.intakePiece k).map fun x => (k, x) with
        | some (k, a, len) => if s.readFits len then
            arbitrate n (((s.setIntake k ((s.intakeOf k).ask len)).hostRead a len).served 32) else s
        | none => s
      else s

end Sys2Proof.Machine
end

