-- ==== Sys2Proof/Machine/Jobs.lean ====
section
/-!
DEFINITION. Jobs.lean: job queues, intake, completion records and aborts (06_jobs_ordering.md R191 to R226, R748).
-/

namespace Sys2Proof.Machine
open Reg Fld

/-! Queues -/

/-- DRAINED: ENABLE is 0, no intake is in progress and no job of the queue is open (R195). -/
def State.drain (s : State) (k : Nat) : State :=
  s.setB (JQ_CTRL_DRAINED k)
    (!s.b (JQ_CTRL_ENABLE k) && s.intakeOf k = .idle && !s.jobs.any (·.queue = k))

/-- Size of the completion ring in records. -/
def State.cqSize (s : State) (k : Nat) : Nat := 2 ^ s.f (JQ_CTRL_CQ_LOG2 k)

/-- Difference of free-running 16-bit indices. -/
def idxDiff (a b : Nat) : Nat := (a + 65536 - b % 65536) % 65536

/-! Completion records (R207 to R215) -/

/-- STATUS of a job's record (Table 6.6). -/
def Job.status (j : Job) : Nat :=
  if j.refuse ≠ 0 then 2 else if j.aborted then 1 else if j.replay then 3 else 0

/-- The 32-byte completion record (Table 6.6). -/
def Job.record (j : Job) (phase : Bool) (tb : Nat) : List Byte :=
  leBytes 4 j.tag.toNat ++
  [BitVec.ofNat 8 j.status, BitVec.ofNat 8 (j.queue + 128 * b2n phase), BitVec.ofNat 8 j.refuse, 0] ++
  leBytes 2 j.accepted ++ leBytes 2 j.spoiled ++ leBytes 2 j.suspect ++ leBytes 2 j.partialCount ++
  leBytes 8 j.ledgerFirst ++ leBytes 8 tb

/-- The entries of a replay job's event stream for lines still to come outlive the job (R228). -/
def State.keepTail (s : State) (j : Job) : State :=
  s.when (j.replay && j.refuse = 0 && !j.aborted && j.replayEvents ≠ []) fun s =>
    s.modDom j.dcd fun x => { x with replayTail := x.replayTail ++ j.replayEvents }

/-- Free the slot once its record is written and JQ_DONE accepted (R208). -/
def State.freeSlot (s : State) (k slot : Nat) : State :=
  match s.job? k slot with
  | some j =>
    if j.written && j.done then
      ({ (s.keepTail j) with jobs := s.jobs.filter fun j => !(j.queue = k && j.slot = slot) }).drain k
    else s
  | none => s

/-- Is the completion ring of a queue full (R214)? -/
def State.cqFull (s : State) (k : Nat) : Bool :=
  idxDiff (s.f (JQ_CQ_TAIL_CQ_TAIL k)) (s.f (JQ_CQ_HEAD_CQ_HEAD k)) = s.cqSize k

/-- Write the waiting records of a queue, oldest first, while its ring has room and the function may send; `n` at most
(R210 to R214). -/
def State.writeCpl (k : Nat) : Nat → State → State
  | 0, s => s
  | n + 1, s =>
    match s.waitingCpl.find? (·.1 = k) with
    | none => s
    | some (q, slot, tb) =>
      let tail := s.f (JQ_CQ_TAIL_CQ_TAIL k)
      let size := s.cqSize k
      if s.cqFull k || !s.canSend then s
      else
        match s.job? q slot with
        | none => { s with waitingCpl := s.waitingCpl.erase (q, slot, tb) }
        | some j =>
          let s := s.hostWrite (s.rd64 (JQ_CQ_LO k) + tail % size * 32) (j.record (tail / size % 2 = 0) tb)
          let s := s.setF (JQ_CQ_TAIL_CQ_TAIL k) (tail + 1)
          let s := s.msix (s.f (JQ_CTRL_VECTOR k))
          let s := { s with waitingCpl := s.waitingCpl.erase (q, slot, tb) }
          let s := s.modJob k slot fun j => { j with written := true }
          writeCpl k n (s.freeSlot k slot)

/-- With the ring full, each record of the queue that waits has stalled: one event each (R214, log 34). -/
def State.cqStall (s : State) (k : Nat) : State :=
  if !s.cqFull k then s
  else s.forEach ((s.waitingCpl.filter (·.1 = k)).map (·.2.1)) fun s slot =>
    match s.job? k slot with
    | some j => s.when (!j.stalled) fun s => (s.modJob k slot fun j => { j with stalled := true }).ev (JQ_STAT_CQ_STALL k)
    | none => s

/-- Write the records of a queue that wait, as far as they can be (R210 to R214). -/
def State.writeWaiting (s : State) (k : Nat) : State := (State.writeCpl k 64 s).cqStall k

/-- Release a job's record: it joins the queue's waiting records with its DONE_TB, and is written if there is room (R207, R213). -/
def State.release (s : State) (k slot : Nat) : State :=
  let s := s.modJob k slot fun j => { j with released := true }
  { s with waitingCpl := s.waitingCpl ++ [(k, slot, s.tb)], doneJobs := s.doneJobs.erase (k, slot) }.writeWaiting k

/-! Intake (R198 to R203) -/

/-- May intake take its next step at a queue now: ask for the descriptor at HEAD where it is its turn, or go on with a job for which
item-table room has come (R198, R199, R273)? -/
def State.canTake (s : State) (k : Nat) : Bool :=
  s.canSend && (s.roomCame k || (s.hasWork k && s.readFits 64 && s.isTurn 32))

/-- Ask for the item array of a descriptor, piece by piece as its turns come. -/
def State.readItemArray (s : State) (k : Nat) (d : List Byte) : State :=
  State.arbitrate 1024 (s.setIntake k (.readItems d 0 []))

/-- Intake takes its next step at a queue. -/
def State.takeStep (s : State) (k : Nat) : State :=
  match s.intakeOf k with
  | .waitRoom d => s.readItemArray k d
  | _ => State.arbitrate 1024 (((s.setIntake k .readDesc).hostRead (s.descAddr k) 64).served 32)

/-- Round-robin over the queues (R198). -/
def State.jobIntake (s : State) : State :=
  match ((List.range 8).map fun i => (s.intakeNext + i) % 8).find? s.canTake with
  | some k => ({ s with intakeNext := (k + 1) % 8 }).takeStep k
  | none => s

/-- The inbox slot of Table 6.3. -/
def State.inboxBytes (s : State) (k refuse : Nat) (d : List Byte) : List Byte :=
  slice d 0 64 ++ leBytes 2 (s.f (JQ_HEAD_HEAD k)) ++ [BitVec.ofNat 8 refuse, BitVec.ofNat 8 k] ++
    zeros 4 ++ leBytes 8 s.tb ++ zeros 48

/-- Write the inbox slot at HEAD into the owner's DMEM, open the job, advance HEAD, and only then raise event 8 + k in the owner
(R199 steps 4 to 6, R200). -/
def State.enterJob (s : State) (k : Nat) (j : Job) (d : List Byte) : State :=
  let owner := s.f (JQ_CTRL_OWNER k)
  let at_ := dmemBase owner + s.f (JQ_INBOX_OFFSET k) * 128 + j.slot * 128
  let s := s.writeMem at_ (s.inboxBytes k j.refuse d)
  let s := { s with jobs := s.jobs ++ [j] }
  let s := s.setIntake k .idle
  let s := s.setF (JQ_HEAD_HEAD k) (s.f (JQ_HEAD_HEAD k) + 1)
  (s.engEvent (8 + k) owner).drain k

/-- The job a descriptor names (Table 6.1). -/
def State.jobOf (s : State) (k refuse : Nat) (d : List Byte) : Job :=
  let flags := leAt d 4 2
  { queue := k, slot := s.headSlot k, tag := BitVec.ofNat 32 (leAt d 0 4),
    count := if refuse = 0 then leAt d 6 2 else 0,
    dcd := leAt d 8 1 % 4, pipeMask := BitVec.ofNat 8 (leAt d 9 1),
    blank := bitAt flags 1, replay := bitAt flags 0, replayOut := leAt d 0x20 8, refuse := refuse }

/-- The records of a queue's jobs that may be released are released, in the order in which the jobs finished (R25). -/
def State.releaseDone (s : State) (k : Nat) : State :=
  (s.doneJobs.filter (·.1 = k)).foldl (fun s x => s.release k x.2) s

/-- A refused job: its slot with the code, REFUSED, LAST_REFUSE, source 24, HEAD past it, event, and its record released at once
(R200, R202), after those of the queue's jobs that finished before it (R25). -/
def State.refuse (s : State) (k : Nat) (j : Job) (d : List Byte) : State :=
  let s := s.enterJob k j d
  let s := (s.ev (JQ_STAT_REFUSED k)).setF (JQ_STAT_LAST_REFUSE k) j.refuse
  ((s.raise 24 k).noteDone k j.slot).releaseDone k

/-- Refuse the job of a descriptor with a code. -/
def State.refuseJob (s : State) (k code : Nat) (d : List Byte) : State := s.refuse k (s.jobOf k code d) d

/-- Refuse a job whose descriptor could not be read: it names no domain (log 21), and the JOB bytes and the TAG
are zeros (DESIGN CHOICE, log 106). -/
def State.refuseUnread (s : State) (k : Nat) : State := s.refuse k { s.jobOf k 5 (zeros 64) with dcd := 4 } (zeros 64)

/-- R226: what a REPLAY job, or a job beside one, must meet; a refused job is open until its slot is freed (R195). -/
def State.replayOk (s : State) (d : List Byte) : Bool :=
  let dcd := leAt d 8 1 % 4
  if bitAt (leAt d 4 2) 0 then
    leAt d 0x18 8 ≠ 0 && leAt d 0x18 8 % 64 = 0 && leAt d 0x20 8 ≠ 0 && leAt d 0x20 8 % 64 = 0 &&
    s.f (DCD_CTRL_MODE dcd) = 2 && !s.jobs.any fun j => j.dcd = dcd && !j.replay
  else !s.jobs.any fun j => j.dcd = dcd && j.replay

/-- The first refusal code of Table 6.4 that a descriptor meets before its items are read; 0 where none applies. -/
def State.descCode (s : State) (k : Nat) (d : List Byte) : Nat :=
  let n := leAt d 6 2
  let replay := bitAt (leAt d 4 2) 0
  if leAt d 4 2 / 16 ≠ 0 || leAt d 8 1 / 4 ≠ 0 || leAt d 0x0A 6 ≠ 0 || n = 0 || 256 < n ||
      (!replay && (leAt d 0x18 8 ≠ 0 || leAt d 0x20 8 ≠ 0)) then 1
  else if !bitAt (leAt d 9 1) (s.f (JQ_CTRL_OWNER k)) then 2
  else if leAt d 0x10 8 % 32 ≠ 0 then 3
  else if !s.replayOk d then 4
  else 0

/-- The last serial a domain's next item must exceed: the Geode's, or after its state was lost the floor in force since the OPEN (R203,
R675). -/
def State.lastSerial (s : State) (d : Nat) : Option Nat :=
  match s.geode.lastSerial.find? (·.1 = d) with
  | some (_, v) => some v
  | none => (s.geode.floors.find? (·.1 = d)).map (·.2)

/-- Do serials rise strictly from the last one? -/
def serialsRise : Option Nat → List Nat → Bool
  | _, [] => true
  | none, x :: xs => serialsRise (some x) xs
  | some l, x :: xs => l < x && serialsRise (some x) xs

/-- The item descriptors of an array. -/
def itemDescs (n : Nat) (bs : List Byte) : List (List Byte) := (List.range n).map fun i => slice bs (32 * i) 32

/-- The first refusal code of Table 6.4 that the items meet; 0 where none applies. LINES above 16,777,215 is outside Table 6.2's range and
is refused with code 6 as LINES 0 is, a DESIGN CHOICE (log 99). -/
def State.itemsCode (s : State) (d : List Byte) (its : List (List Byte)) : Nat :=
  let dcd := leAt d 8 1 % 4
  if its.any fun i => leAt i 0x0E 1 / 2 ≠ 0 || leAt i 0x10 16 ≠ 0 || leAt i 8 4 = 0 || 16777215 < leAt i 8 4 ||
      (3 < leAt i 0x0F 1 && leAt i 0x0F 1 ≠ 0xFF) then 6
  else if its.any fun i => bitAt (leAt i 0x0E 1) 0 && leAt i 0x0F 1 = 0xFF then 7
  else if !serialsRise (s.lastSerial dcd) (its.map fun i => leAt i 0 8) then 8
  else if its.any fun i => leAt i 0x0F 1 ≠ 0xFF &&
      !(s.b (REJ_CFG_EN (leAt i 0x0F 1)) && s.f (REJ_CFG_DCD (leAt i 0x0F 1)) = dcd) then 9
  else 0

/-- Enter the items of a job as QUEUED, in order; items alternate parity on their domain (R199 step 4, R488). One whose ITEM record has come through
the mirror already keeps that record's outcome (R708, Table 19.4). -/
def State.enterItems (s : State) (j : Job) (d : List Byte) : List (Nat × List Byte) → State
  | [] => s
  | (n, i) :: rest =>
    let par := (s.dom j.dcd).itemParity
    let it : Item :=
      { id := s.nextItem, serial := leAt i 0 8, lines := leAt i 8 4, gap := leAt i 0x0C 2,
        regulated := bitAt (leAt i 0x0E 1) 0, reject := leAt i 0x0F 1, dcd := j.dcd, queue := j.queue,
        slot := j.slot, index := n, tag := j.tag, pipeMask := j.pipeMask, blank := j.blank,
        ovsPolicy := bits (leAt d 4 2) 3 2, replay := j.replay, parity := par }
    let it := match s.mirrorOf it with
      | some r => it.keepOutcome s.tb r
      | none => it
    let s := { s with items := s.items ++ [it], nextItem := s.nextItem + 1 }
    let s := s.modDom j.dcd fun x => { x with itemParity := !par }
    let serials := Map.insert j.dcd it.serial s.geode.lastSerial
    let s := { s with geode := { s.geode with lastSerial := serials } }
    s.enterItems j d rest

/-- The descriptor has come (R199 step 2): refuse it, wait for item-table room, or read its items. -/
def State.descReturn (s : State) (k : Nat) (ret : Ret) : State :=
  if s.intakeOf k ≠ .readDesc then s else
  match ret with
  | .failed => (s.pcieEvent 2).refuseUnread k
  | .poisoned => (s.pcieEvent 3).refuseUnread k
  | .data bs =>
    let code := s.descCode k bs
    if code ≠ 0 then s.refuseJob k code bs
    else if s.items.length + leAt bs 6 2 ≤ 1024 then s.readItemArray k bs
    else s.setIntake k (.waitRoom bs)

/-- The entries of a replay event stream, up to the one with END, which is applied too (R228; DESIGN CHOICE, log 106). -/
def replayStream : Nat → List Byte → List (Nat × Nat × DWord)
  | 0, _ => []
  | n + 1, bs =>
    if bs.length < 16 then []
    else
      let e := (leAt bs 0 4, leAt bs 4 4 % 0x40000, BitVec.ofNat 64 (leAt bs 8 8))
      if bitAt (leAt bs 4 4) 31 then [e] else e :: replayStream n (bs.drop 16)

/-- Is the entry with END among these bytes of an event stream? -/
def streamEnds : Nat → List Byte → Bool
  | 0, _ => false
  | n + 1, bs => 16 ≤ bs.length && (bitAt (leAt bs 4 4) 31 || streamEnds n (bs.drop 16))

/-- Everything of a job has been read: it is refused with the first code that applies now, waits for room again, or enters with its
items (R199 steps 3 to 6). A replay job's event stream is read before (log 21). -/
def State.completeIntake (s : State) (k : Nat) (d items : List Byte) (stream : Option (List Byte)) : State :=
  let its := itemDescs (leAt d 6 2) items
  let code := if !s.replayOk d then 4 else s.itemsCode d its
  if code ≠ 0 then s.refuseJob k code d
  else if 1024 < s.items.length + its.length then s.setIntake k (.waitRoom d)
  else if bitAt (leAt d 4 2) 0 && stream.isNone then State.arbitrate 1024 (s.setIntake k (.readStream d items 0 []))
  else
    let es := (stream.getD [])
    let j := { s.jobOf k 0 d with replayEvents := replayStream es.length es }
    (s.enterItems j d (List.range its.length |>.zip its)).enterJob k j d

/-- Bytes of an item array or of an event stream have come: those asked for and outstanding (R199 step 3, R228). -/
def State.itemsReturn (s : State) (k : Nat) (ret : Ret) : State :=
  match s.intakeOf k with
  | .readItems d asked got =>
    if asked ≤ got.length then s
    else match ret with
    | .failed => (s.pcieEvent 2).refuseJob k 5 d
    | .poisoned => (s.pcieEvent 3).refuseJob k 5 d
    | .data bs =>
      let got := got ++ slice bs 0 (asked - got.length)
      if got.length < 32 * leAt d 6 2 then State.arbitrate 1024 (s.setIntake k (.readItems d asked got))
      else s.completeIntake k d got none
  | .readStream d its asked got =>
    if asked ≤ got.length then s
    else match ret with
    | .failed => (s.pcieEvent 2).refuseJob k 5 d
    | .poisoned => (s.pcieEvent 3).refuseJob k 5 d
    | .data bs =>
      let got := got ++ slice bs 0 (asked - got.length)
      if streamEnds got.length got then s.completeIntake k d its (some got)
      else State.arbitrate 1024 (s.setIntake k (.readStream d its asked got))
  | _ => s

/-- Abandon an intake that has not reached step 4 (R748). -/
def State.abandonIntake (s : State) (k : Nat) : State := (s.setIntake k .idle).drain k

/-! JQ_DONE and aborts (R192, R209, R216 to R219) -/

/-- The WITHDRAWN record of an abort (Table 18.7). -/
def withdrawnBody (j : Job) (its : List Item) : List Byte :=
  let first := its.head?
  leBytes 4 j.tag.toNat ++ leBytes 2 its.length ++
  [BitVec.ofNat 8 ((first.map (·.index)).getD 0), BitVec.ofNat 8 j.queue] ++
  leBytes 8 ((first.map (·.serial)).getD 0) ++ leBytes 8 ((its.getLast?.map (·.serial)).getD 0) ++
  sha256 ((its.map fun i => leBytes 8 i.serial).flatten)

/-- ABORT: QUEUED items are withdrawn under one WITHDRAWN record, those in PRINTING SPOILED with JOB_ABORTED. -/
def State.abortJob (s : State) (j : Job) : State :=
  let mine (i : Item) : Bool := i.queue = j.queue && i.slot = j.slot && i.tag = j.tag
  let gone := s.items.filter fun i => mine i && i.stage = Stage.queued
  let s := { s with items := s.items.filter fun i => !(mine i && i.stage = Stage.queued) }
  let s := s.modJob j.queue j.slot fun j => { j with aborted := true, withdrawn := j.withdrawn + gone.length }
  let s := s.when (gone ≠ []) (·.ownRecord 6 0 (withdrawnBody j gone))
  s.spoilWhere 15 fun i => mine i && i.stage = Stage.printing

/-- A write of JQ_DONE[k] (R192, R207 to R209). -/
def State.jqDone (s : State) (req k slot : Nat) (abort : Bool) : State :=
  if req ≠ s.f (JQ_CTRL_OWNER k) then (s.ev (JQ_STAT_NOT_OWNER k)).raise 26 k
  else match s.job? k slot with
    | none => s.raise 26 k
    | some j =>
      if j.done then s.raise 26 k
      else
        let s := s.modJob k slot fun j => { j with done := true }
        let s := s.when abort (·.abortJob j)
        (s.noteDone k slot).freeSlot k slot

/-! Writes of JQ_CTRL, JQ_TAIL and JQ_CQ_HEAD (R193 to R197, R215) -/

/-- The conditions of R194 and R675, for the queue as it stands. -/
def State.jqEnableOk (s : State) (k : Nat) : Bool :=
  let r := s.f (JQ_CTRL_RING_LOG2 k)
  let c := s.f (JQ_CTRL_CQ_LOG2 k)
  4 ≤ r && r ≤ 12 && 4 ≤ c && c ≤ 12 && s.f (JQ_CTRL_INBOX_LOG2 k) ≤ 6 &&
  s.rd64 (JQ_RING_LO k) % (64 * 2 ^ r) = 0 && s.rd64 (JQ_CQ_LO k) % (32 * 2 ^ c) = 0 &&
  s.f (JQ_INBOX_OFFSET k) * 128 + 128 * s.inboxSlots k ≤ 131072 &&
  s.f (JQ_TAIL_TAIL k) = 0 && s.f (JQ_HEAD_HEAD k) = 0 && s.f (JQ_CQ_TAIL_CQ_TAIL k) = 0 &&
  s.f (JQ_CQ_HEAD_CQ_HEAD k) = 0 && s.ledger.isOpen

/-- A refused setting of a queue: CFG_ERROR and source 25. -/
def State.jqCfgError (s : State) (k : Nat) : State := (s.ev (JQ_STAT_CFG_ERROR k)).raise 25 k

/-- IDX_CLR (R196). -/
def State.idxClr (s : State) (k : Nat) : State :=
  if !s.b (JQ_CTRL_ENABLE k) && s.b (JQ_CTRL_DRAINED k) && !s.waitingCpl.any (·.1 = k) then
    (((s.wn (JQ_TAIL k) 0).wn (JQ_HEAD k) 0).wn (JQ_CQ_TAIL k) 0).wn (JQ_CQ_HEAD k) 0
  else s.jqCfgError k

/-- A write of JQ_CTRL[k]: `new` is the word with the accepted fields, `clr` whether it carries IDX_CLR (R193 to R196). Where
ENABLE is refused, the other fields of the write are stored (DESIGN CHOICE, log 106). -/
def State.jqCtrlWrite (s : State) (k : Nat) (new : Word) (clr : Bool) : State :=
  let wasOn := s.b (JQ_CTRL_ENABLE k)
  let want := bitAt new.toNat 0
  let s := if wasOn then s else s.wr (JQ_CTRL k) (putBits new 0 0 0)
  let s := s.when (wasOn && !want) fun s => (s.setB (JQ_CTRL_ENABLE k) false).abandonIntake k
  let s := s.when clr (·.idxClr k)
  if want && !wasOn then
    if s.jqEnableOk k then (s.setB (JQ_CTRL_ENABLE k) true).drain k else s.jqCfgError k
  else s

/-- A doorbell (R197). -/
def State.jqTailWrite (s : State) (k new : Nat) : State :=
  let old := s.f (JQ_TAIL_TAIL k)
  if new = old then s
  else if idxDiff new (s.f (JQ_HEAD_HEAD k)) ≤ s.ringSize k && idxDiff new old ≤ s.ringSize k then
    s.setF (JQ_TAIL_TAIL k) new
  else (s.ev (JQ_STAT_INDEX_ERROR k)).raise 25 k

/-- A write of JQ_CQ_HEAD: ignored beyond CQ_TAIL; else it frees room, and waiting records are written (R214, R215). -/
def State.jqCqHeadWrite (s : State) (k new : Nat) : State :=
  let tail := s.f (JQ_CQ_TAIL_CQ_TAIL k)
  let old := s.f (JQ_CQ_HEAD_CQ_HEAD k)
  if idxDiff new old ≤ idxDiff tail old then (s.setF (JQ_CQ_HEAD_CQ_HEAD k) new).writeWaiting k
  else (s.ev (JQ_STAT_INDEX_ERROR k)).raise 25 k

/-! Commands -/

/-- JOB_INTAKE (R198, R199). -/
def execJobIntake (s : State) : Host.Outcome State Fault Refusal :=
  .next (s.awake (·.jobIntake))

/-- JOB_DESC_RETURN (R199, R202). -/
def execJobDescReturn (k : Fin 8) (ret : Ret) (s : State) : Host.Outcome State Fault Refusal :=
  .next (s.awake (·.descReturn k ret))

/-- ITEM_ARRAY_RETURN (R199). -/
def execItemArrayReturn (k : Fin 8) (ret : Ret) (s : State) : Host.Outcome State Fault Refusal :=
  .next (s.awake (·.itemsReturn k ret))

/-- The first job of the queue that came to where its record may be released has it released; else waiting records are written. -/
def State.releaseNext (s : State) (k : Nat) : State :=
  match s.doneJobs.find? (·.1 = k) with
  | some (_, slot) => s.release k slot
  | none => s.writeWaiting k

/-- COMPLETION_RELEASE: the record of the job that came first to where it may be released, or the queue's waiting records (R25, R207, R213,
R214). -/
def execCompletionRelease (k : Fin 8) (s : State) : Host.Outcome State Fault Refusal :=
  .next (s.awake (·.releaseNext k))

end Sys2Proof.Machine
end

