-- ==== Sys2Proof/Machine/Raster.lean ====
section
/-!
DEFINITION. Raster.lean: raster streams: geometry, the ring behind a stream, CH_CONS and RAS_FILL, the checks of RAS_STREAM and the other
guarded registers of the raster path (08_raster_path.md R296 to R303, R310, R314 to R316, R339).
-/

namespace Sys2Proof.Machine
open Reg Fld

/-! Streams (R296 to R300) -/

/-- The lanes of a stream, ascending. -/
def State.streamLanes (s : State) (n : Nat) : List Nat :=
  (bitsSet (s.f (RAS_STREAM_LANES n)) 8).map (8 * s.f (RAS_STREAM_PIPE n) + ·)

/-- Bytes of a lane's slice at a pixel width of 1 or 2 bits (R297). -/
def State.sliceBytes (s : State) (l bpp : Nat) : Nat := 32 * cdiv (s.cols l * bpp) 256

/-- Bits per dot of a stream. -/
def State.bpp (s : State) (n : Nat) : Nat := s.f (RAS_STREAM_BPP n) + 1

/-- Length of a stream line. -/
def State.lineBytes (s : State) (n : Nat) : Nat :=
  ((s.streamLanes n).map fun l => s.sliceBytes l (s.bpp n)).foldl (· + ·) 0

/-- Offset of a lane's slice in a stream line. -/
def State.sliceOff (s : State) (n l : Nat) : Nat :=
  (((s.streamLanes n).filter (· < l)).map fun l => s.sliceBytes l (s.bpp n)).foldl (· + ·) 0

/-- The enabled stream that holds a lane. -/
def State.streamOf (s : State) (l : Nat) : Option Nat :=
  (List.range 32).find? fun n => s.b (RAS_STREAM_ENABLE n) && (s.streamLanes n).contains l

/-- The enabled streams of a domain. -/
def State.domainStreams (s : State) (d : Nat) : List Nat :=
  (List.range 32).filter fun n => s.b (RAS_STREAM_ENABLE n) && s.f (RAS_STREAM_DCD n) = d

/-- The delays of a stream's lanes. -/
def State.delays (s : State) (n : Nat) : List Nat := (s.streamLanes n).map fun l => s.f (RAS_SKEW_DELAY l)

/-- Greatest and least of a list. -/
def maxOf (xs : List Nat) : Nat := xs.foldl max 0

/-- Least of a list, 0 where empty. -/
def minOf (xs : List Nat) : Nat := xs.foldl min (xs.headD 0)

/-- The ring count at which stream line r begins. -/
def State.linePos (s : State) (n r : Nat) : Nat := ((s.strm n).base + r * s.f (RAS_LINE_BYTES_BYTES n)) % countMod

/-- Stream lines wholly supplied since the stream was enabled. -/
def State.supplied (s : State) (n : Nat) : Nat :=
  let lb := s.f (RAS_LINE_BYTES_BYTES n)
  (s.strm n).passed + (if lb = 0 then 0 else s.chFill (s.f (RAS_STREAM_CHANNEL n)) / lb)

/-- Is stream line r wholly in the ring (R310)? -/
def State.inRing (s : State) (n r : Nat) : Bool := (s.strm n).passed ≤ r && r < s.supplied n

/-- Lines that every lane of a delay has taken up, or missed, at the domain's last boundary; a reverse block counts when all of
it has been taken (R302, R308, R334). -/
def State.takenLines (s : State) (d delay : Nat) : Nat :=
  let t := (s.dom d).made - delay
  let r := t % 0x100000000
  if s.scanning d && s.blockRev d (s.blockOf d r) then t - r % s.passLines d else t

/-- RAS_FILL: complete lines in the ring that no lane has yet taken up (R315, RAS_FILL). -/
def State.rasFill (s : State) (n : Nat) : Nat :=
  if !s.b (RAS_STREAM_ENABLE n) then 0
  else s.supplied n - max (s.strm n).begun (s.strm n).passed

/-- CH_CONS passes the lines that every lane has taken up and CH_PROD has passed (R302, R315); poisoned spans behind it are
forgotten. -/
def State.rasConsume (s : State) (n : Nat) : State :=
  let c := s.f (RAS_STREAM_CHANNEL n)
  let lb := s.f (RAS_LINE_BYTES_BYTES n)
  let x := s.strm n
  let upto := min x.taken (s.supplied n)
  if s.b (RAS_STREAM_ENABLE n) && x.passed < upto then
    let cons := (s.f (CH_CONS_COUNT c) + (upto - x.passed) * lb) % countMod
    let s := (s.setF (CH_CONS_COUNT c) cons).setStrm n { x with passed := upto }
    (s.modDma c fun m => { m with spans := m.spans.filter fun p =>
      (p.1 + p.2 + countMod - cons) % countMod < countMod / 2 && (p.1 + p.2) % countMod ≠ cons }).paceChannel c
  else s

/-- A boundary at which the lanes of stream n took up or missed their lines: how far its first lane and its last have come, and CH_CONS
follows (R302, RAS_FILL). A stream enabled after the domain has stopped begins anew. -/
def State.rasTaken (s : State) (n : Nat) : State :=
  let d := s.f (RAS_STREAM_DCD n)
  let x := s.strm n
  (s.setStrm n { x with taken := s.takenLines d (maxOf (s.delays n)), begun := (s.dom d).made - minOf (s.delays n) }).rasConsume n

/-- Does a range of ring counts meet a poisoned span (R316)? -/
def State.spanPoisoned (s : State) (c count n : Nat) : Bool :=
  (s.dma c).spans.any fun p =>
    (count + countMod - p.1 % countMod) % countMod < p.2 || (p.1 + countMod - count % countMod) % countMod < n

/-- Does it meet a beat with an uncorrectable error (R293)? -/
def State.beatPoisoned (s : State) (c count n : Nat) : Bool :=
  s.poison != [] && (List.range n).any fun i => s.poison.contains ((s.chRing c + (count + i) % s.chSize c) / 4)

/-- Is a range of the ring poisoned (R293, R316)? -/
def State.ringPoisoned (s : State) (c count n : Nat) : Bool := s.spanPoisoned c count n || s.beatPoisoned c count n

/-! Checks (R301, R303, R339) -/

/-- A CFG_ERROR of streams, with fault source 35. -/
def State.rasCfgError (s : State) (ns : List Nat) (info : Nat) : State :=
  (s.forEach ns fun s n => s.ev (RAS_STREAM_STAT_CFG_ERROR n)).raise 35 info

/-- Is a domain stopped? -/
def State.stopped (s : State) (d : Nat) : Bool := s.f (DCD_CTRL_STATE d) = 0

/-- The conditions of R301 on stream n as its register stands. HIGH_WM counts as written: the condition is no use of the watermark pair (DESIGN
CHOICE, log 110). -/
def State.streamOk (s : State) (n : Nat) : Bool :=
  let d := s.f (RAS_STREAM_DCD n)
  let c := s.f (RAS_STREAM_CHANNEL n)
  let ls := s.streamLanes n
  let need := s.lineBytes n * (maxOf (s.delays n) - minOf (s.delays n) + 8)
  s.stopped d &&
  !s.b (CH_CFG_DIR c) && s.b (CH_CFG_RING_EN c) && ls ≠ [] &&
  (ls.all fun l =>
    s.f (HL_CFG_DCD l) = d && !((List.range 32).any fun m =>
      m ≠ n && s.b (RAS_STREAM_ENABLE m) && (s.streamLanes m).contains l) &&
    s.f (RAS_GEOM_ROWS l) ≠ 3 && s.f (HL_NOZ_COUNT l) % s.rows l = 0 &&
    s.f (RAS_STITCH_WIDTH_L l) + s.f (RAS_STITCH_WIDTH_R l) ≤ s.cols l &&
    (!s.scanning d || (s.f (RAS_GEOM_ROWS l) = 0 && s.f (RAS_SKEW_DELAY l) = 0))) &&
  (s.b (RAS_STREAM_BPP n) || s.f (RAS_STREAM_ONE_LEVEL n) ≠ 0) &&
  need ≤ s.chSize c && need ≤ s.f (CH_WM_HIGH_WM c) * s.chSize c / 256 &&
  (!s.scanning d || s.f (RAS_SCAN_PASS_LINES d) ≠ 0)

/-- A write of RAS_STREAM[n] with the fields it may change merged into `new` (R301, R303, R339). An enabled stream also concerns the domain
it leaves. -/
def State.streamWrite (s : State) (n : Nat) (new : Word) : State :=
  let old := s.rd (RAS_STREAM n)
  let free := !s.b (RAS_STREAM_ENABLE n) || s.stopped (s.f (RAS_STREAM_DCD n))
  if new = old then s
  else if bitAt new.toNat 0 then
    let s' := s.wr (RAS_STREAM n) new
    if free && s'.streamOk n then
      let s := s'.setF (RAS_LINE_BYTES_BYTES n) (s'.lineBytes n)
      let s := s.setStrm n { base := s.f (CH_CONS_COUNT (s.f (RAS_STREAM_CHANNEL n))), passed := 0 }
      s.setB (RAS_STREAM_STAT_ACTIVE n) true
    else s.rasCfgError [n] n
  else if free && s.stopped (bits new.toNat 5 4) then
    (s.wr (RAS_STREAM n) new).setB (RAS_STREAM_STAT_ACTIVE n) false
  else s.rasCfgError [n] n

/-- A write of RAS_SKEW, RAS_GEOM or RAS_STITCH of lane l at address a (R339). -/
def State.laneRasterWrite (s : State) (l a : Nat) (new : Word) : State :=
  if new = s.rd a || s.stopped (s.f (HL_CFG_DCD l)) then s.wr a new
  else s.rasCfgError ((s.streamOf l).toList) l

/-- A write of RAS_SCAN[d] (R339). -/
def State.scanWrite (s : State) (d : Nat) (new : Word) : State :=
  if new = s.rd (RAS_SCAN d) || s.stopped d then s.wr (RAS_SCAN d) new
  else s.rasCfgError (s.domainStreams d) d

end Sys2Proof.Machine
end

