-- ==== Sys2Proof/Machine/Dma.lean ====
section
/-!
DEFINITION. Dma.lean: DMA channels: descriptors, requests, data, completion, errors and the ends of chains (07_host_dma.md R253 to
R288, R745).
-/

namespace Sys2Proof.Machine
open Reg Fld

/-- Where byte i of a run of whole units lands (Table 7.7). -/
def swapAt (m i : Nat) : Nat :=
  if m = 1 then i / 2 * 2 + (1 - i % 2)
  else if m = 2 then i / 4 * 4 + (i + 2) % 4
  else if m = 3 then i / 4 * 4 + (3 - i % 4)
  else i

/-- A run of whole units reordered; each mode is its own inverse. -/
def swapBytes (m : Nat) (bs : List Byte) : List Byte := (List.range bs.length).map fun i => bs.getD (swapAt m i) 0

/-! Descriptors in turn -/

/-- Change descriptor `i` of a channel. -/
def State.modDesc (s : State) (c i : Nat) (g : Desc → Desc) : State :=
  s.modDma c fun m => { m with descs := m.descs.modify i g }

/-- The first of ERR 9, 4 and 5 that a descriptor meets; 0 where none does (R745). The ring count is its device address. -/
def State.descErr (s : State) (c : Nat) (d : Desc) : Nat :=
  let ring := s.chRingEn c
  let dev := if ring then (s.dma c).tail else d.dev
  if d.dev / 0x1000000000 ≠ 0 || bitAt d.lenCtrl 31 || d.len = 0 ||
      (ring && (d.dev ≠ 0 || s.chSize c < d.len)) then 9
  else if !ring && !s.deviceOk (!s.chD2h c) d.dev d.len then 4
  else if dev % swapUnit d.swap ≠ 0 || d.len % swapUnit d.swap ≠ 0 then 5
  else 0

/-- Make the checks of descriptor `i` (R745); a refused write of a signed page also raises source 4 (R110, R255). -/
def State.beginDesc (s : State) (c i : Nat) (d : Desc) : State :=
  let err := s.descErr c d
  let s := s.modDesc c i fun d => { d with begun := true, err := err }
  if err = 4 && !s.chD2h c && d.dev + d.len ≤ barBase + 0xC00000 then
    match s.lockedPage d.dev d.len with
    | some e => s.raise 4 e
    | none => s
  else s

/-- CH_PROD of an H2D ring: everything before it is written (R269). -/
def State.showProd (s : State) (c : Nat) : State :=
  if !s.fillsRing c then s
  else
    let m := s.dma c
    let prod := match m.descs.find? fun d => d.span.isSome && d.filled < d.len with
      | some d => (d.span.getD 0 + d.filled) % countMod
      | none => m.tail % countMod
    if prod = s.f (CH_PROD_COUNT c) then s
    else
      let s := s.setF (CH_PROD_COUNT c) prod
      s.forEach ((List.range 32).filter fun n => s.b (RAS_STREAM_ENABLE n) && s.f (RAS_STREAM_CHANNEL n) = c)
        fun s n => s.rasConsume n

/-- CH_CONS of a D2H ring: everything before it has been read and passed (R265, R267, log 36). -/
def State.showCons (s : State) (c : Nat) : State :=
  if !(s.chRingEn c && s.chD2h c && (s.dma c).active) then s
  else
    let m := s.dma c
    let first := m.descs.findSome? fun d => (d.reqs.head?).map fun r => (d.span.getD 0 + r.off) % countMod
    s.setF (CH_CONS_COUNT c) (first.getD (m.tail % countMod))

/-- Fill the rest of a BAD span with 0 as room allows, and mark it poisoned (R281). -/
def State.fillSpan (s : State) (c i : Nat) (d : Desc) : State :=
  if !d.reqs.isEmpty then s
  else
    let m := s.dma c
    let start := d.span.getD m.tail
    let room := s.chSize c - s.chReserved c
    let extra := min (d.len - d.asked) room
    let s := s.ringWrite c (start + d.filled) (zeros (d.asked + extra - d.filled))
    let s := s.modDma c fun m =>
      { m with tail := (m.tail + extra) % countMod
               spans := if m.spans.contains (start, d.len) then m.spans else m.spans ++ [(start, d.len)] }
    s.modDesc c i fun d =>
      { d with span := some start, asked := d.asked + extra, filled := d.asked + extra, moved := d.moved - d.carry.length, carry := [] }

/-- Check the descriptors whose turn has come, and fill BAD spans; `n` descriptors at most. -/
def State.runTurns (c : Nat) : Nat → State → State
  | 0, s => s
  | n + 1, s =>
    match turnOf (s.fillsRing c) 0 (s.dma c).descs with
    | none => s
    | some (i, d) =>
      if d.err = 0 then
        if d.begun then s
        else runTurns c n (s.beginDesc c i d)
      else
        let t := s.fillSpan c i d
        if turnOf (s.fillsRing c) 0 (t.dma c).descs = turnOf (s.fillsRing c) 0 (s.dma c).descs then t
        else runTurns c n t

/-- A chain with nothing left ends: CHAIN_DONE, the fetch error's report, or IDLE or ERROR (R261, R279, R283, R285). -/
def State.endChain (s : State) (c : Nat) : State :=
  let m := s.dma c
  if m.active && m.stop ≠ .none && !m.fetching && m.descs.isEmpty then
    let s := s.setDma c { m with active := false, paused := false, waitDesc := false, flush := false
                                 failed := m.stop = .fetchError || m.stop = .reset }
    match m.stop with
    | .last => s.ev (CH_STAT_CHAIN_DONE c)
    | .fetchError => (s.ev (CH_STAT_FETCH_ERROR c)).raise 19 c
    | _ => s
  else s

/-! Data (R276, R280) -/

/-- The unit in which a descriptor's bytes go to its target: a nozzle entry, else the SWAP unit (R109, R255, R272). -/
def Desc.unit (d : Desc) : Nat :=
  if barBase + 0x800000 ≤ d.dev && d.dev < barBase + 0xA00000 then 8 else swapUnit d.swap

/-- A request of a descriptor ends with an error: BAD with the first error's ERR (R280). -/
def Desc.fail (err : Nat) (d : Desc) : Desc := { d with err := if d.err = 0 then err else d.err }

/-- Bytes of an H2D descriptor that are next in order go to its target in whole units, what is left of one with the last byte. A page
locked as signed since the descriptor was checked takes none (R110, R255). -/
def State.landBytes (s : State) (c i : Nat) (d : Desc) (bs : List Byte) : State :=
  let all := d.carry ++ bs
  let k := if d.filled + all.length = d.len then all.length else all.length / d.unit * d.unit
  let data := swapBytes d.swap (all.take k)
  let moved (d : Desc) : Desc := { d with moved := d.moved + bs.length, filled := d.filled + k, carry := all.drop k }
  match d.span with
  | some start => (s.ringWrite c (start + d.filled) data).modDesc c i moved
  | none => match s.lockedPage (d.dev + d.filled) k with
    | some e => (s.raise 4 e).modDesc c i (Desc.fail 4)
    | none => (s.deviceWrite (d.dev + d.filled) data).modDesc c i moved

/-- The bytes of a D2H request, in host order, and whether they meet an uncorrectable error (R272, Table 7.9). -/
def State.deviceBytes (s : State) (c : Nat) (d : Desc) (r : DataReq) : List Byte × Bool × State :=
  let u := swapUnit d.swap
  let lo := r.off / u * u
  let n := (r.off + r.len + u - 1) / u * u - lo
  let (raw, bad, s') := match d.span with
    | some start => (s.ringBytes c (start + lo) n,
        (s.ringRuns c (start + r.off) r.len).any (fun x => s.badBeats x.1 x.2 ≠ []), s.ringEcc c (start + r.off) r.len)
    | none => (s.deviceRead (d.dev + lo) n, d.dev < barBase && s.badBeats (d.dev + r.off) r.len ≠ [],
        if d.dev < barBase then s.eccRead (d.dev + r.off) r.len else s)
  (((swapBytes d.swap raw).drop (r.off - lo)).take r.len, bad, s')

/-- Pass the data at the front of a descriptor's requests in address order, `n` requests at most: what has come next in order reaches its
target, host memory only while the function may send; behind a request that has failed nothing moves (R241, R276, R280). -/
def State.passData (c i : Nat) : Nat → State → State
  | 0, s => s
  | n + 1, s =>
    match (s.dma c).descs[i]? with
    | none => s
    | some d =>
      let drop (s : State) : State := s.modDesc c i fun d => { d with reqs := d.reqs.drop 1 }
      match d.reqs with
      | [] => s
      | r :: _ => match r.st with
        | .wait => s
        | .lost => passData c i n (drop s)
        | .data bs =>
          if r.off ≠ d.moved then passData c i n (drop s)
          else if s.chD2h c then
            if !s.canSend then s
            else
              let s := s.hostWrite (d.host + r.off) bs d.attr
              passData c i n (drop (s.modDesc c i fun d => { d with moved := d.moved + r.len, filled := d.filled + r.len }))
          else passData c i n (drop (s.landBytes c i d bs))

/-- Pass what can be passed of every descriptor of a channel. -/
def State.passAll (s : State) (c : Nat) : State :=
  s.forEach (List.range (s.dma c).descs.length) fun s i => s.passData c i (((s.dma c).descs[i]?.map (·.reqs.length)).getD 0)

/-! Completion (R277, R280, R282, R285) -/

/-- Descriptor `i` ends: STATUS is written back, or counted where it cannot be sent or is refused; the counts rise, its IRQ event is
raised. Bytes that came but wait for a whole unit are not moved and not in BYTES (R280). -/
def State.endDesc (s : State) (c i : Nat) (d : Desc) (refused : Bool := false) : State :=
  let word := 1 + 2 * b2n (d.err ≠ 0) + 4 * d.err + 256 * (d.moved - d.carry.length)
  let s := s.modDma c fun m =>
    { m with descs := m.descs.eraseIdx i
             spans := match d.span with
               | some start => if d.err = 0 || !s.fillsRing c || m.spans.contains (start, d.len) then m.spans
                   else m.spans ++ [(start, d.len)]
               | none => m.spans }
  let s := s.when (d.err ≠ 0) fun s =>
    ((s.incSat (CH_ERRCNT_BAD c) 1).wr64 (CH_LASTBAD_LO c) d.addr).ev (CH_STAT_BAD_SEEN c)
  let s := s.when (d.err = 1 || d.err = 2 || d.err = 3 || d.err = 8) (·.raise 18 c)
  let sent := s.canSend
  let s := s.when sent (·.hostWrite (d.addr + 0x1C) (leBytes 4 word))
  let s := s.when (!sent || refused) fun s => ((s.incSat (CH_ERRCNT_WB c) 1).ev (CH_STAT_WB_ERROR c)).raise 28 c
  let s := s.wn (CH_DONECNT c) (s.rn (CH_DONECNT c) + 1)
  s.when d.irq (·.msix (s.f (CH_CFG_VECTOR c)))

/-- End every descriptor that may end, `n` at most. -/
def State.endAll (c : Nat) : Nat → State → State
  | 0, s => s
  | n + 1, s =>
    match s.endable c with
    | some (i, d) => endAll c n (s.endDesc c i d)
    | none => s

/-- Bring a channel up to date after anything that concerns it: data passed, descriptors checked, spans filled, its counts, and the end of
its chain. What a reset or link loss ends waits for no turn. -/
def State.settle (s : State) (c : Nat) : State :=
  let s := ((State.runTurns c 16 (s.passAll c)).showProd c).showCons c
  let s := s.when ((s.dma c).stop = .reset) (State.endAll c 8)
  (s.endChain c).paceChannel c

/-- The ring's consumer has made room: spans of BAD descriptors are filled on (R281). -/
def State.fillOn (s : State) (c : Nat) : State := s.when ((s.dma c).descs.any (·.err ≠ 0)) (·.settle c)

/-- Bring a channel up to date, and let the requests go out that do so by themselves. -/
def State.pump (s : State) (c : Nat) : State := State.arbitrate 1024 (s.settle c)

/-- DMA_REQUEST_ISSUE: the channel asks for its next bytes where it is its turn (R270 to R275). -/
def State.issueRequest (s : State) (c : Nat) : State :=
  let s := s.pump c
  let n := s.nextRequest c
  if n = 0 || !s.isTurn c then s
  else match turnOf (s.fillsRing c) 0 (s.dma c).descs with
    | none => s
    | some (i, d) =>
      let ring := s.chRingEn c
      let start := if ring then some (d.span.getD (s.dma c).tail) else none
      let s := if s.chD2h c then s else s.hostRead (d.host + d.asked) n d.attr
      let s := s.modDesc c i fun d => { d with span := start, asked := d.asked + n, reqs := d.reqs ++ [⟨d.asked, n, .wait⟩] }
      let s := s.modDma c fun m => { m with tail := if ring then (m.tail + n) % countMod else m.tail }
      (s.served c).pump c

/-- The requests of a channel that are outstanding: descriptor, place in it, and the request, oldest first. -/
def State.waiting (s : State) (c : Nat) : List (Nat × Nat × DataReq) :=
  ((List.range (s.dma c).descs.length).zip (s.dma c).descs).flatMap fun x =>
    (((List.range x.2.reqs.length).zip x.2.reqs).filter (·.2.st = .wait)).map fun y => (x.1, y.1, y.2)

/-- A request of descriptor `i` ends: its bytes have come, or it has failed with an ERR. -/
def State.arrive (s : State) (c i j : Nat) (st : Arrival) (err : Nat) : State :=
  s.modDesc c i fun d =>
    let d := { d with reqs := d.reqs.modify j fun r => { r with st := st } }
    if st = .lost then d.fail err else d

/-- DATA_RETURN: the channel's request outstanding of a number, oldest 0, comes back (R276, R280). On a D2H channel the device's bytes
have been read, whatever `ret` says. -/
def State.dataReturn (s : State) (c n : Nat) (ret : Ret) : State :=
  match (s.waiting c)[n]? with
  | none => s
  | some (i, j, r) =>
    if s.chD2h c then
      match (s.dma c).descs[i]? with
      | none => s
      | some d =>
        let (bs, bad, s) := s.deviceBytes c d r
        (if bad then s.arrive c i j .lost 8 else s.arrive c i j (.data bs) 0).pump c
    else match ret with
      | .data bs => (s.arrive c i j (.data (slice bs 0 r.len)) 0).pump c
      | .failed => ((s.pcieEvent 2).arrive c i j .lost 1).pump c
      | .poisoned => ((s.pcieEvent 3).arrive c i j .lost 3).pump c

/-! Descriptor fetch (R256 to R261, R279) -/

/-- A fetch error: the channel fetches nothing more (R279). -/
def State.fetchError (s : State) (c : Nat) : State :=
  (s.modDma c fun m => { m with stop := .fetchError }).pump c

/-- A fetched descriptor arrives: not ready, malformed in NEXT, or taken. -/
def State.fetchReturn (s : State) (c : Nat) (ret : Ret) : State :=
  let m := s.dma c
  if !m.fetching then s
  else
    let s := s.modDma c fun m => { m with fetching := false }
    match ret with
    | .failed => if m.stop = .none then (s.pcieEvent 2).fetchError c else (s.pcieEvent 2).pump c
    | .poisoned => if m.stop = .none then (s.pcieEvent 3).fetchError c else (s.pcieEvent 3).pump c
    | .data bs =>
      if m.stop ≠ .none then s.pump c
      else if leAt bs 28 4 ≠ 0 then (s.modDma c fun m => { m with waitDesc := true }).pump c
      else
        let d : Desc := { addr := m.next, bytes := slice bs 0 32 }
        let stop : DmaStop := if d.next % 32 ≠ 0 then .fetchError else if d.last then .last else .none
        let s := s.modDma c fun m => { m with descs := m.descs ++ [d], stop := stop }
        (if stop = .none then s.modDma c fun m => { m with next := d.next } else s).pump c

/-- DESC_COMPLETE: where it is the channel's turn, its oldest descriptor that may end does; while the function may not send none ends
(R273, R277, R286). -/
def State.completeDesc (s : State) (c : Nat) (refused : Bool) : State :=
  let s := s.pump c
  if !s.canSend || !s.isTurn c then s
  else match s.endable c with
    | some (i, d) => ((s.endDesc c i d refused).served c).pump c
    | none => s

/-! Ends of chains (R75, R239, R283 to R286) -/

/-- ABORT (R283): descriptors in progress take ERR 6 once their requests are back. -/
def State.abortChannel (s : State) (c : Nat) : State :=
  if !(s.dma c).active then s
  else (s.modDma c fun m =>
    { m with stop := .abort, waitDesc := false
             descs := m.descs.map fun d => if d.err = 0 && !d.whole then { d with err := 6 } else d }).pump c

/-- A reset or link loss ends a channel's requests at once and its descriptors with ERR 7, one in a ring once its span is filled (R75, R239,
R281, R285). A descriptor whose data has moved and whose STATUS has not been written ends so too. One that is BAD already keeps its ERR, and
one marked aborted (6) ends with ERR 7 (DESIGN CHOICE, log 106). -/
def State.endChannel (s : State) (c : Nat) : State :=
  if !(s.dma c).active then s
  else
    let s := s.modDma c fun m =>
      { m with stop := .reset, waitDesc := false, fetching := false
               tail := if s.chRingEn c && s.chD2h c then s.f (CH_CONS_COUNT c) else m.tail
               descs := m.descs.map fun d => { d with reqs := [], err := if d.err = 0 || d.err = 6 then 7 else d.err } }
    (s.ev (CH_STAT_RESET_ENDED c)).settle c

/-! Writes of the channel registers (R268, R287, R288) -/

/-- A refused setting of a channel. -/
def State.dmaCfgError (s : State) (c : Nat) : State := (s.ev (CH_STAT_CFG_ERROR c)).raise 29 c

/-- The conditions of R287, of the registers as they stand: a GO ends what a reset of the function left the ring (R281). -/
def State.goOk (s : State) (c : Nat) : Bool :=
  let q := s.f (CH_CFG_RB_QUOTA c)
  let l := s.f (CH_CFG_RING_LOG2 c)
  !(s.dma c).active && 1 ≤ q && q ≤ 64 &&
  (!s.b (CH_CFG_RING_EN c) ||
    (12 ≤ l && l ≤ 30 && s.rd64 (CH_RING_LO c) % 2 ^ l = 0 && s.rd64 (CH_RING_LO c) + 2 ^ l ≤ s.installed))

/-- GO (R287): the chain starts at CH_HEAD. -/
def State.goChannel (s : State) (c : Nat) : State :=
  if s.goOk c then
    let start := if s.b (CH_CFG_DIR c) then s.f (CH_CONS_COUNT c) else s.f (CH_PROD_COUNT c)
    (s.modDma c fun m => { active := true, next := s.rd64 (CH_HEAD_LO c), tail := start, spans := m.spans, wm := m.wm }).pump c
  else s.dmaCfgError c

/-- KICK: a channel in WAIT_DESC fetches again (R258). -/
def State.kickChannel (s : State) (c : Nat) : State :=
  if (s.dma c).waitDesc then (s.modDma c fun m => { m with waitDesc := false }).pump c else s

/-- FLUSH: a D2H ring channel drains until its fill is 0 (R271). -/
def State.flushChannel (s : State) (c : Nat) : State :=
  if (s.dma c).active && s.chRingEn c && s.chD2h c then
    (s.modDma c fun m => { m with flush := true, paused := false }).pump c
  else s

/-- A write of CH_CTRL: ABORT before GO (R284). -/
def State.chCtrlWrite (s : State) (c : Nat) (new : Word) : State :=
  let n := new.toNat
  let s := s.wn (CH_CTRL c) 0
  let s := if bitAt n 2 then s.abortChannel c else s.when (bitAt n 0) (·.goChannel c)
  let s := s.when (bitAt n 1) (·.kickChannel c)
  s.when (bitAt n 3) (·.flushChannel c)

/-- A write of CH_CFG, CH_HEAD or CH_RING at an address: ignored while a chain runs (R288, R743). What a reset kept of CH_CFG or the ring's
address gives way to it. -/
def State.chSetWrite (s : State) (c a : Nat) (new : Word) : State :=
  if (s.dma c).active then (if new = s.rd a then s else s.dmaCfgError c)
  else (s.wr a new).modDma c fun m =>
    { m with keptCfg := if a = CH_CFG c then none else m.keptCfg
             keptRing := if a = CH_RING_LO c || a = CH_RING_HI c then none else m.keptRing }

/-- The same of a 64-bit value (R118). While a chain runs a write of CH_HEAD is compared with the start address the register holds, which its read
does not give (DESIGN CHOICE, log 110). -/
def State.chSetWrite64 (s : State) (c a v : Nat) : State :=
  if (s.dma c).active then (if v = s.rd64 a then s else s.dmaCfgError c)
  else (s.wr64 a v).modDma c fun m => { m with keptRing := if a = CH_RING_LO c then none else m.keptRing }

/-- A write of CH_PROD or CH_CONS (R268). It is judged against 2^RING_LOG2 with RING_EN 0 too (DESIGN CHOICE, log 106). -/
def State.chCountWrite (s : State) (c : Nat) (prod : Bool) (v : Nat) : State :=
  let a := if prod then CH_PROD_COUNT c else CH_CONS_COUNT c
  let v := v % countMod
  let up := (v + countMod - s.f a) % countMod
  if v = s.f a then s
  else if prod = s.chD2h c &&
      (if prod then s.chFill c + up ≤ s.chSize c else up ≤ s.chFill c) then
    (s.setF a v).pump c
  else s.dmaCfgError c

/-! Commands -/

/-- DESC_FETCH_RETURN (R256 to R261, R279). -/
def execDescFetchReturn (c : Fin 32) (ret : Ret) (s : State) : Host.Outcome State Fault Refusal :=
  .next (s.awake (·.fetchReturn c ret))

/-- DMA_REQUEST_ISSUE (R270, R271, R273 to R275). -/
def execDmaRequestIssue (c : Fin 32) (s : State) : Host.Outcome State Fault Refusal :=
  .next (s.awake (·.issueRequest c))

/-- DATA_RETURN (R276, R280, R292). -/
def execDataReturn (c : Fin 32) (ret : Ret) (s : State) (n : Nat := 0) (upsets : List (Nat × Bool) := []) : Host.Outcome State Fault Refusal :=
  .next (s.awake fun s => (s.upset upsets).dataReturn c n ret)

/-- DESC_COMPLETE (R277, R282). -/
def execDescComplete (c : Fin 32) (s : State) (refused : Bool := false) : Host.Outcome State Fault Refusal :=
  .next (s.awake (·.completeDesc c refused))

end Sys2Proof.Machine
end

