-- ==== Sys2Proof/Machine/Reject.lean ====
section
/-!
DEFINITION. Reject.lean: the reject stations (13_motion.md R534 to R538, R747; 01_architecture.md R35, R36).
-/

namespace Sys2Proof.Machine
open Reg Fld

/-- Position of a station's channel in its domain's forward direction (R346, R534). -/
def State.rejPos (s : State) (r : Nat) : Int :=
  (if s.b (DCD_SRC_REVERSE (s.f (REJ_CFG_DCD r))) then -1 else 1) * s.pos64 (s.f (REJ_CFG_CHANNEL r))

/-- Items queued, as REJ_STAT shows them, and whether an overflow span is open (R535). -/
def State.rejShow (s : State) (r : Nat) : State :=
  let es := (s.rej r).entries
  let s := s.setF (REJ_STAT_QUEUED r) (es.filter (·.queued)).length
  let s := s.setB (REJ_STAT_OVF_SPAN r) (es.any fun e => !e.queued && e.opened)
  s.modRej r fun x => { x with high := s.b (REJ_CFG_EN r) && x.entries.any fun e => e.opened && e.high }

/-- Queue an item that enters PRINTING at boundary `now` with first issued line `line` (R535). A replay item is queued nowhere
(R227). -/
def State.rejQueue (s : State) (i : Item) (line now : Nat) : State :=
  let r := i.reject
  if r = 0xFF || i.replay then s else
  let full := 256 ≤ ((s.rej r).entries.filter (·.queued)).length
  let e : RejEntry :=
    { item := i.id, ref := if lineDiff line now ≤ 0 then some (s.rejPos r) else none, refLine := line,
      dist := (s.rn (REJ_DIST r) : Int) * one, len := (s.rn (REJ_LEN r) : Int) * one, queued := !full, high := false }
  let s := s.modRej r fun x => { x with entries := x.entries ++ [e] }
  let s := s.when full fun s => ((s.spoil 17 i.id).ev (REJ_STAT_QUEUE_FULL r)).raise 86 r
  s.rejShow r

/-- The references taken at the boundary of a dot period (R535). -/
def State.rejRefs (s : State) (d p : Nat) : State :=
  s.forEach (List.range 4) fun s r =>
    if s.f (REJ_CFG_DCD r) = d then
      let x := s.rejPos r
      s.modRej r fun q => { q with entries := q.entries.map fun e =>
        if e.ref.isNone && e.refLine = p then { e with ref := some x } else e }
    else s

/-- Has the channel reached an item's window start? -/
def RejEntry.starts (x : Int) (e : RejEntry) : Bool :=
  match e.ref with
  | some r => !e.opened && decide (r + e.dist ≤ x)
  | none => false

/-- Has the channel reached an item's window end? That of an item whose reference is still to be taken lies ahead. -/
def RejEntry.over (x : Int) (e : RejEntry) : Bool :=
  match e.ref with
  | some r => decide (r + e.dist + e.len ≤ x)
  | none => false

/-- A spoiled item is diverted from now to its window's end, and counts its one pulse (R36, R536, R537). -/
def State.rejDivert (s : State) (r item : Nat) : State :=
  if (s.rej r).entries.any fun e => e.item = item && e.opened && !e.high then
    let s := s.modRej r fun q => { q with entries := q.entries.map fun e =>
      if e.item = item && e.opened then { e with high := true } else e }
    ((s.ev (REJ_STAT_PULSE r)).incSat (REJ_CNT_PULSES r) 1).rejShow r
  else s

/-- An outcome that is not final in the item's window becomes SPOILED with DECISION_LATE, and is final from then on (R35). -/
def State.decisionLate (s : State) (r item : Nat) : State :=
  let s := (((s.spoil 16 item).ev (REJ_STAT_LATE r)).incSat (REJ_CNT_LATE r) 1).raise 87 r
  s.modItem item fun i => { i with late := true }

/-- A window starts (R35, R36, R535, R536, R538): an outcome not final is late, but in STANDBY, where it is still to come with the mirrored record
(Table 19.4); a diverted item counts one pulse; a decided item is DELIVERED. -/
def State.rejStart (s : State) (r : Nat) (e : RejEntry) : State :=
  match s.item? e.item with
  | none => s.modRej r fun q => { q with entries := q.entries.filter (· ≠ e) }
  | some i =>
    let late := i.stage ≠ .decided && i.kept.isNone && s.role ≠ 3
    let s := (s.when late (·.decisionLate r i.id)).modItem i.id fun i => { i with windowed := true }
    let s := s.modRej r fun q => { q with entries := q.entries.map fun x => if x = e then { e with opened := true } else x }
    let s := s.when (i.spoiled || late || !e.queued) (·.rejDivert r i.id)
    s.when (i.stage = .decided) (·.dropItem i.id)

/-- The twin is STANDBY no more, and its items' outcomes are its own: one not final in its open window is late (R35, R36). -/
def State.ownWindows (s : State) : State :=
  let open_ := s.items.filter fun i => i.windowed && !i.late && i.kept.isNone && i.stage ≠ .decided && !i.replay
  open_.foldl (fun s i => (s.decisionLate i.reject i.id).rejDivert i.reject i.id) s

/-- The station as its channel now stands: windows start in queue order, then windows and spans that have ended close. -/
def State.rejAdvance (s : State) (r : Nat) : State :=
  let x := s.rejPos r
  let s := ((s.rej r).entries.filter (·.starts x)).foldl (fun s e => s.rejStart r e) s
  let es := (s.rej r).entries
  let spanOver := (es.filter (!·.queued)).all (·.over x)
  let gone (e : RejEntry) : Bool := e.opened && if e.queued then e.over x else spanOver
  (s.modRej r fun q => { q with entries := q.entries.filter fun e => !gone e }).rejShow r

/-- The stations that measure on a channel, after it has moved. -/
def State.rejMoved (s : State) (c : Nat) : State :=
  s.forEach (List.range 4) fun s r => if s.f (REJ_CFG_CHANNEL r) = c then s.rejAdvance r else s

/-- Does an item in the item table name the output (R747)? -/
def State.rejNamed (s : State) (r : Nat) : Bool := s.items.any (·.reject = r)

/-- A write of REJ_CFG[r] or REJ_DIST[r] at address a (R747). -/
def State.rejWrite (s : State) (r a : Nat) (new : Word) : State :=
  if new = s.rd a || !s.rejNamed r then s.wr a new
  else (s.ev (REJ_STAT_CFG_ERROR r)).raise 85 r

end Sys2Proof.Machine
end

