-- ==== Sys2Proof/Machine/DotClock.lean ====
section
/-!
DEFINITION. DotClock.lean: the dot-clock domains (09_dot_clock.md): the shadow group, GO and STOP, boundaries, overspeed, the speed
factor; line descriptors taken by the pipelines (06_jobs_ordering.md R204 to R206) and take-up by the lanes
(08_raster_path.md R308 to R317).
-/

namespace Sys2Proof.Machine
open Reg Fld

/-! Shadow group (R360, R744) -/

/-- A CFG_ERROR of a domain. -/
def State.dcdCfgError (s : State) (d : Nat) : State := (s.ev (DCD_STAT_CFG_ERROR d)).raise 42 d

/-- Is a frequency word within R360? -/
def freqOk (freq tmin : Nat) : Bool := freq ≠ 0 && freq * tmin ≤ 0x100000000

/-- Do the shadow registers meet R360? -/
def State.dcdShadowOk (s : State) (d : Nat) : Bool :=
  0x40000000 ≤ s.rd64 (DCD_PITCH_LO d) && freqOk (s.rn (DCD_FREQ d)) (s.f (DCD_TMIN_TICKS d))

/-- Does the active set meet R360 for a mode? -/
def State.dcdActiveOk (s : State) (d mode : Nat) : Bool :=
  if mode = 2 then freqOk (s.dom d).freq (s.f (DCD_TMIN_TICKS d)) else 0x40000000 ≤ (s.dom d).pitch

/-- A boundary of the group: whether it committed (R139, R360). The accumulator is brought up to date first. -/
def State.dcdCommit (s : State) (d : Nat) : State × Bool :=
  if !s.b (DCD_SHCTL_ARM d) then (s, false)
  else if s.dcdShadowOk d then
    let a := s.accumNow d
    let s := s.modDom d fun x =>
      { x with pitch := s.rd64 (DCD_PITCH_LO d), freq := s.rn (DCD_FREQ d),
               trim := toSigned 6 (s.f (DCD_TRIM_TRIM d)), accum := a, accumAt := s.tb }
    (s.committed (DCD_SHCTL d), true)
  else ((s.disarm (DCD_SHCTL d)).dcdCfgError d, false)

/-! The compare unit of a domain (R569, R570) -/

/-- A CFG_ERROR of a channel. -/
def State.fbCfgError (s : State) (c : Nat) : State := (s.ev (FB_STAT_CFG_ERROR c)).raise 93 c

/-- The shadow NEXT and PITCH of a unit. -/
def State.cmpShadow (s : State) (c k : Nat) : Cmp :=
  { next := s.rdS64 (CMP_NEXT_LO c k) * one + (s.rn (CMP_NEXT_FRAC c k) : Int), pitch := s.rd64 (CMP_PITCH_LO c k) }

/-- A boundary of the unit's group: a commit where it is armed and its shadow PITCH is not 0 (R569, R744). -/
def State.cmpCommit (s : State) (c k : Nat) : State :=
  if !s.b (CMP_SHCTL_ARM c k) then s
  else if s.rd64 (CMP_PITCH_LO c k) = 0 then (s.disarm (CMP_SHCTL c k)).fbCfgError c
  else (s.setCmp (4 * c + k) (s.cmpShadow c k)).committed (CMP_SHCTL c k)

/-- The compare unit a domain names: channel and unit. -/
def State.dcdUnit (s : State) (d : Nat) : Nat × Nat := (s.f (DCD_SRC_CHANNEL d), s.f (DCD_SRC_CMP d))

/-- Is the domain the owner of the unit it names? -/
def State.ownsUnit (s : State) (d : Nat) : Bool :=
  let (c, k) := s.dcdUnit d
  s.b (CMP_CTL_OWNED c k) && s.f (CMP_CTL_OWNER c k) = d

/-- While owned, NEXT and PITCH read the owner's next target, on the channel's scale, and active pitch. -/
def State.unitFollow (s : State) (d : Nat) : State :=
  if !s.ownsUnit d then s else
  let (c, k) := s.dcdUnit d
  let x := s.dom d
  let t := s.forward d x.made * x.target
  let s := s.setCmp (4 * c + k) { next := t, pitch := x.pitch }
  let s := (s.wn (CMP_NEXT_FRAC c k) (t % one).toNat).wrS64 (CMP_NEXT_LO c k) (t / one)
  s.wr64 (CMP_PITCH_LO c k) x.pitch

/-- Another running domain in position mode that names the unit of d (DCD_SRC), the lowest. -/
def State.unitHeir (s : State) (d : Nat) : Option Nat :=
  (List.range 4).find? fun e => e ≠ d && !s.stopped e && s.f (DCD_CTRL_MODE e) = 1 && s.dcdUnit e = s.dcdUnit d

/-- The unit passes to the domain, from another one that names it too; or, where the domain is its owner, on to such a domain that still runs, else
back to software with EN 0, where the next cycle is a boundary of its group (R569, R570). A set armed or pending as the domain takes the unit stays
so, and commits then over the domain's last values. Which of two domains is the owner, and what becomes of the set, are DESIGN CHOICES (log 108). -/
def State.unitOwn (s : State) (d : Nat) (own : Bool) : State :=
  if s.f (DCD_CTRL_MODE d) ≠ 1 then s else
  let (c, k) := s.dcdUnit d
  if own then ((s.setB (CMP_CTL_OWNED c k) true).setF (CMP_CTL_OWNER c k) d).unitFollow d
  else if !s.ownsUnit d then s
  else match s.unitHeir d with
  | some e => (s.setF (CMP_CTL_OWNER c k) e).unitFollow e
  | none => ((s.setB (CMP_CTL_OWNED c k) false).setB (CMP_CTL_EN c k) false).cmpCommit c k

/-! GO and STOP (R341, R345, R361, R363 to R365, R373) -/

/-- Speed factors as DCD_SPEED shows them, 1.24 to 1.15. -/
def State.speedShow (s : State) (d : Nat) : State :=
  let x := s.dom d
  (s.setF (DCD_SPEED_S d) (x.speed / 512)).setF (DCD_SPEED_S_TARGET d) (x.speedTarget / 512)

/-- The next target on the forward scale from a register pair of raw counts, for the boundary of an index. -/
def State.originAt (s : State) (d i a : Nat) : Int := s.forward d i * (s.rdS64 a * one)

/-- The SYNCs that a lane still owes for lines of the run before go out before a new run renumbers its lines (R433; DEDUCED, log 102). -/
def State.syncsOut (s : State) (l : Nat) : State :=
  (List.range ((s.lane l).slices.length * s.nph l)).foldl (fun s _ => s.syncTx l) s

/-- A domain as a GO starts it, with the active set it then has; a derate request made since its last boundary stands (R372). -/
def State.dcdStart (s : State) (d : Nat) (committed : Bool) : State :=
  let x := s.dom d
  let acc := if committed then ofSigned 32 (x.trim * 0x4000000) else 0
  let t := s.originAt d 0 (DCD_ORIGIN_LO d)
  let s := s.modDom d fun x =>
    { x with start := s.rn (DCD_START d), made := 0, target := t, lastTarget := t, step := (x.pitch : Int),
             accum := acc, accumAt := s.tb, speed := 0x1000000, speedTarget := 0x1000000,
             speedDerate := 0x1000000, quiet := 0, blockBlank := false, hold := false, replayTail := [] }
  let s := { s with expect := s.expect.filter fun e => e.1 / 8 ≠ d }
  let s := s.forEach (s.domainLanes d) fun s l => (s.syncsOut l).modLane l fun x => { x with lastSense := 0xFFFFFFFF }
  let s := s.forEach (s.domainLanes d) fun s l => s.modVLane l fun v => { v with gap := v.gap.map fun g => { g with ended := true } }
  let s := s.forEach (s.domainStreams d) fun s n => s.modStrm n fun x => { x with held := [] }
  let s := (s.setF (DCD_CTRL_STATE d) 1).setF (DCD_PHASE_LAG d) 0
  ((s.speedShow d).unitOwn d true).parkClash

/-- GO (R361, R705): every condition, then the commit at GO. -/
def State.dcdGo (s : State) (d : Nat) : State :=
  let mode := s.f (DCD_CTRL_MODE d)
  let c := s.f (DCD_SRC_CHANNEL d)
  let ls := s.domainLanes d
  let ok := s.stopped d && (mode = 1 || mode = 2) && ls ≠ [] &&
    (ls.all fun l => s.firePeriod l ≤ s.f (DCD_TMIN_TICKS d)) &&
    (mode ≠ 1 || (c < 12 && s.b (FB_LIVE_DETECTED c) &&
      decide (s.xhat d 0 < s.originAt d 0 (DCD_ORIGIN_LO d)))) &&
    (!s.scanning d || s.f (RAS_SCAN_PASS_LINES d) ≠ 0) && s.role ≠ 5
  if !ok then s.dcdCfgError d
  else
    let (s', committed) := s.dcdCommit d
    if s'.dcdActiveOk d mode then s'.dcdStart d committed
    else if committed then s.dcdCfgError d else s'.dcdCfgError d

/-- STOP (R363). -/
def State.dcdStop (s : State) (d : Nat) : State := if s.stopped d then s else s.setF (DCD_CTRL_STATE d) 2

/-- A write of DCD_CTRL[d]: MODE is changed only while STOPPED (R362), STOP wins over GO (R377). -/
def State.dcdCtrlWrite (s : State) (d : Nat) (new : Word) : State :=
  let n := new.toNat
  let s := if bits n 1 0 = s.f (DCD_CTRL_MODE d) then s
    else if s.stopped d then s.setF (DCD_CTRL_MODE d) (bits n 1 0)
    else s.ev (DCD_STAT_CFG_ERROR d)
  let s := s.when (bitAt n 4) fun s => s.modDom d fun x => { x with derate := true }
  if bitAt n 3 then s.dcdStop d else if bitAt n 2 then s.dcdGo d else s

/-- A write of DCD_SRC, DCD_START, DCD_ORIGIN or DCD_TMIN at address a (R362). -/
def State.dcdSetWrite (s : State) (d a : Nat) (new : Word) : State :=
  if new = s.rd a || s.stopped d then s.wr a new else s.ev (DCD_STAT_CFG_ERROR d)

/-- A write of DCD_SHCTL[d] with ARM (R141, R360). -/
def State.dcdArm (s : State) (d : Nat) (arm : Bool) : State :=
  if arm then
    if s.dcdShadowOk d then s.setB (DCD_SHCTL_ARM d) true
    else (s.disarm (DCD_SHCTL d)).dcdCfgError d
  else s.disarm (DCD_SHCTL d)

/-- A domain in HOLD takes the next origin (R356). -/
def State.takeOrigin (s : State) (d : Nat) : State :=
  let x := s.dom d
  if x.hold && s.b (DCD_BLOCK_CTL_VALID d) then
    let t := s.originAt d x.made (DCD_BLOCK_ORIGIN_LO d)
    let s := s.setB (DCD_BLOCK_CTL_VALID d) false
    let s := s.modDom d fun x => { x with hold := false, target := t }
    let s := s.when (s.f (DCD_CTRL_STATE d) = 3) (·.setF (DCD_CTRL_STATE d) 1)
    s.unitFollow d
  else s

/-! Pacing (R352) -/

/-- PACING_LOSS of a domain. -/
def State.pacingLoss (s : State) (d : Nat) : State :=
  let s := s.spoilWhere 12 fun i => i.dcd = d && i.stage = Stage.printing
  (s.ev (DCD_STAT_PACING_LOSS d)).raise 43 d

/-- Is a domain running in position mode from a channel? -/
def State.pacedBy (s : State) (d c : Nat) : Bool :=
  !s.stopped d && s.f (DCD_CTRL_MODE d) = 1 && s.f (DCD_SRC_CHANNEL d) = c

/-- A channel fault (R561). -/
def State.pacingFault (s : State) (c : Nat) : State :=
  s.forEach (List.range 4) fun s d => s.when (s.pacedBy d c) (·.pacingLoss d)

/-- Is the domain within a scanning block: its next boundary begins no block? -/
def State.inBlock (s : State) (d : Nat) : Bool :=
  let m := (s.dom d).made
  4 < m && lineIndex m % s.passLines d ≠ 0

/-- A change of direction of a channel. -/
def State.pacingTurn (s : State) (c : Nat) : State :=
  s.forEach (List.range 4) fun s d =>
    let bad := if s.scanning d then s.inBlock d
      else s.items.any fun i => i.dcd = d && i.stage = Stage.printing
    s.when (s.pacedBy d c && bad) (·.pacingLoss d)

/-! The boundary: line, stamp, targets (R340 to R347, R356 to R359) -/

/-- Is a boundary of the domain due now (R344, R348, R353, R356, R358)? -/
def State.boundaryDue (s : State) (d : Nat) : Bool :=
  let x := s.dom d
  let c := s.f (DCD_SRC_CHANNEL d)
  let rested := x.bcount = 0 || s.rd64 (DCD_BOUND_TB_LO d) + s.f (DCD_TMIN_TICKS d) ≤ s.tb
  if s.stopped d || !rested then false
  else if s.f (DCD_CTRL_MODE d) = 2 then 0x100000000 ≤ s.accumNow d
  else c < 12 && s.b (FB_CTRL_EN c) && s.b (FB_LIVE_DETECTED c) && !x.hold && decide (x.target ≤ s.xhat d x.made)

/-- The step to the next target and the accumulator after boundary i. -/
def State.bndStep (s : State) (d i : Nat) (committed : Bool) : State :=
  let x := s.dom d
  if s.f (DCD_CTRL_MODE d) = 2 then
    let a := s.accumNow d - 0x100000000
    let a := if committed then a / 0x100000000 * 0x100000000 + ofSigned 32 ((a : Int) + x.trim * 0x4000000) else a
    s.setDom d { x with accum := a, accumAt := s.tb, made := i + 1, bcount := x.bcount + 1 }
  else
    let g : Int := (x.pitch : Int) + if committed then tdiv ((x.pitch : Int) * x.trim) 64 else 0
    let ends := s.scanning d && 4 ≤ i && lineIndex (i + 1) % s.passLines d = 0
    let s := s.setDom d { x with lastTarget := x.target, target := x.target + g, step := g, made := i + 1,
                                 bcount := x.bcount + 1, hold := ends }
    let s := s.when ends (·.takeOrigin d)
    let s := s.when (s.dom d).hold fun s => s.when (s.f (DCD_CTRL_STATE d) = 1) (·.setF (DCD_CTRL_STATE d) 3)
    let (c, k) := s.dcdUnit d
    (s.unitFollow d).when (s.ownsUnit d) fun s => s.wn (CMP_HITS c k) (s.rn (CMP_HITS c k) + 1)

/-- DCD_LINE, DCD_BOUND_TB and event 16 + d (R342). -/
def State.bndMark (s : State) (d p : Nat) : State :=
  ((s.wn (DCD_LINE d) p).wr64 (DCD_BOUND_TB_LO d) s.tb).engEvents (16 + d) allEngines

/-! Scanning blocks (R333, R335) -/

/-- Does an item that is printing have a line in block b, or one before it? -/
def State.printsIn (s : State) (d b : Nat) (i : Item) : Bool :=
  i.dcd = d && i.stage = Stage.printing && match i.lineOf with
    | some f => s.blockOf d ((f + 0x100000000 - (s.dom d).start) % 0x100000000) ≤ b
    | none => false

/-- At the boundary of a block's first line: its pass and direction, and the direction flag sampled in position mode. Where that differs,
no lane fires in the block, and the items printing in it are SPOILED; one that enters PRINTING later is at its take-up. -/
def State.bndBlock (s : State) (d i : Nat) : State :=
  if !s.scanning d || i < 4 || lineIndex i % s.passLines d ≠ 0 then s
  else
    let b := s.blockOf d (lineIndex i)
    let rev := s.blockRev d b
    let s := s.setF (RAS_SCAN_STAT_PASS d) (s.blockPass d b)
    let s := (s.setB (RAS_SCAN_STAT_DIR d) rev).setF (RAS_SCAN_STAT_BLOCK d) (b % 0x1000000)
    let want := xor rev (s.b (DCD_SRC_REVERSE d))
    let bad := s.f (DCD_CTRL_MODE d) = 1 && s.b (FB_LIVE_DIR (s.f (DCD_SRC_CHANNEL d))) ≠ want
    let s := s.modDom d fun x => { x with blockBlank := bad }
    if !bad then s
    else
      let s := s.forEach (s.domainLanes d) fun s l => (s.modLane l fun x =>
        { x with slices := (x.slices.filter fun c => !(s.blockOf d c.rline = b && 0 < c.framed)).map fun c =>
            if s.blockOf d c.rline = b then c.blanked else c })
      let s := s.spoilWhere 13 (s.printsIn d b)
      s.raise 39 d

/-! Overspeed and the speed factor (R370 to R376) -/

/-- The items that own a dot period on any lane of a domain, each once. -/
def State.ownersOf (s : State) (d p : Nat) : List Nat :=
  ((s.domainLanes d).filterMap fun l => (s.ownerOf l p).map (·.id)).eraseDups

/-- OVS_POLICY for one item (Table 9.1); true where the domain is to stop. -/
def State.overspeedItem (s : State) (id : Nat) : State × Bool :=
  match s.item? id with
  | none => (s, false)
  | some i =>
    let spoils := i.ovsPolicy ≠ 3 || i.regulated
    let s := s.modItem id fun i =>
      let i := s.cause 1 spoils i
      { i with allBlank := i.allBlank || i.ovsPolicy = 1 || i.ovsPolicy = 2 }
    (s, i.ovsPolicy = 2)

/-- The lag of a boundary, in 1/64 dot (R375). -/
def State.lagAt (s : State) (d i : Nat) : Nat :=
  let x := s.dom d
  (max 0 (64 * (s.xhat d i - x.target) / (max 1 x.pitch : Nat))).toNat

/-- Overspeed and the lag limit (R375, R376). -/
def State.bndLag (s : State) (d p lag : Nat) : State :=
  if s.f (DCD_CTRL_MODE d) ≠ 1 then s else
  let s := s.setF (DCD_PHASE_LAG d) (min lag 0xFFFF)
  let s :=
    if s.f (DCD_OVS_TOL d) < lag then
      let s := (s.ev (DCD_STAT_OVERSPEED d)).raise 40 d
      let s := s.modDom d fun x => { x with derate := true }
      let ids := s.ownersOf d p
      let (s, stop) := ids.foldl (fun (x : State × Bool) id =>
        let (s, st) := x.1.overspeedItem id
        (s, x.2 || st)) (s, false)
      s.when stop (·.raise 41 d)
    else s
  if 64 * max 1 (s.f (DCD_OVS_LAG_MAX d)) ≤ lag then (s.ev (DCD_STAT_LAG_LIMIT d)).raise 41 d else s

/-- S_fill as 1.24 (R370). -/
def State.sFill (s : State) (d : Nat) : Nat :=
  let ref := s.f (DCD_SLOW_FILL_REF d)
  let ns := s.domainStreams d
  if ref = 0 || ns = [] then 0x1000000 else min 0x1000000 (minOf (ns.map s.rasFill) * 0x1000000 / ref)

/-- Derating and S_target at a boundary (R370, R372), from S_fill as it stood at the start of its cycle (Table 9.2). -/
def State.bndSpeed (s : State) (d fill : Nat) : State :=
  let x := s.dom d
  let step := s.f (DCD_DERATE_STEP d) * 0x10000
  let hold := max 1 (s.f (DCD_DERATE_HOLD d))
  let (drt, quiet) :=
    if x.derate then (x.speedDerate - step, 0)
    else if hold ≤ x.quiet + 1 then (min 0x1000000 (x.speedDerate + step), 0)
    else (x.speedDerate, x.quiet + 1)
  let s := s.when (x.derate && drt < x.speedDerate) (·.ev (DCD_STAT_DERATED d))
  let s := s.setDom d { x with speedDerate := drt, quiet := quiet, derate := false, speedTarget := min fill drt }
  s.speedShow d

/-- S at a planning tick (R371); the accumulator keeps what it counted at the old S. -/
def State.speedTick (s : State) (d : Nat) : State :=
  let x := s.dom d
  let slew := s.f (DCD_DERATE_SLEW d)
  let v := if x.speed < x.speedTarget then min x.speedTarget (x.speed + slew) else max x.speedTarget (x.speed - slew)
  let s := s.setDom d { x with accum := s.accumNow d, accumAt := s.tb, speed := v }
  s.speedShow d

/-! Lines fired, items leaving PRINTING, STOPPED (R206, R221, R307, R363, R364) -/

/-- Where the slot of the last fire phase of an issued line begins (DESIGN CHOICE, log 106) on the lane of its mask with the largest DELAY + PHASE /
64, in 64ths of a dot from the boundary of its own line count (R307); of lanes with one offset, the last. -/
def State.lastPhase (s : State) (t : TakenLine) : Nat :=
  let ls := (bitsSet t.mask.toNat 8).map (8 * t.pipe + ·)
  let offset (l : Nat) : Nat := 64 * s.f (RAS_SKEW_DELAY l) + s.f (RAS_SKEW_PHASE l)
  let top := maxOf (ls.map offset)
  maxOf ((ls.filter (offset · = top)).map fun l => 64 * s.f (RAS_SKEW_DELAY l) + s.slotStart l (s.nph l - 1))

/-- An item's LAST line has fired or been spoiled on a pipeline; on the last of them it enters VERIFYING with event 20 + d. -/
def State.pipeDone (s : State) (id pipe : Nat) : State :=
  let s := s.modItem id fun i => { i with donePipes := i.donePipes ||| (1#8 <<< pipe) }
  match s.item? id with
  | some i =>
    if i.stage = .printing && i.donePipes &&& i.pipeMask = i.pipeMask then
      (s.modItem id fun i => { i with stage := .verifying }).engEvents (20 + i.dcd) allEngines
    else s
  | none => s

/-- Has a line passed its last fire phase `ph` 64ths of a dot into the dot period p: has that phase's slot begun (R221; the slot's begin is a DESIGN
CHOICE, log 106)? -/
def State.firedAt (s : State) (p ph : Nat) (t : TakenLine) : Bool := decide ((s.lastPhase t : Int) < 64 * lineDiff p t.line + ph)

/-- Has a line fired by now (R221, R307)? -/
def State.hasFired (s : State) (t : TakenLine) : Bool := s.firedAt (s.rn (DCD_LINE t.dcd)) (s.phaseNow t.dcd) t

/-- Has every lane of a line's mask taken it up before the boundary of p (R308)? -/
def State.takenUp (s : State) (p : Nat) (t : TakenLine) : Bool :=
  (bitsSet t.mask.toNat 8).all fun i =>
    decide (lineDiff ((t.line + s.f (RAS_SKEW_DELAY (8 * t.pipe + i))) % 0x100000000) p < 4)

/-- The taken lines that meet a condition have fired or been spoiled: their pipelines are done with the items they end (R206). -/
def State.linesGone (s : State) (gone : TakenLine → Bool) : State :=
  let ts := s.taken.filter gone
  let s := { s with taken := s.taken.filter fun t => !gone t }
  ts.foldl (fun s t =>
    match t.item with
    | some id => s.when t.last (·.pipeDone id t.pipe)
    | none => s) s

/-- The lines of a domain that have fired `ph` 64ths of a dot into the dot period p; in safe state a line that its lanes have taken up is
blanked, and counts as spoiled (R221). -/
def State.linesFired (s : State) (d p ph : Nat) : State :=
  s.linesGone fun t => t.dcd = d && (s.firedAt p ph t || s.inSafe && s.takenUp p t)

/-- The lines that have fired on a domain that makes no boundary because it waits for a block's origin; the model looks at each planning
tick (DESIGN CHOICE, log 95). -/
def State.heldFired (s : State) (d : Nat) : State :=
  if (s.dom d).hold && !s.stopped d then (s.linesFired d (s.rn (DCD_LINE d)) (s.phaseRaw d)).judgeAll else s

/-- Does a slice still wait for SYNCs: it has been sent, and no SYNC is dropped for lateness (R433)? -/
def Slice.sent (c : Slice) : Bool := c.leased && !c.replay && c.framesDone

/-- The domain enters STOPPED (R363, R364, R570). Lines still taken are those that safe state spoils (R221). -/
def State.bndStopped (s : State) (d : Nat) : State :=
  let s := s.unitOwn d false
  let s := s.setF (DCD_CTRL_STATE d) 0
  let s := s.linesGone (·.dcd = d)
  let s := s.forEach (s.domainLanes d) fun s l => s.modLane l fun x => { x with slices := x.slices.filter Slice.sent }
  s.spoilWhere 14 fun i => i.dcd = d && i.stage = Stage.printing

/-! Late frames (R432) -/

/-- Slices whose FIRE frames have not all been sent by the boundary of P - 2, the blocks of a last frame in progress among them: what is left of
them is not sent. Slices that send nothing go when their dot period has passed; those sent wait for their SYNCs (R433). -/
def State.bndLate (s : State) (d p : Nat) : State :=
  s.forEach (s.domainLanes d) fun s l =>
    let late (c : Slice) : Bool :=
      c.leased && !c.replay && (!c.framesDone || (s.tx l).fire = some c.period) && decide (lineDiff c.period p ≤ 2) && s.mayFire l
    let xs := (s.lane l).slices.filter late
    let s := xs.foldl (fun s c =>
      let s := (s.ev (HL_STAT_FIRE_LATE l)).raise 51 l
      match c.item with
      | some id => s.when (c.kind ≠ 1) (·.spoil 6 id)
      | none => s) s
    let s := s.when (xs.any fun c => (s.tx l).fire = some c.period) (·.dropFrame l)
    let keep (c : Slice) : Bool := !xs.contains c && (c.sent || decide (0 ≤ lineDiff c.period p))
    s.modLane l fun x => { x with slices := x.slices.filter keep }

/-! Line descriptors (R204 to R206, R309, R366 to R368) -/

/-- What a pipeline expects next on a domain: one more than the line before, or START (R204). -/
def State.expected (s : State) (d k : Nat) : Nat :=
  let v := Map.get (fun _ => 0) s.expect (8 * d + k)
  if v = 0 then (s.dom d).start else v - 1

/-- The pipeline has used up a line. -/
def State.lineUsed (s : State) (d k line : Nat) : State :=
  { s with expect := Map.set (fun _ => 0) s.expect (8 * d + k) ((line + 1) % 0x100000000 + 1) }

/-- Fields of a line descriptor (Table 6.5). -/
structure LineFields where
  line : Nat
  ref : Nat
  dcd : Nat
  kind : Nat
  first : Bool
  last : Bool
  mask : Nat
  tag : Nat
  zeroOk : Bool
deriving DecidableEq, Repr

/-- The fields of a descriptor's bytes. -/
def LineDesc.fields (x : LineDesc) : LineFields :=
  let k := leAt x.bytes 8 1
  let r := leAt x.bytes 4 4
  { line := leAt x.bytes 0 4, ref := r, dcd := k % 4, kind := bits k 3 2, first := bitAt k 4, last := bitAt k 5,
    mask := leAt x.bytes 9 1, tag := leAt x.bytes 12 4,
    zeroOk := bits k 7 6 = 0 && leAt x.bytes 10 2 = 0 && bits r 30 17 = 0 && allZero ((x.bytes.drop 16).take 16) }

/-- The open job and the item a descriptor names, whatever else it holds (R204 check 4). -/
def State.lineItem (s : State) (k : Nat) (x : LineFields) : Option Job × Option Item :=
  let j := (s.job? (bits x.ref 16 14) (bits x.ref 13 8)).filter fun j =>
    j.refuse = 0 && j.dcd = x.dcd && bitAt j.pipeMask.toNat k && j.tag.toNat = x.tag && bits x.ref 7 0 < j.count
  if bitAt x.ref 31 then (none, none)
  else (j, j.bind fun j => s.items.find? fun i =>
    i.queue = j.queue && i.slot = j.slot && i.tag = j.tag && i.index = bits x.ref 7 0)

/-- PRINT and BLANK lines of an item taken on a pipeline. -/
def Item.takenOn (i : Item) (k : Nat) : Nat := Map.get (fun _ => 0) i.taken k

/-- R204 but for LINE: what the descriptor may be. FIRST on a further pipeline may name any item in PRINTING with no line taken there (DESIGN
CHOICE, log 106). -/
def State.lineOk (s : State) (d k : Nat) (x : LineFields) : Bool :=
  let (j, it) := s.lineItem k x
  let none_ := bitAt x.ref 31
  x.zeroOk && x.kind ≠ 3 &&
  ((bitsSet x.mask 8).all fun i => (s.domainLanes d).contains (8 * k + i)) &&
  (if none_ then x.kind = 2 && !x.first && !x.last
   else match j, it with
    | some _, some i =>
      if x.kind = 1 then !x.last && (i.stage = Stage.printing || i.stage = Stage.verifying)
      else
        let n := i.takenOn k
        let oldest := (s.items.find? fun m => m.dcd = d && m.stage = Stage.queued).map (·.id) = some i.id
        (if x.first then n = 0 && (i.stage = Stage.printing || (i.stage = Stage.queued && oldest))
         else i.stage = Stage.printing && 0 < n) &&
        n < i.lines && (x.last = decide (n + 1 = i.lines))
    | _, _ => false)

/-- An item enters PRINTING at the boundary of p with its first issued line (R206, R535, R622, R705). -/
def State.enterPrinting (s : State) (i : Item) (line p : Nat) : State :=
  let s := s.modItem i.id fun i => { i with stage := .printing, lineOf := some line }
  let s := s.when s.inSafe (·.spoil (if s.f FLT_STAT_SAFE_LEVEL = 4 then 21 else 20) i.id)
  let s := s.when (s.role = 5) (·.spoil 18 i.id)
  s.rejQueue i line p

/-- A line that a lane has missed: the item of a PRINT line is SPOILED, source 44 (R368). -/
def State.issueLate (s : State) (t : TakenLine) : State :=
  match t.item with
  | some id =>
    if t.kind = 0 then
      let s := s.spoil 4 id
      (s.ev (DCD_STAT_ISSUE_LATE t.dcd)).raise 44 t.dcd
    else s
  | none => s

/-- A lane whose take-up boundary for a line had passed before the boundary of p misses it (R366, R368). -/
def State.missed (s : State) (p : Nat) (t : TakenLine) : State :=
  let late := (bitsSet t.mask.toNat 8).filter fun i =>
    decide (lineDiff ((t.line + s.f (RAS_SKEW_DELAY (8 * t.pipe + i))) % 0x100000000) p < 4)
  s.when (late ≠ []) (·.issueLate t)

/-- k boundaries after that of line p are not made: the lanes whose take-up boundary of a taken line lies among them miss it (R366, R710). -/
def State.passOver (s : State) (d p k : Nat) : State :=
  let late (t : TakenLine) : Bool := t.dcd = d && (bitsSet t.mask.toNat 8).any fun i =>
    let q := lineDiff ((t.line + s.f (RAS_SKEW_DELAY (8 * t.pipe + i))) % 0x100000000) p
    decide (4 < q) && decide (q ≤ 4 + (k : Int))
  (s.taken.filter late).foldl State.issueLate s

/-- Keep what the ring held of stream n for issued line r, in ascending line and stream; a line kept before stays as it is. -/
def Item.keep (i : Item) (r n : Nat) (bs : List Byte) : Item :=
  let before (x : Nat × Nat × List Byte) : Bool := x.1 < r || (x.1 = r && x.2.1 < n)
  if i.raster.any fun x => x.1 = r && x.2.1 = n then i
  else { i with raster := i.raster.filter before ++ [(r, n, bs)] ++ i.raster.filter fun x => !before x }

/-- The stream line that issued line r fires, with scanning reversal (R334); the count of R300 wraps at 2^32. -/
def State.fireLine (s : State) (d r : Nat) : Nat :=
  let pl := s.passLines d
  let w := r % 0x100000000
  let b := w / pl
  if s.scanning d && s.blockRev d b then r - w + (b * pl + (pl - 1 - w % pl)) else r

/-- What the ring holds now of the stream line that issued line r fires; what is not there counts as zero bytes (R669). -/
def State.ringLine (s : State) (d n r : Nat) : List Byte :=
  let lb := s.f (RAS_LINE_BYTES_BYTES n)
  let q := s.fireLine d r
  if s.inRing n q then s.ringBytes (s.f (RAS_STREAM_CHANNEL n)) (s.linePos n q) lb else zeros lb

/-- The bytes of stream n for issued line r go to the items they may belong to (R669). -/
def State.keepLine (s : State) (d n r : Nat) (bs : List Byte) (mine : Item → Bool) : State :=
  { s with items := s.items.map fun i =>
      if i.dcd = d && bitAt i.pipeMask.toNat (s.f (RAS_STREAM_PIPE n)) && mine i then i.keep r n bs else i }

/-- Has a pipeline with lanes on a domain still to take an issued line? -/
def State.awaited (s : State) (d r : Nat) : Bool :=
  (s.domainLanes d).any fun l => decide (0 ≤ lineDiff (((s.dom d).start + r) % 0x100000000) (s.expected d (l / 8)))

/-- Does an issued line lie in an item, as far as its extent is known: from its first issued line to its last (R669)? -/
def Item.spans (i : Item) (line : Nat) : Bool :=
  match i.lineOf with
  | some f => decide (0 ≤ lineDiff line f) && (match i.lastLine with
    | some z => decide (lineDiff line z ≤ 0)
    | none => true)
  | none => false

/-- A boundary: each enabled stream's lane with the smallest DELAY takes up its line, whatever its descriptor says, and the stream's bytes are
kept for the items the line lies in, and for one that is still to begin with it (R669). -/
def State.hashLines (s : State) (d : Nat) : State :=
  let x := s.dom d
  s.forEach (s.domainStreams d) fun s n =>
    let delay := minOf (s.delays n)
    if x.made ≤ delay then s
    else
      let r := x.made - 1 - delay
      let bs := s.ringLine d n r
      let s := s.modStrm n fun y => { y with held := (r, bs) :: y.held.filter fun h => s.awaited d h.1 }
      s.keepLine d n r bs fun i => i.spans ((x.start + r) % 0x100000000)

/-- A PRINT line of an item is taken at the boundary of p: RASTER_HASH covers it. A stream whose first lane's take-up boundary has passed already,
before the item had begun, gives the bytes held then; one that was not enabled then held nothing (R669). -/
def State.printLine (s : State) (d p id line : Nat) : State :=
  let m := (s.dom d).made - 1
  let q := (lineDiff ((p + 4) % 0x100000000) line).toNat
  if m < q then s
  else
    let r := m - q
    let s := s.modItem id fun i => if i.prints.contains r then i else { i with prints := i.prints ++ [r] }
    s.forEach ((s.domainStreams d).filter fun n => minOf (s.delays n) < q) fun s n =>
      let old := (s.strm n).held.find? (·.1 = r)
      s.keepLine d n r ((old.map (·.2)).getD (zeros (s.f (RAS_LINE_BYTES_BYTES n)))) fun i => i.id = id

/-- The lanes of a pipeline on a domain that take no part in a line of this LANE_MASK. -/
def State.unmasked (s : State) (d k mask : Nat) : List Nat := (s.domainLanes d).filter fun l => l / 8 = k && !bitAt mask (l % 8)

/-- A descriptor that meets every check is taken (R204, R206). -/
def State.lineTake (s : State) (d k p : Nat) (seq : Nat) (x : LineFields) : State :=
  let it := (s.lineItem k x).2
  let t : TakenLine :=
    { seq := seq, pipe := k, dcd := d, line := x.line, kind := x.kind, item := it.map (·.id),
      mask := BitVec.ofNat 8 x.mask, first := x.first, last := x.last }
  let s := s.lineUsed d k x.line
  let s := { s with taken := s.taken ++ [t] }
  let s := match it with
    | none => s
    | some i =>
      if x.kind = 1 then s
      else
        let s := s.when (i.stage = Stage.queued) (·.enterPrinting i x.line p)
        let s := s.modItem i.id fun i =>
          { i with taken := Map.set (fun _ => 0) i.taken k (i.takenOn k + 1)
                   outside := i.outside ++ (s.unmasked d k x.mask).map fun l => (x.line, l)
                   lastLine := if x.last then some x.line else i.lastLine }
        s.when (x.kind = 0) (·.printLine d p i.id x.line)
  s.missed p t

/-- A descriptor that fails is discarded (R205). -/
def State.lineBad (s : State) (k : Nat) (x : LineFields) : State :=
  let s := match (s.lineItem k x).2 with
    | some i => s.spoil 5 i.id
    | none => s
  s.raise 33 k

/-- A discarded descriptor that carries the expected line uses that line up: the pipeline's lanes take it up and fire no drops
(R205; DEDUCED, log 32). It does not count toward its item's extent or LAST (DESIGN CHOICE, log 106). -/
def State.lineSpent (s : State) (d k : Nat) (seq line : Nat) : State :=
  let mask := ((s.domainLanes d).filter fun l => l / 8 = k).foldl (fun m l => m + 2 ^ (l % 8)) 0
  let t : TakenLine :=
    { seq := seq, pipe := k, dcd := d, line := line, kind := 2, item := none, mask := BitVec.ofNat 8 mask, first := false,
      last := false }
  let s := s.lineUsed d k line
  { s with taken := s.taken ++ [t] }

/-- Remove a descriptor from a queue; event 5 when its free entries rise to 16 (R174, Table 5.8), not at each take-up that leaves as many (DESIGN
CHOICE, log 98). -/
def State.unqueue (s : State) (k seq : Nat) : State :=
  let q := Map.get (fun _ => []) s.issueQ k
  let q' := q.filter (·.seq ≠ seq)
  let s := { s with issueQ := Map.set (fun _ => []) s.issueQ k q' }
  s.when (48 < q.length && q'.length ≤ 48) (·.engEvent 5 k)

/-- The first descriptor of a domain in a pipeline's queue. -/
def State.nextLine (s : State) (d k : Nat) : Option LineDesc :=
  (Map.get (fun _ => []) s.issueQ k).find? fun x => x.fields.dcd = d

/-- Take a pipeline's descriptors for a domain that are due at the boundary of p: those whose line the lane with the least
delay takes up at p, or took up before; `n` at most. -/
def State.takeLines (d k p : Nat) : Nat → State → State
  | 0, s => s
  | n + 1, s =>
    match s.nextLine d k with
    | none => s
    | some q =>
      let x := q.fields
      let e := s.expected d k
      let dmin := minOf ((bitsSet x.mask 8).map fun i => s.f (RAS_SKEW_DELAY (8 * k + i)))
      if lineDiff ((p + 4) % 0x100000000) e < (dmin : Int) then s
      else
        let s := s.unqueue k q.seq
        if x.line ≠ e then takeLines d k p n (s.lineBad k x)
        else if s.lineOk d k x then takeLines d k p n (s.lineTake d k p q.seq x)
        else takeLines d k p n ((s.lineBad k x).lineSpent d k q.seq e)

/-- Every pipeline takes the descriptors due on a domain. -/
def State.bndTake (s : State) (d p : Nat) : State :=
  s.forEach (List.range 8) fun s k => State.takeLines d k p (Map.get (fun _ => []) s.issueQ k).length s

/-! Take-up by a lane (R308, R314 to R317, R382, R450, R488, R622, R667, R669, R682) -/

/-- Put a nozzle event in the items of a domain that it falls in: those that print, or those of replay jobs (R669, R677). -/
def State.itemEvent (s : State) (replay : Bool) (d line n v : Nat) (hold : Bool) : State :=
  let e := leBytes 4 line ++ leBytes 4 (n + 0x40000000 * b2n hold) ++ leBytes 8 v
  { s with items := s.items.map fun i =>
      if i.spans line && i.dcd = d && i.replay = replay && bitAt i.pipeMask.toNat (n / 32768) then
        { i with events := i.events ++ e, eventCount := i.eventCount + 1 }
      else i }

/-- Put a nozzle event in the log and in the items it falls in (R667, R669). -/
def State.nozzleEvent (s : State) (d line n v : Nat) (hold : Bool) : State :=
  (s.logNozzle line n v hold).itemEvent false d line n v hold

/-- The line, counted from START, whose take-up boundary on a lane is the boundary just made. -/
def State.takeUpIndex (s : State) (d l : Nat) : Option Nat :=
  let made := (s.dom d).made
  let delay := s.f (RAS_SKEW_DELAY l)
  if made ≤ delay then none else some (made - 1 - delay)

/-- The issued line of that index. -/
def State.lineAt (s : State) (d r : Nat) : Nat := ((s.dom d).start + r) % 0x100000000

/-- What a lane takes up at the boundary just made: the line's index and what has been taken of it. -/
def State.takeUpOf (s : State) (d l : Nat) : Option (Nat × TakenLine) :=
  match s.takeUpIndex d l with
  | none => none
  | some r => (s.taken.find? fun t => t.dcd = d && t.pipe = l / 8 && t.line = s.lineAt d r && bitAt t.mask.toNat (l % 8)).map fun t => (r, t)

/-- Does a lane hold a nozzle (R378)? -/
def State.holdsNozzle (s : State) (l n : Nat) : Bool := s.f (HL_NOZ_NBASE l) ≤ n && n < s.f (HL_NOZ_NBASE l) + s.f (HL_NOZ_COUNT l)

/-- Log the changes of nozzles whose lanes take up a line at this boundary, since their last take-up, in ascending nozzle index (R667). -/
def State.logDirty (s : State) (d : Nat) : State :=
  let lines := (s.domainLanes d).filterMap fun l => (s.takeUpOf d l).map fun x => (l, x.2.line)
  let at_ (n : Nat) : Option Nat := (lines.find? fun x => s.holdsNozzle x.1 n).map (·.2)
  let ds := s.nzDirty.filter fun x => (at_ x.1).isSome
  let s := { s with nzDirty := s.nzDirty.filter fun x => (at_ x.1).isNone }
  ds.foldl (fun s x =>
    let line := (at_ x.1).getD 0
    let s := s.when (bitAt x.2 0) fun s => s.nozzleEvent d line x.1 (s.nozzle x.1 % 0x100000000) false
    s.when (bitAt x.2 1) fun s =>
      s.nozzleEvent d line x.1 (b2n ((s.holdList (x.1 / 32768)).contains x.1)) true) s

/-- The replay jobs of a domain, each with whether its entries for lines already passed are in force: those of the first with items left, and of every
one whose items have begun or are finished. A job still to begin gives the entries of the very lines that come, and the ones before with its first
item (R228; DESIGN CHOICE, log 21). -/
def State.replayJobs (s : State) (d : Nat) : List (Job × Bool) :=
  let js := s.jobs.filter fun j => j.replay && j.refuse = 0 && j.dcd = d && !j.aborted
  let left (j : Job) : Bool := j.finished + j.withdrawn < j.count
  let begun (j : Job) : Bool := !left j || s.items.any fun i => i.queue = j.queue && i.slot = j.slot && i.lineOf.isSome
  let first := js.find? left
  js.map fun j => (j, begun j || first = some j)

/-- Does a lane bring an entry of a nozzle into force: a nozzle of its own, or of no lane of the domain? An entry of the latter kind is written, and
counts in the items whose PIPE_MASK has its bank (DESIGN CHOICE, log 21). -/
def State.replayMine (s : State) (d l n : Nat) : Bool := s.holdsNozzle l n || !(s.domainLanes d).any fun m => s.holdsNozzle m n

/-- At a boundary, whatever its lanes take up there, the entries of the replay jobs' event streams up to each lane's line come into force, each
once, in ascending nozzle index (R228, R231, R667, R677). -/
def State.replayEntries (s : State) (d : Nat) : State :=
  let lines := (s.domainLanes d).filterMap fun l => (s.takeUpIndex d l).map fun r => (l, s.lineAt d r)
  let due (past : Bool) (e : Nat × Nat × DWord) : Bool := lines.any fun x =>
    (if past then decide (lineDiff e.1 x.2 ≤ 0) else e.1 = x.2) && s.replayMine d x.1 e.2.1
  let js := s.replayJobs d
  let tail := (s.dom d).replayTail
  let s := js.foldl (fun s x =>
    s.modJob x.1.queue x.1.slot fun j => { j with replayEvents := j.replayEvents.filter fun e => !due x.2 e }) s
  let s := s.modDom d fun x => { x with replayTail := tail.filter fun e => !due true e }
  (sortOn (·.2.1) (tail.filter (due true) ++ js.flatMap fun x => x.1.replayEvents.filter (due x.2))).foldl (fun s e =>
    (s.writeNozzle e.2.1 e.2.2.toNat).itemEvent true d e.1 e.2.1 (e.2.2.toNat % 0x100000000) false) s

/-- Is the lane's slice of stream line r wholly in the ring (R314)? -/
def State.sliceIn (s : State) (n l r : Nat) : Bool :=
  let passed := (s.strm n).passed
  passed ≤ r &&
  (r - passed) * s.f (RAS_LINE_BYTES_BYTES n) + s.sliceOff n l + s.sliceBytes l (s.bpp n) ≤ s.chFill (s.f (RAS_STREAM_CHANNEL n))

/-- How many bytes of the lane's slice of stream line r are in the ring: the bytes a take-up reads (R293, R314). -/
def State.sliceHere (s : State) (n l r : Nat) : Nat :=
  let len := s.sliceBytes l (s.bpp n)
  let passed := (s.strm n).passed
  if s.sliceIn n l r then len
  else if r < passed then 0
  else min len (s.chFill (s.f (RAS_STREAM_CHANNEL n)) - ((r - passed) * s.f (RAS_LINE_BYTES_BYTES n) + s.sliceOff n l))

/-- A slice's bytes, whether it underran, and whether it is poisoned, also where it underran (R314, R316, R317); of a slice only partly in
the ring, the bytes there are read. -/
def State.readSlice (s : State) (l r : Nat) : Option Nat × List Byte × Bool × Bool :=
  match s.streamOf l with
  | none => (none, [], true, false)
  | some n =>
    let c := s.f (RAS_STREAM_CHANNEL n)
    let at_ := s.linePos n r + s.sliceOff n l
    let len := s.sliceBytes l (s.bpp n)
    if s.sliceIn n l r then (some n, s.ringBytes c at_ len, false, s.ringPoisoned c at_ len)
    else (some n, zeros len, true, s.spanPoisoned c at_ len || s.beatPoisoned c at_ (s.sliceHere n l r))

/-- Is the lane's ink supply authenticated, where REGULATED is blown (R682)? -/
def State.supplyOk (s : State) (l : Nat) : Bool :=
  !s.fuses.regulated || s.f (SUP_STAT_STATE (s.f (SUP_LANE_CHANNEL l))) = 1

/-- Why a taken-up slice fires no drops for want of a right to fire: the causes that then spoil its item. The lease of a STANDBY is no such
cause (Table 19.4). -/
def State.takeUpBars (s : State) (l : Nat) (replay : Bool) : List Nat :=
  if replay then []
  else
    (if s.inSafe then [if s.f FLT_STAT_SAFE_LEVEL = 4 then 21 else 20] else []) ++
    (if s.b (FH_STAT_INHIBITED l) then [9] else []) ++ (if s.leasedNow l || s.role = 3 then [] else [7]) ++
    (if s.supplyOk l then [] else [22])

/-- The first take-up of an item on a lane: the fired bits of its parity clear (R488). -/
def State.firstOnLane (s : State) (i : Item) (l : Nat) : State :=
  if i.printed.contains l then s
  else
    let bit := 2 ^ b2n i.parity
    let s := s.modVLane l fun v =>
      { v with fired := (v.fired.map fun x => (x.1, if bitAt x.2 (b2n i.parity) then x.2 - bit else x.2)).filter (·.2 ≠ 0) }
    s.modItem i.id fun i => { i with printed := i.printed ++ [l] }

/-- A lane's take-up boundary of the gap's last test line, or one after it where that one was passed over, ends the test phase, whatever the lane
takes up there: the position moves on by m (R473). -/
def State.gapEnds (s : State) (l period : Nat) : State :=
  match (s.vlane l).gap with
  | none => s
  | some g =>
    if g.ended || g.m = 0 || lineDiff period g.testFrom + 1 < (g.m : Int) then s
    else
      (s.modVLane l fun v => { v with gap := some { g with ended := true } }).setF (VFY_CURSOR_POS l)
        ((s.f (VFY_CURSOR_POS l) + g.m) % max 1 (s.positions l))

/-- The gap side of a take-up: the plan at the gap's first line, and the test fires of a line in the test phase (R470 to R474). A replay job's test
lines are placed by the position as it stands, and move it on (DESIGN CHOICE, log 21). A test line that fires no nozzle (R474) has no class to wait
for (R490), and one of a replay job's gap has none at all (R227, R231). A test line is classed as inhibited where its head is (R405, R622, R626, Table
12.3). -/
def State.gapTakeUp (s : State) (l d period : Nat) (i : Item) : State × List (Nat × Nat) × Bool :=
  let fresh := match (s.vlane l).gap with
    | some g => g.item ≠ i.id
    | none => !i.judged.any (·.1 = l)
  let s := s.when fresh fun s => s.planGap l d i.id i.gap period i.replay
  match (s.vlane l).gap with
  | none => (s, [], false)
  | some g =>
    let t := lineDiff period g.testFrom
    if g.item ≠ i.id || t < 0 || (g.m : Int) ≤ t then (s, [], false)
    else
      let t := t.toNat
      let fires := s.testFires l t
      let base := s.f (HL_NOZ_NBASE l)
      let x : TestLine :=
        { period := period, item := i.id, fired := fires.map fun f => (base + f.1, f.2),
          inhibited := s.b (FH_STAT_INHIBITED l) || s.inSafe || (s.lane l).heldFirst,
          noThr := !s.b (VFY_LANE_THR_VALID l) }
      let s := if g.replay then s else if fires = [] then s.finishTest l x none else s.modVLane l fun v => { v with tests := v.tests ++ [x] }
      (s, fires, true)

/-- Underrun and poison of a slice (R314, R316, R317, R369). In replay RASTER_UNDERRUN is no cause, and an item's later lines fire as they are
(R230). -/
def State.sliceFaults (s : State) (t : TakenLine) (stream : Option Nat) (under poisoned : Bool) : State :=
  let print := t.kind = 0
  let s := s.when (under && (print || stream.isSome)) fun s =>
    let s := match stream with
      | some n => (s.ev (RAS_STREAM_STAT_UNDERRUN n)).raise 36 n
      | none => s.raise 36 0
    match t.item with
    | some id =>
      if print then (s.spoil 2 id).modItem id fun i => { i with allBlank := i.allBlank || !i.replay } else s
    | none => s
  s.when (poisoned && print) fun s =>
    let s := match t.item with
      | some id => s.spoil 3 id
      | none => s
    match stream with
    | some n => (s.ev (RAS_STREAM_STAT_POISONED n)).raise 34 n
    | none => s

/-- The lane takes up the slice of a taken line (R308), line r since the GO. -/
def State.takeUpLine (s : State) (l d p r : Nat) (t : TakenLine) : State :=
  let period := (p + 4) % 0x100000000
  let w := r % 0x100000000
  let it := t.item.bind s.item?
  let replay := match it with
    | some i => i.replay
    | none => s.replaying l
  let s := s.when (t.first && !s.inSafe) fun s => s.modLane l fun x => { x with heldFirst := false }
  let s := s.headTakeUp l period t.first
  let s := match it with
    | some i => if t.kind = 1 then s else s.firstOnLane i l
    | none => s
  let bars := s.takeUpBars l replay
  let s := match it with
    | some i => if t.kind = 1 then s else s.forEach bars fun s c => s.spoil c i.id
    | none => s
  let rr := s.fireLine d r
  let (stream, data, under, poisoned) := s.readSlice l rr
  let s := match stream with
    | some n => s.when (0 < s.sliceHere n l rr) (·.ringEcc (s.f (RAS_STREAM_CHANNEL n)) (s.linePos n rr + s.sliceOff n l) (s.sliceHere n l rr))
    | none => s
  let s := s.sliceFaults t stream under poisoned
  let inBad := (s.dom d).blockBlank && s.blockOf d w = s.blockOf d (lineIndex ((s.dom d).made - 1))
  let s := match it with
    | some i => s.when inBad fun s => s.spoilWhere 13 fun m => m.id = i.id && m.stage = Stage.printing
    | none => s
  let dead := bars ≠ [] || under || (!replay && ((s.lane l).heldFirst || inBad))
  let (s, fires, testLine) := match it with
    | some i => if t.kind = 1 then s.gapTakeUp l d period i else (s, [], false)
    | none => (s, [], false)
  let now := t.item.bind s.item?
  let itemBlank := match now with
    | some i => i.allBlank || (i.spoiled && i.blank)
    | none => true
  let printBlank := poisoned || itemBlank
  let blank := dead || t.kind = 2 || (t.kind = 0 && printBlank) || (t.kind = 1 && fires = [])
  let c : Slice :=
    { line := t.line, period := period, bcount := (s.dom d).bcount, kind := t.kind, item := t.item,
      blank := blank, stream := stream, data := data, rline := rr % 0x100000000,
      pass := if s.scanning d then some (s.blockPass d (s.blockOf d w), s.f (RAS_SCAN_PASSES d) + 1) else none,
      mask := s.f (RAS_MASKSEL_MASK l), testLine := testLine, test := fires, replay := replay,
      leased := s.leasedNow l, energy := s.energyOf l }
  let s := s.checkDuty l
  let c := s.placed l c
  (s.modLane l fun x => { x with slices := x.slices ++ [c] }).budgetAdd l c

/-- A line the lane passes over, missed or not the lane's: its slice underruns all the same where it is not wholly in the ring at
the take-up boundary (R314, R366; DEDUCED, log 33). -/
def State.passLine (s : State) (l d r : Nat) : State :=
  match s.streamOf l with
  | some n => s.when (!s.sliceIn n l (s.fireLine d r)) fun s => (s.ev (RAS_STREAM_STAT_UNDERRUN n)).raise 36 n
  | none => s

/-- A lane's take-up boundary: the line of this boundary, taken up where a descriptor for it has been taken, else passed over. A test phase whose last
boundary was not made has ended before. -/
def State.takeUp (s : State) (d p l : Nat) : State :=
  let s := s.gapEnds l ((p + 3) % 0x100000000)
  let s := match s.takeUpOf d l, s.takeUpIndex d l with
    | some (r, t), _ => s.takeUpLine l d p r t
    | none, some r => s.when (s.f (DCD_CTRL_STATE d) ≠ 2) (·.passLine l d r)
    | none, none => s
  s.gapEnds l ((p + 4) % 0x100000000)

/-- A lane of a line's mask that has been disabled since the line was taken holds no lease, and does not fire it: at its take-up boundary the
item is SPOILED (R443, R450). -/
def State.disabledSpoils (s : State) (d p : Nat) : State :=
  let off (t : TakenLine) : Bool := t.dcd = d && t.kind ≠ 1 && (bitsSet t.mask.toNat 8).any fun i =>
    !s.b (HL_CTRL_ENABLE (8 * t.pipe + i)) &&
      lineDiff ((t.line + s.f (RAS_SKEW_DELAY (8 * t.pipe + i))) % 0x100000000) p = 4
  (s.taken.filter off).foldl (fun s t =>
    match t.item with
    | some id => s.spoil 7 id
    | none => s) s

/-- The take-ups of a boundary. What the boundary brings into force, logs and hashes comes first, for all of its lanes together. -/
def State.takeUps (s : State) (d p : Nat) : State :=
  let s := ((s.replayEntries d).logDirty d).hashLines d
  (s.forEach (s.domainLanes d) fun s l => s.takeUp d p l).disabledSpoils d p

/-! The whole boundary -/

/-- Hand over what is left of the slices taken up before (R311). -/
def State.handAll (s : State) (d : Nat) : State :=
  s.forEach (s.domainLanes d) fun s l =>
    (List.range ((s.lane l).slices.filter fun c => !c.handed).length).foldl (fun s _ => s.handover l) s

/-- What follows the stamp of a boundary: blocks, fired lines, STOPPED or the next lines, speed (which counts the derate requests of
this cycle, Table 9.2), and the judging of items. -/
def State.bndRest (s : State) (d p lag : Nat) : State :=
  let i := (s.dom d).made - 1
  let fill := s.sFill d
  let s := s.linesFired d p 0
  let s := s.bndBlock d i
  let s := s.when (s.role ≠ 3) (·.bndLag d p lag)
  let s := s.bndLate d p
  let stops := s.f (DCD_CTRL_STATE d) = 2 && (s.inSafe || !s.taken.any (·.dcd = d))
  let s := if stops then (s.bndSpeed d fill).bndStopped d
    else
      let s := s.when (s.f (DCD_CTRL_STATE d) ≠ 2) (·.bndTake d p)
      let s := (s.takeUps d p).bndSpeed d fill
      s.forEach (s.domainStreams d) fun s n => (s.rasTaken n).fillOn (s.f (RAS_STREAM_CHANNEL n))
  let s := s.forEach (s.domainLanes d) fun s l => (s.testTimeouts l p).gapDeadline l p
  let s := s.rejRefs d p
  let s := s.forEach (List.range 4) fun s r => s.when (s.f (REJ_CFG_DCD r) = d) (·.rejAdvance r)
  s.judgeAll

/-- The line of the next boundary. -/
def State.nextPeriod (s : State) (d : Nat) : Nat :=
  let x := s.dom d
  if x.made = 0 then (x.start + 0xFFFFFFFC) % 0x100000000 else (s.rn (DCD_LINE d) + 1) % 0x100000000

/-- A boundary of a domain that paces itself (R341 to R348, R358). -/
def State.boundary (s : State) (d : Nat) : State :=
  let s := (s.handAll d).nzSetsDone d
  let p := s.nextPeriod d
  let i := (s.dom d).made
  let lag := s.lagAt d i
  let pos := s.pos64 (s.f (DCD_SRC_CHANNEL d)) / one
  let (s, committed) := s.dcdCommit d
  let s := (s.bndStep d i committed).bndMark d p
  let s := s.fhCommits d
  let s := (s.mirrorHolds d).mirror (boundaryEntry d p pos (s.dom d).target)
  s.bndRest d p lag

/-! Commands -/

/-- A line boundary that is due comes about; none does in STANDBY or TAKEOVER_WAIT. -/
def State.boundaryEvent (s : State) (d : Nat) : State :=
  if s.role ≠ 3 && s.role ≠ 4 && s.boundaryDue d then s.boundary d else s

/-- LINE_BOUNDARY (R342): the domain's boundary where one is due; a STANDBY makes none of its own (R702), nor does a twin
in TAKEOVER before it is PRIMARY (R710). -/
def execLineBoundary (d : Fin 4) (s : State) : Host.Outcome State Fault Refusal :=
  .next (s.awake (·.boundaryEvent d))

end Sys2Proof.Machine
end

