-- ==== Sys2Proof/Machine/CalStep.lean ====
section
/-!
DEFINITION. CalStep.lean: what the rest of the machine needs of the CAL block: the correction of on-chip conversions, swaps of calibration
sets at their boundaries, and a run that follows a channel's samples (16_calibration.md R596 to R602, R608).
-/

namespace Sys2Proof.Machine
open Reg Fld

/-! Conversions (R598) -/

/-- The anchor gain of converter `n` in the order of Table 16.4: 0x4000 where no slot is selected (R613). -/
def State.anchorGain (s : State) (n : Nat) : Nat :=
  match s.quartz.slot with
  | some _ => leAt (s.regBytes (QZ_ACTIVE 0) 160) (0x28 + 2 * n) 2
  | none => 0x4000

/-- A raw conversion corrected by an offset and a gain. -/
def adcFix (x ofs : Int) (gain : Nat) : Int := asr ((x - ofs) * (gain : Int)) 14

/-- A conversion of local gate ADC g. -/
def State.gateFix (s : State) (g : Nat) (x : Int) : Int :=
  adcFix x (toSigned 16 (s.f (CAL_ADCOFS_OFS_A g))) (s.anchorGain g)

/-- A pair of conversions of FBc, c from 8 to 11. -/
def State.pairFix (s : State) (c : Nat) (p : BitVec 16 × BitVec 16) : Int × Int :=
  (adcFix p.1.toInt (toSigned 16 (s.f (CAL_ADCOFS_OFS_A c))) (s.anchorGain (4 + 2 * (c - 8))),
   adcFix p.2.toInt (toSigned 16 (s.f (CAL_ADCOFS_OFS_B c))) (s.anchorGain (5 + 2 * (c - 8))))

/-- Show a corrected conversion in a 16-bit field; one that does not fit shows a free value (log 2). -/
def State.show16 (s : State) (x : Field) (v : Int) : State :=
  if -32768 ≤ v && v ≤ 32767 then s.setF x (ofSigned 16 v)
  else
    let (k, s) := s.fresh
    s.setF x (freeAt k 0).toNat

/-! Swaps (R608) -/

/-- A boundary of set `n` of subject 1 or 2: its staged values come into force where it is armed. -/
def State.calBoundary (s : State) (n : Nat) : State :=
  match s.cal.armed.find? (·.set = n) with
  | none => s
  | some x =>
    let i := n % 256
    let s :=
      if n / 256 = 1 then s.wr (CAL_ADCOFS i) (s.rd (CAL_ADC_STAGE i))
      else (s.wr (FB_SCOFS i) (s.rd (CAL_SC_STAGE (i - 8)))).wr (FB_SCGAIN i) (s.rd (CAL_SC_STAGE_G (i - 8)))
    s.swapped x

/-! Runs (R601, R602) -/

/-- The run ends without a result. -/
def State.calAbort (s : State) (reason : Nat) : State :=
  match s.cal.run with
  | none => s
  | some r =>
    let s := { s with cal := { s.cal with run := none } }
    (((s.setB CAL_STAT_BUSY false).setF CAL_STAT_REASON reason).ev CAL_STAT_ABORT).raise 74 r.inst

/-- The run on channel c, if it is a SINCOS run. -/
def State.sincosRun (s : State) (c : Nat) : Option CalRun := s.cal.run.filter fun r => r.subject = 2 && r.inst = c

/-- The channel of a SINCOS run is lost (R602 reason 8). -/
def State.calLost (s : State) (c : Nat) : State := if (s.sincosRun c).isSome then s.calAbort 8 else s

/-- A sample of the channel of a SINCOS run, one taken while the channel detects again too: saturation, reversal, and the pairs from the first change
of cyc until it has changed by 8 (R601, R602). `d` is the change of cyc at this sample. -/
def State.calSample (s : State) (c : Nat) (raw : BitVec 16 × BitVec 16) (pair : Int × Int) (d : Int) : State :=
  match s.sincosRun c with
  | none => s
  | some r =>
    let full (x : BitVec 16) : Bool := x.toInt = -32768 || x.toInt = 32767
    if full raw.1 || full raw.2 then s.calAbort 3
    else if 8 ≤ r.cycles then s
    else if r.dir ≠ 0 && d * r.dir < 0 then s.calAbort 6
    else if r.dir = 0 && d = 0 then s
    else
      let r := { r with dir := if r.dir = 0 then d else r.dir, cycles := r.cycles + d.natAbs - b2n (r.dir = 0)
                        samples := r.samples ++ [pair] }
      { s with cal := { s.cal with run := some r } }

end Sys2Proof.Machine
end

