-- ==== Sys2Proof/Machine/Feedback.lean ====
section
/-!
DEFINITION. Feedback.lean: feedback channels, compare units and encoder emulation (14_position_feedback.md R540 to R575).
-/

namespace Sys2Proof.Machine
open Reg Fld

/-! Modes (R540, R541, R544, R545, R555) -/

/-- Is channel c one of FB8 to FB11? -/
def analog (c : Nat) : Bool := 8 ≤ c

/-- Does Table 14.1 allow the mode on the channel? -/
def modeAllowed (c mode : Nat) : Bool := if analog c then mode = 0 || mode = 3 || mode = 4 else mode ≤ 2

/-- Does the channel count in SINCOS mode? -/
def State.sincos (s : State) (c : Nat) : Bool := s.f (FB_LIVE_DET_MODE c) = 2

/-- Is the channel counting: enabled, and decided? -/
def State.counting (s : State) (c : Nat) : Bool := s.b (FB_CTRL_EN c) && s.b (FB_LIVE_DETECTED c)

/-- FB_LATENCY (R544, R545). -/
def State.fbLatency (s : State) (c : Nat) : Nat :=
  if s.f (FB_CFG_MODE c) = 3 || s.sincos c then 1280 else (s.f (FB_CFG_FILT c) + 3) * 8

/-- FB_SPEED as it reads now (R558, R559). -/
def State.fbSpeed (s : State) (c : Nat) : Int :=
  let x := s.chan c
  if s.slow c || x.tau = 0 then 0
  else
    let v := tdiv (x.dx * 204800000000) ((x.tau : Int) * one)
    let since := s.tb - x.stamp
    let cap : Int := 204800000000 / (max 1 since : Nat)
    satS 32 (if since ≤ x.tau then v else max (-cap) (min v cap))

/-! Compare units (R566 to R570) -/

/-- A hit that passes `n` NEXTs (R567, R568). -/
def State.cmpHit (s : State) (c k n : Nat) : State :=
  let rev := s.b (CMP_CTL_DIR c k)
  let s := (s.engEvents (112 + c) mcEngines).wn (CMP_HITS c k) (s.rn (CMP_HITS c k) + n)
  let s := s.modCmp (4 * c + k) fun x =>
    { x with next := x.next + (if rev then -1 else 1) * (n : Int) * (x.pitch : Int) }
  let s := s.when (1 < n) fun s => (s.ev (FB_STAT_CMP_SKIP c)).raise 94 c
  s.cmpCommit c k

/-- A unit as the position goes from one value to another. -/
def State.cmpMoved (s : State) (c k : Nat) (old new : Int) : State :=
  let x := s.cmp (4 * c + k)
  let sg : Int := if s.b (CMP_CTL_DIR c k) then -1 else 1
  let past := sg * (new - x.next)
  if s.b (CMP_CTL_EN c k) && !s.b (CMP_CTL_OWNED c k) && decide (sg * (old - x.next) < 0) && decide (0 ≤ past) then
    s.cmpHit c k (1 + past / (max 1 x.pitch : Nat)).toNat
  else s

/-- A write of a unit's registers is refused while a domain owns it (R570). -/
def State.cmpWrite (s : State) (c k a : Nat) (new : Word) : State :=
  if s.b (CMP_CTL_OWNED c k) then (if new = s.rd a then s else s.ev (FB_STAT_OWNED_WR c)) else s.wr a new

/-- A write of CMP_SHCTL: while EN is 0 the next cycle is a boundary. The unit's owner takes no ARM that differs from the held one (R570, R743). -/
def State.cmpArm (s : State) (c k : Nat) (arm : Bool) : State :=
  if s.b (CMP_CTL_OWNED c k) then (if arm = s.b (CMP_SHCTL_ARM c k) then s else s.ev (FB_STAT_OWNED_WR c))
  else if !arm then s.disarm (CMP_SHCTL c k)
  else if s.rd64 (CMP_PITCH_LO c k) = 0 then (s.disarm (CMP_SHCTL c k)).fbCfgError c
  else
    let s := s.setB (CMP_SHCTL_ARM c k) true
    if s.b (CMP_CTL_EN c k) then s else s.cmpCommit c k

/-! Emulation (R571 to R574) -/

/-- The target state count y of an output; a DEN of 0 written while EN is 1 leaves it open (log 2). -/
def State.emuTarget (s : State) (n : Nat) : Int :=
  if s.rn (EMU_DEN n) = 0 then (freeAt s.free 0).toInt
  else (s.pos64 (s.f (EMU_CFG_SRC n)) - (s.emu n).x0) * s.rdS (EMU_NUM n) / ((s.rn (EMU_DEN n) : Int) * one)

/-- EMU_LAG, and RATE with source 95 where the lag passes 1,024. -/
def State.emuLag (s : State) (n : Nat) : State :=
  if !s.b (EMU_CFG_EN n) then s else
  let lag := s.emuTarget n - (s.emu n).emitted
  let behind : Bool := 1024 < lag.natAbs
  let was := (s.emu n).behind
  let s := (s.wn (EMU_LAG n) (ofSigned 32 (satS 32 lag))).modEmu n fun x => { x with behind := behind }
  s.when (behind && !was) fun s => (s.ev (EMU_STAT_RATE n)).raise 95 n

/-- Step an output once toward its target where MINGAP allows; a STANDBY's outputs are held low (Table 19.4). -/
def State.emuStep (s : State) (n : Nat) : State :=
  let x := s.emu n
  let y := s.emuTarget n
  if s.b (EMU_CFG_EN n) && y ≠ x.emitted && x.lastStep + 8 * max 1 (s.f (EMU_CFG_MINGAP n)) ≤ s.tb then
    let up : Bool := x.emitted < y
    let s := s.when (s.role ≠ 3) (·.emit (.emu n up))
    let s := s.modEmu n fun x => { x with emitted := x.emitted + (if up then 1 else -1), lastStep := s.tb }
    s.emuLag n
  else s.emuLag n

/-- The emulation outputs of a channel follow a load of its position (R572). -/
def State.emuFollow (s : State) (c : Nat) : State :=
  s.forEach (List.range 4) fun s n => s.when (s.f (EMU_CFG_SRC n) = c) (·.emuLag n)

/-- A write of EMU_CFG[n] (R574). -/
def State.emuCfgWrite (s : State) (n : Nat) (new : Word) : State :=
  let on := bitAt new.toNat 0
  let was := s.b (EMU_CFG_EN n)
  let src := bits new.toNat 4 1
  if on && !was then
    if s.rn (EMU_DEN n) = 0 || 12 ≤ src || !s.b (FB_LIVE_DETECTED src) then
      (s.wr (EMU_CFG n) (putBits new 0 0 0)).raise 93 n
    else (s.wr (EMU_CFG n) new).setEmu n { x0 := s.pos64 src }
  else if on && 12 ≤ src then (s.wr (EMU_CFG n) (putBits new 4 1 (s.f (EMU_CFG_SRC n)))).raise 93 n
  else if on then (s.wr (EMU_CFG n) new).emuLag n
  else ((s.wr (EMU_CFG n) new).wn (EMU_LAG n) 0).setEmu n {}

/-! Position (R546 to R553, R556 to R560) -/

/-- Does motion from `old` to `new` reach or cross `at_`? -/
def crosses (old new at_ : Int) : Bool := decide (new = at_ ∨ (old < at_ ∧ at_ ≤ new) ∨ (new ≤ at_ ∧ at_ < old))

/-- A gear that waits for its master at GAT notes that the master reaches or crosses it (R530): crossing back within the tick does not
undo it (R539). -/
def State.gearWatch (s : State) (c : Nat) (old new : Int) : State :=
  s.forEach (List.range 16) fun s a =>
    s.when (s.f (MOT_GCFG_MASTER a) = c && s.b (MOT_GSHCTL_ARM a) && s.b (MOT_GATCTL_AT_EN a) &&
        crosses (old / one) (new / one) (s.rdS64 (MOT_GAT_LO a)))
      (·.modAxis a fun y => { y with gearMet := true })

/-- Everything that reads a channel's position sees it move from `old` to `new`. -/
def State.fbMoved (s : State) (c : Nat) (old new : Int) : State :=
  let s := s.forEach (List.range 4) fun s k => s.cmpMoved c k old new
  let s := s.gearWatch c old new
  (s.emuFollow c).rejMoved c

/-- A counted edge or in-window sample, stamped `at_`, that moves the position by d (R558, R560); one that is an error under R551 does not
`turn` the direction. -/
def State.fbCount (s : State) (c : Nat) (d : Int) (at_ : Nat) (turn : Bool) : State :=
  let x := s.chan c
  let old := s.pos64 c
  let s := s.setPos64 c (old + d)
  let sg : Int := if !turn then 0 else if d < 0 then -1 else if 0 < d then 1 else 0
  let s := s.setChan c { x with dx := d, tau := at_ - x.stamp, stamp := at_, edges := x.edges + 1,
                                sign := if sg = 0 then x.sign else sg }
  let s := s.setB (FB_LIVE_LOW_SPEED c) (x.edges = 0)
  let s := s.when (sg ≠ 0) (·.setB (FB_LIVE_DIR c) (decide (sg < 0)))
  let s := s.when (sg ≠ 0 && x.sign ≠ 0 && sg ≠ x.sign) fun s => ((s.ev (FB_STAT_DIR_CHG c)).raise 91 c).pacingTurn c
  s.fbMoved c old (old + d)

/-- An error of R547, with ILLEGAL_FAULT where ERR_MAX of them fall within ERR_WIN. -/
def State.fbError (s : State) (c : Nat) : State :=
  let s := s.incSat (FB_ERRCNT_ILLEGAL c) 1
  let m := min 16 (s.f (FB_ERRCFG_ERR_MAX c))
  let win := s.f (FB_ERRCFG_ERR_WIN c) * 8000
  let es := ((s.chan c).errs.filter fun t => s.tb ≤ t + win) ++ [s.tb]
  if 0 < m && m ≤ es.length then
    ((((s.modChan c fun x => { x with errs := [] }).ev (FB_STAT_ILLEGAL_FAULT c)).raise 88 c).pacingFault c)
  else s.modChan c fun x => { x with errs := es }

/-- Place of a filtered pair in the forward order 00, 10, 11, 01 (R546). -/
def quadIndex (a b : Bool) : Nat :=
  match a, b with
  | false, false => 0
  | true, false => 1
  | true, true => 2
  | false, true => 3

/-- Sign of DIR_INV. -/
def State.dirSign (s : State) (c : Nat) : Int := if s.b (FB_CFG_DIR_INV c) then -1 else 1

/-- Has an input that has stood at a new level for `age` ticks shown it in FILT + 1 samples of 10 ns (R543)? Between FILT and FILT + 2 samples of age
a free value says where the sample that opens the count falls, so that either answer may come (R740; log 63). -/
def State.accepts (s : State) (c age : Nat) : State × Bool :=
  let least := 8 * s.f (FB_CFG_FILT c)
  if age ≤ least then (s, false)
  else if least + 16 ≤ age then (s, true)
  else
    let (k, s) := s.fresh
    (s, decide (least + (freeAt k 0).toNat % 16 < age))

/-- Levels of the digital inputs that have stood for `age` ticks: where they are accepted, they count (R543, R546 to R549), stamped with
the time of the raw transition and the latency (R544). -/
def State.fbEdge (s : State) (c : Nat) (a b : Bool) (age : Nat) : State :=
  let (s, accepted) := s.accepts c age
  if !accepted then s else
  let x := s.chan c
  let s := s.setChan c { x with levA := a, levB := b }
  if !s.counting c || s.sincos c then s
  else
    let at_ := s.tb + 8 * (s.f (FB_CFG_FILT c) + 3) - age
    let count (s : State) (n : Int) : State := s.fbCount c (s.dirSign c * n * one) at_ true
    match s.f (FB_CFG_MODE c) with
    | 1 =>
      let s := s.when (a && !x.levA) fun s => count s (if x.levB then -1 else 1)
      s.when (a && !x.levA && b ≠ x.levB) (·.fbError c)
    | 2 =>
      let n : Int := (if a && !x.levA then 1 else 0) - (if b && !x.levB then 1 else 0)
      if n = 0 then s else count s n
    | _ =>
      match (quadIndex a b + 4 - quadIndex x.levA x.levB) % 4 with
      | 0 => s
      | 1 => count s 1
      | 3 => count s (-1)
      | _ => s.fbError c

/-! Sin/cos (R550 to R553) -/

/-- Angles of 2^-i in units of 2^-32 turn. -/
def atanTable : List Nat :=
  [536870912, 316933406, 167458907, 85004756, 42667331, 21354465, 10679838, 5340245, 2670163, 1335087, 667544, 333772,
   166886, 83443, 41722, 20861, 10430, 5215, 2608, 1304, 652, 326, 163, 81]

/-- Rotate a vector onto the positive axis, step by step; the angle turned, in units of 2^-32 turn. -/
def cordic : List Nat → Nat → Int → Int → Int → Int
  | [], _, _, _, z => z
  | t :: ts, i, x, y, z =>
    if 0 ≤ y then cordic ts (i + 1) (x + asr y i) (y - asr x i) (z + t)
    else cordic ts (i + 1) (x - asr y i) (y + asr x i) (z - t)

/-- The angle of a pair in units of 2^-16 turn, to within 1 (R550). -/
def angleOf (s1 c1 : Int) : Nat :=
  let k : Int := 0x1000000
  let z := if 0 ≤ c1 then cordic atanTable 0 (c1 * k) (s1 * k) 0
    else 0x80000000 + cordic atanTable 0 (-c1 * k) (-s1 * k) 0
  ofSigned 16 (asr (z + 0x8000) 16)

/-- The amplitude window in force: the last pair with AMP_LO at most AMP_HI (R144). -/
def State.ampWin (s : State) (c : Nat) : State × Nat × Nat :=
  let now := (s.f (FB_AMPWIN_AMP_LO c), s.f (FB_AMPWIN_AMP_HI c))
  let ok := now.1 ≤ now.2
  let s := (s.pair ok (FB_AMPWIN c)).modChan c fun x => { x with goodAmp := if ok then now else x.goodAmp }
  (s, (s.chan c).goodAmp.1, (s.chan c).goodAmp.2)

/-- LOSS_N, 0 treated as 1. -/
def State.lossN (s : State) (c : Nat) : Nat := max 1 (s.f (FB_LOSS_LOSS_N c))

/-- SIG_OK reads 1 again; source 90 is LIVE while it is 0 on any channel (R553, R555, R616). -/
def State.sigOk (s : State) (c : Nat) : State :=
  if s.b (FB_LIVE_SIG_OK c) then s
  else
    let s := s.setB (FB_LIVE_SIG_OK c) true
    s.when (s.b (FLT_SRC_LIVE 90) && (List.range 12).all fun k => s.b (FB_LIVE_SIG_OK k)) (·.setLive 90 false)

/-- A sample out of window (R552). -/
def State.sampleOut (s : State) (c : Nat) : State :=
  let n := (s.chan c).outRun + 1
  let s := s.modChan c fun x => { x with outRun := n, inRun := 0 }
  if s.b (FB_LIVE_SIG_OK c) && s.lossN c ≤ n then
    let s := (s.setB (FB_LIVE_SIG_OK c) false).setB (FB_LIVE_POS_UNSURE c) true
    let s := s.modChan c fun x => { x with angle := none }
    (((s.ev (FB_STAT_SIG_LOSS c)).raiseLive 90 c).pacingFault c).calLost c
  else s

/-- A counted sample of angle a: the position follows the nearer reading (R550, R551). Its stamp carries the fixed latency of 1,600 ns (R545). -/
def State.sampleCount (s : State) (c a : Nat) : State :=
  let x := s.chan c
  let d : Int := match x.angle with
    | some p => toSigned 16 (a + 65536 - p)
    | none => 0
  let wraps : Int := match x.angle with
    | some p => ((p : Int) + d - a) / 65536
    | none => 0
  let cyc := x.cyc + wraps
  let ip : Nat := 2 ^ s.f (FB_CFG_IP_SH c)
  let pos := cyc * (ip : Int) * one + (a * ip * 65536 : Nat) + x.off
  let s := s.setChan c { x with cyc := cyc, angle := some a, outRun := 0 }
  let jump : Bool := 16384 ≤ d.natAbs
  (s.when jump (·.fbError c)).fbCount c (pos - s.pos64 c) (s.tb + 1280) !jump

/-- A sin/cos sample (R550 to R553); a calibration run sees every one (R601, R602). The angle is the correctly rounded one but for the
tolerance the manual gives it: a free value of -1, 0 or 1 (log 11). -/
def State.fbSample (s : State) (c : Nat) (sn cs : BitVec 16) : State :=
  let s := (s.calBoundary (256 + c)).calBoundary (512 + c)
  let (sx, cx) := s.pairFix c (sn, cs)
  let s := (s.show16 (FB_SCRAW_SIN c) sx).show16 (FB_SCRAW_COS c) cx
  if !s.counting c || !s.sincos c then s.calSample c (sn, cs) (sx, cx) 0
  else
    let s1 := asr ((sx - toSigned 16 (s.f (FB_SCOFS_OFS_S c))) * (s.f (FB_SCGAIN_GAIN_S c) : Int)) 14
    let c1 := asr ((cx - toSigned 16 (s.f (FB_SCOFS_OFS_C c))) * (s.f (FB_SCGAIN_GAIN_C c) : Int)) 14
    let (s, lo, hi) := s.ampWin c
    let r := s1 * s1 + c1 * c1
    if r < (lo * lo : Nat) || (hi * hi : Nat) < r then (s.calSample c (sn, cs) (sx, cx) 0).sampleOut c
    else
      let (k, s) := s.fresh
      let slack : Int := ((freeAt k 0).toNat % 3 : Nat) - 1
      let a0 := ofSigned 16 ((angleOf s1 c1 : Int) + slack)
      let a := if s.b (FB_CFG_DIR_INV c) then (65536 - a0) % 65536 else a0
      if s.b (FB_LIVE_SIG_OK c) then
        let old := (s.chan c).cyc
        let s := s.sampleCount c a
        s.calSample c (sn, cs) (sx, cx) ((s.chan c).cyc - old)
      else
        let n := (s.chan c).inRun + 1
        let s := (s.calSample c (sn, cs) (sx, cx) 0).modChan c fun x => { x with inRun := n }
        if s.lossN c ≤ n then (s.sigOk c).sampleCount c a else s

/-! Enabling and detection (R541, R542, R554 to R556, R559) -/

/-- The position becomes 0. -/
def State.fbZero (s : State) (c : Nat) : State :=
  ((s.setPos64 c 0).modChan c fun x => { x with cyc := 0, off := 0, angle := none, corr := none }).emuFollow c

/-- The channel is decided: 1 DIGITAL, 2 SINCOS. -/
def State.fbDecide (s : State) (c mode : Nat) : State :=
  (s.setF (FB_LIVE_DET_MODE c) mode).setB (FB_LIVE_DETECTED c) true

/-- Detection starts; until it completes the position reads 0 (R101, R554, R555). Its 256 pairs take 128 us. -/
def State.detectStart (s : State) (c : Nat) : State :=
  let s := (((s.fbZero c).setB (FB_LIVE_DETECTED c) false).setF (FB_LIVE_DET_MODE c) 0).sigOk c
  s.modChan c fun x => { x with detecting := true, attempts := 0, detectAt := s.tb + 102400, outRun := 0, inRun := 0 }

/-- EN is cleared. A digital channel leaves its counts as the place of the cycle that a later SINCOS use starts in (R556). -/
def State.fbOff (s : State) (c : Nat) : State :=
  let s := s.when (!s.sincos c) (·.modChan c fun x => { x with cyc := 0, off := s.rdS64 (FB_POS_LO c) * one })
  let s := ((s.calLost c).setB (FB_CTRL_EN c) false).setB (FB_LIVE_DETECTED c) false
  let s := (s.setF (FB_LIVE_DET_MODE c) 0).sigOk c
  s.modChan c fun x => { x with detecting := false, outRun := 0, inRun := 0, angle := none, corr := none }

/-- EN := 1 (R541). -/
def State.fbOn (s : State) (c : Nat) : State :=
  let mode := s.f (FB_CFG_MODE c)
  let ip := s.f (FB_CFG_IP_SH c)
  if !modeAllowed c mode || ((mode = 3 || mode = 4) && (ip < 2 || 12 < ip)) then s.fbCfgError c
  else
    let s := (s.setB (FB_CTRL_EN c) true).setB (FB_LIVE_LOW_SPEED c) true
    let s := s.modChan c fun x => { x with stamp := s.tb, edges := 0, dx := 0, errs := [] }
    if mode = 4 then s.detectStart c
    else s.fbDecide c (if mode = 3 then 2 else 1)

/-- A write of FB_CTRL[c]. -/
def State.fbCtrlWrite (s : State) (c : Nat) (new : Word) : State :=
  let was := s.b (FB_CTRL_EN c)
  let on := bitAt new.toNat 0
  let s := if on && !was then s.fbOn c else if !on && was then s.fbOff c else s
  s.when (bitAt new.toNat 1 && s.b (FB_CTRL_EN c) && s.f (FB_CFG_MODE c) = 4) (·.detectStart c)

/-- IP_SH takes a new value while EN is 0: the position is held (R556), and the part of a cycle in it is scaled to the new counts per cycle. -/
def State.cycleScale (s : State) (c ip : Nat) : State :=
  if ip = s.f (FB_CFG_IP_SH c) then s
  else
    let x := s.chan c
    let old : Int := 2 ^ s.f (FB_CFG_IP_SH c)
    let part := s.pos64 c - x.cyc * old * one - x.off
    s.setChan c { x with cyc := 0, off := s.pos64 c - part * 2 ^ ip / old }

/-- A write of FB_CFG[c]: its GD fields only while EN is 0 (R542). -/
def State.fbCfgWrite (s : State) (c : Nat) (new : Word) : State :=
  let old := s.rd (FB_CFG c)
  let rest := putBits new 6 6 (bits old.toNat 6 6)
  if s.b (FB_CTRL_EN c) && rest ≠ old then
    (s.setF (FB_CFG_CORRECT_ON_INDEX c) (bits new.toNat 6 6)).ev (FB_STAT_CFG_ERROR c)
  else (s.cycleScale c (bits new.toNat 19 16)).wr (FB_CFG c) new

/-- A detection attempt over 256 pairs, which a SINCOS run on the channel collects too (R601, R602), not before it can end; an undecided channel tries
again 1 ms later (R554, R555). -/
def State.detect (s : State) (c : Nat) (xs : List (BitVec 16 × BitVec 16)) : State :=
  if !(s.chan c).detecting || !s.b (FB_CTRL_EN c) || xs.length ≠ 256 || s.tb < (s.chan c).detectAt then s
  else
    let (s, lo, hi) := s.ampWin c
    let s := (s.calBoundary (256 + c)).calBoundary (512 + c)
    let ys := xs.map (s.pairFix c)
    let s := xs.foldl (fun s p => s.calSample c p (s.pairFix c p) 0) s
    let digital := ys.all fun p => 16384 ≤ p.1.natAbs && 16384 ≤ p.2.natAbs
    let small := ys.all fun p =>
      let r := p.1.natAbs ^ 2 + p.2.natAbs ^ 2
      p.1.natAbs < 16384 && p.2.natAbs < 16384 && lo * lo ≤ r && r ≤ hi * hi
    let stop (s : State) : State := s.modChan c fun x => { x with detecting := false }
    if digital then ((stop s).fbZero c).fbDecide c 1
    else if small then ((stop s).fbZero c).fbDecide c 2
    else
      let n := (s.chan c).attempts + 1
      let s := s.modChan c fun x => { x with attempts := n, detectAt := s.tb + 800000 }
      if 8 ≤ n then (((s.ev (FB_STAT_DETECT_FAIL c)).raise 92 c).fbOff c).pacingFault c else s

/-! FB_POS writes and index events (R556, R557, R562 to R565, R573) -/

/-- Is a compare unit of the channel owned by a running domain? -/
def State.unitOwned (s : State) (c : Nat) : Bool := (List.range 4).any fun k => s.b (CMP_CTL_OWNED c k)

/-- May software load the channel's position (R557)? -/
def State.fbLoadable (s : State) (c : Nat) : Bool :=
  !s.unitOwned c &&
  !((List.range 16).any fun a => (s.axis a).geared && s.f (MOT_GCFG_MASTER a) = c) &&
  !((List.range 4).any fun r => s.b (REJ_CFG_EN r) && s.f (REJ_CFG_CHANNEL r) = c)

/-- A load of the integer part of the position (R553, R556); during detection the position stays 0 (R101). -/
def State.fbLoad (s : State) (c : Nat) (v : Int) : State :=
  if (s.chan c).detecting then s.setB (FB_LIVE_POS_UNSURE c) false else
  let d := (v - s.rdS64 (FB_POS_LO c)) * one
  let s := s.setPos64 c (s.pos64 c + d)
  ((s.modChan c fun x => { x with off := x.off + d }).setB (FB_LIVE_POS_UNSURE c) false).emuFollow c

/-- A write of FB_POS. -/
def State.fbPosWrite (s : State) (c : Nat) (v : Int) : State :=
  if s.fbLoadable c then s.fbLoad c v else s.ev (FB_STAT_CFG_ERROR c)

/-- A correction on index, in the sample after it: motion of -diff for every reader (R565). -/
def State.fbCorrect (s : State) (c : Nat) (diff : Int) : State :=
  if s.unitOwned c then s.ev (FB_STAT_IGN_CORR c)
  else
    let old := s.pos64 c
    let s := (s.setPos64 c (old - diff * one)).modChan c fun x => { x with off := x.off - diff * one }
    s.fbMoved c old (old - diff * one)

/-- The check of an index event against IDXREF (R563, R564). -/
def State.idxCheck (s : State) (c : Nat) (pos : Int) : State :=
  let lpr := s.rn (FB_LPR c)
  if lpr = 0 then s
  else if !s.b (FB_IDXCFG_REF_VALID c) then
    (s.wn (FB_IDXREF c) (pos % (lpr : Int)).toNat).setB (FB_IDXCFG_REF_VALID c) true
  else
    let m := (pos - s.rn (FB_IDXREF c)) % (lpr : Int)
    let diff := if (lpr : Int) ≤ 2 * m then m - lpr else m
    if diff = 0 then s
    else
      let s := (s.wn (FB_IDXDIFF c) (ofSigned 32 diff)).ev (FB_STAT_IDX_MISMATCH c)
      let s := s.when (s.f (FB_IDXCFG_TOL c) < diff.natAbs) fun s =>
        ((s.ev (FB_STAT_IDX_FAULT c)).raise 89 c).pacingFault c
      s.when (s.b (FB_CFG_CORRECT_ON_INDEX c)) (·.modChan c fun x => { x with corr := some (diff, s.tb) })

/-- The correction that waits for the sample after its index. -/
def State.correctNow (s : State) (c : Nat) : State :=
  match (s.chan c).corr with
  | some (diff, _) => (s.modChan c fun x => { x with corr := none }).fbCorrect c diff
  | none => s

/-- A digital channel's correction is made at the end of the sample 10 ns after its index: a hit in that sample is judged before it (R565, R575). -/
def State.correctDue (s : State) (c : Nat) : State :=
  s.when (!s.sincos c && (s.chan c).corr.any fun x => x.2 + 8 < s.tb) (·.correctNow c)

/-- A rising edge of Z that has stood for `age` ticks, where it is accepted (R543, R562, R573). -/
def State.fbIndex (s : State) (c age : Nat) : State :=
  let (s, accepted) := s.accepts c age
  let x := s.chan c
  let gated := !s.sincos c && s.f (FB_CFG_MODE c) % 4 = 0 && s.b (FB_CFG_INDEX_GATE c)
  if !accepted || !s.counting c || !s.b (FB_CFG_INDEX_EN c) || (gated && !(x.levA && x.levB)) then s
  else
    let pos := s.rdS64 (FB_POS_LO c)
    let s := (s.wrS64 (FB_IDXPOS_LO c) pos).idxCheck c pos
    s.forEach (List.range 4) fun s n =>
      s.when (s.b (EMU_CFG_EN n) && s.b (EMU_CFG_Z_EN n) && s.f (EMU_CFG_SRC n) = c && s.role ≠ 3)
        (·.emit (.emuZ n (max 1 (s.f (EMU_CFG_ZW n)))))

/-! Commands -/

/-- DETECT_ATTEMPT (R554). -/
def execDetectAttempt (c : Fin 12) (samples : List (BitVec 16 × BitVec 16)) (s : State) :
    Host.Outcome State Fault Refusal :=
  .next (s.awake (·.detect c samples))

/-- ENCODER_EDGE (R543, R544, R546 to R549): levels that have stood for `age` ticks. -/
def execEncoderEdge (c : Fin 12) (a b : Bool) (s : State) (age : Nat := 16) : Host.Outcome State Fault Refusal :=
  .next (s.awake (·.fbEdge c a b age))

/-- SINCOS_SAMPLE (R550 to R553). -/
def execSincosSample (c : Fin 12) (sin cos : BitVec 16) (s : State) : Host.Outcome State Fault Refusal :=
  .next (s.awake fun s => (s.fbSample c sin cos).when (s.sincos c) (·.correctNow c))

/-- No edge for LSTMO: LOW_SPEED. -/
def State.lowSpeed (s : State) (c : Nat) : State := s.when (s.quietFor c) (·.setB (FB_LIVE_LOW_SPEED c) true)

/-- LOW_SPEED_TIMEOUT (R559). -/
def execLowSpeedTimeout (c : Fin 12) (s : State) : Host.Outcome State Fault Refusal :=
  .next (s.awake (·.lowSpeed c))

/-- INDEX_EVENT (R543, R562): a rising edge of Z that has stood for `age` ticks. -/
def execIndexEvent (c : Fin 12) (s : State) (age : Nat := 16) : Host.Outcome State Fault Refusal :=
  .next (s.awake (·.fbIndex c age))

/-- EMU_STEP (R572). -/
def execEmuStep (n : Fin 4) (s : State) : Host.Outcome State Fault Refusal :=
  .next (s.awake (·.emuStep n))

end Sys2Proof.Machine
end

