-- ==== Sys2Proof/Machine/Motion.lean ====
section
/-!
DEFINITION. Motion.lean: motion axes, homing, interpolation groups and electronic gearing (13_motion.md R497 to R533). Positions are in
2^-32 counts, speeds in 2^-32 counts per planning tick.
-/

namespace Sys2Proof.Machine
open Reg Fld

/-! Units (R504, R505) -/

/-- A speed register in 2^-32 counts per tick. -/
def uOf (v : Nat) : Nat := (v * 0x1000000 + 125000) / 250000

/-- An acceleration register in 2^-32 counts per tick per tick; a value too small for one unit acts as one. -/
def alphaOf (a : Nat) : Nat := max 1 ((a * 0x100000000 + 31250000000) / 62500000000)

/-- A speed as MOT_SPEED shows it. -/
def speedReg (v : Int) : Nat := ofSigned 32 (satS 32 (asr (v * 250000 + 0x800000) 24))

/-- The command position with its fraction. -/
def State.axisX (s : State) (a : Nat) : Int := s.rdS64 (MOT_POS_LO a) * one + ((s.axis a).frac : Int)

/-- What the planner uses of an axis or a path: speeds and accelerations per tick. -/
structure Prof where
  start : Nat
  stop : Nat
  corner : Nat
  ceil : Nat
  a1 : Nat
  a2 : Nat
  d1 : Nat
  d2 : Nat
  qs : Nat
deriving DecidableEq, Repr

/-- A CFG_ERROR of an axis. -/
def State.motCfg (s : State) (a : Nat) : State := s.ev (MOT_STAT_CFG_ERROR a)

/-- A refusal under R516, R519 or R530. -/
def State.motRefuse (s : State) (a : Nat) : State := (s.motCfg a).raise 85 a

/-- Is R506 met? -/
def State.pairOk (s : State) (a : Nat) : Bool :=
  let m := s.rn (MOT_VMAX a)
  s.rn (MOT_VSTART a) ≤ m && s.rn (MOT_VSTOP a) ≤ m && s.rn (MOT_VCORNER a) ≤ m

/-- STEP_W, 0 treated as 1. -/
def State.stepW (s : State) (a : Nat) : Nat := max 1 (s.f (MOT_STEPCFG_STEP_W a))

/-- Is R500 met? It is a condition of a STEP axis only. -/
def State.rateOk (s : State) (a : Nat) : Bool :=
  s.f (MOT_CFG_KIND a) ≠ 1 ||
  (s.rn (MOT_VMAX a) ≤ 1280000000 && s.rn (MOT_VMAX a) * s.stepW a ≤ 12800000000)

/-- The factor S of an axis: the least of the enabled DCD_SLOW that name it (R373, R507). -/
def State.slowOf (s : State) (a : Nat) : Nat :=
  ((List.range 4).filter fun d => s.b (DCD_SLOW_EN d) && s.f (DCD_SLOW_AXIS d) = a).foldl
    (fun m d => min m (s.dom d).speed) 0x1000000

/-- A use of the pair of R500: V_MAX and STEP_W (R144). Its first field is V_MAX, which R500 names first (DESIGN CHOICE, log 110). -/
def State.rateUse (s : State) (a : Nat) : State :=
  (s.pair (s.rateOk a) (MOT_VMAX a)).modAxis a fun x =>
    { x with goodRate := if s.f (MOT_CFG_KIND a) = 1 && s.rateOk a then (s.rn (MOT_VMAX a), s.stepW a) else x.goodRate }

/-- A use of the speeds of R506, which settles MISMATCH (R144, R145). -/
def State.speedUse (s : State) (a : Nat) : State :=
  let now := (s.rn (MOT_VSTART a), s.rn (MOT_VSTOP a), s.rn (MOT_VCORNER a), s.rn (MOT_VMAX a))
  ((s.pair (s.pairOk a) (MOT_VSTART a)).setB (MOT_STATE_MISMATCH a) (!s.pairOk a)).modAxis a fun x =>
    { x with goodPair := if s.pairOk a then now else x.goodPair }

/-- The profile of an axis under the factor `k` (R507), with the pairs of R500 and R506 checked at this use. Each pair stands at its own last good
values. Where the two then hold different V_MAX, a STEP axis uses the lesser (DESIGN CHOICE, log 104: the spec does not say which). -/
def State.profileAt (s : State) (a k : Nat) : State × Prof :=
  let s := (s.rateUse a).speedUse a
  let x := s.axis a
  let (v0, v1, v2, v3) := x.goodPair
  let top := if s.f (MOT_CFG_KIND a) = 1 then min v3 x.goodRate.1 else v3
  (s, { start := uOf v0, stop := uOf v1, corner := uOf v2, ceil := uOf top * k / 0x1000000,
        a1 := alphaOf (s.rn (MOT_A1 a)), a2 := alphaOf (s.rn (MOT_A2 a)), d1 := alphaOf (s.rn (MOT_D1 a)),
        d2 := alphaOf (s.rn (MOT_D2 a)), qs := alphaOf (s.rn (MOT_QSDEC a)) })

/-- The profile of an axis on its own. -/
def State.profile (s : State) (a : Nat) : State × Prof := s.profileAt a (s.slowOf a)

/-! The planner's tick (R508, R510 to R512, R515) -/

/-- Travel of the ticks that take v down by steps of d to at most lo, and the speed then reached. -/
def fall (v d lo : Nat) : Int × Int :=
  let n := if v ≤ lo then 0 else cdiv (v - lo) d
  ((n : Int) * v - (d : Int) * (n * (n + 1) / 2 : Nat), (v : Int) - n * d)

/-- D(v): the exact travel of the ticks that take v to the stop speed (R508). -/
def Prof.stopDist (p : Prof) (v : Nat) : Int :=
  let (s2, v2) := fall v p.d2 (max p.corner p.stop)
  if v2 ≤ (p.stop : Int) then (if v ≤ p.stop then 0 else s2 + (p.stop - v2))
  else
    let (s1, v1) := fall v2.toNat p.d1 p.stop
    s2 + s1 + (p.stop - v1)

/-- Acceleration and deceleration at a speed. -/
def Prof.up (p : Prof) (v : Nat) : Nat := if v ≤ p.corner then p.a1 else p.a2

/-- Deceleration at a speed. -/
def Prof.down (p : Prof) (v : Nat) : Nat := if v ≤ p.corner then p.d1 else p.d2

/-- What a tick makes of a position move: the new position and speed, and whether it ended or is decelerating toward the target
(`finishing`). -/
structure PosTick where
  x : Int
  v : Int
  done : Bool := false
  finishing : Bool := false
deriving DecidableEq, Repr

/-- The profile with the decelerations held under NO_OVERSHOOT (R510). -/
def Prof.under (p : Prof) (noOver : Bool) : Option (Nat × Nat) → Prof
  | some (d1, d2) => if noOver then { p with d1 := d1, d2 := d2 } else p
  | none => p

/-- The decelerations held after a tick that took the speed from v to v': those under which a deceleration began, until the axis stands
or accelerates again (R510). -/
def Prof.hold (p : Prof) (noOver : Bool) (held : Option (Nat × Nat)) (v v' : Int) : Option (Nat × Nat) :=
  if !noOver || v' = 0 || v.natAbs < v'.natAbs then none
  else if v'.natAbs < v.natAbs then some (held.getD (p.d1, p.d2))
  else held

/-- Sign of an integer. -/
def sgn (i : Int) : Int := if i < 0 then -1 else if 0 < i then 1 else 0

/-- Does a tick from x to x' pass the target in its direction of travel (R511)? -/
def passes (x x' target : Int) : Bool :=
  decide (0 ≤ (x' - x) * (target - x)) && decide ((x' - x) * (target - x') < 0)

/-- One tick of R508 toward a target. A tick that moves toward it at no more than the stop speed, be it the speed so far or the new one, and
would reach or pass it ends there. -/
def planPos (p : Prof) (finishing : Bool) (x v target : Int) : PosTick :=
  let r := target - x
  let dir := sgn r
  let n := v.natAbs
  let toward := sgn v = dir
  let go (w : Nat) (d : Int) (fin : Bool) : PosTick :=
    if dir ≠ 0 && d = dir && 0 < w && w ≤ p.stop && r.natAbs ≤ w then { x := target, v := 0, done := true }
    else { x := x + d * w, v := d * w, finishing := fin }
  if v = 0 then
    if r = 0 then { x := x, v := 0, done := true }
    else go (min (if p.start = 0 then p.up 0 else p.start) p.ceil) dir false
  else if !toward && n ≤ p.stop then { x := x, v := 0 }
  else if toward && n ≤ p.stop && (finishing || decide (r.natAbs ≤ n)) then go n dir true
  else if !toward || decide ((r.natAbs : Int) ≤ p.stopDist n) then go (max (min p.stop n) (n - p.down n)) (sgn v) toward
  else if p.ceil < n then go (max p.ceil (n - p.down n)) dir false
  else go (min p.ceil (n + p.up n)) dir false

/-- One tick of a velocity move toward a signed speed limited to the ceiling (R512). -/
def planVel (p : Prof) (v want : Int) : Int :=
  let t := sgn want * (min want.natAbs p.ceil : Nat)
  let n := v.natAbs
  if v = t then v
  else if v = 0 then sgn t * (min t.natAbs (if p.start = 0 then p.up 0 else p.start) : Nat)
  else if sgn v = sgn t then
    if n < t.natAbs then sgn v * (min t.natAbs (n + p.up n) : Nat)
    else sgn v * (max t.natAbs (n - p.down n) : Nat)
  else if n ≤ p.stop then 0
  else sgn v * (max p.stop (n - p.down n) : Nat)

/-- One tick of a stop ramp: down to the stop speed, then 0 (R515). -/
def planRamp (p : Prof) (quick : Bool) (v : Int) : Int :=
  let n := v.natAbs
  if n ≤ p.stop then 0 else sgn v * (max p.stop (n - if quick then p.qs else p.down n) : Nat)

/-! Axis state -/

/-- Put STATE. -/
def State.motState (s : State) (a v : Nat) : State := s.setF (MOT_STATE_STATE a) v

/-- The axis is at x with speed v after a tick: position, MOT_SPEED, NEG, the level of DIR, which follows the motion of the tick (R499), and the
step pulses of a STEP axis (R498); a STANDBY's are held low (Table 19.4). -/
def State.axisPut (s : State) (a : Nat) (x v : Int) : State :=
  let old := s.rdS64 (MOT_POS_LO a)
  let new := x / one
  let d := x - s.axisX a
  let way := if d = 0 then v else d
  let step := s.f (MOT_CFG_KIND a) = 1
  let inv := s.b (MOT_CFG_DIR_INV a)
  let s := ((s.wrS64 (MOT_POS_LO a) new).wn (MOT_SPEED a) (speedReg v)).setB (MOT_STATE_NEG a) (decide (v < 0))
  let s := s.modAxis a fun y =>
    { y with frac := (x % one).toNat, v := v, dir := step && (if way = 0 then y.dir else decide (0 < way) != inv),
             move := if d = 0 then y.move else (s.tb, d + if y.move.1 = s.tb then y.move.2 else 0) }
  s.when (step && new ≠ old && s.role ≠ 3) (·.emit (.step a (new - old).natAbs (decide (old < new))))

/-- A tick at the new speed v': the axis moves by it, and the decelerations of R510 are held or let go. -/
def State.axisMove (s : State) (a : Nat) (p : Prof) (v' : Int) : State :=
  let x := s.axis a
  let held := p.hold (s.b (MOT_CFG_NO_OVERSHOOT a)) x.holdD x.v v'
  (s.axisPut a (s.axisX a + v') v').modAxis a fun y => { y with holdD := held }

/-- OVERSHOOT and source 83 where the axis has passed its target from x on (R511). -/
def State.overshot (s : State) (a : Nat) (x target : Int) : State :=
  s.when (passes x (s.axisX a) target) fun s => (s.ev (MOT_STAT_OVERSHOOT a)).raise 83 a

/-- Position of the axis's feedback channel; none for FB 12 to 15. -/
def State.axisFb (s : State) (a : Nat) : Option Int :=
  if s.f (MOT_CFG_FB a) < 12 then some (s.rdS64 (FB_POS_LO (s.f (MOT_CFG_FB a)))) else none

/-- A load of the command position: x0 and p0 are latched (R513). -/
def State.axisLoad (s : State) (a : Nat) (x : Int) : State :=
  let s := s.wrS64 (MOT_POS_LO a) x
  s.modAxis a fun y =>
    { y with frac := 0, move := (0, 0), x0 := x, p0 := (s.axisFb a).getD 0, loaded := true, devTicks := 0, stalled := false }

/-- Motion has ended: the axis enters IDLE, after a stop of S4 too (R515). -/
def State.axisIdle (s : State) (a : Nat) : State :=
  (s.modAxis a fun y =>
    { y with moving := false, seek := false, ramp := .none, homing := .none, geared := false, finishing := false, holdD := none,
             deficit := 0, reached := none }).motState a 1

/-- One tick of a stop ramp (R515). A position move that passes its target on the ramp overshoots too (R511), and ends in IDLE all the same
(DEDUCED, log 105). -/
def State.rampTick (s : State) (a : Nat) (p : Prof) : State :=
  let x := s.axis a
  let x0 := s.axisX a
  let v := planRamp p (x.ramp = .quick) x.v
  let s := (s.axisMove a p v).when x.seek (·.overshot a x0 (s.rdS64 (MOT_TARGET_LO a) * one))
  s.when (v = 0) (·.axisIdle a)

/-- Does the input stop motion in direction d: active, and counting (R517, R520)? -/
def State.limited (s : State) (a : Nat) (d : Int) : Bool :=
  (s.b (MOT_CFG_LIM_EN a) || (s.axis a).homing ≠ .none) &&
  ((0 < d && s.b (MOT_STATE_LIMP_IN a)) || (d < 0 && s.b (MOT_STATE_LIMN_IN a)))

/-- DONE and event 96 + a. -/
def State.axisDone (s : State) (a : Nat) : State := (s.ev (MOT_STAT_DONE a)).engEvents (96 + a) mcEngines

/-! Homing (R520 to R524) -/

/-- A homing fault. -/
def State.homeFault (s : State) (a cause : Nat) : State :=
  let s := ((s.ev (MOT_STAT_HOME_FAULT a)).setF (MOT_STAT_HFAULT_CAUSE a) cause).raise 82 a
  s.stopAxis .quick a

/-- Homing's speed: HFAST or HSLOW as the ceiling. -/
def State.homeVel (s : State) (a : Nat) (p : Prof) (slow neg : Bool) : State :=
  let c := uOf (if slow then s.rn (MOT_HSLOW a) else s.rn (MOT_HFAST a))
  s.axisMove a p (planVel { p with ceil := c } (s.axis a).v ((if neg then -1 else 1) * (c : Int)))

/-- The end of SLOW: the latched point becomes HOFS (R522). The travel since the latch is taken from the feedback channel, on
FBSCALE, where the axis has one. -/
def State.homeEnd (s : State) (a : Nat) : State :=
  let latch := s.rdS64 (MOT_HLATCH_LO a)
  let k := s.rdS (MOT_FBSCALE a)
  let past := match s.axisFb a with
    | some p => if k = 0 then 0 else tdiv ((p - latch) * 65536) k
    | none => s.rdS64 (MOT_POS_LO a) - latch
  let s := s.axisLoad a (s.rdS64 (MOT_HOFS_LO a) + past)
  let s := s.when (s.f (MOT_CFG_FB a) < 12) (·.setB (FB_LIVE_POS_UNSURE (s.f (MOT_CFG_FB a))) false)
  (s.axisIdle a).axisDone a

/-- A ramp of homing; `next` follows when the axis stands. -/
def State.homeRamp (s : State) (a : Nat) (p : Prof) (quick : Bool) (next : State → State) : State :=
  let v := planRamp p quick (s.axis a).v
  (s.axisMove a p v).when (v = 0) next

/-- The direction a homing phase moves in, or is to move in; 0 while it turns. -/
def Axis.homeDir (x : Axis) : Int :=
  match x.homing with
  | .none | .fastTurn => 0
  | .fast | .backStop | .slow | .slowRamp => if x.homeNeg then -1 else 1
  | .backOff | .backRamp => if x.homeNeg then 1 else -1

/-- A limit toward the motion of homing (Table 13.2): in FAST a quick stop and the other direction, once; else a fault. -/
def State.homeLimit (s : State) (a : Nat) : State :=
  let x := s.axis a
  if !s.limited a x.homeDir then s
  else if x.homing ≠ .fast then s.homeFault a 2
  else if x.homeTurned then s.homeFault a 1
  else s.modAxis a fun y => { y with homing := .fastTurn }

/-- Homing passes to another phase. -/
def State.homePhase (s : State) (a : Nat) (h : Homing) : State := s.modAxis a fun y => { y with homing := h }

/-- What a tick finds of homing before it moves: a limit, HOME at its level in FAST, or HBACK counts passed since HOME fell in BACKOFF
(Table 13.2). -/
def State.homeTurn (s : State) (a : Nat) : State :=
  let x := s.axis a
  let active := s.b (MOT_STATE_HOME_IN a)
  if s.limited a x.homeDir then s.homeLimit a
  else match x.homing with
  | .fast => s.when active (·.homePhase a .backStop)
  | .backOff =>
    let here := s.rdS64 (MOT_POS_LO a)
    let since := x.backFrom.getD here
    if active then s.modAxis a fun y => { y with backFrom := none }
    else if s.f (MOT_HBACK_COUNTS a) ≤ (here - since).natAbs then s.homePhase a .backRamp
    else s.modAxis a fun y => { y with backFrom := some since }
  | _ => s

/-- One tick of homing (Table 13.2): the phase it finds, and that phase's motion. -/
def State.homeTick (s : State) (a : Nat) (p : Prof) : State :=
  let s := s.homeTurn a
  let x := s.axis a
  match x.homing with
  | .none => s.rampTick a p
  | .fast => s.homeVel a p false x.homeNeg
  | .fastTurn => s.homeRamp a p true fun s =>
      s.modAxis a fun y => { y with homing := .fast, homeNeg := !y.homeNeg, homeTurned := true }
  | .backStop => s.homeRamp a p false (·.homePhase a .backOff)
  | .backOff => s.homeVel a p false (!x.homeNeg)
  | .backRamp => s.homeRamp a p false (·.homePhase a .slow)
  | .slow => s.homeVel a p true x.homeNeg
  | .slowRamp => s.homeRamp a p false (·.homeEnd a)

/-- A CFG_ERROR of a group. -/
def State.grpCfg (s : State) (g : Nat) : State := s.ev (GRP_STAT_CFG_ERROR g)

/-- A member's own GO, TARGET or HOME while its group moves (R528): MOT_STAT and GRP_STAT show it. -/
def State.memberCfg (s : State) (a g : Nat) : State := (s.motCfg a).grpCfg g

/-- HOME := 1 on an IDLE axis that is enabled (R516, R520, R528). -/
def State.homeGo (s : State) (a : Nat) : State :=
  if s.latchedAtLeast 3 then s.motRefuse a
  else match s.groupOf a with
  | some g => s.memberCfg a g
  | none =>
    if s.f (MOT_STATE_STATE a) ≠ 1 || !s.b (MOT_CTRL_ENABLE a) then s
    else
      let found := s.b (MOT_STATE_HOME_IN a)
      let s := s.modAxis a fun y =>
        { y with moving := true, seek := false, homing := if found then .backOff else .fast, homeNeg := s.b (MOT_HCFG_HDIR a),
                 homeTurned := false, backFrom := none, homeToggles := [] }
      s.motState a 4

/-- A change of the ball HOME during homing counts toward CHAT_MAX, past which homing ends with cause 3 (R523). -/
def State.homeChatter (s : State) (a : Nat) : State :=
  let x := s.axis a
  let ts := (x.homeToggles.filter fun t => s.tb ≤ t + 8000 * s.f (MOT_HCHATWIN_WIN a)) ++ [s.tb]
  if x.homing = .none then s
  else (s.modAxis a fun y => { y with homeToggles := ts }).when (max 1 (s.f (MOT_HCFG_CHAT_MAX a)) < ts.length) (·.homeFault a 3)

/-! Inputs, debounced with DEB (R517, R521) -/

/-- Since when a ball stands off its qualified level, once it has the level `high`. -/
def awaySince (qualified high : Bool) (since : Option Nat) (now : Nat) : Option Nat :=
  if high = qualified then none else some (since.getD now)

/-- Has a ball stood off its qualified level for DEB microseconds? -/
def State.settled (s : State) (a : Nat) : Option Nat → Bool
  | some t => decide (t + 800 * s.f (MOT_HCFG_DEB a) ≤ s.tb)
  | none => false

/-- The position at an edge of a ball: that of the FB channel, or without one the command position, interpolated in the tick (R521). -/
def State.edgePos (s : State) (a : Nat) : Int :=
  match s.axisFb a with
  | some p => p
  | none =>
    let (t, d) := (s.axis a).move
    (s.axisX a - d * (t + 3200 - s.tb : Nat) / 3200) / one

/-- The ball HOME has kept its new level for DEB (R521): the position of the raw edge is latched, and an edge to active ends FAST or SLOW. The ramp
stop that ends SLOW keeps the point that ended it (R522). -/
def State.homeQualified (s : State) (a : Nat) : State :=
  let x := s.axis a
  let on := x.home == s.b (MOT_CFG_HOME_INV a)
  let s := (s.modAxis a fun y => { y with home := !y.home, homeAt := none }).setB (MOT_STATE_HOME_IN a) on
  let s := s.when (x.homing ≠ .slowRamp) (·.wrS64 (MOT_HLATCH_LO a) x.homeRaw)
  match x.homing, on with
  | .fast, true => s.homePhase a .backStop
  | .slow, true => s.homePhase a .slowRamp
  | _, _ => s

/-- HOME is qualified once DEB has passed. -/
def State.homeSettle (s : State) (a : Nat) : State := s.when (s.settled a (s.axis a).homeAt) (·.homeQualified a)

/-! Limits (R517, R518) -/

/-- The limit inputs and HOME as MOT_STATE shows their balls under LIM_INV and HOME_INV (R503). -/
def State.showInputs (s : State) (a : Nat) : State :=
  let x := s.axis a
  let inv := s.b (MOT_CFG_LIM_INV a)
  ((s.setB (MOT_STATE_LIMP_IN a) (x.limP != inv)).setB (MOT_STATE_LIMN_IN a) (x.limN != inv)).setB (MOT_STATE_HOME_IN a)
    (x.home != s.b (MOT_CFG_HOME_INV a))

/-- The ball of a limit input has kept its new level for DEB (R517): where it becomes active toward the motion, it trips (R518). -/
def State.limitQualified (s : State) (a : Nat) (neg : Bool) : State :=
  let x := s.axis a
  let input := if neg then MOT_STATE_LIMN_IN a else MOT_STATE_LIMP_IN a
  let on := (if neg then x.limN else x.limP) == s.b (MOT_CFG_LIM_INV a)
  let s := (s.modAxis a fun y => if neg then { y with limN := !y.limN, limNAt := none } else { y with limP := !y.limP, limPAt := none }).setB
    input on
  let d : Int := if neg then -1 else 1
  let v := match s.groupOf a with
    | some g => sgn ((((s.group g).parts.find? (·.1 = a)).map fun p => p.2.2).getD 0 * (s.group g).v)
    | none => sgn x.v
  if !on then s
  else if x.homing ≠ .none then s.homeLimit a
  else if v = d && s.limited a d then ((s.ev (MOT_STAT_LIMIT a)).raise 81 a).stopAxis .quick a
  else s

/-- A limit input is qualified once DEB has passed. -/
def State.limitSettle (s : State) (a : Nat) (neg : Bool) : State :=
  s.when (s.settled a (if neg then (s.axis a).limNAt else (s.axis a).limPAt)) (·.limitQualified a neg)

/-- The inputs of an axis whose DEB has passed are qualified, the limits before HOME (R539). -/
def State.inputsSettle (s : State) (a : Nat) : State := ((s.limitSettle a false).limitSettle a true).homeSettle a

/-- The ball of a limit input takes a level (R503, R517). -/
def State.limitTrip (s : State) (a : Nat) (neg high : Bool) : State :=
  let s := s.inputsSettle a
  (s.modAxis a fun y =>
    if neg then { y with limNAt := awaySince y.limN high y.limNAt s.tb }
    else { y with limPAt := awaySince y.limP high y.limPAt s.tb }).limitSettle a neg

/-- The ball HOME takes a level: a raw change counts toward CHAT_MAX, and the position is latched as the ball leaves its qualified level
(R503, R521, R523). -/
def State.homeEdge (s : State) (a : Nat) (high : Bool) : State :=
  let s := s.inputsSettle a
  let x := s.axis a
  let raw := x.home != x.homeAt.isSome
  if high = raw then s
  else
    let pos := if x.homeAt.isSome then x.homeRaw else s.edgePos a
    ((s.modAxis a fun y => { y with homeAt := awaySince y.home high y.homeAt s.tb, homeRaw := pos }).homeChatter a).homeSettle a

/-! Gearing (R529 to R533) -/

/-- Position of an axis's master channel, integer part. -/
def State.master (s : State) (a : Nat) : Int :=
  let c := s.f (MOT_GCFG_MASTER a)
  if c < 12 then s.rdS64 (FB_POS_LO c) else 0

/-- Does the group commit in this tick: armed, and with AT_EN the master at or across GAT (R530)? -/
def State.gearDue (s : State) (a : Nat) : Bool :=
  let m0 := (s.axis a).gearPrev
  let m := s.master a
  let at_ := s.rdS64 (MOT_GAT_LO a)
  s.b (MOT_GSHCTL_ARM a) && (!s.b (MOT_GATCTL_AT_EN a) || (s.axis a).gearMet || crosses m0 m at_)

/-- Add a master change at the ratio in force; the exact remainder is carried, as a fraction in lowest terms (R529). -/
def Axis.gearAdd (x : Axis) (dm : Int) : Axis × Int :=
  let den := max 1 x.gearDen
  let n := dm * x.gearNum * (x.gearRemDen : Int) + x.gearRem * (den : Int)
  let d := den * x.gearRemDen
  let rem := n % (d : Int)
  let k := Nat.gcd rem.natAbs d
  ({ x with gearRem := rem / (k : Int), gearRemDen := d / k }, n / (d : Int))

/-- The new ratio takes effect; the remainder is carried on. -/
def State.gearCommit (s : State) (a : Nat) : State :=
  let den := s.rn (MOT_GDEN a)
  if den = 0 then (s.disarm (MOT_GSHCTL a)).motRefuse a
  else (s.modAxis a fun x => { x with gearNum := s.rdS (MOT_GNUM a), gearDen := den }).committed (MOT_GSHCTL a)

/-- The greatest travel of a STEP axis in one tick (R500), with the pulse width last found good. -/
def State.maxStep (s : State) (a : Nat) : Int := min (20 * one) (200 * one / (max 1 (s.axis a).goodRate.2 : Nat))

/-- One tick of gearing for every axis: the commit, and the motion of a geared one. -/
def State.gearTick (s : State) (a : Nat) : State :=
  let m := s.master a
  let m0 := (s.axis a).gearPrev
  let due := s.gearDue a
  let mid := if s.b (MOT_GATCTL_AT_EN a) then s.rdS64 (MOT_GAT_LO a) else m0
  let (x1, n1) := (s.axis a).gearAdd (if due then mid - m0 else m - m0)
  let s := s.modAxis a fun _ => x1
  let s := if due then s.gearCommit a else s
  let (x2, n2) := (s.axis a).gearAdd (if due then m - mid else 0)
  let s := s.setAxis a { x2 with gearPrev := m, gearMet := false }
  if !x2.geared then s.modAxis a fun y => { y with gearRem := 0, gearRemDen := 1 }
  else
    let need := (n1 + n2) * one + x2.deficit
    let s := s.rateUse a
    let cap := s.maxStep a
    let can := if s.f (MOT_CFG_KIND a) ≠ 1 then need else max (-cap) (min need cap)
    let s := s.when (can ≠ need && x2.deficit = 0) fun s => (s.ev (MOT_STAT_STEP_RATE a)).raise 84 a
    (s.modAxis a fun y => { y with deficit := need - can }).axisPut a (s.axisX a + can) can

/-- A write of MOT_GSHCTL (R530). -/
def State.gearArm (s : State) (a : Nat) (arm : Bool) : State :=
  if !arm then s.disarm (MOT_GSHCTL a)
  else if s.rn (MOT_GDEN a) = 0 then (s.disarm (MOT_GSHCTL a)).motRefuse a
  else
    let armed := s.b (MOT_GSHCTL_ARM a)
    (s.modAxis a fun y => { y with gearMet := armed && y.gearMet }).setB (MOT_GSHCTL_ARM a) true

/-! GO, targets and speeds of an axis (R509, R512, R516, R519, R528, R529, R531) -/

/-- The motion a GO would start: its direction; 0 where it has none. -/
def State.goDir (s : State) (a : Nat) : Int :=
  match s.f (MOT_CFG_MODE a) with
  | 0 => sgn (s.rdS64 (MOT_TARGET_LO a) * one - s.axisX a)
  | 1 => sgn (s.rdS (MOT_VEL a))
  | _ => 0

/-- GO. -/
def State.axisGo (s : State) (a : Nat) : State :=
  let mode := s.f (MOT_CFG_MODE a)
  let st := s.f (MOT_STATE_STATE a)
  let c := s.f (MOT_GCFG_MASTER a)
  if s.latchedAtLeast 3 then s.motRefuse a
  else match s.groupOf a with
  | some g => s.memberCfg a g
  | none =>
    if st = 0 || st = 4 || !s.b (MOT_CTRL_ENABLE a) || mode = 3 || s.limited a (s.goDir a) ||
        (mode = 2 && !(c < 12 && s.b (FB_LIVE_DETECTED c) && 0 < (s.axis a).gearDen)) then s.motRefuse a
    else if mode = 2 then
      (s.modAxis a fun y =>
        { y with moving := true, seek := false, geared := true, ramp := .none, gearPrev := s.master a, gearRem := 0, gearRemDen := 1,
                 deficit := 0 }).motState a 5
    else
      (s.modAxis a fun y =>
        { y with moving := true, seek := mode = 0, ramp := .none, finishing := false, reached := none }).motState a 2

/-- Is the axis in a motion of its own that a retarget would turn? -/
def State.inMove (s : State) (a mode : Nat) : Bool :=
  (s.axis a).moving && (s.axis a).ramp = .none && (s.axis a).homing = .none && s.f (MOT_CFG_MODE a) = mode

/-- A write of MOT_TARGET (R509, R519, R528); the value it holds is no write (R743). -/
def State.motTarget (s : State) (a : Nat) (v : Int) : State :=
  if v = s.rdS64 (MOT_TARGET_LO a) then s
  else match s.groupOf a with
  | some g => s.memberCfg a g
  | none =>
    if s.inMove a 0 && s.limited a (sgn (v * one - s.axisX a)) then s.motRefuse a
    else (s.wrS64 (MOT_TARGET_LO a) v).modAxis a fun y => { y with finishing := false }

/-- A write of MOT_VEL, by software or by a loop (R512, R519, R584). -/
def State.motVel (s : State) (a : Nat) (v : Word) : State :=
  if v = s.rd (MOT_VEL a) then s
  else if s.inMove a 1 && s.limited a (sgn v.toInt) then s.motRefuse a
  else (s.wr (MOT_VEL a) v).modAxis a fun y => { y with reached := none }

/-- A write of MOT_POS: only in IDLE. -/
def State.motPos (s : State) (a : Nat) (v : Int) : State :=
  if s.f (MOT_STATE_STATE a) = 1 then s.axisLoad a v else s.motCfg a

/-- A write of MOT_CFG[a]: GD fields only while ENABLE is 0; KIND 3 is refused. DIR of an axis other than STEP is low (R501). -/
def State.motCfgWrite (s : State) (a : Nat) (new : Word) : State :=
  let old := s.rd (MOT_CFG a)
  let kept := putBits old 4 4 (bits new.toNat 4 4)
  if new = kept then s.wr (MOT_CFG a) new
  else if s.b (MOT_CTRL_ENABLE a) || bits new.toNat 1 0 = 3 then (s.wr (MOT_CFG a) kept).motCfg a
  else
    ((s.wr (MOT_CFG a) new).showInputs a).modAxis a fun y => { y with dir := bits new.toNat 1 0 = 1 && y.dir }

/-- A write of MOT_STEPCFG, MOT_HCFG or MOT_GCFG at address r: only while ENABLE is 0. -/
def State.motSetWrite (s : State) (a r : Nat) (new : Word) : State :=
  if new = s.rd r || !s.b (MOT_CTRL_ENABLE a) then s.wr r new else s.motCfg a

/-! Groups (R525 to R528) -/

/-- The members of a group. -/
def State.members (s : State) (g : Nat) : List Nat := bitsSet (s.f (GRP_CFG_MEMBERS g)) 16

/-- A write of GRP_CFG[g]. A refused one sets CFG_ERROR of the group and of every axis that is a member or would be one (R525; DEDUCED,
log 105: the row of MOT_STAT names the rule, which does not say whose CFG_ERROR). -/
def State.grpCfgWrite (s : State) (g : Nat) (new : Word) : State :=
  let ms := bitsSet new.toNat 16
  let idle (a : Nat) : Bool := s.f (MOT_STATE_STATE a) = 1
  let other (a : Nat) : Bool := (List.range 4).any fun h => h ≠ g && (s.members h).contains a
  if new = s.rd (GRP_CFG g) then s
  else if ms.length ≤ 4 && (s.members g).all idle && ms.all fun a =>
      idle a && s.f (MOT_CFG_KIND a) ≠ 0 && s.f (MOT_CFG_MODE a) = 0 && !other a then s.wr (GRP_CFG g) new
  else (s.grpCfg g).forEach ((List.range 16).filter fun a => ms.contains a || (s.members g).contains a) State.motCfg

/-- The path to every member's target (R526). -/
def State.pathStart (s : State) (g : Nat) : State :=
  let parts := (s.members g).map fun a => (a, s.axisX a, s.rdS64 (MOT_TARGET_LO a) * one - s.axisX a)
  let len := parts.foldl (fun m p => max m p.2.2.natAbs) 0
  let lead := ((parts.find? fun p => p.2.2.natAbs = len).map (·.1)).getD 0
  let s := s.setGroup g { active := true, lead := lead, length := len, parts := parts }
  let s := s.setF (GRP_STAT_LEAD g) lead
  s.forEach (s.members g) fun s a => (s.modAxis a fun y => { y with moving := true }).motState a 2

/-- A group GO (R516, R519, R526, R528). -/
def State.grpGo (s : State) (g : Nat) : State :=
  let ms := s.members g
  let dir (a : Nat) : Int := sgn (s.rdS64 (MOT_TARGET_LO a) * one - s.axisX a)
  let on := (s.group g).active
  let ready (a : Nat) : Bool := on || (s.f (MOT_STATE_STATE a) = 1 && s.b (MOT_CTRL_ENABLE a))
  if s.latchedAtLeast 3 || ms = [] || ms.any fun a => !ready a || s.limited a (dir a) then
    (s.grpCfg g).raise 85 g
  else if on then s.modGroup g fun x => { x with ramp := if x.ramp = .quick then .quick else .stop, restart := true }
  else s.pathStart g

/-- A group STOP. -/
def State.grpStop (s : State) (g : Nat) : State :=
  if (s.group g).active then s.modGroup g fun x => { x with ramp := if x.ramp = .quick then .quick else .stop, restart := false }
  else s

/-- Scale a profile to the path: each value times |lead| / |delta|. -/
def Prof.scale (p : Prof) (n d : Nat) : Prof :=
  let k (v : Nat) : Nat := v * n / d
  { start := k p.start, stop := k p.stop, corner := k p.corner, ceil := k p.ceil, a1 := max 1 (k p.a1),
    a2 := max 1 (k p.a2), d1 := max 1 (k p.d1), d2 := max 1 (k p.d2), qs := max 1 (k p.qs) }

/-- The least of two profiles, value by value. -/
def Prof.least (p q : Prof) : Prof :=
  { start := min p.start q.start, stop := min p.stop q.stop, corner := min p.corner q.corner, ceil := min p.ceil q.ceil,
    a1 := min p.a1 q.a1, a2 := min p.a2 q.a2, d1 := min p.d1 q.d1, d2 := min p.d2 q.d2, qs := min p.qs q.qs }

/-- The path's profile (R526). The least S of its members is the factor of the path's ceiling (R527). -/
def State.pathProf (s : State) (g : Nat) : State × Prof :=
  let x := s.group g
  let k := x.parts.foldl (fun k p => min k (s.slowOf p.1)) 0x1000000
  let (s, p0) := s.profileAt x.lead 0x1000000
  let (s, q) := (x.parts.filter fun p => p.2.2 ≠ 0).foldl (fun (r : State × Prof) p =>
    let (s, q) := r.1.profileAt p.1 0x1000000
    (s, r.2.least (q.scale x.length p.2.2.natAbs))) (s, p0)
  (s, { q with ceil := q.ceil * k / 0x1000000 })

/-- The members follow the path variable; one that passes its target overshoots (R511). -/
def State.pathPut (s : State) (g : Nat) : State :=
  let x := s.group g
  x.parts.foldl (fun s p =>
    let old := s.axisX p.1
    let dest := p.2.1 + (if x.length = 0 then 0 else tdiv (p.2.2 * x.s) x.length)
    (s.axisPut p.1 dest (dest - old)).overshot p.1 old (p.2.1 + p.2.2)) s

/-- The path has ended: its members stand. -/
def State.pathEnd (s : State) (g : Nat) (done : Bool) : State :=
  let ms := (s.group g).parts.map (·.1)
  let s := s.setGroup g {}
  let s := s.forEach ms fun s a => (s.axisPut a (s.axisX a) 0).axisIdle a
  if done then s.forEach ms fun s a => s.axisDone a else s

/-- ENABLE (R102, R502). Set while the ramp of an S4 stop still runs, it leaves the ramp to end in IDLE (R515). Cleared in a moving group it ends the
path where it stands (DESIGN CHOICE, log 97: no rule says what becomes of motion when ENABLE is cleared). -/
def State.axisEnable (s : State) (a : Nat) (on : Bool) : State :=
  let was := s.b (MOT_CTRL_ENABLE a)
  let fb := s.f (MOT_CFG_FB a)
  if on && !was then
    if s.f (MOT_CFG_KIND a) = 0 || s.latchedAtLeast 4 || (fb < 12 && !s.b (FB_LIVE_DETECTED fb)) then s.motCfg a
    else
      let s := (s.setB (MOT_CTRL_ENABLE a) true).axisLoad a (s.rdS64 (MOT_POS_LO a))
      if (s.axis a).moving then s else s.axisIdle a
  else if !on && was then
    let s := match s.groupOf a with
      | some g => s.pathEnd g false
      | none => s
    (((s.setB (MOT_CTRL_ENABLE a) false).axisPut a (s.axisX a) 0).axisIdle a).motState a 0
  else s

/-- A write of MOT_CTRL[a] (R502, R539). -/
def State.motCtrlWrite (s : State) (a : Nat) (new : Word) : State :=
  let n := new.toNat
  let s := s.axisEnable a (bitAt n 0)
  let s := s.when (bitAt n 2) (·.stopAxis .stop a)
  let s := s.when (bitAt n 3) (·.stopAxis .quick a)
  let s := s.when (bitAt n 1 && !bitAt n 2 && !bitAt n 3) (·.axisGo a)
  s.when (bitAt n 4) (·.homeGo a)

/-- One tick of a group's path. -/
def State.pathTick (s : State) (g : Nat) : State :=
  if !(s.group g).active then s
  else
    let (s, p) := s.pathProf g
    let x := s.group g
    let noOver := s.b (MOT_CFG_NO_OVERSHOOT x.lead)
    let p := p.under noOver x.holdD
    if x.ramp ≠ .none then
      let v := planRamp p (x.ramp = .quick) x.v
      let s := (s.setGroup g { x with s := x.s + v, v := v, holdD := p.hold noOver x.holdD x.v v }).pathPut g
      if v = 0 then
        let s := s.pathEnd g false
        if x.restart && !s.latchedAtLeast 3 then s.pathStart g else s
      else s
    else
      let t := planPos p x.finishing x.s x.v x.length
      let s := s.setGroup g { x with s := t.x, v := t.v, finishing := t.finishing, holdD := p.hold noOver x.holdD x.v t.v }
      let s := s.pathPut g
      if t.done then (s.pathEnd g true).ev (GRP_STAT_DONE g) else s

/-! The planning tick (R508, R512 to R515) -/

/-- One tick of a position move. -/
def State.posTick (s : State) (a : Nat) (p : Prof) : State :=
  let x := s.axis a
  let x0 := s.axisX a
  let target := s.rdS64 (MOT_TARGET_LO a) * one
  let t := planPos p x.finishing x0 x.v target
  let held := p.hold (s.b (MOT_CFG_NO_OVERSHOOT a)) x.holdD x.v t.v
  let s := (s.axisPut a t.x t.v).modAxis a fun y => { y with finishing := t.finishing, holdD := held }
  let s := s.overshot a x0 target
  if t.done then (s.axisIdle a).axisDone a else s

/-- One tick of a velocity move; the event comes once after each change of MOT_VEL or of the ceiling. -/
def State.velTick (s : State) (a : Nat) (p : Prof) : State :=
  let want := s.rdS (MOT_VEL a)
  let u : Int := sgn want * (uOf want.natAbs : Nat)
  let t := sgn u * (min u.natAbs p.ceil : Nat)
  let v := planVel p (s.axis a).v u
  let s := s.axisMove a p v
  if (s.axis a).reached = some p.ceil then s
  else if v = t then (s.modAxis a fun y => { y with reached := some p.ceil }).axisDone a
  else s.modAxis a fun y => { y with reached := none }

/-- The stall check, in every tick after the first load (R513). Each excess past DEV_WIN trips once (R514). -/
def State.stallTick (s : State) (a : Nat) : State :=
  match s.axisFb a with
  | none => s
  | some p =>
    let x := s.axis a
    if !x.loaded then s else
    let dev := asr ((s.rdS64 (MOT_POS_LO a) - x.x0) * s.rdS (MOT_FBSCALE a)) 16 - (p - x.p0)
    let s := s.wn (MOT_DEV a) (ofSigned 32 (satS 32 dev))
    let win := s.f (MOT_DEVWIN_WIN a)
    let n := if win ≠ 0 && win < dev.natAbs then x.devTicks + 1 else 0
    let trips := decide (0 < n ∧ s.f (MOT_DEVTIME_TICKS a) ≤ n)
    let s := s.modAxis a fun y => { y with devTicks := n, stalled := trips || (0 < n && y.stalled) }
    s.when (trips && !x.stalled) fun s => ((s.ev (MOT_STAT_STALL a)).raise 80 a).stopAxis .quick a

/-- An axis that has come to move toward an active limit, by its gear, a path or a return to its target, stops as at a trip (R518). -/
def State.limitHold (s : State) (a : Nat) : State :=
  let x := s.axis a
  let ramp := match s.groupOf a with
    | some g => (s.group g).ramp
    | none => x.ramp
  if x.homing ≠ .none || ramp = .quick || !s.limited a (sgn x.v) then s
  else ((s.ev (MOT_STAT_LIMIT a)).raise 81 a).stopAxis .quick a

/-- The motion of an axis that follows no gear and no path. -/
def State.moveTick (s : State) (a : Nat) : State :=
  let x := s.axis a
  let (s, p) := s.profile a
  let p := p.under (s.b (MOT_CFG_NO_OVERSHOOT a)) x.holdD
  if x.ramp ≠ .none then s.rampTick a p
  else if x.homing ≠ .none then s.homeTick a p
  else if s.f (MOT_CFG_MODE a) = 0 then s.posTick a p
  else s.velTick a p

/-- One planning tick of an axis. One that was geared as the tick began moves by its gear alone, though source 84 disengages it (R532). -/
def State.axisTick (s : State) (a : Nat) : State :=
  let geared := (s.axis a).geared
  let s := s.gearTick a
  let s := s.when ((s.groupOf a).isNone && (s.axis a).moving && !geared) (·.moveTick a)
  (s.limitHold a).stallTick a

/-- The controller's planning tick (R371, R508): speed factors, inputs, groups, axes. It falls once at each TIMEBASE multiple of 3,200. -/
def State.planningTick (s : State) : State :=
  if s.tb % 3200 ≠ 0 || s.planAt = some s.tb then s else
  let s := { s with planAt := some s.tb }
  let s := (s.forEach (List.range 4) fun s d => s.heldFired d)
  let s := s.forEach (List.range 4) fun s d => s.speedTick d
  let s := (s.forEach (List.range 12) State.correctDue).forEach (List.range 16) State.inputsSettle
  let s := s.forEach (List.range 4) fun s g => s.pathTick g
  s.forEach (List.range 16) fun s a => s.axisTick a

/-! Commands -/

/-- PLANNING_TICK (R371, R508). -/
def execPlanningTick (s : State) : Host.Outcome State Fault Refusal :=
  .next (s.awake (·.planningTick))

/-- LIMIT_TRIP (R503, R518): the ball of a limit input takes a level. -/
def execLimitTrip (a : Fin 16) (neg high : Bool) (s : State) : Host.Outcome State Fault Refusal :=
  .next (s.awake (·.limitTrip a neg high))

/-- HOME_EDGE (R503, R521, R523): the ball HOME takes a level, and changes back at once where it is not held. -/
def execHomeEdge (a : Fin 16) (high : Bool) (s : State) (held : Bool := true) : Host.Outcome State Fault Refusal :=
  .next (s.awake fun s => (s.homeEdge a high).when (!held) (·.homeEdge a (!high)))

end Sys2Proof.Machine
end

