-- ==== Sys2Proof/Machine/Loop.lean ====
section
/-!
DEFINITION. Loop.lean: the loop array: sample timers, compensators, PWM outputs and trace units (15_loop_array.md R576 to R595).
-/

namespace Sys2Proof.Machine
open Reg Fld

/-! Inputs (R579, R580) -/

/-- Is a source code in Table 15.1? -/
def sourceCode (c : Nat) : Bool :=
  c ≤ 0x0B || (0x10 ≤ c && c ≤ 0x1B) || (0x20 ≤ c && c ≤ 0x43) || (0x48 ≤ c && c ≤ 0x8F) || c = 0xFF

/-- The value of a source for loop l as it stands, sign-extended (Table 15.1). -/
def State.loopSource (s : State) (l c : Nat) : Int :=
  if c ≤ 0x0B then s.rdS64 (FB_POS_LO c)
  else if c ≤ 0x1B then s.fbSpeed (c - 0x10)
  else if c ≤ 0x2F then s.rdS64 (MOT_POS_LO (c - 0x20))
  else if c ≤ 0x3F then s.rdS (MOT_SPEED (c - 0x30))
  else if c ≤ 0x43 then (Map.get (fun _ => 0) s.gateLast (c - 0x40) : Nat)
  else if c ≤ 0x4F then
    let ch := 8 + (c - 0x48) / 2
    toSigned 16 (if c % 2 = 0 then s.f (FB_SCRAW_SIN ch) else s.f (FB_SCRAW_COS ch))
  else if c ≤ 0x6F then s.rdS (LP_Y (c - 0x50))
  else if c ≤ 0x8F then s.rdS (LP_EIN (c - 0x70))
  else s.rdS (LP_REF l)

/-- The value a ticking loop takes: what stood at the start of the tick, or the y of a lower loop that has just ticked. -/
def State.loopInput (s start : State) (l c : Nat) : Int :=
  if 0x50 ≤ c && c ≤ 0x6F && c - 0x50 < l then s.loopSource l c else start.loopSource l c

/-! The law (R581, R582) -/

/-- (c * v + r) asr s. -/
def term (c v : Int) (sh : Nat) : Int := asr (c * v + (if sh = 0 then 0 else (2 ^ (sh - 1) : Nat))) sh

/-- Shift i of a word of shifts. -/
def State.loopShift (s : State) (l j i : Nat) : Nat := bits (s.rn (LP_ACTIVE l j)) (8 * i + 4) (8 * i)

/-- One sample's nodes. -/
structure Sample where
  meas : Int
  e : Int
  u : Int
  y : Int
deriving DecidableEq, Repr

/-- The law at a sample. The difference wraps at 64 bits (DEDUCED, log 105: "taken in 64 bits"). -/
def State.loopLaw (s : State) (l : Nat) (ref meas : Int) : Sample :=
  let n := if s.b (LP_CFG_ORDER3 l) then 3 else 2
  let e := satS 32 (BitVec.ofInt 64 (ref - meas)).toInt
  let act (j : Nat) : Int := s.rdS (LP_ACTIVE l j)
  let xs := ((List.range n).map fun i => term (act (i + 1)) (s.rdS (LP_XH l i)) (s.loopShift l 7 (i + 1))).foldl (· + ·) 0
  let ys := ((List.range n).map fun i => term (act (4 + i)) (s.rdS (LP_YH l i)) (s.loopShift l 8 i)).foldl (· + ·) 0
  let u := satS 32 (satS 64 (term (act 0) e (s.loopShift l 7 0) + xs - ys))
  { meas := meas, e := e, u := u, y := min (max u (act 9)) (act 10) }

/-- Put a signed 32-bit value. -/
def State.wrS (s : State) (a : Nat) (v : Int) : State := s.wn a (ofSigned 32 v)

/-- Histories, LP_E, LP_U and LP_Y after a sample. -/
def State.loopStore (s : State) (l : Nat) (x : Sample) : State :=
  let s := ((s.wr (LP_XH l 2) (s.rd (LP_XH l 1))).wr (LP_XH l 1) (s.rd (LP_XH l 0))).wrS (LP_XH l 0) x.e
  let s := (s.wr (LP_YH l 2) (s.rd (LP_YH l 1))).wr (LP_YH l 1) (s.rd (LP_YH l 0))
  let s := s.wrS (LP_YH l 0) (if s.b (LP_CFG_AW l) then x.y else x.u)
  ((s.wrS (LP_E l) x.e).wrS (LP_U l) x.u).wrS (LP_Y l) x.y

/-- Saturation of a sample: source 9 comes once for each run of saturated samples that has lasted SATLIM (R582). -/
def State.loopSatur (s : State) (l : Nat) (x : Sample) : State :=
  let sat := x.u ≠ x.y
  let s := (s.setB (LP_LIVE_SAT l) sat).setB (LP_LIVE_SAT_HI l) (decide (x.y < x.u))
  let s := (s.setB (LP_LIVE_SAT_LO l) (decide (x.u < x.y))).when sat (·.ev (LP_STAT_SAT_EV l))
  let (run, raised) := Map.get (fun _ => (0, false)) s.loopSat l
  let n := if sat then run + 1 else 0
  let lim := s.f (LP_SATLIM_SAMPLES l)
  let past := lim ≠ 0 && lim ≤ n
  let s := { s with loopSat := Map.set (fun _ => (0, false)) s.loopSat l (n, sat && (past || raised)) }
  s.when (past && !raised) (·.raise 9 l)

/-- The destination of y (R584, R585). Of a loop that a fault of this tick has forced, y reaches LP_Y only (R595). -/
def State.loopOut (s : State) (l : Nat) (y : Int) : State :=
  let i := s.f (LP_CFG_DST_IDX l)
  if !s.b (LP_CTRL_RUN l) then s
  else match s.f (LP_CFG_DST_KIND l) with
  | 1 => { s with pwmDuty := Map.set (fun _ => 0) s.pwmDuty i (min (max y 0) 65535).toNat }
  | 2 => s.motVel i (BitVec.ofInt 32 y)
  | _ => s

/-! Shadow group (R589, R590) -/

/-- A CFG_ERROR of a loop. -/
def State.loopCfgError (s : State) (l : Nat) : State := (s.ev (LP_STAT_CFG_ERROR l)).raise 8 l

/-- The shadow limits agree. -/
def State.loopShadowOk (s : State) (l : Nat) : Bool := decide (s.rdS (LP_OMIN l) ≤ s.rdS (LP_OMAX l))

/-- The shadow group becomes the active set. -/
def State.loopLoad (s : State) (l : Nat) : State :=
  let s := (List.range 4).foldl (fun s i => s.wr (LP_ACTIVE l i) (s.rd (LP_B l i))) s
  let s := (List.range 3).foldl (fun s i => s.wr (LP_ACTIVE l (4 + i)) (s.rd (LP_A l i))) s
  let s := (s.wr (LP_ACTIVE l 7) (s.rd (LP_SHB l))).wr (LP_ACTIVE l 8) (s.rd (LP_SHA l))
  (s.wr (LP_ACTIVE l 9) (s.rd (LP_OMIN l))).wr (LP_ACTIVE l 10) (s.rd (LP_OMAX l))

/-- The group's boundary: a commit with the swap rule; whether one was made. -/
def State.loopCommit (s : State) (l : Nat) : State × Bool :=
  if !s.b (LP_SHCTL_ARM l) then (s, false)
  else if !s.loopShadowOk l then ((s.disarm (LP_SHCTL l)).loopCfgError l, false)
  else
    let s := (s.loopLoad l).committed (LP_SHCTL l)
    let y := s.rd (LP_Y l)
    let s := s.when (s.b (LP_LIVE_SAT l)) fun s =>
      ((((s.wr (LP_YH l 0) y).wr (LP_YH l 1) y).wr (LP_YH l 2) y).ev (LP_STAT_SWAP_SAT l))
    (s, true)

/-- A write of LP_SHCTL. -/
def State.loopArm (s : State) (l : Nat) (arm : Bool) : State :=
  if !arm then s.disarm (LP_SHCTL l)
  else if s.loopShadowOk l then s.setB (LP_SHCTL_ARM l) true
  else (s.disarm (LP_SHCTL l)).loopCfgError l

/-! Trace units (R591 to R594) -/

/-- The chosen node of a sample. -/
def Sample.node (x : Sample) : Nat → Int
  | 0 => toSigned 32 (ofSigned 32 x.meas)
  | 1 => x.e
  | 2 => x.u
  | _ => x.y

/-- The nodes of a sample as a trace entry holds them: meas, e, u and y (R591). -/
def Sample.entry (x : Sample) : Word × Word × Word × Word :=
  (BitVec.ofInt 32 x.meas, BitVec.ofInt 32 x.e, BitVec.ofInt 32 x.u, BitVec.ofInt 32 x.y)

/-- A node of a trace entry. -/
def nodeOf (e : Word × Word × Word × Word) : Nat → Word
  | 0 => e.1
  | 1 => e.2.1
  | 2 => e.2.2.1
  | _ => e.2.2.2

/-- Does a sample meet a unit's condition? R144 names the trigger window of a trace unit among the agreeing pairs, but no register of a trace
unit is such a pair and no condition is given: none is checked (DESIGN CHOICE, log 96). -/
def State.traceHit (s : State) (u : Nat) (x : Sample) (commit satSet : Bool) : Bool :=
  let lv := s.rdS (TRC_LEVEL u)
  let node := s.f (TRC_TRIG_NODE u)
  let now := x.node node
  let up := match (s.trace u).prev with
    | some p => decide ((nodeOf p node).toInt < lv ∧ lv ≤ now)
    | none => false
  let down := match (s.trace u).prev with
    | some p => decide (lv < (nodeOf p node).toInt ∧ now ≤ lv)
    | none => false
  match s.f (TRC_TRIG_COND u) with
  | 0 => true
  | 1 => up
  | 2 => down
  | 3 => up || down
  | 4 => commit
  | 5 => satSet
  | _ => false

/-- Record a sample in the ring, or skip it. -/
def State.traceRecord (s : State) (u : Nat) (x : Sample) : State :=
  let t := s.trace u
  if 0 < t.skip then s.setTrace u { t with skip := t.skip - 1 }
  else
    let s := s.setTrace u { t with
      ring := Map.insert t.index x.entry t.ring
      index := (t.index + 1) % 8192, skip := s.f (TRC_CTRL_DECIM u)
      post := t.post.map (· - 1) }
    s.setF (TRC_STAT_FILL u) (min 8192 (s.f (TRC_STAT_FILL u) + 1))

/-- The trigger: TRIG_IDX, TRIGGERED, event 124 + u; the trigger sample counts toward POST. -/
def State.traceTrigger (s : State) (u : Nat) : State :=
  let t := s.trace u
  let s := s.setF (TRC_STAT_TRIG_IDX u) ((t.index + 8191) % 8192)
  let s := (s.setB (TRC_STAT_TRIGGERED u) true).engEvents (124 + u) mcEngines
  s.setTrace u { t with post := some (max 1 (min 8192 (s.f (TRC_TRIG_POST u))) - 1) }

/-- A unit at a sample of the loop it follows. -/
def State.traceSample (s : State) (u : Nat) (x : Sample) (commit satSet : Bool) : State :=
  let s :=
    if s.b (TRC_CTRL_ARM u) then
      let s := s.traceRecord u x
      let s := if !s.b (TRC_STAT_TRIGGERED u) && s.traceHit u x commit satSet then s.traceTrigger u else s
      if (s.trace u).post = some 0 then
        ((s.setB (TRC_CTRL_ARM u) false).setB (TRC_STAT_DONE u) true).modTrace u fun t => { t with post := none }
      else s
    else s
  s.modTrace u fun t => { t with prev := some x.entry }

/-- A write of TRC_CTRL[u]; ARM 1 clears TRIGGERED, DONE and FILL, and another LOOP has no previous sample. -/
def State.traceCtrlWrite (s : State) (u : Nat) (new : Word) : State :=
  let was := s.b (TRC_CTRL_ARM u)
  let s := s.when (bits new.toNat 12 8 ≠ s.f (TRC_CTRL_LOOP u)) (·.modTrace u fun t => { t with prev := none })
  let s := s.wr (TRC_CTRL u) new
  if bitAt new.toNat 0 && !was then
    (s.wn (TRC_STAT u) 0).modTrace u fun t => { ring := t.ring, prev := t.prev }
  else s

/-- A word of a unit's window (R594). -/
def State.traceWord (s : State) (u i : Nat) : Word :=
  nodeOf (Map.get (fun _ => (0, 0, 0, 0)) (s.trace u).ring (s.f (TRC_PAGE_PAGE u) * 256 + i / 4)) (i % 4)

/-! Ticks (R576 to R578) -/

/-- When timer `t` ticks next. -/
def State.timerDue (s : State) (t : Nat) : Nat := Map.get (fun _ => 0) s.timerAt t + 2 * s.f (LP_TMR_PERIOD t)

/-- The timers that tick in the same cycle as timer `t`. -/
def State.timersWith (s : State) (t : Nat) : List Nat :=
  (List.range 8).filter fun k => s.b (LP_TMR_EN k) && s.timerDue k = s.timerDue t

/-- The loops of some timers, in ascending number. -/
def State.timerLoops (s : State) (ts : List Nat) : List Nat := (List.range 32).filter fun l => ts.contains (s.f (LP_CFG_TIMER l))

/-- One ticking loop: its sample, its destination and its traces. -/
def State.loopSample (s start : State) (l : Nat) (commit : Bool) : State :=
  let meas := s.loopInput start l (s.f (LP_CFG_SRC_MEAS l))
  let ref := s.loopInput start l (s.f (LP_CFG_SRC_REF l))
  let x := s.loopLaw l ref meas
  let was := s.b (LP_LIVE_SAT l)
  let s := (s.loopStore l x).loopSatur l x
  let s := s.loopOut l x.y
  s.forEach (List.range 4) fun s u =>
    s.when (s.f (TRC_CTRL_LOOP u) = l) (·.traceSample u x commit (x.u ≠ x.y && !was))

/-- A tick of timer t where one is due, and of every timer that ticks in that cycle: inputs as they stand, commits, then the loops that ran as the
tick began in ascending number (R578, R580, R595). -/
def State.loopTick (s : State) (t : Nat) : State :=
  if !s.b (LP_TMR_EN t) || s.tb < s.timerDue t then s
  else
    let start := s
    let ts := s.timersWith t
    let loops := s.timerLoops ts
    let s := { s with timerAt := ts.foldl (fun m k => Map.set (fun _ => 0) m k (start.timerDue k)) s.timerAt }
    let (s, cs) := loops.foldl (fun (x : State × List Nat) l =>
      let (s, c) := x.1.loopCommit l
      (s, if c then l :: x.2 else x.2)) (s, [])
    loops.foldl (fun s l => if start.b (LP_CTRL_RUN l) then s.loopSample start l (cs.contains l) else s) s

/-- A write of LP_TMR_START: each timer whose bit is set starts anew now (R576). -/
def State.timerStart (s : State) (v : Nat) : State :=
  { s with timerAt := (bitsSet v 8).foldl (fun m t => Map.set (fun _ => 0) m t s.tb) s.timerAt }

/-- A write of LP_TMR[t]; a timer begins to count when EN is set. -/
def State.timerWrite (s : State) (t : Nat) (new : Word) : State :=
  let on := bitAt new.toNat 31 && !s.b (LP_TMR_EN t)
  (s.wr (LP_TMR t) new).when on (·.timerStart (2 ^ t))

/-! RUN, INIT, LP_CFG (R582, R583, R586, R587) -/

/-- May the loop run (R586)? -/
def State.loopOk (s : State) (l : Nat) : Bool :=
  let k := s.f (LP_CFG_DST_KIND l)
  let i := s.f (LP_CFG_DST_IDX l)
  sourceCode (s.f (LP_CFG_SRC_MEAS l)) && sourceCode (s.f (LP_CFG_SRC_REF l)) && k ≠ 3 &&
  (k ≠ 1 || (s.b (PWM_CFG_SRC i) && !(List.range 32).any fun m =>
    m ≠ l && s.b (LP_CTRL_RUN m) && s.f (LP_CFG_DST_KIND m) = 1 && s.f (LP_CFG_DST_IDX m) = i)) &&
  (k ≠ 2 || (s.f (MOT_CFG_KIND i) = 1 && s.f (MOT_CFG_MODE i) = 1)) &&
  (k = 0 || !s.latchedAtLeast 3)

/-- INIT (R583). -/
def State.loopInit (s : State) (l : Nat) : State :=
  let y := s.rd (LP_YINIT l)
  let s := (List.range 3).foldl (fun s i => s.wn (LP_XH l i) 0) s
  (List.range 3).foldl (fun s i => s.wr (LP_YH l i) y) s

/-- A write of LP_CTRL[l]. -/
def State.loopCtrlWrite (s : State) (l : Nat) (new : Word) : State :=
  let was := s.b (LP_CTRL_RUN l)
  let on := bitAt new.toNat 0
  let s := s.when (bitAt new.toNat 1 && !was) (·.loopInit l)
  if on && !was then
    if s.loopOk l then (s.setB (LP_CTRL_RUN l) true).setB (LP_LIVE_RUNNING l) true else s.loopCfgError l
  else if !on && was then (s.setB (LP_CTRL_RUN l) false).setB (LP_LIVE_RUNNING l) false
  else s

/-- A write of LP_CFG[l]: only while RUN is 0. -/
def State.loopCfgWrite (s : State) (l : Nat) (new : Word) : State :=
  if new = s.rd (LP_CFG l) || !s.b (LP_CTRL_RUN l) then s.wr (LP_CFG l) new else s.ev (LP_STAT_CFG_ERROR l)

/-! PWM (R585) -/

/-- When the next period of PWM p is due: at once where EN has just been set. -/
def State.pwmDue (s : State) (p : Nat) : Nat := Map.get (fun _ => 0) s.pwmAt p

/-- A PWM period that is due begins and takes the duty in force; the next follows PWM_PERIOD cycles of 2.5 ns later. An
output that is held low shows no high time. -/
def State.pwmStart (s : State) (p : Nat) : State :=
  if !s.b (PWM_CFG_EN p) || s.tb < s.pwmDue p then s
  else
    let d := if s.b (PWM_CFG_SRC p) then Map.get (fun _ => 0) s.pwmDuty p else s.f (PWM_DUTY_DUTY p)
    let n := s.f (PWM_PERIOD_CYCLES p)
    let s := { s with pwmAt := Map.set (fun _ => 0) s.pwmAt p (s.pwmDue p + 2 * n) }
    s.when (!s.pwmLow p) (·.emit (.pwm p n (d * n / 0x10000)))

/-- A write of PWM_CFG[p]: EN set begins the periods. -/
def State.pwmCfgWrite (s : State) (p : Nat) (new : Word) : State :=
  let on := bitAt new.toNat 0 && !s.b (PWM_CFG_EN p)
  (s.wr (PWM_CFG p) new).when on fun s => { s with pwmAt := Map.set (fun _ => 0) s.pwmAt p s.tb }

/-! Commands -/

/-- LOOP_TICK (R578). -/
def execLoopTick (t : Fin 8) (s : State) : Host.Outcome State Fault Refusal :=
  .next (s.awake (·.loopTick t))

/-- PWM_PERIOD_START (R585). -/
def execPwmPeriodStart (p : Fin 16) (s : State) : Host.Outcome State Fault Refusal :=
  .next (s.awake (·.pwmStart p))

end Sys2Proof.Machine
end

