-- ==== Sys2Proof/Machine/Cal.lean ====
section
/-!
DEFINITION. Cal.lean: the CAL block's runs, sets and triggers, local gates, and the Quartz store (16_calibration.md R596 to R614;
12_drop_verification.md R466, R469, R494).
-/

namespace Sys2Proof.Machine
open Reg Fld

/-! Statistics (R600, R601) -/

/-- The lower median of integers. -/
def medianInt (xs : List Int) : Int :=
  let half := (xs.length + 1) / 2
  match xs.filter fun x => half ≤ (xs.filter (· ≤ x)).length with
  | [] => 0
  | y :: ys => ys.foldl min y

/-- Median and median absolute deviation of a list. -/
def medMad (xs : List Int) : Int × Int :=
  let m := medianInt xs
  (m, medianInt (xs.map fun x => if x < m then m - x else x - m))

/-- The integer square root of n, by bits from 2^k down. -/
def isqrt (n : Nat) : Nat → Nat → Nat
  | 0, r => if (r + 1) * (r + 1) ≤ n then r + 1 else r
  | k + 1, r => isqrt n k (if (r + 2 ^ (k + 1)) * (r + 2 ^ (k + 1)) ≤ n then r + 2 ^ (k + 1) else r)

/-- round(sqrt(p / q)) for naturals. -/
def roundSqrt (p q : Nat) : Nat :=
  let r := isqrt (p / max 1 q) 31 0
  if (2 * r + 1) * (2 * r + 1) * q ≤ 4 * p then r + 1 else r

/-- Offset and amplitude of an axis (R601): round(mean(x)) and round(sqrt(2 mean((x - ofs)^2))). -/
def axisFit (xs : List Int) : Int × Nat :=
  let n := max 1 xs.length
  let ofs := rdiv (xs.foldl (· + ·) 0) n
  let q := (xs.map fun x => ((x - ofs) * (x - ofs)).toNat).foldl (· + ·) 0
  (ofs, roundSqrt (2 * q) n)

/-- round(2^14 x 8,192 / amp). -/
def fitGain (amp : Nat) : Nat := (2 * 134217728 + amp) / (2 * max 1 amp)

/-! Runs (R599 to R603) -/

/-- Does Table 16.1 have the set? -/
def setExists (n : Nat) : Bool :=
  let i := n % 256
  (n / 256 = 1 && (i < 4 || (8 ≤ i && i < 12))) || (n / 256 = 2 && 8 ≤ i && i < 12) || (n / 256 = 3 && i < 64)

/-- May a run of the subject start on the instance now (R599)? -/
def State.runOk (s : State) (subject inst : Nat) : Bool :=
  let n := 256 * subject + inst
  s.cal.run.isNone && (subject = 1 || subject = 2) && setExists n && !s.cal.armed.any (·.set = n) &&
  (if subject = 1 then
    if inst < 4 then !s.b (VFY_LGATE_EN inst) else !s.b (FB_CTRL_EN inst)
  else s.b (FB_CTRL_EN inst) && s.b (FB_LIVE_DETECTED inst) && s.f (FB_LIVE_DET_MODE inst) = 2)

/-- Start a run; a refusal is reported only where software asked for it (R599, R609). -/
def State.runStart (s : State) (asked : Bool) (subject inst : Nat) : State :=
  if s.runOk subject inst then
    { (s.setB CAL_STAT_BUSY true) with cal := { s.cal with run := some { subject := subject, inst := inst, since := s.tb } } }
  else s.when asked fun s => (s.ev CAL_STAT_CFG_ERROR).raise 76 0

/-- A write of CAL_CMD, merged into `new`. -/
def State.calCmdWrite (s : State) (new : Word) : State :=
  let s := s.wr CAL_CMD (putBits new 0 0 0)
  s.when (bitAt new.toNat 0) (·.runStart true (s.f CAL_CMD_SUBJECT) (s.f CAL_CMD_INSTANCE))

/-- A run completes: its set has a completed run, and DONE is set (R603). -/
def State.runDone (s : State) (r : CalRun) : State :=
  let n := 256 * r.subject + r.inst
  let s := { s with cal := { s.cal with run := none, staged := if s.cal.staged.contains n then s.cal.staged else s.cal.staged ++ [n] } }
  (s.setB CAL_STAT_BUSY false).ev CAL_STAT_DONE

/-- Has an ADC_OFS run its 4,096 conversions: 410 us on a local gate ADC, 2.05 ms on a pair (R600)? -/
def State.adcRunOver (s : State) (r : CalRun) (xs : List (BitVec 16 × BitVec 16)) : Bool :=
  xs.length = 4096 && r.since + (if r.inst < 4 then 328000 else 1640000) ≤ s.tb

/-- The end of an ADC_OFS run with its conversions (R600, R602); the first of them is the boundary of a set armed since its start (R608). -/
def State.adcRunEnd (s : State) (r : CalRun) (xs : List (BitVec 16 × BitVec 16)) : State :=
  let s := s.calBoundary (256 + r.inst)
  let gate := r.inst < 4
  let val (x : BitVec 16) : Int := if gate then (x.toNat % 4096 : Nat) else x.toInt
  let axes := if gate then [xs.map fun p => val p.1] else [xs.map fun p => val p.1, xs.map fun p => val p.2]
  let noise : Int := s.f CAL_LIM_NOISE_MAX
  let far (a : List Int) : Nat :=
    let (m, d) := medMad a
    (a.filter fun x => 8 * max d 1 < ((x - m).natAbs : Int)).length
  let full (x : Int) : Bool := if gate then x = 0 || x = 4095 else x = -32768 || x = 32767
  if axes.any fun a => noise < (medMad a).2 then s.calAbort 1
  else if axes.any fun a => 40 < far a then s.calAbort 2
  else if axes.any fun a => a.any full then s.calAbort 3
  else
    let ofs (i : Nat) : Nat := ofSigned 16 (medMad (axes.getD i [])).1
    (s.wn (CAL_ADC_STAGE r.inst) (ofs 0 + if gate then 0 else 65536 * ofs 1)).runDone r

/-- The end of a SINCOS run with the pairs collected (R601, R602). -/
def State.sincosRunEnd (s : State) (r : CalRun) : State :=
  if r.cycles < 8 then s
  else
    let (os, as) := axisFit (r.samples.map (·.1))
    let (oc, ac) := axisFit (r.samples.map (·.2))
    let lim := s.f CAL_LIM_AMP_MIN
    if as < lim || ac < lim then s.calAbort 4
    else if 0xFFFF < fitGain as || 0xFFFF < fitGain ac then s.calAbort 7
    else
      let k := r.inst - 8
      let s := s.wn (CAL_SC_STAGE k) (ofSigned 16 os + 65536 * ofSigned 16 oc)
      (s.wn (CAL_SC_STAGE_G k) (fitGain as + 65536 * fitGain ac)).runDone r

/-- CAL_RUN_END. -/
def State.runEnd (s : State) (xs : List (BitVec 16 × BitVec 16)) : State :=
  match s.cal.run with
  | none => s
  | some r => if r.subject = 1 then s.when (s.adcRunOver r xs) (·.adcRunEnd r xs) else s.sincosRunEnd r

/-- CAL_TIMEOUT: TMO ms after GO a SINCOS run that has not completed aborts (R602). -/
def State.runTimeout (s : State) : State :=
  match s.cal.run with
  | some r =>
    if r.subject = 2 && r.cycles < 8 && r.since + max 1 (s.f CAL_LIM_TMO) * 800000 ≤ s.tb then s.calAbort 5 else s
  | none => s

/-! Arming (R597, R605, R606) -/

/-- Do the entries of CAL_NZBUF make a NOZZLE set of the lane (R605)? -/
def State.nzSetOk (s : State) (l : Nat) : Bool :=
  let n := s.f CAL_NZCFG_COUNT
  let base := s.f (HL_NOZ_NBASE l)
  n ≠ 0 && n ≤ 8192 && s.b (HL_CTRL_ENABLE l) &&
  (List.range n).all fun e => base ≤ s.f (CAL_NZBUF_NOZZLE e) && s.f (CAL_NZBUF_NOZZLE e) < base + s.f (HL_NOZ_COUNT l)

/-- Does an ARM meet a swap already armed: for an engine's CSWAP one of the same subject (R177), for CAL_APPLY the set itself (R597)? -/
def State.armMeets (s : State) (n : Nat) (engine : Option Nat) : Bool :=
  s.cal.armed.any fun x => if engine.isSome then x.set / 256 = n / 256 else x.set = n

/-- Arm a set for an engine or the host: code 0 armed, 1 no such set, 2 already armed, which leaves the set unarmed (R177, R597). A NOZZLE set of a
stopped domain is written at once. A NOZZLE set that is armed already is answered with 2 though R605 would answer 1 (DESIGN CHOICE, log 98: no
rule ranks the two). -/
def State.armSet (s : State) (n : Nat) (engine : Option Nat) : State × Nat :=
  if !setExists n || (n / 256 ≠ 3 && !s.cal.staged.contains n) then (s, 1)
  else if s.armMeets n engine then ({ s with cal := { s.cal with armed := s.cal.armed.filter (·.set ≠ n) } }, 2)
  else if n / 256 = 3 then
    let l := n % 256
    let d := s.f (HL_CFG_DCD l)
    if !s.nzSetOk l then (s, 1)
    else
      let x : CalArm := { set := n, engine := engine, since := (s.dom d).bcount }
      if s.stopped d then ((s.nzSetWrite).swapped x, 0)
      else ({ s with cal := { s.cal with armed := s.cal.armed ++ [x] } }, 0)
  else ({ s with cal := { s.cal with armed := s.cal.armed ++ [{ set := n, engine := engine }] } }, 0)

/-- A write of CAL_APPLY. -/
def State.calApplyWrite (s : State) (v : Word) : State :=
  let (s, code) := s.armSet (bits v.toNat 15 0) none
  s.setF CAL_APPLY_RESULT code

/-- NZ_SET_WRITE: after boundary B, the first after the ARM, once the slices taken up at B are finished (R606). -/
def State.nzSetDue (s : State) (l : Nat) : State :=
  match s.cal.armed.find? (·.set = 768 + l) with
  | none => s
  | some x =>
    let d := s.f (HL_CFG_DCD l)
    let ready := s.stopped d ||
      (x.since < (s.dom d).bcount && ((s.lane l).slices.all fun c => c.handed || x.since + 1 < c.bcount))
    if ready then (s.nzSetWrite).swapped x else s

/-- A write of CAL_NZBUF or CAL_NZCFG at an address: ignored with CFG_ERROR while a NOZZLE set is armed (R605, R743). -/
def State.nzBufWrite (s : State) (a : Nat) (new : Word) : State :=
  if new = s.rd a then s
  else if s.cal.armed.any (·.set / 256 = 3) then s.ev CAL_STAT_CFG_ERROR
  else s.wr a new

/-- A run that trigger k starts on its own (R609): a refusal is remembered, to be tried again. -/
def State.autoRun (s : State) (k set : Nat) : State :=
  let ok := s.runOk (set / 256) (set % 256)
  let rest := s.cal.retry.filter (· ≠ k)
  { s with cal := { s.cal with retry := if ok then rest else rest ++ [k] } }.runStart false (set / 256) (set % 256)

/-- CAL_TRIGGER_EVAL (R609): a run is started where the temperature has moved, and tried again while DUE remains set where one was refused. -/
def State.triggerEval (s : State) : State :=
  s.forEach (List.range 16) fun s k =>
    if !s.b (CAL_TRIG_EN k) then s
    else
      let set := s.f (CAL_TRIG_SET k)
      let due := bitAt (s.rn CAL_DUE) k
      let diff := (s.setTemp set - toSigned 16 (s.f (CAL_TLAST_T_LAST k))).natAbs
      let hot := 16 * (s.f (CAL_TRIG_DT k) + 1) < diff
      let s := s.when hot fun s => (s.wr CAL_DUE (putBits (s.rd CAL_DUE) k k 1)).raise 73 0
      s.when ((hot || (due && s.cal.retry.contains k)) && s.b (CAL_TRIG_AUTO k) && (set / 256 = 1 || set / 256 = 2)) (·.autoRun k set)

/-! Local gates (R466, R469, R494) -/

/-- A window of local gate samples as a report: x[-1] first, then the window; the quotient truncates toward zero (R466, 00_scope.md). -/
def gateReport (index sec base thr start : Nat) (all : List Nat) : TestReport :=
  let xs := all.drop 1
  let at_ (i : Nat) : Int := xs.getD i 0
  let hit := (List.range (xs.length - 1)).find? fun i => thr ≤ xs.getD i 0 && thr ≤ xs.getD (i + 1) 0
  let top := xs.foldl max 0
  { index := index, sec := sec, shadow := hit.isSome, saturated := xs.any (· = 4095), depth := top - base
    transit := match hit with
      | some i =>
        let prev : Int := if i = 0 then (all.headD 0 : Nat) else at_ (i - 1)
        let rise := at_ i - prev
        (16 * ((start : Int) + i - 1) + (if rise = 0 then 0 else tdiv (16 * ((thr : Int) - prev)) rise)).toNat
      | none => 0 }

/-- LOCAL_GATE_WINDOW: the windows of a dark line or of the test fires of the oldest test line. A corrected sample is taken within the
converter's 0 to 4,095. -/
def State.gateWindow (s : State) (g : Nat) (test : Bool) (raw : List (List (BitVec 12))) : State :=
  if !s.b (VFY_LGATE_EN g) then s
  else
    let s := s.calBoundary (256 + g)
    let fix (x : BitVec 12) : Nat := min 4095 (s.gateFix g (x.toNat : Nat)).toNat
    let inv := s.b (VFY_LGATE_INVERT g)
    let ws := raw.map fun w => w.map fun x => if inv then 4095 - fix x else fix x
    let s := match (raw.getLast?.bind (·.getLast?)) with
      | some x => { s with gateLast := Map.set (fun _ => 0) s.gateLast g (fix x) }
      | none => s
    let l := s.f (VFY_LGATE_LANE g)
    if !(s.b (VFY_LANE_LOCAL l) && s.f (VFY_LANE_LGATE l) = g) || s.role = 3 then s
    else if test then
      match (s.vlane l).tests with
      | [] => s
      | t :: _ =>
        let lev := s.rn (VFY_LEVELS l 0)
        let win := ((s.vlane l).gap.map (·.win)).getD (s.rd (VFY_WIN (s.f (HL_CFG_DCD l))))
        let base := s.f (HL_NOZ_NBASE l)
        let rs := (t.fired.zip ws).map fun x =>
          gateReport (x.1.1 - base) x.1.2 (bits lev 11 0) (bits lev 27 16) (bits win.toNat 11 0) x.2
        s.finishTest l t (some rs)
    else match (s.vlane l).gap with
      | none => s
      | some gp =>
        let done := gp.raws.length
        ((List.range ws.length).zip ws).foldl
          (fun s x => s.verifyRaw l ((gp.darkFrom + done + x.1) % 0x100000000) 0 x.2) s

/-! The Quartz store (R610 to R614) -/

/-- A blown byte of the store. -/
def State.qz (s : State) (a : Nat) : Byte := Map.get (fun _ => 0) s.quartz.store a

/-- Blow bytes of the store: bits only turn from 0 to 1. -/
def State.qzBlow (s : State) (a : Nat) (bs : List Byte) : State :=
  ((List.range bs.length).zip bs).foldl (fun s x =>
    { s with quartz := { s.quartz with store := Map.set (fun _ => 0) s.quartz.store (a + x.1) (s.qz (a + x.1) ||| x.2) } }) s

/-- The bytes of a slot. -/
def State.qzSlot (s : State) (n : Nat) : List Byte := (List.range 160).map fun i => s.qz (160 * n + i)

/-- The slots that read all 0. -/
def State.qzFree (s : State) : List Nat := (List.range 48).filter fun n => allZero (s.qzSlot n)

/-- FREE follows the store. -/
def State.qzShow (s : State) : State := s.setF QZ_SLOTS_FREE s.qzFree.length

/-- Is the slot committed, with a CRC that matches (R613)? -/
def slotGood (bs : List Byte) : Bool := leAt bs 0x9C 4 = 0x51A7C0DE && leAt bs 0x98 4 = crc32 (bs.take 0x98)

/-- Put a slot's contents in force, or the values without one (R613). -/
def State.qzLoad (s : State) : State :=
  match s.quartz.slot with
  | some n =>
    let bs := s.qzSlot n
    let s := ((s.putBytes (QZ_ACTIVE 0) bs).setF QZ_SLOTS_SLOT n).setB QZ_SLOTS_NONE false
    let ofs (i : Nat) : Nat := leAt bs (0x10 + 2 * i) 2
    let s := s.forEach (List.range 4) fun s g => s.wn (CAL_ADCOFS g) (ofs g)
    s.forEach (List.range 4) fun s k => s.wn (CAL_ADCOFS (8 + k)) (ofs (4 + 2 * k) + 65536 * ofs (5 + 2 * k))
  | none => ((s.putBytes (QZ_ACTIVE 0) (zeros 160)).setF QZ_SLOTS_SLOT 0).setB QZ_SLOTS_NONE true

/-- The read of the store after a reset: after a power-on reset the highest good slot is selected; a warm reset keeps the selection
(R613, R614). No slot raises source 75. -/
def State.qzSelect (s : State) : State :=
  let s := if s.power.por then
      { s with quartz := { s.quartz with slot := ((List.range 48).filter fun n => slotGood (s.qzSlot n)).getLast? } }
    else s
  let s := s.qzLoad.qzShow
  s.when s.quartz.slot.isNone (·.raise 75 0)

/-- Does QZ_BUF have the header and zero fields of Table 16.4? -/
def qzBufOk (bs : List Byte) : Bool :=
  leAt bs 0 4 = 0x00015A51 && leAt bs 4 2 = 136 && leAt bs 6 2 = 0 && allZero (slice bs 0x44 84)

/-- A write of QZ_CMD with PROG = 1 (R611, R612): header, payload and CRC are blown; COMMIT follows with QZ_PROG_END. -/
def State.qzProg (s : State) : State :=
  let bs := s.regBytes (QZ_BUF 0) 152
  match s.qzFree with
  | n :: _ =>
    if s.b QZ_STAT_BUSY || !bitAt (s.rn SYS_RAIL_STAT) 5 || !qzBufOk bs then (s.ev QZ_STAT_PROG_REFUSED).raise 76 0
    else
      let s := ((s.setB QZ_STAT_BUSY true).qzBlow (160 * n) (bs ++ leBytes 4 (crc32 bs))).qzShow
      { s with quartz := { s.quartz with prog := some n } }
  | [] => (s.ev QZ_STAT_PROG_REFUSED).raise 76 0

/-- QZ_PROG_END: the read-backs match, or the slot is lost (R611). -/
def State.qzProgEnd (s : State) (ok : Bool) : State :=
  match s.quartz.prog with
  | none => s
  | some n =>
    let s := { (s.setB QZ_STAT_BUSY false) with quartz := { s.quartz with prog := none } }
    let s :=
      if ok then (s.qzBlow (160 * n + 0x9C) (leBytes 4 0x51A7C0DE)).ev QZ_STAT_PROG_DONE
      else (s.ev QZ_STAT_PROG_FAIL).raise 77 n
    let s := s.qzShow
    s.when (s.f QZ_SLOTS_FREE ≤ 4) (·.raise 78 n)

/-! Commands -/

/-- CAL_RUN_END (R600 to R603). -/
def execCalRunEnd (samples : List (BitVec 16 × BitVec 16)) (s : State) : Host.Outcome State Fault Refusal :=
  .next (s.awake (·.runEnd samples))

/-- CAL_TIMEOUT (R602). -/
def execCalTimeout (s : State) : Host.Outcome State Fault Refusal :=
  .next (s.awake (·.runTimeout))

/-- NZ_SET_WRITE (R606, R607). -/
def execNzSetWrite (l : Fin 64) (s : State) : Host.Outcome State Fault Refusal :=
  .next (s.awake (·.nzSetDue l))

/-- CAL_TRIGGER_EVAL (R609). -/
def execCalTriggerEval (s : State) : Host.Outcome State Fault Refusal :=
  .next (s.awake (·.triggerEval))

/-- QZ_PROG_END (R611). -/
def execQzProgEnd (ok : Bool) (s : State) : Host.Outcome State Fault Refusal :=
  .next (s.awake (·.qzProgEnd ok))

/-- LOCAL_GATE_WINDOW (R494). -/
def execLocalGateWindow (g : Fin 4) (test : Bool) (samples : List (List (BitVec 12))) (s : State) :
    Host.Outcome State Fault Refusal :=
  .next (s.awake (·.gateWindow g test samples))

end Sys2Proof.Machine
end

