-- ==== Sys2Proof/Machine/FaultCmd.lean ====
section
/-!
DEFINITION. FaultCmd.lean: writes of the collector's registers, the external emergency input and the end of an ERR_N pulse
(17_faults.md R625, R626, R631, R635 to R644).
-/

namespace Sys2Proof.Machine
open Reg Fld

/-- May a RESUME end safe state (R625)? -/
def State.resumeOk (s : State) : Bool :=
  !s.latchedAtLeast 3 && !s.b FLT_STAT_FAULT_IN_LOW &&
  (List.range 128).all fun n => !(sourceLevel n && s.b (FLT_SRC_LIVE n) && decide (3 ≤ s.severity n))

/-- FLT_CTRL.RESUME. -/
def State.fltResume (s : State) : State :=
  if s.resumeOk then (s.setF FLT_STAT_SAFE_LEVEL 0).errDrive else s.ev FLT_STAT_RESUME_REFUSED

/-- A write of ERR_HOLD: 0 releases ERR_N at the later of a pulse width from now and the end of the pulse in progress (R641). -/
def State.errHoldWrite (s : State) (hold : Bool) : State :=
  let was := s.b FLT_CTRL_ERR_HOLD
  let s := s.setB FLT_CTRL_ERR_HOLD hold
  let s := if was && !hold then
      { s with errRelease := some (max (s.tb + s.errPulseTicks) (s.errPulseEnd.getD 0)) } else s
  s.errDrive

/-- A write of FLT_CTRL. -/
def State.fltCtrlWrite (s : State) (new : Word) : State :=
  (s.errHoldWrite (bitAt new.toNat 1)).when (bitAt new.toNat 0) (·.fltResume)

/-- ERR_PULSE_END: what has come to its end no longer drives ERR_N (R640, R641). -/
def State.errPulseOver (s : State) : State :=
  let due (o : Option Nat) : Option Nat := o.filter fun t => s.tb < t
  ({ s with errPulseEnd := due s.errPulseEnd, errRelease := due s.errRelease }).errDrive

/-- FORCE: one injected event at the severity in force (R637); on a regulated part only while debug is unlocked (R638). -/
def State.fltForce (s : State) (n : Nat) : State :=
  if !sourceDefined n then s
  else if s.fuses.regulated && !s.b DBG_STAT_UNLOCKED then s.ev FLT_STAT_FORCE_REFUSED
  else s.raiseWith true n 0

/-- A write of SEV (R635, R636); the FLT_CFG of a reserved source reads 0 (R618). -/
def State.sevWrite (s : State) (n sev : Nat) : State :=
  if !sourceDefined n then s
  else if sourceProtected n && min 4 sev < defaultSeverity n then s.ev FLT_STAT_SEV_REFUSED
  else s.setF (FLT_CFG_SEV n) sev

/-- A write of FLT_CFG[n]: the event of a FORCE uses the old SEV (Table 17.5). -/
def State.fltCfgWrite (s : State) (n : Nat) (new : Word) : State :=
  (s.when (bitAt new.toNat 3) (·.fltForce n)).sevWrite n (bits new.toNat 2 0)

/-- A write that clears FLT_SRC[n]: TRANSIENT and INJECTED, and LATCHED only if LIVE is 0 (R631). -/
def State.fltClear (s : State) (n : Nat) : State :=
  let s := (s.setB (FLT_SRC_TRANSIENT n) false).setB (FLT_SRC_INJECTED n) false
  if s.b (FLT_SRC_LIVE n) then s
  else
    let s := s.setB (FLT_SRC_LATCHED n) false
    s.wr (FLT_LATCH_SUM (n / 32)) (putBits (s.rd (FLT_LATCH_SUM (n / 32))) (n % 32) (n % 32) 0)

/-- FAULT_IN_N accepted low: EN and PWM go low without waiting for the collector, and source 10 latches (R623, R643); during a
freeze the collector takes it at RESUME (R719). An AON island in reset accepts nothing (R48, R54; log 30). -/
def State.faultInLow (s : State) : State :=
  if s.b FLT_STAT_FAULT_IN_LOW || s.inReset then s
  else
    let s := s.setB FLT_STAT_FAULT_IN_LOW true
    if s.b DBG_STAT_FROZEN then { s with frozenFaultIn := true }
    else (s.safeOutputs true).raiseLive 10 0

/-- FAULT_IN_N accepted high again (R644); a frozen collector sees it at RESUME. -/
def State.faultInHigh (s : State) : State :=
  let s := s.setB FLT_STAT_FAULT_IN_LOW false
  s.when (!s.b DBG_STAT_FROZEN && s.b (FLT_SRC_LIVE 10)) (·.setLive 10 false)

/-- ERR_PULSE_END (R640, R641). -/
def execErrPulseEnd (s : State) : Host.Outcome State Fault Refusal :=
  .next (s.awake (·.errPulseOver))

/-- FAULT_IN_ASSERT (R643). -/
def execFaultInAssert (s : State) : Host.Outcome State Fault Refusal := .next s.begin.faultInLow

/-- FAULT_IN_RELEASE (R644). -/
def execFaultInRelease (s : State) : Host.Outcome State Fault Refusal := .next s.begin.faultInHigh

end Sys2Proof.Machine
end

