-- ==== Sys2Proof/Machine/Host.lean ====
section
/-!
DEFINITION. Host.lean: the PCI Express function: link states, resets of the function, MSI-X, configuration requests and the DDR
window (07_host_dma.md R232 to R252, R280, R286; 03_startup.md R75, R91; 06_jobs_ordering.md R748).
-/

namespace Sys2Proof.Machine
open Reg Fld

/-! MSI-X (R251) -/

/-- Send the pending messages of the vectors that may be sent now. -/
def State.msixFlush (s : State) : State :=
  if !s.pcie.msixEnable || !s.canSend then s
  else s.forEach (List.range 64) fun s v =>
    if bitAt (s.rn (MSIX_PBA (v / 32))) (v % 32) && !s.vectorMasked v then
      (s.wr (MSIX_PBA (v / 32)) (putBits (s.rd (MSIX_PBA (v / 32))) (v % 32) (v % 32) 0)).sendMsix v
    else s

/-- What waits for the function resumes once it may send: messages, item records of replay jobs, completion records, DMA channels and
intakes (R214, R241, R286). -/
def State.hostBack (s : State) : State :=
  let s := s.forEach (List.range 32) fun s c => s.settle c
  if !s.canSend then s
  else State.arbitrate 1024 ((s.sendReplay.forEach (List.range 8) fun s k => s.writeWaiting k).msixFlush)

/-! Link (R238 to R241) -/

/-- The rate the link takes: 2.5 GT/s at the first L0, then the highest that both ends support and Target Link Speed allows (R238). -/
def State.linkRate (s : State) (speed : Nat) : Nat :=
  if !s.b PCIE_LINK_STAT_LINK_UP then 1 else max 1 (min 4 (min speed (s.pcie.cfgAt 0xA0 % 16)))

/-- The widest common width. -/
def linkWidth (w : Nat) : Nat := if 8 ≤ w then 8 else if 4 ≤ w then 4 else if 2 ≤ w then 2 else 1

/-- The link enters L0 with an end of a rate and a width: SPEED and WIDTH follow. A frozen HOST island sees it at RESUME. It cannot while PERST_N is
low or the controller is held in reset, by TEST_EN too (R48, Table 3.2). -/
def State.linkEnters (s : State) (speed width : Nat) : State :=
  if s.power.perstLow || s.inReset then s
  else
    let s := (s.setF PCIE_LINK_STAT_SPEED (s.linkRate speed)).setF PCIE_LINK_STAT_WIDTH (linkWidth width)
    let s := (s.setB PCIE_LINK_STAT_LINK_UP true).setB PCIE_LINK_STAT_L1 false
    if s.b DBG_STAT_FROZEN then { s with pcie := { s.pcie with backDue := true } } else s.hostBack

/-- The registers of a link that is down. -/
def State.linkZero (s : State) : State :=
  let s := (s.setF PCIE_LINK_STAT_SPEED 0).setF PCIE_LINK_STAT_WIDTH 0
  (s.setB PCIE_LINK_STAT_LINK_UP false).setB PCIE_LINK_STAT_L1 false

/-- Abandon every intake (R748). -/
def State.abandonIntakes (s : State) : State := s.forEach (List.range 8) fun s k => s.abandonIntake k

/-- What the HOST island does at the loss of the link (R239). -/
def State.linkGone (s : State) : State :=
  let s := (s.ev PCIE_ERR_STAT_LINK_DOWN).raise 16 0
  (s.forEach (List.range 32) fun s c => s.endChannel c).abandonIntakes

/-- The link leaves L0 for Detect or Disabled (R239). A frozen HOST island sees it at RESUME (R720, R721; DESIGN CHOICE, log 81). -/
def State.linkLost (s : State) : State :=
  if !s.b PCIE_LINK_STAT_LINK_UP then s
  else if s.b DBG_STAT_FROZEN then { s.linkZero with pcie := { s.pcie with lostDue := true } }
  else s.linkZero.linkGone

/-- The HOST island runs again after a freeze: what became of the link meanwhile has its effects. -/
def State.hostWakes (s : State) : State :=
  let p := s.pcie
  let s := { s with pcie := { p with lostDue := false, backDue := false } }
  (s.when p.lostDue State.linkGone).when p.backDue State.hostBack

/-- Registers of the function at their reset values, and the MSI-X state (07_host_dma.md after CH_INFLIGHT). A ring goes on under the
settings it had (R75, R281). -/
def State.functionRegs (s : State) : State :=
  let s := s.forEach (List.range 32) fun s c => s.when (s.chRingEn c) fun s =>
    s.modDma c fun m => { m with keptCfg := some (s.chCfg c), keptRing := some (s.chRing c) }
  let s := s.forEach (List.range 32) fun s c =>
    [CH_CFG c, CH_CTRL c, CH_HEAD_LO c, CH_HEAD_HI c, CH_RING_LO c, CH_RING_HI c, CH_WM c].foldl
      (fun s a => s.wr a (resetOf a)) s
  let s := s.forEach (List.range 32) fun s c => (s.modDma c fun m => { m with wm := (0, 255) }).showChannel c
  let s := s.forEach (List.range 16) fun s p => s.wr (BAR2_PAGE p) (resetOf (BAR2_PAGE p))
  let s := s.forEach (List.range 256) fun s i => s.wr (MSIX_TABLE i) (resetOf (MSIX_TABLE i))
  (s.wn (MSIX_PBA 0) 0).wn (MSIX_PBA 1) 0

/-- PERST_N low: a fundamental reset of the endpoint, the channels and MSI-X (R75, R285, R748). Printing goes on. With every island in reset
already (R48, R54) the pin alone changes. -/
def State.fundamental (s : State) : State :=
  let s := { s with power := { s.power with perstLow := true } }
  if s.inReset then s else
  let s := s.linkZero.ev PCIE_ERR_STAT_PERST
  let s := (s.forEach (List.range 32) fun s c => s.endChannel c).abandonIntakes
  let s := (s.setB PCIE_LINK_STAT_BME false).setB PCIE_LINK_STAT_D3HOT false
  ({ s with pcie := {} }).functionRegs

/-- A function level reset: as a fundamental reset, but the link stays up (R75). Max Payload Size, ASPM Control, Target Link Speed and the
AER registers keep their values, as PCI Express gives (log 4). -/
def State.functionReset (s : State) : State :=
  let s := s.ev PCIE_ERR_STAT_FLR
  let s := (s.forEach (List.range 32) fun s c => s.endChannel c).abandonIntakes
  let s := (s.setB PCIE_LINK_STAT_BME false).setB PCIE_LINK_STAT_D3HOT false
  let p := s.pcie
  ({ s with pcie := { maxPayload := p.maxPayload, aspmL1 := p.aspmL1, cfg := p.cfg.filter (·.1 = 0xA0), aer := p.aer } }).functionRegs

/-- PERST_N is released: training starts, and the limit of R92 at the first release since reset was released. While reset is held the link
stays idle and no limit runs. -/
def State.perstRelease (s : State) : State :=
  let s := { s with power := { s.power with perstLow := false } }
  if s.inReset then s
  else ({ s with power := { s.power with perstAt := s.power.perstAt.orElse fun _ => some s.tb } }).emit (.link false)

/-- Bus Master Enable changes (R286). -/
def State.setBme (s : State) (on : Bool) : State := (s.setB PCIE_LINK_STAT_BME on).hostBack

/-- A non-posted request times out: of a channel its fetch or else its oldest read, or the reads of a queue's intake (R279, R280,
Table 6.4). None does where the host has disabled the completion timeout (Table 7.1; bit 4 of Device Control 2, log 4). -/
def State.requestTimeout (s : State) (what : Nat) : State :=
  if bitAt (s.pcie.cfgAt 0x98) 4 then s
  else if what < 32 then
    if (s.dma what).fetching then
      let m := s.dma what
      let s := (s.pcieEvent 1).setDma what { m with fetching := false }
      if m.stop = .none then s.fetchError what else s.pump what
    else if s.chD2h what then s
    else match s.waiting what with
      | (i, j, _) :: _ => ((s.pcieEvent 1).arrive what i j .lost 2).pump what
      | [] => s
  else if what < 40 then
    let k := what - 32
    match s.intakeOf k with
    | .readDesc => (s.pcieEvent 1).refuseUnread k
    | .readItems d asked got => if asked ≤ got.length then s else (s.pcieEvent 1).refuseJob k 5 d
    | .readStream d _ asked got => if asked ≤ got.length then s else (s.pcieEvent 1).refuseJob k 5 d
    | _ => s
  else s

/-! Configuration space (Tables 7.1 and 7.2, R91, R242, R243). The manual gives the header's values, the BARs and the features; the places
and the bits are those of PCI Express, with the model's places for the capabilities (log 4): power management at 0x40, PCI Express at 0x70,
MSI-X at 0xB0, AER at 0x100, Device Serial Number at 0x150, Secondary PCI Express at 0x160, 16.0 GT/s at 0x180, Lane Margining at 0x1B0. -/

/-- The bits of a word of configuration space that software writes and that read as written. -/
def cfgMask (off : Nat) : Nat :=
  if off = 0x04 then 0x0540
  else if off = 0x0C || off = 0x3C then 0xFF
  else if off = 0x10 then 0xFF000000
  else if off = 0x18 then 0xF0000000
  else if off = 0x14 || off = 0x1C then 0xFFFFFFFF
  else if off = 0x78 then 0x081F
  else if off = 0x80 then 0x01C0
  else if off = 0x98 then 0x1F
  else if off = 0xA0 then 0x0FFF
  else if off = 0x164 then 0xFE03
  else 0

/-- The bits of a word of configuration space that are fixed. -/
def cfgFixed (off : Nat) : Nat :=
  match [(0x00, 0x64481F7C), (0x04, 0x100000), (0x08, 0x0B400010), (0x10, 0x4), (0x18, 0xC), (0x34, 0x40), (0x40, 0x00037001), (0x44, 8),
    (0x70, 0x0002B010), (0x74, 0x10008022), (0x7C, 0x00400884), (0x94, 0x0003001F), (0x9C, 0x1E), (0xB0, 0x003F0011), (0xB4, 0x4C000),
    (0xB8, 0x4D000), (0x100, 0x15020001), (0x150, 0x16010003), (0x160, 0x18010019), (0x180, 0x1B010026), (0x1B0, 0x00010027)].find?
      (·.1 = off) with
  | some x => x.2
  | none => 0

/-- The bits of a word of configuration space that follow the function's state. -/
def State.cfgLive (s : State) (off : Nat) : Nat :=
  let p := s.pcie
  if off = 0x04 then 2 * b2n p.memSpace + 4 * b2n (s.b PCIE_LINK_STAT_BME)
  else if off = 0x2C then (if s.fuses.subsys = 0 then 0x64481F7C else s.fuses.subsys.toNat)
  else if off = 0x44 then (if s.b PCIE_LINK_STAT_D3HOT then 3 else 0)
  else if off = 0x78 then
    32 * (if p.maxPayload = 512 then 2 else if p.maxPayload = 256 then 1 else 0) + 256 * b2n p.extTag +
      4096 * (if p.maxRead = 128 then 0 else if p.maxRead = 256 then 1 else if p.maxRead = 512 then 2 else if p.maxRead = 1024 then 3
        else if p.maxRead = 2048 then 4 else 5) + p.aerAt 0x78
  else if off = 0x80 then
    2 * b2n p.aspmL1 + 0x10000 * s.f PCIE_LINK_STAT_SPEED + 0x100000 * s.f PCIE_LINK_STAT_WIDTH
  else if off = 0x98 then 4096 * b2n p.tag10
  else if off = 0xB0 then 0x40000000 * b2n p.functionMask + 0x80000000 * b2n p.msixEnable
  else if off = 0x104 || off = 0x108 || off = 0x10C || off = 0x110 || off = 0x114 then p.aerAt off
  else if off = 0x154 then s.fuses.dsn.toNat % 0x100000000
  else if off = 0x158 then s.fuses.dsn.toNat / 0x100000000
  else 0

/-- The words whose contents neither the manual nor the function's state gives: AER's header log, and the lane registers of the last three
capabilities. -/
def cfgOpen (off : Nat) : Bool :=
  (0x11C ≤ off && off < 0x12C) || (0x168 ≤ off && off < 0x17C) || (0x184 ≤ off && off < 0x1B0) || (0x1B4 ≤ off && off < 0x1D8)

/-- A configuration read. -/
def State.cfgRead (s : State) (off : Nat) : State :=
  if cfgOpen off then
    let (k, s) := s.fresh
    s.emit (.completion 0 (leBytes 4 (freeAt k 0).toNat))
  else s.emit (.completion 0 (leBytes 4 (cfgFixed off + (s.pcie.cfgAt off &&& cfgMask off) + s.cfgLive off)))

/-- A configuration write. -/
def State.cfgWrite (s : State) (off : Nat) (v : Word) : State :=
  let n := v.toNat
  let s := s.emit (.completion 0 [])
  let s := s.when (cfgMask off ≠ 0) fun s =>
    { s with pcie := { s.pcie with cfg := Map.set cfgReset s.pcie.cfg off (v &&& BitVec.ofNat 32 (cfgMask off)) } }
  if off = 0x04 then
    ({ s with pcie := { s.pcie with memSpace := bitAt n 1 } }).setBme (bitAt n 2)
  else if off = 0x44 then
    if bits n 1 0 = 3 then s.setB PCIE_LINK_STAT_D3HOT true
    else if bits n 1 0 = 0 then (s.setB PCIE_LINK_STAT_D3HOT false).hostBack
    else s
  else if off = 0x78 then
    let p := s.pcie.setAer 0x78 (s.pcie.aerAt 0x78 &&& (0xFFFFFFFF - n))
    let s := { s with pcie := { p with maxPayload := min 512 (128 * 2 ^ bits n 7 5), extTag := bitAt n 8
                                       maxRead := min 4096 (128 * 2 ^ bits n 14 12) } }
    s.when (bitAt n 15) (·.functionReset)
  else if off = 0x80 then { s with pcie := { s.pcie with aspmL1 := bitAt n 1 } }
  else if off = 0x98 then { s with pcie := { s.pcie with tag10 := bitAt n 12 } }
  else if off = 0xB0 then
    ({ s with pcie := { s.pcie with functionMask := bitAt n 30, msixEnable := bitAt n 31 } }).msixFlush
  else if off = 0x104 || off = 0x110 then { s with pcie := s.pcie.setAer off (s.pcie.aerAt off &&& (0xFFFFFFFF - n)) }
  else if off = 0x108 || off = 0x10C || off = 0x114 then
    { s with pcie := s.pcie.setAer off (n &&& (if off = 0x114 then 0x31C1 else 0x005FF030)) }
  else s

/-- A configuration request: RRS until CFG_READY, and while frozen (R91, R721). -/
def State.cfgAsked (s : State) (g : State → State) : State :=
  if !s.b SYS_BOOT_STAT_CFG_READY || s.b DBG_STAT_FROZEN then s.emit (.completion 2 []) else g s

/-- A configuration read or write. -/
def State.cfgRequest (s : State) (write : Bool) (off : Nat) (v : Word) : State :=
  s.cfgAsked fun s => if write then s.cfgWrite off v else s.cfgRead off

/-- A function level reset, which the host asks for by a configuration write (R75, R91). -/
def State.flrRequest (s : State) : State := s.cfgAsked fun s => (s.emit (.completion 0 [])).functionReset

/-! The DDR window (R244 to R248) -/

/-- The DDR address of a BAR2 offset whose page is enabled and whose bytes are installed. -/
def State.bar2Addr (s : State) (off len : Nat) : Option Nat :=
  let p := off / 0x1000000
  let a := s.f (BAR2_PAGE_BASE p) * 0x1000000 + off % 0x1000000
  if p < 16 && s.b (BAR2_PAGE_EN p) && a + len ≤ s.installed then some a else none

/-- A read of BAR2: data, EP where it meets an uncorrectable error, or 0s with source 27; Completer Abort while frozen. -/
def State.bar2Read (s : State) (off len : Nat) : State :=
  if s.b DBG_STAT_FROZEN then s.emit (.completion 4 [])
  else match s.bar2Addr off len with
    | some a => (s.eccRead a len).emit (.completion (if s.badBeats a len = [] then 0 else 8) (s.readMem a len))
    | none => (s.raise 27 0).emit (.completion 0 (zeros len))

/-- A write of BAR2; ignored with source 27, and discarded while frozen. -/
def State.bar2Write (s : State) (off : Nat) (bs : List Byte) : State :=
  if s.b DBG_STAT_FROZEN then s
  else match s.bar2Addr off bs.length with
    | some a => s.ddrWrite a bs
    | none => s.raise 27 0

/-- Unmask a vector: one message for what is pending (R251). -/
def State.unmask (s : State) (v : Nat) : State :=
  (s.wr (MSIX_TABLE (4 * v + 3)) (putBits (s.rd (MSIX_TABLE (4 * v + 3))) 0 0 0)).msixFlush

/-- L1 entry: only in PARKED, with ASPM L1 enabled and the link in L0 (R240). -/
def State.l1Entry (s : State) : State :=
  if s.b SYS_PWR_CTRL_PARKED && s.pcie.aspmL1 && s.b PCIE_LINK_STAT_LINK_UP && !s.b PCIE_LINK_STAT_L1 then
    (s.setB PCIE_LINK_STAT_L1 true).emit (.link true)
  else s

/-- A request of the host, or another of the link's: a part in reset has no link, and takes and answers none (R48, R54, R74).
Memory requests are answered with Memory Space Enable 0 and in D3hot too, for which the spec names no gate (DESIGN CHOICE, log 110). -/
def State.hostAsks (s : State) (g : State → State) : State := if s.inReset then s else g s.begin

/-! Commands -/

/-- PERST_ASSERT (R75, R94). -/
def execPerstAssert (s : State) : Host.Outcome State Fault Refusal := .next s.begin.fundamental

/-- PERST_RELEASE (R91, R92). -/
def execPerstRelease (s : State) : Host.Outcome State Fault Refusal := .next s.begin.perstRelease

/-- FUNCTION_LEVEL_RESET (R75, R91, R721). -/
def execFunctionLevelReset (s : State) : Host.Outcome State Fault Refusal := .next (s.hostAsks State.flrRequest)

/-- CONFIG_REQUEST (R91, R721). -/
def execConfigRequest (write : Bool) (off : Nat) (v : Word) (s : State) : Host.Outcome State Fault Refusal :=
  .next (s.hostAsks (·.cfgRequest write off v))

/-- LINK_UP (R238). -/
def execLinkUp (speed width : Fin 16) (s : State) : Host.Outcome State Fault Refusal :=
  .next (s.begin.linkEnters speed width)

/-- LINK_DOWN (R239). -/
def execLinkDown (s : State) : Host.Outcome State Fault Refusal := .next s.begin.linkLost

/-- PCIE_ERROR_RX: 0 UR or CA, 1 poisoned, 2 malformed, 3 an unexpected completion (R242). -/
def execPcieErrorRx (kind : Fin 4) (s : State) : Host.Outcome State Fault Refusal :=
  .next (s.awake (·.pcieEvent (if kind.val = 0 then 2 else if kind.val = 1 then 3 else if kind.val = 2 then 5 else 4)))

/-- CPL_TIMEOUT (R279, R280). -/
def execCplTimeout (what : Fin 64) (s : State) : Host.Outcome State Fault Refusal :=
  .next (s.awake (·.requestTimeout what))

/-- BME_CLEAR (R241, R286). -/
def execBmeClear (s : State) : Host.Outcome State Fault Refusal :=
  .next (s.awake (·.setBme false))

/-- BME_SET (R286). -/
def execBmeSet (s : State) : Host.Outcome State Fault Refusal :=
  .next (s.awake (·.setBme true))

/-- D3HOT_ENTRY (R241). -/
def execD3hotEntry (s : State) : Host.Outcome State Fault Refusal :=
  .next (s.awake (·.setB PCIE_LINK_STAT_D3HOT true))

/-- BAR2_READ (R245, R246, R292, R293). -/
def execBar2Read (off len : Nat) (s : State) (upsets : List (Nat × Bool) := []) : Host.Outcome State Fault Refusal :=
  .next (s.hostAsks fun s => (s.upset upsets).bar2Read off len)

/-- BAR2_WRITE (R245, R293). -/
def execBar2Write (off : Nat) (bytes : List Byte) (s : State) : Host.Outcome State Fault Refusal :=
  .next (s.hostAsks (·.bar2Write off bytes))

/-- UNSUPPORTED_REQUEST (R237): Unsupported Request, which AER logs (R242). -/
def execUnsupportedRequest (s : State) : Host.Outcome State Fault Refusal := .next (s.hostAsks fun s => (s.emit (.completion 1 [])).aerError 20)

/-- MSIX_UNMASK (R251). -/
def execMsixUnmask (vec : Fin 64) (s : State) : Host.Outcome State Fault Refusal :=
  .next (s.awake (·.unmask vec))

/-- ASPM_L1_ENTRY (R240). -/
def execAspmL1Entry (s : State) : Host.Outcome State Fault Refusal :=
  .next (s.awake (·.l1Entry))

end Sys2Proof.Machine
end

