-- ==== Sys2Proof/Machine/Security.lean ====
section
/-!
DEFINITION. Security.lean: fuses, tokens, the image loader and its checks, the Geode with its tamper monitors and keys, opening and
closing the ledger, checkpoint signatures and delivery (18_security_ledger.md R646 to R676, R685 to R687; 03_startup.md R84 to R87;
05_xaone_isa.md R188 to R190).
-/

namespace Sys2Proof.Machine
open Reg Fld

/-! Fuses (R646 to R648) -/

/-- A key slot's hash, 48 bytes; all 0 on a slot that is not programmed. -/
def State.keyHash (s : State) (n : Nat) : List Byte := slice (Map.get (fun _ => zeros 48) s.fuses.keyHash n) 0 48

/-- Is a key slot programmed? -/
def State.keySlot (s : State) (n : Nat) : Bool := n < 4 && !allZero (s.keyHash n)

/-- Is a key slot programmed and not revoked? -/
def State.keyUsable (s : State) (n : Nat) : Bool := s.keySlot n && !s.fuses.revoke.getLsbD n

/-- A class's POLICY field, A, B, C as 0, 1, 2. -/
def State.policyOf (s : State) (c : Nat) : BitVec 4 := Map.get (fun _ => 0) s.fuses.policy c

/-- The supply root hash, 32 bytes. -/
def State.supplyRoot (s : State) : List Byte := slice s.fuses.supplyRoot 0 32

/-- The mirror of the fuses (Table 18.1), SEC_STAT.REGULATED and SYS_BOOT_STAT.REGULATED. -/
def State.showFuses (s : State) : State :=
  let w0 := b2n s.fuses.regulated + s.fuses.revoke.toNat * 16 + s.fuses.tamperUnused.toNat * 256
  let w1 := (s.policyOf 0).toNat + (s.policyOf 1).toNat * 16 + (s.policyOf 2).toNat * 256
  let s := (s.wn (SEC_FUSE 0) w0).wn (SEC_FUSE 1) w1
  let s := (s.wn (SEC_FUSE 2) s.fuses.rollback).wn (SEC_FUSE 3) s.fuses.hwm
  let s := (s.wn (SEC_FUSE 4) s.fuses.devkeyUsed.toNat).wr (SEC_FUSE 5) s.fuses.subsys
  let s := s.wr64 (SEC_FUSE 6) s.fuses.dsn.toNat
  let s := s.forEach (List.range 4) fun s n => s.putBytes (SEC_FUSE (8 + 12 * n)) (s.keyHash n)
  let s := s.putBytes (SEC_FUSE 56) s.supplyRoot
  (s.setB SEC_STAT_REGULATED s.fuses.regulated).setB SYS_BOOT_STAT_REGULATED s.fuses.regulated

/-- Take a token of an operation that is still valid (R650): whether there is one, and the rest. -/
def State.useToken (s : State) (op : Nat) : Option State :=
  match s.sec.tokens.find? fun t => t.1 = op && s.tb < t.2 + 800000000 with
  | some t => some { s with sec := { s.sec with tokens := s.sec.tokens.erase t } }
  | none => none

/-- Is there such a token? -/
def State.hasToken (s : State) (op : Nat) : Bool := (s.useToken op).isSome

/-- The state with such a token taken, if there is one. -/
def State.takeToken (s : State) (op : Nat) : State := (s.useToken op).getD s

/-- The condition of Table 18.2 for a field, an index and data, by the fuses as they read. -/
def State.fuseReads (s : State) (field index : Nat) (data : List Byte) : Bool :=
  match field with
  | 1 => !s.keySlot index
  | 2 => s.keySlot index && (List.range 4).any fun m => m ≠ index && s.keyUsable m
  | 3 => 1 ≤ ofLe data && ofLe data ≤ 64 && s.fuses.rollback ≤ ofLe data
  | 4 => index ≤ 2 && s.policyOf index = 0
  | 5 => !s.fuses.regulated
  | 6 => allZero s.supplyRoot
  | 7 => s.fuses.subsys = 0
  | 8 => (List.range 4).any s.keyUsable && s.policyOf 0 ≠ 0
  | _ => false

/-- Blow data into a field: no blown bit returns to 0 (R646). -/
def Fuses.blow (x : Fuses) (field index : Nat) (data : List Byte) : Fuses :=
  let n := ofLe data
  let orBytes (old : List Byte) (len : Nat) : List Byte := (slice old 0 len).zip (slice data 0 len) |>.map fun p => p.1 ||| p.2
  match field with
  | 1 => { x with keyHash := Map.insert index (orBytes (Map.get (fun _ => zeros 48) x.keyHash index) 48) x.keyHash }
  | 2 => { x with revoke := x.revoke ||| (1#4 <<< index) }
  | 3 => { x with rollback := max x.rollback (min n 64) }
  | 4 => { x with policy := Map.insert index (Map.get (fun _ => 0#4) x.policy index ||| BitVec.ofNat 4 n) x.policy }
  | 5 => { x with tamperUnused := x.tamperUnused ||| BitVec.ofNat 6 n }
  | 6 => { x with supplyRoot := orBytes x.supplyRoot 32 }
  | 7 => { x with subsys := x.subsys ||| BitVec.ofNat 32 n }
  | 8 => { x with regulated := true }
  | _ => x

/-- Does the condition hold, by the fuses as they read and as they will once the programmings in progress have ended (R647; DEDUCED, log 107)? -/
def State.fuseOk (s : State) (field index : Nat) (data : List Byte) : Bool :=
  let then_ := { s with fuses := s.sec.fprog.foldl (fun (x : Fuses) (p : Nat × Nat × List Byte) => x.blow p.1 p.2.1 p.2.2) s.fuses }
  s.fuseReads field index data && then_.fuseReads field index data

/-- SEC_FPROG.GO (R647, R648): outside ROLLBACK a regulated part needs a token of operation FUSE. -/
def State.fuseGo (s : State) (field index : Nat) : State :=
  let data := s.regBytes (SEC_FDATA 0) 48
  let need := s.fuses.regulated && field ≠ 3
  if s.fuseOk field index data && (!need || s.hasToken 1) then
    let s := s.when need (·.takeToken 1)
    { s with sec := { s.sec with fprog := s.sec.fprog ++ [(field, index, data)] } }
  else s.ev SEC_STAT_FPROG_REFUSED

/-- FUSE_PROGRAM_DONE: the oldest field being programmed is blown. -/
def State.fuseDone (s : State) : State :=
  match s.sec.fprog with
  | [] => s
  | (field, index, data) :: rest =>
    let s := { s with sec := { s.sec with fprog := rest }, fuses := s.fuses.blow field index data }
    s.showFuses

/-! The Geode's registers (R654, R657) -/

/-- Entries of the vault log as GEO_LOGENT words. -/
def TamperEntry.word (e : TamperEntry) : Nat := e.monitor + e.actions * 0x100 + e.count % 0x1000000000000 * 0x10000

/-- GEO_STAT, GEO_MON and the log follow the Geode. -/
def State.showGeode (s : State) : State :=
  let g := s.geode
  let s := ((s.setB GEO_STAT_KEK_VALID g.kek.isSome).setB GEO_STAT_REG_LOCK g.regLock).setB GEO_STAT_VAULT_LOST g.lost
  let s := (s.setB GEO_STAT_ON_VBAT g.onVbat).setF GEO_MON_ACTIVE g.active.toNat
  let s := (s.setF GEO_LOG_COUNT g.log.length).setF GEO_LOG_OVF g.overflow
  s.forEach (List.range 8) fun s e => s.wr64 (GEO_LOGENT (2 * e)) ((g.log[e]?.map TamperEntry.word).getD 0)

/-- Raise a security source, or keep it for the main rails while they are off or the collector is held in reset or frozen (R657, R722,
log 74). -/
def State.vaultFault (s : State) (src : Nat) : State :=
  if s.asleep then { s with geode := { s.geode with waiting := s.geode.waiting ++ [src] } }
  else if src = 96 then s.raiseLive 96 0
  else s.raise src 0

/-- A rail's bit of SYS_RAIL_STAT (R56). -/
def State.railBit (s : State) (r : Nat) (ok : Bool) : State :=
  s.wr SYS_RAIL_STAT (putBits (s.rd SYS_RAIL_STAT) r r (b2n ok))

/-! Tamper (R655 to R657) -/

/-- The class of a monitor (Table 18.4): 0 A, 1 B, 2 C. -/
def tamperClass (m : Nat) : Nat := if m < 8 then 0 else if m < 16 then 1 else 2

/-- The actions of a class's event (R656): POLICY, with LOG and FAULT on a regulated part; LOG alone where it is blank. -/
def State.tamperActions (s : State) (c : Nat) : Nat :=
  let p := (s.policyOf c).toNat
  if s.fuses.regulated then p ||| 10 else if p = 0 then 2 else p

/-- Does TIMEBASE move with the vault's clock: not in STANDBY or power-on reset (R21)? -/
def State.vaultTimed (s : State) : Bool := s.power.aonRuns && !s.power.porHeld

/-- The vault's count brought up to now (R654): 32,768 clocks in 800,000,000 ticks of TIMEBASE, none while the oscillator is stopped. -/
def State.vaultSync (s : State) : State :=
  let g := s.geode
  let n := g.countRem + if s.vaultTimed && !g.active.getLsbD 11 then 16 * (s.tb - g.countAt) else 0
  { s with geode := { g with count := (g.count + n / 390625) % 0x1000000000000, countRem := n % 390625, countAt := s.tb } }

/-- Queue the TAMPER record of an entry (R657, Table 18.7). -/
def State.tamperRecord (s : State) (e : TamperEntry) : State :=
  { s with ledger := { s.ledger with own := s.ledger.own ++ [e.record] } }

/-- LOG: an entry in the vault log of 8; its record is queued at once while the ledger is open. One not appended yet that is overwritten counts
in OVF, and its record is withdrawn. -/
def State.tamperLog (s : State) (m acts : Nat) : State :=
  let g := s.vaultSync.geode
  let e : TamperEntry := { monitor := m, actions := acts, count := g.count, stamp := if s.power.aonRuns then s.tb else 0 }
  let (gone, kept) := g.log.splitAt (g.log.length - 7)
  let lost := gone.filter fun x => !x.appended
  let s := { s with geode := { g with log := kept ++ [e], overflow := min 255 (g.overflow + lost.length) }
                    ledger := { s.ledger with own := lost.foldl (fun l (x : TamperEntry) => l.erase x.record) s.ledger.own } }
  s.when s.ledgerTakes (·.tamperRecord e)

/-- ERASE (Table 18.5, R691): the KEK, the unwrapped device key and TWIN_PSK are gone; source 99. -/
def State.erase (s : State) : State :=
  let s := { s with geode := { s.geode with kek := none, kekLost := true, psk := none } }
  let s := (s.setB GEO_STAT_DEVKEY_VALID false).putBytes (LG_DEVPUB 0) (zeros 100)
  s.vaultFault 99

/-- Debug locks: UNLOCKED and BENCH clear (R715, R717); the freeze stays. -/
def State.debugLock (s : State) : State := (s.setB DBG_STAT_UNLOCKED false).setB DBG_CTRL_BENCH false

/-- A tamper event of a monitor (R655, R656). A class A event on a regulated part locks debug (R715). -/
def State.tamperEvent (s : State) (m : Nat) : State :=
  let c := tamperClass m
  if m < 6 && s.fuses.tamperUnused.getLsbD m then s
  else
    let acts := s.tamperActions c
    let s := s.when (bitAt acts 0) State.erase
    let s := s.when (bitAt acts 1) (·.tamperLog m acts)
    let s := s.when (bitAt acts 2) fun s => { s with geode := { s.geode with regLock := true } }
    let s := s.when (bitAt acts 3) (·.vaultFault (96 + c))
    let s := s.when (c = 0 && s.fuses.regulated) State.debugLock
    s.showGeode

/-- Is a class A monitor active? -/
def State.classA (s : State) : Bool := s.geode.active.toNat % 64 ≠ 0

/-- Put the active bit of a monitor. -/
def State.setActive (s : State) (m : Nat) (on : Bool) : State :=
  let bit : BitVec 12 := 1#12 <<< m
  { s with geode := { s.geode with active := if on then s.geode.active ||| bit else s.geode.active &&& ~~~bit } }

/-- The vault's supply: no vault state is lost; VBAT_LOW holds only on VBAT (R58). -/
def State.vaultOn (s : State) (vbat : Bool) : State :=
  let s := { s with geode := { s.geode with onVbat := vbat, vbatLow := s.geode.vbatLow && vbat } }
  (s.when (!vbat) (·.setActive 8 false)).showGeode

/-- A monitor's condition at a sample: an event when it comes about (log 60). -/
def State.sampleMonitor (s : State) (m : Nat) (on : Bool) : State :=
  let used := !(m < 6 && s.fuses.tamperUnused.getLsbD m)
  let was := s.geode.active.getLsbD m
  let s := s.setActive m (on && used)
  s.when (on && used && !was) (·.tamperEvent m)

/-- A tamper sample (R59, Table 18.4): `mesh` bits 3:0 are driven on traces 0A, 0B, 1A, 1B and bits 7:4 come back; a set bit of `switches` is an open
switch; `die` is the sensor's raw value. The vault's count moves with TIMEBASE; where that stands still, by the clocks of a sample interval. -/
def State.tamperSample (s : State) (mesh : BitVec 8) (switches : BitVec 4) (die : BitVec 16) : State :=
  let step := if s.vaultTimed || s.geode.active.getLsbD 11 then 0 else if s.power.aonRuns then 32 else 32768
  let s := s.vaultSync
  let s := { s with geode := { s.geode with count := (s.geode.count + step) % 0x1000000000000 } }
  let bad (i : Nat) : Bool := mesh.getLsbD i != mesh.getLsbD (i + 4)
  let t := toSigned 16 die.toNat - toSigned 16 (leAt (s.regBytes (QZ_ACTIVE 0) 160) 0x40 2)
  let s := s.when (!s.inReset) (·.setF CAL_DIETEMP_T (ofSigned 16 (satS 16 t)))
  let s := (s.sampleMonitor 0 (bad 0 || bad 1)).sampleMonitor 1 (bad 2 || bad 3)
  let s := s.forEach (List.range 4) fun s i => s.sampleMonitor (2 + i) (switches.getLsbD i)
  let s := s.sampleMonitor 10 (t < -800 || 2000 < t)
  let s := s.setActive 11 false
  let s := s.when (!s.classA) (·.liveFollows 96 false)
  s.showGeode

/-- The faults that waited for the main rails (R657). -/
def State.vaultWake (s : State) : State :=
  let w := s.geode.waiting.eraseDups
  let s := { s with geode := { s.geode with waiting := [] } }
  s.forEach w fun s src => if src = 96 && s.classA then s.raiseLive 96 0 else s.raise src 0

/-- The collector runs again, after a reset or a freeze: rails and clock as they stand, the vault's faults, and LIVE of source 96, which follows the
class A monitors where FAULT applies to them (R56, R617, R630, R657, Table 18.12). -/
def State.collectorWake (s : State) : State :=
  let s := s.liveFollows 0 (s.rn SYS_RAIL_STAT % 256 ≠ 255)
  let s := (s.liveFollows 5 s.power.clockOut).vaultWake
  if s.classA then s.when (bitAt (s.tamperActions 0) 3) (·.liveFollows 96 true) else s.liveFollows 96 false

/-! Tokens (R649 to R651) -/

/-- Operations a token may carry. -/
def tokenOp (op : Nat) : Bool := (1 ≤ op && op ≤ 4) || op = 16 || op = 17

/-- The bytes a token's signature covers. -/
def State.tokenText (s : State) (op : Nat) : List Byte :=
  [0x4B, 0x54, 0x44, 0x54] ++ leBytes 8 s.fuses.dsn.toNat ++ leBytes 4 op ++ s.regBytes (SEC_TOK_NONCE 0) 32

/-- Is the token in the registers valid (R649)? -/
def State.tokenValid (s : State) (op : Nat) : Bool :=
  let pub := s.regBytes (SEC_TOK_PUB 0) 97
  tokenOp op && ((List.range 4).any fun n => s.keyUsable n && s.keyHash n = sha384 pub) &&
    Config.verify384 pub (sha384 (s.tokenText op)) (s.regBytes (SEC_TOK_SIG 0) 96)

/-- A fresh nonce (R650). -/
def State.newNonce (s : State) : State :=
  let (k, s) := s.fresh
  s.putBytes (SEC_TOK_NONCE 0) (freeBytes k 32)

/-- SEC_TOK_CTRL.GO (R650, R651). -/
def State.tokenGo (s : State) (op : Nat) : State :=
  let ok := s.tokenValid op
  let s := s.newNonce
  if ok then
    let s := ((s.ev SEC_TOK_STAT_VALID).setB SEC_TOK_STAT_INVALID false).setF SEC_TOK_STAT_CONSEC 0
    { s with sec := { s.sec with tokens := s.sec.tokens ++ [(op, s.tb)] } }
  else
    let n := if s.f SEC_TOK_STAT_CONSEC = 3 then 1 else s.f SEC_TOK_STAT_CONSEC + 1
    let s := ((s.ev SEC_TOK_STAT_INVALID).setB SEC_TOK_STAT_VALID false).setF SEC_TOK_STAT_CONSEC n
    s.when (n = 3) (·.tamperEvent 17)

/-- TOKEN_EXPIRE: authorisations 1 s old lapse. -/
def State.tokenExpire (s : State) : State :=
  { s with sec := { s.sec with tokens := s.sec.tokens.filter fun t => s.tb < t.2 + 800000000 } }

/-! Images (R84 to R87, R188 to R190) -/

/-- Length of an image by its header (R188). -/
def imageLen (im : List Byte) : Nat := 352 + leAt im 0x18 4 + leAt im 0x1C 4

/-- Code followed by data. -/
def imagePayload (im : List Byte) : List Byte := slice im 256 (leAt im 0x18 4 + leAt im 0x1C 4)

/-- The bytes signed and measured (R189). -/
def imageSigned (im : List Byte) : List Byte := im.take (256 + leAt im 0x18 4 + leAt im 0x1C 4)

/-- The measurement (R189). -/
def measurement (im : List Byte) : List Byte := sha384 (imageSigned im)

/-- Check 2 of Table 3.4 (R84, R188, R189): the image is present in full, and its lengths agree. R189 does not list CODE_LENGTH and DATA_LOAD
outside Table 5.10's values: they fail this check too (DESIGN CHOICE, log 98). -/
def imageLengths (im : List Byte) (first : Bool) : Bool :=
  let code := leAt im 0x18 4
  let data := leAt im 0x1C 4
  leAt im 6 2 = 0x100 && 4 ≤ code && code ≤ 65536 && code % 4 = 0 && data ≤ 131072 &&
  leAt im 0x10 4 % 4 = 0 && leAt im 0x10 4 < code && leAt im 0x14 4 % 4 = 0 && leAt im 0x14 4 < code &&
  leAt im 0x20 4 % 4 = 0 && leAt im 0x20 4 + data + leAt im 0x24 4 ≤ 131072 &&
  imageLen im ≤ im.length && (!first || imageLen im ≤ 131072) &&
  sha384 (imagePayload im) = slice im 0x30 48

/-- Is every key slot blank and REGULATED clear, so that checks 3 to 6 are skipped (R86)? -/
def State.unsigned (s : State) : Bool := !s.fuses.regulated && !(List.range 4).any s.keySlot

/-- The first of checks 1 to 6 of Table 3.4 that fails, 0 where none does; `type` says which TYPE values pass check 1. On a
regulated part with every slot blank a first-stage image fails with 8 (R86); where 8 stands in the order is not given, and it is looked at for
each image once checks 1 and 2 have passed (DESIGN CHOICE, log 98). -/
def State.imageCode (s : State) (first : Bool) (im : List Byte) : Nat :=
  let slot := leAt im 9 1
  let type := leAt im 8 1
  if im.take 4 ≠ [0x58, 0x49, 0x4D, 0x47] || !(type = 1 || (!first && type = 2)) then 1
  else if !imageLengths im first then 2
  else if s.unsigned then 0
  else if first && s.fuses.regulated && !(List.range 4).any s.keySlot then 8
  else if !s.keySlot slot || sha384 (slice im 0x60 97) ≠ s.keyHash slot then 3
  else if s.fuses.revoke.getLsbD slot then 4
  else if !Config.verify384 (slice im 0x60 97) (measurement im) (slice im (imageLen im - 96) 96) then 5
  else if leAt im 0x0C 4 < s.fuses.rollback then 6
  else 0

/-- The rest of IMEM: TRAP 0xFFFF (R190). -/
def trapFill (words : Nat) : List Byte := (List.replicate words [0xFF, 0xFF, 0x20, 0xFC]).flatten

/-- Copy an image into an engine (R190): code and fill into IMEM, its pages locked, data and zeros after it into DMEM; the first
stage's DMEM is zeroed elsewhere too (R87). -/
def State.putImage (s : State) (e : Nat) (wipe : Bool) (im : List Byte) : State :=
  let code := leAt im 0x18 4
  let data := leAt im 0x1C 4
  let at_ := leAt im 0x20 4
  let s := s.writeMem (imemBase e) (slice im 256 code ++ trapFill ((65536 - code) / 4))
  let s := s.setF (ENG_SIGPAGES_LOCKED e) (s.f (ENG_SIGPAGES_LOCKED e) ||| (2 ^ ((code + 4095) / 4096) - 1))
  let s := s.setF (ENG_ENTRY_ENTRY e) (leAt im 0x10 4 / 4)
  let s := s.when wipe (·.writeMem (dmemBase e) (zeros 131072))
  let s := s.writeMem (dmemBase e + at_) (slice im (256 + code) data ++ zeros (leAt im 0x24 4))
  s.modEng e fun x => { x with trapVector := BitVec.ofNat 32 (leAt im 0x14 4) }

/-- IMAGE record's body (Table 18.7). -/
def imageBody (im : List Byte) (noSig fallback : Bool) : List Byte :=
  measurement im ++ slice im 0x28 8 ++ slice im 0x0C 4 ++ slice im 9 1 ++ [BitVec.ofNat 8 (b2n noSig + 2 * b2n fallback)]

/-- The number of measurements pending. -/
def State.showPending (s : State) : State := s.setF SEC_LD_STAT_PENDING s.sec.measured.length

/-- A measurement: queued for the ledger while that takes records, else kept (R653). -/
def State.measured (s : State) (e : Nat) (body : List Byte) : State :=
  if s.ledgerTakes then s.ownRecord 2 e body
  else ({ s with sec := { s.sec with measured := s.sec.measured ++ [Measured.mk e body] } }).showPending

/-- SEC_LD_CTRL.GO: a load begins; while one is in progress the write has no effect (R652). -/
def State.loadGo (s : State) (e : Nat) : State :=
  if s.sec.load.isSome then s
  else
    let l : Load := { engine := e, src := s.rd64 SEC_LD_SRC_LO, len := s.f SEC_LD_LEN_BYTES }
    ({ s with sec := { s.sec with load := some l } }).setB SEC_LD_STAT_BUSY true

/-- The code a load ends with, 0 for success (R652). A source that does not lie in DDR gives no image to check: the engine is looked at, then the
read error stands (DEDUCED, log 72). -/
def State.loadCode (s : State) (l : Load) (im : List Byte) (readError : Bool) : Nat :=
  let c := s.imageCode false im
  if s.installed < l.src + l.len then (if (s.eng l.engine).running || 14 ≤ l.engine then 13 else 14)
  else if c ≠ 1 && imageLen im ≠ l.len then 2
  else if c ≠ 0 then c
  else if leAt im 8 1 ≠ 2 || !bitAt (leAt im 0x0A 2) l.engine then 12
  else if (s.eng l.engine).running || 14 ≤ l.engine then 13
  else if readError then 14
  else if !s.ledgerTakes && 16 ≤ s.sec.measured.length then 15
  else 0

/-- IMAGE_LOAD_DONE (R652, R653, R96). -/
def State.loadDone (s : State) (ddrError : Bool) : State :=
  match s.sec.load with
  | none => s
  | some l =>
    let inDdr := l.src + l.len ≤ s.installed
    let bad := ddrError || !inDdr || s.badBeats l.src l.len ≠ []
    let s := s.when inDdr (·.eccRead l.src l.len)
    let im := if inDdr then s.readMem l.src l.len else []
    let code := s.loadCode l im bad
    let s := { s with sec := { s.sec with load := none } }
    let s := (s.setB SEC_LD_STAT_BUSY false).setF SEC_LD_STAT_FAIL_CODE code
    if code ≠ 0 then (s.ev SEC_LD_STAT_FAIL).raise 100 0
    else
      let s := (s.putImage l.engine false im).modEng l.engine fun x => { x with checked := !s.unsigned }
      let s := s.setF SYS_ENG_STAT_VERIFIED (s.f SYS_ENG_STAT_VERIFIED ||| 2 ^ l.engine)
      let s := s.putBytes (SEC_LD_MEAS 0) (measurement im)
      (s.measured l.engine (imageBody im s.unsigned false)).ev SEC_LD_STAT_DONE

/-! Keys (R658 to R660) -/

/-- A private key is unwrapped: its public key is in force. -/
def State.useKey (s : State) (priv : List Byte) : State :=
  (s.putBytes (LG_DEVPUB 0) (slice (Config.pubKey384 priv) 0 97)).setB GEO_STAT_DEVKEY_VALID true

/-- A DEVKEY slot's 80 bytes (Table 18.1). -/
def State.devkey (s : State) (n : Nat) : List Byte := slice (Map.get (fun _ => zeros 80) s.fuses.devkey n) 0 80

/-- The slot of a private key wrapped under a KEK (R658). No additional data is named: there is none (DEDUCED, log 72). -/
def wrapKey (kek : BitVec 256) (nonce priv : List Byte) : List Byte := nonce ++ gcmSeal (leBytes 32 kek.toNat) nonce [] priv ++ zeros 4

/-- The private key of a slot; none where the tag fails. -/
def unwrapKey (kek : BitVec 256) (slot : List Byte) : Option (List Byte) :=
  gcmOpen (leBytes 32 kek.toNat) (slot.take 12) [] (slice slot 12 64)

/-- The highest DEVKEY slot in use. -/
def State.topKey (s : State) : Option Nat := ((List.range 4).filter s.fuses.devkeyUsed.getLsbD).getLast?

/-- DEVKEY_VALID clears; source 99. -/
def State.keyLost (s : State) : State := (s.setB GEO_STAT_DEVKEY_VALID false).raise 99 0

/-- The device key is unwrapped at a power-on reset (R658): a tag that fails, and a KEK zeroed by an ERASE or lost by the vault (R60), raise
source 99. A part that never had a KEK has lost none (DEDUCED, log 72). -/
def State.unwrap (s : State) : State :=
  match s.geode.kek with
  | some k =>
    match s.topKey with
    | some n =>
      match unwrapKey k (s.devkey n) with
      | some priv => s.useKey priv
      | none => s.keyLost
    | none => s
  | none => s.when (s.geode.lost || s.geode.kekLost) State.keyLost

/-- A key's KEY record (Table 18.7): the compressed public key. -/
def keyBody (pub : List Byte) : List Byte :=
  BitVec.ofNat 8 (2 + leAt pub 96 1 % 2) :: slice pub 1 48

/-- GEO_CMD.PROVISION (R659): KEK, private key and nonce are drawn; the KEY record is due until the chain holds it. -/
def State.provision (s : State) : State :=
  match (List.range 4).find? fun n => !s.fuses.devkeyUsed.getLsbD n with
  | some n =>
    if s.classA || s.b SEC_STAT_SELFTEST_FAIL || (s.fuses.regulated && !s.hasToken 2) then s.ev GEO_STAT_PROV_REFUSED
    else
      let s := s.when s.fuses.regulated (·.takeToken 2)
      let (k, s) := s.fresh
      let drawn := freeBytes k 92
      let kek := BitVec.ofNat 256 (ofLe (drawn.take 32))
      let priv := slice drawn 32 48
      let slot := wrapKey kek (slice drawn 80 12) priv
      let s := { s with fuses := { s.fuses with devkeyUsed := s.fuses.devkeyUsed ||| (1#4 <<< n)
                                                devkey := Map.insert n slot s.fuses.devkey }
                        geode := { s.geode with kek := some kek, kekLost := false } }
      let s := (s.useKey priv).showFuses.showGeode
      let body := keyBody (slice (Config.pubKey384 priv) 0 97)
      let s := s.when s.ledgerTakes (·.ownRecord 3 n body)
      { s with ledger := { s.ledger with keyDue := s.ledger.keyDue ++ [(n, body)] } }
  | none => s.ev GEO_STAT_PROV_REFUSED

/-- GEO_CMD.UNLOCK (R660): a class A monitor active refuses it; without a token of operation UNLOCK it has no effect. -/
def State.geoUnlock (s : State) : State :=
  if s.classA then s.ev GEO_STAT_PROV_REFUSED
  else match s.useToken 3 with
    | some s => ({ s with geode := { s.geode with regLock := false } }).showGeode
    | none => s

/-! The ledger (R670 to R676) -/

/-- BOOT record's body (Table 18.7). -/
def State.bootBody (s : State) : List Byte :=
  let g := s.geode
  let serial (d : Nat) : Option Nat := (g.lastSerial.find? (·.1 = d)).map (·.2)
  let flags := b2n g.lost + 2 * b2n g.kekLost + 4 * b2n g.regLock +
    ((List.range 4).map fun d => b2n (serial d).isSome * 2 ^ (4 + d)).sum
  leBytes 4 (s.rn SYS_RST_CAUSE) ++ leBytes 4 (s.rn SYS_BOOT_STAT) ++ leBytes 4 (g.next - 1 - g.sent) ++ leBytes 4 flags ++
    ((List.range 4).map fun d => leBytes 8 ((serial d).getD 0)).flatten ++
    [BitVec.ofNat 8 s.fuses.rollback, BitVec.ofNat 8 s.fuses.hwm]

/-- The records an OPEN appends before any other (R673), then those that waited. -/
def State.openRecords (s : State) : State :=
  let waited := s.ledger.own
  let s := { s with ledger := { s.ledger with own := [] } }
  let s := s.when (!s.ledger.opened) fun s => s.ownRecord 1 0 s.bootBody
  let s := s.ledger.keyDue.foldl (fun s k => s.ownRecord 3 k.1 k.2) s
  let s := s.sec.measured.foldl (fun s m => s.ownRecord 2 m.engine m.body) s
  let s := ({ s with sec := { s.sec with measured := [] } }).showPending
  let s := (s.geode.log.filter fun e => !e.appended).foldl State.tamperRecord s
  { s with ledger := { s.ledger with own := s.ledger.own ++ waited } }

/-- Is some serial floor not written since reset (R672)? A floor is written with its HI half. -/
def State.floorsDue (s : State) : Bool :=
  (List.range 4).any fun d => !s.w1Locked.contains (LG_SERIAL_FLOOR_HI d)

/-- LG_CTRL.OPEN (R672, R673); an open ledger stays open. The known-answer tests come before the first OPEN of a reset, which waits for their end
(R686; DESIGN CHOICE, log 109). After a loss of the Geode's state the serial floors are in force from here (R675). -/
def State.ledgerOpen (s : State) : State :=
  let r := s.f LG_CFG_RING_LOG2
  if !s.ledger.tested then { s with ledger := { s.ledger with openWaits := true } }
  else if r < 4 || 16 < r || s.b SEC_STAT_SELFTEST_FAIL ||
      (s.fuses.regulated && (!s.b GEO_STAT_DEVKEY_VALID || s.geode.regLock)) || (s.geode.lost && s.floorsDue) then
    s.ev LG_STAT_OPEN_REFUSED
  else if s.ledger.isOpen then s
  else
    let h := if s.ledger.opened then s.ledger.h else if s.geode.lost then zeros 48 else s.geode.hSent
    let s := { s with ledger := { s.ledger with h := h, isOpen := true } }
    let s := (s.setB LG_STAT_IS_OPEN true).openRecords
    let floors := if s.geode.lost then (List.range 4).map fun d => (d, s.rd64 (LG_SERIAL_FLOOR_LO d)) else s.geode.floors
    { s with ledger := { s.ledger with opened := true }, geode := { s.geode with told := true, floors := floors } }

/-- LG_CTRL.CLOSE (R674). -/
def State.ledgerClose (s : State) : State :=
  if s.fuses.regulated || ((List.range 8).any fun k => s.b (JQ_CTRL_ENABLE k)) || s.itemsOpen then s.ev LG_STAT_CLOSE_REFUSED
  else if !s.ledgerTakes then s
  else s.ownRecord 12 0 []

/-- CP_SIG (R663, R687): signed under the device key CP_HASH names, or zeros where there is none any more. -/
def State.cpSig (s : State) : State :=
  match s.ledger.signing with
  | [] => s
  | (c, cp) :: rest =>
    let (k, s) := s.fresh
    let own := s.b GEO_STAT_DEVKEY_VALID && slice cp 0x50 8 = s.signer
    let body := if own then slice (Config.sign384 k (s.regBytes (LG_DEVPUB 0) 97) (sha384 cp)) 0 96 else zeros 96
    let s := { s with ledger := { s.ledger with signing := rest, own := ⟨10, c % 0x100000000, 0x10, body, none⟩ :: s.ledger.own } }
    s.acceptNext

/-- STALL and LIVE of source 101 fall with room in the buffer, unless a mark could not be blown (R671, R676). -/
def State.stallEnd (s : State) : State :=
  if s.b LG_STAT_STALL && !s.ledger.markFail && s.ledger.buffer.length < ledgerCap then
    (s.setB LG_STAT_STALL false).setLive 101 false
  else s

/-- LEDGER_SEND (R670, R674): one record to its slot of the host ring, then the MSI-X event. -/
def State.ledgerSend (s : State) : State :=
  match s.ledger.buffer with
  | [] => s
  | (bytes, h) :: rest =>
    let size := 2 ^ s.f LG_CFG_RING_LOG2
    let tail := s.rn LG_TAIL
    if (tail + 0x100000000 - s.rn LG_HEAD) % 0x100000000 = size || !s.canSend then s
    else
      let s := s.hostWrite (s.rd64 LG_RING_LO + tail % size * 128) bytes
      let s := s.msix (s.f LG_CFG_VECTOR)
      let s := s.wn LG_TAIL (tail + 1)
      let s := { s with ledger := { s.ledger with buffer := rest }
                        geode := { s.geode with sent := leAt bytes 8 8, hSent := h } }
      let s := s.when (leAt bytes 0 2 = 12) fun s =>
        ({ s with ledger := { s.ledger with isOpen := false, closing := false } }).setB LG_STAT_IS_OPEN false
      s.stallEnd

/-- Writes of LG_CFG, LG_RING_LO and LG_RING_HI are ignored while the ledger is open; LG_RING_HI returns both indices to 0 (R670). -/
def State.ledgerCfgWrite (s : State) (a : Nat) (new : Word) : State :=
  if s.ledger.isOpen then s
  else
    let s := s.wr a new
    s.when (a = LG_RING_HI) fun s => (s.wn LG_TAIL 0).wn LG_HEAD 0

/-- After the Geode lost its state, NEXT resumes past the last mark, once its mark is blown (R676); NEXT 0 stands for a counter
lost. -/
def State.resumeNext (s : State) : State :=
  if s.geode.next = 0 then
    if s.fuses.hwm < 255 then
      let m := s.fuses.hwm + 1
      ({ s with fuses := { s.fuses with hwm := m }, geode := { s.geode with next := m * 0x100000000 } }).showFuses
    else
      let s := { s with ledger := { s.ledger with markFail := true } }
      (s.setB LG_STAT_STALL true).raiseLive 101 0
  else s

/-- A failed crypto or entropy test (R686). -/
def State.selfTestFail (s : State) : State := (s.setB SEC_STAT_SELFTEST_FAIL true).raise 105 0

/-- The vault runs dry (R60): every volatile value of R654 is lost; NEXT waits to be resumed. -/
def State.vaultDry (s : State) : State :=
  if s.geode.onVbat then
    let g : Geode := { next := 0, kekLost := true, lost := true, onVbat := true, vbatLow := s.geode.vbatLow,
                       countAt := s.tb, active := s.geode.active, waiting := s.geode.waiting }
    ({ s with geode := g }).showGeode
  else s

/-! Commands -/

/-- FUSE_PROGRAM_DONE (R647). -/
def execFuseProgramDone (s : State) : Host.Outcome State Fault Refusal :=
  .next (s.awake (·.fuseDone))

/-- TOKEN_EXPIRE (R650). -/
def execTokenExpire (s : State) : Host.Outcome State Fault Refusal :=
  .next (s.awake (·.tokenExpire))

/-- IMAGE_LOAD_DONE (R652). -/
def execImageLoadDone (ddrError : Bool) (s : State) : Host.Outcome State Fault Refusal :=
  .next (s.awake (·.loadDone ddrError))

/-- TAMPER_SAMPLE (R59). -/
def execTamperSample (mesh : BitVec 8) (switches : BitVec 4) (dieTemp : BitVec 16) (s : State) :
    Host.Outcome State Fault Refusal := .next (s.begin.tamperSample mesh switches dieTemp)

/-- VBAT_LOW (Table 18.4): VBAT falls below 1.9 V while the vault runs on it. -/
def execVbatLow (s : State) : Host.Outcome State Fault Refusal :=
  let s := s.begin
  let s := s.railBit 8 false
  if s.geode.onVbat then
    let s := { s with geode := { s.geode with vbatLow := true } }
    .next ((s.setActive 8 true).tamperEvent 8)
  else .next s

/-- XTAL_STOP (Table 18.4). -/
def execXtalStop (s : State) : Host.Outcome State Fault Refusal := .next ((s.begin.vaultSync.setActive 11 true).tamperEvent 11)

/-- VAULT_SUPPLY_SWITCH (R58): the vault takes VDD_IO18 only while that rail is in range, and VBAT only while it is not. -/
def execVaultSupplySwitch (toVbat : Bool) (s : State) : Host.Outcome State Fault Refusal :=
  .next (s.begin.when (toVbat != bitAt (s.rn SYS_RAIL_STAT) 5) (·.vaultOn toVbat))

/-- VBAT_LOSS (R60). -/
def execVbatLoss (s : State) : Host.Outcome State Fault Refusal := .next s.begin.vaultDry

/-- LEDGER_ACCEPT (R662). -/
def execLedgerAccept (s : State) : Host.Outcome State Fault Refusal :=
  .next (s.awake (·.acceptNext))

/-- CP_SIG (R663). -/
def execCpSig (s : State) : Host.Outcome State Fault Refusal :=
  .next (s.awake (·.cpSig))

/-- LEDGER_SEND (R670). -/
def execLedgerSend (s : State) : Host.Outcome State Fault Refusal :=
  .next (s.awake (·.ledgerSend))

/-- The known-answer tests after a reset end, once for each reset; then comes an OPEN that has waited for them. -/
def State.selfTested (s : State) (ok : Bool) : State :=
  if s.ledger.tested then s
  else
    let waits := s.ledger.openWaits
    let s := { s with ledger := { s.ledger with tested := true, openWaits := false } }
    (s.when (!ok) State.selfTestFail).when waits State.ledgerOpen

/-- SELF_TEST (R686). -/
def execSelfTest (ok : Bool) (s : State) : Host.Outcome State Fault Refusal :=
  .next (s.awake (·.selfTested ok))

/-- ENTROPY_TEST_FAIL (R686). -/
def execEntropyTestFail (s : State) : Host.Outcome State Fault Refusal :=
  .next (s.awake (·.selfTestFail))

end Sys2Proof.Machine
end

