-- ==== Sys2Proof/Machine/Debug.lean ====
section
/-!
DEFINITION. Debug.lean: debug unlock, the Obsidian freeze, the read-out window and the TAP (20_freeze_debug.md R713 to R728).
-/

namespace Sys2Proof.Machine
open Reg Fld

/-! Unlock (R713 to R717) -/

/-- DBG_CTRL.UNLOCK: free where REGULATED is clear, else under a DEBUG token (R713, R714). -/
def State.dbgUnlock (s : State) : State :=
  if !s.fuses.regulated then s.setB DBG_STAT_UNLOCKED true
  else match s.useToken 16 with
    | some s => s.setB DBG_STAT_UNLOCKED true
    | none => (s.ev DBG_STAT_UNLOCK_REFUSED).raise 104 0

/-- A write of DBG_CTRL.BENCH (R717). -/
def State.benchWrite (s : State) (on : Bool) : State :=
  if !on then s.setB DBG_CTRL_BENCH false
  else if s.b DBG_CTRL_BENCH || !s.b DBG_STAT_UNLOCKED then s
  else if !s.fuses.regulated then s.setB DBG_CTRL_BENCH true
  else match s.useToken 17 with
    | some s => s.setB DBG_CTRL_BENCH true
    | none => s

/-! The freeze (R718 to R722) -/

/-- A freeze request; `stops` are the cycles each island took, at most 64 (R720). EN, PWM and REJ are low while FROZEN is 1, ERR_N is
held low (R722). What the scan chains then hold is drawn (R725). An AON island in reset samples no request (R48, R54). -/
def State.freezeReq (s : State) (stops : List Nat) : State :=
  if s.inReset then s
  else if !s.b DBG_STAT_UNLOCKED then s.ev DBG_STAT_FREEZE_REFUSED
  else if s.b DBG_STAT_FROZEN then s
  else
    let s := (s.wr64 DBG_FRZ_TB_LO s.tb).setB DBG_STAT_FROZEN true
    let s := (s.setB DBG_STAT_BENCH_AT_FREEZE (s.b DBG_CTRL_BENCH)).errDrive
    let (k, s) := s.fresh
    let s := { s with scanKey := k }
    s.forEach (List.range 17) fun s i => s.setF (DBG_ISL_STOP_CYCLES i) (min 64 (stops.getD i 0))

/-- A freeze requested through DBG_CTRL: how long each island takes is not given. -/
def State.freezeWrite (s : State) : State :=
  let (k, s) := s.fresh
  s.freezeReq ((List.range 17).map fun i => bits (freeAt k i).toNat 6 0)

/-- RESUME (R726, R727): outputs stay disabled, positions are unsure, a FAULT_IN_N acceptance is latched, and the collector sees the rails,
the clock and the vault's faults as they stand, the HOST island the link. -/
def State.dbgResume (s : State) : State :=
  if !(s.b DBG_STAT_FROZEN && s.b DBG_STAT_BENCH_AT_FREEZE) then s.ev DBG_STAT_RESUME_REFUSED
  else
    let s := s.setB DBG_STAT_FROZEN false
    let s := s.forEach (List.range 16) fun s a => (s.axisEnable a false).setB (PWM_CFG_EN a) false
    let s := s.forEach (List.range 4) fun s r =>
      ((s.setB (REJ_CFG_EN r) false).modRej r fun x =>
        { entries := x.entries.map fun e => if e.opened then { e with high := false } else e, high := false })
    let s := s.forEach (List.range 12) fun s c => s.when (s.b (FB_CTRL_EN c)) (·.setB (FB_LIVE_POS_UNSURE c) true)
    let s := s.when (!s.b FLT_STAT_FAULT_IN_LOW && s.b (FLT_SRC_LIVE 10)) (·.setLive 10 false)
    let rec_ := s.frozenFaultIn
    let s := ({ s with frozenFaultIn := false }).errDrive
    let s := if rec_ then if s.b FLT_STAT_FAULT_IN_LOW then (s.safeOutputs true).raiseLive 10 0 else s.raise 10 0 else s
    s.collectorWake.hostWakes

/-- A write of DBG_CTRL: a lock comes before a freeze, a freeze before BENCH (Table 20.2). -/
def State.dbgWrite (s : State) (new : Word) : State :=
  let n := new.toNat
  let s := s.when (bitAt n 0) State.dbgUnlock
  let s := s.when (bitAt n 1) State.debugLock
  let s := s.when (bitAt n 3) State.freezeWrite
  let s := s.benchWrite (bitAt n 2)
  s.when (bitAt n 4) State.dbgResume

/-! Read-out (R723 to R725) -/

/-- The BAR0 offset DBG_MWIN stands at. -/
def State.mwinAddr (s : State) : Nat := 4 * s.f DBG_MWIN_ADDR_ADDR

/-- A read of DBG_MWIN_DATA: while frozen the word of the SRAM arrays, SPE0's for the pair (R746), and ADDR advances. -/
def State.mwinRead (s : State) : State × Word :=
  if s.b DBG_STAT_FROZEN && windowRange s.mwinAddr then
    let o := s.mwinAddr
    (s.setF DBG_MWIN_ADDR_ADDR (o / 4 + 1), BitVec.ofNat 32 (ofLe (s.winRead o 4)))
  else (s, s.rd DBG_MWIN_DATA)

/-- A write of DBG_MWIN_DATA: only while frozen with BENCH 1, and to both copies of the SPE pair (R724, R746). One to an IMEM page locked as signed is
ignored (R110), as one to the nozzle table is, which takes 8 bytes only (R109); the frozen collector latches neither source (R720; DESIGN CHOICE, log
81). A write may change what the scan chains hold. -/
def State.mwinWrite (s : State) (v : Word) : State :=
  let o := s.mwinAddr
  let nozzles := decide (0x800000 ≤ o) && decide (o < 0xA00000)
  if s.b DBG_STAT_FROZEN && s.b DBG_CTRL_BENCH && windowRange o && windowAll o 4 && !nozzles && s.signedHit o 4 = none then
    let (k, s) := s.fresh
    { s.winStore o (leBytes 4 v.toNat) with scanKey := k }
  else s

/-- DBG_SCAN_LEN. -/
def State.scanLen (s : State) : Word := Config.scanLen (s.f DBG_SCAN_SEL_ISLAND)

/-! The TAP (R728) -/

/-- Select an instruction of Table 20.3 if its condition holds, else BYPASS. -/
def State.jtagSelect (s : State) (code : Nat) (ok : Bool) : State := { s with jtagIr := if ok then code else 0xFF }

/-- Is RESET_N low: a warm reset by that pin in progress, and no power-on reset, which holds the TAP too (R54, R76)? -/
def State.resetPinLow (s : State) : Bool := s.power.resetLow && s.power.strapsDue && !s.power.porHeld && s.power.aonRuns

/-- The condition of EXTEST, CLAMP and HIGHZ: debug unlocked and frozen, or RESET_N low on a part that is not regulated, which is unlocked
without a token, while a regulated one cannot be unlocked then (R713, R728). -/
def State.boundaryOk (s : State) : Bool :=
  (s.b DBG_STAT_FROZEN && s.b DBG_STAT_UNLOCKED) || (s.resetPinLow && !s.fuses.regulated)

/-- The bits of a word, least significant first. -/
def wordBits (v : Nat) : List Bool := (List.range 32).map (bitAt v)

/-- Shift out what the selected instruction's register holds: IDCODE, the one bit of BYPASS, which CLAMP and HIGHZ select too (0 by IEEE 1149.1),
or the scan chain, whose contents the manual does not map: a full rotation leaves it as it was, so that the next one reads the same (R725). -/
def State.jtagShift (s : State) : State :=
  if s.jtagIr = 0x02 then s.emit (.jtag (wordBits 0x16448967))
  else if s.jtagIr = 0x21 then
    s.emit (.jtag ((List.range s.scanLen.toNat).map fun i => Config.scanBit s.scanKey (s.f DBG_SCAN_SEL_ISLAND) i))
  else if s.jtagIr = 0xFF || s.jtagIr = 0x03 || s.jtagIr = 0x04 then s.emit (.jtag [false])
  else s

/-- Shift the boundary register, if EXTEST or SAMPLE/PRELOAD is selected: the levels captured at the balls go out as the bits `tdi` come in, and what
then stands in it is what EXTEST and CLAMP drive (R728). -/
def State.boundaryShift (s : State) (tdi : List Bool) : State :=
  if tdi = [] || (s.jtagIr ≠ 0x00 && s.jtagIr ≠ 0x01) then s
  else
    let (k, s) := s.fresh
    let bits := (List.range Config.boundaryLen).map (Config.scanBit k 32) ++ tdi
    ({ s with bsr := bits.drop tdi.length }).emit (.jtag (bits.take tdi.length))

/-- TRST_N low: the DEBUG island and the TAP (Table 3.1): debug locks as at a reset (R713, R715), IDCODE is selected; a freeze in
progress, which the AON island holds, goes on (R715, R726). Debug is unlocked from the release of reset only (R54, R713). -/
def State.debugReset (s : State) : State :=
  let zero (s : State) (a : Nat) : State := s.wr a (resetOf a)
  let s := s.forEach [DBG_CTRL, DBG_MWIN_ADDR, DBG_MWIN_DATA, DBG_SCAN_SEL] zero
  let s := s.setB DBG_STAT_UNLOCKED (!s.fuses.regulated && !s.inReset)
  { s with jtagIr := 0x02 }

/-! Commands -/

/-- DEBUG_RESET (R728). -/
def execDebugReset (s : State) : Host.Outcome State Fault Refusal := .next s.begin.debugReset

/-- FREEZE_PIN (R718, R719). -/
def execFreezePin (stops : List (BitVec 7)) (s : State) : Host.Outcome State Fault Refusal :=
  .next (s.begin.freezeReq (stops.map (·.toNat)))

/-- SCANOUT (R725). -/
def execScanout (s : State) : Host.Outcome State Fault Refusal :=
  .next (s.begin.jtagSelect 0x21 (s.b DBG_STAT_UNLOCKED && s.b DBG_STAT_FROZEN)).jtagShift

/-- EXTEST (R728). -/
def execExtest (s : State) (tdi : List Bool := []) : Host.Outcome State Fault Refusal :=
  .next ((s.begin.jtagSelect 0x00 s.boundaryOk).jtagShift.boundaryShift tdi)

/-- SAMPLE_PRELOAD (R728). -/
def execSamplePreload (s : State) (tdi : List Bool := []) : Host.Outcome State Fault Refusal :=
  .next ((s.begin.jtagSelect 0x01 true).boundaryShift tdi)

/-- IDCODE (R728). -/
def execIdcode (s : State) : Host.Outcome State Fault Refusal := .next (s.begin.jtagSelect 0x02 true).jtagShift

/-- CLAMP (R728). -/
def execClamp (s : State) : Host.Outcome State Fault Refusal := .next (s.begin.jtagSelect 0x03 s.boundaryOk).jtagShift

/-- HIGHZ (R728). -/
def execHighz (s : State) : Host.Outcome State Fault Refusal := .next (s.begin.jtagSelect 0x04 s.boundaryOk).jtagShift

/-- BYPASS (R728). -/
def execBypass (s : State) : Host.Outcome State Fault Refusal := .next (s.begin.jtagSelect 0xFF true).jtagShift

end Sys2Proof.Machine
end

