-- ==== Sys2Proof/Machine/Twin.lean ====
section
/-!
DEFINITION. Twin.lean: twin operation (19_twin.md R688 to R712): the Basalt lanes and session, heartbeats and the quorum wires, what
the STANDBY follows, takeover, and the lease answers that decide it.
-/

namespace Sys2Proof.Machine
open Reg Fld

/-! Roles and outputs -/

/-- Is the Basalt link UP (R695)? -/
def State.linkIsUp (s : State) : Bool := s.basaltUp 0 || s.basaltUp 1

/-- Is every domain of this twin stopped? -/
def State.allStopped (s : State) : Bool := (List.range 4).all s.stopped

/-- Mirror lag (R700, R702, R706): source 118. -/
def State.mirrorLag (s : State) (info : Nat) : State := (s.ev TWIN_STAT_MIRROR_LAG).raise 118 info

/-- An authentication failure (R696, R697): source 117. -/
def State.authFail (s : State) (i : Nat) : State := (s.ev TWIN_STAT_AUTH_FAIL).raise 117 i

/-! The Basalt lanes (R694, R695) -/

/-- Source 112 is LIVE while EN is 1 and a lane is not UP. -/
def State.basaltLive (s : State) : State :=
  s.when (s.b (FLT_SRC_LIVE 112) && (!s.b TWIN_CFG_EN || (s.basaltUp 0 && s.basaltUp 1))) (·.setLive 112 false)

/-- LANES_UP. -/
def State.showLanes (s : State) : State :=
  (s.setF TWIN_STATE_LANES_UP (b2n (s.basaltUp 0) + 2 * b2n (s.basaltUp 1))).basaltLive

/-- The RATES mask this twin offers: RATE_MAX 1 is 5.15625 Gbit/s, any other value 10.3125 Gbit/s. -/
def State.basaltRates (s : State) : Nat := if s.f TWIN_CFG_RATE_MAX = 1 then 2 else 6

/-- Negotiation of a lane starts (R425); in PARKED it waits for the return to IDLE (R63, Table 2.7). -/
def State.basaltStart (s : State) (i : Nat) : State :=
  if s.b SYS_PWR_CTRL_PARKED then s else
  let s := s.dropFrame (64 + i)
  let s := s.modBasalt i fun x =>
    { x with phase := .caps, startedAt := s.tb, lastCap := [], capSame := 0, sel := [], offered := 0, renegAt := none }
  s.showLanes

/-- Negotiation fails: source 116 (R695). -/
def State.basaltFail (s : State) (i : Nat) : State :=
  (((s.dropFrame (64 + i)).modBasalt i fun x => { x with phase := .failed }).showLanes).raise 116 i

/-- Select the highest rate below a bound that both twins offer, with CRC-32C, or fail (R428, R430, R694). A CAP that states the selection
already is its echo. -/
def State.basaltSelect (s : State) (i bound : Nat) (cap : List Byte) : State :=
  let common := (s.basaltLane i).offered &&& s.basaltRates
  match ((List.range 3).reverse).find? fun r => r < bound && bitAt common r with
  | some r =>
    let sel := [BitVec.ofNat 8 (2 ^ r), 2]
    s.modBasalt i fun x =>
      { x with phase := .selecting, rate := r, sel := sel, capSame := if (cap.drop 1).take 2 = sel then 2 else 0 }
  | none => s.basaltFail i

/-- A fresh HELLO (R696): what is left of an earlier session ends. -/
def State.hello (s : State) (i : Nat) : State :=
  let (k, s) := s.fresh
  let n := freeBytes k 32
  let s := { s with twin := { s.twin with nonce := n, peerNonce := [], key := none } }
  s.emit (.basalt i 0x40 (n ++ [BitVec.ofNat 8 s.twinId] ++ zeros 7))

/-- A lane comes UP; the first one, or one that comes UP while no session is set up or under way, begins a session (R696). -/
def State.basaltUpNow (s : State) (i : Nat) : State :=
  let first := !s.linkIsUp || (s.twin.key.isNone && s.twin.nonce = [])
  let s := (s.modBasalt i fun x => { x with phase := .up }).showLanes
  s.when first (·.hello i)

/-- One more half of an echo: bit 0 sent, bit 1 received. Both agree on the selection, and the lane goes electrically idle; both at the new rate
bring it UP (R428, R694). -/
def State.basaltEchoed (s : State) (i bit : Nat) : State :=
  let s := s.modBasalt i fun x => { x with capSame := x.capSame ||| bit }
  if (s.basaltLane i).capSame ≠ 3 then s
  else if (s.basaltLane i).phase = .selecting then s.modBasalt i fun x => { x with phase := .switching, switchAt := s.tb }
  else s.basaltUpNow i

/-- A CAP frame of a Basalt lane (R425, R428, R694), but for its last `hold` blocks: what the twin offers, or its selection. -/
def State.basaltCapTx (s : State) (i hold : Nat) : State :=
  let x := s.basaltLane i
  let cap (masks : List Byte) : State := s.emitHeld hold (.basalt i 0x02 ([1] ++ masks ++ [BitVec.ofNat 8 s.twinId]))
  match x.phase with
  | .caps => cap [BitVec.ofNat 8 s.basaltRates, 3]
  | .selecting | .echoing => (cap x.sel).basaltEchoed i 1
  | .off | .switching | .up | .failed => s

/-- A CAP frame of the peer (R426, R694): the third identical one selects the rate, or fails; one that states the selection is its echo. -/
def State.basaltCapRx (s : State) (i : Nat) (bs : List Byte) : State :=
  let x := s.basaltLane i
  let same := if x.lastCap = bs then x.capSame + 1 else 1
  if !s.b TWIN_CFG_EN || bs.length ≠ 4 then s
  else match x.phase with
    | .caps =>
      let s := s.modBasalt i fun x => { x with lastCap := bs, capSame := same, offered := x.offered ||| leAt bs 1 1 }
      if same < 3 then s
      else if leAt bs 0 1 = 0 || !bitAt (leAt bs 2 1) 1 || leAt bs 3 1 = s.twinId then s.basaltFail i
      else s.basaltSelect i 3 bs
    | .selecting | .echoing => if (bs.drop 1).take 2 = x.sel then s.basaltEchoed i 2 else s
    | .off | .switching | .up | .failed => s

/-- After 10 us of electrical idle a Basalt lane resumes at the selected rate with IDLE frames (R428, R694). -/
def State.basaltSwitch (s : State) (i : Nat) : State :=
  if (s.basaltLane i).phase = .switching && (s.basaltLane i).switchAt + 8000 ≤ s.tb then
    ((s.dropFrame (64 + i)).emit (.basalt i 0x01 [])).modBasalt i fun x => { x with phase := .echoing, capSame := 0, switchAt := s.tb }
  else s

/-- No echo within 1 ms of the switch: back to 2.578125 Gbit/s, and the next lower rate that both twins offer (R428, R694). -/
def State.basaltFallback (s : State) (i : Nat) : State :=
  let x := s.basaltLane i
  if x.phase = .echoing && x.switchAt + 800000 ≤ s.tb then (s.dropFrame (64 + i)).basaltSelect i x.rate [] else s

/-- A lane that was UP is lost: source 112, negotiation anew. -/
def State.basaltLost (s : State) (i : Nat) : State :=
  if s.basaltUp i then (s.basaltStart i).raiseLive 112 i else s

/-- A lane not UP 20 ms after negotiation started fails (R430). -/
def State.basaltTimeout (s : State) (i : Nat) : State :=
  let x := s.basaltLane i
  if x.phase.busy && x.startedAt + 16000000 ≤ s.tb then s.basaltFail i else s

/-! The session (R692, R696) -/

/-- N0 and N1: the nonce of the twin with ID 0, then of the other. -/
def State.nonces (s : State) : List Byte :=
  if s.twinId = 0 then s.twin.nonce ++ s.twin.peerNonce else s.twin.peerNonce ++ s.twin.nonce

/-- The session key K. -/
def State.sessionKey (s : State) : List Byte :=
  (sha384 ([0x4B, 0x54, 0x44, 0x42] ++ s.geode.psk.getD (zeros 32) ++ s.nonces)).take 32

/-- The hash an AUTH signature covers. -/
def State.authHash (s : State) (id : Nat) : List Byte :=
  sha384 ([0x4B, 0x54, 0x44, 0x41] ++ s.nonces ++ [BitVec.ofNat 8 id])

/-- A signature under the device key. -/
def State.sign (s : State) (hash : List Byte) : List Byte × State :=
  let (k, s) := s.fresh
  (slice (Config.sign384 k (s.regBytes (LG_DEVPUB 0) 97) hash) 0 96, s)

/-- A HELLO of the peer on a lane: with an earlier session in force a new one begins; AUTH follows. -/
def State.helloRx (s : State) (i : Nat) (n : List Byte) : State :=
  if !s.b TWIN_CFG_EN || !s.basaltUp i || n.length ≠ 32 then s
  else
    let s := s.when (s.twin.key.isSome || s.twin.nonce = []) (·.hello i)
    let s := { s with twin := { s.twin with peerNonce := n } }
    let (sig, s) := s.sign (s.authHash s.twinId)
    s.emit (.basalt i 0x41 ([BitVec.ofNat 8 s.twinId] ++ zeros 7 ++ sig))

/-- Has an HB of this session shown every domain of the peer stopped? -/
def State.peerStopped (s : State) : Bool := s.twin.peerStates ≠ [] && s.twin.peerStates.all (· = 0)

/-- Was QW_IN[0] silent by a tick: no change within the 1 ms before it (R699)? -/
def State.silentBy (s : State) (t : Nat) : Bool :=
  match s.twin.qwAt with
  | some u => decide (u + 800000 ≤ t)
  | none => true

/-- Role selection (R692) of a twin in PAIRING with a session, by the HBs of this session. A peer that is alive on the quorum sends HBs (R698), and
its first one is waited for (DEDUCED, log 77); beside a PRIMARY the twin waits until an HB shows every domain of it stopped. A lane of a new PRIMARY
has lost no lease yet (R704). -/
def State.selectRole (s : State) : State :=
  let seen := s.twin.peerStates ≠ []
  let peer := if seen then s.f TWIN_STATE_PEER_ROLE else 0
  if s.role ≠ 1 || s.twin.key.isNone || (!seen && !s.silentBy s.tb) then s
  else if peer = 2 && !s.peerStopped then s.setB TWIN_STATE_WAIT_IDLE true
  else
    let mine := s.b TWIN_CFG_PREFER && !Config.peerPrefer
    let prim := peer ≠ 2 && peer ≠ 3 && (mine || s.twinId = 0)
    let s := s.when prim fun s => s.forEach allLanes fun s l => s.modLane l fun x => { x with leaseLost := false }
    (s.setB TWIN_STATE_WAIT_IDLE false).setRole (if prim then 2 else 3)

/-- Heartbeats are not lost any more (R699). -/
def State.beatBack (s : State) : State :=
  s.when (s.b TWIN_STATE_HB_LOST) fun s => (s.setB TWIN_STATE_HB_LOST false).setLive 113 false

/-- AUTH of the peer on a lane (R696), in the form of Table 19.2 (R421). With the session the 1 ms of a heartbeat begins anew (DEDUCED, log 70). -/
def State.authRx (s : State) (i : Nat) (bs : List Byte) : State :=
  let peer := 1 - s.twinId
  if !s.b TWIN_CFG_EN || !s.basaltUp i || s.twin.nonce = [] || s.twin.peerNonce = [] || bs.length ≠ 104 || leAt bs 1 7 ≠ 0 then s
  else if leAt bs 0 1 = peer && Config.verify384 (s.regBytes (TWIN_PEER_PUB 0) 97) (s.authHash peer) (slice bs 8 96) then
    let lanes := s.twin.lanes.map fun x => (x.1, { x.2 with txSeq := 1, rxSeq := 0 })
    let s := { s with twin := { s.twin with key := some s.sessionKey, lanes := lanes, hbAt := s.tb, lostAt := none, mseq := 0,
                                            unacked := [], rxMseq := 0, mirrorH := none, hSent := false, peerStates := [] } }
    s.beatBack.selectRole
  else
    let s := { s with twin := { s.twin with key := none, nonce := [], peerNonce := [] } }
    (s.modBasalt i fun x => { x with renegAt := some (s.tb + 8000000) }).authFail i

/-- The renegotiation 10 ms after a failed AUTH. -/
def State.basaltReneg (s : State) (i : Nat) : State :=
  match (s.basaltLane i).renegAt with
  | some t => if t ≤ s.tb then (s.basaltStart i).raiseLive 112 i else s
  | none => s

/-! Encrypted frames (R697) -/

/-- Does a lane take encrypted frames: EN, the lane UP, a session set up? -/
def State.takesEnc (s : State) (i : Nat) : Bool := s.b TWIN_CFG_EN && s.basaltUp i && s.twin.key.isSome

/-- The plaintext of an encrypted frame of a lane; none where its tag fails or its SEQ is not new. -/
def State.plain (s : State) (i kind : Nat) (bs : List Byte) : Option (List Byte) :=
  let seq := bs.take 8
  let peer := 1 - s.twinId
  let iv := [BitVec.ofNat 8 peer, BitVec.ofNat 8 i] ++ zeros 2 ++ seq
  if leAt bs 0 8 ≤ (s.basaltLane i).rxSeq then none
  else gcmOpen (s.twin.key.getD []) iv (frameHeader kind peer ((bs.length + 7) / 8) ++ seq) (bs.drop 8)

/-- An encrypted frame of a lane is accepted with its plaintext, or discarded with source 117. -/
def State.openEnc (s : State) (i kind : Nat) (bs : List Byte) : State × Option (List Byte) :=
  if !s.takesEnc i then (s, none)
  else match s.plain i kind bs with
    | some p => (s.modBasalt i fun x => { x with rxSeq := leAt bs 0 8 }, some p)
    | none => (s.authFail i, none)

/-- Do something with a frame's plaintext. -/
def State.onFrame (s : State) (i kind : Nat) (bs : List Byte) (g : State → List Byte → State) : State :=
  match s.openEnc i kind bs with
  | (s, some p) => g s p
  | (s, none) => s

/-! Takeover (R704, R707 to R711) -/

/-- Does this twin hold every lease of every bar? -/
def State.allHeld (s : State) : Bool := allLanes.all fun l => !s.b (HL_CTRL_ENABLE l) || s.held l

/-- A running domain begins to pace itself (R710): the target moves on by whole pitches until it lies ahead of x̂, the line count with
it; in fixed-clock mode by the line periods elapsed since the last mirrored boundary. Lines passed over are missed (R366). -/
def State.paceSelf (s : State) (d : Nat) : State :=
  let x := s.dom d
  let k : Nat :=
    if s.f (DCD_CTRL_MODE d) = 2 then s.accumNow d / 0x100000000
    else ((s.xhat d x.made - x.target) / (max 1 x.pitch : Nat) + 1).toNat
  let s := s.setDom d { x with made := x.made + k, bcount := x.bcount + k, target := x.target + k * x.pitch,
                               accum := s.accumNow d % 0x100000000, accumAt := s.tb }
  let s := s.passOver d (s.rn (DCD_LINE d)) k
  let s := s.wn (DCD_LINE d) ((s.rn (DCD_LINE d) + k) % 0x100000000)
  if s.f (DCD_CTRL_MODE d) = 2 then s else s.unitFollow d

/-- A twin in TAKEOVER with every lease becomes PRIMARY (R710, R711). -/
def State.takeoverCheck (s : State) : State :=
  if s.role = 4 && s.allHeld then
    let s := ((s.setRole 2).ev TWIN_STAT_TAKEOVER_EV).raise 114 0
    let s := s.forEach allLanes fun s l => s.modLane l fun x => { x with heldFirst := true }
    (s.forEach (List.range 4) fun s d => s.when (!s.stopped d && 0 < (s.dom d).made) (·.paceSelf d)).judgeAll
  else s

/-- Length of the entry that begins a run of bytes. -/
def entryLen (bs : List Byte) : Nat :=
  match leAt bs 0 1 with
  | 1 => 32
  | 2 => if bitAt (leAt bs 1 1) 0 then 184 else 136
  | _ => 16

/-- The ITEM records among the entries of a MIRROR frame, by domain and serial; `m` is the first entry's MSEQ, and one up to `last` came before. -/
def itemEntries (last : Nat) : Nat → Nat → List Byte → List (Nat × Nat)
  | 0, _, _ => []
  | n + 1, m, bs =>
    let rest := itemEntries last n (m + 1) (bs.drop (entryLen bs))
    if bs ≠ [] && last < m && leAt bs 0 1 = 2 && leAt bs 8 2 = 4 then (leAt bs 0x37 1 % 4, leAt bs 0x28 8) :: rest else rest

/-- The ITEM records that arrive in the mirror in this cycle, of the MIRROR_RX commands that wait (R712, log 16). -/
def State.mirrorWaits (s : State) : List (Nat × Nat) :=
  s.pending.flatMap fun c => match c with
    | .mirrorRx i bs => match s.plain i 0x51 bs with
      | some p => if s.takesEnc i then itemEntries s.twin.rxMseq p.length (leAt p 0 8) (p.drop 8) else []
      | none => []
    | _ => []

/-- Enter TAKEOVER (R707, R708): an item whose window is open is diverted in it, and its outcome is final (R35). By a SWITCH no item is open, and
those still QUEUED are not spoiled (R693). -/
def State.takeover (s : State) (switch : Bool) : State :=
  let seen := (s.twin.mirrored.map fun m => (m.1, m.2.1)) ++ s.mirrorWaits
  let unseen (i : Item) : Bool := !seen.contains (i.dcd, i.serial) && !(switch && i.stage = .queued)
  let s := s.setRole 4
  let s := { s with twin := { s.twin with enteredAt := s.tb, lostAt := none, remain := [] } }
  let s := s.spoilWhere 18 unseen
  let settle (i : Item) : Item := { i with late := i.late || (unseen i && i.windowed) }
  let s : State := { s with items := s.items.map settle }
  let s := (s.items.filter fun i => unseen i && i.windowed && i.spoiled).foldl (fun s i => s.rejDivert i.reject i.id) s
  let s := s.forEach (allLanes.filter fun l => s.b (HL_CTRL_ENABLE l)) fun s l => s.setB (HL_CTRL_ACQUIRE l) true
  s.takeoverCheck

/-- Yield (R709): every lease released, source 120, ISOLATED. -/
def State.yieldNow (s : State) : State := (((s.releaseAll).ev TWIN_STAT_YIELD).raise 120 0).isolate

/-! Heartbeats and the quorum (R698, R699, R707) -/

/-- The HB payload (Table 19.2). -/
def State.hbBytes (s : State) : List Byte :=
  let held := (allLanes.filter s.held).foldl (fun n l => n + 2 ^ l) 0
  [BitVec.ofNat 8 s.role] ++ (List.range 4).map (fun d => BitVec.ofNat 8 (s.f (DCD_CTRL_STATE d))) ++ zeros 3 ++
    leBytes 8 held ++ leBytes 8 s.twin.mseq ++ leBytes 8 s.twin.rxMseq

/-- HEARTBEAT_TX, every 50 us. -/
def State.heartbeat (s : State) : State :=
  if (s.role = 2 || s.role = 3 || s.role = 4) && s.every s.twin.sentAt 40000 then
    let s := s.sendAll 0x50 s.hbBytes
    ({ s with twin := { s.twin with qwOut := (!s.twin.qwOut.1, s.twin.qwOut.2), sentAt := some s.tb } }).emit (.quorum 0)
  else s

/-- Is the payload an HB in the form of Table 19.2 (R421)? -/
def hbOk (p : List Byte) : Bool := p.length = 32 && leAt p 5 3 = 0

/-- An HB of the peer: a heartbeat, with its role, domains, leases and acknowledgement. -/
def State.hbRx (s : State) (p : List Byte) : State :=
  if !hbOk p then s else
  let ack := leAt p 24 8
  let tw := { s.twin with hbAt := s.tb, lostAt := none, peerStates := (p.drop 1).take 4 |>.map (·.toNat),
                          unacked := s.twin.unacked.filter fun u => ack < u.1 }
  let s := { s with twin := tw }
  ((s.beatBack.setF TWIN_STATE_PEER_ROLE (leAt p 0 1)).wr64 TWIN_PEER_LEASES_LO (leAt p 8 8)).selectRole

/-- Does a heartbeat arrive in this cycle, in an HB_RX command that waits (R712, log 16)? -/
def State.beatWaits (s : State) : Bool :=
  s.pending.any fun c => match c with
    | .hbRx i bs _ => s.takesEnc i && (s.plain i 0x50 bs).any hbOk
    | _ => false

/-- The quorum inputs as sampled (R699): the levels, and when QW_IN[0] last changed. -/
def State.quorumIn (s : State) (q : Quorum) : State :=
  let old := s.f TWIN_STATE_QW_IN
  let new := (q.level.map (·.toNat)).getD old
  let change := match q.moved with
    | some k => some (s.tb - k)
    | none => if new % 2 ≠ old % 2 then some s.tb else s.twin.qwAt
  { s.setF TWIN_STATE_QW_IN new with twin := { s.twin with qwAt := change } }

/-- Do something once the quorum inputs are sampled; in SOLO nothing is (R688). -/
def State.sampling (s : State) (q : Quorum) (g : State → State) : State := if s.b TWIN_CFG_EN then g (s.quorumIn q) else s

/-- HEARTBEAT_LOSS: no heartbeat for 1 ms. A STANDBY whose peer is silent on the quorum takes over; else its allowance runs (R707). A heartbeat of
the same cycle counts (R712). -/
def State.heartbeatLoss (s : State) : State :=
  let due := s.twin.hbAt + 800000
  if !s.b TWIN_STATE_HB_LOST && due ≤ s.tb && !(due = s.tb && s.beatWaits) then
    let s := (s.setB TWIN_STATE_HB_LOST true).raiseLive 113 0
    let s := { s with twin := { s.twin with lostAt := some s.tb } }
    s.when (s.role = 3 && s.silentBy s.tb) (·.takeover false)
  else s

/-- QUORUM_SILENT: within 100 us of the heartbeat loss a STANDBY whose peer has fallen silent takes over (R707); a twin in PAIRING waits for no HB of
such a peer. -/
def State.quorumSilent (s : State) : State :=
  if !s.silentBy s.tb then s
  else match s.twin.lostAt with
    | some t => if s.role = 3 && s.tb ≤ t + 80000 then s.takeover false else s.selectRole
    | none => s.selectRole

/-- The STANDBY becomes ISOLATED and says so (R705, R707). The outcomes of its items are its own from now on. -/
def State.standbyIsolates (s : State) : State := (s.isolate.ownWindows).sendAll 0x53 ([5, 3] ++ zeros 6)

/-- TAKEOVER_DECIDE, 100 us after the loss: a peer that had fallen silent on the quorum by then is taken over from, one still alive is not (R707). -/
def State.takeoverDecide (s : State) : State :=
  match s.twin.lostAt with
  | some t =>
    if s.role = 3 && t + 80000 ≤ s.tb then if s.silentBy (t + 80000) then s.takeover false else s.standbyIsolates
    else s
  | none => s

/-! What the STANDBY follows (R700, R702, R706, Table 19.4) -/

/-- A mirrored boundary of a running domain (R702), with the entry's line number; lines it skips are passed over. -/
def State.mirrorBoundary (s : State) (d line : Nat) (pos target : Int) : State :=
  if s.stopped d then s
  else
    let fixed := decide (s.f (DCD_CTRL_MODE d) = 2)
    let diff := (s.pos64 (s.f (DCD_SRC_CHANNEL d)) / one - pos).natAbs
    let next := s.nextPeriod d
    let skip := decide (line ≠ next)
    let k := (lineDiff line next).toNat
    let s := s.passOver d ((next + 0xFFFFFFFF) % 0x100000000) k
    let s := s.when ((!fixed && s.f TWIN_TIMING_POS_TOL < diff) || skip) (·.mirrorLag d)
    let s := (s.handAll d).nzSetsDone d
    let (s, _) := s.dcdCommit d
    let x := s.dom d
    let s := s.setDom d { x with made := x.made + k + 1, bcount := x.bcount + k + 1, lastTarget := x.target, target := target,
                                 accum := 0, accumAt := s.tb }
    let s := s.when (!fixed) (·.unitFollow d)
    let s := s.bndMark d line
    let s := s.fhCommits d
    let s := { s with twin := { s.twin with targets := Map.insert d (target, s.tb) s.twin.targets } }
    s.bndRest d line 0

/-- A mirrored ITEM record gives the item its outcome (Table 19.4); an item marked SPOILED before this twin was STANDBY stays so (R32). It is
DECIDED once it is VERIFYING here too. One SPOILED in its open window is diverted for the rest of it (R36, R537). -/
def State.mirrorItem (s : State) (r : List Byte) : State :=
  let dcd := leAt r 0x2F 1 % 4
  let serial := leAt r 0x20 8
  let s := { s with twin := { s.twin with mirrored := s.twin.mirrored ++ [(dcd, serial, r)] } }
  match s.items.find? fun i => i.dcd = dcd && i.serial = serial && !i.replay && i.result.isNone with
  | none => s
  | some i =>
    let j := i.keepOutcome s.tb r
    let s := s.modItem i.id fun _ => j
    (s.when (j.spoiled && j.windowed) (·.rejDivert j.reject j.id)).judgeItem j.id

/-- CP_HASH in the mirror (R706): countersigned where it states the chain this twin computed. -/
def State.countersign (s : State) (r h : List Byte) : State :=
  if slice r 0x20 48 = h then
    if s.b GEO_STAT_DEVKEY_VALID then
      let (sig, s) := s.sign (sha384 r)
      s.sendAll 0x52 (slice r 8 8 ++ sig)
    else s
  else s.mirrorLag 0

/-- A mirrored record: stored in TWIN_LGM, chained, checked (R706). -/
def State.mirrorRecord (s : State) (r : List Byte) : State :=
  let n := s.f TWIN_LGM_CFG_LOG2
  let wr := s.rn TWIN_LGM_WR
  let s := s.when (4 ≤ n && n ≤ 20) fun s =>
    (s.ddrWrite (s.rd64 TWIN_LGM_LO + wr % 2 ^ n * 128) r).wn TWIN_LGM_WR (wr + 1)
  let s := match s.twin.mirrorH with
    | some h =>
      let s := s.when (leAt r 0 2 = 9) (·.countersign r h)
      { s with twin := { s.twin with mirrorH := some (sha384 (h ++ r)) } }
    | none => s
  s.when (leAt r 0 2 = 4) (·.mirrorItem r)

/-- A mirrored nozzle entry: bits 31:0 of the entry, or a hold (Table 19.3). -/
def State.mirrorNozzle (s : State) (hold : Bool) (n v : Nat) : State :=
  let n := n % 0x40000
  if hold then s.holdNow n (v = 1)
  else s.writeNozzle n (s.nozzle n / 0x100000000 * 0x100000000 + v % 0x100000000)

/-- One mirror entry. -/
def State.mirrorEntry (s : State) (e : List Byte) : State :=
  match leAt e 0 1 with
  | 1 => if s.role ≠ 3 then s else s.mirrorBoundary (leAt e 1 1 % 4) (leAt e 4 4) (toSigned 64 (leAt e 8 8)) (toSigned 96 (leAt e 16 12))
  | 2 =>
    let s := if bitAt (leAt e 1 1) 0 then { s with twin := { s.twin with mirrorH := some (slice e 136 48) } } else s
    s.mirrorRecord (slice e 8 128)
  | 3 => s.mirrorNozzle (bitAt (leAt e 1 1) 0) (leAt e 4 4) (leAt e 8 8)
  | _ => s

/-- The entries of a MIRROR frame, the first with MSEQ `m`; one that came before on the other lane counts once. -/
def State.mirrorEntries : Nat → State → Nat → List Byte → State
  | 0, s, _, _ => s
  | n + 1, s, m, bs =>
    if bs = [] then s
    else
      let len := entryLen bs
      let s := if s.twin.rxMseq < m then
          ({ s with twin := { s.twin with rxMseq := m } }).mirrorEntry (bs.take len)
        else s
      mirrorEntries n s (m + 1) (bs.drop len)

/-- MIRROR_RX, in STANDBY; entries that arrive in the cycle in which it ends count too, but for a boundary (R712). -/
def State.mirrorRx (s : State) (p : List Byte) : State :=
  if s.role = 3 || ((s.role = 4 || s.role = 2) && s.twin.enteredAt = s.tb) then
    State.mirrorEntries p.length s (leAt p 0 8) (p.drop 8)
  else s

/-- CSIGN_RX: the PRIMARY appends COUNTERSIGN (R706), one for each CP_HASH, also where it comes on both lanes. -/
def State.csignRx (s : State) (p : List Byte) : State :=
  let c := leAt p 0 8
  if s.role = 2 && p.length = 104 && s.twin.csign.all (· < c) then
    let s := { s with twin := { s.twin with csign := some c } }
    s.ownRecord 11 (c % 0x100000000) (slice p 8 96)
  else s

/-- ROLE_RX: SWITCH makes a STANDBY take over (R693); PEER_ROLE is that of the last HB (Table 19.6). -/
def State.roleRx (s : State) (p : List Byte) : State :=
  if p.length ≠ 8 || leAt p 2 6 ≠ 0 then s else
  s.when (s.role = 3 && leAt p 1 1 = 1) (·.takeover true)

/-! Writes of TWIN_CFG and TWIN_CTRL (R690, R693, R705) -/

/-- May EN be set (R690)? -/
def State.twinEnOk (s : State) : Bool :=
  s.b GEO_STAT_DEVKEY_VALID && s.geode.psk.isSome && !allZero (s.regBytes (TWIN_PEER_PUB 0) 97) && s.ddrTrained && s.allStopped

/-- A write of TWIN_CFG: EN set enters PAIRING and starts both lanes; EN cleared returns to SOLO. -/
def State.twinCfgWrite (s : State) (new : Word) : State :=
  let was := s.b TWIN_CFG_EN
  let want := bitAt new.toNat 0
  let s := s.wr TWIN_CFG (putBits new 0 0 (b2n was))
  if want && !was then
    if s.twinEnOk then
      let s := ({ s with twin := { qwOut := s.twin.qwOut, qwAt := s.twin.qwAt, hbAt := s.tb } }).setB TWIN_CFG_EN true
      let s := (s.wn TWIN_STATE (s.f TWIN_STATE_QW_IN * 256)).setRole 1
      s.forEach [0, 1] fun s i => (s.basaltStart i).raiseLive 112 i
    else s.ev TWIN_STAT_CFG_ERROR
  else if was && !want then
    let standby := decide (s.role = 3)
    let s := ((s.setB TWIN_CFG_EN false).setRole 0).wn TWIN_STATE (s.f TWIN_STATE_QW_IN * 256)
    let s := s.when s.twin.qwOut.1 (·.emit (.quorum 0))
    let s := ({ s with twin := { qwAt := s.twin.qwAt } }).when standby (·.ownWindows)
    s.forEach [112, 113, 115] fun s n => s.when (s.b (FLT_SRC_LIVE n)) (·.setLive n false)
  else s

/-- TWIN_CTRL.SWITCH (R693); refused from the cycle in which heartbeats are lost (Table 19.5). -/
def State.twinSwitch (s : State) : State :=
  if s.role = 2 && s.f TWIN_STATE_PEER_ROLE = 3 && s.twin.key.isSome && !s.b TWIN_STATE_HB_LOST &&
      s.tb < s.twin.hbAt + 800000 && s.allStopped && s.peerStopped then
    ((s.sendAll 0x53 ([3, 1] ++ zeros 6)).releaseAll).setRole 3
  else s

/-- TWIN_CTRL.REJOIN (R705, R712). -/
def State.twinRejoin (s : State) : State :=
  if s.role = 5 && s.linkIsUp then
    ((s.setRole 1).setLive 115 false).hello (if s.basaltUp 0 then 0 else 1)
  else s

/-- A write of TWIN_PSK or TWIN_PEER_PUB: on a regulated part it takes a valid token of operation PAIR, which authorises the pairing
writes (R691); the token stays until it lapses. TWIN_PSK is held in the Geode. -/
def State.pairWrite (s : State) (a : Nat) (new : Word) : State :=
  if s.fuses.regulated && !s.hasToken 4 then s
  else if TWIN_PSK 0 ≤ a && a < TWIN_PSK 8 then
    let off := a - TWIN_PSK 0
    let old := s.geode.psk.getD (zeros 32)
    { s with geode := { s.geode with psk := some (old.take off ++ leBytes 4 new.toNat ++ old.drop (off + 4)) } }
  else s.wr a new

/-! The lease answers a takeover hangs on (R449, R458, R704, R709, R710) -/

/-- DENY: the holder and REMAIN, DENIED, source 53. A PRIMARY that has lost the lease and finds the peer named becomes ISOLATED (R704); a twin in
TAKEOVER that sees a renewal yields. A lease held is not touched by it (R449). -/
def State.leaseDeny (s : State) (l holder remain : Nat) : State :=
  let s := (s.setF (HL_LEASE_HOLDER_ID l) holder).setF (HL_LEASE_REMAIN l) remain
  let s := s.modLane l fun x => { x with lastAsk := if s.held l then x.lastAsk else none, denyAt := some s.tb }
  let s := (s.ev (HL_STAT_DENIED l)).raise 53 l
  if s.role = 2 then s.when (holder ≠ s.twinId && (s.lane l).leaseLost) (·.isolate)
  else if s.role = 4 then
    let old := (s.twin.remain.find? (·.1 = l)).map (·.2)
    let renewed := match old with
      | some (r, t) => decide ((r * 8000 : Int) - (s.tb - t : Nat) + 40000 < (remain * 8000 : Nat))
      | none => false
    let s := { s with twin := { s.twin with remain := Map.insert l (remain, s.tb) s.twin.remain } }
    s.when renewed (·.yieldNow)
  else s

/-- NO_LEASE: a held lease is lost; the bridge has reset (R458). -/
def State.leaseNone (s : State) (l holder : Nat) : State :=
  if s.held l then
    let s := ((s.ev (HL_STAT_BRIDGE_RESET l)).raise 59 l).thrClear l
    s.loseLease l true (holder = 1 - s.twinId)
  else s

/-! Commands -/

/-- LEASE GRANT of a lane; in TAKEOVER_WAIT the last grant completes the takeover. -/
def State.grantRx (s : State) (l : Nat) (epoch : Word) : State := (s.leaseGranted l epoch).takeoverCheck

/-- A head lane (0 to 63) or Basalt lane (64, 65) loses its lock. -/
def State.lockLost (s : State) (link : Nat) : State := if link < 64 then s.laneLost link else s.basaltLost (link - 64)

/-- Negotiation of a head lane or Basalt lane has not ended in time. -/
def State.negLate (s : State) (link : Nat) : State := if link < 64 then s.negTimeout link else s.basaltTimeout (link - 64)

/-- CAP frames of a head lane or Basalt lane. -/
def State.capOut (s : State) (link hold : Nat) : State := if link < 64 then s.capTx link hold else s.basaltCapTx (link - 64) hold

/-- A head lane or Basalt lane resumes at the selected rate. -/
def State.linkSwitch (s : State) (link : Nat) : State := if link < 64 then s.rateSwitch link else s.basaltSwitch (link - 64)

/-- A head lane or Basalt lane falls back to the next lower rate. -/
def State.linkFallback (s : State) (link : Nat) : State := if link < 64 then s.negFallback link else s.basaltFallback (link - 64)

/-- Do the grants of this cycle, in the LEASE_GRANT_RX commands that wait, complete the takeover (R712, log 16)? -/
def State.grantsWait (s : State) : Bool :=
  (s.pending.foldl (fun s c => match c with
    | .leaseGrantRx l epoch => s.grantRx l epoch
    | _ => s) s).role = 2

/-- LEASE_WAIT has passed in TAKEOVER_WAIT; the last grant of the same cycle counts (R709, R712). -/
def State.leaseWaitOver (s : State) : State :=
  let due := s.twin.enteredAt + 80000 * max 15 (s.f TWIN_TIMING_LEASE_WAIT)
  if s.role = 4 && due ≤ s.tb && !(due = s.tb && s.grantsWait) then s.yieldNow else s

/-- Mirror entries not acknowledged in time (Table 19.3). -/
def State.ackLate (s : State) : State :=
  let old (u : Nat × Nat) : Bool := u.2 + 160000 < s.tb
  if s.role = 2 && s.twin.unacked.any old then
    ({ s with twin := { s.twin with unacked := s.twin.unacked.filter fun u => !old u } }).mirrorLag 0
  else s

/-- The quorum inputs have disagreed with the link for more than 200 us (R699): heartbeats lost and the peer alive, or the reverse, or QW_IN[1]
against the ROLE in the last HB. -/
def State.quorumDiffers (s : State) : State :=
  s.when (s.b TWIN_STATE_HB_LOST != s.silentBy s.tb || bitAt (s.f TWIN_STATE_QW_IN) 1 != decide (s.f TWIN_STATE_PEER_ROLE = 2))
    (·.raise 119 0)

/-- CAP_TX (R425, R428, R694) of a head lane, or of Basalt lane 0 or 1, numbered 64 and 65; `hold` blocks of the frame are still to go when the next
command comes. -/
def execCapTx (link : Fin 66) (s : State) (hold : Nat := 0) : Host.Outcome State Fault Refusal :=
  .next (s.awake (·.capOut link hold))

/-- RATE_SWITCH (R428, R694). -/
def execRateSwitch (link : Fin 66) (s : State) : Host.Outcome State Fault Refusal :=
  .next (s.awake (·.linkSwitch link))

/-- NEG_FALLBACK (R428, R694). -/
def execNegFallback (link : Fin 66) (s : State) : Host.Outcome State Fault Refusal :=
  .next (s.awake (·.linkFallback link))

/-- LEASE_GRANT_RX (R448, R710). -/
def execLeaseGrantRx (l : Fin 64) (epoch : Word) (s : State) : Host.Outcome State Fault Refusal :=
  .next (s.awake (·.grantRx l epoch))

/-- LEASE_NO_LEASE_RX (R449, R458, R704). -/
def execLeaseNoLeaseRx (l : Fin 64) (holder : BitVec 8) (s : State) : Host.Outcome State Fault Refusal :=
  .next (s.awake (·.leaseNone l holder.toNat))

/-- LEASE_DENY_RX (R449, R704, R709). -/
def execLeaseDenyRx (l : Fin 64) (holder : Bool) (remain : BitVec 16) (s : State) : Host.Outcome State Fault Refusal :=
  .next (s.awake (·.leaseDeny l (b2n holder) remain.toNat))

/-- LINK_LOCK_LOSS of a head lane (R456) or of Basalt lane 0 or 1, numbered 64 and 65 (R695). -/
def execLinkLockLoss (link : Fin 66) (s : State) : Host.Outcome State Fault Refusal :=
  .next (s.awake (·.lockLost link))

/-- NEG_TIMEOUT of a head lane or a Basalt lane (R430, R694). -/
def execNegTimeout (link : Fin 66) (s : State) : Host.Outcome State Fault Refusal :=
  .next (s.awake (·.negLate link))

/-- BASALT_CAP_RX (R694). -/
def execBasaltCapRx (i : Fin 2) (payload : List Byte) (s : State) : Host.Outcome State Fault Refusal :=
  .next (s.awake (·.basaltCapRx i payload))

/-- HELLO_RX on a Basalt lane (R696). -/
def execHelloRx (nonce : List Byte) (s : State) (i : Fin 2 := 0) : Host.Outcome State Fault Refusal :=
  .next (s.awake (·.helloRx i nonce))

/-- AUTH_RX on a Basalt lane (R692, R696). -/
def execAuthRx (payload : List Byte) (s : State) (i : Fin 2 := 0) : Host.Outcome State Fault Refusal :=
  .next (s.awake (·.authRx i payload))

/-- BASALT_RENEG (R696). -/
def execBasaltReneg (i : Fin 2) (s : State) : Host.Outcome State Fault Refusal :=
  .next (s.awake (·.basaltReneg i))

/-- HEARTBEAT_TX (R698). -/
def execHeartbeatTx (s : State) : Host.Outcome State Fault Refusal :=
  .next (s.awake (·.heartbeat))

/-- HB_RX (R692, R698 to R700). -/
def execHbRx (i : Fin 2) (payload : List Byte) (s : State) (q : Quorum := {}) : Host.Outcome State Fault Refusal :=
  .next (s.awake (·.sampling q (·.onFrame i 0x50 payload State.hbRx)))

/-- MIRROR_RX (R700, R702, R706). -/
def execMirrorRx (i : Fin 2) (payload : List Byte) (s : State) : Host.Outcome State Fault Refusal :=
  .next (s.awake (·.onFrame i 0x51 payload State.mirrorRx))

/-- CSIGN_RX (R706). -/
def execCsignRx (i : Fin 2) (payload : List Byte) (s : State) : Host.Outcome State Fault Refusal :=
  .next (s.awake (·.onFrame i 0x52 payload State.csignRx))

/-- ROLE_RX (R693). -/
def execRoleRx (i : Fin 2) (payload : List Byte) (s : State) : Host.Outcome State Fault Refusal :=
  .next (s.awake (·.onFrame i 0x53 payload State.roleRx))

/-- HEARTBEAT_LOSS (R699, R707). -/
def execHeartbeatLoss (s : State) (q : Quorum := {}) : Host.Outcome State Fault Refusal :=
  .next (s.awake (·.sampling q State.heartbeatLoss))

/-- QUORUM_SILENT (R699, R707). -/
def execQuorumSilent (s : State) (q : Quorum := {}) : Host.Outcome State Fault Refusal :=
  .next (s.awake (·.sampling q State.quorumSilent))

/-- TAKEOVER_DECIDE (R707). -/
def execTakeoverDecide (s : State) (q : Quorum := {}) : Host.Outcome State Fault Refusal :=
  .next (s.awake (·.sampling q State.takeoverDecide))

/-- LEASE_WAIT_EXPIRE (R709): LEASE_WAIT in units of 100 us, at least 15. -/
def execLeaseWaitExpire (s : State) : Host.Outcome State Fault Refusal :=
  .next (s.awake (·.leaseWaitOver))

/-- MIRROR_ACK_TIMEOUT (R700): entries unacknowledged for more than 200 us raise source 118, each once. -/
def execMirrorAckTimeout (s : State) : Host.Outcome State Fault Refusal :=
  .next (s.awake (·.ackLate))

/-- QUORUM_MISMATCH (R699). -/
def execQuorumMismatch (s : State) (q : Quorum := {}) : Host.Outcome State Fault Refusal :=
  .next (s.awake (·.sampling q State.quorumDiffers))

end Sys2Proof.Machine
end

