-- ==== Sys2Proof/Machine/LaneRx.lean ====
section
/-!
DEFINITION. LaneRx.lean: the bits that come in on a head lane, and what the frames and blocks in them do (11_head_lanes.md R417 to R423, R456).
The other receive commands give a frame as accepted; BAD_FRAME_RX gives one found bad, or the bits themselves (log 100).
-/

namespace Sys2Proof.Machine
open Reg Fld

/-- A LEASE payload (Table 11.3): the answer with its OP; REMAIN is 0 but in DENY, and an OP of the downstream direction or none is bad. -/
def State.leaseRx (s : State) (l : Nat) (bs : List Byte) : State :=
  let op := leAt bs 0 1
  let holder := leAt bs 1 1
  let remain := leAt bs 2 2
  let epoch := leAt bs 4 4
  if op = 0x84 then s.leaseDeny l holder remain
  else if remain ≠ 0 then s.badFrame l
  else if op = 0x81 then s.grantRx l (BitVec.ofNat 32 epoch)
  else if op = 0x82 then s.renewedRx l (BitVec.ofNat 32 epoch)
  else if op = 0x83 then s.releasedRx l
  else if op = 0x85 then s.leaseNone l holder
  else s.badFrame l

/-- A CTRL payload (Table 11.3), a reply of one of the two OPs as LineRx.block accepts it: the last data word is padded with zero, and words
not there read 0. -/
def State.ctrlRx (s : State) (l : Nat) (bs : List Byte) : State :=
  if allZero (bs.drop (8 + 4 * leAt bs 2 1)) then s.ctrlReply l (leAt bs 1 1) (leAt bs 3 1) (BitVec.ofNat 32 (leAt bs 8 4))
  else s.badFrame l

/-- An accepted frame, by its TYPE (Table 11.2); LineRx.block accepts no other. -/
def State.frameRx (s : State) (l kind : Nat) (bs : List Byte) : State :=
  if kind = 0x02 then s.capRx l bs
  else if kind = 0x03 then s.leaseRx l bs
  else if kind = 0x04 then s.ctrlRx l bs
  else if kind = 0x20 then s.senseFrame l bs
  else if kind = 0x21 then s.verifyFrame l bs
  else s

/-- What the receiver of a lane finds (R419, R421, R456). -/
def State.lineEvent (s : State) (l : Nat) : LineEvent → State
  | .lost => s.laneLost l
  | .bad => s.badFrame l
  | .frame h p => s.frameRx l (leAt h 0 1) p

/-- Is the receiver of a lane on? It is while the lane is enabled and has not failed. -/
def State.laneListens (s : State) (l : Nat) : Bool := (s.lane l).phase ≠ .off && (s.lane l).phase ≠ .failed

/-- A bit comes in. -/
def State.bitRx (s : State) (l : Nat) (b : Bool) : State :=
  if !s.laneListens l then s else
  let r := (s.rx l).bit (crcPoly (s.laneCrc32c l)) b
  r.2.foldl (fun s e => s.lineEvent l e) (s.setRx l r.1)

/-- Bits come in, or a frame or block found bad. -/
def State.lineRxd (s : State) (l : Nat) : Option (List Bool) → State
  | none => s.badFrame l
  | some bs => bs.foldl (fun s b => s.bitRx l b) s

/-- BAD_FRAME_RX (R417, R419, R421). -/
def execBadFrameRx (l : Fin 64) (s : State) (bits : Option (List Bool) := none) : Host.Outcome State Fault Refusal :=
  .next (s.awake (·.lineRxd l bits))

end Sys2Proof.Machine
end

