-- ==== Sys2Proof/Machine/Operands.lean ====
section
/-!
DEFINITION. Operands.lean: operands of the Xaone instructions: the engine copies that execute one, general registers, immediates and
register pairs (05_xaone_isa.md R146, R154, R162 to R165, R170).
-/

namespace Sys2Proof.Machine
open Reg Fld

/-- The copies that execute an instruction of engine e: the SPE pair executes together (R13, R154). -/
def xCopies (e : Nat) : List Nat := if 14 ≤ e then [14, 15] else [e]

/-- The requester an engine copy acts as: SPE0 for the pair (R124, R154). -/
def xReq (e : Nat) : Nat := min e 14

/-- The engine's role: 0 FSE, 1 MCE, 2 VSE, 3 SPE (Table 5.1 ENGID). -/
def xRole (e : Nat) : Nat := if e < 8 then 0 else if e < 12 then 1 else if e < 14 then 2 else 3

/-- Ticks of TIMEBASE in one engine cycle: the FSEs run at 800 MHz, the others at 400 MHz (Table 1.4). -/
def xCycle (e : Nat) : Nat := if e < 8 then 1 else 2

/-- A general register; g0 reads 0 (R146). -/
def Engine.g (x : Engine) (r : Nat) : Word := if r = 0 then 0 else Map.get (fun _ => 0) x.gpr r

/-- Write a general register; writes of g0 are discarded (R146). -/
def Engine.setG (x : Engine) (r : Nat) (v : Word) : Engine :=
  if r = 0 then x else { x with gpr := Map.set (fun _ => 0) x.gpr r v }

/-- A general register of an engine. -/
def State.g (s : State) (e r : Nat) : Word := (s.eng e).g r

/-- The pair at an even register: bits 31:0 in the even one (R170). -/
def State.gPair (s : State) (e r : Nat) : Nat := (s.g e r).toNat + (s.g e (r + 1)).toNat * 0x100000000

/-- A destination pair starts at an even register other than g0 (R170). -/
def dstPair (r : Nat) : Bool := r ≠ 0 && r % 2 = 0

/-- A source pair starts at an even register (R170). -/
def srcPair (r : Nat) : Bool := r % 2 = 0

/-- imm16 sign-extended. -/
def sext16 (i : BitVec 16) : Word := i.signExtend 32

/-- imm16 zero-extended. -/
def zext16 (i : BitVec 16) : Word := i.zeroExtend 32

/-- The address of a load or store: rs1 + sext(imm) (Table 5.5). -/
def State.xAddr (s : State) (e rs1 : Nat) (imm : BitVec 16) : Nat := (s.g e rs1 + sext16 imm).toNat

/-- A PC: bits 31:16 and 1:0 are 0 (R147). -/
def toPc (w : Word) : BitVec 16 := (w.extractLsb' 0 16) &&& 0xFFFC

/-- A branch or jump target: the address of the branch plus 4 times the sign-extended offset (R165). -/
def branchTo (pc : BitVec 16) (off : Int) : BitVec 16 := toPc (BitVec.ofInt 32 ((pc.toNat : Int) + 4 * off))

end Sys2Proof.Machine
end

