-- ==== Sys2Proof/Machine/Flags.lean ====
section
/-!
DEFINITION. Flags.lean: the status an engine keeps: it has no condition flags (R146). STATUS and the pending-event latches, the
watchdog's count, and what halts or starts an engine (05_xaone_isa.md R155 to R158, R179 to R185).
-/

namespace Sys2Proof.Machine
open Reg Fld

/-! STATUS and the latches -/

/-- STATUS.IN_TRAP. -/
def Engine.inTrap (x : Engine) : Bool := x.status.getLsbD 0

/-- STATUS.WDOG_PAUSE. -/
def Engine.wdogPause (x : Engine) : Bool := x.status.getLsbD 1

/-- Is the engine stalled in WAIT? -/
def Engine.waiting (x : Engine) : Bool :=
  match x.stall with
  | some (.wait _ _) => true
  | _ => false

/-- Is the engine stalled in FENCE.L, which only the watchdog interrupts (R222)? -/
def Engine.lining (x : Engine) : Bool :=
  match x.stall with
  | some (.fenceL _ _) => true
  | _ => false

/-- Is the engine stalled in a device load, NZLD or NZCAS (R150, R158)? -/
def Engine.loading (x : Engine) : Bool :=
  match x.stall with
  | some (.lw _ _ _ _) | some (.lh _ _ _ _) | some (.lhu _ _ _ _) | some (.lb _ _ _ _) | some (.lbu _ _ _ _)
  | some (.nzld _ _ _ _ _) | some (.nzcas _ _ _ _ _) => true
  | _ => false

/-- Is an event pending: event 0 is the level of the mailbox, the others are latches (R179)? -/
def Engine.pending (x : Engine) (ev : Nat) : Bool := if ev = 0 then x.mailbox ≠ [] else x.pendingEv.getLsbD ev

/-- Clear a latch; event 0 has none. -/
def Engine.clearEv (x : Engine) (ev : Nat) : Engine :=
  { x with pendingEv := x.pendingEv &&& ~~~(1#256 <<< ev) }

/-- May an engine of a role wait for an event (R181, Table 5.8)? -/
def eventFor (role ev : Nat) : Bool :=
  (ev ≤ 4) || (role = 0 && (ev = 5 || (8 ≤ ev && ev ≤ 15))) || (16 ≤ ev && ev ≤ 23) ||
  (role = 2 && 32 ≤ ev && ev ≤ 95) || (role = 1 && 96 ≤ ev && ev ≤ 127) || (128 ≤ ev && ev ≤ 191)

/-! The watchdog (R185): units of 1,024 ticks -/

/-- Ticks left. -/
def Engine.wdogLeft (x : Engine) (tb : Nat) : Nat := if x.wdogOn then x.wdog - (tb - x.wdogFrom) else x.wdog

/-- WDOG_COUNT: units remaining. -/
def Engine.wdogCount (x : Engine) (tb : Nat) : Nat := (x.wdogLeft tb + 1023) / 1024

/-- Reload from WDOG_LOAD. -/
def Engine.kick (tb : Nat) (x : Engine) : Engine := { x with wdog := 1024 * x.wdogLoad.toNat, wdogFrom := tb }

/-- Count on from now if the engine runs, is not suspended, WDOG_LOAD is not 0 and no WAIT pauses it; a count that has reached 0 and not trapped yet
stays due, in a pause and a suspension too. Units run from the reload, and a WAIT that pauses the count keeps the part of the unit that has passed:
R185 says neither (DESIGN CHOICE, log 98). -/
def Engine.wdogSync (tb : Nat) (x : Engine) : Engine :=
  let left := x.wdogLeft tb
  let on := x.running && x.wdogLoad ≠ 0 && if left = 0 then x.wdogOn else !x.suspended && !(x.waiting && x.wdogPause)
  { x with wdog := left, wdogFrom := tb, wdogOn := on }

/-! Running and halted (R155 to R158) -/

/-- The engine halts. -/
def Engine.halt (tb cause : Nat) (x : Engine) : Engine :=
  Engine.wdogSync tb { x with running := false, halted := true, haltCause := cause, stall := none, stopAsked := false }

/-- START (R155): PC, registers, CSRs, TVEC, events and the aperture; the mailbox stays. LAST_TCAUSE, HALTED and HALT_CAUSE of ENG_STAT return
to 0, of which the spec says nothing (DESIGN CHOICE, log 98). -/
def Engine.start (x : Engine) (tb : Nat) (entry : BitVec 16) (ap : Nat) : Engine :=
  { pc := entry, running := true, startTb := tb, tvec := x.trapVector &&& 0xFFFFFFFC, trapVector := x.trapVector, apBase := ap,
    mailbox := x.mailbox, storeBuf := x.storeBuf, checked := x.checked }

/-- Start an engine from its control registers. In PARKED an FSE, MCE or VSE stands suspended at its first instruction (R64, Table 2.7; log
31). -/
def State.engRun (s : State) (e : Nat) : State :=
  let park := s.b SYS_PWR_CTRL_PARKED && decide (e < 14)
  s.modEng e fun x =>
    { x.start s.tb (BitVec.ofNat 16 (4 * s.f (ENG_ENTRY_ENTRY e))) (s.rd64 (ENG_AP_LO e)) with
      suspended := park, parkTb := if park then s.tb else 0 }

/-- May the engine start: its VERIFIED bit is 1, and in regulated mode its image passed every check (R95, R96)? A start that R95 refuses has the
effect of one that R96 refuses (DEDUCED, log 103). -/
def State.mayStart (s : State) (e : Nat) : Bool :=
  bitAt (s.f SYS_ENG_STAT_VERIFIED) e && (!s.fuses.regulated || (s.eng e).checked)

/-- A write of 1 to ENG_CTRL.START: ignored for the pair and a running engine; where it may not start, source 4 (R95, R96, R155 to R157). -/
def State.engStart (s : State) (e : Nat) : State :=
  if 14 ≤ e || (s.eng e).running then s
  else if s.mayStart e then s.engRun e
  else s.raise 4 e

/-- A write of 1 to ENG_CTRL.STOP: at the next instruction boundary; a device load completes first, and a FENCE.L is not interrupted
(R157, R158, R222). A stall in any other instruction ends with the STOP (DESIGN CHOICE, log 98). -/
def State.engStop (s : State) (e : Nat) : State :=
  if 14 ≤ e || !(s.eng e).running then s
  else if (s.eng e).loading || (s.eng e).lining then s.modEng e fun x => { x with stopAsked := true }
  else s.modEng e (Engine.halt s.tb 2)

/-- A write of ENG_EVSET: events 128 to 191 (R179); both copies of the pair (R154). -/
def State.engEvset (s : State) (e ev : Nat) : State :=
  if 128 ≤ ev && ev ≤ 191 then s.engEvents ev (xCopies e) else s

/-- ENG_STAT. -/
def State.engStat (s : State) (e : Nat) : Nat :=
  let x := s.eng e
  b2n x.running + 2 * b2n x.halted + 4 * b2n x.waiting + 8 * b2n x.inTrap + 256 * x.haltCause + 4096 * x.lastCause

/-- SYS_ENG_STAT.RUNNING. -/
def State.engRunning (s : State) : Nat := (allEngines.filter fun e => (s.eng e).running).foldl (fun n e => n + 2 ^ e) 0

/-- All engines halt (R89). -/
def State.haltAll (s : State) : State :=
  s.forEach allEngines fun s e => s.when (s.eng e).running (·.modEng e (Engine.halt s.tb 0))

/-! Traps (R182 to R184) -/

/-- Take a trap, or halt on a double trap; TCAUSE WATCHDOG raises source 3, SIGNED_PAGE source 4, a double trap source 2. A double trap raises
source 2 alone, whatever its cause, and leaves TPC, TCAUSE, TVAL and LAST_TCAUSE as they were, of which R184 says nothing (DESIGN CHOICE, log 98). -/
def State.xTrap (s : State) (e cause : Nat) (tval : Word) : State :=
  let x := s.eng e
  if x.inTrap then (s.setEng e (Engine.halt s.tb 3 x)).when (e ≠ 15) (·.raise 2 e)
  else
    let x := { x with tpc := x.pc.zeroExtend 32, tcause := BitVec.ofNat 32 cause, tval := tval, status := x.status ||| 1,
                      lastCause := cause, pc := toPc x.tvec, stall := none }
    let s := s.setEng e ((x.kick s.tb).wdogSync s.tb)
    let s := s.when (cause = 5 && e ≠ 15) (·.raise 3 e)
    s.when (cause = 4 && e ≠ 15) (·.raise 4 e)

end Sys2Proof.Machine
end

