-- ==== Sys2Proof/Machine/Power.lean ====
section
/-!
DEFINITION. Power.lean: resets, rails, clocks, PARKED and the boot ROM (02_package_power.md R46 to R64; 03_startup.md R74 to R96;
17_faults.md R617; 18_security_ledger.md R658).
-/

namespace Sys2Proof.Machine
open Reg Fld

/-! Resets (Table 3.1) -/

/-- A fuse field left partly blown by a reset reads as the bits it holds, which the manual leaves open (R647). ROLLBACK holds one bit for each
count, so that it may stand at any count up to the one asked. -/
def State.fuseCut (s : State) : State :=
  s.sec.fprog.foldl (fun s p =>
    let (k, s) := s.fresh
    let hold := freeBytes k 48
    let some3 := s.fuses.rollback + ofLe hold % (min 64 (ofLe p.2.2) - s.fuses.rollback + 1)
    let data := if p.1 = 3 then leBytes 48 some3 else (p.2.2.zip hold).map fun b => b.1 &&& b.2
    let some_ := p.1 ≠ 2 && p.1 ≠ 8 || ofLe hold % 2 = 1
    s.when some_ fun s => { s with fuses := s.fuses.blow p.1 p.2.1 data }) s

/-- What a power-on or warm reset leaves: the vault, the fuses and the Quartz store, SYS_RST_CAUSE and the rail monitors after a
warm one, TIMEBASE after a warm one, the KEY records due (R673); DDR and every other island are as at power-up (Table 3.1). Outputs are at their reset
levels, lanes silent (R74). The straps last sampled stay (R49). The first PERST_N release is forgotten, also by a software reset through
which PERST_N stays high: the limit of R92 then runs from the next release (DESIGN CHOICE, log 28). -/
def State.cleared (s : State) (por : Bool) : State :=
  let s := s.fuseCut
  let keep (a : Nat) (t : State) : State := t.wr a (s.rd a)
  let t : State :=
    { tb := if por then 0 else s.tb, pending := s.pending, out := s.out, wire := s.wire, free := s.free, firstThis := s.firstThis,
      geode := { s.vaultSync.geode with lost := s.geode.lost && !s.geode.told, told := false, countAt := if por then 0 else s.tb }
      fuses := s.fuses, ledger := { keyDue := s.ledger.keyDue }
      quartz := { s.quartz with prog := none },
      power := { s.power with resetLow := true, perstAt := none, parkAt := none, por := por || s.power.por,
                              porHeld := por || s.power.porHeld } }
  let t := (keep SYS_RAIL_STAT t).when (!s.power.aonRuns) (·.setB FLT_STAT_ERR_N_LOW false)
  if por then t else keep SYS_RST_CAUSE t

/-- RESET_N is low, so that the straps are sampled at the next release (R49). -/
def State.resetNLow (s : State) : State := { s with power := { s.power with strapsDue := true } }

/-- A warm reset with its cause: PIN bit 1 or SOFT bit 2, with ITEMS_OPEN in the same event (R76, R77). While the controller is held in
a warm reset already, the cause joins the one event; in power-on reset and under TEST_EN nothing is recorded (log 29). -/
def State.warmReset (s : State) (cause : Nat) : State :=
  if s.power.resetLow then
    if s.power.porHeld || s.power.testEn then s else s.wr SYS_RST_CAUSE (putBits (s.rd SYS_RST_CAUSE) cause cause 1)
  else
    let ms := if s.itemsOpen then [cause, 8] else [cause]
    let t := s.cleared false
    t.wr SYS_RST_CAUSE (sqEvent (t.rd SYS_RST_CAUSE) ms)

/-- RESET_N low while PG_IN is high (R76). -/
def State.pinReset (s : State) : State := (s.warmReset 1).resetNLow

/-- PG_IN low: power-on reset (R54). RESET_N rises after PG_IN (Table 2.6), so that the straps are sampled at the release. -/
def State.powerReset (s : State) : State := (s.cleared true).resetNLow

/-- TEST_EN high holds the controller in reset (R48). The manual does not say which reset; it is one like a warm reset, which keeps TIMEBASE
and SYS_RST_CAUSE and records no cause, and a power-on reset in progress goes on (DESIGN CHOICE, log 29). -/
def State.testReset (s : State) : State :=
  let t := s.cleared false
  { t with power := { t.power with testEn := true } }

/-- The straps as last sampled; where RESET_N has risen, as they stand now (R49). -/
def State.sampleStraps (s : State) (sel : Nat) (twin : Bool) : State :=
  let p := s.power
  let p := if p.strapsDue then { p with bootSel := sel, twinSel := twin, strapsDue := false } else p
  (({ s with power := p }).setF SYS_BOOT_STAT_BOOT_SEL p.bootSel).setB SYS_BOOT_STAT_TWIN_SEL p.twinSel

/-- The release of reset: everything that held it has ended, so that PG_IN and RESET_N are high and TEST_EN is low again (log 29). The straps
are sampled (R49) and the boot ROM starts, ERR_N low while it runs (Table 3.2); debug is unlocked on a free part (R713), the Geode's view comes
back, the collector sees the rails and the clock as they stand and the faults that waited (R56, R617, R657), and the link trains where PERST_N is
high already. -/
def State.resetRelease (s : State) (sel : Fin 4) (twin : Bool) : State :=
  if (s.power.resetLow || !s.boot.started) && s.power.aonRuns then
    let s := { s with power := { s.power with resetLow := false, testEn := false, porHeld := false }, boot := { started := true } }
    let s := (s.sampleStraps sel.val twin).when (!s.power.perstLow) (·.emit (.link false))
    let s := (s.setB DBG_STAT_UNLOCKED (!s.fuses.regulated)).newNonce
    let s := s.forEach (List.range 12) fun s c => s.modChan c fun x => { x with stamp := s.tb }
    s.showGeode.collectorWake.errDrive
  else s

/-! Rails and clocks -/

/-- The main rails are off: the part is in STANDBY, the vault alone keeps its state, the AON island does not run and ERR_N is released
(R54, R57, R80). -/
def State.standby (s : State) : State :=
  let t := s.powerReset
  ({ t with power := { t.power with aonRuns := false } }).setB FLT_STAT_ERR_N_LOW false

/-- Are the main rails off: VDD_CORE, from which the AON island runs, while PG_IN is low, or all eight (Table 2.5, Table 2.7; log 29)? -/
def State.mainsOff (s : State) : Bool :=
  (s.power.porHeld && !bitAt (s.rn SYS_RAIL_STAT) 0) || s.rn SYS_RAIL_STAT % 256 = 0

/-- A main rail out of its window while PG_IN is high: source 0, unless the collector stands still, and a class B glitch (R56). -/
def State.railGlitch (s : State) : State :=
  ((s.when (!s.asleep) (·.raiseLive 0 0)).setActive 9 true).tamperEvent 9

/-- A rail leaves its window (R56): a main rail while PG_IN is high is a glitch, and at power-down it is none (R55). The vault goes to VBAT with
VDD_IO18 (R58); VBAT has a status bit only. -/
def State.railOut (s : State) (r : Nat) : State :=
  let s := (s.railBit r false).when (r = 5) (·.vaultOn true)
  if r < 8 then
    let s := s.when (!s.power.porHeld) State.railGlitch
    s.when s.mainsOff State.standby
  else s

/-- A rail returns within its window. -/
def State.railBack (s : State) (r : Nat) : State :=
  let s := (s.railBit r true).when (r = 5) (·.vaultOn false)
  if s.rn SYS_RAIL_STAT % 256 = 255 then ((s.liveFollows 0 false).setActive 9 false).showGeode
  else s

/-- SYSCLK_IN or the PLLs fail or come back: source 5 is LIVE while the clock fails (R617), once the collector runs (R48, R54). -/
def State.clockFails (s : State) (out : Bool) : State :=
  ({ s with power := { s.power with clockOut := out } }).liveFollows 5 out

/-- The AON island runs once VDD_IO33 is in range (R46): every unit is in power-on reset, so the outputs take the reset state of Table 2.4,
and ERR_N follows ERR_HOLD (R80). -/
def State.aonStart (s : State) : State :=
  if !s.power.aonRuns && bitAt (s.rn SYS_RAIL_STAT) 6 then
    let t := s.powerReset
    ({ t with power := { t.power with aonRuns := true } }).errDrive
  else s

/-! PARKED (R61 to R64) -/

/-- Is a DMA descriptor in progress? -/
def State.dmaBusy (s : State) : Bool := (List.range 32).any fun c => (s.dma c).descs ≠ []

/-- A write of SYS_PWR_CTRL.PARK (R61); its tick is kept for a domain start of the same tick (R62). -/
def State.parkWrite (s : State) (park : Bool) : State :=
  if park then
    if s.b SYS_PWR_CTRL_PARK then s
    else if s.allStopped && !s.dmaBusy then
      let s := { s with power := { s.power with parkAt := some s.tb } }
      (s.setB SYS_PWR_CTRL_PARK true).setB SYS_PWR_CTRL_PARK_REFUSED false
    else s.setB SYS_PWR_CTRL_PARK_REFUSED true
  else s.setB SYS_PWR_CTRL_PARK false

/-- The lanes power down: a lease held ends, and negotiation must start again (R63). A lane that was lost stays so until it is UP (R616). -/
def State.lanesDown (s : State) : State :=
  s.forEach allLanes fun s l =>
    if s.f (HL_LINK_STATE l) = 0 then s
    else
      let s := s.when (s.held l) (·.loseLease l true false)
      (s.setF (HL_LINK_STATE l) 0).modLane l fun x => { x with phase := .off }

/-- The Basalt lanes power down; one that was UP makes source 112 LIVE (R616). -/
def State.basaltDown (s : State) : State :=
  s.forEach [0, 1] fun s i =>
    let was := s.basaltUp i
    let s := (s.modBasalt i fun x => { txSeq := x.txSeq, rxSeq := x.rxSeq }).showLanes
    s.when (was && s.b TWIN_CFG_EN) (·.raiseLive 112 i)

/-- PARKED is set: FSE, MCE and VSE engines, their stores drained and their loads returned, are suspended; their watchdogs and CYCLE stand. -/
def State.parked (s : State) : State :=
  let s := s.forEach (List.range 14) fun s e =>
    s.when (s.eng e).running (·.modEng e fun x => Engine.wdogSync s.tb { x with suspended := true, parkTb := s.tb })
  (s.lanesDown.basaltDown).setB SYS_PWR_CTRL_PARKED true

/-- The return to IDLE: PARKED clears, suspended engines continue, enabled lanes negotiate again. -/
def State.unparked (s : State) : State :=
  if s.b SYS_PWR_CTRL_PARKED && !s.b SYS_PWR_CTRL_PARK then
    let s := s.setB SYS_PWR_CTRL_PARKED false
    let s := s.forEach (List.range 14) fun s e =>
      s.when (s.eng e).suspended (·.modEng e fun x =>
        Engine.wdogSync s.tb { x with suspended := false, wdogFrom := s.tb, startTb := x.startTb + (s.tb - x.parkTb) })
    let s := s.forEach allLanes fun s l => s.when (s.b (HL_CTRL_ENABLE l)) (·.negStart l)
    if s.b TWIN_CFG_EN then s.forEach [0, 1] fun s i => s.basaltStart i else s
  else s

/-! The boot ROM (R82 to R94) -/

/-- The controller sets CFG_READY, which locks it (R132). -/
def State.cfgReadySet (s : State) : State :=
  ({ s with w1Locked := if s.w1Locked.contains SYS_BOOT_STAT then s.w1Locked else SYS_BOOT_STAT :: s.w1Locked }).setB
    SYS_BOOT_STAT_CFG_READY true

/-- Boot fails (R89): FAIL_CODE, STAGE FAILED, ERR_N low (R81), CFG_READY, every engine halts. -/
def State.bootFail (s : State) (code : Nat) : State :=
  ((s.setF SYS_BOOT_STAT_FAIL_CODE code).setF SYS_BOOT_STAT_STAGE 4).errDrive.cfgReadySet.haltAll

/-- A read of the flash: Quad Output Fast Read 0x6C with a 4-byte address and eight dummy clocks (R83); 128 KiB is the most an image holds. -/
def State.flashRead (s : State) (a : Nat) : State := s.emit (.qspi 0x6C a 4 8 131072)

/-- The fuses are read (Table 3.5 step 2): their mirror, the Quartz slot, the device key (R658), the counter (R676). Then the boot ROM
goes to the source BOOT_SEL names (Table 3.3). -/
def State.fusesIn (s : State) (error : Bool) : State :=
  if !s.boot.started || s.boot.fusesRead || s.f SYS_BOOT_STAT_STAGE ≠ 0 then s
  else if error then s.bootFail 10
  else
    let s := { s with boot := { s.boot with fusesRead := true } }
    let s := s.showFuses
    let s := (s.qzSelect.unwrap).resumeNext
    let s := { s with power := { s.power with por := false } }
    match s.f SYS_BOOT_STAT_BOOT_SEL with
    | 2 => s.cfgReadySet.setF SYS_BOOT_STAT_STAGE 5
    | 3 => s.bootFail 9
    | _ => (s.setF SYS_BOOT_STAT_STAGE 1).flashRead 0

/-- The image read from QSPI NOR lies in SPE DMEM from offset 0 (R87). -/
def State.qspiIn (s : State) (im : List Byte) : State :=
  if s.f SYS_BOOT_STAT_STAGE = 1 then
    let im := im.take 131072
    ((s.writeMem (dmemBase 14) im).writeMem (dmemBase 15) im).setF SYS_BOOT_STAT_STAGE 2
  else s

/-- No valid header within 10 ms (R88). -/
def State.qspiLate (s : State) : State := if s.f SYS_BOOT_STAT_STAGE = 1 then s.bootFail 7 else s

/-- A failed first stage: the fallback image where there is one, a wait for the host, or failure (Table 3.3, R88, R89). -/
def State.stageFail (s : State) (code : Nat) : State :=
  let sel := s.f SYS_BOOT_STAT_BOOT_SEL
  if sel = 0 && !s.boot.fallback then
    let s := { s with boot := { s.boot with fallback := true } }
    ((s.setF SYS_BOOT_STAT_FAIL_CODE code).setF SYS_BOOT_STAT_STAGE 1).flashRead 0x1000000
  else if sel = 2 then (s.setF SYS_BOOT_STAT_FAIL_CODE code).setF SYS_BOOT_STAT_STAGE 5
  else s.bootFail code

/-- An accepted first stage (R86, R87): its measurement is kept, it is loaded into the pair and starts. -/
def State.stageRun (s : State) (im : List Byte) : State :=
  let noSig := s.unsigned
  let s := (s.setF SYS_BOOT_STAT_FAIL_CODE 0).setB SYS_BOOT_STAT_FALLBACK_USED s.boot.fallback
  let s := s.when (!noSig) (·.setF SYS_BOOT_STAT_KEY_SLOT (leAt im 9 1))
  let s := ((s.setB SYS_BOOT_STAT_UNSIGNED noSig).setF SYS_BOOT_STAT_STAGE 3).errDrive
  let s := s.measured 14 (imageBody im noSig s.boot.fallback)
  let s := (s.putImage 14 true im).putImage 15 true im
  let s := s.setF SYS_ENG_STAT_VERIFIED (s.f SYS_ENG_STAT_VERIFIED ||| 0xC000)
  (s.engRun 14).engRun 15

/-- The checks of Table 3.4 on the image in SPE DMEM. -/
def State.stageCheck (s : State) : State :=
  if s.f SYS_BOOT_STAT_STAGE = 2 then
    let im := s.readMem (dmemBase 14) 131072
    let code := s.imageCode true im
    if code = 0 then s.stageRun im else s.stageFail code
  else s

/-- A write of SYS_BOOT_STAT: CFG_READY, once 1, stays (R132); HOST_GO in HOST_LOAD_WAIT starts the checks (R88). -/
def State.bootWrite (s : State) (new : Word) : State :=
  let s := s.setB SYS_BOOT_STAT_CFG_READY (bitAt new.toNat 16)
  if bitAt new.toNat 17 && s.f SYS_BOOT_STAT_STAGE = 5 then s.setF SYS_BOOT_STAT_STAGE 2 else s

/-- CFG_READY still 0 1,000 ms after the first release of PERST_N (R92). -/
def State.firstStageLate (s : State) : State :=
  match s.power.perstAt with
  | some t => if !s.b SYS_BOOT_STAT_CFG_READY && decide (t + 800000000 ≤ s.tb) then s.bootFail 11 else s
  | none => s

/-! Commands -/

/-- POWER_ON_RESET (R54). -/
def execPowerOnReset (s : State) : Host.Outcome State Fault Refusal := .next s.begin.powerReset

/-- RESET_RELEASE (R82). -/
def execResetRelease (bootSel : Fin 4) (twinSel : Bool) (s : State) : Host.Outcome State Fault Refusal :=
  .next (s.begin.resetRelease bootSel twinSel)

/-- WARM_RESET (R76). -/
def execWarmReset (s : State) : Host.Outcome State Fault Refusal := .next s.begin.pinReset

/-- TEST_EN_HIGH (R48). -/
def execTestEnHigh (s : State) : Host.Outcome State Fault Refusal := .next s.begin.testReset

/-- RAIL_EXCURSION (R56). -/
def execRailExcursion (rail : Fin 9) (s : State) : Host.Outcome State Fault Refusal := .next (s.begin.railOut rail)

/-- RAIL_RETURN (R56). -/
def execRailReturn (rail : Fin 9) (s : State) : Host.Outcome State Fault Refusal := .next (s.begin.railBack rail)

/-- CLOCK_FAIL (R617). -/
def execClockFail (s : State) : Host.Outcome State Fault Refusal := .next (s.begin.clockFails true)

/-- CLOCK_RETURN (R617). -/
def execClockReturn (s : State) : Host.Outcome State Fault Refusal := .next (s.begin.clockFails false)

/-- AON_ISLAND_RUNS (R46). -/
def execAonIslandRuns (s : State) : Host.Outcome State Fault Refusal := .next s.begin.aonStart

/-- UNPARK_DONE (R63). -/
def execUnparkDone (s : State) : Host.Outcome State Fault Refusal :=
  .next (s.awake (·.unparked))

/-- FUSES_READ (R613). -/
def execFusesRead (readError : Bool) (s : State) : Host.Outcome State Fault Refusal :=
  .next (s.awake (·.fusesIn readError))

/-- QSPI_READ_DONE (R83). -/
def execQspiReadDone (image : List Byte) (s : State) : Host.Outcome State Fault Refusal :=
  .next (s.awake (·.qspiIn image))

/-- QSPI_TIMEOUT (R88). -/
def execQspiTimeout (s : State) : Host.Outcome State Fault Refusal :=
  .next (s.awake (·.qspiLate))

/-- FIRST_STAGE_CHECKS_DONE (R85). -/
def execFirstStageChecksDone (s : State) : Host.Outcome State Fault Refusal :=
  .next (s.awake (·.stageCheck))

/-- FIRST_STAGE_LATE (R92). -/
def execFirstStageLate (s : State) : Host.Outcome State Fault Refusal :=
  .next (s.awake (·.firstStageLate))

end Sys2Proof.Machine
end

