-- ==== Sys2Proof/Machine/Supply.lean ====
section
/-!
DEFINITION. Supply.lean: ink supply channels: requests and responses, authentication, usage decrements (18_security_ledger.md R678 to
R684).
-/

namespace Sys2Proof.Machine
open Reg Fld

/-! Requests (R678, Table 18.11) -/

/-- Send a command to a channel's supply and read the response. -/
def State.supSend (s : State) (k cmd : Nat) (payload : List Byte) : State :=
  let body := [BitVec.ofNat 8 cmd] ++ leBytes 2 payload.length ++ payload
  let bus := s.f (SUP_CFG_BUS k)
  let addr := s.f (SUP_CFG_ADDR k)
  (s.emit (.i2c bus addr (body ++ leBytes 4 (crc32 body)))).emit (.i2cRead bus addr)

/-- SUPPLY_ID as read by HELLO. -/
def State.supId (s : State) (k : Nat) : List Byte := s.regBytes (SUP_ID k 0) 16

/-- The hash a supply signs (R679). -/
def State.supHash (s : State) (k : Nat) (used seq : List Byte) : List Byte :=
  sha256 ([0x4B, 0x53, 0x55, 0x50] ++ (s.supply k).nonce ++ s.supId k ++ used ++ seq)

/-- Append a SUPPLY record of a kind with a signature (Table 18.7). -/
def State.supRecord (s : State) (k kind : Nat) (sig : List Byte) : State :=
  s.ownRecord 8 (k + 256 * kind) (s.supId k ++ leBytes 8 (s.rd64 (SUP_USED_LO k)) ++ leBytes 4 (s.rn (SUP_SEQ k)) ++ zeros 4 ++
    slice sig 0 64)

/-- Put the phase of a channel; a wait for BUSY ends. -/
def State.supPhase (s : State) (k : Nat) (p : SupplyPhase) : State :=
  s.modSupply k fun x => { x with phase := p, busySince := none }

/-- CHALLENGE with a fresh nonce. -/
def State.supChallenge (s : State) (k : Nat) (p : SupplyPhase) : State :=
  let (n, s) := s.fresh
  let s := (s.supPhase k p).modSupply k fun x => { x with nonce := freeBytes n 32 }
  s.supSend k 4 (freeBytes n 32)

/-! Authentication (R680, R681) -/

/-- Authentication starts with HELLO, on a channel with EN set and no transaction running. -/
def State.supAuth (s : State) (k : Nat) : State :=
  if s.b (SUP_CFG_EN k) && (s.supply k).phase = .idle then
    let s := (s.supPhase k .hello).modSupply k fun x => { x with authAt := s.tb, needSync := false, reauth := false }
    s.supSend k 1 []
  else s

/-- Authentication fails (R680). -/
def State.supAuthFail (s : State) (k : Nat) : State :=
  let s := (s.supPhase k .idle).setF (SUP_STAT_STATE k) 2
  ((s.supRecord k 2 []).ev (SUP_STAT_AUTH_FAIL k)).raise 102 k

/-- A decrement has ended: a re-authentication that was due with it follows (R687). -/
def State.supNext (s : State) (k : Nat) : State := s.when (s.supply k).reauth (·.supAuth k)

/-- A decrement fails (R684): retried at the next interval; three in a row end AUTHENTICATED. -/
def State.supDecrFail (s : State) (k : Nat) (sync : Bool) : State :=
  let n := (s.supply k).decrFails + 1
  let s := (s.supPhase k .idle).modSupply k fun x => { x with decrFails := n, needSync := x.needSync || sync }
  let s := (s.ev (SUP_STAT_DECR_FAIL k)).raise 103 k
  (s.when (3 ≤ n) fun s => (s.setF (SUP_STAT_STATE k) 2).modSupply k fun x => { x with decrFails := 0 }).supNext k

/-- The transaction of the present phase fails, with a STATUS other than SEQ or with what it carries. -/
def State.supFail (s : State) (k : Nat) : State :=
  match (s.supply k).phase with
  | .idle => s
  | .decrement => s.supDecrFail k false
  | .resync => s.supDecrFail k true
  | _ => s.supAuthFail k

/-- USED and SEQ of a verified response. -/
def State.supLoad (s : State) (k : Nat) (p : List Byte) : State :=
  (s.wr64 (SUP_USED_LO k) (leAt p 0 8)).wn (SUP_SEQ k) (leAt p 8 4)

/-- Does a CHALLENGE or DECREMENT response verify under the supply's key (R679)? -/
def State.supSigned (s : State) (k : Nat) (p : List Byte) : Bool :=
  p.length = 76 && Config.verify256 (s.supply k).pubkey (s.supHash k (p.take 8) (slice p 8 4)) (slice p 12 64)

/-- The next DECREMENT (R683). -/
def State.supSpend (s : State) (k : Nat) : State :=
  let amount := s.rd64 (SUP_ACC_LO k) / 1000000
  let (n, s) := s.fresh
  let s := (s.supPhase k .decrement).modSupply k fun x => { x with nonce := freeBytes n 32, amount := amount, needSync := false }
  s.supSend k 5 (freeBytes n 32 ++ leBytes 8 amount ++ leBytes 4 (s.rn (SUP_SEQ k)))

/-- A response with STATUS OK in the present phase. -/
def State.supOk (s : State) (k : Nat) (p : List Byte) : State :=
  match (s.supply k).phase with
  | .idle => s
  | .hello =>
    if p.length = 19 && bitAt (leAt p 0 1) 0 && bitAt (leAt p 1 1) 0 then
      let s := (s.putBytes (SUP_ID k 0) (slice p 2 16)).modSupply k fun x => { x with ink := p.getD 18 0 }
      (s.supPhase k .select).supSend k 2 [1, 1]
    else s.supAuthFail k
  | .select => (s.supPhase k .cert).supSend k 3 []
  | .cert =>
    let root := s.regBytes (SUP_ROOT 0) 65
    let pub := p.take 65
    if p.length = 129 && sha256 root = s.supplyRoot &&
        Config.verify256 root (sha256 (pub ++ s.supId k ++ [(s.supply k).ink])) (slice p 65 64) then
      (s.modSupply k fun x => { x with pubkey := pub }).supChallenge k .challenge
    else s.supAuthFail k
  | .challenge =>
    if s.supSigned k p then
      let s := ((s.supLoad k p).supPhase k .idle).setF (SUP_STAT_STATE k) 1
      s.supRecord k 1 (slice p 12 64)
    else s.supAuthFail k
  | .decrement =>
    if s.supSigned k p then
      let amount := (s.supply k).amount
      let s := ((s.supLoad k p).supPhase k .idle).modSupply k fun x => { x with decrFails := 0 }
      let s := s.wr64 (SUP_ACC_LO k) (s.rd64 (SUP_ACC_LO k) - amount * 1000000)
      (s.supRecord k 3 (slice p 12 64)).supNext k
    else s.supDecrFail k false
  | .resync =>
    if s.supSigned k p then (s.supLoad k p).supSpend k else s.supDecrFail k true

/-- A NACK, a CRC error or a timeout ends the transaction; three in a row disconnect the channel, which then authenticates again
(R681). -/
def State.supLost (s : State) (k : Nat) : State :=
  if (s.supply k).phase = .idle then s
  else
    let n := (s.supply k).fails + 1
    let s := (s.supFail k).modSupply k fun x => { x with fails := if n < 3 then n else 0 }
    s.when (3 ≤ n) fun s =>
      let s := (s.setF (SUP_STAT_STATE k) 3).ev (SUP_STAT_DISCONNECT k)
      (s.supRecord k 4 []).supAuth k

/-- A transaction ends with a response that is whole: no three in a row have failed (R681). -/
def State.supHeard (s : State) (k : Nat) : State := s.modSupply k fun x => { x with fails := 0 }

/-- A response (R678): STATUS, LEN, payload, CRC. BUSY makes the controller read again for at most 50 ms. -/
def State.supResponse (s : State) (k : Nat) (bs : List Byte) : State :=
  let n := bs.length
  if (s.supply k).phase = .idle then s
  else if n < 7 || leAt bs 1 2 + 7 ≠ n || leAt bs (n - 4) 4 ≠ crc32 (bs.take (n - 4)) then s.supLost k
  else match leAt bs 0 1 with
    | 0 => (s.supHeard k).supOk k (slice bs 3 (n - 7))
    | 1 => s.modSupply k fun x => { x with busySince := some (x.busySince.getD s.tb), busyAt := s.tb }
    | 4 => if (s.supply k).phase = .decrement then (s.supHeard k).supDecrFail k true else (s.supHeard k).supFail k
    | _ => (s.supHeard k).supFail k

/-- The read is repeated 1 ms after BUSY, and each 1 ms from there; after 50 ms the transaction times out. -/
def State.supRetry (s : State) (k : Nat) : State :=
  match (s.supply k).busySince with
  | some t =>
    if t + 40000000 < s.tb then s.supLost k
    else if s.tb < (s.supply k).busyAt + 800000 then s
    else (s.emit (.i2cRead (s.f (SUP_CFG_BUS k)) (s.f (SUP_CFG_ADDR k)))).modSupply k fun x => { x with busyAt := s.tb }
  | none => s

/-- INTERVAL in ticks: 10 to 10,000 ms (Table 18.14). -/
def State.supInterval (s : State) : Nat := 800000 * min 10000 (max 10 (s.f SUP_TIMING_INTERVAL))

/-- The decrement of an interval, a read of SEQ before it where one is due (R683, R684). -/
def State.supDecrement (s : State) (k : Nat) : State :=
  if s.b (SUP_CFG_EN k) && s.f (SUP_STAT_STATE k) = 1 && (s.supply k).phase = .idle &&
      1000000 ≤ s.rd64 (SUP_ACC_LO k) && s.every (s.supply k).spentAt s.supInterval then
    let s := s.modSupply k fun x => { x with spentAt := some s.tb }
    if (s.supply k).needSync then s.supChallenge k .resync else s.supSpend k
  else s

/-- Re-authentication after REAUTH seconds, 0 treated as 1 (R681). A decrement due with it goes first, and HELLO follows its end (R687). -/
def State.supReauth (s : State) (k : Nat) : State :=
  if s.tb < (s.supply k).authAt + 800000000 * max 1 (s.f (SUP_CFG_REAUTH k)) || (s.supply k).phase ≠ .idle then s
  else
    let s := s.supDecrement k
    if (s.supply k).phase = .idle then s.supAuth k else s.modSupply k fun x => { x with reauth := true }

/-- A write of SUP_CFG: EN set authenticates; EN cleared turns the channel OFF. -/
def State.supCfgWrite (s : State) (k : Nat) (new : Word) : State :=
  let was := s.b (SUP_CFG_EN k)
  let s := s.wr (SUP_CFG k) new
  if s.b (SUP_CFG_EN k) then (if was then s else s.supAuth k)
  else if was then ((s.supPhase k .idle).modSupply k fun x => { x with reauth := false }).setF (SUP_STAT_STATE k) 0
  else s

/-! Commands -/

/-- SUPPLY_AUTH (R680). -/
def execSupplyAuth (n : Fin 16) (s : State) : Host.Outcome State Fault Refusal :=
  .next (s.awake (·.supAuth n))

/-- SUPPLY_RESPONSE (R678 to R684). -/
def execSupplyResponse (n : Fin 16) (bytes : List Byte) (s : State) : Host.Outcome State Fault Refusal :=
  .next (s.awake (·.supResponse n bytes))

/-- SUPPLY_BUSY_RETRY (R678). -/
def execSupplyBusyRetry (n : Fin 16) (s : State) : Host.Outcome State Fault Refusal :=
  .next (s.awake (·.supRetry n))

/-- SUPPLY_REAUTH (R681). -/
def execSupplyReauth (n : Fin 16) (s : State) : Host.Outcome State Fault Refusal :=
  .next (s.awake (·.supReauth n))

/-- SUPPLY_TIMEOUT (R681). -/
def execSupplyTimeout (n : Fin 16) (s : State) : Host.Outcome State Fault Refusal :=
  .next (s.awake (·.supLost n))

/-- SUPPLY_DECREMENT (R683). -/
def execSupplyDecrement (n : Fin 16) (s : State) : Host.Outcome State Fault Refusal :=
  .next (s.awake (·.supDecrement n))

end Sys2Proof.Machine
end

