-- ==== Sys2Proof/Machine/RegHooks.lean ====
section
/-!
DEFINITION. RegHooks.lean: what a write does to each block's registers once access, guard and write-once rules have settled the word
(the register tables of 02_package_power.md to 20_freeze_debug.md). `new` is that word: KP and RO bits as held, WO bits as written.
-/

namespace Sys2Proof.Machine
open Reg Fld

/-- A write of a shadow field: the group's PENDING is set until the next commit (R138, R141). -/
def State.shadowWrite (s : State) (a : Nat) (new : Word) (pend : Field) : State := (s.wr a new).setB pend true

/-- SYS (0x00). -/
def State.hookSys (s : State) (a : Nat) (new : Word) : State :=
  if a = SYS_PWR_CTRL then s.parkWrite (bitAt new.toNat 0)
  else if a = SYS_BOOT_STAT then s.bootWrite new
  else if a = SYS_RST_CTRL then (if bitAt new.toNat 0 then s.warmReset 2 else s)
  else s

/-- FAULT (0x03). -/
def State.hookFault (s : State) (a : Nat) (new : Word) : State :=
  if a = FLT_CTRL then s.fltCtrlWrite new
  else if 0x31000 ≤ a && a % 0x10 = 4 then s.fltCfgWrite ((a - 0x31000) / 0x10) new
  else s.wr a new

/-- DMA channel registers. -/
def State.hookChannel (s : State) (c off a : Nat) (new : Word) : State :=
  match off with
  | 0x00 => s.chSetWrite c a new
  | 0x04 => s.chCtrlWrite c new
  | 0x18 => (s.wr a new).paceChannel c
  | 0x1C => s.chCountWrite c true (bits new.toNat 30 0)
  | 0x20 => s.chCountWrite c false (bits new.toNat 30 0)
  | _ => s.wr a new

/-- Job queue registers (R193 to R197, R209, R215). -/
def State.hookQueue (s : State) (req k off a : Nat) (new : Word) : State :=
  match off with
  | 0x00 => s.jqCtrlWrite k (putBits new 11 11 0) (bitAt new.toNat 11)
  | 0x14 => s.jqTailWrite k (bits new.toNat 15 0)
  | 0x20 => s.jqCqHeadWrite k (bits new.toNat 15 0)
  | 0x24 => if s.b (JQ_CTRL_ENABLE k) then s else s.wr a new
  | 0x28 => s.jqDone req k (bits new.toNat 5 0) (bitAt new.toNat 8)
  | _ => s.wr a new

/-- DMA (0x04). -/
def State.hookDma (s : State) (req a : Nat) (new : Word) : State :=
  if 0x41000 ≤ a && a < 0x41800 then s.hookChannel ((a - 0x41000) / 0x40) (a % 0x40) a new
  else if 0x48000 ≤ a && a < 0x48200 then s.hookQueue req ((a - 0x48000) / 0x40) (a % 0x40) a new
  else if 0x4C000 ≤ a && a < 0x4C400 then (s.wr a new).msixFlush
  else s.wr a new

/-- MEMC (0x05): TRAIN is self-clearing (R98). -/
def State.hookMemc (s : State) (a : Nat) (new : Word) : State :=
  if a = MEMC_CH_CFG 0 || a = MEMC_CH_CFG 1 then
    (s.wr a (putBits new 8 8 0)).when (bitAt new.toNat 8) (·.ddrTrain ((a - 0x50000) / 0x100))
  else s.wr a new

/-- Dot-clock domain registers. -/
def State.hookDcd (s : State) (d off a : Nat) (new : Word) : State :=
  match off with
  | 0x00 => s.dcdCtrlWrite d new
  | 0x04 | 0x08 | 0x14 => s.dcdSetWrite d a new
  | 0x20 | 0x24 => s.shadowWrite a new (DCD_SHCTL_PENDING d)
  | 0x28 => s.dcdArm d (bitAt new.toNat 0)
  | 0x58 => (s.wr a new).takeOrigin d
  | _ => s.wr a new

/-- RASTER (0x06). -/
def State.hookRaster (s : State) (a : Nat) (new : Word) : State :=
  if 0x68000 ≤ a then s.hookDcd ((a - 0x68000) / 0x100) (a % 0x100) a new
  else if 0x62000 ≤ a then
    (if a % 0x20 = 0 || a % 0x20 = 4 || a % 0x20 = 0x0C then s.laneRasterWrite ((a - 0x62000) / 0x20) a new else s.wr a new)
  else if 0x61000 ≤ a then s.streamWrite ((a - 0x61000) / 0x20) new
  else s.scanWrite ((a - 0x60800) / 0x10) new

/-- A write of FH_SHCTL (R393, R744). -/
def State.fhArm (s : State) (h : Nat) (arm : Bool) : State :=
  if !arm then s.disarm (FH_SHCTL h)
  else if s.fhShadowOk h then s.setB (FH_SHCTL_ARM h) true
  else (s.disarm (FH_SHCTL h)).fhCfgError h

/-- A write of FH_CTRL: FORCE_INHIBIT before CLR_INHIBIT, which it excludes (R404, R407). -/
def State.fhCtrlWrite (s : State) (h : Nat) (new : Word) : State :=
  let force := bitAt new.toNat 1
  let was := s.b (FH_CTRL_FORCE_INHIBIT h)
  let s := (s.setB (FH_CTRL_FORCE_INHIBIT h) force).when (force && !was) (·.inhibit h 4)
  s.when (bitAt new.toNat 0) (·.clrInhibit h)

/-- FIRING (0x07). -/
def State.hookFiring (s : State) (a : Nat) (new : Word) : State :=
  let h := (a - 0x70000) / 0x100
  match a % 0x100 with
  | 0x00 | 0x04 | 0x08 => s.shadowWrite a new (FH_SHCTL_PENDING h)
  | 0x0C => s.fhArm h (bitAt new.toNat 0)
  | 0x34 => s.fhCtrlWrite h new
  | _ => s.wr a new

/-- ACQUIRE: ignored in STANDBY, either value, and refused in ISOLATED (Table 19.4, R705). -/
def State.acquireWrite (s : State) (l : Nat) (on : Bool) : State :=
  if s.role = 3 || (on && s.role = 5) then s else s.setB (HL_CTRL_ACQUIRE l) on

/-- A write of HL_CTRL: ENABLE, RELEASE, ACQUIRE, RENEG (R415, R425, R448, R451). -/
def State.laneCtrlWrite (s : State) (l : Nat) (new : Word) : State :=
  let n := new.toNat
  let was := s.b (HL_CTRL_ENABLE l)
  let s := if bitAt n 0 && !was then s.laneEnable l else if !bitAt n 0 && was then s.laneDisable l else s
  let s := s.when (bitAt n 2 && s.b (HL_CTRL_ENABLE l)) (·.releaseLane l)
  let s := s.acquireWrite l (bitAt n 1)
  s.when (bitAt n 3 && s.b (HL_CTRL_ENABLE l)) (·.negStart l)

/-- A write of HL_CFG or HL_NOZ: only while ENABLE is 0 (R416). -/
def State.laneCfgWrite (s : State) (l a : Nat) (new : Word) : State :=
  if new = s.rd a || !s.b (HL_CTRL_ENABLE l) then s.wr a new else (s.ev (HL_STAT_CFG_ERROR l)).raise 58 l

/-- A write of HL_CX_CMD: OP takes the value written; a GO acts unless BUSY (R459). -/
def State.cxWrite (s : State) (l : Nat) (new : Word) : State :=
  let op := bits new.toNat 2 1
  (s.setF (HL_CX_CMD_OP l) op).when (bitAt new.toNat 0) (·.cxGo l op)

/-- HEADLANE (0x08). -/
def State.hookLane (s : State) (a : Nat) (new : Word) : State :=
  let l := (a - 0x80000) / 0x400
  match a % 0x400 with
  | 0x00 => s.laneCtrlWrite l new
  | 0x04 | 0x08 => s.laneCfgWrite l a new
  | 0x38 => s.cxWrite l new
  | _ => s.wr a new

/-- The lane whose VFY_CURSOR is at an address. -/
def cursorLane (a : Nat) : Option Nat := allLanes.find? fun l => VFY_CURSOR l = a

/-- VERIFY (0x09). VFY_CURSOR is written only while the lane's domain is stopped (R473, its row). -/
def State.hookVerify (s : State) (a : Nat) (new : Word) : State :=
  if a = VFY_HOLD_REL then s.releaseHold (bits new.toNat 17 0)
  else match cursorLane a with
    | some l => s.when (s.stopped (s.f (HL_CFG_DCD l))) (·.wr a new)
    | none => s.wr a new

/-- Axis registers. -/
def State.hookAxis (s : State) (x off a : Nat) (new : Word) : State :=
  match off with
  | 0x00 => s.motCtrlWrite x new
  | 0x04 => s.motCfgWrite x new
  | 0x08 | 0x60 | 0x84 => s.motSetWrite x a new
  | 0x38 => s.motVel x new
  | 0x88 | 0x8C | 0x98 => s.shadowWrite a new (MOT_GSHCTL_PENDING x)
  | 0x9C => s.gearArm x (bitAt new.toNat 0)
  | _ => s.wr a new

/-- A write of GRP_CTRL: STOP wins (R526, R528). -/
def State.grpCtrlWrite (s : State) (g : Nat) (new : Word) : State :=
  if bitAt new.toNat 1 then s.grpStop g else s.when (bitAt new.toNat 0) (·.grpGo g)

/-- MOTION (0x0A). -/
def State.hookMotion (s : State) (a : Nat) (new : Word) : State :=
  if a < 0xA8000 then s.hookAxis ((a - 0xA0000) / 0x200) (a % 0x200) a new
  else if a < 0xA9000 then
    (if a % 0x10 = 0 then s.grpCfgWrite ((a - 0xA8000) / 0x10) new else s.grpCtrlWrite ((a - 0xA8000) / 0x10) new)
  else if a % 0x20 = 0 || a % 0x20 = 4 then s.rejWrite ((a - 0xA9000) / 0x20) a new
  else s.wr a new

/-- A write of CMP_CTL: while EN is 0 the group's boundary is the next cycle (R569). -/
def State.cmpCtlWrite (s : State) (c k a : Nat) (new : Word) : State :=
  let s := s.cmpWrite c k a new
  s.when (!s.b (CMP_CTL_OWNED c k) && !s.b (CMP_CTL_EN c k)) (·.cmpCommit c k)

/-- FEEDBACK (0x0B). -/
def State.hookFeedback (s : State) (a : Nat) (new : Word) : State :=
  if 0xB8000 ≤ a then
    let n := (a - 0xB8000) / 0x20
    match a % 0x20 with
    | 0 => s.emuCfgWrite n new
    | 4 | 8 => (s.wr a new).emuLag n
    | _ => s.wr a new
  else
    let c := (a - 0xB0000) / 0x200
    let off := a % 0x200
    if 0x100 ≤ off then
      let k := (off - 0x100) / 0x20
      match off % 0x20 with
      | 0x00 => s.cmpCtlWrite c k a new
      | 0x18 => s.cmpArm c k (bitAt new.toNat 0)
      | _ => s.cmpWrite c k a new
    else match off with
      | 0x00 => s.fbCtrlWrite c new
      | 0x04 => s.fbCfgWrite c new
      | _ => s.wr a new

/-- LOOP (0x0C). -/
def State.hookLoop (s : State) (a : Nat) (new : Word) : State :=
  if a < 0xC2000 then
    let l := (a - 0xC0000) / 0x100
    match a % 0x100 with
    | 0x00 => s.loopCtrlWrite l new
    | 0x04 => s.loopCfgWrite l new
    | 0x0C => s.loopArm l (bitAt new.toNat 0)
    | 0x08 | 0x68 | 0x6C => s.wr a new
    | _ => s.shadowWrite a new (LP_SHCTL_PENDING l)
  else if a = LP_TMR_START then s.timerStart new.toNat
  else if 0xC3000 ≤ a && a < 0xC3080 then s.timerWrite ((a - 0xC3000) / 0x10) new
  else if 0xC4000 ≤ a && a < 0xC4100 && a % 0x10 = 0 then s.pwmCfgWrite ((a - 0xC4000) / 0x10) new
  else if 0xC8000 ≤ a && a % 0x40 = 0 then s.traceCtrlWrite ((a - 0xC8000) / 0x40) new
  else s.wr a new

/-- CAL and QUARTZ (0x0D). -/
def State.hookCal (s : State) (a : Nat) (new : Word) : State :=
  if a = CAL_CMD then s.calCmdWrite new
  else if a = CAL_APPLY then s.calApplyWrite new
  else if a = CAL_NZCFG || 0xD8000 ≤ a then s.nzBufWrite a new
  else if a = QZ_CMD then s.when (bitAt new.toNat 0) State.qzProg
  else s.wr a new

/-- A write of SEC_FPROG: FIELD and INDEX are held, GO acts (R647). -/
def State.fprogWrite (s : State) (new : Word) : State :=
  (s.wr SEC_FPROG (putBits new 16 16 0)).when (bitAt new.toNat 16) (·.fuseGo (bits new.toNat 3 0) (bits new.toNat 9 8))

/-- A write of SEC_TOK_CTRL (R650). -/
def State.tokenWrite (s : State) (new : Word) : State :=
  (s.wr SEC_TOK_CTRL (putBits new 8 8 0)).when (bitAt new.toNat 8) (·.tokenGo (bits new.toNat 4 0))

/-- A write of SEC_LD_CTRL (R652). -/
def State.loadWrite (s : State) (new : Word) : State :=
  (s.wr SEC_LD_CTRL (putBits new 8 8 0)).when (bitAt new.toNat 8) (·.loadGo (bits new.toNat 3 0))

/-- A write of GEO_CMD (R656, R659, R660). -/
def State.geoCmdWrite (s : State) (new : Word) : State :=
  let n := new.toNat
  ((s.when (bitAt n 0) State.provision).when (bitAt n 1) State.geoUnlock).when (bitAt n 2) (·.tamperEvent 18)

/-- A write of LG_CTRL (R672, R674). -/
def State.ledgerCtrlWrite (s : State) (new : Word) : State :=
  if bitAt new.toNat 1 then s.ledgerClose else s.when (bitAt new.toNat 0) State.ledgerOpen

/-- SECURITY, LEDGER and GEODE (0x0E). -/
def State.hookSecurity (s : State) (a : Nat) (new : Word) : State :=
  if a = SEC_FPROG then s.fprogWrite new
  else if a = SEC_TOK_CTRL then s.tokenWrite new
  else if a = SEC_LD_CTRL then s.loadWrite new
  else if a = LG_CTRL then s.ledgerCtrlWrite new
  else if a = LG_CFG then s.ledgerCfgWrite a new
  else if a = GEO_CMD then s.geoCmdWrite new
  else if 0xE3000 ≤ a && a < 0xE3400 && a % 0x40 = 0 then s.supCfgWrite ((a - 0xE3000) / 0x40) new
  else s.wr a new

/-- TWIN (0x0F). -/
def State.hookTwin (s : State) (a : Nat) (new : Word) : State :=
  if a = TWIN_CFG then s.twinCfgWrite new
  else if a = TWIN_CTRL then (s.when (bitAt new.toNat 0) State.twinSwitch).when (bitAt new.toNat 1) State.twinRejoin
  else if TWIN_PSK 0 ≤ a then s.pairWrite a new
  else s.wr a new

/-- DEBUG (0x10). -/
def State.hookDebug (s : State) (a : Nat) (new : Word) : State :=
  if a = DBG_CTRL then s.dbgWrite new
  else if a = DBG_MWIN_DATA then s.mwinWrite new
  else s.wr a new

/-- ENGINE (0x20): STOP wins over START (R156). -/
def State.hookEngine (s : State) (a : Nat) (new : Word) : State :=
  let e := (a - 0x200000) / 0x1000
  match a % 0x1000 with
  | 0x00 => if bitAt new.toNat 1 then s.engStop e else s.when (bitAt new.toNat 0) (·.engStart e)
  | 0x18 => s.engEvset e (bits new.toNat 7 0)
  | _ => s.wr a new

/-- A settled write of a register that is not half of a pair. -/
def State.hook (s : State) (req a : Nat) (new : Word) : State :=
  match a / 0x10000 with
  | 0x00 => s.hookSys a new
  | 0x03 => s.hookFault a new
  | 0x04 => s.hookDma req a new
  | 0x05 => s.hookMemc a new
  | 0x06 => s.hookRaster a new
  | 0x07 => s.hookFiring a new
  | 0x08 => s.hookLane a new
  | 0x09 => s.hookVerify a new
  | 0x0A => s.hookMotion a new
  | 0x0B => s.hookFeedback a new
  | 0x0C => s.hookLoop a new
  | 0x0D => s.hookCal a new
  | 0x0E => s.hookSecurity a new
  | 0x0F => s.hookTwin a new
  | 0x10 => s.hookDebug a new
  | 0x20 => s.hookEngine a new
  | _ => s

/-! 64-bit pairs (R116, R118, R129) -/

/-- The LO registers (and CMP_NEXT_FRAC, R566) that software writes, by the base of their row. -/
def loBases : List Nat :=
  [0x41008, 0x41010, 0x48004, 0x4800C, 0x6800C, 0x68018, 0x68050, 0xA000C, 0xA003C, 0xA0074, 0xA0090, 0xB0008, 0xB0104, 0xB0108,
   0xB0110, 0xE0400, 0xE100C, 0xE1030, 0xF0018, 0x200010]

/-- Their HI registers. -/
def hiBases : List Nat :=
  [0x4100C, 0x41014, 0x48008, 0x48010, 0x68010, 0x6801C, 0x68054, 0xA0010, 0xA0040, 0xA0078, 0xA0094, 0xB000C, 0xB010C, 0xB0114,
   0xE0404, 0xE1010, 0xE1034, 0xF001C, 0x200014]

/-- A settled write of both halves, LO at `a`; `frac` is what is staged for CMP_NEXT_FRAC. -/
def State.hookPair (s : State) (base a v : Nat) (frac : Word) : State :=
  let i (b n : Nat) : Nat := (a - b) / n
  match base with
  | 0x41008 | 0x41010 => s.chSetWrite64 (i 0x41000 0x40) a v
  | 0x48004 | 0x4800C => if s.b (JQ_CTRL_ENABLE (i 0x48000 0x40)) then s else s.wr64 a v
  | 0x6800C =>
    let d := i 0x68000 0x100
    if v = s.rd64 a || s.stopped d then s.wr64 a v else s.ev (DCD_STAT_CFG_ERROR d)
  | 0x68018 => (s.wr64 a v).setB (DCD_SHCTL_PENDING (i 0x68000 0x100)) true
  | 0xA000C =>
    s.motTarget (i 0xA0000 0x200) (toSigned 64 v)
  | 0xA003C =>
    let x := i 0xA0000 0x200
    if v = s.rd64 a && s.f (MOT_STATE_STATE x) ≠ 1 then s else s.motPos x (toSigned 64 v)
  | 0xA0090 => (s.wr64 a v).setB (MOT_GSHCTL_PENDING (i 0xA0000 0x200)) true
  | 0xB0008 =>
    let c := i 0xB0000 0x200
    if v = s.rd64 a && !s.fbLoadable c then s else s.fbPosWrite c (toSigned 64 v)
  | 0xB0108 | 0xB0110 =>
    let c := i 0xB0000 0x200
    let k := (a % 0x200 - 0x100) / 0x20
    if s.b (CMP_CTL_OWNED c k) then
      (if v = s.rd64 a && (base ≠ 0xB0108 || frac = s.rd (a - 4)) then s else s.ev (FB_STAT_OWNED_WR c))
    else
      let s := if base = 0xB0108 then s.wr (a - 4) frac else s
      (s.wr64 a v).setB (CMP_SHCTL_PENDING c k) true
  | 0xE100C => if s.ledger.isOpen then s else ((s.wr64 a v).wn LG_TAIL 0).wn LG_HEAD 0
  | _ => s.wr64 a v

end Sys2Proof.Machine
end

