-- ==== Sys2Proof/Machine/Bus.lean ====
section
/-!
DEFINITION. Bus.lean: accesses to BAR0 by the host, the engines and the debug port: access shapes, guards, write-once fields,
sequence-cleared status, 64-bit pairs, register views and the memory windows (04_register_model.md R103 to R136, R742 to R744).
-/

namespace Sys2Proof.Machine
open Reg Fld

/-! Requesters -/

/-- The requester an access counts as: SPE0 for the pair (R124). -/
def requester (req : Nat) : Nat := if req = 15 then 14 else req

/-- Can an access reach a block: the part out of reset, the DEBUG block alone while frozen and only for the debug port, which needs
debug unlocked (R54, R721, R723, Table 20.3)? -/
def State.busUp (s : State) (req a : Nat) : Bool :=
  !s.power.resetLow && !s.power.testEn && s.power.aonRuns && (req ≠ 17 || s.b DBG_STAT_UNLOCKED) &&
  (!s.b DBG_STAT_FROZEN || (req = 17 && a / 0x10000 = 0x10))

/-- Offset and requester as the fault record of sources 20 to 22 carries them (R634). -/
def accessInfo (req a : Nat) : Nat := a % 0x1000000 + requester req * 0x1000000

/-- A register access error (R106, R107, R109). -/
def State.badAccess (s : State) (req a : Nat) : State := s.raise 20 (accessInfo req a)

/-! Guards (R124 to R131) -/

/-- The blocks with guarded registers (Table 4.1). -/
def guardedBlock (b : Nat) : Bool := b = 0 || (3 ≤ b && b ≤ 0x10) || b = 0x20

/-- The first write of a requester to a block uses up its unlock of that block; true where the unlock is in force (R124, R126). -/
def State.consume (s : State) (req a : Nat) : Bool × State :=
  let r := requester req
  match s.unlocks.find? fun u => u.1 = r && u.2.1 = a / 0x10000 with
  | some u => (decide (s.tb < u.2.2 + 1024), { s with unlocks := s.unlocks.filter (·.1 ≠ r) })
  | none => (false, s)

/-- A write of GUARD_UNLOCK (R125, R130): an accepted unlock replaces the requester's last; each eighth wrong key in a row is a class C
tamper event. -/
def State.guardWrite (s : State) (req : Nat) (v : Word) : State :=
  let r := requester req
  let n := v.toNat
  if bits n 31 16 = 0x7C5E && bits n 15 8 = 0 && guardedBlock (bits n 7 0) then
    ({ s with unlocks := (r, bits n 7 0, s.tb) :: s.unlocks.filter (·.1 ≠ r) }).setF GUARD_STAT_CONSEC 0
  else
    let s := s.incSat GUARD_STAT_TOTAL 1
    let k := s.f GUARD_STAT_CONSEC + 1
    (s.setF GUARD_STAT_CONSEC (k % 8)).when (k = 8) (·.tamperEvent 16)

/-- UNLOCK_EXPIRE: an unlock 1,024 ticks old is cancelled (R126). -/
def State.unlockExpire (s : State) (req : Nat) : State :=
  { s with unlocks := s.unlocks.filter fun u => u.1 ≠ requester req || decide (s.tb < u.2.2 + 1024) }

/-- A guarded write is refused (R131). -/
def State.guardRefuse (s : State) (req a : Nat) : State :=
  let s := (s.ev GUARD_REFUSE_REFUSED).setF GUARD_REFUSE_LAST_BLOCK (a / 0x10000)
  (s.setF GUARD_REFUSE_LAST_REQ (requester req)).raise 22 (accessInfo req a)

/-! Merging a write (R105, R119, R124, R132 to R136, R742) -/

/-- Is the row an SQ register (R119)? -/
def RegRow.isSq (r : RegRow) : Bool := r.fields.any fun x => x.2.2 = .sq

/-- Has the row a field software writes? -/
def RegRow.writable (r : RegRow) : Bool := r.fields.any fun x => x.2.2 ≠ .ro && x.2.2 ≠ .sq

/-- Is a field of the row guarded? -/
def RegRow.guarded (r : RegRow) : Bool := r.fields.any fun x => x.2.2 = .gd || x.2.2 = .gw

/-- Is every field software writes guarded? A write of such a register without an unlock in force has no effect at all: a field it would
change is refused, any other keeps its value (R124, R131, R742). -/
def RegRow.allGuarded (r : RegRow) : Bool :=
  r.fields.all fun x => x.2.2 = .gd || x.2.2 = .gw || x.2.2 = .ro

/-- Is the row made of W1 fields? -/
def RegRow.writeOnce (r : RegRow) : Bool := r.fields.any fun x => x.2.2 = .w1

/-- A write merged into a word: the word, whether a guarded field is refused, whether a locked W1 field would change. -/
structure Merge where
  word : Word
  refused : Bool := false
  once : Bool := false
deriving DecidableEq, Repr

/-- One field of a write. -/
def Merge.field (held w : Word) (granted locked : Bool) (m : Merge) (x : Nat × Nat × Acc) : Merge :=
  let old := bits held.toNat x.1 x.2.1
  let v := bits w.toNat x.1 x.2.1
  let put : Merge := { m with word := putBits m.word x.1 x.2.1 v }
  match x.2.2 with
  | .ro | .sq => m
  | .rw | .wo => put
  | .gd | .gw => if granted || v = old then put else { m with refused := true }
  | .w1 => if !locked then put else if v = old then m else { m with once := true }

/-- All fields of a write; KP bits keep what they hold. -/
def RegRow.merge (r : RegRow) (held w : Word) (granted locked : Bool) : Merge :=
  r.fields.foldl (Merge.field held w granted locked) { word := held }

/-- What a write compares with: the registers, and the Geode for TWIN_PSK. -/
def State.heldWord (s : State) (a : Nat) : Word :=
  if TWIN_PSK 0 ≤ a && a < TWIN_PSK 8 then BitVec.ofNat 32 (leAt (s.geode.psk.getD []) (a - TWIN_PSK 0) 4) else s.rd a

/-- A write of an SQ register: equal SEQ clears every event bit (R121); FLT_SRC keeps LATCHED while LIVE (R631). -/
def State.sqWrite (s : State) (r : RegRow) (a : Nat) (v : Word) : State :=
  if bits v.toNat 31 24 ≠ bits (s.rn a) 31 24 then s
  else if 0x31000 ≤ a && a < 0x31800 then s.fltClear ((a - 0x31000) / 0x10)
  else s.wr a ((r.fields.filter fun x => x.2.2 = .sq && x.1 < 24).foldl (fun w x => putBits w x.1 x.2.1 0) (s.rd a))

/-! 64-bit pairs (R116, R118, R129) -/

/-- The staged value of a LO register; 0 where none is staged. -/
def State.stagedAt (s : State) (a : Nat) : Word := Map.get (fun _ => 0) s.staged a

/-- Stage a LO register, or discard what is staged with 0. -/
def State.stage (s : State) (a : Nat) (v : Word) : State := { s with staged := Map.set (fun _ => 0) s.staged a v }

/-- Lock a W1 register (R132). -/
def State.lockW1 (s : State) (a : Nat) : State := { s with w1Locked := if s.w1Locked.contains a then s.w1Locked else a :: s.w1Locked }

/-- A write of a W1 field after the lock (R133, R134). -/
def State.onceViolation (s : State) (req a : Nat) : State := s.raise 21 (accessInfo req a)

/-- The write of a HI register at `a`: both halves load in one cycle, or the write is refused and the staged LO discarded. -/
def State.pairLoad (s : State) (req a : Nat) (hi : RegRow) (v : Word) (granted : Bool) : State :=
  let lo := a - 4
  let low := s.stagedAt lo
  let frac := if hi.base = 0xB010C then s.stagedAt (a - 8) else 0
  let s := s.stage lo 0
  let s := if hi.base = 0xB010C then s.stage (a - 8) 0 else s
  if hi.writeOnce && s.w1Locked.contains a then s.onceViolation req a
  else match rowOf lo with
    | none => s
    | some r =>
      let m0 := r.merge (s.rd lo) low granted false
      let m1 := hi.merge (s.rd a) v granted false
      if m0.refused || m1.refused then s.guardRefuse req a
      else if r.allGuarded && !granted then s
      else
        let s := if hi.writeOnce then s.lockW1 a else s
        s.hookPair r.base lo (m0.word.toNat + m1.word.toNat * 0x100000000) frac

/-! A register write -/

/-- A register write of all four bytes at an aligned offset. -/
def State.regWrite (s : State) (req a : Nat) (v : Word) : State :=
  match rowOf a with
  | none => ((s.consume req a).2).badAccess req a
  | some r =>
    if a = GUARD_UNLOCK then s.guardWrite req v
    else if loBases.contains r.base then
      let s := if r.guarded then s else (s.consume req a).2
      if r.writeOnce && s.w1Locked.contains (a + 4) then s.onceViolation req a else s.stage a v
    else
      let (granted, s) := s.consume req a
      if r.isSq then s.sqWrite r a v
      else if hiBases.contains r.base then s.pairLoad req a r v granted
      else if !r.writable then s
      else
        let m := r.merge (s.heldWord a) v granted (s.w1Locked.contains a)
        let s := s.when m.refused (·.guardRefuse req a)
        let s := s.when m.once (·.onceViolation req a)
        let s := if r.writeOnce then s.lockW1 a else s
        if r.allGuarded && !granted then s else s.hook (requester req) a m.word

/-- A register write that reaches the block. -/
def State.busReg (s : State) (req a : Nat) (v : Word) : State := if s.busUp req a then s.regWrite req a v else s

/-- A register write of the held word with one field changed. -/
def State.busField (s : State) (req : Nat) (x : Field) (v : Nat) : State :=
  s.busReg req x.addr (putBits (s.rd x.addr) x.hi x.lo v)

/-! Memory windows (R108 to R110, R746) -/

/-- A write of a memory window. -/
def State.memWrite (s : State) (req o : Nat) (bs : List Byte) : State :=
  if bs.length = 0 || 512 < bs.length || 4096 < o % 4096 + bs.length || !windowAll o bs.length then s.badAccess req o
  else if 0x800000 ≤ o && o < 0xA00000 then
    if bs.length = 8 && o % 8 = 0 then s.nozzleWrites o bs else s.badAccess req o
  else match s.signedHit o bs.length with
    | some e => s.raise 4 e
    | none => s.winStore o bs

/-- A four-byte write of a memory window with some byte enables clear: one write of its enabled bytes; the nozzle table takes none (R107 to
R110). With no byte enabled it is no write of 1 to 512 bytes (log 94). -/
def State.maskWrite (s : State) (req o : Nat) (v : Word) (be : BitVec 4) : State :=
  let on := (List.range 4).filter be.getLsbD
  if on = [] || !windowAll o 4 || (0x800000 ≤ o && o < 0xA00000) then s.badAccess req o
  else match on.findSome? fun i => s.signedHit (o + i) 1 with
    | some e => s.raise 4 e
    | none => s.forEach on fun s i => s.winStore (o + i) (leBytes 1 (v.toNat / 256 ^ i))

/-- The aligned words that `n` bytes at `a` touch, in ascending order. -/
def touchedWords (a n : Nat) : List Nat := (List.range ((a % 4 + n + 3) / 4)).map fun i => a / 4 * 4 + 4 * i

/-- Is a request of the host to a register block one of consecutive 4-byte accesses (R237)? -/
def longHost (req n : Nat) : Bool := req = 16 && 8 < n

/-- A long write of the host: each word in ascending order; one it covers in part is a bad shape (R106, R237). -/
def State.longStore (s : State) (req a : Nat) (bs : List Byte) : State :=
  s.forEach (touchedWords a bs.length) fun s o =>
    if a ≤ o && o + 4 ≤ a + bs.length then s.busReg req o (BitVec.ofNat 32 (leAt bs (o - a) 4))
    else if s.busUp req o then ((s.consume req o).2).badAccess req o
    else s

/-- A write of the BAR0 map as the bus carries it: a memory window, one register word, an aligned 8-byte pair of words, the lower first
(R105), or a long write of the host (R237); any other shape is ignored (R106). An 8-byte access at an address aligned to 4 bytes only is such
another shape, which R105 and R106 do not say (DESIGN CHOICE, log 94). -/
def State.busStore (s : State) (req a : Nat) (bs : List Byte) : State :=
  if !s.busUp req a then s
  else if windowRange a then s.memWrite req a bs
  else if a % 4 = 0 && bs.length = 4 then s.regWrite req a (BitVec.ofNat 32 (ofLe bs))
  else if a % 8 = 0 && bs.length = 8 then
    (s.regWrite req a (BitVec.ofNat 32 (leAt bs 0 4))).busReg req (a + 4) (BitVec.ofNat 32 (leAt bs 4 4))
  else if longHost req bs.length then s.longStore req a bs
  else ((s.consume req a).2).badAccess req a

/-! Reads -/

/-- Registers whose word the controller computes as it is read. -/
def State.liveWord (s : State) (req a : Nat) : Word :=
  let w (n : Nat) : Word := BitVec.ofNat 32 n
  if a = TB_LO then w (s.tb % 0x100000000)
  else if a = TB_HI then w (s.tb / 0x100000000)
  else if a = SYS_ENG_STAT then w (s.f SYS_ENG_STAT_VERIFIED + s.engRunning * 0x10000)
  else if a = GUARD_OPEN then
    match s.unlocks.find? fun u => u.1 = requester req && decide (s.tb < u.2.2 + 1024) with
    | some u => w (1 + u.2.1 * 256)
    | none => 0
  else if a = LG_NEXT_LO then w (s.geode.next % 0x100000000)
  else if a = LG_NEXT_HI then w (s.geode.next / 0x100000000)
  else if a = LG_BUFFERED then w s.ledger.buffer.length
  else if LG_CHAIN 0 ≤ a && a < LG_CHAIN 12 then w (leAt s.ledger.h (a - LG_CHAIN 0) 4)
  else if 0x41000 ≤ a && a < 0x41800 && (a % 0x40 = 8 || a % 0x40 = 12) && (s.dma ((a - 0x41000) / 0x40)).active then
    w ((s.dma ((a - 0x41000) / 0x40)).next / (if a % 0x40 = 8 then 1 else 0x100000000))
  else if a = DBG_SCAN_LEN then s.scanLen
  else if 0x61000 ≤ a && a < 0x61400 && a % 0x20 = 8 then w (s.rasFill ((a - 0x61000) / 0x20))
  else if 0x68000 ≤ a && a < 0x68400 && a % 0x100 = 0x44 then
    putBits (s.rd a) 5 0 (s.phase ((a - 0x68000) / 0x100))
  else if 0x90140 ≤ a && a < 0x90160 then w (s.holdList ((a - 0x90140) / 4)).length
  else if 0x96000 ≤ a && a < 0x98000 then
    match (s.holdList ((a - 0x96000) / 0x400))[a % 0x400 / 4]? with
    | some n => w (n + 0x80000000)
    | none => 0
  else if 0xB0000 ≤ a && a < 0xB1800 && a % 0x200 = 0x14 then w (ofSigned 32 (s.fbSpeed ((a - 0xB0000) / 0x200)))
  else if 0xB0000 ≤ a && a < 0xB1800 && a % 0x200 = 0x24 then
    let c := (a - 0xB0000) / 0x200
    putBits (s.rd a) 1 1 (b2n (s.lowNow c))
  else if 0xB0000 ≤ a && a < 0xB1800 && a % 0x200 = 0x1C then w (s.fbLatency ((a - 0xB0000) / 0x200))
  else if 0xCC000 ≤ a && a < 0xD0000 then s.traceWord ((a - 0xCC000) / 0x1000) (a % 0x1000 / 4)
  else if 0x200000 ≤ a && a < 0x210000 && a % 0x1000 = 4 then w (s.engStat ((a - 0x200000) / 0x1000))
  else s.rd a

/-- WO fields and TWIN_PSK read 0. -/
def RegRow.visible (r : RegRow) (w : Word) : Word :=
  r.fields.foldl (fun w x => if x.2.2 = .wo || x.2.2 = .gw then putBits w x.1 x.2.1 0 else w) w

/-- A read of a register word: 0 and source 20 where it is unmapped (R107); a read of FLT_SRC counts for R632. -/
def State.regRead (s : State) (req a : Nat) : State × Word :=
  match rowOf a with
  | none => (s.badAccess req a, 0)
  | some r =>
    if a = DBG_MWIN_DATA then s.mwinRead
    else
      let v := r.visible (s.liveWord req a)
      if 0x31000 ≤ a && a < 0x31800 && a % 0x10 = 0 then
        ({ s with fltRead := s.fltRead ||| (1#128 <<< ((a - 0x31000) / 0x10)) }, v)
      else (s, v)

/-- A read of the whole aligned word at `o` by an access at `a` of another shape: 0 where it is unmapped; source 20 once (R106, R107). -/
def State.wordRead (s : State) (req a o : Nat) : State × List Byte :=
  if (rowOf o).isNone then (s.badAccess req a, zeros 4)
  else
    let r := s.regRead req o
    (r.1.badAccess req a, leBytes 4 r.2.toNat)

/-- A long read of the host: the bytes asked for of each word, read in ascending order (R237). -/
def State.longRead (s : State) (req a n : Nat) : State × List Byte :=
  let r := (touchedWords a n).foldl (fun (p : State × List Byte) o =>
    if a ≤ o && o + 4 ≤ a + n then
      let q := p.1.regRead req o
      (q.1, p.2 ++ leBytes 4 q.2.toNat)
    else
      let q := p.1.wordRead req o o
      (q.1, p.2 ++ q.2)) (s, [])
  (r.1, slice r.2 (a % 4) n)

/-- A read of the BAR0 map: a window's bytes, one word, two words, a long read of the host, or for any other shape the whole aligned word
with source 20 (R105 to R108, R237). -/
def State.busRead (s : State) (req a n : Nat) : State × List Byte :=
  if windowRange a then
    if windowAll a n && n ≤ 512 && a % 4096 + n ≤ 4096 then (s, s.winRead a n) else (s.badAccess req a, zeros n)
  else if a % 4 = 0 && n = 4 then
    let r := s.regRead req a
    (r.1, leBytes 4 r.2.toNat)
  else if a % 8 = 0 && n = 8 then
    let r := s.regRead req a
    let q := r.1.regRead req (a + 4)
    (q.1, leBytes 4 r.2.toNat ++ leBytes 4 q.2.toNat)
  else if longHost req n then s.longRead req a n
  else s.wordRead req a (a / 4 * 4)

/-- The answer to a read: a completion to the host, a word to an engine or the debug port. -/
def State.answer (s : State) (req : Nat) (bs : List Byte) : State :=
  if req = 16 then s.emit (.completion 0 bs) else s.emit (.readWord req (BitVec.ofNat 32 (ofLe bs)))

/-- A read that reaches the bus; a host read while frozen ends with Completer Abort (R721). -/
def State.busAnswer (s : State) (req a n : Nat) : State :=
  if s.busUp req a then
    let r := s.busRead req a n
    r.1.answer req r.2
  else if req = 16 && s.b DBG_STAT_FROZEN then s.emit (.completion 4 [])
  else s

end Sys2Proof.Machine
end

