-- ==== Sys2Proof/Machine/RegCmd.lean ====
section
/-!
DEFINITION. RegCmd.lean: the commands that are accesses to registers and memory windows. A command of one field writes the register's
held word with that field as the command says, under the access rules of Bus.lean.
-/

namespace Sys2Proof.Machine
open Reg Fld

/-- Both halves of a 64-bit value, LO before HI (R118). -/
def State.busPair (s : State) (req a v : Nat) : State :=
  (s.busReg req a (BitVec.ofNat 32 v)).busReg req (a + 4) (BitVec.ofNat 32 (v / 0x100000000))

/-- A four-byte write with byte enables: all enabled, or of a window's enabled bytes; other shapes are errors (R105, R106, R108). -/
def State.enabledWrite (s : State) (req a : Nat) (v : Word) (be : BitVec 4) : State :=
  if be = 15 then s.busStore req a (leBytes 4 v.toNat)
  else if !s.busUp req a then s
  else if windowRange a then s.maskWrite req a v be
  else ((s.consume req a).2).badAccess req a

/-- DBGACC: the debug port's word access; while debug is locked BYPASS is selected (R723, Table 20.3). -/
def State.dbgAcc (s : State) (write : Bool) (a : Nat) (v : Word) : State :=
  let s := s.jtagSelect 0x20 (s.b DBG_STAT_UNLOCKED)
  if !s.b DBG_STAT_UNLOCKED then s
  else if write then s.busStore 17 a (leBytes 4 v.toNat)
  else s.busAnswer 17 a 4

/-- SOFT_RESET (R76). -/
def execSoftReset (req : Req) (s : State) : Host.Outcome State Fault Refusal :=
  .next (s.begin.busField req SYS_RST_CTRL_SOFT_RESET 1)

/-- PARK (R61). -/
def execPark (req : Req) (s : State) : Host.Outcome State Fault Refusal := .next (s.begin.busField req SYS_PWR_CTRL_PARK 1)

/-- UNPARK (R63). -/
def execUnpark (req : Req) (s : State) : Host.Outcome State Fault Refusal := .next (s.begin.busField req SYS_PWR_CTRL_PARK 0)

/-- HOST_GO (R88). -/
def execHostGo (req : Req) (s : State) : Host.Outcome State Fault Refusal :=
  .next (s.begin.busField req SYS_BOOT_STAT_HOST_GO 1)

/-- CFG_READY (R91). -/
def execCfgReady (req : Req) (s : State) : Host.Outcome State Fault Refusal :=
  .next (s.begin.busField req SYS_BOOT_STAT_CFG_READY 1)

/-- GUARD_UNLOCK (R125 to R130). -/
def execGuardUnlock (req : Req) (v : Word) (s : State) : Host.Outcome State Fault Refusal :=
  .next (s.begin.busReg req GUARD_UNLOCK v)

/-- UNLOCK_EXPIRE (R126). -/
def execUnlockExpire (req : Req) (s : State) : Host.Outcome State Fault Refusal := .next (s.begin.unlockExpire req)

/-- REGISTER_WRITE (R105, R106). -/
def execRegisterWrite (req : Req) (addr : Nat) (v : Word) (be : BitVec 4) (s : State) : Host.Outcome State Fault Refusal :=
  .next (s.begin.enabledWrite req addr v be)

/-- LO_STAGE_WRITE (R118). -/
def execLoStageWrite (req : Req) (addr : Nat) (v : Word) (s : State) : Host.Outcome State Fault Refusal :=
  .next (s.begin.busReg req addr v)

/-- SQ_WRITE_BACK (R121). -/
def execSqWriteBack (req : Req) (addr : Nat) (v : Word) (s : State) : Host.Outcome State Fault Refusal :=
  .next (s.begin.busReg req addr v)

/-- BAD_REGISTER_READ (R106, R107). -/
def execBadRegisterRead (req : Req) (addr len : Nat) (s : State) : Host.Outcome State Fault Refusal :=
  .next (s.begin.busAnswer req addr len)

/-- MEMORY_WINDOW_WRITE (R108, R110). -/
def execMemoryWindowWrite (req : Req) (addr : Nat) (bytes : List Byte) (s : State) : Host.Outcome State Fault Refusal :=
  .next (s.begin.busStore req addr bytes)

/-- NOZZLE_TABLE_WRITE (R109). -/
def execNozzleTableWrite (req : Req) (addr : Nat) (bytes : List Byte) (s : State) : Host.Outcome State Fault Refusal :=
  .next (s.begin.busStore req addr bytes)

/-- SHADOW_ARM (R744). -/
def execShadowArm (req : Req) (addr : Nat) (v : Word) (s : State) : Host.Outcome State Fault Refusal :=
  .next (s.begin.busReg req addr (putBits v 0 0 1))

/-- ENG_START (R155). -/
def execEngStart (req : Req) (e : Fin 16) (s : State) : Host.Outcome State Fault Refusal :=
  .next (s.begin.busField req (ENG_CTRL_START e) 1)

/-- ENG_STOP (R158). -/
def execEngStop (req : Req) (e : Fin 16) (s : State) : Host.Outcome State Fault Refusal :=
  .next (s.begin.busField req (ENG_CTRL_STOP e) 1)

/-- ENG_EVSET (R179). -/
def execEngEvset (req : Req) (e : Fin 16) (v : Word) (s : State) : Host.Outcome State Fault Refusal :=
  .next (s.begin.busReg req (ENG_EVSET e) v)

/-- JQ_ENABLE (R194). -/
def execJqEnable (req : Req) (k : Fin 8) (v : Word) (s : State) : Host.Outcome State Fault Refusal :=
  .next (s.begin.busReg req (JQ_CTRL k) (putBits v 0 0 1))

/-- JQ_DISABLE (R195). -/
def execJqDisable (req : Req) (k : Fin 8) (v : Word) (s : State) : Host.Outcome State Fault Refusal :=
  .next (s.begin.busReg req (JQ_CTRL k) (putBits v 0 0 0))

/-- IDX_CLR (R196). -/
def execIdxClr (req : Req) (k : Fin 8) (v : Word) (s : State) : Host.Outcome State Fault Refusal :=
  .next (s.begin.busReg req (JQ_CTRL k) (putBits v 11 11 1))

/-- DOORBELL (R197). -/
def execDoorbell (req : Req) (k : Fin 8) (v : Word) (s : State) : Host.Outcome State Fault Refusal :=
  .next (s.begin.busReg req (JQ_TAIL k) v)

/-- JQ_DONE (R209). -/
def execJqDone (req : Req) (k : Fin 8) (slot : Fin 64) (s : State) : Host.Outcome State Fault Refusal :=
  .next (s.begin.busReg req (JQ_DONE k) (BitVec.ofNat 32 slot))

/-- JQ_ABORT (R216). -/
def execJqAbort (req : Req) (k : Fin 8) (slot : Fin 64) (s : State) : Host.Outcome State Fault Refusal :=
  .next (s.begin.busReg req (JQ_DONE k) (BitVec.ofNat 32 (slot + 256)))

/-- CQ_HEAD_WRITE (R215). -/
def execCqHeadWrite (req : Req) (k : Fin 8) (v : Word) (s : State) : Host.Outcome State Fault Refusal :=
  .next (s.begin.busReg req (JQ_CQ_HEAD k) v)

/-- DMA_GO (R287). -/
def execDmaGo (req : Req) (c : Fin 32) (s : State) : Host.Outcome State Fault Refusal :=
  .next (s.begin.busField req (CH_CTRL_GO c) 1)

/-- DMA_KICK (R258). -/
def execDmaKick (req : Req) (c : Fin 32) (s : State) : Host.Outcome State Fault Refusal :=
  .next (s.begin.busField req (CH_CTRL_KICK c) 1)

/-- DMA_ABORT (R283). -/
def execDmaAbort (req : Req) (c : Fin 32) (s : State) : Host.Outcome State Fault Refusal :=
  .next (s.begin.busField req (CH_CTRL_ABORT c) 1)

/-- DMA_FLUSH (R271). -/
def execDmaFlush (req : Req) (c : Fin 32) (s : State) : Host.Outcome State Fault Refusal :=
  .next (s.begin.busField req (CH_CTRL_FLUSH c) 1)

/-- RING_COUNT_WRITE (R268). -/
def execRingCountWrite (req : Req) (c : Fin 32) (prod : Bool) (v : Word) (s : State) : Host.Outcome State Fault Refusal :=
  .next (s.begin.busReg req (if prod then CH_PROD c else CH_CONS c) v)

/-- DDR_TRAIN (R98). -/
def execDdrTrain (req : Req) (m : Fin 2) (v : Word) (s : State) : Host.Outcome State Fault Refusal :=
  .next (s.begin.busReg req (MEMC_CH_CFG m) (putBits v 8 8 1))

/-- STREAM_ENABLE (R301). -/
def execStreamEnable (req : Req) (n : Fin 32) (v : Word) (s : State) : Host.Outcome State Fault Refusal :=
  .next (s.begin.busReg req (RAS_STREAM n) (putBits v 0 0 1))

/-- STREAM_DISABLE (R303). -/
def execStreamDisable (req : Req) (n : Fin 32) (v : Word) (s : State) : Host.Outcome State Fault Refusal :=
  .next (s.begin.busReg req (RAS_STREAM n) (putBits v 0 0 0))

/-- DCD_GO (R361). -/
def execDcdGo (req : Req) (d : Fin 4) (s : State) : Host.Outcome State Fault Refusal :=
  .next (s.begin.busField req (DCD_CTRL_GO d) 1)

/-- DCD_STOP (R363). -/
def execDcdStop (req : Req) (d : Fin 4) (s : State) : Host.Outcome State Fault Refusal :=
  .next (s.begin.busField req (DCD_CTRL_STOP d) 1)

/-- DERATE (R372). -/
def execDerate (req : Req) (d : Fin 4) (s : State) : Host.Outcome State Fault Refusal :=
  .next (s.begin.busField req (DCD_CTRL_DERATE d) 1)

/-- CLR_INHIBIT (R407). -/
def execClrInhibit (req : Req) (h : Fin 64) (s : State) : Host.Outcome State Fault Refusal :=
  .next (s.begin.busField req (FH_CTRL_CLR_INHIBIT h) 1)

/-- FORCE_INHIBIT (R404). -/
def execForceInhibit (req : Req) (h : Fin 64) (s : State) : Host.Outcome State Fault Refusal :=
  .next (s.begin.busField req (FH_CTRL_FORCE_INHIBIT h) 1)

/-- LANE_ENABLE (R415). -/
def execLaneEnable (req : Req) (l : Fin 64) (s : State) : Host.Outcome State Fault Refusal :=
  .next (s.begin.busField req (HL_CTRL_ENABLE l) 1)

/-- LANE_DISABLE (R439). -/
def execLaneDisable (req : Req) (l : Fin 64) (s : State) : Host.Outcome State Fault Refusal :=
  .next (s.begin.busField req (HL_CTRL_ENABLE l) 0)

/-- ACQUIRE (R448). -/
def execAcquire (req : Req) (l : Fin 64) (s : State) : Host.Outcome State Fault Refusal :=
  .next (s.begin.busField req (HL_CTRL_ACQUIRE l) 1)

/-- RELEASE (R451). -/
def execRelease (req : Req) (l : Fin 64) (s : State) : Host.Outcome State Fault Refusal :=
  .next (s.begin.busField req (HL_CTRL_RELEASE l) 1)

/-- RENEG (R425). -/
def execReneg (req : Req) (l : Fin 64) (s : State) : Host.Outcome State Fault Refusal :=
  .next (s.begin.busField req (HL_CTRL_RENEG l) 1)

/-- CX_READ (R459). -/
def execCxRead (req : Req) (l : Fin 64) (s : State) : Host.Outcome State Fault Refusal :=
  .next (s.begin.busReg req (HL_CX_CMD l) (putBits (s.rd (HL_CX_CMD l)) 2 0 3))

/-- CX_WRITE (R459). -/
def execCxWrite (req : Req) (l : Fin 64) (s : State) : Host.Outcome State Fault Refusal :=
  .next (s.begin.busReg req (HL_CX_CMD l) (putBits (s.rd (HL_CX_CMD l)) 2 0 5))

/-- HOLD_RELEASE (R486). -/
def execHoldRelease (req : Req) (v : Word) (s : State) : Host.Outcome State Fault Refusal :=
  .next (s.begin.busReg req VFY_HOLD_REL v)

/-- AXIS_ENABLE (R502). -/
def execAxisEnable (req : Req) (a : Fin 16) (s : State) : Host.Outcome State Fault Refusal :=
  .next (s.begin.busField req (MOT_CTRL_ENABLE a) 1)

/-- AXIS_GO (R508). -/
def execAxisGo (req : Req) (a : Fin 16) (s : State) : Host.Outcome State Fault Refusal :=
  .next (s.begin.busField req (MOT_CTRL_GO a) 1)

/-- AXIS_STOP (R515). -/
def execAxisStop (req : Req) (a : Fin 16) (s : State) : Host.Outcome State Fault Refusal :=
  .next (s.begin.busField req (MOT_CTRL_STOP a) 1)

/-- AXIS_QSTOP (R515). -/
def execAxisQstop (req : Req) (a : Fin 16) (s : State) : Host.Outcome State Fault Refusal :=
  .next (s.begin.busField req (MOT_CTRL_QSTOP a) 1)

/-- AXIS_HOME (R520). -/
def execAxisHome (req : Req) (a : Fin 16) (s : State) : Host.Outcome State Fault Refusal :=
  .next (s.begin.busField req (MOT_CTRL_HOME a) 1)

/-- MOT_POS_WRITE (R513). -/
def execMotPosWrite (req : Req) (a : Fin 16) (v : DWord) (s : State) : Host.Outcome State Fault Refusal :=
  .next (s.begin.busPair req (MOT_POS_LO a) v.toNat)

/-- GROUP_GO (R526). -/
def execGroupGo (req : Req) (g : Fin 4) (s : State) : Host.Outcome State Fault Refusal :=
  .next (s.begin.busField req (GRP_CTRL_GO g) 1)

/-- GROUP_STOP (R528). -/
def execGroupStop (req : Req) (g : Fin 4) (s : State) : Host.Outcome State Fault Refusal :=
  .next (s.begin.busField req (GRP_CTRL_STOP g) 1)

/-- FB_ENABLE (R541). -/
def execFbEnable (req : Req) (c : Fin 12) (s : State) : Host.Outcome State Fault Refusal :=
  .next (s.begin.busField req (FB_CTRL_EN c) 1)

/-- FB_DISABLE (R555). -/
def execFbDisable (req : Req) (c : Fin 12) (s : State) : Host.Outcome State Fault Refusal :=
  .next (s.begin.busField req (FB_CTRL_EN c) 0)

/-- REDETECT (R555). -/
def execRedetect (req : Req) (c : Fin 12) (s : State) : Host.Outcome State Fault Refusal :=
  .next (s.begin.busField req (FB_CTRL_REDETECT c) 1)

/-- FB_POS_WRITE (R556). -/
def execFbPosWrite (req : Req) (c : Fin 12) (v : DWord) (s : State) : Host.Outcome State Fault Refusal :=
  .next (s.begin.busPair req (FB_POS_LO c) v.toNat)

/-- EMU_ENABLE (R574). -/
def execEmuEnable (req : Req) (n : Fin 4) (s : State) : Host.Outcome State Fault Refusal :=
  .next (s.begin.busField req (EMU_CFG_EN n) 1)

/-- TIMER_START (R576). -/
def execTimerStart (req : Req) (v : Word) (s : State) : Host.Outcome State Fault Refusal :=
  .next (s.begin.busReg req LP_TMR_START v)

/-- LOOP_RUN (R586). -/
def execLoopRun (req : Req) (l : Fin 32) (s : State) : Host.Outcome State Fault Refusal :=
  .next (s.begin.busField req (LP_CTRL_RUN l) 1)

/-- LOOP_STOP (R587). -/
def execLoopStop (req : Req) (l : Fin 32) (s : State) : Host.Outcome State Fault Refusal :=
  .next (s.begin.busField req (LP_CTRL_RUN l) 0)

/-- LOOP_INIT (R583). -/
def execLoopInit (req : Req) (l : Fin 32) (s : State) : Host.Outcome State Fault Refusal :=
  .next (s.begin.busField req (LP_CTRL_INIT l) 1)

/-- CAL_RUN (R599). -/
def execCalRun (req : Req) (v : Word) (s : State) : Host.Outcome State Fault Refusal :=
  .next (s.begin.busReg req CAL_CMD (putBits v 0 0 1))

/-- CAL_APPLY (R597). -/
def execCalApply (req : Req) (v : Word) (s : State) : Host.Outcome State Fault Refusal := .next (s.begin.busReg req CAL_APPLY v)

/-- QZ_PROG (R612). -/
def execQzProg (req : Req) (s : State) : Host.Outcome State Fault Refusal := .next (s.begin.busField req QZ_CMD_PROG 1)

/-- FAULT_RESUME (R625). -/
def execFaultResume (req : Req) (s : State) : Host.Outcome State Fault Refusal := .next (s.begin.busField req FLT_CTRL_RESUME 1)

/-- ERR_HOLD_RELEASE (R641). -/
def execErrHoldRelease (req : Req) (s : State) : Host.Outcome State Fault Refusal :=
  .next (s.begin.busField req FLT_CTRL_ERR_HOLD 0)

/-- FAULT_FORCE (R637). -/
def execFaultForce (req : Req) (n : Fin 128) (s : State) : Host.Outcome State Fault Refusal :=
  .next (s.begin.busField req (FLT_CFG_FORCE n) 1)

/-- SEV_WRITE (R636). -/
def execSevWrite (req : Req) (n : Fin 128) (sev : BitVec 3) (s : State) : Host.Outcome State Fault Refusal :=
  .next (s.begin.busField req (FLT_CFG_SEV n) sev.toNat)

/-- FLT_SRC_CLEAR (R631). -/
def execFltSrcClear (req : Req) (n : Fin 128) (v : Word) (s : State) : Host.Outcome State Fault Refusal :=
  .next (s.begin.busReg req (FLT_SRC n) v)

/-- FUSE_PROGRAM (R647). -/
def execFuseProgram (req : Req) (v : Word) (s : State) : Host.Outcome State Fault Refusal :=
  .next (s.begin.busReg req SEC_FPROG (putBits v 16 16 1))

/-- TOKEN_CHECK (R650). -/
def execTokenCheck (req : Req) (op : BitVec 5) (s : State) : Host.Outcome State Fault Refusal :=
  .next (s.begin.busReg req SEC_TOK_CTRL (BitVec.ofNat 32 (op.toNat + 256)))

/-- IMAGE_LOAD (R652). -/
def execImageLoad (req : Req) (e : Fin 16) (s : State) : Host.Outcome State Fault Refusal :=
  .next (s.begin.busReg req SEC_LD_CTRL (BitVec.ofNat 32 (e + 256)))

/-- PROVISION (R659). -/
def execProvision (req : Req) (s : State) : Host.Outcome State Fault Refusal := .next (s.begin.busField req GEO_CMD_PROVISION 1)

/-- GEO_UNLOCK (R660). -/
def execGeoUnlock (req : Req) (s : State) : Host.Outcome State Fault Refusal := .next (s.begin.busField req GEO_CMD_UNLOCK 1)

/-- CLASSC (R656). -/
def execClassc (req : Req) (s : State) : Host.Outcome State Fault Refusal := .next (s.begin.busField req GEO_CMD_CLASSC 1)

/-- LEDGER_OPEN (R672). -/
def execLedgerOpen (req : Req) (s : State) : Host.Outcome State Fault Refusal := .next (s.begin.busField req LG_CTRL_OPEN 1)

/-- LEDGER_CLOSE (R674). -/
def execLedgerClose (req : Req) (s : State) : Host.Outcome State Fault Refusal := .next (s.begin.busField req LG_CTRL_CLOSE 1)

/-- LG_RING_HI_WRITE (R670). -/
def execLgRingHiWrite (req : Req) (v : Word) (s : State) : Host.Outcome State Fault Refusal :=
  .next (s.begin.busReg req LG_RING_HI v)

/-- TWIN_ENABLE (R690). -/
def execTwinEnable (req : Req) (s : State) : Host.Outcome State Fault Refusal := .next (s.begin.busField req TWIN_CFG_EN 1)

/-- TWIN_SWITCH (R693). -/
def execTwinSwitch (req : Req) (s : State) : Host.Outcome State Fault Refusal := .next (s.begin.busField req TWIN_CTRL_SWITCH 1)

/-- TWIN_REJOIN (R705). -/
def execTwinRejoin (req : Req) (s : State) : Host.Outcome State Fault Refusal := .next (s.begin.busField req TWIN_CTRL_REJOIN 1)

/-- DEBUG_UNLOCK (R714). -/
def execDebugUnlock (req : Req) (s : State) : Host.Outcome State Fault Refusal := .next (s.begin.busField req DBG_CTRL_UNLOCK 1)

/-- DEBUG_LOCK (R715). -/
def execDebugLock (req : Req) (s : State) : Host.Outcome State Fault Refusal := .next (s.begin.busField req DBG_CTRL_LOCK 1)

/-- BENCH (R717). -/
def execBench (req : Req) (s : State) : Host.Outcome State Fault Refusal := .next (s.begin.busField req DBG_CTRL_BENCH 1)

/-- FREEZE (R718). -/
def execFreeze (req : Req) (s : State) : Host.Outcome State Fault Refusal := .next (s.begin.busField req DBG_CTRL_FREEZE 1)

/-- DEBUG_RESUME (R726). -/
def execDebugResume (req : Req) (s : State) : Host.Outcome State Fault Refusal := .next (s.begin.busField req DBG_CTRL_RESUME 1)

/-- DBGACC (R723). -/
def execDbgacc (write : Bool) (addr : Nat) (v : Word) (s : State) : Host.Outcome State Fault Refusal :=
  .next (s.begin.dbgAcc write addr v)

/-- MWIN_DATA_READ (R724). -/
def execMwinDataRead (req : Req) (s : State) : Host.Outcome State Fault Refusal := .next (s.begin.busAnswer req DBG_MWIN_DATA 4)

/-- MWIN_DATA_WRITE (R724). -/
def execMwinDataWrite (req : Req) (v : Word) (s : State) : Host.Outcome State Fault Refusal :=
  .next (s.begin.busReg req DBG_MWIN_DATA v)

end Sys2Proof.Machine
end

