-- ==== Sys2Proof/Machine/XaoneCore.lean ====
section
/-!
DEFINITION. XaoneCore.lean: how an engine executes an instruction: the words of Tables 5.2 and 5.3, what an instruction asks of the
controller and does to its engine, CSRs, the store buffer, device loads, fences, stalls, and the lockstep pair (05_xaone_isa.md R13, R14,
R146 to R151, R154, R159 to R163, R182, R190; 06_jobs_ordering.md Table 6.7).
-/

namespace Sys2Proof.Machine
open Reg Fld

/-! Instruction words (Tables 5.2 and 5.3), for TVAL of an illegal instruction -/

/-- Format A. -/
def encA (op : Nat) (rd rs1 rs2 : Fin 32) (sh : BitVec 5) : Word :=
  BitVec.ofNat 32 (rd.val * 2 ^ 21 + rs1.val * 2 ^ 16 + rs2.val * 2 ^ 11 + op * 32 + sh.toNat)

/-- Format I; format B has rs1 and rs2 in the places of rd and rs1. -/
def encI (op : Nat) (rd rs1 : Fin 32) (imm : BitVec 16) : Word :=
  BitVec.ofNat 32 (op * 2 ^ 26 + rd.val * 2 ^ 21 + rs1.val * 2 ^ 16 + imm.toNat)

/-- Format J. -/
def encJ (op : Nat) (off : BitVec 26) : Word := BitVec.ofNat 32 (op * 2 ^ 26 + off.toNat)

/-- Format S. -/
def encS (sub : Nat) (z : BitVec 20) : Word := BitVec.ofNat 32 (0x3F * 2 ^ 26 + sub * 2 ^ 20 + z.toNat)

/-- Format S with layout S-R. -/
def encR (sub : Nat) (rd rs1 rs2 aux : Fin 32) : Word :=
  BitVec.ofNat 32 (0x3F * 2 ^ 26 + sub * 2 ^ 20 + rd.val * 2 ^ 15 + rs1.val * 2 ^ 10 + rs2.val * 32 + aux.val)

/-! Plans -/

/-- What an instruction asks of the controller: it leaves the engine, for the SPE pair once (R154). -/
inductive XReq where
  | none
  | load (a n : Nat)
  | store (a : Nat) (bytes : List Byte)
  | nzld (n : Nat)
  | nzst (n v : Nat)
  | nzcas (n cmp new : Nat)
  | lissue (bytes : List Byte)
  | lgput (bytes : List Byte)
  | cswap (n : Nat)
  | emit (q : Nat) (v : DWord)
  | fenceD
  | fenceH
  | fenceL
  | halt
deriving DecidableEq, Repr

/-- What an instruction does to its own engine: general registers, CSRs, DMEM, PC, IN_TRAP, a latch of an event, the mailbox, the
draw of a free value, the halt. -/
inductive XAct where
  | reg (r : Nat) (v : Word)
  | csr (n : Nat) (v : Word)
  | dmem (off : Nat) (bytes : List Byte)
  | jump (pc : BitVec 16)
  | endTrap
  | clear (ev : Nat)
  | pop
  | draw
  | halt
deriving DecidableEq, Repr

/-- What an instruction comes to on one copy of its engine: a trap, a wait for its event, or a request and what follows its answer. -/
inductive XPlan where
  | trap (cause : Nat) (tval : Word)
  | wait
  | act (req : XReq) (k : List Word → List XAct)

/-- What the controller answers: not yet, a trap, or words. -/
inductive XGot where
  | stall
  | err (cause : Nat) (tval : Word)
  | data (ws : List Word)
deriving DecidableEq, Repr

/-- A plan that asks for nothing. -/
def XPlan.pure (l : List XAct) : XPlan := .act .none fun _ => l

/-- R163: an instruction word that is not legal traps with ILLEGAL. -/
def XPlan.legal (ok : Bool) (w : Word) (p : XPlan) : XPlan := if ok then p else .trap 1 w

/-- Word i of an answer. -/
def XGot.word (ws : List Word) (i : Nat) : Word := ws.getD i 0

/-! CSRs (Table 5.1) -/

/-- Engine cycles since START. -/
def State.xCycles (s : State) (c : Nat) : Nat :=
  let x := s.eng c
  ((if x.suspended then x.parkTb else s.tb) - x.startTb) / xCycle c

/-- What a CSR reads; none where Table 5.1 has no such number (R160). WO CSRs read 0. -/
def State.csr? (s : State) (c n : Nat) : Option Word :=
  let x := s.eng c
  let w (v : Nat) : Option Word := some (BitVec.ofNat 32 v)
  if n = 0x000 then w (xReq c + 16 * xRole c)
  else if n = 0x001 then w (s.xCycles c)
  else if n = 0x002 then w (s.xCycles c / 0x100000000)
  else if n = 0x003 then w s.tb
  else if n = 0x004 then w (s.tb / 0x100000000)
  else if n = 0x010 then some x.status
  else if n = 0x011 then some x.tvec
  else if n = 0x012 then some x.tpc
  else if n = 0x013 then some x.tcause
  else if n = 0x014 then some x.tval
  else if n = 0x015 then some x.tscratch
  else if n = 0x020 then w x.wdogLoad.toNat
  else if n = 0x021 then w 0
  else if n = 0x022 then w (x.wdogCount s.tb)
  else if n = 0x030 then w x.timer.toNat
  else if n = 0x031 then w (x.timer.toNat / 0x100000000)
  else if 0x040 ≤ n && n < 0x048 then
    let v : Word := x.pendingEv.extractLsb' (32 * (n - 0x040)) 32
    some (if n = 0x040 then putBits v 0 0 (b2n (x.pending 0)) else v)
  else if 0x048 ≤ n && n < 0x050 then w 0
  else if n = 0x050 then w x.mailbox.length
  else none

/-- Clear the latches of EV_CLR[k]; event 0 has none (R179). -/
def Engine.evClear (k : Nat) (v : Word) (x : Engine) : Engine :=
  { x with pendingEv := x.pendingEv &&& ~~~((v.zeroExtend 256) <<< (32 * k)) }

/-- A write of a CSR; writes of RO CSRs are ignored (R161). TIMER loads both halves at the write of TIMER_HI (R118). -/
def Engine.csrWrite (tb n : Nat) (v : Word) (x : Engine) : Engine :=
  if n = 0x010 then { x with status := (x.status &&& ~~~2) ||| (v &&& 2) }
  else if n = 0x011 then { x with tvec := v &&& 0xFFFFFFFC }
  else if n = 0x012 then { x with tpc := v }
  else if n = 0x015 then { x with tscratch := v }
  else if n = 0x020 then { x with wdogLoad := v.extractLsb' 0 16 }
  else if n = 0x021 then x.kick tb
  else if n = 0x030 then { x with timerStage := v }
  else if n = 0x031 then { x with timer := v ++ x.timerStage, timerStage := 0, timerDone := false }
  else if 0x048 ≤ n && n < 0x050 then x.evClear (n - 0x048) v
  else x

/-- CSRM's value: rs1 as a masked write to one half (R114, R167). -/
def csrMasked (high : Bool) (old v : Word) : Word :=
  let sh := if high then 16 else 0
  let m : Word := (v >>> 16) <<< sh
  let d : Word := (v &&& 0xFFFF) <<< sh
  (old &&& ~~~m) ||| (d &&& m)

/-! What an instruction does to its engine -/

/-- One act on copy c. -/
def State.xAct (c : Nat) (s : State) (a : XAct) : State :=
  match a with
  | .reg r v => s.modEng c (·.setG r v)
  | .csr n v => s.modEng c (Engine.csrWrite s.tb n v)
  | .dmem off bs => s.writeMem (dmemBase c + off) bs
  | .jump pc => s.modEng c fun x => { x with pc := pc }
  | .endTrap => s.modEng c fun x => { x with status := x.status &&& ~~~1 }
  | .clear ev => s.modEng c (·.clearEv ev)
  | .pop => s.modEng c fun x => { x with mailbox := x.mailbox.drop 1 }
  | .draw => { s with free := s.free + 1 }
  | .halt => s.modEng c (Engine.halt s.tb 1)

/-- The instruction retires on copy c: the next PC, then its acts; the watchdog counts on from here. -/
def State.xRetire (c : Nat) (l : List XAct) (s : State) : State :=
  let s := s.modEng c fun x => { x with pc := toPc ((x.pc.zeroExtend 32 : Word) + 4), stall := none }
  (l.foldl (State.xAct c) s).modEng c (Engine.wdogSync s.tb)

/-- The instruction stalls on copy c: which, since when, and the lines issued so far (R150, R151, R220). -/
def State.xStall (i : Instr) (s : State) (c : Nat) : State :=
  s.modEng c fun x =>
    Engine.wdogSync s.tb
      (if x.stall.isSome then x else { x with stall := some i, stallAt := s.tb, fenceMark := s.issueSeq })

/-- The copies of the pair differ: source 1, and both halt with cause 4 (R14, R157). -/
def State.lockstep (s : State) : State :=
  ((s.modEng 14 (Engine.halt s.tb 4)).modEng 15 (Engine.halt s.tb 4)).raise 1 0

/-! Device stores (R111, R113, R151, R154, R159) -/

/-- Offset and requester of a dropped store (R634). -/
def xInfo (e a : Nat) : Nat := a % 0x1000000 + e * 0x1000000

/-- May the engine reach DDR: the SPE pair in PARKED may not (R64)? Other accesses of DDR (BAR2, DMA, the image loader, the scrubber) are served in
PARKED as in IDLE, which the spec leaves open (DESIGN CHOICE, log 110). -/
def State.ddrUp (s : State) (e : Nat) : Bool := !(14 ≤ e && s.b SYS_PWR_CTRL_PARKED)

/-- A posted store takes effect. -/
def State.storeTakes (e : Nat) (s : State) (p : Posted) : State :=
  if p.nozzle then s.writeNozzle p.addr (ofLe p.bytes)
  else if p.addr < 0x1000000 then s.busStore e p.addr p.bytes
  else if 0x100000000 ≤ p.addr then
    let d := p.addr - 0x100000000
    if d + p.bytes.length ≤ s.installed && s.ddrUp e then s.deviceWrite d p.bytes
    else s.raise 20 (xInfo e (0x80000000 + d - (s.eng e).apBase))
  else s.raise 20 (xInfo e p.addr)

/-- The oldest posted store of an engine drains. -/
def State.drainOne (e : Nat) (s : State) : State :=
  match (s.eng e).storeBuf with
  | [] => s
  | p :: rest => (s.modEng e fun x => { x with storeBuf := rest }).storeTakes e p

/-- Stores drain in order, `n` at most. -/
def State.drainStores (e : Nat) : Nat → State → State
  | 0, s => s
  | n + 1, s => State.drainStores e n (s.drainOne e)

/-- Every posted store of an engine drains. -/
def State.drainAll (s : State) (e : Nat) : State := State.drainStores e (s.eng e).storeBuf.length s

/-- Room in the store buffer: 16 entries. -/
def State.post (e : Nat) (p : Posted) (s : State) : State × XGot :=
  if (s.eng e).storeBuf.length < 16 then
    (s.modEng e fun x => { x with storeBuf := x.storeBuf ++ [p] }, .data [])
  else (s, .stall)

/-! Device loads (R107, R113, R150, R159, Table 7.9) -/

/-- Is a BAR0 offset that an engine loads `n` bytes from mapped: in a register block the word that holds it, in a memory window every byte
(Table 4.1, R113)? -/
def barMapped (a n : Nat) : Bool := if windowRange a then windowAll a n else (rowOf (a / 4 * 4)).isSome

/-- Can a device load of `n` bytes return data: not where the address is unmapped or beyond installed DDR? -/
def State.loadOk (e a n : Nat) (s : State) : Bool :=
  (a < 0x1000000 && barMapped a n) ||
  (0x80000000 ≤ a && (s.eng e).apBase + (a - 0x80000000) + n ≤ s.installed && s.ddrUp e)

/-- The data of a device load comes back: a poisoned beat traps instead. -/
def State.loadTakes (e a n : Nat) (s : State) : State × XGot :=
  if a < 0x1000000 then
    let r := s.busRead e a n
    let lane := if r.2.length = n then r.2 else (r.2.drop (a % 4)).take n
    (r.1, .data [BitVec.ofNat 32 (ofLe lane)])
  else
    let d := (s.eng e).apBase + (a - 0x80000000)
    (s.eccRead d n, if s.badBeats d n = [] then .data [BitVec.ofNat 32 (ofLe (s.readMem d n))] else .err 3 (BitVec.ofNat 32 a))

/-! Ledger input, line issue, mailboxes -/

/-- May an engine append a record of this TYPE (Table 18.7)? -/
def lgType (e t : Nat) : Bool := (0x200 ≤ t && t ≤ 0x2FF) || (14 ≤ e && 0x100 ≤ t && t ≤ 0x1FF)

/-- LGPUT: the record enters the chain after the ledger's own records of the cycle, or the first code of Table 18.9 that applies; code 5
has no regard to room (R175, R663 to R665, R671, R676). -/
def State.ledgerPut (e : Nat) (r : List Byte) (s : State) : State × Nat :=
  let s := State.acceptAll (s.ledger.own.length + s.ledger.nozzle.length + 2) s
  let t := leAt r 0 2
  if !s.ledger.isOpen || s.ledger.closing then (s, 1)
  else if !(lgType e t) then (s, 2)
  else if !s.ledger.markFail && ledgerCap ≤ s.ledger.buffer.length then (s, 3)
  else if slice r 2 1 ≠ [1] || !(allZero (slice r 3 1)) || !(allZero (slice r 8 24)) then (s, 4)
  else if s.ledger.markFail then (s, 5)
  else
    let s := s.blowMark
    if s.ledger.markFail then (s, 5)
    else
      let s := if s.geode.next % 1024 = 1023 then s.checkpoint.blowMark else s
      if s.ledger.markFail then (s, 5)
      else if ledgerCap ≤ s.ledger.buffer.length then (s, 3)
      else (s.chain ⟨t, leAt r 4 4, e, slice r 32 96, none⟩, 0)

/-- The line-issue queue of an FSE. -/
def State.lineQueue (s : State) (e : Nat) : List LineDesc := Map.get (fun _ => []) s.issueQ e

/-- A line descriptor enters the queue of 64 (R174). -/
def State.issueLine (e : Nat) (bs : List Byte) (s : State) : State × XGot :=
  let q := s.lineQueue e
  if q.length < 64 then
    ({ s with issueQ := Map.set (fun _ => []) s.issueQ e (q ++ [⟨s.issueSeq, bs⟩]), issueSeq := s.issueSeq + 1 }, .data [])
  else (s, .stall)

/-- A word is pushed into the mailbox of engine q, of both copies for 14; 16 words fill it (R178). -/
def State.mail (q : Nat) (v : DWord) (s : State) : State × XGot :=
  if (s.eng q).mailbox.length < 16 then
    (s.forEach (xCopies q) fun s c => s.modEng c fun x => { x with mailbox := x.mailbox ++ [v] }, .data [])
  else (s, .stall)

/-! Fences (Table 6.7, R221, R222) -/

/-- Since when the fence has stalled: now, where it has not yet. -/
def State.fenceSince (s : State) (e : Nat) : Nat := if (s.eng e).stall.isSome then (s.eng e).stallAt else s.tb

/-- The lines issued when the fence issued. -/
def State.fenceLines (s : State) (e : Nat) : Nat := if (s.eng e).stall.isSome then (s.eng e).fenceMark else s.issueSeq

/-- FENCE.H: no completion record released before and no item record of a replay job begun before waits, or the link is down. -/
def State.fenceHDone (s : State) (e : Nat) : Bool :=
  !s.b PCIE_LINK_STAT_LINK_UP || (s.waitingCpl.all fun w => s.fenceSince e < w.2.2) && (s.replayOut.all fun w => s.fenceSince e < w.tb)

/-- FENCE.L: no line issued before is queued or taken and not fired, its own on an FSE; or firing is inhibited (R221, R222, R307). -/
def State.fenceLDone (s : State) (e : Nat) : Bool :=
  let m := s.fenceLines e
  s.inSafe ||
  ((s.issueQ.all fun q => (e < 8 && q.1 ≠ e) || q.2.all fun l => m ≤ l.seq) &&
   s.taken.all fun t => (e < 8 && t.pipe ≠ e) || m ≤ t.seq || s.hasFired t)

/-! Serving a request -/

/-- Serve a request of engine e; `back` says that the data of a device load, NZLD or NZCAS has come back (R150, R170 to R178).
LISSUE, LGPUT, CSWAP and EMIT take effect at once, ahead of device stores still posted (DESIGN CHOICE, log 84). -/
def State.serve (back : Bool) (e : Nat) (r : XReq) (s : State) : State × XGot :=
  match r with
  | .none => (s, .data [])
  | .load a n =>
    if !(State.loadOk e a n s) then (s, .err 3 (BitVec.ofNat 32 a))
    else if back then s.loadTakes e a n
    else (s, .stall)
  | .store a bs =>
    State.post e { addr := if 0x80000000 ≤ a then 0x100000000 + (s.eng e).apBase + (a - 0x80000000) else a, bytes := bs } s
  | .nzld n => if back then (s, .data [BitVec.ofNat 32 (s.nozzle n), BitVec.ofNat 32 (s.nozzle n / 0x100000000)]) else (s, .stall)
  | .nzst n v => State.post e { addr := n, bytes := leBytes 8 v, nozzle := true } s
  | .nzcas n cmp new =>
    if back then
      let v := s.nozzle n
      let ok := v % 0x8000000000000000 = cmp % 0x8000000000000000
      (if ok then s.writeNozzle n new else s,
       .data [BitVec.ofNat 32 v, BitVec.ofNat 32 (v / 0x100000000), BitVec.ofNat 32 (b2n ok)])
    else (s, .stall)
  | .lissue bs => s.issueLine e bs
  | .lgput bs =>
    let p := s.ledgerPut e bs
    (p.1, .data [BitVec.ofNat 32 p.2])
  | .cswap n =>
    let p := s.armSet n (some e)
    (p.1, .data [BitVec.ofNat 32 p.2])
  | .emit q v => s.mail q v
  | .fenceD => (s, if (s.eng e).storeBuf = [] then .data [] else .stall)
  | .fenceH => (s, if s.fenceHDone e then .data [] else .stall)
  | .fenceL => (s, if s.fenceLDone e then .data [] else .stall)
  | .halt => (s, if (s.eng e).storeBuf = [] then .data [] else .stall)

/-! Executing an instruction -/

/-- The fetch check comes first: a page not locked as signed traps with SIGNED_PAGE (R183, R190). -/
def State.fetched (p : State → Nat → XPlan) (s : State) (c : Nat) : XPlan :=
  let pc := (s.eng c).pc
  if bitAt (s.f (ENG_SIGPAGES_LOCKED (xReq c))) (pc.toNat / 4096) then p s c else .trap 4 (pc.zeroExtend 32)

/-- Every copy takes a trap. -/
def State.xTrapAll (e cause : Nat) (tval : Word) (s : State) : State :=
  s.forEach (xCopies e) fun s c => s.xTrap c cause tval

/-- Every copy stalls. -/
def State.xStallAll (e : Nat) (i : Instr) (s : State) : State := s.forEach (xCopies e) (State.xStall i)

/-- Do the plans of two copies differ before an answer? -/
def XPlan.differs : XPlan → XPlan → Bool
  | .trap a v, .trap b w => decide (a ≠ b) || decide (v ≠ w)
  | .wait, .wait => false
  | .act r _, .act q _ => decide (r ≠ q)
  | _, _ => true

/-- What follows the answer. -/
def XPlan.acts (ws : List Word) : XPlan → List XAct
  | .act _ k => k ws
  | _ => []

/-- Execute an instruction of engine e on its copies; `back` as in serve. -/
def State.perform (back : Bool) (e : Nat) (i : Instr) (p : State → Nat → XPlan) (s : State) : State :=
  let e := xReq e
  let p0 := State.fetched p s e
  let other := State.fetched p s 15
  let pair := decide (14 ≤ e)
  if pair && p0.differs other then s.lockstep
  else match p0 with
    | .trap c v => s.xTrapAll e c v
    | .wait => s.xStallAll e i
    | .act r k =>
      match State.serve back e r s with
      | (s, .stall) => s.xStallAll e i
      | (s, .err c v) => s.xTrapAll e c v
      | (s, .data ws) =>
        if pair && decide (k ws ≠ other.acts ws) then s.lockstep
        else s.forEach (xCopies e) fun s c => s.xRetire c (k ws)

/-- Is the engine able to execute: running, not suspended by PARKED, and its clocks running? -/
def State.xUp (s : State) (e : Nat) : Bool :=
  (s.eng (xReq e)).running && !(s.eng (xReq e)).suspended && !s.asleep

/-- An instruction issues in an engine that is not stalled (R149). -/
def State.issue (e : Nat) (i : Instr) (p : State → Nat → XPlan) (s : State) : State :=
  if s.xUp e && (s.eng (xReq e)).stall = none then s.perform false e i p else s

/-- The engine meets its STOP at the instruction boundary after a device load, or after a FENCE.L that a STOP does not interrupt (R158, R222). -/
def State.stopDue (s : State) (e : Nat) : State :=
  s.when ((s.eng e).stopAsked && (s.eng e).stall = none) (·.modEng e (Engine.halt s.tb 2))

end Sys2Proof.Machine
end

