-- ==== Sys2Proof/Machine/XaoneAlu.lean ====
section
/-!
DEFINITION. XaoneAlu.lean: arithmetic, logic, shifts and comparisons, register and immediate (05_xaone_isa.md Tables 5.4 and 5.5, R166).
-/

namespace Sys2Proof.Machine
open Reg Fld

/-- An operation of Table 5.4 other than MULQ: sh must be 0 (R163, R166). -/
def planA (op : Nat) (f : Word → Word → Word) (rd rs1 rs2 : Fin 32) (sh : BitVec 5) (s : State) (c : Nat) : XPlan :=
  .legal (sh = 0) (encA op rd rs1 rs2 sh) (.pure [.reg rd (f (s.g c rs1) (s.g c rs2))])

/-- An operation of Table 5.5 on a register and imm16, legal where `ok` says so (R163). -/
def planI (op : Nat) (f : Word → BitVec 16 → Word) (ok : Bool) (rd rs1 : Fin 32) (imm : BitVec 16) (s : State) (c : Nat) : XPlan :=
  .legal ok (encI op rd rs1 imm) (.pure [.reg rd (f (s.g c rs1) imm)])

/-- A shift by imm[4:0]: imm[15:5] must be 0. -/
def planShift (op : Nat) (f : Word → Nat → Word) (rd rs1 : Fin 32) (imm : BitVec 16) (s : State) (c : Nat) : XPlan :=
  planI op (fun a i => f a (i.toNat % 32)) (imm.toNat < 32) rd rs1 imm s c

/-- 1 where a comparison holds. -/
def wordOf (b : Bool) : Word := if b then 1 else 0

/-- Bits 63:32 of the signed product. -/
def mulHigh (a b : Word) : Word := BitVec.ofInt 32 (a.toInt * b.toInt / 0x100000000)

/-- Bits 63:32 of the unsigned product. -/
def mulHighU (a b : Word) : Word := BitVec.ofNat 32 (a.toNat * b.toNat / 0x100000000)

/-- MULQ (R166): the exact product, a half rounded up, an arithmetic shift, saturation to 32 bits. -/
def mulQ (a b : Word) (sh : Nat) : Word :=
  let p := a.toInt * b.toInt + (if sh = 0 then 0 else ((2 ^ (sh - 1) : Nat) : Int))
  BitVec.ofInt 32 (satS 32 (asr p sh))

/-- ADD (Table 5.4). -/
def execAdd (e : Fin 16) (rd rs1 rs2 : Fin 32) (sh : BitVec 5) (s : State) : Host.Outcome State Fault Refusal :=
  .next (s.begin.issue e (.add e rd rs1 rs2 sh) (planA 0 (· + ·) rd rs1 rs2 sh))

/-- SUB (Table 5.4). -/
def execSub (e : Fin 16) (rd rs1 rs2 : Fin 32) (sh : BitVec 5) (s : State) : Host.Outcome State Fault Refusal :=
  .next (s.begin.issue e (.sub e rd rs1 rs2 sh) (planA 1 (· - ·) rd rs1 rs2 sh))

/-- AND (Table 5.4). -/
def execAnd (e : Fin 16) (rd rs1 rs2 : Fin 32) (sh : BitVec 5) (s : State) : Host.Outcome State Fault Refusal :=
  .next (s.begin.issue e (.and e rd rs1 rs2 sh) (planA 2 (· &&& ·) rd rs1 rs2 sh))

/-- OR (Table 5.4). -/
def execOr (e : Fin 16) (rd rs1 rs2 : Fin 32) (sh : BitVec 5) (s : State) : Host.Outcome State Fault Refusal :=
  .next (s.begin.issue e (.or e rd rs1 rs2 sh) (planA 3 (· ||| ·) rd rs1 rs2 sh))

/-- XOR (Table 5.4). -/
def execXor (e : Fin 16) (rd rs1 rs2 : Fin 32) (sh : BitVec 5) (s : State) : Host.Outcome State Fault Refusal :=
  .next (s.begin.issue e (.xor e rd rs1 rs2 sh) (planA 4 (· ^^^ ·) rd rs1 rs2 sh))

/-- SLL (Table 5.4). -/
def execSll (e : Fin 16) (rd rs1 rs2 : Fin 32) (sh : BitVec 5) (s : State) : Host.Outcome State Fault Refusal :=
  .next (s.begin.issue e (.sll e rd rs1 rs2 sh) (planA 5 (fun a b => a <<< (b.toNat % 32)) rd rs1 rs2 sh))

/-- SRL (Table 5.4). -/
def execSrl (e : Fin 16) (rd rs1 rs2 : Fin 32) (sh : BitVec 5) (s : State) : Host.Outcome State Fault Refusal :=
  .next (s.begin.issue e (.srl e rd rs1 rs2 sh) (planA 6 (fun a b => a >>> (b.toNat % 32)) rd rs1 rs2 sh))

/-- SRA (Table 5.4). -/
def execSra (e : Fin 16) (rd rs1 rs2 : Fin 32) (sh : BitVec 5) (s : State) : Host.Outcome State Fault Refusal :=
  .next (s.begin.issue e (.sra e rd rs1 rs2 sh) (planA 7 (fun a b => a.sshiftRight (b.toNat % 32)) rd rs1 rs2 sh))

/-- SLT (Table 5.4). -/
def execSlt (e : Fin 16) (rd rs1 rs2 : Fin 32) (sh : BitVec 5) (s : State) : Host.Outcome State Fault Refusal :=
  .next (s.begin.issue e (.slt e rd rs1 rs2 sh) (planA 8 (fun a b => wordOf (a.slt b)) rd rs1 rs2 sh))

/-- SLTU (Table 5.4). -/
def execSltu (e : Fin 16) (rd rs1 rs2 : Fin 32) (sh : BitVec 5) (s : State) : Host.Outcome State Fault Refusal :=
  .next (s.begin.issue e (.sltu e rd rs1 rs2 sh) (planA 9 (fun a b => wordOf (a.ult b)) rd rs1 rs2 sh))

/-- MUL (Table 5.4). -/
def execMul (e : Fin 16) (rd rs1 rs2 : Fin 32) (sh : BitVec 5) (s : State) : Host.Outcome State Fault Refusal :=
  .next (s.begin.issue e (.mul e rd rs1 rs2 sh) (planA 16 (· * ·) rd rs1 rs2 sh))

/-- MULH (Table 5.4). -/
def execMulh (e : Fin 16) (rd rs1 rs2 : Fin 32) (sh : BitVec 5) (s : State) : Host.Outcome State Fault Refusal :=
  .next (s.begin.issue e (.mulh e rd rs1 rs2 sh) (planA 17 mulHigh rd rs1 rs2 sh))

/-- MULHU (Table 5.4). -/
def execMulhu (e : Fin 16) (rd rs1 rs2 : Fin 32) (sh : BitVec 5) (s : State) : Host.Outcome State Fault Refusal :=
  .next (s.begin.issue e (.mulhu e rd rs1 rs2 sh) (planA 18 mulHighU rd rs1 rs2 sh))

/-- MULQ (R166). -/
def execMulq (e : Fin 16) (rd rs1 rs2 : Fin 32) (sh : BitVec 5) (s : State) : Host.Outcome State Fault Refusal :=
  .next (s.begin.issue e (.mulq e rd rs1 rs2 sh) fun s c => .pure [.reg rd (mulQ (s.g c rs1) (s.g c rs2) sh.toNat)])

/-- ADDI (Table 5.5). -/
def execAddi (e : Fin 16) (rd rs1 : Fin 32) (imm : BitVec 16) (s : State) : Host.Outcome State Fault Refusal :=
  .next (s.begin.issue e (.addi e rd rs1 imm) (planI 1 (fun a i => a + sext16 i) true rd rs1 imm))

/-- ANDI (Table 5.5). -/
def execAndi (e : Fin 16) (rd rs1 : Fin 32) (imm : BitVec 16) (s : State) : Host.Outcome State Fault Refusal :=
  .next (s.begin.issue e (.andi e rd rs1 imm) (planI 2 (fun a i => a &&& zext16 i) true rd rs1 imm))

/-- ORI (Table 5.5). -/
def execOri (e : Fin 16) (rd rs1 : Fin 32) (imm : BitVec 16) (s : State) : Host.Outcome State Fault Refusal :=
  .next (s.begin.issue e (.ori e rd rs1 imm) (planI 3 (fun a i => a ||| zext16 i) true rd rs1 imm))

/-- XORI (Table 5.5). -/
def execXori (e : Fin 16) (rd rs1 : Fin 32) (imm : BitVec 16) (s : State) : Host.Outcome State Fault Refusal :=
  .next (s.begin.issue e (.xori e rd rs1 imm) (planI 4 (fun a i => a ^^^ zext16 i) true rd rs1 imm))

/-- SLTI (Table 5.5). -/
def execSlti (e : Fin 16) (rd rs1 : Fin 32) (imm : BitVec 16) (s : State) : Host.Outcome State Fault Refusal :=
  .next (s.begin.issue e (.slti e rd rs1 imm) (planI 5 (fun a i => wordOf (a.slt (sext16 i))) true rd rs1 imm))

/-- SLTIU (Table 5.5). -/
def execSltiu (e : Fin 16) (rd rs1 : Fin 32) (imm : BitVec 16) (s : State) : Host.Outcome State Fault Refusal :=
  .next (s.begin.issue e (.sltiu e rd rs1 imm) (planI 6 (fun a i => wordOf (a.ult (sext16 i))) true rd rs1 imm))

/-- SLLI (Table 5.5). -/
def execSlli (e : Fin 16) (rd rs1 : Fin 32) (imm : BitVec 16) (s : State) : Host.Outcome State Fault Refusal :=
  .next (s.begin.issue e (.slli e rd rs1 imm) (planShift 7 (· <<< ·) rd rs1 imm))

/-- SRLI (Table 5.5). -/
def execSrli (e : Fin 16) (rd rs1 : Fin 32) (imm : BitVec 16) (s : State) : Host.Outcome State Fault Refusal :=
  .next (s.begin.issue e (.srli e rd rs1 imm) (planShift 8 (· >>> ·) rd rs1 imm))

/-- SRAI (Table 5.5). -/
def execSrai (e : Fin 16) (rd rs1 : Fin 32) (imm : BitVec 16) (s : State) : Host.Outcome State Fault Refusal :=
  .next (s.begin.issue e (.srai e rd rs1 imm) (planShift 9 (·.sshiftRight ·) rd rs1 imm))

/-- LUI (Table 5.5): the rs1 field must be 0. -/
def execLui (e : Fin 16) (rd rs1 : Fin 32) (imm : BitVec 16) (s : State) : Host.Outcome State Fault Refusal :=
  .next (s.begin.issue e (.lui e rd rs1 imm) (planI 0x0A (fun _ i => zext16 i <<< 16) (rs1 = 0) rd rs1 imm))

end Sys2Proof.Machine
end

