-- ==== Sys2Proof/Machine/XaoneCtl.lean ====
section
/-!
DEFINITION. XaoneCtl.lean: calls, branches, CSR instructions, HALT, TRAP, RETT and WAIT (05_xaone_isa.md R165, R167, R169, R179, R181, R186;
Tables 5.5 to 5.7).
-/

namespace Sys2Proof.Machine
open Reg Fld

/-- The address of the instruction. -/
def State.pc (s : State) (c : Nat) : BitVec 16 := (s.eng c).pc

/-- The link address: PC + 4. -/
def State.linkPc (s : State) (c : Nat) : Word := (s.pc c).zeroExtend 32 + 4

/-- A branch of Table 5.6. -/
def planBranch (f : Word → Word → Bool) (rs1 rs2 : Fin 32) (off : BitVec 16) (s : State) (c : Nat) : XPlan :=
  .pure (if f (s.g c rs1) (s.g c rs2) then [.jump (branchTo (s.pc c) off.toInt)] else [])

/-- CALLR: the target's bits 1:0 must be 0. -/
def planCallr (rd rs1 : Fin 32) (imm : BitVec 16) (s : State) (c : Nat) : XPlan :=
  let t := s.g c rs1 + sext16 imm
  if t.toNat % 4 ≠ 0 then .trap 2 t else .pure [.reg rd (s.linkPc c), .jump (toPc t)]

/-- CSRR: rs1 and imm[15:12] must be 0 (R160, R163). -/
def planCsrr (rd rs1 : Fin 32) (imm : BitVec 16) (s : State) (c : Nat) : XPlan :=
  match s.csr? c (imm.toNat % 4096) with
  | some v => .legal (rs1 = 0 && imm.toNat < 4096) (encI 0x30 rd rs1 imm) (.pure [.reg rd v])
  | none => .trap 1 (encI 0x30 rd rs1 imm)

/-- CSRW: rd and imm[15:12] must be 0. -/
def planCsrw (rd rs1 : Fin 32) (imm : BitVec 16) (s : State) (c : Nat) : XPlan :=
  match s.csr? c (imm.toNat % 4096) with
  | some _ => .legal (rd = 0 && imm.toNat < 4096) (encI 0x31 rd rs1 imm) (.pure [.csr (imm.toNat % 4096) (s.g c rs1)])
  | none => .trap 1 (encI 0x31 rd rs1 imm)

/-- CSRM: imm[15:13] must be 0; a mask of 0 writes nothing (R115, R167). The bits of TIMER_LO that the mask leaves come from the TIMER in force,
not from a LO staged before (DESIGN CHOICE, log 98). -/
def planCsrm (rd rs1 : Fin 32) (imm : BitVec 16) (s : State) (c : Nat) : XPlan :=
  let n := imm.toNat % 4096
  let v := s.g c rs1
  match s.csr? c n with
  | some old =>
    .legal (imm.toNat < 8192) (encI 0x32 rd rs1 imm)
      (.pure ((if v.toNat < 65536 then [] else [XAct.csr n (csrMasked (bitAt imm.toNat 12) old v)]) ++ [.reg rd old]))
  | none => .trap 1 (encI 0x32 rd rs1 imm)

/-- A format S-N instruction: its operand bits must be 0. -/
def planN (sub : Nat) (z : BitVec 20) (p : XPlan) : XPlan := .legal (z = 0) (encS sub z) p

/-- HALT: once every posted store has drained. -/
def planHalt (z : BitVec 20) (_ : State) (_ : Nat) : XPlan := planN 1 z (.act .halt fun _ => [.halt])

/-- TRAP code: bits 19:16 must be 0. -/
def planTrap (z : BitVec 20) (_ : State) (_ : Nat) : XPlan :=
  .legal (z.toNat < 65536) (encS 2 z) (.trap 6 (BitVec.ofNat 32 z.toNat))

/-- RETT, in a trap or not (R186). -/
def planRett (z : BitVec 20) (s : State) (c : Nat) : XPlan := planN 3 z (.pure [.jump (toPc (s.eng c).tpc), .endTrap])

/-- WAIT ev: the latch of an edge event clears as it retires (R179, R181). -/
def planWait (z : BitVec 20) (s : State) (c : Nat) : XPlan :=
  let ev := z.toNat
  .legal (ev < 256 && eventFor (xRole c) ev) (encS 4 z)
    (if (s.eng c).pending ev then .pure (if ev = 0 then [] else [.clear ev]) else .wait)

/-- FENCE.E: the engine's own stores and CSR writes have taken effect already. -/
def planFenceE (z : BitVec 20) (_ : State) (_ : Nat) : XPlan := planN 8 z (.pure [])

/-- FENCE.D, FENCE.H, FENCE.L. -/
def planFence (sub : Nat) (r : XReq) (z : BitVec 20) (_ : State) (_ : Nat) : XPlan := planN sub z (.act r fun _ => [])

/-- CALLR (Table 5.5, R169). -/
def execCallr (e : Fin 16) (rd rs1 : Fin 32) (imm : BitVec 16) (s : State) : Host.Outcome State Fault Refusal :=
  .next (s.begin.issue e (.callr e rd rs1 imm) (planCallr rd rs1 imm))

/-- CSRR (Table 5.5). -/
def execCsrr (e : Fin 16) (rd rs1 : Fin 32) (imm : BitVec 16) (s : State) : Host.Outcome State Fault Refusal :=
  .next (s.begin.issue e (.csrr e rd rs1 imm) (planCsrr rd rs1 imm))

/-- CSRW (Table 5.5). -/
def execCsrw (e : Fin 16) (rd rs1 : Fin 32) (imm : BitVec 16) (s : State) : Host.Outcome State Fault Refusal :=
  .next (s.begin.issue e (.csrw e rd rs1 imm) (planCsrw rd rs1 imm))

/-- CSRM (R167). -/
def execCsrm (e : Fin 16) (rd rs1 : Fin 32) (imm : BitVec 16) (s : State) : Host.Outcome State Fault Refusal :=
  .next (s.begin.issue e (.csrm e rd rs1 imm) (planCsrm rd rs1 imm))

/-- BEQ (Table 5.6). -/
def execBeq (e : Fin 16) (rs1 rs2 : Fin 32) (off : BitVec 16) (s : State) : Host.Outcome State Fault Refusal :=
  .next (s.begin.issue e (.beq e rs1 rs2 off) (planBranch (fun a b => a = b) rs1 rs2 off))

/-- BNE (Table 5.6). -/
def execBne (e : Fin 16) (rs1 rs2 : Fin 32) (off : BitVec 16) (s : State) : Host.Outcome State Fault Refusal :=
  .next (s.begin.issue e (.bne e rs1 rs2 off) (planBranch (fun a b => a ≠ b) rs1 rs2 off))

/-- BLT (Table 5.6). -/
def execBlt (e : Fin 16) (rs1 rs2 : Fin 32) (off : BitVec 16) (s : State) : Host.Outcome State Fault Refusal :=
  .next (s.begin.issue e (.blt e rs1 rs2 off) (planBranch BitVec.slt rs1 rs2 off))

/-- BGE (Table 5.6). -/
def execBge (e : Fin 16) (rs1 rs2 : Fin 32) (off : BitVec 16) (s : State) : Host.Outcome State Fault Refusal :=
  .next (s.begin.issue e (.bge e rs1 rs2 off) (planBranch (fun a b => !(BitVec.slt a b)) rs1 rs2 off))

/-- BLTU (Table 5.6). -/
def execBltu (e : Fin 16) (rs1 rs2 : Fin 32) (off : BitVec 16) (s : State) : Host.Outcome State Fault Refusal :=
  .next (s.begin.issue e (.bltu e rs1 rs2 off) (planBranch BitVec.ult rs1 rs2 off))

/-- BGEU (Table 5.6). -/
def execBgeu (e : Fin 16) (rs1 rs2 : Fin 32) (off : BitVec 16) (s : State) : Host.Outcome State Fault Refusal :=
  .next (s.begin.issue e (.bgeu e rs1 rs2 off) (planBranch (fun a b => !(BitVec.ult a b)) rs1 rs2 off))

/-- J (Table 5.6). -/
def execJ (e : Fin 16) (off : BitVec 26) (s : State) : Host.Outcome State Fault Refusal :=
  .next (s.begin.issue e (.j e off) fun s c => .pure [.jump (branchTo (s.pc c) off.toInt)])

/-- CALL (Table 5.6). -/
def execCall (e : Fin 16) (off : BitVec 26) (s : State) : Host.Outcome State Fault Refusal :=
  .next (s.begin.issue e (.call e off) fun s c => .pure [.reg 31 (s.linkPc c), .jump (branchTo (s.pc c) off.toInt)])

/-- HALT (Table 5.7). -/
def execHalt (e : Fin 16) (z : BitVec 20) (s : State) : Host.Outcome State Fault Refusal :=
  .next (s.begin.issue e (.halt e z) (planHalt z))

/-- TRAP (Table 5.7). -/
def execTrap (e : Fin 16) (z : BitVec 20) (s : State) : Host.Outcome State Fault Refusal :=
  .next (s.begin.issue e (.trap e z) (planTrap z))

/-- RETT (Table 5.7). -/
def execRett (e : Fin 16) (z : BitVec 20) (s : State) : Host.Outcome State Fault Refusal :=
  .next (s.begin.issue e (.rett e z) (planRett z))

/-- WAIT (Table 5.7). -/
def execWait (e : Fin 16) (z : BitVec 20) (s : State) : Host.Outcome State Fault Refusal :=
  .next (s.begin.issue e (.wait e z) (planWait z))

/-- FENCE_E (Table 5.7). -/
def execFenceE (e : Fin 16) (z : BitVec 20) (s : State) : Host.Outcome State Fault Refusal :=
  .next (s.begin.issue e (.fenceE e z) (planFenceE z))

/-- FENCE_D (Table 5.7). -/
def execFenceD (e : Fin 16) (z : BitVec 20) (s : State) : Host.Outcome State Fault Refusal :=
  .next (s.begin.issue e (.fenceD e z) (planFence 9 .fenceD z))

/-- FENCE_H (Table 5.7). -/
def execFenceH (e : Fin 16) (z : BitVec 20) (s : State) : Host.Outcome State Fault Refusal :=
  .next (s.begin.issue e (.fenceH e z) (planFence 0x0A .fenceH z))

/-- FENCE_L (Table 5.7). -/
def execFenceL (e : Fin 16) (z : BitVec 20) (s : State) : Host.Outcome State Fault Refusal :=
  .next (s.begin.issue e (.fenceL e z) (planFence 0x0B .fenceL z))

end Sys2Proof.Machine
end

