-- ==== Sys2Proof/Machine/XaoneMem.lean ====
section
/-!
DEFINITION. XaoneMem.lean: loads and stores (05_xaone_isa.md R148, R150, R151, R164, R168, R187; Table 5.5).
-/

namespace Sys2Proof.Machine
open Reg Fld

/-- Is an address in the engine's own DMEM (R148)? -/
def ownDmem (a : Nat) : Bool := 0x10000000 ≤ a && a < 0x10020000

/-- A load of `n` bytes, extended by `ext`: from DMEM at once, from a device when its data returns; a misaligned address traps (R168). -/
def planLoad (n : Nat) (ext : Word → Word) (rd rs1 : Fin 32) (imm : BitVec 16) (s : State) (c : Nat) : XPlan :=
  let a := s.xAddr c rs1 imm
  if a % n ≠ 0 then .trap 2 (BitVec.ofNat 32 a)
  else if ownDmem a then
    .pure [.reg rd (ext (BitVec.ofNat 32 (ofLe (s.readMem (dmemBase c + (a - 0x10000000)) n))))]
  else .act (.load a n) fun ws => [.reg rd (ext (XGot.word ws 0))]

/-- A store of the low `n` bytes of g[rd]: to DMEM at once, else posted (R151, R164). -/
def planStore (n : Nat) (rd rs1 : Fin 32) (imm : BitVec 16) (s : State) (c : Nat) : XPlan :=
  let a := s.xAddr c rs1 imm
  let bs := leBytes n (s.g c rd).toNat
  if a % n ≠ 0 then .trap 2 (BitVec.ofNat 32 a)
  else if ownDmem a then .pure [.dmem (a - 0x10000000) bs]
  else .act (.store a bs) fun _ => []

/-- The low half-word, sign-extended. -/
def extH (v : Word) : Word := sext16 (v.extractLsb' 0 16)

/-- The low half-word, zero-extended. -/
def extHU (v : Word) : Word := zext16 (v.extractLsb' 0 16)

/-- The low byte, sign-extended. -/
def extB (v : Word) : Word := (v.extractLsb' 0 8).signExtend 32

/-- The low byte, zero-extended. -/
def extBU (v : Word) : Word := (v.extractLsb' 0 8).zeroExtend 32

/-- LW (Table 5.5). -/
def execLw (e : Fin 16) (rd rs1 : Fin 32) (imm : BitVec 16) (s : State) : Host.Outcome State Fault Refusal :=
  .next (s.begin.issue e (.lw e rd rs1 imm) (planLoad 4 id rd rs1 imm))

/-- LH (Table 5.5). -/
def execLh (e : Fin 16) (rd rs1 : Fin 32) (imm : BitVec 16) (s : State) : Host.Outcome State Fault Refusal :=
  .next (s.begin.issue e (.lh e rd rs1 imm) (planLoad 2 extH rd rs1 imm))

/-- LHU (Table 5.5). -/
def execLhu (e : Fin 16) (rd rs1 : Fin 32) (imm : BitVec 16) (s : State) : Host.Outcome State Fault Refusal :=
  .next (s.begin.issue e (.lhu e rd rs1 imm) (planLoad 2 extHU rd rs1 imm))

/-- LB (Table 5.5). -/
def execLb (e : Fin 16) (rd rs1 : Fin 32) (imm : BitVec 16) (s : State) : Host.Outcome State Fault Refusal :=
  .next (s.begin.issue e (.lb e rd rs1 imm) (planLoad 1 extB rd rs1 imm))

/-- LBU (Table 5.5). -/
def execLbu (e : Fin 16) (rd rs1 : Fin 32) (imm : BitVec 16) (s : State) : Host.Outcome State Fault Refusal :=
  .next (s.begin.issue e (.lbu e rd rs1 imm) (planLoad 1 extBU rd rs1 imm))

/-- SW (Table 5.5). -/
def execSw (e : Fin 16) (rd rs1 : Fin 32) (imm : BitVec 16) (s : State) : Host.Outcome State Fault Refusal :=
  .next (s.begin.issue e (.sw e rd rs1 imm) (planStore 4 rd rs1 imm))

/-- SH (Table 5.5). -/
def execSh (e : Fin 16) (rd rs1 : Fin 32) (imm : BitVec 16) (s : State) : Host.Outcome State Fault Refusal :=
  .next (s.begin.issue e (.sh e rd rs1 imm) (planStore 2 rd rs1 imm))

/-- SB (Table 5.5). -/
def execSb (e : Fin 16) (rd rs1 : Fin 32) (imm : BitVec 16) (s : State) : Host.Outcome State Fault Refusal :=
  .next (s.begin.issue e (.sb e rd rs1 imm) (planStore 1 rd rs1 imm))

end Sys2Proof.Machine
end

