-- ==== Sys2Proof/Machine/XaonePrint.lean ====
section
/-!
DEFINITION. XaonePrint.lean: print operations, mailboxes, and what befalls a stalled engine (05_xaone_isa.md R150, R158, R170 to R178, R182, R185;
02_package_power.md R61).
-/

namespace Sys2Proof.Machine
open Reg Fld

/-- The bytes at an engine-view address of the own DMEM. -/
def State.ownBytes (s : State) (c a n : Nat) : List Byte := s.readMem (dmemBase c + (a - 0x10000000)) n

/-- Do `n` bytes lie wholly in DMEM? -/
def inDmem (a n : Nat) : Bool := 0x10000000 ≤ a && a + n ≤ 0x10020000

/-- A plan for the nozzle g[rs1]: bits 31:18 must be 0 (R170). -/
def onNozzle (v : Word) (p : Nat → XPlan) : XPlan := if v.toNat < 0x40000 then p v.toNat else .trap 3 v

/-- LISSUE, on an FSE only (R174). -/
def planLissue (rd rs1 rs2 aux : Fin 32) (s : State) (c : Nat) : XPlan :=
  let a := (s.g c rs1).toNat
  .legal (rd = 0 && rs2 = 0 && aux = 0 && c < 8) (encR 0x10 rd rs1 rs2 aux)
    (if a % 32 ≠ 0 then .trap 2 (s.g c rs1)
     else if !(inDmem a 32) then .trap 3 (s.g c rs1)
     else .act (.lissue (s.ownBytes c a 32)) fun _ => [])

/-- NZLD: the entry into the pair at rd (R170). -/
def planNzld (rd rs1 rs2 aux : Fin 32) (s : State) (c : Nat) : XPlan :=
  .legal (rs2 = 0 && aux = 0 && dstPair rd) (encR 0x11 rd rs1 rs2 aux)
    (onNozzle (s.g c rs1) fun n => .act (.nzld n) fun ws => [.reg rd (XGot.word ws 0), .reg (rd + 1) (XGot.word ws 1)])

/-- NZST: the pair at rs2 into the entry, through the store buffer (R170, R172). -/
def planNzst (rd rs1 rs2 aux : Fin 32) (s : State) (c : Nat) : XPlan :=
  .legal (rd = 0 && aux = 0 && srcPair rs2) (encR 0x12 rd rs1 rs2 aux)
    (onNozzle (s.g c rs1) fun n => .act (.nzst n (s.gPair c rs2)) fun _ => [])

/-- NZCAS (R171); where ra lies in the pair at rd, that register is a free value (log 2). -/
def planNzcas (rd rs1 rs2 aux : Fin 32) (s : State) (c : Nat) : XPlan :=
  .legal (dstPair rd && srcPair rs2) (encR 0x13 rd rs1 rs2 aux)
    (onNozzle (s.g c rs1) fun n => .act (.nzcas n (s.gPair c rd) (s.gPair c rs2)) fun ws =>
      [.reg rd (XGot.word ws 0), .reg (rd + 1) (XGot.word ws 1)] ++
      (if aux = rd || aux = rd + 1 then [.reg aux (freeAt s.free 0), .draw] else [.reg aux (XGot.word ws 2)]))

/-- LGPUT (R175). -/
def planLgput (rd rs1 rs2 aux : Fin 32) (s : State) (c : Nat) : XPlan :=
  let a := (s.g c rs1).toNat
  .legal (rs2 = 0 && aux = 0) (encR 0x14 rd rs1 rs2 aux)
    (if a % 8 ≠ 0 then .trap 2 (s.g c rs1)
     else if !(inDmem a 128) then .trap 3 (s.g c rs1)
     else .act (.lgput (s.ownBytes c a 128)) fun ws => [.reg rd (XGot.word ws 0)])

/-- CSWAP (R177). -/
def planCswap (rd rs1 rs2 aux : Fin 32) (s : State) (c : Nat) : XPlan :=
  .legal (rs2 = 0 && aux = 0) (encR 0x15 rd rs1 rs2 aux)
    (.act (.cswap (s.g c rs1).toNat) fun ws => [.reg rd (XGot.word ws 0)])

/-- EMIT q, q in aux, 0 to 14 (R178). -/
def planEmit (rd rs1 rs2 aux : Fin 32) (s : State) (c : Nat) : XPlan :=
  .legal (rd = 0 && aux.val < 15) (encR 0x16 rd rs1 rs2 aux) (.act (.emit aux.val (s.g c rs2 ++ s.g c rs1)) fun _ => [])

/-- RECV rd, ra, ra in aux (R178); where ra lies in the pair at rd, that register is a free value (log 2). -/
def planRecv (rd rs1 rs2 aux : Fin 32) (s : State) (c : Nat) : XPlan :=
  let got := (s.eng c).mailbox ≠ []
  let v : DWord := (s.eng c).mailbox.headD 0
  .legal (rs1 = 0 && rs2 = 0 && dstPair rd) (encR 0x17 rd rs1 rs2 aux)
    (.pure ([.reg rd (v.extractLsb' 0 32), .reg (rd + 1) (v.extractLsb' 32 32)] ++
      (if aux = rd || aux = rd + 1 then [.reg aux (freeAt s.free 0), .draw] else [.reg aux (wordOf got)]) ++
      (if got then [.pop] else [])))

/-- The plan of an instruction that can stall. -/
def planOf (i : Instr) : State → Nat → XPlan :=
  match i with
  | .lw _ rd rs1 imm => planLoad 4 id rd rs1 imm
  | .lh _ rd rs1 imm => planLoad 2 extH rd rs1 imm
  | .lhu _ rd rs1 imm => planLoad 2 extHU rd rs1 imm
  | .lb _ rd rs1 imm => planLoad 1 extB rd rs1 imm
  | .lbu _ rd rs1 imm => planLoad 1 extBU rd rs1 imm
  | .sw _ rd rs1 imm => planStore 4 rd rs1 imm
  | .sh _ rd rs1 imm => planStore 2 rd rs1 imm
  | .sb _ rd rs1 imm => planStore 1 rd rs1 imm
  | .halt _ z => planHalt z
  | .wait _ z => planWait z
  | .fenceD _ z => planFence 9 .fenceD z
  | .fenceH _ z => planFence 0x0A .fenceH z
  | .fenceL _ z => planFence 0x0B .fenceL z
  | .lissue _ rd rs1 rs2 aux => planLissue rd rs1 rs2 aux
  | .nzld _ rd rs1 rs2 aux => planNzld rd rs1 rs2 aux
  | .nzst _ rd rs1 rs2 aux => planNzst rd rs1 rs2 aux
  | .nzcas _ rd rs1 rs2 aux => planNzcas rd rs1 rs2 aux
  | .emit _ rd rs1 rs2 aux => planEmit rd rs1 rs2 aux
  | _ => fun _ _ => .pure []

/-- The stalled instruction of an engine is tried again. -/
def State.retry (back : Bool) (e : Nat) (s : State) : State :=
  match (s.eng (xReq e)).stall with
  | some i => s.perform back e i (planOf i)
  | none => s

/-- Is the engine stalled in a fence? -/
def Engine.fencing (x : Engine) : Bool :=
  match x.stall with
  | some (.fenceD _ _) | some (.fenceH _ _) | some (.fenceL _ _) => true
  | _ => false

/-- Is the engine stalled for room or for its stores: a store, NZST, HALT, LISSUE or EMIT? -/
def Engine.blocked (x : Engine) : Bool := x.stall.isSome && !x.loading && !x.fencing && !x.waiting

/-- WAIT_WAKE. -/
def State.waitWakes (s : State) (e : Nat) : State :=
  s.when (s.xUp e && (s.eng (xReq e)).waiting) (State.retry false e)

/-- FENCE_RETIRE: every posted store has been accepted by its target; the fence retires if its condition holds, and a STOP that waited
for it is met. -/
def State.fenceRetires (s : State) (e : Nat) : State :=
  s.when (s.xUp e && (s.eng (xReq e)).fencing) fun s => (State.retry false e (s.drainAll (xReq e))).stopDue (xReq e)

/-- LOAD_RETURN: every earlier device store has taken effect, and the data comes back (R151); then a STOP that waited (R158). -/
def State.loadReturns (s : State) (e : Nat) : State :=
  s.when (s.xUp e && (s.eng (xReq e)).loading) fun s =>
    (State.retry true e (s.drainAll (xReq e))).stopDue (xReq e)

/-- The address or nozzle index of the device load an engine stalls in. -/
def State.loadAddr (s : State) (e : Nat) : Nat :=
  match (s.eng e).stall with
  | some i => match planOf i s e with
    | .act (.load a _) _ => a
    | .act (.nzld n) _ | .act (.nzcas n _ _) _ => n
    | _ => 0
  | none => 0

/-- LOAD_TIMEOUT: 4,096 engine cycles after issue the load traps (R150). -/
def State.loadLate (s : State) (e : Nat) : State :=
  let r := xReq e
  let x := s.eng r
  s.when (s.xUp e && x.loading && decide (x.stallAt + 4096 * xCycle r ≤ s.tb)) fun s =>
    (s.xTrapAll r 3 (BitVec.ofNat 32 (s.loadAddr r))).stopDue r

/-- STALL_RELEASE: a store drains, and the stalled instruction is tried again. -/
def State.stallEnds (s : State) (e : Nat) : State :=
  s.when (s.xUp e && (s.eng (xReq e)).blocked) fun s => State.retry false e (s.drainOne (xReq e))

/-- WATCHDOG_EXPIRE: a count that has reached 0 traps; TPC names a stalled instruction (R185), and a STOP that waited for it is met at that
boundary (R158, R222). -/
def State.wdogExpires (s : State) (e : Nat) : State :=
  let x := s.eng (xReq e)
  s.when (s.xUp e && x.wdogOn && decide (x.wdogLeft s.tb = 0)) fun s => (s.xTrapAll (xReq e) 5 0).stopDue (xReq e)

/-- TIMER_MATCH: TIMEBASE has reached TIMER: event 1, once for each load of TIMER. -/
def State.timerMatches (s : State) (e : Nat) : State :=
  let x := s.eng (xReq e)
  s.when (!s.asleep && !x.timerDone && decide (x.timer.toNat ≤ s.tb)) fun s =>
    s.forEach (xCopies e) fun s c => (s.engEvent 1 c).modEng c fun x => { x with timerDone := true }

/-- PARK_DONE: posted stores of engines 0 to 13 drain, and a device load in progress returns, so that each stands at an instruction
boundary or in a WAIT or fence; then the part is PARKED (R61, R64). -/
def State.parkDone (s : State) : State :=
  s.when (s.b SYS_PWR_CTRL_PARK && !s.b SYS_PWR_CTRL_PARKED) fun s =>
    ((s.forEach (List.range 14) State.drainAll).forEach (List.range 14) State.loadReturns).parked

/-- What samples the inputs alone brings about: corrections on index whose sample has passed (R565), and the inputs of an axis qualified whose
DEB has passed, so that a GO in that cycle finds the limit active (R517, R521, R539). -/
def State.samplesDue (s : State) : State :=
  (s.forEach (List.range 12) State.correctDue).forEach (List.range 16) State.inputsSettle

/-- A tick with no command: TIMEBASE counts (R20), the samples of inputs act, and one posted store of each engine drains (R151). TIMEBASE stands
still in power-on reset and while the AON island does not run; through a warm reset and a freeze it counts on (R21, R721). -/
def State.idle (s : State) : State :=
  let held := s.power.porHeld || !s.power.aonRuns
  let s := if held then s else { s with tb := s.tb + 1 }
  if s.asleep then s else s.begin.samplesDue.forEach (List.range 15) fun s e => s.drainOne e

/-- LISSUE (Table 5.7). -/
def execLissue (e : Fin 16) (rd rs1 rs2 aux : Fin 32) (s : State) : Host.Outcome State Fault Refusal :=
  .next (s.begin.issue e (.lissue e rd rs1 rs2 aux) (planLissue rd rs1 rs2 aux))

/-- NZLD (Table 5.7). -/
def execNzld (e : Fin 16) (rd rs1 rs2 aux : Fin 32) (s : State) : Host.Outcome State Fault Refusal :=
  .next (s.begin.issue e (.nzld e rd rs1 rs2 aux) (planNzld rd rs1 rs2 aux))

/-- NZST (Table 5.7). -/
def execNzst (e : Fin 16) (rd rs1 rs2 aux : Fin 32) (s : State) : Host.Outcome State Fault Refusal :=
  .next (s.begin.issue e (.nzst e rd rs1 rs2 aux) (planNzst rd rs1 rs2 aux))

/-- NZCAS (Table 5.7). -/
def execNzcas (e : Fin 16) (rd rs1 rs2 aux : Fin 32) (s : State) : Host.Outcome State Fault Refusal :=
  .next (s.begin.issue e (.nzcas e rd rs1 rs2 aux) (planNzcas rd rs1 rs2 aux))

/-- LGPUT (Table 5.7). -/
def execLgput (e : Fin 16) (rd rs1 rs2 aux : Fin 32) (s : State) : Host.Outcome State Fault Refusal :=
  .next (s.begin.issue e (.lgput e rd rs1 rs2 aux) (planLgput rd rs1 rs2 aux))

/-- CSWAP (Table 5.7). -/
def execCswap (e : Fin 16) (rd rs1 rs2 aux : Fin 32) (s : State) : Host.Outcome State Fault Refusal :=
  .next (s.begin.issue e (.cswap e rd rs1 rs2 aux) (planCswap rd rs1 rs2 aux))

/-- EMIT (Table 5.7). -/
def execEmit (e : Fin 16) (rd rs1 rs2 aux : Fin 32) (s : State) : Host.Outcome State Fault Refusal :=
  .next (s.begin.issue e (.emit e rd rs1 rs2 aux) (planEmit rd rs1 rs2 aux))

/-- RECV (Table 5.7). -/
def execRecv (e : Fin 16) (rd rs1 rs2 aux : Fin 32) (s : State) : Host.Outcome State Fault Refusal :=
  .next (s.begin.issue e (.recv e rd rs1 rs2 aux) (planRecv rd rs1 rs2 aux))

/-- WAIT_WAKE (R179). -/
def execWaitWake (e : Fin 16) (s : State) : Host.Outcome State Fault Refusal := .next (s.begin.waitWakes e)

/-- FENCE_RETIRE (R220 to R222). -/
def execFenceRetire (e : Fin 16) (s : State) : Host.Outcome State Fault Refusal := .next (s.begin.fenceRetires e)

/-- LOAD_RETURN (R150, R151). -/
def execLoadReturn (e : Fin 16) (s : State) : Host.Outcome State Fault Refusal := .next (s.begin.loadReturns e)

/-- LOAD_TIMEOUT (R150). -/
def execLoadTimeout (e : Fin 16) (s : State) : Host.Outcome State Fault Refusal := .next (s.begin.loadLate e)

/-- STALL_RELEASE (R151, R178). -/
def execStallRelease (e : Fin 16) (s : State) : Host.Outcome State Fault Refusal := .next (s.begin.stallEnds e)

/-- WATCHDOG_EXPIRE (R185). -/
def execWatchdogExpire (e : Fin 16) (s : State) : Host.Outcome State Fault Refusal := .next (s.begin.wdogExpires e)

/-- TIMER_MATCH (Table 5.8). -/
def execTimerMatch (e : Fin 16) (s : State) : Host.Outcome State Fault Refusal := .next (s.begin.timerMatches e)

/-- PARK_DONE (R61). -/
def execParkDone (s : State) : Host.Outcome State Fault Refusal := .next (s.awake (·.parkDone))

end Sys2Proof.Machine
end

