-- ==== Sys2Proof/Machine/XaoneWord.lean ====
section
/-!
DEFINITION. XaoneWord.lean: the instruction words of Tables 5.2 to 5.7: their decoder, total on 32-bit words, their encoder, and the
execution of a word as fetched, an illegal one among them (05_xaone_isa.md R162, R163; log 98).
-/

namespace Sys2Proof.Machine

/-! Decoding -/

/-- A register field of a word. -/
def regField (w : Word) (lo : Nat) : Fin 32 := ⟨w.toNat / 2 ^ lo % 32, Nat.mod_lt _ (by decide)⟩

/-- Format A, by op (Table 5.4). -/
def decA (e : Fin 16) (op : Nat) (rd rs1 rs2 : Fin 32) (sh : BitVec 5) : Option Instr :=
  match op with
  | 0x00 => some (.add e rd rs1 rs2 sh)
  | 0x01 => some (.sub e rd rs1 rs2 sh)
  | 0x02 => some (.and e rd rs1 rs2 sh)
  | 0x03 => some (.or e rd rs1 rs2 sh)
  | 0x04 => some (.xor e rd rs1 rs2 sh)
  | 0x05 => some (.sll e rd rs1 rs2 sh)
  | 0x06 => some (.srl e rd rs1 rs2 sh)
  | 0x07 => some (.sra e rd rs1 rs2 sh)
  | 0x08 => some (.slt e rd rs1 rs2 sh)
  | 0x09 => some (.sltu e rd rs1 rs2 sh)
  | 0x10 => some (.mul e rd rs1 rs2 sh)
  | 0x11 => some (.mulh e rd rs1 rs2 sh)
  | 0x12 => some (.mulhu e rd rs1 rs2 sh)
  | 0x13 => some (.mulq e rd rs1 rs2 sh)
  | _ => none

/-- Formats I and B, by opcode; B has rs1 and rs2 in the places of rd and rs1 (Tables 5.5 and 5.6). -/
def decI (e : Fin 16) (op : Nat) (rd rs1 : Fin 32) (imm : BitVec 16) : Option Instr :=
  match op with
  | 0x01 => some (.addi e rd rs1 imm)
  | 0x02 => some (.andi e rd rs1 imm)
  | 0x03 => some (.ori e rd rs1 imm)
  | 0x04 => some (.xori e rd rs1 imm)
  | 0x05 => some (.slti e rd rs1 imm)
  | 0x06 => some (.sltiu e rd rs1 imm)
  | 0x07 => some (.slli e rd rs1 imm)
  | 0x08 => some (.srli e rd rs1 imm)
  | 0x09 => some (.srai e rd rs1 imm)
  | 0x0A => some (.lui e rd rs1 imm)
  | 0x10 => some (.lw e rd rs1 imm)
  | 0x11 => some (.lh e rd rs1 imm)
  | 0x12 => some (.lhu e rd rs1 imm)
  | 0x13 => some (.lb e rd rs1 imm)
  | 0x14 => some (.lbu e rd rs1 imm)
  | 0x18 => some (.sw e rd rs1 imm)
  | 0x19 => some (.sh e rd rs1 imm)
  | 0x1A => some (.sb e rd rs1 imm)
  | 0x29 => some (.callr e rd rs1 imm)
  | 0x30 => some (.csrr e rd rs1 imm)
  | 0x31 => some (.csrw e rd rs1 imm)
  | 0x32 => some (.csrm e rd rs1 imm)
  | 0x20 => some (.beq e rd rs1 imm)
  | 0x21 => some (.bne e rd rs1 imm)
  | 0x22 => some (.blt e rd rs1 imm)
  | 0x23 => some (.bge e rd rs1 imm)
  | 0x24 => some (.bltu e rd rs1 imm)
  | 0x25 => some (.bgeu e rd rs1 imm)
  | _ => none

/-- Format S, by sub-op, with layouts S-E, S-T, S-N or S-R (Tables 5.3 and 5.7). -/
def decS (e : Fin 16) (sub : Nat) (w : Word) (z : BitVec 20) (rd rs1 rs2 aux : Fin 32) : Option Instr :=
  match sub with
  | 0x00 => some (.snop e w)
  | 0x01 => some (.halt e z)
  | 0x02 => some (.trap e z)
  | 0x03 => some (.rett e z)
  | 0x04 => some (.wait e z)
  | 0x08 => some (.fenceE e z)
  | 0x09 => some (.fenceD e z)
  | 0x0A => some (.fenceH e z)
  | 0x0B => some (.fenceL e z)
  | 0x10 => some (.lissue e rd rs1 rs2 aux)
  | 0x11 => some (.nzld e rd rs1 rs2 aux)
  | 0x12 => some (.nzst e rd rs1 rs2 aux)
  | 0x13 => some (.nzcas e rd rs1 rs2 aux)
  | 0x14 => some (.lgput e rd rs1 rs2 aux)
  | 0x15 => some (.cswap e rd rs1 rs2 aux)
  | 0x16 => some (.emit e rd rs1 rs2 aux)
  | 0x17 => some (.recv e rd rs1 rs2 aux)
  | _ => none

/-- The instruction of engine e a word spells; none where its opcode, op or sub-op is not listed (R163). -/
def decodeXaone (e : Fin 16) (w : Word) : Option Instr :=
  let op := w.toNat / 2 ^ 26
  if op = 0x00 then
    decA e (bits w.toNat 10 5) (regField w 21) (regField w 16) (regField w 11) (w.extractLsb' 0 5)
  else if op = 0x28 then some (.j e (w.extractLsb' 0 26))
  else if op = 0x2A then some (.call e (w.extractLsb' 0 26))
  else if op = 0x3F then
    decS e (bits w.toNat 25 20) w (w.extractLsb' 0 20) (regField w 15) (regField w 10) (regField w 5) (regField w 0)
  else decI e op (regField w 21) (regField w 16) (w.extractLsb' 0 16)

/-! Encoding -/

/-- The word of an instruction; a command that is none has the word of SNOP. -/
def xaoneWord (i : Instr) : Word :=
  match i with
  | .add _ rd rs1 rs2 sh => encA 0x00 rd rs1 rs2 sh
  | .sub _ rd rs1 rs2 sh => encA 0x01 rd rs1 rs2 sh
  | .and _ rd rs1 rs2 sh => encA 0x02 rd rs1 rs2 sh
  | .or _ rd rs1 rs2 sh => encA 0x03 rd rs1 rs2 sh
  | .xor _ rd rs1 rs2 sh => encA 0x04 rd rs1 rs2 sh
  | .sll _ rd rs1 rs2 sh => encA 0x05 rd rs1 rs2 sh
  | .srl _ rd rs1 rs2 sh => encA 0x06 rd rs1 rs2 sh
  | .sra _ rd rs1 rs2 sh => encA 0x07 rd rs1 rs2 sh
  | .slt _ rd rs1 rs2 sh => encA 0x08 rd rs1 rs2 sh
  | .sltu _ rd rs1 rs2 sh => encA 0x09 rd rs1 rs2 sh
  | .mul _ rd rs1 rs2 sh => encA 0x10 rd rs1 rs2 sh
  | .mulh _ rd rs1 rs2 sh => encA 0x11 rd rs1 rs2 sh
  | .mulhu _ rd rs1 rs2 sh => encA 0x12 rd rs1 rs2 sh
  | .mulq _ rd rs1 rs2 sh => encA 0x13 rd rs1 rs2 sh
  | .addi _ rd rs1 imm => encI 0x01 rd rs1 imm
  | .andi _ rd rs1 imm => encI 0x02 rd rs1 imm
  | .ori _ rd rs1 imm => encI 0x03 rd rs1 imm
  | .xori _ rd rs1 imm => encI 0x04 rd rs1 imm
  | .slti _ rd rs1 imm => encI 0x05 rd rs1 imm
  | .sltiu _ rd rs1 imm => encI 0x06 rd rs1 imm
  | .slli _ rd rs1 imm => encI 0x07 rd rs1 imm
  | .srli _ rd rs1 imm => encI 0x08 rd rs1 imm
  | .srai _ rd rs1 imm => encI 0x09 rd rs1 imm
  | .lui _ rd rs1 imm => encI 0x0A rd rs1 imm
  | .lw _ rd rs1 imm => encI 0x10 rd rs1 imm
  | .lh _ rd rs1 imm => encI 0x11 rd rs1 imm
  | .lhu _ rd rs1 imm => encI 0x12 rd rs1 imm
  | .lb _ rd rs1 imm => encI 0x13 rd rs1 imm
  | .lbu _ rd rs1 imm => encI 0x14 rd rs1 imm
  | .sw _ rd rs1 imm => encI 0x18 rd rs1 imm
  | .sh _ rd rs1 imm => encI 0x19 rd rs1 imm
  | .sb _ rd rs1 imm => encI 0x1A rd rs1 imm
  | .callr _ rd rs1 imm => encI 0x29 rd rs1 imm
  | .csrr _ rd rs1 imm => encI 0x30 rd rs1 imm
  | .csrw _ rd rs1 imm => encI 0x31 rd rs1 imm
  | .csrm _ rd rs1 imm => encI 0x32 rd rs1 imm
  | .beq _ rs1 rs2 off => encI 0x20 rs1 rs2 off
  | .bne _ rs1 rs2 off => encI 0x21 rs1 rs2 off
  | .blt _ rs1 rs2 off => encI 0x22 rs1 rs2 off
  | .bge _ rs1 rs2 off => encI 0x23 rs1 rs2 off
  | .bltu _ rs1 rs2 off => encI 0x24 rs1 rs2 off
  | .bgeu _ rs1 rs2 off => encI 0x25 rs1 rs2 off
  | .j _ off => encJ 0x28 off
  | .call _ off => encJ 0x2A off
  | .halt _ z => encS 0x01 z
  | .trap _ z => encS 0x02 z
  | .rett _ z => encS 0x03 z
  | .wait _ z => encS 0x04 z
  | .fenceE _ z => encS 0x08 z
  | .fenceD _ z => encS 0x09 z
  | .fenceH _ z => encS 0x0A z
  | .fenceL _ z => encS 0x0B z
  | .lissue _ rd rs1 rs2 aux => encR 0x10 rd rs1 rs2 aux
  | .nzld _ rd rs1 rs2 aux => encR 0x11 rd rs1 rs2 aux
  | .nzst _ rd rs1 rs2 aux => encR 0x12 rd rs1 rs2 aux
  | .nzcas _ rd rs1 rs2 aux => encR 0x13 rd rs1 rs2 aux
  | .lgput _ rd rs1 rs2 aux => encR 0x14 rd rs1 rs2 aux
  | .cswap _ rd rs1 rs2 aux => encR 0x15 rd rs1 rs2 aux
  | .emit _ rd rs1 rs2 aux => encR 0x16 rd rs1 rs2 aux
  | .recv _ rd rs1 rs2 aux => encR 0x17 rd rs1 rs2 aux
  | .snop _ w => w
  | _ => encS 0x00 0

/-! Execution of a word -/

/-- An instruction that a word spells is executed as its own command. -/
def execSpelled (i : Instr) (s : State) : Host.Outcome State Fault Refusal :=
  match i with
  | .add e rd rs1 rs2 sh => execAdd e rd rs1 rs2 sh s
  | .sub e rd rs1 rs2 sh => execSub e rd rs1 rs2 sh s
  | .and e rd rs1 rs2 sh => execAnd e rd rs1 rs2 sh s
  | .or e rd rs1 rs2 sh => execOr e rd rs1 rs2 sh s
  | .xor e rd rs1 rs2 sh => execXor e rd rs1 rs2 sh s
  | .sll e rd rs1 rs2 sh => execSll e rd rs1 rs2 sh s
  | .srl e rd rs1 rs2 sh => execSrl e rd rs1 rs2 sh s
  | .sra e rd rs1 rs2 sh => execSra e rd rs1 rs2 sh s
  | .slt e rd rs1 rs2 sh => execSlt e rd rs1 rs2 sh s
  | .sltu e rd rs1 rs2 sh => execSltu e rd rs1 rs2 sh s
  | .mul e rd rs1 rs2 sh => execMul e rd rs1 rs2 sh s
  | .mulh e rd rs1 rs2 sh => execMulh e rd rs1 rs2 sh s
  | .mulhu e rd rs1 rs2 sh => execMulhu e rd rs1 rs2 sh s
  | .mulq e rd rs1 rs2 sh => execMulq e rd rs1 rs2 sh s
  | .addi e rd rs1 imm => execAddi e rd rs1 imm s
  | .andi e rd rs1 imm => execAndi e rd rs1 imm s
  | .ori e rd rs1 imm => execOri e rd rs1 imm s
  | .xori e rd rs1 imm => execXori e rd rs1 imm s
  | .slti e rd rs1 imm => execSlti e rd rs1 imm s
  | .sltiu e rd rs1 imm => execSltiu e rd rs1 imm s
  | .slli e rd rs1 imm => execSlli e rd rs1 imm s
  | .srli e rd rs1 imm => execSrli e rd rs1 imm s
  | .srai e rd rs1 imm => execSrai e rd rs1 imm s
  | .lui e rd rs1 imm => execLui e rd rs1 imm s
  | .lw e rd rs1 imm => execLw e rd rs1 imm s
  | .lh e rd rs1 imm => execLh e rd rs1 imm s
  | .lhu e rd rs1 imm => execLhu e rd rs1 imm s
  | .lb e rd rs1 imm => execLb e rd rs1 imm s
  | .lbu e rd rs1 imm => execLbu e rd rs1 imm s
  | .sw e rd rs1 imm => execSw e rd rs1 imm s
  | .sh e rd rs1 imm => execSh e rd rs1 imm s
  | .sb e rd rs1 imm => execSb e rd rs1 imm s
  | .callr e rd rs1 imm => execCallr e rd rs1 imm s
  | .csrr e rd rs1 imm => execCsrr e rd rs1 imm s
  | .csrw e rd rs1 imm => execCsrw e rd rs1 imm s
  | .csrm e rd rs1 imm => execCsrm e rd rs1 imm s
  | .beq e rs1 rs2 off => execBeq e rs1 rs2 off s
  | .bne e rs1 rs2 off => execBne e rs1 rs2 off s
  | .blt e rs1 rs2 off => execBlt e rs1 rs2 off s
  | .bge e rs1 rs2 off => execBge e rs1 rs2 off s
  | .bltu e rs1 rs2 off => execBltu e rs1 rs2 off s
  | .bgeu e rs1 rs2 off => execBgeu e rs1 rs2 off s
  | .j e off => execJ e off s
  | .call e off => execCall e off s
  | .halt e z => execHalt e z s
  | .trap e z => execTrap e z s
  | .rett e z => execRett e z s
  | .wait e z => execWait e z s
  | .fenceE e z => execFenceE e z s
  | .fenceD e z => execFenceD e z s
  | .fenceH e z => execFenceH e z s
  | .fenceL e z => execFenceL e z s
  | .lissue e rd rs1 rs2 aux => execLissue e rd rs1 rs2 aux s
  | .nzld e rd rs1 rs2 aux => execNzld e rd rs1 rs2 aux s
  | .nzst e rd rs1 rs2 aux => execNzst e rd rs1 rs2 aux s
  | .nzcas e rd rs1 rs2 aux => execNzcas e rd rs1 rs2 aux s
  | .lgput e rd rs1 rs2 aux => execLgput e rd rs1 rs2 aux s
  | .cswap e rd rs1 rs2 aux => execCswap e rd rs1 rs2 aux s
  | .emit e rd rs1 rs2 aux => execEmit e rd rs1 rs2 aux s
  | .recv e rd rs1 rs2 aux => execRecv e rd rs1 rs2 aux s
  | .snop e w => .next (s.begin.issue e (.snop e w) fun _ _ => .legal (w = encS 0x00 0) w (.pure []))
  | _ => .next s.begin

/-- SNOP, and any word as fetched (R162): a word that spells a listed instruction is executed as that instruction, any other traps with
ILLEGAL (R163). -/
def execSnop (e : Fin 16) (w : Word) (s : State) : Host.Outcome State Fault Refusal :=
  match decodeXaone e w with
  | some i => execSpelled i s
  | none => .next (s.begin.issue e (.snop e w) fun _ _ => .trap 1 w)

end Sys2Proof.Machine
end

