-- ==== Sys2Proof/Machine/Dispatch.lean ====
section
/-!
DEFINITION. Dispatch.lean: one arm per command, each a direct call of its meaning.
-/

namespace Sys2Proof.Machine

def exec (i : Instr) (s : State) : Host.Outcome State Fault Refusal :=
  match i with
  | .powerOnReset => Sys2Proof.Machine.execPowerOnReset s
  | .resetRelease bootSel twinSel => Sys2Proof.Machine.execResetRelease bootSel twinSel s
  | .warmReset => Sys2Proof.Machine.execWarmReset s
  | .softReset req => Sys2Proof.Machine.execSoftReset req s
  | .perstAssert => Sys2Proof.Machine.execPerstAssert s
  | .perstRelease => Sys2Proof.Machine.execPerstRelease s
  | .functionLevelReset => Sys2Proof.Machine.execFunctionLevelReset s
  | .debugReset => Sys2Proof.Machine.execDebugReset s
  | .testEnHigh => Sys2Proof.Machine.execTestEnHigh s
  | .railExcursion rail => Sys2Proof.Machine.execRailExcursion rail s
  | .vaultSupplySwitch toVbat => Sys2Proof.Machine.execVaultSupplySwitch toVbat s
  | .vbatLoss => Sys2Proof.Machine.execVbatLoss s
  | .clockFail => Sys2Proof.Machine.execClockFail s
  | .park req => Sys2Proof.Machine.execPark req s
  | .parkDone => Sys2Proof.Machine.execParkDone s
  | .unpark req => Sys2Proof.Machine.execUnpark req s
  | .unparkDone => Sys2Proof.Machine.execUnparkDone s
  | .fusesRead readError => Sys2Proof.Machine.execFusesRead readError s
  | .qspiReadDone image => Sys2Proof.Machine.execQspiReadDone image s
  | .qspiTimeout => Sys2Proof.Machine.execQspiTimeout s
  | .firstStageChecksDone => Sys2Proof.Machine.execFirstStageChecksDone s
  | .hostGo req => Sys2Proof.Machine.execHostGo req s
  | .cfgReady req => Sys2Proof.Machine.execCfgReady req s
  | .firstStageLate => Sys2Proof.Machine.execFirstStageLate s
  | .configRequest write off v => Sys2Proof.Machine.execConfigRequest write off v s
  | .guardUnlock req v => Sys2Proof.Machine.execGuardUnlock req v s
  | .unlockExpire req => Sys2Proof.Machine.execUnlockExpire req s
  | .registerWrite req addr v be => Sys2Proof.Machine.execRegisterWrite req addr v be s
  | .loStageWrite req addr v => Sys2Proof.Machine.execLoStageWrite req addr v s
  | .sqWriteBack req addr v => Sys2Proof.Machine.execSqWriteBack req addr v s
  | .badRegisterRead req addr len => Sys2Proof.Machine.execBadRegisterRead req addr len s
  | .memoryWindowWrite req addr bytes => Sys2Proof.Machine.execMemoryWindowWrite req addr bytes s
  | .nozzleTableWrite req addr bytes => Sys2Proof.Machine.execNozzleTableWrite req addr bytes s
  | .shadowArm req addr v => Sys2Proof.Machine.execShadowArm req addr v s
  | .engStart req e => Sys2Proof.Machine.execEngStart req e s
  | .engStop req e => Sys2Proof.Machine.execEngStop req e s
  | .engEvset req e v => Sys2Proof.Machine.execEngEvset req e v s
  | .add e rd rs1 rs2 sh => Sys2Proof.Machine.execAdd e rd rs1 rs2 sh s
  | .sub e rd rs1 rs2 sh => Sys2Proof.Machine.execSub e rd rs1 rs2 sh s
  | .and e rd rs1 rs2 sh => Sys2Proof.Machine.execAnd e rd rs1 rs2 sh s
  | .or e rd rs1 rs2 sh => Sys2Proof.Machine.execOr e rd rs1 rs2 sh s
  | .xor e rd rs1 rs2 sh => Sys2Proof.Machine.execXor e rd rs1 rs2 sh s
  | .sll e rd rs1 rs2 sh => Sys2Proof.Machine.execSll e rd rs1 rs2 sh s
  | .srl e rd rs1 rs2 sh => Sys2Proof.Machine.execSrl e rd rs1 rs2 sh s
  | .sra e rd rs1 rs2 sh => Sys2Proof.Machine.execSra e rd rs1 rs2 sh s
  | .slt e rd rs1 rs2 sh => Sys2Proof.Machine.execSlt e rd rs1 rs2 sh s
  | .sltu e rd rs1 rs2 sh => Sys2Proof.Machine.execSltu e rd rs1 rs2 sh s
  | .mul e rd rs1 rs2 sh => Sys2Proof.Machine.execMul e rd rs1 rs2 sh s
  | .mulh e rd rs1 rs2 sh => Sys2Proof.Machine.execMulh e rd rs1 rs2 sh s
  | .mulhu e rd rs1 rs2 sh => Sys2Proof.Machine.execMulhu e rd rs1 rs2 sh s
  | .mulq e rd rs1 rs2 sh => Sys2Proof.Machine.execMulq e rd rs1 rs2 sh s
  | .addi e rd rs1 imm => Sys2Proof.Machine.execAddi e rd rs1 imm s
  | .andi e rd rs1 imm => Sys2Proof.Machine.execAndi e rd rs1 imm s
  | .ori e rd rs1 imm => Sys2Proof.Machine.execOri e rd rs1 imm s
  | .xori e rd rs1 imm => Sys2Proof.Machine.execXori e rd rs1 imm s
  | .slti e rd rs1 imm => Sys2Proof.Machine.execSlti e rd rs1 imm s
  | .sltiu e rd rs1 imm => Sys2Proof.Machine.execSltiu e rd rs1 imm s
  | .slli e rd rs1 imm => Sys2Proof.Machine.execSlli e rd rs1 imm s
  | .srli e rd rs1 imm => Sys2Proof.Machine.execSrli e rd rs1 imm s
  | .srai e rd rs1 imm => Sys2Proof.Machine.execSrai e rd rs1 imm s
  | .lui e rd rs1 imm => Sys2Proof.Machine.execLui e rd rs1 imm s
  | .lw e rd rs1 imm => Sys2Proof.Machine.execLw e rd rs1 imm s
  | .lh e rd rs1 imm => Sys2Proof.Machine.execLh e rd rs1 imm s
  | .lhu e rd rs1 imm => Sys2Proof.Machine.execLhu e rd rs1 imm s
  | .lb e rd rs1 imm => Sys2Proof.Machine.execLb e rd rs1 imm s
  | .lbu e rd rs1 imm => Sys2Proof.Machine.execLbu e rd rs1 imm s
  | .sw e rd rs1 imm => Sys2Proof.Machine.execSw e rd rs1 imm s
  | .sh e rd rs1 imm => Sys2Proof.Machine.execSh e rd rs1 imm s
  | .sb e rd rs1 imm => Sys2Proof.Machine.execSb e rd rs1 imm s
  | .callr e rd rs1 imm => Sys2Proof.Machine.execCallr e rd rs1 imm s
  | .csrr e rd rs1 imm => Sys2Proof.Machine.execCsrr e rd rs1 imm s
  | .csrw e rd rs1 imm => Sys2Proof.Machine.execCsrw e rd rs1 imm s
  | .csrm e rd rs1 imm => Sys2Proof.Machine.execCsrm e rd rs1 imm s
  | .beq e rs1 rs2 off => Sys2Proof.Machine.execBeq e rs1 rs2 off s
  | .bne e rs1 rs2 off => Sys2Proof.Machine.execBne e rs1 rs2 off s
  | .blt e rs1 rs2 off => Sys2Proof.Machine.execBlt e rs1 rs2 off s
  | .bge e rs1 rs2 off => Sys2Proof.Machine.execBge e rs1 rs2 off s
  | .bltu e rs1 rs2 off => Sys2Proof.Machine.execBltu e rs1 rs2 off s
  | .bgeu e rs1 rs2 off => Sys2Proof.Machine.execBgeu e rs1 rs2 off s
  | .j e off => Sys2Proof.Machine.execJ e off s
  | .call e off => Sys2Proof.Machine.execCall e off s
  | .snop e w => Sys2Proof.Machine.execSnop e w s
  | .halt e z => Sys2Proof.Machine.execHalt e z s
  | .trap e z => Sys2Proof.Machine.execTrap e z s
  | .rett e z => Sys2Proof.Machine.execRett e z s
  | .wait e z => Sys2Proof.Machine.execWait e z s
  | .waitWake e => Sys2Proof.Machine.execWaitWake e s
  | .fenceE e z => Sys2Proof.Machine.execFenceE e z s
  | .fenceD e z => Sys2Proof.Machine.execFenceD e z s
  | .fenceH e z => Sys2Proof.Machine.execFenceH e z s
  | .fenceL e z => Sys2Proof.Machine.execFenceL e z s
  | .fenceRetire e => Sys2Proof.Machine.execFenceRetire e s
  | .lissue e rd rs1 rs2 aux => Sys2Proof.Machine.execLissue e rd rs1 rs2 aux s
  | .nzld e rd rs1 rs2 aux => Sys2Proof.Machine.execNzld e rd rs1 rs2 aux s
  | .nzst e rd rs1 rs2 aux => Sys2Proof.Machine.execNzst e rd rs1 rs2 aux s
  | .nzcas e rd rs1 rs2 aux => Sys2Proof.Machine.execNzcas e rd rs1 rs2 aux s
  | .lgput e rd rs1 rs2 aux => Sys2Proof.Machine.execLgput e rd rs1 rs2 aux s
  | .cswap e rd rs1 rs2 aux => Sys2Proof.Machine.execCswap e rd rs1 rs2 aux s
  | .emit e rd rs1 rs2 aux => Sys2Proof.Machine.execEmit e rd rs1 rs2 aux s
  | .recv e rd rs1 rs2 aux => Sys2Proof.Machine.execRecv e rd rs1 rs2 aux s
  | .loadReturn e => Sys2Proof.Machine.execLoadReturn e s
  | .loadTimeout e => Sys2Proof.Machine.execLoadTimeout e s
  | .stallRelease e => Sys2Proof.Machine.execStallRelease e s
  | .watchdogExpire e => Sys2Proof.Machine.execWatchdogExpire e s
  | .timerMatch e => Sys2Proof.Machine.execTimerMatch e s
  | .jqEnable req k v => Sys2Proof.Machine.execJqEnable req k v s
  | .jqDisable req k v => Sys2Proof.Machine.execJqDisable req k v s
  | .idxClr req k v => Sys2Proof.Machine.execIdxClr req k v s
  | .doorbell req k v => Sys2Proof.Machine.execDoorbell req k v s
  | .jobIntake => Sys2Proof.Machine.execJobIntake s
  | .jobDescReturn k ret => Sys2Proof.Machine.execJobDescReturn k ret s
  | .itemArrayReturn k ret => Sys2Proof.Machine.execItemArrayReturn k ret s
  | .jqDone req k slot => Sys2Proof.Machine.execJqDone req k slot s
  | .jqAbort req k slot => Sys2Proof.Machine.execJqAbort req k slot s
  | .completionRelease k => Sys2Proof.Machine.execCompletionRelease k s
  | .cqHeadWrite req k v => Sys2Proof.Machine.execCqHeadWrite req k v s
  | .linkUp speed width => Sys2Proof.Machine.execLinkUp speed width s
  | .linkDown => Sys2Proof.Machine.execLinkDown s
  | .pcieErrorRx kind => Sys2Proof.Machine.execPcieErrorRx kind s
  | .cplTimeout what => Sys2Proof.Machine.execCplTimeout what s
  | .bmeClear => Sys2Proof.Machine.execBmeClear s
  | .bmeSet => Sys2Proof.Machine.execBmeSet s
  | .d3hotEntry => Sys2Proof.Machine.execD3hotEntry s
  | .bar2Read off len upsets => Sys2Proof.Machine.execBar2Read off len s upsets
  | .bar2Write off bytes => Sys2Proof.Machine.execBar2Write off bytes s
  | .unsupportedRequest => Sys2Proof.Machine.execUnsupportedRequest s
  | .msixUnmask vec => Sys2Proof.Machine.execMsixUnmask vec s
  | .aspmL1Entry => Sys2Proof.Machine.execAspmL1Entry s
  | .dmaGo req c => Sys2Proof.Machine.execDmaGo req c s
  | .dmaKick req c => Sys2Proof.Machine.execDmaKick req c s
  | .dmaAbort req c => Sys2Proof.Machine.execDmaAbort req c s
  | .dmaFlush req c => Sys2Proof.Machine.execDmaFlush req c s
  | .descFetchReturn c ret => Sys2Proof.Machine.execDescFetchReturn c ret s
  | .dmaRequestIssue c => Sys2Proof.Machine.execDmaRequestIssue c s
  | .dataReturn c ret n upsets => Sys2Proof.Machine.execDataReturn c ret s n upsets
  | .descComplete c refused => Sys2Proof.Machine.execDescComplete c s refused
  | .ringCountWrite req c prod v => Sys2Proof.Machine.execRingCountWrite req c prod v s
  | .ddrTrain req m v => Sys2Proof.Machine.execDdrTrain req m v s
  | .trainDone m pass failStep capacity => Sys2Proof.Machine.execTrainDone m pass failStep capacity s
  | .scrubStep addr err => Sys2Proof.Machine.execScrubStep addr err s
  | .streamEnable req n v => Sys2Proof.Machine.execStreamEnable req n v s
  | .streamDisable req n v => Sys2Proof.Machine.execStreamDisable req n v s
  | .lineBoundary d => Sys2Proof.Machine.execLineBoundary d s
  | .sliceHandover l => Sys2Proof.Machine.execSliceHandover l s
  | .dcdGo req d => Sys2Proof.Machine.execDcdGo req d s
  | .dcdStop req d => Sys2Proof.Machine.execDcdStop req d s
  | .derate req d => Sys2Proof.Machine.execDerate req d s
  | .planningTick => Sys2Proof.Machine.execPlanningTick s
  | .senseRx l payload => Sys2Proof.Machine.execSenseRx l payload s
  | .riseUpdate => Sys2Proof.Machine.execRiseUpdate s
  | .clrInhibit req h => Sys2Proof.Machine.execClrInhibit req h s
  | .forceInhibit req h => Sys2Proof.Machine.execForceInhibit req h s
  | .laneEnable req l => Sys2Proof.Machine.execLaneEnable req l s
  | .laneDisable req l => Sys2Proof.Machine.execLaneDisable req l s
  | .acquire req l => Sys2Proof.Machine.execAcquire req l s
  | .release req l => Sys2Proof.Machine.execRelease req l s
  | .reneg req l => Sys2Proof.Machine.execReneg req l s
  | .capTx l hold => Sys2Proof.Machine.execCapTx l s hold
  | .capRx l payload => Sys2Proof.Machine.execCapRx l payload s
  | .rateSwitch l => Sys2Proof.Machine.execRateSwitch l s
  | .negFallback l => Sys2Proof.Machine.execNegFallback l s
  | .negTimeout link => Sys2Proof.Machine.execNegTimeout link s
  | .fireTx l hold => Sys2Proof.Machine.execFireTx l s hold
  | .syncTx l => Sys2Proof.Machine.execSyncTx l s
  | .idleTx l hold => Sys2Proof.Machine.execIdleTx l s hold
  | .leaseRequestTx l hold => Sys2Proof.Machine.execLeaseRequestTx l s hold
  | .leaseRenewTx l hold => Sys2Proof.Machine.execLeaseRenewTx l s hold
  | .leaseGrantRx l epoch => Sys2Proof.Machine.execLeaseGrantRx l epoch s
  | .leaseRenewedRx l epoch => Sys2Proof.Machine.execLeaseRenewedRx l epoch s
  | .leaseNoLeaseRx l holder => Sys2Proof.Machine.execLeaseNoLeaseRx l holder s
  | .leaseDenyRx l holder remain => Sys2Proof.Machine.execLeaseDenyRx l holder remain s
  | .leaseReleasedRx l => Sys2Proof.Machine.execLeaseReleasedRx l s
  | .leaseExpire l => Sys2Proof.Machine.execLeaseExpire l s
  | .linkLockLoss link => Sys2Proof.Machine.execLinkLockLoss link s
  | .upstreamSilence l => Sys2Proof.Machine.execUpstreamSilence l s
  | .badFrameRx l bits => Sys2Proof.Machine.execBadFrameRx l s bits
  | .cxRead req l => Sys2Proof.Machine.execCxRead req l s
  | .cxWrite req l => Sys2Proof.Machine.execCxWrite req l s
  | .ctrlReplyRx l tag status data => Sys2Proof.Machine.execCtrlReplyRx l tag status data s
  | .ctrlTimeout l => Sys2Proof.Machine.execCtrlTimeout l s
  | .verifyRx l payload => Sys2Proof.Machine.execVerifyRx l payload s
  | .holdRelease req v => Sys2Proof.Machine.execHoldRelease req v s
  | .axisEnable req a => Sys2Proof.Machine.execAxisEnable req a s
  | .axisGo req a => Sys2Proof.Machine.execAxisGo req a s
  | .axisStop req a => Sys2Proof.Machine.execAxisStop req a s
  | .axisQstop req a => Sys2Proof.Machine.execAxisQstop req a s
  | .axisHome req a => Sys2Proof.Machine.execAxisHome req a s
  | .motPosWrite req a v => Sys2Proof.Machine.execMotPosWrite req a v s
  | .limitTrip a neg high => Sys2Proof.Machine.execLimitTrip a neg high s
  | .homeEdge a high held => Sys2Proof.Machine.execHomeEdge a high s held
  | .groupGo req g => Sys2Proof.Machine.execGroupGo req g s
  | .groupStop req g => Sys2Proof.Machine.execGroupStop req g s
  | .fbEnable req c => Sys2Proof.Machine.execFbEnable req c s
  | .fbDisable req c => Sys2Proof.Machine.execFbDisable req c s
  | .redetect req c => Sys2Proof.Machine.execRedetect req c s
  | .detectAttempt c samples => Sys2Proof.Machine.execDetectAttempt c samples s
  | .encoderEdge c a b age => Sys2Proof.Machine.execEncoderEdge c a b s age
  | .sincosSample c sin cos => Sys2Proof.Machine.execSincosSample c sin cos s
  | .lowSpeedTimeout c => Sys2Proof.Machine.execLowSpeedTimeout c s
  | .indexEvent c age => Sys2Proof.Machine.execIndexEvent c s age
  | .fbPosWrite req c v => Sys2Proof.Machine.execFbPosWrite req c v s
  | .emuEnable req n => Sys2Proof.Machine.execEmuEnable req n s
  | .emuStep n => Sys2Proof.Machine.execEmuStep n s
  | .timerStart req v => Sys2Proof.Machine.execTimerStart req v s
  | .loopTick t => Sys2Proof.Machine.execLoopTick t s
  | .loopRun req l => Sys2Proof.Machine.execLoopRun req l s
  | .loopStop req l => Sys2Proof.Machine.execLoopStop req l s
  | .loopInit req l => Sys2Proof.Machine.execLoopInit req l s
  | .pwmPeriodStart p => Sys2Proof.Machine.execPwmPeriodStart p s
  | .calRun req v => Sys2Proof.Machine.execCalRun req v s
  | .calRunEnd samples => Sys2Proof.Machine.execCalRunEnd samples s
  | .calTimeout => Sys2Proof.Machine.execCalTimeout s
  | .calApply req v => Sys2Proof.Machine.execCalApply req v s
  | .nzSetWrite l => Sys2Proof.Machine.execNzSetWrite l s
  | .calTriggerEval => Sys2Proof.Machine.execCalTriggerEval s
  | .qzProg req => Sys2Proof.Machine.execQzProg req s
  | .qzProgEnd ok => Sys2Proof.Machine.execQzProgEnd ok s
  | .faultResume req => Sys2Proof.Machine.execFaultResume req s
  | .errHoldRelease req => Sys2Proof.Machine.execErrHoldRelease req s
  | .errPulseEnd => Sys2Proof.Machine.execErrPulseEnd s
  | .faultForce req n => Sys2Proof.Machine.execFaultForce req n s
  | .sevWrite req n sev => Sys2Proof.Machine.execSevWrite req n sev s
  | .fltSrcClear req n v => Sys2Proof.Machine.execFltSrcClear req n v s
  | .faultInAssert => Sys2Proof.Machine.execFaultInAssert s
  | .faultInRelease => Sys2Proof.Machine.execFaultInRelease s
  | .fuseProgram req v => Sys2Proof.Machine.execFuseProgram req v s
  | .fuseProgramDone => Sys2Proof.Machine.execFuseProgramDone s
  | .tokenCheck req op => Sys2Proof.Machine.execTokenCheck req op s
  | .tokenExpire => Sys2Proof.Machine.execTokenExpire s
  | .imageLoad req e => Sys2Proof.Machine.execImageLoad req e s
  | .imageLoadDone ddrError => Sys2Proof.Machine.execImageLoadDone ddrError s
  | .provision req => Sys2Proof.Machine.execProvision req s
  | .geoUnlock req => Sys2Proof.Machine.execGeoUnlock req s
  | .classc req => Sys2Proof.Machine.execClassc req s
  | .tamperSample mesh switches dieTemp => Sys2Proof.Machine.execTamperSample mesh switches dieTemp s
  | .vbatLow => Sys2Proof.Machine.execVbatLow s
  | .xtalStop => Sys2Proof.Machine.execXtalStop s
  | .ledgerOpen req => Sys2Proof.Machine.execLedgerOpen req s
  | .ledgerClose req => Sys2Proof.Machine.execLedgerClose req s
  | .ledgerAccept => Sys2Proof.Machine.execLedgerAccept s
  | .cpSig => Sys2Proof.Machine.execCpSig s
  | .ledgerSend => Sys2Proof.Machine.execLedgerSend s
  | .lgRingHiWrite req v => Sys2Proof.Machine.execLgRingHiWrite req v s
  | .supplyAuth n => Sys2Proof.Machine.execSupplyAuth n s
  | .supplyResponse n bytes => Sys2Proof.Machine.execSupplyResponse n bytes s
  | .supplyBusyRetry n => Sys2Proof.Machine.execSupplyBusyRetry n s
  | .supplyReauth n => Sys2Proof.Machine.execSupplyReauth n s
  | .supplyTimeout n => Sys2Proof.Machine.execSupplyTimeout n s
  | .supplyDecrement n => Sys2Proof.Machine.execSupplyDecrement n s
  | .selfTest ok => Sys2Proof.Machine.execSelfTest ok s
  | .entropyTestFail => Sys2Proof.Machine.execEntropyTestFail s
  | .twinEnable req => Sys2Proof.Machine.execTwinEnable req s
  | .twinSwitch req => Sys2Proof.Machine.execTwinSwitch req s
  | .twinRejoin req => Sys2Proof.Machine.execTwinRejoin req s
  | .basaltCapRx link payload => Sys2Proof.Machine.execBasaltCapRx link payload s
  | .helloRx nonce link => Sys2Proof.Machine.execHelloRx nonce s link
  | .authRx payload link => Sys2Proof.Machine.execAuthRx payload s link
  | .basaltReneg link => Sys2Proof.Machine.execBasaltReneg link s
  | .heartbeatTx => Sys2Proof.Machine.execHeartbeatTx s
  | .hbRx link payload q => Sys2Proof.Machine.execHbRx link payload s q
  | .mirrorRx link payload => Sys2Proof.Machine.execMirrorRx link payload s
  | .csignRx link payload => Sys2Proof.Machine.execCsignRx link payload s
  | .roleRx link payload => Sys2Proof.Machine.execRoleRx link payload s
  | .heartbeatLoss q => Sys2Proof.Machine.execHeartbeatLoss s q
  | .quorumSilent q => Sys2Proof.Machine.execQuorumSilent s q
  | .takeoverDecide q => Sys2Proof.Machine.execTakeoverDecide s q
  | .leaseWaitExpire => Sys2Proof.Machine.execLeaseWaitExpire s
  | .mirrorAckTimeout => Sys2Proof.Machine.execMirrorAckTimeout s
  | .quorumMismatch q => Sys2Proof.Machine.execQuorumMismatch s q
  | .debugUnlock req => Sys2Proof.Machine.execDebugUnlock req s
  | .debugLock req => Sys2Proof.Machine.execDebugLock req s
  | .bench req => Sys2Proof.Machine.execBench req s
  | .freeze req => Sys2Proof.Machine.execFreeze req s
  | .freezePin stops => Sys2Proof.Machine.execFreezePin stops s
  | .debugResume req => Sys2Proof.Machine.execDebugResume req s
  | .dbgacc write addr v => Sys2Proof.Machine.execDbgacc write addr v s
  | .mwinDataRead req => Sys2Proof.Machine.execMwinDataRead req s
  | .mwinDataWrite req v => Sys2Proof.Machine.execMwinDataWrite req v s
  | .scanout => Sys2Proof.Machine.execScanout s
  | .extest tdi => Sys2Proof.Machine.execExtest s tdi
  | .samplePreload tdi => Sys2Proof.Machine.execSamplePreload s tdi
  | .idcode => Sys2Proof.Machine.execIdcode s
  | .clamp => Sys2Proof.Machine.execClamp s
  | .highz => Sys2Proof.Machine.execHighz s
  | .bypass => Sys2Proof.Machine.execBypass s
  | .aonIslandRuns => Sys2Proof.Machine.execAonIslandRuns s
  | .railReturn rail => Sys2Proof.Machine.execRailReturn rail s
  | .clockReturn => Sys2Proof.Machine.execClockReturn s
  | .localGateWindow g test samples => Sys2Proof.Machine.execLocalGateWindow g test samples s

end Sys2Proof.Machine
end

