-- ==== Sys2Proof/Machine/Pins.lean ====
section
/-!
DEFINITION. Pins.lean: the levels of the output pins in every phase from the first rail to firmware control (02_package_power.md R45, R46,
Table 2.4; 03_startup.md R74, R79 to R81, Table 3.2).
-/

namespace Sys2Proof.Machine
open Reg Fld

/-- The output pins of Table 2.4, a group's balls by number. -/
inductive Pin where
  | en (a : Nat) | pwm (p : Nat) | step (a : Nat) | dir (a : Nat) | rej (r : Nat)
  | emuA (n : Nat) | emuB (n : Nat) | emuZ (n : Nat)
  | hlTx (l : Nat) | blTx (i : Nat) | qwOut (i : Nat) | pet | clkreqN | wakeN | errN
  | drstN (m : Nat) | ddrCk (m : Nat) | ddrCsN (m : Nat)
  | qspiSclk | qspiCsN | qspiIo (i : Nat) | i2cScl (b : Nat) | i2cSda (b : Nat) | gpio (i : Nat) | tdo
deriving DecidableEq, Repr

/-- What a pin does: `highZ` is high impedance, `undriven` a supply not yet up, `idle` electrical idle, `input` an input with its pull;
`driven` says that its block drives it with a signal. -/
inductive Level where
  | highZ | undriven | released | idle | low | high | stopped | input | driven
deriving DecidableEq, Repr

/-- The phases of Table 3.2. -/
inductive BootPhase where
  | ramp | held | rom | firmware
deriving DecidableEq, Repr

/-- The phase the part is in. After a failed boot the outputs stay in the boot ROM phase (R81). -/
def State.bootPhase (s : State) : BootPhase :=
  if !s.power.aonRuns then .ramp else if s.power.resetLow then .held else if s.firmware then .firmware else .rom

/-- Rails ramping, the AON island not running (R46, Table 3.2). -/
def Pin.ramp : Pin → Level
  | .en _ | .pwm _ | .step _ | .dir _ | .rej _ | .emuA _ | .emuB _ | .emuZ _ | .gpio _ | .tdo => .highZ
  | .errN | .i2cScl _ | .i2cSda _ | .clkreqN | .wakeN => .released
  | .hlTx _ | .blTx _ | .qwOut _ | .pet | .drstN _ | .ddrCk _ | .ddrCsN _ | .qspiSclk | .qspiCsN | .qspiIo _ => .undriven

/-- The reset state of Table 2.4. -/
def Pin.reset : Pin → Level
  | .en _ | .pwm _ | .step _ | .dir _ | .rej _ | .emuA _ | .emuB _ | .emuZ _ | .qwOut _ | .errN | .drstN _ | .qspiSclk => .low
  | .hlTx _ | .blTx _ | .pet => .idle
  | .clkreqN | .wakeN | .i2cScl _ | .i2cSda _ => .released
  | .ddrCk _ => .stopped
  | .ddrCsN _ | .qspiCsN => .high
  | .qspiIo _ | .gpio _ => .input
  | .tdo => .highZ

/-- While the boot ROM runs and after a failed boot: the reset state, but for ERR_N, which follows its register, the PCIe lanes, which train
once PERST_N is high, and QSPI, which the boot ROM drives while it loads (Table 3.2). -/
def State.romPin (s : State) (p : Pin) : Level :=
  match p with
  | .errN => if s.b FLT_STAT_ERR_N_LOW then .low else .released
  | .pet => if s.power.perstLow then .idle else .driven
  | .qspiSclk | .qspiCsN | .qspiIo _ => if s.f SYS_BOOT_STAT_STAGE = 1 then .driven else p.reset
  | _ => p.reset

/-- The EN output of an axis: MOT_CTRL.ENABLE unless forced low; low in STANDBY (Table 19.4). -/
def State.enPin (s : State) (a : Nat) : Bool := s.b (MOT_CTRL_ENABLE a) && s.role ≠ 3 && !s.pinsCut && !s.power.resetLow

/-- A REJ output: the station's window; low while frozen, in STANDBY and in TAKEOVER, where diversion waits for PRIMARY, and until firmware runs
(R535, R708, R719, Table 19.4). -/
def State.rejPin (s : State) (r : Nat) : Bool := (s.rej r).high && s.role ≠ 3 && s.role ≠ 4 && s.firmware && !s.b DBG_STAT_FROZEN && !s.power.resetLow

/-- ERR_N low (R640 to R642). -/
def State.errPin (s : State) : Bool := s.b FLT_STAT_ERR_N_LOW

/-- A level of a Bool. -/
def Level.of (high : Bool) : Level := if high then .high else .low

/-- (A, B) of an emulation output: 00, 10, 11, 01 as the count rises; low while EN is 0 and in STANDBY (R572, R574, Table 19.4). -/
def State.emuPins (s : State) (n : Nat) : Bool × Bool :=
  let k := (s.emu n).emitted % 4
  if s.b (EMU_CFG_EN n) && s.role ≠ 3 then (k = 1 || k = 2, k = 2 || k = 3) else (false, false)

/-- What the blocks drive under firmware. STEP and EMU_Z stand low between their pulses; a PWM output that runs carries its periods. -/
def State.firmwarePin (s : State) (p : Pin) : Level :=
  match p with
  | .en a => .of (s.enPin a)
  | .pwm p => if s.b (PWM_CFG_EN p) && !s.pwmLow p then .driven else .low
  | .step _ | .emuZ _ => .low
  | .dir a => .of ((s.axis a).dir && s.f (MOT_CFG_KIND a) = 1 && s.role ≠ 3)
  | .rej r => .of (s.rejPin r)
  | .emuA n => .of (s.emuPins n).1
  | .emuB n => .of (s.emuPins n).2
  | .hlTx l => if s.b SYS_PWR_CTRL_PARKED || s.b DBG_STAT_FROZEN || (s.lane l).phase.still then .idle else .driven
  | .blTx i => if s.b DBG_STAT_FROZEN || (s.basaltLane i).phase.still then .idle else .driven
  | .qwOut i => .of (if i = 0 then s.twin.qwOut.1 else s.twin.qwOut.2)
  | .pet => if s.power.perstLow || s.b PCIE_LINK_STAT_L1 then .idle else .driven
  | .errN => if s.errPin then .low else .released
  | .drstN m => .of (s.f (MEMC_CH_STAT_TRAIN_STATE m) ≠ 0)
  | .ddrCk m | .ddrCsN m => if s.f (MEMC_CH_STAT_TRAIN_STATE m) ≠ 0 then .driven else p.reset
  | .qspiSclk | .qspiCsN | .qspiIo _ => .driven
  | .i2cScl b | .i2cSda b =>
    if (List.range 16).any fun n => s.b (SUP_CFG_EN n) && s.f (SUP_CFG_BUS n) = b then .driven else .released
  | .clkreqN | .wakeN | .gpio _ | .tdo => p.reset

/-- A pin's number among those that the boundary register covers: it does not cover the SerDes, PCIe and DDR5 balls, nor those of the TAP
(R728). -/
def Pin.ball : Pin → Option Nat
  | .en a => some a
  | .pwm p => some (64 + p)
  | .step a => some (128 + a)
  | .dir a => some (192 + a)
  | .rej r => some (256 + r)
  | .emuA n => some (320 + n)
  | .emuB n => some (384 + n)
  | .emuZ n => some (448 + n)
  | .qwOut i => some (512 + i)
  | .clkreqN => some 576
  | .wakeN => some 577
  | .errN => some 578
  | .qspiSclk => some 579
  | .qspiCsN => some 580
  | .qspiIo i => some (640 + i)
  | .i2cScl b => some (704 + b)
  | .i2cSda b => some (768 + b)
  | .gpio i => some (832 + i)
  | .hlTx _ | .blTx _ | .pet | .drstN _ | .ddrCk _ | .ddrCsN _ | .tdo => none

/-- What the boundary register or HIGHZ makes of a pin, where the TAP drives it: EXTEST and CLAMP drive the register's bits, HIGHZ nothing (R728). -/
def State.boundaryPin (s : State) (p : Pin) : Option Level :=
  match p.ball with
  | none => none
  | some n =>
    if !s.boundaryOk then none
    else if s.jtagIr = 0x04 then some .highZ
    else if s.jtagIr = 0x00 || s.jtagIr = 0x03 then
      some (match Config.boundaryCell s.bsr n with
        | some high => .of high
        | none => .highZ)
    else none

/-- The level of an output pin while the TAP drives none (Table 3.2). No rule gives firmware a register of GPIO, CLKREQ_N or WAKE_N: they keep their
reset state, as TDO does between shifts (log 93). -/
def State.blockPin (s : State) (p : Pin) : Level :=
  match s.bootPhase with
  | .ramp => p.ramp
  | .held => p.reset
  | .rom => s.romPin p
  | .firmware => s.firmwarePin p

/-- The level of an output pin. -/
def State.pin (s : State) (p : Pin) : Level := (s.boundaryPin p).getD (s.blockPin p)

end Sys2Proof.Machine
end

