-- ==== Sys2Proof/Safety.lean ====
section
/-!
DEFINITION. Safety.lean: the terms in which statements speak of the block: its canonical forms, and what a command leaves alone.
-/

namespace Sys2Proof.Machine
open Reg Fld

/-! Canonical forms -/

/-- The memory is in canonical form. -/
abbrev State.memWf (s : State) : Prop := Memory.wf s.mem

/-- The registers are in canonical form. -/
abbrev State.regsWf (s : State) : Prop := Map.wf resetOf s.regs = true

/-! Frames -/

/-- Every byte of memory is as before. -/
def State.sameMem (s t : State) : Prop := ∀ a, t.byte a = s.byte a

/-- Every register of the BAR0 map is as before. -/
def State.sameRegs (s t : State) : Prop := ∀ a, t.rd a = s.rd a

/-- Every register is as before but those listed, and all memory is. -/
def State.regsBut (s t : State) (l : List Nat) : Prop := t.mem = s.mem ∧ ∀ a, a ∉ l → t.rd a = s.rd a

/-! Ticks -/

/-- No command waits and TIMEBASE runs, so that the next step is a tick. -/
def State.ticking (s : State) : Prop := s.pending = [] ∧ s.power.porHeld = false ∧ s.power.aonRuns = true

/-- No channel but those listed has a correction to make, and no input of an axis waits for its DEB. -/
def State.inputsQuiet (s : State) (l : List Nat) : Prop :=
  (∀ c, c ∉ l → (s.chan c).corr = none) ∧ ∀ a, (s.axis a).limNAt = none ∧ (s.axis a).limPAt = none ∧ (s.axis a).homeAt = none

/-- No engine but those listed has a posted store. -/
def State.storesQuiet (s : State) (l : List Nat) : Prop := ∀ e, e ∉ l → (s.eng e).storeBuf = []

/-- The step is a tick that changes nothing but TIMEBASE. -/
def State.onlyTime (s : State) : Prop :=
  ∃ t, step s = .next t ∧ t.tb = s.tb + 1 ∧ { t with tb := s.tb, firstThis := s.firstThis } = s

/-! Accesses -/

/-- An access of a requester to a register at a reaches its block. -/
def State.reaches (s : State) (req : Req) (a : Nat) : Prop := s.busUp req a = true

/-- A write of a requester to a reaches its block, and an unlock of that block is in force for it (R126). -/
def State.granted (s : State) (req : Req) (a : Nat) : Prop := s.busUp req a = true ∧ (s.consume req a).1 = true

/-! Engines -/

/-- Copy c of an engine can issue an instruction: its clocks run, it runs, is not suspended by PARKED and not stalled, and its page of IMEM
is locked as signed (R149, R190). -/
def State.canIssue (s : State) (c : Nat) : Prop :=
  s.asleep = false ∧ (s.eng c).running = true ∧ (s.eng c).suspended = false ∧ (s.eng c).stall = none ∧
  bitAt (s.f (ENG_SIGPAGES_LOCKED c)) ((s.eng c).pc.toNat / 4096) = true

/-- An engine with other posted stores. -/
def Engine.posting (b : List Posted) (x : Engine) : Engine := { x with storeBuf := b }

/-- The copies of the SPE pair stand alike: engine, but for posted stores, which SPE0 alone has (R154), and DMEM (R13, R746). -/
def State.pairAlike (s : State) : Prop :=
  (∃ b, s.eng 15 = (s.eng 14).posting b) ∧ ∀ i < 0x20000, s.byte (dmemBase 15 + i) = s.byte (dmemBase 14 + i)

/-- Engine e can issue an instruction; of the pair, both copies alike. -/
def State.ready (s : State) (e : Nat) : Prop := s.canIssue (xReq e) ∧ (14 ≤ e → s.pairAlike)

/-- Engine e stands stalled in instruction i, and can try it again. -/
def State.stalledIn (s : State) (e : Nat) (i : Instr) : Prop :=
  s.asleep = false ∧ (s.eng (xReq e)).running = true ∧ (s.eng (xReq e)).suspended = false ∧ (s.eng (xReq e)).stall = some i ∧
  bitAt (s.f (ENG_SIGPAGES_LOCKED (xReq e))) ((s.eng (xReq e)).pc.toNat / 4096) = true ∧ (14 ≤ e → s.pairAlike)

/-- An engine at the instruction after the one it executes. -/
def Engine.ahead (x : Engine) : Engine := { x with pc := toPc ((x.pc.zeroExtend 32 : Word) + 4), stall := none }

/-- The engine that executes a command that is an instruction (Tables 5.4 to 5.7). -/
def engineOf : Instr → Option (Fin 16)
  | .add e _ _ _ _ | .sub e _ _ _ _ | .and e _ _ _ _ | .or e _ _ _ _ | .xor e _ _ _ _ | .sll e _ _ _ _ | .srl e _ _ _ _ | .sra e _ _ _ _
  | .slt e _ _ _ _ | .sltu e _ _ _ _ | .mul e _ _ _ _ | .mulh e _ _ _ _ | .mulhu e _ _ _ _ | .mulq e _ _ _ _ | .addi e _ _ _ | .andi e _ _ _
  | .ori e _ _ _ | .xori e _ _ _ | .slti e _ _ _ | .sltiu e _ _ _ | .slli e _ _ _ | .srli e _ _ _ | .srai e _ _ _ | .lui e _ _ _
  | .lw e _ _ _ | .lh e _ _ _ | .lhu e _ _ _ | .lb e _ _ _ | .lbu e _ _ _ | .sw e _ _ _ | .sh e _ _ _ | .sb e _ _ _ | .callr e _ _ _
  | .csrr e _ _ _ | .csrw e _ _ _ | .csrm e _ _ _ | .beq e _ _ _ | .bne e _ _ _ | .blt e _ _ _ | .bge e _ _ _ | .bltu e _ _ _
  | .bgeu e _ _ _ | .j e _ | .call e _ | .snop e _ | .halt e _ | .trap e _ | .rett e _ | .wait e _ | .fenceE e _ | .fenceD e _ | .fenceH e _
  | .fenceL e _ | .lissue e _ _ _ _ | .nzld e _ _ _ _ | .nzst e _ _ _ _ | .nzcas e _ _ _ _ | .lgput e _ _ _ _ | .cswap e _ _ _ _
  | .emit e _ _ _ _ | .recv e _ _ _ _ => some e
  | _ => none

/-- The state with other engines. -/
def State.withEngines (s : State) (m : List (Nat × Engine)) : State := { s with engines := m }

/-- `t` is `s` with the copies of engine e changed by `g`, their watchdogs counting on, and nothing else changed. -/
def State.engineOnly (s t : State) (e : Nat) (g : Engine → Engine) : Prop :=
  (∀ c, t.eng c = if c ∈ xCopies e then Engine.wdogSync s.tb (g (s.eng c)) else s.eng c) ∧
  t.withEngines s.engines = s.begin

/-- `t` is `s` after an instruction of engine e has retired that changes its engine by `g` and nothing else. -/
def State.retired (s t : State) (e : Nat) (g : Engine → Engine) : Prop := s.engineOnly t e fun x => g x.ahead

/-- `t` is `s` after engine e has begun to stall in instruction i: nothing else changes. -/
def State.stallsIn (s t : State) (e : Nat) (i : Instr) : Prop :=
  s.engineOnly t e fun x => { x with stall := some i, stallAt := s.tb, fenceMark := s.issueSeq }

/-- An engine that has taken a trap (R182). -/
def Engine.trapEntered (tb cause : Nat) (tval : Word) (x : Engine) : Engine :=
  { x with
    tpc := x.pc.zeroExtend 32
    tcause := BitVec.ofNat 32 cause
    tval := tval
    status := x.status ||| 1
    lastCause := cause
    wdog := 1024 * x.wdogLoad.toNat
    wdogFrom := tb
    pc := toPc x.tvec
    stall := none }

/-- The address of a load or store (Table 5.5). -/
def State.accessAddr (s : State) (e : Fin 16) (rs1 : Fin 32) (imm : BitVec 16) : Nat :=
  (s.g (xReq e) rs1 + imm.signExtend 32).toNat

/-- The little-endian value of `n` bytes of memory. -/
def State.valueAt (s : State) (a n : Nat) : Nat := ofLe (s.readMem a n)

end Sys2Proof.Machine
end

