-- ==== Sys2Proof/Certificates/Slice0/Obligations.lean ====
section
/-!
DEFINITION. Obligations.lean: the statements for the provers. Helper terms are those of Safety.lean; a statement about commands of one shape lists
them beside the function the spec gives each.
-/

open Sys2Proof Sys2Proof.Machine
open Sys2Proof.Machine.Reg Sys2Proof.Machine.Fld

/-! The step -/

/-- A step takes the command at the front of the queue and executes it with the queue's rest (log 12). -/
def Obligations.StepRunsFrontCommand : Prop :=
  ∀ (c : Instr) (rest : List Instr) (s : State), step { s with pending := c :: rest } = exec c { s with pending := rest }

/-- With no command waiting a step is a tick (the model's choice: log 12, 13). TIMEBASE counts, and where no posted store or input waits, or the
clocks of the main rails stand still, nothing else changes. R151: an engine's oldest posted store drains, the others keeping their order: to DDR free
of errors its bytes go there; beyond installed DDR, to no block, or of the SPE pair in PARKED it is dropped with source 20 (R64, R113, R159); to a
register it writes the register; to a nozzle entry it writes the entry. R565: a correction on index is made at the end of the sample after the index
(log 63). -/
def Obligations.IdleStepIsATick : Prop :=
  ∀ s : State, s.ticking →
    (s.asleep = true ∨ (s.inputsQuiet [] ∧ s.storesQuiet []) → s.onlyTime) ∧
    (s.asleep = false →
      (∀ (e : Fin 15) (p : Posted) (rest : List Posted), s.inputsQuiet [] → s.storesQuiet [e] → (s.eng e).storeBuf = p :: rest →
        let drained (t : State) : Prop := step s = .next t ∧ t.tb = s.tb + 1 ∧ (t.eng e).storeBuf = rest
        let d := p.addr - 0x100000000
        let ddr := 0x100000000 ≤ p.addr
        let parked := e.val = 14 ∧ s.b SYS_PWR_CTRL_PARKED = true
        let dropped (info : Nat) : Prop := ∃ t, drained t ∧ t.mem = s.mem ∧ t.b (FLT_SRC_LATCHED 20) = true ∧ t.rn (FLT_INFO 20) = info
        (p.nozzle = false →
          (ddr → d + p.bytes.length ≤ s.installed → d + p.bytes.length ≤ 0x800000000 → ¬ parked → s.soft = [] → s.poison = [] →
            ∃ t, drained t ∧ t.regs = s.regs ∧ ∀ b, t.byte b = if d ≤ b then (p.bytes[b - d]?).getD (s.byte b) else s.byte b) ∧
          (ddr → s.installed < d + p.bytes.length ∨ parked →
            dropped ((0x80000000 + d - (s.eng e).apBase) % 0x1000000 + e * 0x1000000)) ∧
          (0x1000000 ≤ p.addr ∨ (windowRange p.addr = false ∧ rowOf p.addr = none ∧ p.bytes.length ≤ 4 ∧ s.busUp e p.addr = true) → ¬ ddr →
            dropped (p.addr % 0x1000000 + e * 0x1000000)) ∧
          (∀ (x : Fin 16) (v : Word), ∀ r ∈ ([(FLT_IRQ, 0x7BF), (MOT_VMAX x, 0xFFFFFFFF), (SUP_TIMING, 0x3FFF)] : List (Nat × Word)),
            p.addr = r.1 → p.bytes = leBytes 4 v.toNat → s.busUp e r.1 = true →
            ∃ t, drained t ∧ s.regsBut t [r.1] ∧ t.rd r.1 = (s.rd r.1 &&& ~~~r.2) ||| (v &&& r.2))) ∧
        (p.nozzle = true → p.addr < 0x40000 → p.bytes.length = 8 → ∃ t, step s = .next t ∧ t.tb = s.tb + 1 ∧
          t.nozzle p.addr % 2 ^ 63 = ofLe p.bytes % 2 ^ 63 ∧ onesBelow (t.nozzle p.addr) 64 % 2 = 0 ∧
          ∀ b, (b < nozzleAddr p.addr ∨ nozzleAddr p.addr + 8 ≤ b) → t.byte b = s.byte b)) ∧
      (∀ (c : Fin 12) (diff : Int) (at_ : Nat), s.inputsQuiet [c] → s.storesQuiet [] → (s.chan c).corr = some (diff, at_) →
        s.f (FB_LIVE_DET_MODE c) ≠ 2 →
        (s.tb < at_ + 8 → s.onlyTime) ∧
        (at_ + 8 ≤ s.tb → ∃ t, step s = .next t ∧ t.tb = s.tb + 1 ∧ t.mem = s.mem ∧ (t.chan c).corr = none ∧
          (s.unitOwned c = false → (t.rd64 (FB_POS_LO c) : Int) = (s.rdS64 (FB_POS_LO c) - diff) % 0x10000000000000000) ∧
          (s.unitOwned c = true → t.b (FB_STAT_IGN_CORR c) = true ∧ t.rd64 (FB_POS_LO c) = s.rd64 (FB_POS_LO c)))))

/-! Engine instructions: registers (Tables 5.4 and 5.5) -/

/-- Table 5.4 but for MULQ: a ready engine retires the operation into rd and changes nothing else; g0 takes no value.
MULQ (R166): the exact signed product, half of the last bit added, shifted right arithmetically, saturated to 32 bits. -/
def Obligations.RegisterOperationsRetire : Prop :=
  (∀ (e : Fin 16) (rd rs1 rs2 : Fin 32) (s : State), s.ready e →
    ∀ p ∈ ([(Instr.add, fun a b => a + b),
            (Instr.sub, fun a b => a - b),
            (Instr.and, fun a b => a &&& b),
            (Instr.or, fun a b => a ||| b),
            (Instr.xor, fun a b => a ^^^ b),
            (Instr.sll, fun a b => BitVec.ofNat 32 (a.toNat * 2 ^ (b.toNat % 32))),
            (Instr.srl, fun a b => BitVec.ofNat 32 (a.toNat / 2 ^ (b.toNat % 32))),
            (Instr.sra, fun a b => BitVec.ofInt 32 (a.toInt / 2 ^ (b.toNat % 32))),
            (Instr.slt, fun a b => if a.toInt < b.toInt then 1 else 0),
            (Instr.sltu, fun a b => if a.toNat < b.toNat then 1 else 0),
            (Instr.mul, fun a b => BitVec.ofNat 32 (a.toNat * b.toNat)),
            (Instr.mulh, fun a b => BitVec.ofInt 32 (a.toInt * b.toInt / 2 ^ 32)),
            (Instr.mulhu, fun a b => BitVec.ofNat 32 (a.toNat * b.toNat / 2 ^ 32))] :
          List ((Fin 16 → Fin 32 → Fin 32 → Fin 32 → BitVec 5 → Instr) × (Word → Word → Word))),
    ∃ t, exec (p.1 e rd rs1 rs2 0) s = .next t ∧ s.retired t e fun x => x.setG rd (p.2 (x.g rs1) (x.g rs2))) ∧
  (∀ (e : Fin 16) (rd rs1 rs2 : Fin 32) (sh : BitVec 5) (s : State), s.ready e →
    ∃ t, exec (.mulq e rd rs1 rs2 sh) s = .next t ∧ s.retired t e fun x =>
      let p : Int := (x.g rs1).toInt * (x.g rs2).toInt
      let p := if 0 < sh.toNat then p + 2 ^ (sh.toNat - 1) else p
      let p := p / 2 ^ sh.toNat
      x.setG rd (BitVec.ofInt 32 (min (max p (-2147483648)) 2147483647)))

/-- Table 5.5, the operations on imm16: a ready engine retires the result into rd and changes nothing else. A shift's imm[15:5] and
LUI's rs1 field are 0. -/
def Obligations.ImmediateOperationsRetire : Prop :=
  ∀ (e : Fin 16) (rd rs1 : Fin 32) (imm : BitVec 16) (s : State), s.ready e →
    ∀ p ∈ ([(Instr.addi, fun a => a + imm.signExtend 32, True),
            (Instr.andi, fun a => a &&& imm.zeroExtend 32, True),
            (Instr.ori, fun a => a ||| imm.zeroExtend 32, True),
            (Instr.xori, fun a => a ^^^ imm.zeroExtend 32, True),
            (Instr.slti, fun a => if a.toInt < imm.toInt then 1 else 0, True),
            (Instr.sltiu, fun a => if a.toNat < (imm.signExtend 32 : Word).toNat then 1 else 0, True),
            (Instr.slli, fun a => BitVec.ofNat 32 (a.toNat * 2 ^ (imm.toNat % 32)), imm.toNat < 32),
            (Instr.srli, fun a => BitVec.ofNat 32 (a.toNat / 2 ^ (imm.toNat % 32)), imm.toNat < 32),
            (Instr.srai, fun a => BitVec.ofInt 32 (a.toInt / 2 ^ (imm.toNat % 32)), imm.toNat < 32),
            (Instr.lui, fun _ => BitVec.ofNat 32 (imm.toNat * 65536), rs1 = 0)] :
          List ((Fin 16 → Fin 32 → Fin 32 → BitVec 16 → Instr) × (Word → Word) × Prop)),
    p.2.2 → ∃ t, exec (p.1 e rd rs1 imm) s = .next t ∧ s.retired t e fun x => x.setG rd (p.2.1 (x.g rs1))

/-- R146: g0 reads 0 and a write of it is discarded; every other register reads what was written last. -/
def Obligations.GeneralRegisterZero : Prop :=
  ∀ (x : Engine) (r q : Fin 32) (v : Word),
    x.g 0 = 0 ∧ x.setG 0 v = x ∧ (r ≠ 0 → (x.setG r v).g q = if q = r then v else x.g q)

/-! Engine instructions: memory (Table 5.5) -/

/-- A load from the engine's own DMEM at a multiple of its size retires with the bytes, least significant first, extended as Table 5.5
gives, and changes nothing else.
A store to the engine's own DMEM at a multiple of its size puts the low bytes of g[rd] there, in both copies of the pair, and changes no
other byte and nothing else. -/
def Obligations.OwnDmemAccesses : Prop :=
  (∀ (e : Fin 16) (rd rs1 : Fin 32) (imm : BitVec 16) (s : State), s.ready e →
    ∀ p ∈ ([(Instr.lw, 4, fun v => BitVec.ofNat 32 v),
            (Instr.lh, 2, fun v => (BitVec.ofNat 16 v).signExtend 32),
            (Instr.lhu, 2, fun v => BitVec.ofNat 32 v),
            (Instr.lb, 1, fun v => (BitVec.ofNat 8 v).signExtend 32),
            (Instr.lbu, 1, fun v => BitVec.ofNat 32 v)] :
          List ((Fin 16 → Fin 32 → Fin 32 → BitVec 16 → Instr) × Nat × (Nat → Word))),
    let a := s.accessAddr e rs1 imm
    a % p.2.1 = 0 → 0x10000000 ≤ a → a < 0x10020000 →
    ∃ t, exec (p.1 e rd rs1 imm) s = .next t ∧
      s.retired t e fun x => x.setG rd (p.2.2 (s.valueAt (dmemBase (xReq e) + (a - 0x10000000)) p.2.1))) ∧
  (∀ (e : Fin 16) (rd rs1 : Fin 32) (imm : BitVec 16) (s : State), s.ready e →
    ∀ p ∈ ([(Instr.sw, 4), (Instr.sh, 2), (Instr.sb, 1)] : List ((Fin 16 → Fin 32 → Fin 32 → BitVec 16 → Instr) × Nat)),
    let a := s.accessAddr e rs1 imm
    a % p.2 = 0 → 0x10000000 ≤ a → a < 0x10020000 →
    ∃ t, exec (p.1 e rd rs1 imm) s = .next t ∧ s.retired { t with mem := s.mem } e (fun x => x) ∧
      (∀ c ∈ xCopies e, ∀ k < p.2,
        t.byte (dmemBase c + (a - 0x10000000) + k) = BitVec.ofNat 8 ((s.g (xReq e) rd).toNat / 256 ^ k)) ∧
      ∀ b, (∀ c ∈ xCopies e, b < dmemBase c + (a - 0x10000000) ∨ dmemBase c + (a - 0x10000000) + p.2 ≤ b) → t.byte b = s.byte b)

/-- A store outside DMEM at a multiple of its size is posted in the store buffer where it has room, and stalls where it holds 16 (R151); the
memory does not change as it issues. An aperture address stands for the DDR address it reaches. -/
def Obligations.DeviceStoresArePosted : Prop :=
  ∀ (e : Fin 16) (rd rs1 : Fin 32) (imm : BitVec 16) (s : State), s.ready e →
    ∀ p ∈ ([(Instr.sw, 4), (Instr.sh, 2), (Instr.sb, 1)] : List ((Fin 16 → Fin 32 → Fin 32 → BitVec 16 → Instr) × Nat)),
    let a := s.accessAddr e rs1 imm
    let x := s.eng (xReq e)
    a % p.2 = 0 → (a < 0x10000000 ∨ 0x10020000 ≤ a) →
    ∃ t, exec (p.1 e rd rs1 imm) s = .next t ∧ t.mem = s.mem ∧ t.regs = s.regs ∧
      (x.storeBuf.length < 16 →
        (t.eng (xReq e)).stall = none ∧ (t.eng (xReq e)).pc = x.ahead.pc ∧
        (t.eng (xReq e)).storeBuf = x.storeBuf ++
          [{ addr := if a < 0x80000000 then a else 0x100000000 + x.apBase + (a - 0x80000000)
             bytes := (List.range p.2).map fun k => BitVec.ofNat 8 ((s.g (xReq e) rd).toNat / 256 ^ k) }]) ∧
      (16 ≤ x.storeBuf.length →
        (t.eng (xReq e)).stall = some (p.1 e rd rs1 imm) ∧ (t.eng (xReq e)).pc = x.pc ∧ (t.eng (xReq e)).storeBuf = x.storeBuf)

/-! Engine instructions: control (Tables 5.5 to 5.7) -/

/-- Table 5.6: a branch goes to its own address plus 4 times the signed offset where its condition holds, else to the next instruction; J and CALL
always go, and CALL puts PC + 4 into g31. PC stays within 16 bits. Nothing else changes. CALLR: rd gets PC + 4 and PC goes to rs1 + sext(imm), whose
bits 1:0 are 0, within 16 bits; RET is CALLR g0, g31, 0 (R169). The target is R165's and the 16 bits R147's; that it wraps within them and that a link
is PC + 4 in 32 bits are the model's reading (DEDUCED, log 89). -/
def Obligations.BranchesAndJumps : Prop :=
  (∀ (e : Fin 16) (rs1 rs2 : Fin 32) (off : BitVec 16) (far : BitVec 26) (s : State), s.ready e →
    let goto (x : Engine) (n : Int) : Engine := { x.ahead with pc := BitVec.ofInt 16 ((x.pc.toNat : Int) + 4 * n) &&& 0xFFFC }
    (∀ p ∈ ([(Instr.beq, fun a b => a = b),
             (Instr.bne, fun a b => a ≠ b),
             (Instr.blt, fun a b => a.toInt < b.toInt),
             (Instr.bge, fun a b => b.toInt ≤ a.toInt),
             (Instr.bltu, fun a b => a.toNat < b.toNat),
             (Instr.bgeu, fun a b => b.toNat ≤ a.toNat)] :
           List ((Fin 16 → Fin 32 → Fin 32 → BitVec 16 → Instr) × (Word → Word → Prop))),
      ∃ t, exec (p.1 e rs1 rs2 off) s = .next t ∧
        (p.2 (s.g (xReq e) rs1) (s.g (xReq e) rs2) → s.engineOnly t e fun x => goto x off.toInt) ∧
        (¬ p.2 (s.g (xReq e) rs1) (s.g (xReq e) rs2) → s.engineOnly t e Engine.ahead)) ∧
    (∃ t, exec (.j e far) s = .next t ∧ s.engineOnly t e fun x => goto x far.toInt) ∧
    (∃ t, exec (.call e far) s = .next t ∧
      s.engineOnly t e fun x => { (goto x far.toInt).setG 31 (x.pc.zeroExtend 32 + 4) with pc := (goto x far.toInt).pc })) ∧
  (∀ (e : Fin 16) (rd rs1 : Fin 32) (imm : BitVec 16) (s : State), s.ready e → s.accessAddr e rs1 imm % 4 = 0 →
    ∃ t, exec (.callr e rd rs1 imm) s = .next t ∧ s.engineOnly t e fun x =>
      { x.ahead.setG rd (x.pc.zeroExtend 32 + 4) with pc := BitVec.ofNat 16 (s.accessAddr e rs1 imm) })

/-- CSRR, CSRW and CSRM on a number of Table 5.1: CSRR reads it into rd, CSRW writes rs1 to it, CSRM returns the old value and, where the mask in
rs1[31:16] is not 0, writes the half with the bits of rs1[15:0] the mask names (R114, R115, R167). Any other number is an illegal instruction (R160).
Table 5.1: what each number reads, and what a write of it does: STATUS takes bit 1 alone, TVEC has bits 1:0 clear, WDOG_KICK reloads the watchdog,
EV_CLR clears the latches of the ones written, TIMER_HI loads both halves with the LO staged, 0 where none is (R118), and a write of a read-only
number does nothing (R161). -/
def Obligations.CsrInstructions : Prop :=
  (∀ (e : Fin 16) (rd rs1 : Fin 32) (n : BitVec 12) (s : State), s.ready e → (s.eng (xReq e)).inTrap = false → s.csr? (xReq e) n.toNat = none →
    let imm : BitVec 16 := n.zeroExtend 16
    ∀ i ∈ [Instr.csrr e rd 0 imm, .csrw e 0 rs1 imm, .csrm e rd rs1 imm],
      ∃ w t, exec i s = .next t ∧ s.engineOnly t e (Engine.trapEntered s.tb 1 w)) ∧
  (∀ (c : Fin 16) (s : State),
    let x := s.eng c
    let cycles := ((if x.suspended = true then x.parkTb else s.tb) - x.startTb) / (if c.val < 8 then 1 else 2)
    let shown : List (Nat × Nat) :=
      [(0x000, (if c.val = 15 then 14 else c.val) + 16 * (if c.val < 8 then 0 else if c.val < 12 then 1 else if c.val < 14 then 2 else 3)),
       (0x001, cycles), (0x002, cycles / 0x100000000), (0x003, s.tb), (0x004, s.tb / 0x100000000), (0x010, x.status.toNat),
       (0x011, x.tvec.toNat), (0x012, x.tpc.toNat), (0x013, x.tcause.toNat), (0x014, x.tval.toNat), (0x015, x.tscratch.toNat),
       (0x020, x.wdogLoad.toNat), (0x021, 0), (0x022, (x.wdogLeft s.tb + 1023) / 1024), (0x030, x.timer.toNat),
       (0x031, x.timer.toNat / 0x100000000), (0x050, x.mailbox.length)]
    (∀ p ∈ shown, s.csr? c p.1 = some (BitVec.ofNat 32 p.2)) ∧
    (∀ k < 8, s.csr? c (0x048 + k) = some 0 ∧ ∃ w, s.csr? c (0x040 + k) = some w ∧
      ∀ i < 32, w.getLsbD i = if 32 * k + i = 0 then decide (x.mailbox ≠ []) else x.pendingEv.getLsbD (32 * k + i)) ∧
    ∀ n, (∀ p ∈ shown, n ≠ p.1) → (n < 0x040 ∨ 0x050 ≤ n) → s.csr? c n = none) ∧
  (∀ (tb : Nat) (v : Word) (x : Engine),
    (∀ p ∈ ([(0x010, { x with status := (x.status &&& ~~~2) ||| (v &&& 2) }),
             (0x011, { x with tvec := v &&& 0xFFFFFFFC }),
             (0x012, { x with tpc := v }),
             (0x015, { x with tscratch := v }),
             (0x020, { x with wdogLoad := v.extractLsb' 0 16 }),
             (0x021, { x with wdog := 1024 * x.wdogLoad.toNat, wdogFrom := tb }),
             (0x030, { x with timerStage := v }),
             (0x031, { x with timer := v ++ x.timerStage, timerStage := 0, timerDone := false })] : List (Nat × Engine)),
      x.csrWrite tb p.1 v = p.2) ∧
    (∀ k < 8, ∃ ev, x.csrWrite tb (0x048 + k) v = { x with pendingEv := ev } ∧ ∀ i < 256, ev.getLsbD i =
      (x.pendingEv.getLsbD i && !(decide (32 * k ≤ i) && decide (i < 32 * k + 32) && v.getLsbD (i - 32 * k)))) ∧
    (∀ n ∉ [0x010, 0x011, 0x012, 0x015, 0x020, 0x021, 0x030, 0x031], n < 0x048 ∨ 0x050 ≤ n → x.csrWrite tb n v = x)) ∧
  ∀ (e : Fin 16) (rd rs1 : Fin 32) (n : BitVec 12) (high : Bool) (old : Word) (s : State), s.ready e →
    s.csr? (xReq e) n.toNat = some old →
    let imm : BitVec 16 := n.zeroExtend 16
    let sh := if high then 16 else 0
    let v := s.g (xReq e) rs1
    (∃ t, exec (.csrr e rd 0 imm) s = .next t ∧ s.retired t e fun x => x.setG rd old) ∧
    (∃ t, exec (.csrw e 0 rs1 imm) s = .next t ∧ s.retired t e fun x => x.csrWrite s.tb n.toNat v) ∧
    (∃ t, exec (.csrm e rd rs1 (imm ||| (if high then 0x1000 else 0))) s = .next t ∧ s.retired t e fun x =>
      (if v >>> 16 = 0 then x
       else x.csrWrite s.tb n.toNat ((old &&& ~~~((v >>> 16) <<< sh)) ||| (((v &&& 0xFFFF) &&& (v >>> 16)) <<< sh))).setG rd old)

/-- SNOP and FENCE.E retire and do nothing else; a fetched word runs as the instruction it spells (R162), and traps with ILLEGAL and the word where
it spells none (R163); RETT goes to TPC and clears IN_TRAP, in a trap or outside one (R186); HALT, with no store
posted, halts with HALT_CAUSE 1. -/
def Obligations.SystemInstructions : Prop :=
  ∀ (e : Fin 16) (s : State), s.ready e →
    (∃ t, exec (.snop e 0xFC000000) s = .next t ∧ s.retired t e fun x => x) ∧
    (∀ w : Word, (∀ i, decodeXaone e w = some i → (∀ v, i ≠ .snop e v) → exec (.snop e w) s = exec i s) ∧
      (decodeXaone e w = none → (s.eng (xReq e)).inTrap = false →
        ∃ t, exec (.snop e w) s = .next t ∧ s.engineOnly t e (Engine.trapEntered s.tb 1 w))) ∧
    (∃ t, exec (.fenceE e 0) s = .next t ∧ s.retired t e fun x => x) ∧
    (∃ t, exec (.rett e 0) s = .next t ∧ s.retired t e fun x =>
      { x with pc := BitVec.ofNat 16 x.tpc.toNat &&& 0xFFFC, status := x.status &&& ~~~1 }) ∧
    ((s.eng (xReq e)).storeBuf = [] → ∃ t, exec (.halt e 0) s = .next t ∧ s.retired t e fun x => Engine.halt s.tb 1 x)

/-- R182, R183, R186: outside a trap, TRAP, a load, store or CALLR whose address is not a multiple of its size, and an operation with a
reserved field that is not 0 enter the handler: TPC, TCAUSE, TVAL, IN_TRAP, the watchdog reloaded, PC at TVEC; nothing else changes. -/
def Obligations.TrapsEnterTheHandler : Prop :=
  ∀ (e : Fin 16) (rd rs1 rs2 : Fin 32) (imm : BitVec 16) (sh : BitVec 5) (z : BitVec 20) (s : State), s.ready e →
    (s.eng (xReq e)).inTrap = false →
    let enters (i : Instr) (cause : Nat) (tval : Word) : Prop :=
      ∃ t, exec i s = .next t ∧ s.engineOnly t e (Engine.trapEntered s.tb cause tval)
    let a := s.accessAddr e rs1 imm
    (z.toNat < 0x10000 → enters (.trap e z) 6 (z.zeroExtend 32)) ∧
    (a % 4 ≠ 0 → enters (.lw e rd rs1 imm) 2 (BitVec.ofNat 32 a) ∧ enters (.sw e rd rs1 imm) 2 (BitVec.ofNat 32 a) ∧
      enters (.callr e rd rs1 imm) 2 (BitVec.ofNat 32 a)) ∧
    (a % 2 ≠ 0 → enters (.lh e rd rs1 imm) 2 (BitVec.ofNat 32 a) ∧ enters (.lhu e rd rs1 imm) 2 (BitVec.ofNat 32 a) ∧
      enters (.sh e rd rs1 imm) 2 (BitVec.ofNat 32 a)) ∧
    (sh ≠ 0 → enters (.add e rd rs1 rs2 sh) 1
      (BitVec.ofNat 32 (rd.val * 2 ^ 21 + rs1.val * 2 ^ 16 + rs2.val * 2 ^ 11 + sh.toNat))) ∧
    (¬ (s.g (xReq e) rs1).toNat < 0x40000 → rd ≠ 0 → rd.val % 2 = 0 → enters (.nzld e rd rs1 0 0) 3 (s.g (xReq e) rs1))

/-- R184: a trap while STATUS.IN_TRAP is 1, whatever its cause, halts the engine with HALT_CAUSE 3 and latches source 2 with its number. -/
def Obligations.DoubleTrapHalts : Prop :=
  ∀ (e : Fin 16) (cause : Nat) (tval : Word) (s : State), (∀ c ∈ xCopies e, (s.eng c).inTrap = true) →
    let t := s.xTrapAll (xReq e) cause tval
    (∀ c ∈ xCopies e, (t.eng c).running = false ∧ (t.eng c).halted = true ∧ (t.eng c).haltCause = 3 ∧ (t.eng c).gpr = (s.eng c).gpr) ∧
    t.b (FLT_SRC_LATCHED 2) = true ∧ t.rn (FLT_INFO 2) = xReq e

/-- R190: whatever the instruction, one fetched from a page whose ENG_SIGPAGES bit is 0 traps with SIGNED_PAGE and the PC, and latches source 4. -/
def Obligations.UnsignedPageTraps : Prop :=
  ∀ (e : Fin 16) (i : Instr) (s : State), engineOf i = some e → s.asleep = false → (s.eng (xReq e)).running = true →
    (s.eng (xReq e)).suspended = false → (s.eng (xReq e)).stall = none → (s.eng (xReq e)).inTrap = false → (14 ≤ e.val → s.pairAlike) →
    bitAt (s.f (ENG_SIGPAGES_LOCKED (xReq e))) ((s.eng (xReq e)).pc.toNat / 4096) = false →
    ∃ t, exec i s = .next t ∧ (t.eng (xReq e)).tpc = (s.eng (xReq e)).pc.zeroExtend 32 ∧
      (t.eng (xReq e)).tval = (s.eng (xReq e)).pc.zeroExtend 32 ∧ (t.eng (xReq e)).tcause = 4 ∧ (t.eng (xReq e)).inTrap = true ∧
      (t.eng (xReq e)).pc = BitVec.ofNat 16 (s.eng (xReq e)).tvec.toNat &&& 0xFFFC ∧ (t.eng (xReq e)).gpr = (s.eng (xReq e)).gpr ∧
      t.b (FLT_SRC_LATCHED 4) = true

/-- WAIT (R179): on an event of the engine's role it retires at once where the event is pending, clearing the latch of an edge event, and else stalls;
WAIT_WAKE retires a stalled WAIT whose event has become pending. R185: WATCHDOG_EXPIRE of a running engine whose count has reached 0 traps with
WATCHDOG, TPC naming the instruction at PC, stalled or not, reloads the watchdog and latches source 3; a STOP that waited is met there (R158).
TIMER_MATCH sets event 1 pending once TIMEBASE has reached TIMER (Table 5.8). -/
def Obligations.EventsAndWatchdog : Prop :=
  (∀ (e : Fin 16) (z : BitVec 20) (s : State), z.toNat < 256 → eventFor (xRole (xReq e)) z.toNat = true →
    let taken (x : Engine) : Engine := if z.toNat = 0 then x else { x with pendingEv := x.pendingEv &&& ~~~(1#256 <<< z.toNat) }
    let pending : Prop := if z.toNat = 0 then (s.eng (xReq e)).mailbox ≠ [] else (s.eng (xReq e)).pendingEv.getLsbD z.toNat = true
    (s.ready e → pending → ∃ t, exec (.wait e z) s = .next t ∧ s.retired t e taken) ∧
    (s.ready e → ¬ pending → ∃ t, exec (.wait e z) s = .next t ∧ s.stallsIn t e (.wait e z)) ∧
    (s.stalledIn e (.wait e z) → pending → ∃ t, exec (.waitWake e) s = .next t ∧ s.retired t e taken)) ∧
  (∀ (e : Fin 16) (s : State), s.asleep = false →
    let x := s.eng (xReq e)
    (x.running = true → x.suspended = false → x.wdogOn = true → x.wdogLeft s.tb = 0 → x.inTrap = false → x.stopAsked = true → e.val < 14 →
      ∃ t, exec (.watchdogExpire e) s = .next t ∧ (t.eng e).tcause = 5 ∧ (t.eng e).pc = toPc x.tvec ∧ (t.eng e).halted = true ∧
        (t.eng e).haltCause = 2 ∧ (t.eng e).running = false) ∧
    (x.running = true → x.suspended = false → x.wdogOn = true → x.wdogLeft s.tb = 0 → x.inTrap = false → x.stopAsked = false →
      (14 ≤ e.val → s.pairAlike) →
      ∃ t, exec (.watchdogExpire e) s = .next t ∧ t.b (FLT_SRC_LATCHED 3) = true ∧
        ∀ c ∈ xCopies e, (t.eng c).tcause = 5 ∧ (t.eng c).tpc = (s.eng c).pc.zeroExtend 32 ∧ (t.eng c).stall = none ∧
          (t.eng c).pc = toPc (s.eng c).tvec ∧ (t.eng c).inTrap = true ∧ (t.eng c).wdogLeft s.tb = 1024 * (s.eng c).wdogLoad.toNat ∧
          (t.eng c).gpr = (s.eng c).gpr) ∧
    (x.timerDone = false → x.timer.toNat ≤ s.tb →
      ∃ t, exec (.timerMatch e) s = .next t ∧ t.withEngines s.engines = s.begin ∧
        ∀ c, t.eng c = if c ∈ xCopies e then { s.eng c with pendingEv := (s.eng c).pendingEv ||| 2, timerDone := true } else s.eng c))

/-- Table 6.7: FENCE.D retires where no device store is posted, FENCE.H where no completion record released up to its issue and no item record of a
replay job drawn up by then waits or the link is down, FENCE.L where every line issued up to then (on an FSE: its own) has left the queue and, if
taken, fired, or firing is inhibited; else each stalls. FENCE_RETIRE retires a stalled fence once that holds and its stores have drained
(R220 to R222). What "before" means, by stamps and by hasFired, is the model's reading (DEDUCED, log 90). -/
def Obligations.FencesRetire : Prop :=
  ∀ (e : Fin 16) (s : State),
    let stores : Prop := (s.eng (xReq e)).storeBuf = []
    let host (since : Nat) : Prop := s.b PCIE_LINK_STAT_LINK_UP = false ∨
      ((∀ w ∈ s.waitingCpl, since < w.2.2) ∧ ∀ w ∈ s.replayOut, since < w.tb)
    let lines (mark : Nat) : Prop := 3 ≤ s.f FLT_STAT_SAFE_LEVEL ∨
      ((∀ q ∈ s.issueQ, (e.val < 8 ∧ q.1 ≠ e.val) ∨ ∀ l ∈ q.2, mark ≤ l.seq) ∧
       ∀ t ∈ s.taken, (e.val < 8 ∧ t.pipe ≠ e.val) ∨ mark ≤ t.seq ∨ s.hasFired t = true)
    let x := s.eng (xReq e)
    (s.ready e → ∀ p ∈ [(Instr.fenceD e 0, stores), (.fenceH e 0, host s.tb), (.fenceL e 0, lines s.issueSeq)],
      (p.2 → ∃ t, exec p.1 s = .next t ∧ s.retired t e fun x => x) ∧ (¬ p.2 → ∃ t, exec p.1 s = .next t ∧ s.stallsIn t e p.1)) ∧
    (∀ p ∈ [(Instr.fenceD e 0, True), (.fenceH e 0, host x.stallAt), (.fenceL e 0, lines x.fenceMark)],
      s.stalledIn e p.1 → x.stopAsked = false → stores → p.2 → ∃ t, exec (.fenceRetire e) s = .next t ∧ s.retired t e fun x => x)

/-! Engine instructions: mailboxes and print operations (Table 5.7) -/

/-- R178, EMIT: g[rs2] : g[rs1] joins the mailbox of engine q, of both copies for 14; a mailbox of 16 words stalls it.
R178, RECV: the oldest word leaves the mailbox for the pair at rd and g[ra] is 1; from an empty mailbox pair and g[ra] are 0. Where ra
lies in the pair the spec gives that register no value (log 2): the word still leaves, and the pair's other register holds its half. A form that
Table 5.7 does not give is an illegal instruction (R163). -/
def Obligations.MailboxesPassWords : Prop :=
  (∀ (e : Fin 16) (rs1 rs2 q : Fin 32) (s : State), q.val < 15 → s.ready e →
    let push (c : Nat) (x : Engine) : Engine :=
      if c ∈ xCopies q then { x with mailbox := x.mailbox ++ [s.g (xReq e) rs2 ++ s.g (xReq e) rs1] } else x
    ((s.eng q).mailbox.length < 16 → ∃ t, exec (.emit e 0 rs1 rs2 q) s = .next t ∧
      (∀ c, t.eng c = if c ∈ xCopies e then Engine.wdogSync s.tb (push c (s.eng c)).ahead else push c (s.eng c)) ∧
      t.withEngines s.engines = s.begin) ∧
    (16 ≤ (s.eng q).mailbox.length → ∃ t, exec (.emit e 0 rs1 rs2 q) s = .next t ∧ s.stallsIn t e (.emit e 0 rs1 rs2 q)) ∧
    (∀ rd : Fin 32, rd ≠ 0 → (s.eng (xReq e)).inTrap = false → ∃ t, exec (.emit e rd rs1 rs2 q) s = .next t ∧
      (t.eng (xReq e)).tcause = 1)) ∧
  (∀ (e : Fin 16) (rd ra : Fin 32) (s : State), s.ready e → rd ≠ 0 → rd.val % 2 = 0 →
    let w : DWord := (s.eng (xReq e)).mailbox.headD 0
    let got : Word := if (s.eng (xReq e)).mailbox = [] then 0 else 1
    (ra ≠ rd → ra.val ≠ rd.val + 1 → ∃ t, exec (.recv e rd 0 0 ra) s = .next t ∧ s.retired t e fun x =>
      { ((x.setG rd (w.extractLsb' 0 32)).setG (rd.val + 1) (w.extractLsb' 32 32)).setG ra got with mailbox := x.mailbox.drop 1 }) ∧
    (ra = rd ∨ ra.val = rd.val + 1 → ∃ t, exec (.recv e rd 0 0 ra) s = .next t ∧ t.mem = s.mem ∧ t.regs = s.regs ∧
      (t.eng (xReq e)).pc = (s.eng (xReq e)).ahead.pc ∧ (t.eng (xReq e)).mailbox = (s.eng (xReq e)).mailbox.drop 1 ∧
      ∀ r : Fin 32, r ≠ ra → t.g (xReq e) r = if r = rd then w.extractLsb' 0 32 else if r.val = rd.val + 1 then w.extractLsb' 32 32
        else s.g (xReq e) r))

/-- R170 to R172: NZLD and NZCAS on a nozzle below 0x40000 stall until their data returns. LOAD_RETURN of NZLD puts the entry into the
pair at rd; of NZCAS it does so too, g[aux] says whether bits 62:0 equalled the pair, and only then the entry becomes the pair at rs2 with
PARITY computed. NZST posts its pair. No other byte of memory changes. -/
def Obligations.NozzleEntryOperations : Prop :=
  ∀ (e : Fin 16) (rd rs1 rs2 aux : Fin 32) (s : State), (s.g (xReq e) rs1).toNat < 0x40000 → rs2.val % 2 = 0 →
    let n := (s.g (xReq e) rs1).toNat
    let v := s.nozzle n
    let low : Word := BitVec.ofNat 32 v
    let high : Word := BitVec.ofNat 32 (v / 0x100000000)
    let x := s.eng (xReq e)
    (rd ≠ 0 → rd.val % 2 = 0 → s.ready e → ∀ i ∈ [Instr.nzld e rd rs1 0 0, .nzcas e rd rs1 rs2 aux],
      ∃ t, exec i s = .next t ∧ s.stallsIn t e i) ∧
    (rd ≠ 0 → rd.val % 2 = 0 → s.stalledIn e (.nzld e rd rs1 0 0) → x.storeBuf = [] → x.stopAsked = false →
      ∃ t, exec (.loadReturn e) s = .next t ∧ s.retired t e fun x => (x.setG rd low).setG (rd.val + 1) high) ∧
    (rd ≠ 0 → rd.val % 2 = 0 → aux ≠ rd → aux.val ≠ rd.val + 1 → s.stalledIn e (.nzcas e rd rs1 rs2 aux) → x.storeBuf = [] →
      x.stopAsked = false →
      let same := v % 2 ^ 63 = s.gPair (xReq e) rd % 2 ^ 63
      ∃ t, exec (.loadReturn e) s = .next t ∧
        (t.eng (xReq e)).pc = x.ahead.pc ∧ (t.eng (xReq e)).stall = none ∧
        (∀ r : Fin 32, r ≠ 0 → t.g (xReq e) r = if r = aux then (if same then 1 else 0) else if r = rd then low
          else if r.val = rd.val + 1 then high else s.g (xReq e) r) ∧
        (same → t.nozzle n % 2 ^ 63 = s.gPair (xReq e) rs2 % 2 ^ 63 ∧ onesBelow (t.nozzle n) 64 % 2 = 0) ∧
        (¬ same → t.nozzle n = v) ∧
        ∀ b, (b < nozzleAddr n ∨ nozzleAddr n + 8 ≤ b) → t.byte b = s.byte b) ∧
    (s.ready e → x.storeBuf.length < 16 → ∃ t, exec (.nzst e 0 rs1 rs2 0) s = .next t ∧ t.mem = s.mem ∧ t.regs = s.regs ∧
      (t.eng (xReq e)).stall = none ∧ (t.eng (xReq e)).pc = x.ahead.pc ∧
      (t.eng (xReq e)).storeBuf = x.storeBuf ++
        [{ addr := n, bytes := (List.range 8).map fun k => BitVec.ofNat 8 (s.gPair (xReq e) rs2 / 256 ^ k), nozzle := true }])

/-- R174: LISSUE on an FSE copies the 32 bytes at g[rs1], aligned and in its DMEM, into its line-issue queue of 64 and retires; a full queue stalls
it; on any other engine it is an illegal instruction. R175, R665: LGPUT answers in rd. A closed ledger takes nothing and answers 1. An open one with
no record of its own waiting, room, no checkpoint due and a record of an allowed type and header takes it as the next of the chain and answers 0.
R177, R597: CSWAP answers 1 where no such set exists or it has no completed run, 2 where a set of its subject is armed, which leaves the set unarmed,
and else arms the set for its engine and answers 0; of a NOZZLE set the statement takes a running domain. The model's readings: answer 2 for another
armed set of the subject (DESIGN CHOICE, log 98), and the order and the answers of LGPUT (DEDUCED, log 75). -/
def Obligations.LineIssueLedgerInputAndSwap : Prop :=
  (∀ (e : Fin 16) (rs1 : Fin 32) (s : State), s.ready e →
    let a := (s.g (xReq e) rs1).toNat
    (e.val < 8 → a % 32 = 0 → 0x10000000 ≤ a → a < 0x10020000 →
      ((s.lineQueue e).length < 64 → ∃ t, exec (.lissue e 0 rs1 0 0) s = .next t ∧
        t.lineQueue e = s.lineQueue e ++ [⟨s.issueSeq, s.readMem (dmemBase e + (a - 0x10000000)) 32⟩] ∧ t.issueSeq = s.issueSeq + 1 ∧
        (∀ p, p ≠ e.val → t.lineQueue p = s.lineQueue p) ∧
        s.retired { t with issueQ := s.issueQ, issueSeq := s.issueSeq } e fun x => x) ∧
      (64 ≤ (s.lineQueue e).length → ∃ t, exec (.lissue e 0 rs1 0 0) s = .next t ∧ s.stallsIn t e (.lissue e 0 rs1 0 0))) ∧
    (8 ≤ e.val → (s.eng (xReq e)).inTrap = false → ∃ t, exec (.lissue e 0 rs1 0 0) s = .next t ∧ (t.eng (xReq e)).tcause = 1 ∧
      t.issueQ = s.issueQ)) ∧
  (∀ (e : Fin 16) (rd rs1 : Fin 32) (s : State), s.ready e →
    let a := (s.g (xReq e) rs1).toNat
    let r := s.readMem (dmemBase (xReq e) + (a - 0x10000000)) 128
    a % 8 = 0 → 0x10000000 ≤ a → a + 128 ≤ 0x10020000 →
    (s.ledger.isOpen = false → ∃ t, exec (.lgput e rd rs1 0 0) s = .next t ∧ s.retired t e fun x => x.setG rd 1) ∧
    (s.ledger.isOpen = true → s.ledger.closing = false → s.ledger.markFail = false → s.ledger.own = [] → s.ledger.buffer.length < 512 →
      (0x200 ≤ leAt r 0 2 ∧ leAt r 0 2 < 0x300 ∨ 14 ≤ e.val ∧ 0x100 ≤ leAt r 0 2 ∧ leAt r 0 2 < 0x200) →
      slice r 2 2 = [1, 0] → slice r 8 24 = zeros 24 → s.geode.next % 2 ^ 32 ≠ 0 → s.geode.next % 1024 ≠ 1023 →
      ∃ t, exec (.lgput e rd rs1 0 0) s = .next t ∧ t.geode.next = s.geode.next + 1 ∧
        (∃ bytes, t.ledger.buffer = s.ledger.buffer ++ [(bytes, t.ledger.h)] ∧ t.ledger.h = sha384 (s.ledger.h ++ bytes) ∧
          bytes = leBytes 2 (leAt r 0 2) ++ [1, BitVec.ofNat 8 (xReq e)] ++ leBytes 4 (leAt r 4 4) ++ leBytes 8 s.geode.next ++
            leBytes 8 s.tb ++ s.ledger.h.take 8 ++ slice r 32 96) ∧
        (t.eng (xReq e)).pc = (s.eng (xReq e)).ahead.pc ∧ (rd ≠ 0 → t.g (xReq e) rd = 0))) ∧
  (∀ (e : Fin 16) (rd rs1 : Fin 32) (s : State), s.ready e →
    let n := (s.g (xReq e) rs1).toNat
    let known := setExists n = true ∧ (n / 256 ≠ 3 → n ∈ s.cal.staged)
    let armed : Prop := ∃ x ∈ s.cal.armed, x.set / 256 = n / 256
    (¬ known → ∃ t, exec (.cswap e rd rs1 0 0) s = .next t ∧ s.retired t e fun x => x.setG rd 1) ∧
    (known → armed → ∃ t, exec (.cswap e rd rs1 0 0) s = .next t ∧ t.cal = { s.cal with armed := s.cal.armed.filter (·.set ≠ n) } ∧
      s.retired { t with cal := s.cal } e fun x => x.setG rd 2) ∧
    (known → ¬ armed → (n / 256 = 3 → s.nzSetOk (n % 256) = true ∧ s.stopped (s.f (HL_CFG_DCD (n % 256))) = false) →
      ∃ t, exec (.cswap e rd rs1 0 0) s = .next t ∧
        (∃ x : CalArm, t.cal.armed = s.cal.armed ++ [x] ∧ x.set = n ∧ x.engine = some (xReq e)) ∧
        s.retired { t with cal := s.cal } e fun x => x.setG rd 0))

/-! Engine events -/

/-- R113, R159, R64: a load from an address that no block has, from one beyond installed DDR, or of the SPE pair from DDR in PARKED traps with device
bus error. R150, R151: a load in the aperture within installed DDR stalls; at LOAD_RETURN, with no beat in error, it retires with the bytes
extended as Table 5.5 gives; at LOAD_TIMEOUT 4,096 engine cycles after its issue it traps with device bus error.
R151, R178: STALL_RELEASE lets a stalled EMIT push once the mailbox has room, and a stalled store post its bytes once the oldest of 16,
here one bound for installed DDR free of errors, has drained into memory. -/
def Obligations.DeviceLoadsAndStallsEnd : Prop :=
  (∀ (e : Fin 16) (rd rs1 : Fin 32) (imm : BitVec 16) (s : State),
    ∀ p ∈ ([(Instr.lw, 4, fun v => BitVec.ofNat 32 v),
            (Instr.lh, 2, fun v => (BitVec.ofNat 16 v).signExtend 32),
            (Instr.lhu, 2, fun v => BitVec.ofNat 32 v),
            (Instr.lb, 1, fun v => (BitVec.ofNat 8 v).signExtend 32),
            (Instr.lbu, 1, fun v => BitVec.ofNat 32 v)] :
          List ((Fin 16 → Fin 32 → Fin 32 → BitVec 16 → Instr) × Nat × (Nat → Word))),
    let a := s.accessAddr e rs1 imm
    let x := s.eng (xReq e)
    let d := x.apBase + (a - 0x80000000)
    let i := p.1 e rd rs1 imm
    let parked := 14 ≤ e.val ∧ s.b SYS_PWR_CTRL_PARKED = true
    let nowhere :=
      (a < 0x1000000 ∧ (a < 0x400000 ∨ 0xC00000 ≤ a) ∧ rowOf (a / 4 * 4) = none) ∨
      (0x400000 ≤ a ∧ a < 0xC00000 ∧ windowAll a p.2.1 = false) ∨ (0x1000000 ≤ a ∧ a < 0x10000000) ∨ (0x10020000 ≤ a ∧ a < 0x80000000) ∨
      (0x80000000 ≤ a ∧ (s.installed < d + p.2.1 ∨ parked))
    (s.ready e → x.inTrap = false → a % p.2.1 = 0 → nowhere →
      ∃ t, exec i s = .next t ∧ s.engineOnly t e (Engine.trapEntered s.tb 3 (BitVec.ofNat 32 a))) ∧
    (a % p.2.1 = 0 → 0x80000000 ≤ a → d + p.2.1 ≤ s.installed → (14 ≤ e.val → s.b SYS_PWR_CTRL_PARKED = false) →
      (s.ready e → ∃ t, exec i s = .next t ∧ s.stallsIn t e i) ∧
      (s.stalledIn e i → x.storeBuf = [] → x.stopAsked = false → (∀ b ∈ s.poison ++ s.soft, b < d / 4 ∨ (d + p.2.1 - 1) / 4 < b) →
        ∃ t, exec (.loadReturn e) s = .next t ∧ s.retired t e fun x => x.setG rd (p.2.2 (s.valueAt d p.2.1))) ∧
      (s.stalledIn e i → x.inTrap = false → x.stopAsked = false → x.stallAt + 4096 * (if e.val < 8 then 1 else 2) ≤ s.tb →
        ∃ t, exec (.loadTimeout e) s = .next t ∧ s.engineOnly t e (Engine.trapEntered s.tb 3 (BitVec.ofNat 32 a))))) ∧
  (∀ (e : Fin 16) (s : State),
    let x := s.eng (xReq e)
    (∀ (rs1 rs2 q : Fin 32), q.val < 15 → s.stalledIn e (.emit e 0 rs1 rs2 q) → x.storeBuf = [] → (s.eng q).mailbox.length < 16 →
      ∃ t, exec (.stallRelease e) s = .next t ∧ t.withEngines s.engines = s.begin ∧ (t.eng (xReq e)).stall = none ∧
        (t.eng (xReq e)).pc = x.ahead.pc ∧ (t.eng q).mailbox = (s.eng q).mailbox ++ [s.g (xReq e) rs2 ++ s.g (xReq e) rs1]) ∧
    (∀ (rd rs1 : Fin 32) (imm : BitVec 16) (p : Posted) (rest : List Posted),
      let a := s.accessAddr e rs1 imm
      a % 4 = 0 → (a < 0x10000000 ∨ 0x10020000 ≤ a) → s.stalledIn e (.sw e rd rs1 imm) → x.storeBuf = p :: rest → rest.length = 15 →
      p.nozzle = false → 0x100000000 ≤ p.addr → p.addr - 0x100000000 + p.bytes.length ≤ s.installed →
      s.installed ≤ 0x800000000 → (14 ≤ e.val → s.b SYS_PWR_CTRL_PARKED = false) → s.poison = [] → s.soft = [] →
      ∃ t, exec (.stallRelease e) s = .next t ∧ (t.eng (xReq e)).stall = none ∧ (t.eng (xReq e)).pc = x.ahead.pc ∧
        (∃ q, (t.eng (xReq e)).storeBuf = rest ++ [q] ∧ q.bytes = leBytes 4 (s.g (xReq e) rd).toNat) ∧
        t.regs = s.regs ∧ ∀ b, t.byte b =
          if p.addr - 0x100000000 ≤ b then (p.bytes[b - (p.addr - 0x100000000)]?).getD (s.byte b) else s.byte b))

/-! Engine control -/

/-- ENG_START and ENG_STOP under the unlock of ENG_CTRL, ENG_EVSET without one. START of a stopped engine 0 to 13 with VERIFIED, and in regulated mode
with an image that passed every check (R95), starts it as R155 says, suspended in PARKED (R64; log 31); otherwise it latches source 4, and is ignored
while the engine runs (R156) or for the pair (R157); STOP halts with cause 2, a device load first completing (R158), a FENCE.L not interrupted (R222);
EVSET sets events 128 to 191 pending (R179). The model's readings: the effect of a START that R95 or R96 turns away (DEDUCED, log 103), the suspended
START (DEDUCED, log 31), and what a STOP ends at once (DESIGN CHOICE, log 98). -/
def Obligations.EngineCommands : Prop :=
  ∀ (req : Req) (e : Fin 16) (v : Word) (s : State),
    let x := s.eng e
    let may := bitAt (s.f SYS_ENG_STAT_VERIFIED) e = true ∧ (s.fuses.regulated = true → x.checked = true)
    let park := s.b SYS_PWR_CTRL_PARKED
    (s.granted req (ENG_CTRL e) → s.rd (ENG_CTRL e) = 0 →
      (e.val < 14 → x.running = false → may →
        ∃ t, exec (.engStart req e) s = .next t ∧ t.mem = s.mem ∧ t.regs = s.regs ∧ (∀ c, c ≠ e.val → t.eng c = s.eng c) ∧
          t.eng e = { pc := BitVec.ofNat 16 (4 * s.f (ENG_ENTRY_ENTRY e)), running := true, startTb := s.tb
                      tvec := x.trapVector &&& 0xFFFFFFFC, trapVector := x.trapVector, apBase := s.rd64 (ENG_AP_LO e)
                      mailbox := x.mailbox, storeBuf := x.storeBuf, checked := x.checked
                      suspended := park, parkTb := if park = true then s.tb else 0 }) ∧
      (e.val < 14 → x.running = false → ¬ may →
        ∃ t, exec (.engStart req e) s = .next t ∧ (t.eng e).running = false ∧ t.b (FLT_SRC_LATCHED 4) = true ∧ t.rn (FLT_INFO 4) = e) ∧
      (x.running = true ∨ 14 ≤ e.val →
        ∃ t, exec (.engStart req e) s = .next t ∧ t.mem = s.mem ∧ t.regs = s.regs ∧ t.engines = s.engines) ∧
      (14 ≤ e.val ∨ x.running = false →
        ∃ t, exec (.engStop req e) s = .next t ∧ t.mem = s.mem ∧ t.regs = s.regs ∧ t.engines = s.engines) ∧
      (e.val < 14 → x.running = true →
        ∃ t, exec (.engStop req e) s = .next t ∧ t.mem = s.mem ∧ t.regs = s.regs ∧ (∀ c, c ≠ e.val → t.eng c = s.eng c) ∧
          (t.eng e).gpr = x.gpr ∧ (t.eng e).pc = x.pc ∧ (t.eng e).storeBuf = x.storeBuf ∧
          if x.loading || x.lining then t.eng e = { x with stopAsked := true }
          else (t.eng e).running = false ∧ (t.eng e).halted = true ∧ (t.eng e).haltCause = 2)) ∧
    (s.reaches req (ENG_EVSET e) → 128 ≤ v.toNat % 256 → v.toNat % 256 ≤ 191 →
      ∃ t, exec (.engEvset req e v) s = .next t ∧ t.mem = s.mem ∧ t.regs = s.regs ∧ ∀ c, t.eng c =
        if c ∈ xCopies e then { s.eng c with pendingEv := (s.eng c).pendingEv ||| (1#256 <<< (v.toNat % 256)) } else s.eng c)

/-! Resets, supplies, PARKED -/

/-- Table 2.4, Table 3.1, R46, R49, R74 to R80: a power-on reset leaves every register but SYS_RAIL_STAT at its reset value, TIMEBASE 0 and memory as
at power-up, but for the vault, the fuses and the KEY records due; a warm reset, a soft one (guarded) and TEST_EN high keep TIMEBASE too, and the warm
and soft ones add PIN or SOFT to SYS_RST_CAUSE in one event. Every output is in its reset state, and ERR_N low, while the AON island runs. Queue and
outputs sent, and the reset TEST_EN makes (log 29), are the model's. RESET_RELEASE gives the straps as sampled when RESET_N rose; AON_ISLAND_RUNS
gives the outputs their reset levels. -/
def Obligations.ResetCommands : Prop :=
  ∀ (req : Req) (sel : Fin 4) (twin : Bool) (s : State),
    let cleared (t : State) (keep : List Nat) : Prop :=
      t.mem = [] ∧ t.engines = [] ∧ t.items = [] ∧ t.jobs = [] ∧ t.lanes = [] ∧ t.asleep = true ∧ t.geode.kek = s.geode.kek ∧
      t.geode.next = s.geode.next ∧ t.ledger = { keyDue := s.ledger.keyDue } ∧ (s.sec.fprog = [] → t.fuses = s.fuses) ∧
      t.rd SYS_RAIL_STAT = s.rd SYS_RAIL_STAT ∧ t.errPin = t.power.aonRuns ∧
      (∀ a, a ≠ SYS_RAIL_STAT → a ≠ FLT_STAT → a ∉ keep → t.rd a = resetOf a) ∧ (t.power.aonRuns = true → ∀ p, t.pin p = p.reset)
    let warm (t : State) (pin soft : Bool) : Prop :=
      cleared t [SYS_RST_CAUSE] ∧ t.tb = s.tb ∧ t.f SYS_RST_CAUSE_SEQ = (s.f SYS_RST_CAUSE_SEQ + 1) % 256 ∧
      t.b SYS_RST_CAUSE_PIN = (s.b SYS_RST_CAUSE_PIN || pin) ∧ t.b SYS_RST_CAUSE_SOFT = (s.b SYS_RST_CAUSE_SOFT || soft) ∧
      t.b SYS_RST_CAUSE_ITEMS_OPEN = (s.b SYS_RST_CAUSE_ITEMS_OPEN || s.itemsOpen)
    (∃ t, exec .powerOnReset s = .next t ∧ cleared t [] ∧ t.tb = 0 ∧ t.power.porHeld = true) ∧
    (s.power.resetLow = false → ∃ t, exec .warmReset s = .next t ∧ warm t true false) ∧
    (s.granted req SYS_RST_CTRL → ∃ t, exec (.softReset req) s = .next t ∧ warm t false true) ∧
    (∃ t, exec .testEnHigh s = .next t ∧ cleared t [SYS_RST_CAUSE] ∧ t.tb = s.tb ∧ t.rd SYS_RST_CAUSE = s.rd SYS_RST_CAUSE ∧
      t.power.porHeld = s.power.porHeld) ∧
    (s.power.aonRuns = true → (s.power.resetLow = true ∨ s.boot.started = false) →
      ∃ t, exec (.resetRelease sel twin) s = .next t ∧ t.power.resetLow = false ∧ t.power.testEn = false ∧ t.boot = { started := true } ∧
        (s.power.strapsDue = true → t.f SYS_BOOT_STAT_BOOT_SEL = sel.val ∧ t.b SYS_BOOT_STAT_TWIN_SEL = twin) ∧
        (s.power.strapsDue = false → t.f SYS_BOOT_STAT_BOOT_SEL = s.power.bootSel % 4 ∧ t.b SYS_BOOT_STAT_TWIN_SEL = s.power.twinSel) ∧
        t.tb = s.tb ∧ t.b DBG_STAT_UNLOCKED = !s.fuses.regulated) ∧
    (s.power.aonRuns = false → bitAt (s.rn SYS_RAIL_STAT) 6 = true →
      ∃ t, exec .aonIslandRuns s = .next t ∧ t.power.aonRuns = true ∧ cleared t [])

/-- R55 to R60, R80, R617, Table 18.4: a rail out of its window clears its bit of SYS_RAIL_STAT and, a main rail with PG_IN high and the collector
running, makes source 0 LIVE and latches it, with the glitch monitor active; with PG_IN low it does neither, and VDD_CORE leaving then takes all but
the vault's state with it and releases ERR_N (the model's STANDBY, log 29); with every main rail back source 0 is not LIVE. SYSCLK failing does so to
source 5. The vault's supply follows VDD_IO18, and switching it loses no vault state; losing VBAT on VBAT loses all of it; VBAT low on VBAT and a
stopped crystal are active monitors. -/
def Obligations.SupplyEvents : Prop :=
  ∀ (rail : Fin 9) (vbat : Bool) (s : State),
    let other : Prop := ∃ r < 8, r ≠ rail.val ∧ bitAt (s.rn SYS_RAIL_STAT) r = true
    (∃ t, exec (.railExcursion rail) s = .next t ∧ bitAt (t.rn SYS_RAIL_STAT) rail = false ∧
      (∀ r < 32, r ≠ rail.val → bitAt (t.rn SYS_RAIL_STAT) r = bitAt (s.rn SYS_RAIL_STAT) r) ∧ (rail = 5 → t.geode.onVbat = true) ∧
      (rail.val < 8 → s.asleep = false → s.power.porHeld = false → other →
        t.mem = s.mem ∧ t.b (FLT_SRC_LIVE 0) = true ∧ t.b (FLT_SRC_LATCHED 0) = true ∧ bitAt (t.f GEO_MON_ACTIVE) 9 = true) ∧
      (rail.val < 8 → rail ≠ 0 → s.power.porHeld = true → bitAt (s.rn SYS_RAIL_STAT) 0 = true →
        t.mem = s.mem ∧ t.rd (FLT_SRC 0) = s.rd (FLT_SRC 0) ∧ t.geode.active = s.geode.active) ∧
      (rail = 0 → s.power.porHeld = true → t.mem = [] ∧ t.power.aonRuns = false ∧ t.errPin = false ∧ t.rd (FLT_SRC 0) = resetOf (FLT_SRC 0) ∧
        t.geode.kek = s.geode.kek ∧ t.geode.next = s.geode.next ∧ ∀ p, t.pin p = p.ramp) ∧
      (rail = 8 → s.regsBut t [SYS_RAIL_STAT])) ∧
    (∃ t, exec (.railReturn rail) s = .next t ∧ t.mem = s.mem ∧ bitAt (t.rn SYS_RAIL_STAT) rail = true ∧
      (∀ r < 32, r ≠ rail.val → bitAt (t.rn SYS_RAIL_STAT) r = bitAt (s.rn SYS_RAIL_STAT) r) ∧ (rail = 5 → t.geode.onVbat = false) ∧
      (s.asleep = false → (∀ r ∈ [0, 1, 2, 3, 4, 5, 6, 7], r = rail.val ∨ bitAt (s.rn SYS_RAIL_STAT) r = true) → t.b (FLT_SRC_LIVE 0) = false)) ∧
    (∃ t, exec .clockFail s = .next t ∧ t.mem = s.mem ∧ t.power.clockOut = true ∧ (s.asleep = true → t.regs = s.regs) ∧
      (s.asleep = false → t.b (FLT_SRC_LIVE 5) = true ∧ (s.b (FLT_SRC_LIVE 5) = false → t.b (FLT_SRC_LATCHED 5) = true))) ∧
    (∃ t, exec .clockReturn s = .next t ∧ s.regsBut t [FLT_SRC 5, FLT_LIVE_SUM 0] ∧ t.power.clockOut = false ∧
      (s.asleep = false → t.b (FLT_SRC_LIVE 5) = false)) ∧
    (bitAt (s.rn SYS_RAIL_STAT) 5 = !vbat →
      ∃ t, exec (.vaultSupplySwitch vbat) s = .next t ∧ t.mem = s.mem ∧ t.b GEO_STAT_ON_VBAT = vbat ∧ t.geode.kek = s.geode.kek ∧
      t.geode.next = s.geode.next ∧ t.geode.hSent = s.geode.hSent ∧ t.geode.log = s.geode.log ∧ t.geode.psk = s.geode.psk ∧
      t.geode.lastSerial = s.geode.lastSerial) ∧
    (bitAt (s.rn SYS_RAIL_STAT) 5 = vbat →
      ∃ t, exec (.vaultSupplySwitch vbat) s = .next t ∧ t.mem = s.mem ∧ t.regs = s.regs ∧ t.geode = s.geode) ∧
    (s.geode.onVbat = true → ∃ t, exec .vbatLoss s = .next t ∧ t.mem = s.mem ∧ t.b GEO_STAT_VAULT_LOST = true ∧
      t.b GEO_STAT_KEK_VALID = false ∧ t.geode.kek = none ∧ t.geode.psk = none ∧ t.geode.log = [] ∧ t.geode.lastSerial = []) ∧
    (s.geode.onVbat = false → ∃ t, exec .vbatLoss s = .next t ∧ t.mem = s.mem ∧ t.regs = s.regs ∧ t.geode = s.geode) ∧
    (∃ t, exec .vbatLow s = .next t ∧ t.mem = s.mem ∧ bitAt (t.rn SYS_RAIL_STAT) 8 = false ∧
      (s.geode.onVbat = true → bitAt (t.f GEO_MON_ACTIVE) 8 = true)) ∧
    (∃ t, exec .xtalStop s = .next t ∧ t.mem = s.mem ∧ bitAt (t.f GEO_MON_ACTIVE) 11 = true)

/-- R61 to R64: a granted PARK is taken while every domain is stopped and no DMA descriptor is in progress, and otherwise refused with PARK_REFUSED;
PARK_DONE, no store being posted and no device load in progress, sets PARKED, suspends the running engines 0 to 13 and takes every lane down; UNPARK
and UNPARK_DONE undo it. -/
def Obligations.ParkCommands : Prop :=
  ∀ (req : Req) (s : State),
    let free : Prop := (∀ d < 4, s.f (DCD_CTRL_STATE d) = 0) ∧ ∀ c < 32, (s.dma c).descs = []
    (s.granted req SYS_PWR_CTRL → s.b SYS_PWR_CTRL_PARK = false →
      ∃ t, exec (.park req) s = .next t ∧ s.regsBut t [SYS_PWR_CTRL] ∧ t.b SYS_PWR_CTRL_PARKED = s.b SYS_PWR_CTRL_PARKED ∧
        (free → t.b SYS_PWR_CTRL_PARK = true ∧ t.b SYS_PWR_CTRL_PARK_REFUSED = false) ∧
        (¬ free → t.b SYS_PWR_CTRL_PARK = false ∧ t.b SYS_PWR_CTRL_PARK_REFUSED = true)) ∧
    (s.granted req SYS_PWR_CTRL →
      ∃ t, exec (.unpark req) s = .next t ∧ s.regsBut t [SYS_PWR_CTRL] ∧ t.b SYS_PWR_CTRL_PARK = false ∧
        t.b SYS_PWR_CTRL_PARKED = s.b SYS_PWR_CTRL_PARKED) ∧
    (s.asleep = false → s.b SYS_PWR_CTRL_PARK = true → s.b SYS_PWR_CTRL_PARKED = false → (∀ e < 14, (s.eng e).storeBuf = [] ∧
        (s.eng e).loading = false) →
      ∃ t, exec .parkDone s = .next t ∧ t.mem = s.mem ∧ t.b SYS_PWR_CTRL_PARKED = true ∧
        (∀ e < 14, (t.eng e).suspended = ((s.eng e).suspended || (s.eng e).running) ∧ (t.eng e).gpr = (s.eng e).gpr ∧
          (t.eng e).pc = (s.eng e).pc) ∧
        ∀ l < 64, t.f (HL_LINK_STATE l) = 0) ∧
    (s.asleep = false → s.b SYS_PWR_CTRL_PARK = false → s.b SYS_PWR_CTRL_PARKED = true →
      ∃ t, exec .unparkDone s = .next t ∧ t.mem = s.mem ∧ t.b SYS_PWR_CTRL_PARKED = false ∧
        ∀ e < 14, (t.eng e).suspended = false ∧ (t.eng e).gpr = (s.eng e).gpr ∧ (t.eng e).pc = (s.eng e).pc)

/-! Boot -/

/-- Table 3.5, R82 to R92: the steps of the boot ROM and the stages they lead to. A failed boot shows STAGE FAILED and its code, CFG_READY and ERR_N
low, and no engine runs (R89). R85, R86, R189: what the checks of Table 3.4 answer for an image, case by case. The model's choices: a QSPI timeout
fails with 7 where a fallback exists too, and the length a read shows is 131,072 bytes (log 28), the place of bit 12 of offset 0x98 (log 4), and check
2 of CODE_LENGTH, DATA_LENGTH and DATA_LOAD, and where 8 stands among the checks (log 98). -/
def Obligations.BootSteps : Prop :=
  ∀ (req : Req) (image : List Byte) (off : Nat) (v : Word) (s : State),
    let failed (t : State) (code : Nat) : Prop :=
      t.f SYS_BOOT_STAT_STAGE = 4 ∧ t.f SYS_BOOT_STAT_FAIL_CODE = code ∧ t.b SYS_BOOT_STAT_CFG_READY = true ∧ t.errPin = true ∧
      ∀ e < 16, (t.eng e).running = false
    let stage := s.f SYS_BOOT_STAT_STAGE
    let sel := s.f SYS_BOOT_STAT_BOOT_SEL
    let code := s.imageCode true (s.readMem (dmemBase 14) 131072)
    (s.asleep = false →
      (s.boot.started = true → s.boot.fusesRead = false → stage = 0 →
        (∃ t, exec (.fusesRead true) s = .next t ∧ t.mem = s.mem ∧ failed t 10) ∧
        (∃ t, exec (.fusesRead false) s = .next t ∧ t.mem = s.mem ∧ t.b SEC_STAT_REGULATED = s.fuses.regulated ∧
          (sel < 2 → t.f SYS_BOOT_STAT_STAGE = 1 ∧ t.out.head? = some (.qspi 0x6C 0 4 8 131072)) ∧
          (sel = 2 → t.f SYS_BOOT_STAT_STAGE = 5 ∧ t.b SYS_BOOT_STAT_CFG_READY = true) ∧ (sel = 3 → failed t 9))) ∧
      (stage = 1 → image.length ≤ 131072 → ∃ t, exec (.qspiReadDone image) s = .next t ∧ (∀ a, a ≠ SYS_BOOT_STAT → t.rd a = s.rd a) ∧
        t.f SYS_BOOT_STAT_STAGE = 2 ∧
        ∀ i < image.length, t.byte (dmemBase 14 + i) = image.getD i 0 ∧ t.byte (dmemBase 15 + i) = image.getD i 0) ∧
      (stage = 1 → ∃ t, exec .qspiTimeout s = .next t ∧ t.mem = s.mem ∧ failed t 7) ∧
      (stage = 2 → code = 0 →
        ∃ t, exec .firstStageChecksDone s = .next t ∧ t.f SYS_BOOT_STAT_STAGE = 3 ∧ t.f SYS_BOOT_STAT_FAIL_CODE = 0 ∧
          ∀ e ∈ [14, 15], (t.eng e).running = true ∧ bitAt (t.f SYS_ENG_STAT_VERIFIED) e = true) ∧
      (stage = 2 → code ≠ 0 → ∃ t, exec .firstStageChecksDone s = .next t ∧ t.mem = s.mem ∧ t.f SYS_BOOT_STAT_FAIL_CODE = code ∧
        (sel = 0 → s.boot.fallback = false → t.f SYS_BOOT_STAT_STAGE = 1 ∧ t.boot.fallback = true ∧
          t.out = .qspi 0x6C 0x1000000 4 8 131072 :: s.out) ∧
        (sel = 2 → t.f SYS_BOOT_STAT_STAGE = 5) ∧
        (sel = 1 ∨ sel = 3 ∨ sel = 0 ∧ s.boot.fallback = true → failed t code)) ∧
      ((∃ at_, s.power.perstAt = some at_ ∧ at_ + 800000000 ≤ s.tb) → s.b SYS_BOOT_STAT_CFG_READY = false →
        ∃ t, exec .firstStageLate s = .next t ∧ t.mem = s.mem ∧ failed t 11)) ∧
    (s.reaches req SYS_BOOT_STAT →
      (stage = 5 → ∃ t, exec (.hostGo req) s = .next t ∧ s.regsBut t [SYS_BOOT_STAT] ∧ t.f SYS_BOOT_STAT_STAGE = 2) ∧
      (SYS_BOOT_STAT ∉ s.w1Locked → ∃ t, exec (.cfgReady req) s = .next t ∧ s.regsBut t [SYS_BOOT_STAT] ∧
        t.b SYS_BOOT_STAT_CFG_READY = true ∧ SYS_BOOT_STAT ∈ t.w1Locked)) ∧
    (s.inReset = false → (s.b SYS_BOOT_STAT_CFG_READY = false ∨ s.b DBG_STAT_FROZEN = true) → ∀ w, ∃ t, exec (.configRequest w off v) s = .next t ∧
      t.mem = s.mem ∧ t.regs = s.regs ∧ t.out = .completion 2 [] :: s.out) ∧
    (s.asleep = false → s.b SYS_BOOT_STAT_CFG_READY = true →
      (∃ t, exec (.configRequest false 0 v) s = .next t ∧ t.mem = s.mem ∧ t.regs = s.regs ∧
        t.out = .completion 0 [0x7C, 0x1F, 0x48, 0x64] :: s.out) ∧
      ∃ t, exec (.configRequest true 0x98 v) s = .next t ∧ t.mem = s.mem ∧ t.regs = s.regs ∧ t.out = .completion 0 [] :: s.out ∧
        t.pcie = { s.pcie with tag10 := bitAt v.toNat 12, cfg := t.pcie.cfg }) ∧
    (∀ (first : Bool) (im : List Byte),
      let f (n k : Nat) : Nat := leAt im n k
      let code := f 0x18 4
      let slot := f 9 1
      let named := im.take 4 = [0x58, 0x49, 0x4D, 0x47] ∧ (f 8 1 = 1 ∨ first = false ∧ f 8 1 = 2)
      let length := 352 + code + f 0x1C 4
      let agree := f 6 2 = 0x100 ∧ 4 ≤ code ∧ code ≤ 65536 ∧ code % 4 = 0 ∧ f 0x1C 4 ≤ 131072 ∧ f 0x10 4 % 4 = 0 ∧ f 0x10 4 < code ∧
        f 0x14 4 % 4 = 0 ∧ f 0x14 4 < code ∧ f 0x20 4 % 4 = 0 ∧ f 0x20 4 + f 0x1C 4 + f 0x24 4 ≤ 131072 ∧ length ≤ im.length ∧
        (first = true → length ≤ 131072) ∧ sha384 (slice im 256 (code + f 0x1C 4)) = slice im 0x30 48
      let blank (k : Nat) : Prop := 4 ≤ k ∨ allZero (s.keyHash k) = true
      let allBlank := ∀ k < 4, blank k
      let key := slice im 0x60 97
      let keyed := ¬ blank slot ∧ sha384 key = s.keyHash slot
      let revoked := s.fuses.revoke.getLsbD slot = true
      let signed := Config.verify384 key (sha384 (im.take (256 + code + f 0x1C 4))) (slice im (length - 96) 96) = true
      let answers (n : Nat) : Prop := s.imageCode first im = n
      (¬ named → answers 1) ∧ (named → ¬ agree → answers 2) ∧
      (named → agree →
        (s.fuses.regulated = false → allBlank → answers 0) ∧
        (s.fuses.regulated = true → allBlank → answers (if first = true then 8 else 3)) ∧
        (¬ allBlank → (¬ keyed → answers 3) ∧ (keyed → revoked → answers 4) ∧ (keyed → ¬ revoked → ¬ signed → answers 5) ∧
          (keyed → ¬ revoked → signed → answers (if f 0x0C 4 < s.fuses.rollback then 6 else 0)))))

/-! Register accesses -/

/-- R105, R124 to R131, R742: GUARD_UNLOCK with the key of a guarded block is accepted and replaces the requester's unlock, a wrong key counts;
UNLOCK_EXPIRE cancels an unlock of 1,024 ticks. REGISTER_WRITE of a RW or granted GD register puts the written bits and keeps the others; without an
unlock a changed GD register stays, with LAST_BLOCK, LAST_REQ and source 22. That KP bits keep what they hold however they are written is the model's
choice (DESIGN CHOICE, log 25). -/
def Obligations.GuardedWrites : Prop :=
  ∀ (req : Req) (h : Fin 64) (x : Fin 16) (v : Word) (s : State),
    let who := requester req
    let plain : List (Nat × Word) := [(FLT_IRQ, 0x7BF), (FH_VNOM h, 0xFFFF), (FH_BUDGET h, 0xFFFFFF), (MOT_VMAX x, 0xFFFFFFFF),
      (VFY_DET (x % 4), 0x0FFFFFFF), (RAS_MASKSEL h, 0x3F), (SUP_TIMING, 0x3FFF)]
    let guarded : List (Nat × Word) := [(FLT_ERRN, 0x773FFF), (MEMC_SCRUB, 0xFF01), (FH_VWIN h, 0xFFFFFFFF), (FH_TLIM h, 0xFFFFFFFF),
      (MOT_STEPCFG x, 0xFFFF)]
    (s.reaches req GUARD_UNLOCK →
      (v.toNat / 65536 = 0x7C5E → v.toNat / 256 % 256 = 0 → v.toNat % 256 ∈ [0, 3, 4, 5, 6, 7, 8, 9, 10, 11, 12, 13, 14, 15, 16, 32] →
        ∃ t, exec (.guardUnlock req v) s = .next t ∧ s.regsBut t [GUARD_STAT] ∧ t.f GUARD_STAT_CONSEC = 0 ∧
          t.f GUARD_STAT_TOTAL = s.f GUARD_STAT_TOTAL ∧ t.unlocks = (who, v.toNat % 256, s.tb) :: s.unlocks.filter (·.1 ≠ who)) ∧
      (v.toNat / 256 ≠ 0x7C5E00 → s.f GUARD_STAT_CONSEC < 7 →
        ∃ t, exec (.guardUnlock req v) s = .next t ∧ s.regsBut t [GUARD_STAT] ∧ t.unlocks = s.unlocks ∧
          t.f GUARD_STAT_CONSEC = s.f GUARD_STAT_CONSEC + 1 ∧ t.f GUARD_STAT_TOTAL = min (s.f GUARD_STAT_TOTAL + 1) 0xFFFF)) ∧
    (∃ t, exec (.unlockExpire req) s = .next t ∧ t.mem = s.mem ∧ t.regs = s.regs ∧
      ∀ u, u ∈ t.unlocks ↔ u ∈ s.unlocks ∧ (u.1 = who → s.tb < u.2.2 + 1024)) ∧
    (∀ p ∈ plain, s.reaches req p.1 → ∃ t, exec (.registerWrite req p.1 v 15) s = .next t ∧ s.regsBut t [p.1] ∧
      t.rd p.1 = (s.rd p.1 &&& ~~~p.2) ||| (v &&& p.2)) ∧
    (∀ p ∈ guarded,
      (s.granted req p.1 → ∃ t, exec (.registerWrite req p.1 v 15) s = .next t ∧ s.regsBut t [p.1] ∧
        t.rd p.1 = (s.rd p.1 &&& ~~~p.2) ||| (v &&& p.2) ∧ (t.consume req p.1).1 = false) ∧
      (s.reaches req p.1 → ¬ s.granted req p.1 → v &&& p.2 ≠ s.rd p.1 &&& p.2 →
        ∃ t, exec (.registerWrite req p.1 v 15) s = .next t ∧ t.rd p.1 = s.rd p.1 ∧ t.f GUARD_REFUSE_LAST_BLOCK = p.1 / 65536 ∧
          t.f GUARD_REFUSE_LAST_REQ = who ∧ t.b GUARD_REFUSE_REFUSED = true ∧ t.b (FLT_SRC_LATCHED 22) = true))

/-- R105 to R110, R118, R121, R245, R292, R293, R744, R746: a LO write stages and the HI write loads both halves; an SQ write with the held SEQ clears
the events, with another does nothing; an ARM write of a shadow group in order sets ARM; an access to an unmapped offset, or of a register in a shape
other than R105's, reads 0 where unmapped and latches source 20, as a nozzle-table write of fewer bytes does once; bytes go to DMEM, nozzle table and
DDR windows, and to no signed page. A read of a DDR beat with a single-bit error corrects it with source 13, of one with more than one wrong bit
poisons the completion with source 14. That a nozzle-table write of fewer bytes is one access error is the model's choice (DESIGN CHOICE,
log 94; the shapes of accesses: log 24). -/
def Obligations.AccessShapes : Prop :=
  ∀ (req : Req) (e : Fin 14) (i : Fin 16) (h : Fin 64) (m : Fin 2) (n : Fin 262144) (a o len : Nat) (v w : Word) (be : BitVec 4)
    (bytes : List Byte) (s : State),
    (s.reaches req SEC_LD_SRC_LO → ∃ t, exec (.loStageWrite req SEC_LD_SRC_LO v) s = .next t ∧ t.mem = s.mem ∧ t.regs = s.regs ∧
      t.stagedAt SEC_LD_SRC_LO = v) ∧
    (s.reaches req SEC_LD_SRC_HI → ∃ t, exec (.registerWrite req SEC_LD_SRC_HI w 15) s = .next t ∧
      s.regsBut t [SEC_LD_SRC_LO, SEC_LD_SRC_HI] ∧ t.rd SEC_LD_SRC_LO = s.stagedAt SEC_LD_SRC_LO ∧ t.rd SEC_LD_SRC_HI = w ∧
      t.stagedAt SEC_LD_SRC_LO = 0) ∧
    (∀ p ∈ ([(MEMC_ECC_STAT m, 7), (MOT_STAT i, 0x7F), (FH_STAT h, 0xF), (QZ_STAT, 7)] : List (Nat × Word)), s.reaches req p.1 →
      (v >>> 24 = s.rd p.1 >>> 24 → ∃ t, exec (.sqWriteBack req p.1 v) s = .next t ∧ s.regsBut t [p.1] ∧ t.rd p.1 = s.rd p.1 &&& ~~~p.2) ∧
      (v >>> 24 ≠ s.rd p.1 >>> 24 → ∃ t, exec (.sqWriteBack req p.1 v) s = .next t ∧ t.mem = s.mem ∧ t.regs = s.regs)) ∧
    (s.reaches req (FH_SHCTL h) → s.fhShadowOk h = true → ∃ t, exec (.shadowArm req (FH_SHCTL h) v) s = .next t ∧
      s.regsBut t [FH_SHCTL h] ∧ t.b (FH_SHCTL_ARM h) = true ∧ t.b (FH_SHCTL_PENDING h) = s.b (FH_SHCTL_PENDING h)) ∧
    (s.reaches req a → windowRange a = false → (a % 4 ≠ 0 ∨ rowOf a = none) → a < 0x1000000 →
      (∃ t, exec (.registerWrite req a v 15) s = .next t ∧ t.mem = s.mem ∧
        (s.b DBG_STAT_FROZEN = true → t.rd (FLT_SRC 20) = s.rd (FLT_SRC 20)) ∧
        (s.b DBG_STAT_FROZEN = false → t.b (FLT_SRC_LATCHED 20) = true ∧ t.rn (FLT_INFO 20) = a + requester req * 0x1000000)) ∧
      (a % 4 = 0 → ∃ t, exec (.badRegisterRead 16 a 4) s = .next t ∧ (s.reaches 16 a → t.mem = s.mem ∧
        t.out.head? = some (.completion 0 [0, 0, 0, 0]) ∧ t.b (FLT_SRC_LATCHED 20) = true))) ∧
    (o < 0x20000 → 0 < bytes.length → bytes.length ≤ 512 → o % 4096 + bytes.length ≤ 4096 →
      s.reaches req (0x410000 + 0x40000 * e + o) →
      ∃ t, exec (.memoryWindowWrite req (0x410000 + 0x40000 * e + o) bytes) s = .next t ∧ t.regs = s.regs ∧
        ∀ b, t.byte b = if dmemBase e + o ≤ b then (bytes[b - (dmemBase e + o)]?).getD (s.byte b) else s.byte b) ∧
    (o < 0x10000 → bytes.length = 1 → bitAt (s.f (ENG_SIGPAGES_LOCKED e)) (o / 4096) = true → s.reaches req (0x400000 + 0x40000 * e + o) →
      ∃ t, exec (.memoryWindowWrite req (0x400000 + 0x40000 * e + o) bytes) s = .next t ∧ t.mem = s.mem ∧ t.b (FLT_SRC_LATCHED 4) = true ∧
        t.rn (FLT_INFO 4) = e) ∧
    (s.reaches req (0x800000 + 8 * n) → bytes.length = 8 →
      ∃ t, exec (.nozzleTableWrite req (0x800000 + 8 * n) bytes) s = .next t ∧ t.regs = s.regs ∧
        t.nozzle n % 2 ^ 63 = ofLe bytes % 2 ^ 63 ∧ onesBelow (t.nozzle n) 64 % 2 = 0 ∧
        ∀ b, (b < nozzleAddr n ∨ nozzleAddr n + 8 ≤ b) → t.byte b = s.byte b) ∧
    (s.reaches req (0x800000 + 4 * n) → be ≠ 15 →
      ∃ t, exec (.registerWrite req (0x800000 + 4 * n) v be) s = .next t ∧ t.mem = s.mem ∧ t.b (FLT_SRC_LATCHED 20) = true ∧
        t.f (FLT_CNT_COUNT 20) = min (s.f (FLT_CNT_COUNT 20) + 1) (2 ^ ((FLT_CNT_COUNT 20).hi + 1 - (FLT_CNT_COUNT 20).lo) - 1)) ∧
    (s.asleep = false → s.poison = [] → s.soft = [] → o < 0x1000000 → 0 < len →
      let p := s.f (BAR2_PAGE_BASE i) * 0x1000000 + o
      (s.b (BAR2_PAGE_EN i) = true → p + len ≤ s.installed →
        (∃ t, exec (.bar2Read (0x1000000 * i + o) len []) s = .next t ∧
          t.mem = s.mem ∧ t.regs = s.regs ∧ t.out = .completion 0 (s.readMem p len) :: s.out) ∧
        ∀ b, p / 4 ≤ b → b ≤ (p + len - 1) / 4 →
          (∃ t, exec (.bar2Read (0x1000000 * i + o) len [(b, false)]) s = .next t ∧ t.mem = s.mem ∧ t.soft = [] ∧ t.poison = [] ∧
            t.b (FLT_SRC_LATCHED 13) = true ∧ t.out.head? = some (.completion 0 (s.readMem p len))) ∧
          ∃ t, exec (.bar2Read (0x1000000 * i + o) len [(b, true)]) s = .next t ∧ t.mem = s.mem ∧ t.soft = [] ∧ t.poison = [b] ∧
            t.b (FLT_SRC_LATCHED 14) = true ∧ t.out.head? = some (.completion 8 (s.readMem p len))) ∧
      (s.b (BAR2_PAGE_EN i) = true → p + bytes.length ≤ s.installed → ∃ t, exec (.bar2Write (0x1000000 * i + o) bytes) s = .next t ∧
        t.regs = s.regs ∧ ∀ b, t.byte b = if p ≤ b then (bytes[b - p]?).getD (s.byte b) else s.byte b) ∧
      (s.b (BAR2_PAGE_EN i) = false ∨ s.installed ≤ p → ∀ ups, ∃ t, exec (.bar2Read (0x1000000 * i + o) len ups) s = .next t ∧ t.mem = s.mem ∧
        t.out.head? = some (.completion 0 (zeros len)) ∧ t.b (FLT_SRC_LATCHED 27) = true))

/-! Jobs -/

/-- R193 to R197, R215, R675: a granted write of JQ_CTRL enables a queue in order, its ledger open, and refuses it with CFG_ERROR and source 25
while the ledger is closed; disables it; clears the indices of a drained queue; a doorbell and a write of CQ_HEAD within their bounds take
effect, and beyond them set INDEX_ERROR and latch source 25. -/
def Obligations.JobQueueCommands : Prop :=
  ∀ (req : Req) (k : Fin 8) (v : Word) (s : State),
    let held := s.rd (JQ_CTRL k)
    let r := s.f (JQ_CTRL_RING_LOG2 k)
    let c := s.f (JQ_CTRL_CQ_LOG2 k)
    let order : Prop := 4 ≤ r ∧ r ≤ 12 ∧ 4 ≤ c ∧ c ≤ 12 ∧ s.f (JQ_CTRL_INBOX_LOG2 k) ≤ 6 ∧ s.rd64 (JQ_RING_LO k) % (64 * 2 ^ r) = 0 ∧
      s.rd64 (JQ_CQ_LO k) % (32 * 2 ^ c) = 0 ∧ s.f (JQ_INBOX_OFFSET k) * 128 + 128 * 2 ^ s.f (JQ_CTRL_INBOX_LOG2 k) ≤ 131072 ∧
      s.f (JQ_TAIL_TAIL k) = 0 ∧ s.f (JQ_HEAD_HEAD k) = 0 ∧ s.f (JQ_CQ_TAIL_CQ_TAIL k) = 0 ∧ s.f (JQ_CQ_HEAD_CQ_HEAD k) = 0
    let dist (a b : Nat) : Nat := (a + 65536 - b) % 65536
    let new := v.toNat % 65536
    let tail := s.f (JQ_TAIL_TAIL k)
    let cqHead := s.f (JQ_CQ_HEAD_CQ_HEAD k)
    let indexError (t : State) : Prop := t.mem = s.mem ∧ t.b (JQ_STAT_INDEX_ERROR k) = true ∧ t.b (FLT_SRC_LATCHED 25) = true ∧
      t.rn (FLT_INFO 25) = k
    (s.granted req (JQ_CTRL k) →
      (s.b (JQ_CTRL_ENABLE k) = false → bitAt held.toNat 11 = false → order →
        (s.ledger.isOpen = true → ∃ t, exec (.jqEnable req k held) s = .next t ∧ s.regsBut t [JQ_CTRL k] ∧ t.b (JQ_CTRL_ENABLE k) = true ∧
          t.b (JQ_CTRL_DRAINED k) = false ∧ t.f (JQ_CTRL_RING_LOG2 k) = r) ∧
        (s.ledger.isOpen = false → ∃ t, exec (.jqEnable req k held) s = .next t ∧ t.mem = s.mem ∧ t.b (JQ_CTRL_ENABLE k) = false ∧
          t.b (JQ_STAT_CFG_ERROR k) = true ∧ t.b (FLT_SRC_LATCHED 25) = true)) ∧
      (s.b (JQ_CTRL_ENABLE k) = true → bitAt v.toNat 11 = false →
        ∃ t, exec (.jqDisable req k v) s = .next t ∧ s.regsBut t [JQ_CTRL k] ∧ t.b (JQ_CTRL_ENABLE k) = false ∧
          t.intakeOf k = .idle ∧ t.jobs = s.jobs ∧ t.b (JQ_CTRL_DRAINED k) = !s.jobs.any (·.queue = k)) ∧
      (s.b (JQ_CTRL_ENABLE k) = false → bitAt v.toNat 0 = false → s.b (JQ_CTRL_DRAINED k) = true → (∀ w ∈ s.waitingCpl, w.1 ≠ k.val) →
        ∃ t, exec (.idxClr req k v) s = .next t ∧ s.regsBut t [JQ_CTRL k, JQ_TAIL k, JQ_HEAD k, JQ_CQ_TAIL k, JQ_CQ_HEAD k] ∧
          t.rn (JQ_TAIL k) = 0 ∧ t.rn (JQ_HEAD k) = 0 ∧ t.rn (JQ_CQ_TAIL k) = 0 ∧ t.rn (JQ_CQ_HEAD k) = 0)) ∧
    (s.reaches req (JQ_TAIL k) →
      let ok : Prop := dist new (s.f (JQ_HEAD_HEAD k)) ≤ 2 ^ r ∧ dist new tail ≤ 2 ^ r
      (ok → ∃ t, exec (.doorbell req k v) s = .next t ∧ s.regsBut t [JQ_TAIL k] ∧ t.f (JQ_TAIL_TAIL k) = new) ∧
      (¬ ok → new ≠ tail → ∃ t, exec (.doorbell req k v) s = .next t ∧ indexError t ∧ t.f (JQ_TAIL_TAIL k) = tail)) ∧
    (s.reaches req (JQ_CQ_HEAD k) →
      let ok : Prop := dist new cqHead ≤ dist (s.f (JQ_CQ_TAIL_CQ_TAIL k)) cqHead
      (ok → (∀ w ∈ s.waitingCpl, w.1 ≠ k.val) → ∃ t, exec (.cqHeadWrite req k v) s = .next t ∧ s.regsBut t [JQ_CQ_HEAD k] ∧
        t.f (JQ_CQ_HEAD_CQ_HEAD k) = new) ∧
      (¬ ok → ∃ t, exec (.cqHeadWrite req k v) s = .next t ∧ indexError t ∧ t.f (JQ_CQ_HEAD_CQ_HEAD k) = cqHead))

/-- R198 to R202, R207 to R217, R230: a queue with work asks for the descriptor at HEAD; an orderly one leads to its item array, one with no items is
refused with code 1; the last bytes of the item array enter its items as QUEUED in order and the job; JQ_DONE by the owner is recorded, by another is
NOT_OWNER; ABORT withdraws the QUEUED items and spoils the PRINTING ones that are no replay, but for a STANDBY; the record of the job that first came
to where it may be released is written, or waits with CQ_STALL while the ring is full. -/
def Obligations.JobFlow : Prop :=
  ∀ (req : Req) (k : Fin 8) (slot : Fin 64) (d got bs : List Byte) (j : Job) (s : State),
    let owner := s.f (JQ_CTRL_OWNER k)
    let head := s.f (JQ_HEAD_HEAD k)
    let addr := s.rd64 (JQ_RING_LO k) + head % 2 ^ s.f (JQ_CTRL_RING_LOG2 k) * 64
    let place := head % 2 ^ s.f (JQ_CTRL_INBOX_LOG2 k)
    let n := leAt d 6 2
    let array := leAt d 0x10 8
    let its := itemDescs n (got ++ slice bs 0 (32 * n - got.length))
    let alone : Prop := s.canSend = true ∧ (∀ c < 32, s.dma c = {}) ∧ ∀ q < 8, q ≠ k.val → s.intakeOf q = .idle
    let tail := s.f (JQ_CQ_TAIL_CQ_TAIL k)
    let size := 2 ^ s.f (JQ_CTRL_CQ_LOG2 k)
    let full : Prop := (tail + 65536 - s.f (JQ_CQ_HEAD_CQ_HEAD k)) % 65536 = size
    (s.asleep = false →
      (alone → s.b (JQ_CTRL_ENABLE k) = true → s.intakeOf k = .idle → s.f (JQ_TAIL_TAIL k) ≠ head → s.job? k place = none →
        s.intakeNext = k → s.rd64 (JQ_RING_LO k) % 64 = 0 → 64 ≤ s.pcie.maxRead →
        ∃ t, exec .jobIntake s = .next t ∧ t.mem = s.mem ∧ t.regs = s.regs ∧ t.intakeOf k = .readDesc ∧
          t.out = .hostRead addr 64 { Attr.to {} addr with tag := s.tagBits } :: s.out) ∧
      (s.intakeOf k = .readDesc → leAt d 4 2 < 16 → bitAt (leAt d 4 2) 0 = false → leAt d 8 1 < 4 → leAt d 0x0A 6 = 0 → 1 ≤ n → n ≤ 256 →
        leAt d 0x18 8 = 0 → leAt d 0x20 8 = 0 → bitAt (leAt d 9 1) owner = true → array % 32 = 0 →
        (∀ x ∈ s.jobs, x.replay = false) → s.items.length + n ≤ 1024 →
        (∃ t asked, exec (.jobDescReturn k (.data d)) s = .next t ∧ t.mem = s.mem ∧ t.items = s.items ∧ t.jobs = s.jobs ∧
          t.intakeOf k = .readItems d asked []) ∧
        (alone → 32 * n ≤ s.pcie.maxRead → array % 4096 + 32 * n ≤ 4096 →
          ∃ t, exec (.jobDescReturn k (.data d)) s = .next t ∧ t.mem = s.mem ∧ t.regs = s.regs ∧ t.intakeOf k = .readItems d (32 * n) [] ∧
            t.out = .hostRead array (32 * n) { Attr.to {} array with tag := s.tagBits } :: s.out)) ∧
      (s.intakeOf k = .readDesc → n = 0 →
        ∃ t, exec (.jobDescReturn k (.data d)) s = .next t ∧ t.intakeOf k = .idle ∧ t.f (JQ_HEAD_HEAD k) = (head + 1) % 65536 ∧
          t.b (JQ_STAT_REFUSED k) = true ∧ t.f (JQ_STAT_LAST_REFUSE k) = 1 ∧ t.b (FLT_SRC_LATCHED 24) = true ∧
          t.byte (dmemBase owner + s.f (JQ_INBOX_OFFSET k) * 128 + place * 128 + 66) = 1 ∧ t.items = s.items) ∧
      (s.intakeOf k = .readItems d (32 * n) got → got.length < 32 * n → bitAt (leAt d 4 2) 0 = false → (∀ x ∈ s.jobs, x.replay = false) →
        (∀ i ∈ its, leAt i 0x0E 1 = 0 ∧ leAt i 0x10 16 = 0 ∧ leAt i 8 4 ≠ 0 ∧ leAt i 8 4 ≤ 16777215 ∧ leAt i 0x0F 1 = 0xFF) →
        serialsRise (s.lastSerial (leAt d 8 1 % 4)) (its.map fun i => leAt i 0 8) = true → s.items.length + n ≤ 1024 →
        ∃ t, exec (.itemArrayReturn k (.data bs)) s = .next t ∧ t.intakeOf k = .idle ∧ (∀ a, a ∉ [JQ_HEAD k, JQ_CTRL k] → t.rd a = s.rd a) ∧
          t.f (JQ_HEAD_HEAD k) = (head + 1) % 65536 ∧ t.items.take s.items.length = s.items ∧
          (t.items.drop s.items.length).map (·.serial) = its.map (fun i => leAt i 0 8) ∧
          (∀ i ∈ t.items.drop s.items.length, i.stage = .queued ∧ i.queue = k.val ∧ i.slot = place) ∧
          (t.eng owner).pendingEv.getLsbD (8 + k) = true ∧
          t.byte (dmemBase owner + s.f (JQ_INBOX_OFFSET k) * 128 + place * 128 + 66) = 0) ∧
      (s.doneJobs.find? (fun x => x.1 = k.val) = some (k.val, j.slot) → s.job? k j.slot = some j → s.waitingCpl = [] →
        (¬ full → s.canSend = true → s.rd64 (JQ_CQ_LO k) % 32 = 0 → 32 ≤ s.pcie.maxPayload →
          ∃ t, exec (.completionRelease k) s = .next t ∧ t.mem = s.mem ∧ t.f (JQ_CQ_TAIL_CQ_TAIL k) = (tail + 1) % 65536 ∧
            .hostWrite (s.rd64 (JQ_CQ_LO k) + tail % size * 32) (j.record (tail / size % 2 = 0) s.tb)
              (Attr.to {} (s.rd64 (JQ_CQ_LO k) + tail % size * 32)) ∈ t.out ∧ t.waitingCpl = []) ∧
        (full → j.stalled = false → ∃ t, exec (.completionRelease k) s = .next t ∧ s.regsBut t [JQ_STAT k] ∧ t.b (JQ_STAT_CQ_STALL k) = true ∧
          t.out = s.out ∧ t.waitingCpl = [(k.val, j.slot, s.tb)]))) ∧
    (s.reaches req (JQ_DONE k) → req.val = owner → s.job? k slot = some j → j.done = false → j.written = false →
      (∃ t, exec (.jqDone req k slot) s = .next t ∧ t.mem = s.mem ∧ t.regs = s.regs ∧ t.items = s.items ∧
        t.job? k slot = some { j with done := true }) ∧
      ∃ t, exec (.jqAbort req k slot) s = .next t ∧ t.mem = s.mem ∧ t.regs = s.regs ∧
        (∃ x, t.job? k slot = some x ∧ x.done = true ∧ x.aborted = true) ∧
        (∀ i ∈ t.items, i.queue = k.val → i.slot = slot.val → i.tag = j.tag → i.stage ≠ .queued ∧
          (i.stage = .printing → i.spoiled = true ∨ i.late = true ∨ i.replay = true ∨ s.role = 3)) ∧
        ∀ i ∈ s.items, i.queue ≠ k.val ∨ i.slot ≠ slot.val ∨ i.tag ≠ j.tag → i ∈ t.items) ∧
    (s.reaches req (JQ_DONE k) → req.val ≠ owner → ∃ t, exec (.jqDone req k slot) s = .next t ∧ t.mem = s.mem ∧ t.jobs = s.jobs ∧
      t.b (JQ_STAT_NOT_OWNER k) = true ∧ t.b (FLT_SRC_LATCHED 26) = true ∧ t.rn (FLT_INFO 26) = k)

/-! Host link and DMA -/

/-- R75, R92, R237 to R242, R251, R286: what the events of the link and of the function leave. The first L0 is at 2.5 GT/s; a later rate is the
highest that both ends support and Target Link Speed allows (R238). A fundamental or function level reset does not stop printing (R75): items,
lanes and domains stay, no chain running. AER's bits and places are PCI Express's (log 4). -/
def Obligations.PcieEvents : Prop :=
  ∀ (speed width : Fin 16) (kind : Fin 4) (k : Fin 8) (vec : Fin 64) (s : State),
    let up := s.b PCIE_LINK_STAT_LINK_UP
    let frozen := s.b DBG_STAT_FROZEN = true
    let prints (t : State) : Prop := (∀ c < 32, (s.dma c).active = false) → t.items = s.items ∧ t.lanes = s.lanes ∧ t.domains = s.domains ∧
        t.issueQ = s.issueQ
    let gone (t : State) : Prop := t.b PCIE_LINK_STAT_BME = false ∧ t.b PCIE_LINK_STAT_D3HOT = false ∧ t.pcie.msixEnable = false ∧
      (∀ c < 32, (t.dma c).active = true → ∃ d, d ∈ (t.dma c).descs ∧ d.err ≠ 0) ∧ ∀ q < 8, t.intakeOf q = .idle
    (s.power.perstLow = false → s.inReset = false → ∃ t, exec (.linkUp speed width) s = .next t ∧ t.b PCIE_LINK_STAT_LINK_UP = true ∧
      t.f PCIE_LINK_STAT_SPEED = (if up then max 1 (min 4 (min speed.val (s.pcie.cfgAt 0xA0 % 16))) else 1) ∧
      t.f PCIE_LINK_STAT_WIDTH = (if 8 ≤ width.val then 8 else if 4 ≤ width.val then 4 else if 2 ≤ width.val then 2 else 1) ∧
      t.b PCIE_LINK_STAT_L1 = false) ∧
    (s.power.perstLow = true ∨ s.inReset = true → ∃ t, exec (.linkUp speed width) s = .next t ∧ t.mem = s.mem ∧ t.regs = s.regs) ∧
    (up = true → ∃ t, exec .linkDown s = .next t ∧ t.b PCIE_LINK_STAT_LINK_UP = false ∧ t.f PCIE_LINK_STAT_SPEED = 0 ∧ t.f PCIE_LINK_STAT_WIDTH = 0 ∧
      (frozen → s.regsBut t [PCIE_LINK_STAT] ∧ t.pcie = { s.pcie with lostDue := true } ∧ t.dmas = s.dmas ∧ t.intake = s.intake) ∧
      (¬ frozen → t.b PCIE_ERR_STAT_LINK_DOWN = true ∧ t.b (FLT_SRC_LATCHED 16) = true ∧ ∀ q < 8, t.intakeOf q = .idle)) ∧
    (up = false → ∃ t, exec .linkDown s = .next t ∧ t.mem = s.mem ∧ t.regs = s.regs) ∧
    (∃ t, exec .perstAssert s = .next t ∧ t.power.perstLow = true ∧ (s.inReset = true → t.mem = s.mem ∧ t.regs = s.regs ∧ t.dmas = s.dmas) ∧
      (s.inReset = false → prints t ∧ gone t ∧ t.b PCIE_ERR_STAT_PERST = true ∧ t.b PCIE_LINK_STAT_LINK_UP = false)) ∧
    (∃ t, exec .perstRelease s = .next t ∧ t.mem = s.mem ∧ t.regs = s.regs ∧ t.power.perstLow = false ∧
      (s.inReset = true → t.power.perstAt = s.power.perstAt ∧ t.out = s.out) ∧
      (s.inReset = false → t.power.perstAt = some (s.power.perstAt.getD s.tb) ∧ t.out = .link false :: s.out)) ∧
    (s.inReset = false →
      (¬ frozen → s.b SYS_BOOT_STAT_CFG_READY = true → ∃ t, exec .functionLevelReset s = .next t ∧ prints t ∧ gone t ∧
        t.b PCIE_ERR_STAT_FLR = true ∧ t.b PCIE_LINK_STAT_LINK_UP = up) ∧
      (frozen ∨ s.b SYS_BOOT_STAT_CFG_READY = false → ∃ t, exec .functionLevelReset s = .next t ∧ t.mem = s.mem ∧ t.regs = s.regs ∧
        t.pcie = s.pcie ∧ t.dmas = s.dmas ∧ t.out = .completion 2 [] :: s.out)) ∧
    (s.inReset = false → ∃ t, exec .unsupportedRequest s = .next t ∧ t.mem = s.mem ∧ t.regs = s.regs ∧ bitAt (t.pcie.aerAt 0x104) 20 = true ∧
      (t.out = .completion 1 [] :: s.out ∨ ∃ sev, t.out = .pcieError sev :: .completion 1 [] :: s.out)) ∧
    (s.asleep = false →
      (∃ t, exec (.pcieErrorRx kind) s = .next t ∧ t.mem = s.mem ∧ (kind ≠ 3 → t.b (FLT_SRC_LATCHED 17) = true) ∧
        (kind = 3 → s.regsBut t [PCIE_ERR_STAT]) ∧ t.b PCIE_ERR_STAT_UNEXPECTED_CPL = (s.b PCIE_ERR_STAT_UNEXPECTED_CPL || kind = 3) ∧
        t.b PCIE_ERR_STAT_UR_CA = (s.b PCIE_ERR_STAT_UR_CA || kind = 0) ∧ t.b PCIE_ERR_STAT_POISONED = (s.b PCIE_ERR_STAT_POISONED || kind = 1) ∧
        t.b PCIE_ERR_STAT_MALFORMED = (s.b PCIE_ERR_STAT_MALFORMED || kind = 2)) ∧
      (bitAt (s.pcie.cfgAt 0x98) 4 = true → ∀ w, ∃ t, exec (.cplTimeout w) s = .next t ∧ s.regsBut t [] ∧ t.dmas = s.dmas ∧ t.intake = s.intake) ∧
      (bitAt (s.pcie.cfgAt 0x98) 4 = false → s.intakeOf k = .readDesc → ∃ t, exec (.cplTimeout (Fin.ofNat 64 (32 + k.val))) s = .next t ∧
          t.b PCIE_ERR_STAT_CPL_TIMEOUT = true ∧
        t.intakeOf k = .idle ∧ t.f (JQ_STAT_LAST_REFUSE k) = 5 ∧ t.b (FLT_SRC_LATCHED 24) = true) ∧
      (∃ t, exec .bmeClear s = .next t ∧ t.b PCIE_LINK_STAT_BME = false ∧ t.b PCIE_LINK_STAT_LINK_UP = up) ∧
      (∃ t, exec .bmeSet s = .next t ∧ t.b PCIE_LINK_STAT_BME = true ∧ t.b PCIE_LINK_STAT_LINK_UP = up) ∧
      (∃ t, exec .d3hotEntry s = .next t ∧ s.regsBut t [PCIE_LINK_STAT] ∧ t.b PCIE_LINK_STAT_D3HOT = true ∧ t.b PCIE_LINK_STAT_LINK_UP = up) ∧
      (s.pcie.msixEnable = true → s.pcie.functionMask = false → s.canSend = true →
        s.rd (MSIX_PBA (vec / 32)) = 1#32 <<< (vec.val % 32) → s.rd (MSIX_PBA (1 - vec / 32)) = 0 →
        ∃ t, exec (.msixUnmask vec) s = .next t ∧ s.regsBut t [MSIX_TABLE (4 * vec + 3), MSIX_PBA (vec / 32)] ∧
          bitAt (t.rn (MSIX_TABLE (4 * vec + 3))) 0 = false ∧ t.rd (MSIX_PBA (vec / 32)) = 0 ∧
          t.out = .msix vec (Attr.to {} (s.rd64 (MSIX_TABLE (4 * vec)))) :: s.out) ∧
      (s.b SYS_PWR_CTRL_PARKED = true → s.pcie.aspmL1 = true → up = true → s.b PCIE_LINK_STAT_L1 = false →
        ∃ t, exec .aspmL1Entry s = .next t ∧ s.regsBut t [PCIE_LINK_STAT] ∧ t.b PCIE_LINK_STAT_L1 = true ∧ t.out = .link true :: s.out))

/-- R258, R268, R271, R283, R287: GO starts a chain at CH_HEAD, or is refused with CFG_ERROR and source 29 while one runs; KICK leaves
WAIT_DESC; ABORT ends a channel with nothing outstanding; FLUSH drains a D2H ring; a count write within the fill is taken, one of the count the
channel itself advances is refused. -/
def Obligations.DmaCommands : Prop :=
  ∀ (req : Req) (c : Fin 32) (v : Word) (s : State),
    let m := s.dma c
    let fill := (s.f (CH_PROD_COUNT c) + 0x80000000 - s.f (CH_CONS_COUNT c)) % 0x80000000
    let refused (t : State) : Prop := t.mem = s.mem ∧ t.b (CH_STAT_CFG_ERROR c) = true ∧ t.b (FLT_SRC_LATCHED 29) = true ∧
      t.rn (FLT_INFO 29) = c ∧ t.dma c = m
    (s.reaches req (CH_CTRL c) → s.rd (CH_CTRL c) = 0 →
      (m.active = false → 1 ≤ s.f (CH_CFG_RB_QUOTA c) → s.f (CH_CFG_RB_QUOTA c) ≤ 64 → s.b (CH_CFG_RING_EN c) = false →
        ∃ t, exec (.dmaGo req c) s = .next t ∧ t.mem = s.mem ∧ (t.dma c).active = true ∧ (t.dma c).next = s.rd64 (CH_HEAD_LO c) ∧
          (t.dma c).descs = [] ∧ t.f (CH_STAT_STATE c) = if s.b PCIE_LINK_STAT_BME = true then 1 else 4) ∧
      (m.active = true → ∃ t, exec (.dmaGo req c) s = .next t ∧ refused t) ∧
      (∃ t, exec (.dmaKick req c) s = .next t ∧ (t.dma c).waitDesc = false) ∧
      (m.active = true → m.descs = [] → m.fetching = false → ∃ t, exec (.dmaAbort req c) s = .next t ∧ t.mem = s.mem ∧
        (t.dma c).active = false ∧ t.f (CH_STAT_STATE c) = 0) ∧
      (m.active = false → ∃ t, exec (.dmaAbort req c) s = .next t ∧ t.mem = s.mem ∧ s.regsBut t [CH_CTRL c] ∧ t.dma c = m) ∧
      (m.active = true → m.stop = .none → m.keptCfg = none → m.descs = [] → m.tail % 0x80000000 = s.f (CH_CONS_COUNT c) →
        s.b (CH_CFG_RING_EN c) = true → s.b (CH_CFG_DIR c) = true → fill ≠ 0 →
        ∃ t, exec (.dmaFlush req c) s = .next t ∧ t.mem = s.mem ∧ (t.dma c).flush = true ∧ (t.dma c).paused = false)) ∧
    (s.reaches req (CH_CONS c) → s.b (CH_CFG_DIR c) = false → m.keptCfg = none → (∀ p < 32, (s.dma p).active = false) → m.descs = [] →
        m.tail % 0x80000000 = s.f (CH_PROD_COUNT c) →
      (v.toNat % 0x80000000 + 0x80000000 - s.f (CH_CONS_COUNT c)) % 0x80000000 ≤ fill →
      ∃ t, exec (.ringCountWrite req c false v) s = .next t ∧ s.regsBut t [CH_CONS c, CH_STAT c, CH_INFLIGHT c] ∧
        t.f (CH_CONS_COUNT c) = v.toNat % 0x80000000) ∧
    (s.reaches req (CH_PROD c) → s.b (CH_CFG_DIR c) = false → m.keptCfg = none → v.toNat % 0x80000000 ≠ s.f (CH_PROD_COUNT c) →
      ∃ t, exec (.ringCountWrite req c true v) s = .next t ∧ refused t ∧ t.f (CH_PROD_COUNT c) = s.f (CH_PROD_COUNT c))

/-- R235, R236, R256 to R258, R273 to R277, R282: a channel takes a ready descriptor of its chain and waits at one that is not ready; asks for the
bytes of a descriptor, no more than a read request carries and none across 4 KiB; puts the returned bytes of an H2D transfer at its device address;
and writes back the STATUS of a descriptor whose bytes are all moved; a write-back refused is counted and raises source 28. -/
def Obligations.DmaFlow : Prop :=
  ∀ (c : Fin 32) (bs : List Byte) (d : Desc) (r : DataReq) (refused : Bool) (s : State),
    let m := s.dma c
    let n := min d.len (min (max 1 s.pcie.maxRead) (4096 - d.host % 4096))
    let alone : Prop := (∀ k < 32, k ≠ c.val → s.dma k = {}) ∧ ∀ k < 8, s.intakeOf k = .idle ∧ s.hasWork k = false
    s.asleep = false → m.active = true → m.stop = .none → m.keptCfg = none → s.canSend = true → s.b (CH_CFG_RING_EN c) = false →
    s.b (CH_CFG_DIR c) = false →
    (m.fetching = true → (∀ x ∈ m.descs, ∀ q ∈ x.reqs, q.st = .wait) →
      (leAt bs 28 4 ≠ 0 → m.descs = [] → ∃ t, exec (.descFetchReturn c (.data bs)) s = .next t ∧ t.mem = s.mem ∧ (t.dma c).waitDesc = true ∧
        (t.dma c).descs = [] ∧ t.f (CH_STAT_STATE c) = 3) ∧
      (leAt bs 28 4 = 0 → leAt bs 8 8 % 32 = 0 → bitAt (leAt bs 24 4) 28 = false →
        ∃ t, exec (.descFetchReturn c (.data bs)) s = .next t ∧ t.mem = s.mem ∧ (t.dma c).next = leAt bs 8 8 ∧
          (t.dma c).descs.map (fun x => (x.addr, x.bytes)) = m.descs.map (fun x => (x.addr, x.bytes)) ++ [(m.next, slice bs 0 32)])) ∧
    (m.fetching = true → m.descs = [d] → d.begun = true → d.err = 0 → d.asked = 0 → d.reqs = [] → 1 ≤ d.len →
      2 ≤ s.f (CH_CFG_RB_QUOTA c) → alone →
      ∃ t, exec (.dmaRequestIssue c) s = .next t ∧ t.mem = s.mem ∧
        t.out = .hostRead d.host n
          { wide := decide (0x100000000 ≤ d.host), tag := s.tagBits, ro := bitAt d.lenCtrl 30, ns := bitAt d.lenCtrl 29 } :: s.out ∧
        (t.dma c).descs.map (fun x => (x.asked, x.reqs)) = [(n, [⟨0, n, .wait⟩])]) ∧
    (m.fetching = true → m.descs = [{ d with reqs := [r] }] → d.begun = true → d.err = 0 → d.span = none → d.carry = [] → d.swap = 0 →
      r.st = .wait → r.off = d.moved → d.dev + d.filled + r.len ≤ s.installed → s.installed ≤ 0x800000000 → s.poison = [] → s.soft = [] →
      ∃ t, exec (.dataReturn c (.data bs) 0 []) s = .next t ∧ (t.dma c).descs.map (fun x => (x.moved, x.reqs)) = [(d.moved + r.len, [])] ∧
        ∀ b, t.byte b = if d.dev + d.filled ≤ b then ((slice bs 0 r.len)[b - (d.dev + d.filled)]?).getD (s.byte b) else s.byte b) ∧
    (m.fetching = true → m.descs = [d] → d.whole = true → d.carry = [] → d.addr % 32 = 0 → 4 ≤ s.pcie.maxPayload → d.len < 16777216 → alone →
      ∃ t, exec (.descComplete c refused) s = .next t ∧ t.mem = s.mem ∧ (t.dma c).descs = [] ∧
        t.rn (CH_DONECNT c) = (s.rn (CH_DONECNT c) + 1) % 0x100000000 ∧
        (refused = true → t.b (CH_STAT_WB_ERROR c) = true ∧ t.b (FLT_SRC_LATCHED 28) = true) ∧
        .hostWrite (d.addr + 0x1C) (leBytes 4 (1 + 256 * d.len)) (Attr.to {} (d.addr + 0x1C)) ∈ t.out)

/-! Device memory, streams, dot clocks and firing -/

/-- R81, R98, R290, R292, R294: TRAIN starts a channel's training, but not after a failed boot, and is not held; training ends with the channel's
capacity or with the step it failed at and fault source 12; a scrub step corrects a single-bit error and records it as source 13, and records a
double-bit error as source 14. R296, R301, R303: a stream that meets the conditions of R301 is enabled, its line length shown, its lines counted from
CH_CONS; one that does not is refused with CFG_ERROR and source 35; it is disabled only while its domain is stopped. That HIGH_WM counts there as
written is the model's choice (log 110), and a domain's readings are log 40's. -/
def Obligations.DeviceMemoryAndStreams : Prop :=
  (∀ (req : Req) (m : Fin 2) (v : Word) (step : BitVec 8) (cap : BitVec 16) (a : Nat) (s : State),
    let state := s.f (MEMC_CH_STAT_TRAIN_STATE m)
    let ch := s.ddrChan a
    (s.granted req (MEMC_CH_CFG m) → s.bootFailed = true → ∃ t, exec (.ddrTrain req m v) s = .next t ∧ t.f (MEMC_CH_STAT_TRAIN_STATE m) = state) ∧
    (s.granted req (MEMC_CH_CFG m) → s.bootFailed = false → state ≠ 1 → ∃ t, exec (.ddrTrain req m v) s = .next t ∧
      s.regsBut t [MEMC_CH_CFG m, MEMC_CH_STAT m] ∧ t.f (MEMC_CH_STAT_TRAIN_STATE m) = 1 ∧ t.f (MEMC_CH_STAT_FAIL_STEP m) = 0 ∧
      t.f (MEMC_CH_STAT_CAPACITY m) = 0 ∧ t.b (MEMC_CH_CFG_TRAIN m) = false ∧ t.f (MEMC_CH_CFG_RATE m) = v.toNat % 8) ∧
    (s.asleep = false → state = 1 → cap.toNat ≤ 16384 → ∃ t, exec (.trainDone m true step cap) s = .next t ∧ s.regsBut t [MEMC_CH_STAT m] ∧
      t.f (MEMC_CH_STAT_TRAIN_STATE m) = 2 ∧ t.f (MEMC_CH_STAT_CAPACITY m) = cap.toNat) ∧
    (s.asleep = false → state = 1 → ∃ t, exec (.trainDone m false step cap) s = .next t ∧ t.mem = s.mem ∧
      t.f (MEMC_CH_STAT_TRAIN_STATE m) = 3 ∧ t.f (MEMC_CH_STAT_FAIL_STEP m) = step.toNat ∧ t.b (FLT_SRC_LATCHED 12) = true) ∧
    (s.asleep = false → s.b MEMC_SCRUB_EN = true → a < s.installed → s.poison.contains (a / 4) = false →
      (s.soft.contains (a / 4) = false → ∃ t, exec (.scrubStep a 0) s = .next t ∧ t.mem = s.mem ∧ t.regs = s.regs ∧ t.poison = s.poison ∧
        t.soft = s.soft) ∧
      (∀ err : Fin 3, err = 1 ∨ err = 0 ∧ s.soft.contains (a / 4) = true → ∃ t, exec (.scrubStep a err) s = .next t ∧ t.mem = s.mem ∧
        t.poison = s.poison ∧ t.soft.contains (a / 4) = false ∧ t.b (MEMC_ECC_STAT_CE ch) = true ∧
        t.b (MEMC_ECC_STAT_BY_SCRUB ch) = true ∧ t.b (MEMC_ECC_STAT_UE ch) = s.b (MEMC_ECC_STAT_UE ch) ∧
        t.f (MEMC_ECC_STAT_SEQ ch) = (s.f (MEMC_ECC_STAT_SEQ ch) + 1) % 256 ∧
        t.f (MEMC_ECC_CNT_CE ch) = min (s.f (MEMC_ECC_CNT_CE ch) + 1) 65535 ∧
        t.rd64 (MEMC_ECC_ADDR_LO ch) = a / 4 * 4 % 0x10000000000000000 ∧ t.b (FLT_SRC_LATCHED 13) = true) ∧
      (∃ t, exec (.scrubStep a 2) s = .next t ∧ t.mem = s.mem ∧ t.poison = a / 4 :: s.poison ∧ t.b (MEMC_ECC_STAT_UE ch) = true ∧
        t.f (MEMC_ECC_CNT_UE ch) = min (s.f (MEMC_ECC_CNT_UE ch) + 1) 65535 ∧ t.b (FLT_SRC_LATCHED 14) = true))) ∧
  (∀ (req : Req) (n : Fin 32) (v : Word) (s : State),
    let on := (v &&& 0xFF1F01FF#32) ||| 1#32
    let off := v &&& 0xFF1F01FE#32
    let old := s.f (RAS_STREAM_DCD n)
    let x := s.wr (RAS_STREAM n) on
    let d := x.f (RAS_STREAM_DCD n)
    let c := x.f (RAS_STREAM_CHANNEL n)
    let pipe := x.f (RAS_STREAM_PIPE n)
    let lane (l : Nat) : Prop := l / 8 = pipe ∧ bitAt (x.f (RAS_STREAM_LANES n)) (l % 8) = true
    let cols (l : Nat) : Nat := x.f (HL_NOZ_COUNT l) / 2 ^ x.f (RAS_GEOM_ROWS l)
    let bpp := if x.b (RAS_STREAM_BPP n) = true then 2 else 1
    let bytes := ((List.range 8).map fun k => if bitAt (x.f (RAS_STREAM_LANES n)) k = true then 32 * ((cols
        (8 * pipe + k) * bpp + 255) / 256) else 0).sum
    let fits (span : Nat) : Prop := bytes * (span + 8) ≤ x.chSize c ∧ bytes * (span + 8) ≤ x.f (CH_WM_HIGH_WM c) * x.chSize c / 256
    let scan := x.b (RAS_SCAN_SCAN_EN d) = true
    let laneOk (l : Nat) : Prop := x.f (HL_CFG_DCD l) = d ∧
      (∀ m < 32, m ≠ n.val → x.b (RAS_STREAM_ENABLE m) = true → ¬ (l / 8 = x.f (RAS_STREAM_PIPE m) ∧
          bitAt (x.f (RAS_STREAM_LANES m)) (l % 8) = true)) ∧
      x.f (RAS_GEOM_ROWS l) ≠ 3 ∧ x.f (HL_NOZ_COUNT l) % 2 ^ x.f (RAS_GEOM_ROWS l) = 0 ∧
      x.f (RAS_STITCH_WIDTH_L l) + x.f (RAS_STITCH_WIDTH_R l) ≤ cols l ∧ (scan → x.f (RAS_GEOM_ROWS l) = 0 ∧ x.f (RAS_SKEW_DELAY l) = 0)
    let meets : Prop := x.f (DCD_CTRL_STATE d) = 0 ∧ x.b (CH_CFG_DIR c) = false ∧ x.b (CH_CFG_RING_EN c) = true ∧ (∃ l, lane l) ∧
      (∀ l, lane l → laneOk l) ∧ (x.b (RAS_STREAM_BPP n) = false → x.f (RAS_STREAM_ONE_LEVEL n) ≠ 0) ∧
      (scan → x.f (RAS_SCAN_PASS_LINES d) ≠ 0) ∧
      ∃ a b, lane a ∧ lane b ∧ (∀ l, lane l → x.f (RAS_SKEW_DELAY b) ≤ x.f (RAS_SKEW_DELAY l) ∧ x.f (RAS_SKEW_DELAY l) ≤ x.f (RAS_SKEW_DELAY a)) ∧
        fits (x.f (RAS_SKEW_DELAY a) - x.f (RAS_SKEW_DELAY b))
    let refused (t : State) : Prop := t.mem = s.mem ∧ t.rd (RAS_STREAM n) = s.rd (RAS_STREAM n) ∧ t.strm n = s.strm n ∧
      t.b (RAS_STREAM_STAT_CFG_ERROR n) = true ∧ t.b (FLT_SRC_LATCHED 35) = true ∧ t.rn (FLT_INFO 35) = n
    s.granted req (RAS_STREAM n) → s.rd (RAS_STREAM n) &&& 0x00E0FE00#32 = 0 →
    (s.b (RAS_STREAM_ENABLE n) = false →
      (meets → ∃ t, exec (.streamEnable req n v) s = .next t ∧
        s.regsBut t [RAS_STREAM n, RAS_STREAM_STAT n, RAS_LINE_BYTES n] ∧ t.rd (RAS_STREAM n) = on ∧ t.b (RAS_STREAM_STAT_ACTIVE n) = true ∧
        t.f (RAS_LINE_BYTES_BYTES n) = bytes % 65536 ∧ t.strm n = { base := s.f (CH_CONS_COUNT (x.f (RAS_STREAM_CHANNEL n))), passed := 0 }) ∧
      (¬ meets → ∃ t, exec (.streamEnable req n v) s = .next t ∧ refused t)) ∧
    (s.b (RAS_STREAM_ENABLE n) = true →
      (s.f (DCD_CTRL_STATE old) = 0 → s.f (DCD_CTRL_STATE (v.toNat / 16 % 4)) = 0 → ∃ t, exec (.streamDisable req n v) s = .next t ∧
        s.regsBut t [RAS_STREAM n, RAS_STREAM_STAT n] ∧ t.rd (RAS_STREAM n) = off ∧ t.b (RAS_STREAM_STAT_ACTIVE n) = false) ∧
      (s.f (DCD_CTRL_STATE old) ≠ 0 → ∃ t, exec (.streamDisable req n v) s = .next t ∧ refused t)))

/-- R62, R341, R361, R363, R372, R377: GO starts a stopped domain that meets R361 and whose lanes owe no SYNC from its START with full speed, in
time mode here, and a PARK accepted in the same tick is then refused; any other domain
refuses it with CFG_ERROR and source 42; STOP makes a running domain STOPPING and leaves a stopped one as it is; DERATE asks for a derating
step. -/
def Obligations.DotClockCommands : Prop :=
  ∀ (req : Req) (d : Fin 4) (s : State),
    let x := s.dom d
    let lanes := s.domainLanes d
    s.reaches req (DCD_CTRL d) → s.rd (DCD_CTRL d) &&& 0x1C#32 = 0 →
    (s.f (DCD_CTRL_STATE d) = 0 → s.f (DCD_CTRL_MODE d) = 2 → lanes ≠ [] → (∀ l ∈ lanes, s.firePeriod l ≤ s.f (DCD_TMIN_TICKS d)) →
      (∀ l ∈ lanes, ∀ c ∈ (s.lane l).slices, c.framesDone = false) → s.b (RAS_SCAN_SCAN_EN d) = false → s.role ≠ 5 →
          s.b (DCD_SHCTL_ARM d) = false → x.freq ≠ 0 → x.freq * s.f (DCD_TMIN_TICKS d) ≤ 0x100000000 →
      ∃ t, exec (.dcdGo req d) s = .next t ∧ s.regsBut t [DCD_CTRL d, DCD_PHASE d, DCD_SPEED d, SYS_PWR_CTRL] ∧ t.f (DCD_CTRL_STATE d) = 1 ∧
        (s.power.parkAt ≠ some s.tb → t.rd SYS_PWR_CTRL = s.rd SYS_PWR_CTRL) ∧
        (s.power.parkAt = some s.tb → s.b SYS_PWR_CTRL_PARKED = false →
          t.b SYS_PWR_CTRL_PARK = false ∧ t.b SYS_PWR_CTRL_PARK_REFUSED = true) ∧
        t.f (DCD_SPEED_S d) = 0x8000 ∧ t.f (DCD_PHASE_LAG d) = 0 ∧ (t.dom d).start = s.rn (DCD_START d) ∧ (t.dom d).made = 0 ∧
        (t.dom d).accum = 0 ∧ (t.dom d).speed = 0x1000000 ∧ (t.dom d).freq = x.freq) ∧
    (s.f (DCD_CTRL_STATE d) ≠ 0 ∨ s.f (DCD_CTRL_MODE d) = 0 ∨ lanes = [] ∨ s.role = 5 → ∃ t, exec (.dcdGo req d) s = .next t ∧
      t.mem = s.mem ∧ t.rd (DCD_CTRL d) = s.rd (DCD_CTRL d) ∧ t.dom d = x ∧ t.b (DCD_STAT_CFG_ERROR d) = true ∧ t.b (FLT_SRC_LATCHED 42) = true) ∧
    (s.f (DCD_CTRL_STATE d) ≠ 0 → ∃ t, exec (.dcdStop req d) s = .next t ∧ s.regsBut t [DCD_CTRL d] ∧ t.f (DCD_CTRL_STATE d) = 2 ∧
      t.f (DCD_CTRL_MODE d) = s.f (DCD_CTRL_MODE d) ∧ t.dom d = x) ∧
    (s.f (DCD_CTRL_STATE d) = 0 → ∃ t, exec (.dcdStop req d) s = .next t ∧ s.regsBut t []) ∧
    (∃ t, exec (.derate req d) s = .next t ∧ s.regsBut t [] ∧ t.dom d = { x with derate := true })

/-- R340 to R344, R348, R358, R371, R702, R710: a boundary that is due stamps the domain's next line and the time base and counts one boundary; none
is made before it is due, by a STANDBY or in TAKEOVER; a planning tick falls once at each TIMEBASE multiple of 3,200 and moves each domain's speed
factor toward its target by SLEW at most. -/
def Obligations.LineTiming : Prop :=
  ∀ (d : Fin 4) (s : State),
    let x := s.dom d
    let c := s.f (DCD_SRC_CHANNEL d)
    let rested := x.bcount = 0 ∨ s.rd64 (DCD_BOUND_TB_LO d) + s.f (DCD_TMIN_TICKS d) ≤ s.tb
    let still := ∃ t, exec (.lineBoundary d) s = .next t ∧ t.mem = s.mem ∧ t.regs = s.regs ∧ t.domains = s.domains
    let made := ∃ t, exec (.lineBoundary d) s = .next t ∧ (t.dom d).made = x.made + 1 ∧ t.rd64 (DCD_BOUND_TB_LO d) = s.tb ∧
      t.rn (DCD_LINE d) = if x.made = 0 then (x.start + 0xFFFFFFFC) % 0x100000000 else (s.rn (DCD_LINE d) + 1) % 0x100000000
    s.asleep = false → s.tb < 0x10000000000000000 →
    (s.role ≠ 3 → s.role ≠ 4 → s.f (DCD_CTRL_STATE d) ≠ 0 → rested →
      (s.f (DCD_CTRL_MODE d) = 2 → 0x100000000 ≤ s.accumNow d → made) ∧
      (s.f (DCD_CTRL_MODE d) = 1 → c < 12 → s.b (FB_CTRL_EN c) = true → s.b (FB_LIVE_DETECTED c) = true → x.hold = false →
        x.target ≤ s.xhat d x.made → made)) ∧
    (s.role = 3 ∨ s.role = 4 ∨ s.f (DCD_CTRL_STATE d) = 0 ∨ ¬ rested ∨ (s.f (DCD_CTRL_MODE d) = 2 ∧ s.accumNow d < 0x100000000) → still) ∧
    (s.tb % 3200 ≠ 0 ∨ s.planAt = some s.tb → ∃ t, exec .planningTick s = .next t ∧ t.mem = s.mem ∧ t.regs = s.regs ∧ t.domains = s.domains) ∧
    (s.tb % 3200 = 0 → s.planAt ≠ some s.tb → ∃ t, exec .planningTick s = .next t ∧ t.planAt = some s.tb ∧
        (t.dom d).speed = (if x.speed < x.speedTarget then min x.speedTarget (x.speed + s.f (DCD_DERATE_SLEW d))
        else max x.speedTarget (x.speed - s.f (DCD_DERATE_SLEW d))) ∧
      t.f (DCD_SPEED_S d) = (t.dom d).speed / 512 % 65536 ∧ (t.dom d).made = x.made)

/-- R311, R312, R488: SLICE_HANDOVER hands over the first slice not handed over, with the decision word of each dot; a blanked slice and a line
without dots have none, and a test fire has the domain's test drops. R384, R385: a decision with a drop has the width of the energy equation, with the
trim its entry had at take-up, held to W_MIN and W_MAX, and the drop count above it; SCAN_W stands for the width on a test line where it is enabled.
R386, R388: the temperature it uses, between sense points, with the zone's rise, and the curve at it. R395: where a phase slot begins. R379, R381,
R396, R397: a nozzle with a bad entry, or held, or in a state that may not fire, is not tried; one whose bucket, less the leak, has reached N is
guarded; and the hand-over writes each sound entry's bucket back, less the leak and with its fire, and nothing else of the entry. -/
def Obligations.SliceHandover : Prop :=
  ∀ (l : Fin 64) (pre post : List Slice) (c : Slice) (j w : Nat) (s : State),
    let n := s.f (HL_NOZ_COUNT l)
    let base := s.f (HL_NOZ_NBASE l)
    let drops := s.f (VFY_DCFG_TEST_DROPS (s.f (HL_CFG_DCD l)))
    let duty := (s.head l).duty
    let leak := (c.period + 1) * duty.1 / duty.2 - c.period * duty.1 / duty.2
    let sound (e : Nat) : Prop := onesBelow e 64 % 2 = 0 ∧ bits e 12 10 < 5
    let writtenBack (t : State) (fires : List Nat) : Prop := 0 < duty.2 → base + n ≤ 262144 → ∀ i < n, sound (s.nozzle (base + i)) →
      let e := s.nozzle (base + i)
      let e' := t.nozzle (base + i)
      bits e' 41 32 = min 1023 (bits e 41 32 - leak + if i ∈ fires then 1 else 0) ∧ e' % 2 ^ 32 = e % 2 ^ 32 ∧ bits e' 62 42 = bits e 62 42 ∧
        sound e'
    let handed (ds fires : List Nat) : Prop := ∃ t, exec (.sliceHandover l) s = .next t ∧
      (t.lane l).slices = pre ++ { c with handed := true, decisions := ds } :: post ∧ writtenBack t fires
    (s.asleep = false → (∀ x ∈ pre, x.handed = true ∧ x.period ≠ c.period) → (∀ x ∈ post, x.period ≠ c.period) →
      (c.handed = false → (s.lane l).slices = pre ++ c :: post →
        (c.blank = true → handed [] []) ∧
        (c.blank = false → c.dots = {} → 0 < w → c.fire = [(j, w)] →
          handed ((List.range n).map fun i => if i = j then s.decision l c j w else 0) [j])) ∧
      ((s.lane l).slices = pre → ∃ t, exec (.sliceHandover l) s = .next t ∧ t.mem = s.mem ∧ t.regs = s.regs ∧ t.lanes = s.lanes)) ∧
    (c.blank = false → c.kind = 1 → c.test = [(j, w)] →
      (s.placed l c).fire = [(j, if drops = 0 then 1 else drops)] ∧ (s.placed l c).dots = {} ∧
      (s.placed l c).trims = [(j, s.nozzle (base + j) % 1024)]) ∧
    (let e := c.energy
     let cols := s.cols l
     let kt := s.kt e l (e.temp cols (j % cols))
     let p : Int := bits e.wBase.toNat 15 0 * (1024 + toSigned 10 (Map.get (fun _ => 0) c.trims j)) * kt * e.kv
     let width := min (max ((p + 2 ^ 41) / 2 ^ 42).toNat (bits e.wLim.toNat 11 0)) (bits e.wLim.toNat 27 16)
     s.decision l c j 0 = 0 ∧
     (0 < w → 0 < cols →
       (c.testLine = false ∨ e.scan = none → s.decision l c j w = width + 4096 * w) ∧
       ∀ v, c.testLine = true → e.scan = some v → s.decision l c j w = v + 4096 * w)) ∧
    (∀ (e : Energy) (t : Int),
      let v := e.ktcfg.toNat
      let sh := bits v 19 16
      let curve (i : Nat) : Int := ofLe (s.readMem (barBase + 0xB00000 + (bits v 20 20 * 64 + l) * 0x80 + 2 * i) 2)
      let x := t - toSigned 16 (bits v 15 0)
      sh ≤ 8 →
      (x < 0 → s.kt e l t = curve 0) ∧ (63 * 2 ^ sh ≤ x → s.kt e l t = curve 63) ∧
      ∀ i : Nat, i < 63 → (i : Int) * 2 ^ sh ≤ x → x < ((i : Int) + 1) * 2 ^ sh → s.kt e l t =
        if sh = 0 then curve i else curve i + ((curve (i + 1) - curve i) * (x - i * 2 ^ sh) + 2 ^ (sh - 1)) / 2 ^ sh) ∧
    (∀ (e : Energy) (cols col : Nat), 0 < cols → e.points ≠ [] → e.points.Pairwise (· < ·) → e.ts.length = e.points.length →
      e.slopes.length + 1 = e.points.length →
      let rise : Int := (e.rises.getD (col * 16 / cols) 0 / 4096 : Nat)
      (col ≤ e.points.headD 0 → e.temp cols col = satS 16 (e.ts.headD 0 + rise)) ∧
      (e.points.getLastD 0 ≤ col → e.temp cols col = satS 16 (e.ts.getLastD 0 + rise)) ∧
      ∀ i, i + 1 < e.points.length → e.points.getD i 0 ≤ col → col < e.points.getD (i + 1) 0 → e.temp cols col =
        satS 16 (e.ts.getD i 0 + (e.slopes.getD i 0 * ((col : Int) - e.points.getD i 0) + 32768) / 65536 + rise)) ∧
    (∀ φ, s.slotStart l φ = s.f (RAS_SKEW_PHASE l) + φ * 64 / 2 ^ s.f (HL_LINK_NPH l)) ∧
    (let e := s.nozzle (base + j)
     let refused := ¬ sound e ∨ 2 ≤ bits e 12 10 ∨ (c.replay = false ∧ s.heldAt (base + j) c.bcount = true)
     let full := s.b (FH_DUTY_GUARD_EN l) = true ∧ duty.1 ≤ bits e 41 32 - leak
     0 < duty.2 → (refused → s.tryNozzle l c j = .no) ∧ (¬ refused → full → s.tryNozzle l c j = .guarded) ∧
       (¬ refused → ¬ full → s.tryNozzle l c j = .usable))

/-- R144, R386 to R390, R402 to R408, R410, R421, R455, R457: a well-formed SENSE frame of an UP lane sets the sensed temperatures, the supply factor
and T_PEAK, and inhibits the head at or above T_HARD or without head supply; one of another NSP sets SENSE_ERROR alone, and one with INCOMPLETE sets
DATA_LOST; a malformed one is counted; a rise update, 16,384 ticks after the one before, moves each zone's rise; CLR_INHIBIT arms the clearing only
where R407 allows it, by the pairs as written, and does nothing during replay (R410); FORCE_INHIBIT inhibits with cause 4. -/
def Obligations.FiringCommands : Prop :=
  ∀ (req : Req) (h : Fin 64) (z : Fin 16) (p : List Byte) (s : State),
    let n := s.f (FH_SPCFG_NSP_M1 h) + 1
    let x := s.head h
    let vm := leAt p 4 2
    let v := s.f (FH_VNOM_V_NOM h)
    let temp (i : Nat) : Int := toSigned 16 (leAt p (8 + 2 * i) 2)
    let hot := ((List.range n).map temp).foldl max (temp 0)
    let lim : Int := toSigned 16 (s.f (FH_TLIM_T_HARD h))
    let soft : Int := toSigned 16 (s.f (FH_TLIM_T_SOFT h))
    let inhibited (t : State) (cause : Nat) : Prop := t.b (FH_STAT_INHIBITED h) = true ∧ t.f (FH_STAT_CAUSE h) = cause ∧
      t.f (FH_CNT_INHIBITS h) = min (s.f (FH_CNT_INHIBITS h) + 1) 65535 ∧ t.b (FH_STAT_INHIBIT_EV h) = true ∧ t.b (FLT_SRC_LATCHED 45) = true
    (s.asleep = false → s.b (FH_STAT_INHIBITED h) = false → s.replaying h = false →
      (s.f (HL_LINK_STATE h) = 2 → senseOk p = true → leAt p 6 1 = n → leAt p 7 1 = 0 → s.f (FH_VWIN_V_LO h) ≤ vm → vm ≤ s.f (FH_VWIN_V_HI h) →
        soft < lim → (∀ i < 16, s.rd (FH_RISEZ h i) = 0) →
        (0 < vm → hot < lim → ∃ t, exec (.senseRx h p) s = .next t ∧ t.f (FH_TEMP_V_MEAS h) = vm ∧
          t.f (FH_KV_KV h) = min 65535 ((v * v * 16384 + vm * vm / 2) / (vm * vm)) ∧ toSigned 16 (t.f (FH_TEMP_T_PEAK h)) = hot ∧
          t.regBytes (FH_SENSE h 0) 32 = slice p 8 32 ∧ t.b (FH_STAT_INHIBITED h) = false ∧ (t.head h).senseAt = some s.tb) ∧
        (0 < vm → lim ≤ hot → ∃ t, exec (.senseRx h p) s = .next t ∧ inhibited t 1) ∧
        (vm = 0 → ∃ t, exec (.senseRx h p) s = .next t ∧ inhibited t 3)) ∧
      (s.f (HL_LINK_STATE h) = 2 → senseOk p = true → leAt p 6 1 ≠ n → ∃ t, exec (.senseRx h p) s = .next t ∧ t.mem = s.mem ∧ t.head h = x ∧
        t.b (HL_STAT_SENSE_ERROR h) = true ∧ t.b (FLT_SRC_LATCHED 55) = true ∧ t.rn (FLT_INFO 55) = h) ∧
      (s.f (HL_LINK_STATE h) = 2 → senseOk p = true → leAt p 6 1 = n → leAt p 7 1 % 4 = 1 → ∃ t, exec (.senseRx h p) s = .next t ∧
        t.b (HL_STAT_DATA_LOST h) = true ∧ t.b (FLT_SRC_LATCHED 57) = true) ∧
      (senseOk p = false → ∃ t, exec (.senseRx h p) s = .next t ∧ t.mem = s.mem ∧
        t.f (HL_ERRCNT_FRAME_BAD h) = min (s.f (HL_ERRCNT_FRAME_BAD h) + 1) 65535 ∧ t.b (FLT_SRC_LATCHED 50) = true) ∧
      (s.f (HL_LINK_STATE h) ≠ 2 → senseOk p = true → ∃ t, exec (.senseRx h p) s = .next t ∧ t.mem = s.mem ∧ t.regs = s.regs)) ∧
    (s.asleep = false → (∃ at_, s.riseAt = some at_ ∧ s.tb < at_ + 16384) → ∃ t, exec .riseUpdate s = .next t ∧ t.mem = s.mem ∧
      t.regs = s.regs ∧ t.heads = s.heads) ∧
    (s.asleep = false → (∀ at_, s.riseAt = some at_ → at_ + 16384 ≤ s.tb) → ∃ t, exec .riseUpdate s = .next t ∧ (t.head h).drops = [] ∧
      (t.rn (FH_RISEZ h z) : Int) = max 0 (min 0xFFFFFFFF ((s.rn (FH_RISEZ h z) : Int) + asr ((s.f (FH_RISE_K_RISE h) : Int) *
        (Map.get (fun _ => 0) x.drops z.val : Nat) - s.rn (FH_RISEZ h z)) (min 20 (s.f (FH_RISE_TAU_SH h)))))) ∧
    (s.granted req (FH_CTRL h) → s.rd (FH_CTRL h) = 0 → s.replaying h = true → ∃ t, exec (.clrInhibit req h) s = .next t ∧ s.regsBut t [] ∧
      t.head h = x) ∧
    (s.granted req (FH_CTRL h) → s.rd (FH_CTRL h) = 0 → s.replaying h = false → s.b (FH_STAT_INHIBITED h) = true →
      soft < lim → s.f (FH_VWIN_V_LO h) ≤ s.f (FH_VWIN_V_HI h) →
      let used := { x with tLim := (s.f (FH_TLIM_T_SOFT h), s.f (FH_TLIM_T_HARD h)), vWin := (s.f (FH_VWIN_V_LO h), s.f (FH_VWIN_V_HI h)) }
      (toSigned 16 (s.f (FH_TEMP_T_PEAK h)) < soft → x.senseAt = some s.tb → s.f (FH_TEMP_V_MEAS h) ≠ 0 →
        s.f (FH_VWIN_V_LO h) ≤ s.f (FH_TEMP_V_MEAS h) → s.f (FH_TEMP_V_MEAS h) ≤ s.f (FH_VWIN_V_HI h) → x.pre = 0 →
        3 * bits x.wLim.toNat 27 16 + 80 ≤ s.firePeriod h →
        ∃ t, exec (.clrInhibit req h) s = .next t ∧ s.regsBut t [] ∧ t.head h = { used with clearing := true }) ∧
      (soft ≤ toSigned 16 (s.f (FH_TEMP_T_PEAK h)) → ∃ t, exec (.clrInhibit req h) s = .next t ∧ s.regsBut t [FH_STAT h] ∧
        t.b (FH_STAT_CFG_ERROR h) = true ∧ t.b (FH_STAT_INHIBITED h) = true ∧ t.head h = used)) ∧
    (s.reaches req (FH_CTRL h) → s.rd (FH_CTRL h) = 0 → s.replaying h = false → s.b (FH_STAT_INHIBITED h) = false →
      ∃ t, exec (.forceInhibit req h) s = .next t ∧ t.b (FH_CTRL_FORCE_INHIBIT h) = true ∧ inhibited t 4)

/-! Head lanes -/

/-- R415, R425, R439, R443, R448, R451, R478: ENABLE starts negotiation, in PARKED none, on a lane whose nozzle range and domain allow it, with its
rises at 0; it is refused with source 54 for the range and with 58 for another condition, with both for both; disabling sends ABORT and leaves no
link, lease or slice; ACQUIRE is held but by a STANDBY or in ISOLATED; RELEASE sends ABORT and RELEASE and gives the lease up; RENEG negotiates
anew. -/
def Obligations.LaneCommands : Prop :=
  ∀ (req : Req) (l : Fin 64) (z : Fin 16) (s : State),
    let base := s.f (HL_NOZ_NBASE l)
    let n := s.f (HL_NOZ_COUNT l)
    let apart := base / 32768 = l / 8 ∧ (base + n - 1) / 32768 = l / 8 ∧ ∀ m < 64, m ≠ l.val → s.b (HL_CTRL_ENABLE m) = true →
      base + n ≤ s.f (HL_NOZ_NBASE m) ∨ s.f (HL_NOZ_NBASE m) + s.f (HL_NOZ_COUNT m) ≤ base
    let negotiating (t : State) : Prop := t.b (VFY_LANE_THR_VALID l) = false ∧ if s.b SYS_PWR_CTRL_PARKED = true then
        t.f (HL_LINK_STATE l) = s.f (HL_LINK_STATE l) ∧ (t.lane l).phase = (s.lane l).phase
      else t.f (HL_LINK_STATE l) = 1 ∧ (t.lane l).phase = .caps ∧ (t.lane l).startedAt = s.tb
    let raised (t : State) (src : Nat) : Prop := t.b (FLT_SRC_LATCHED src) = true ∧ t.rn (FLT_INFO src) = l
    let small := n ≠ 0 ∧ n ≤ if s.b (HL_CFG_FIRE_RATE l) = true then 8192 else 4096
    let rest := s.f (DCD_CTRL_STATE (s.f (HL_CFG_DCD l))) = 0
    s.granted req (HL_CTRL l) → s.rd (HL_CTRL l) &&& 0xC#32 = 0 → s.firmware = true →
    (s.b (HL_CTRL_ENABLE l) = false →
      (apart → small → rest → ∃ t, exec (.laneEnable req l) s = .next t ∧ t.b (HL_CTRL_ENABLE l) = true ∧ negotiating t ∧ t.rd (FH_RISEZ l z) = 0 ∧
        t.holdList (l / 8) = [] ∧ (t.head l).senseAt = none) ∧
      (¬ (apart ∧ small ∧ rest) → ∃ t, exec (.laneEnable req l) s = .next t ∧ t.mem = s.mem ∧ t.b (HL_CTRL_ENABLE l) = false ∧
        t.b (HL_STAT_CFG_ERROR l) = true ∧ (¬ apart → raised t 54) ∧ (¬ (small ∧ rest) → raised t 58))) ∧
    (s.b (HL_CTRL_ENABLE l) = true →
      (∃ t, exec (.laneDisable req l) s = .next t ∧ t.mem = s.mem ∧ t.b (HL_CTRL_ENABLE l) = false ∧ t.f (HL_LINK_STATE l) = 0 ∧
        t.f (HL_LEASE_STATE l) = 0 ∧ (t.lane l).phase = .off ∧ (t.lane l).slices = [] ∧ (t.lane l).leaseAt = none ∧
        t.out = if s.f (HL_LINK_STATE l) = 2 ∧ s.role ≠ 3 then .abort l 0x13 :: s.out else s.out) ∧
      (s.role = 0 → s.f (HL_LINK_STATE l) = 2 → s.f (HL_LEASE_STATE l) = 2 → ∃ t, exec (.release req l) s = .next t ∧ t.mem = s.mem ∧
        t.f (HL_LEASE_STATE l) = 3 ∧ (t.lane l).leaseAt = none ∧ (∀ c ∈ (t.lane l).slices, (c.blank = true ∨ c.replay = true) ∧ c.leased = false ∧
            c.framed = 0) ∧
        t.out = .frame l 3 ([3, BitVec.ofNat 8 s.twinId, 0, 0] ++ leBytes 4 (s.rn (HL_EPOCH l))) :: .abort l 0x13 :: s.out) ∧
      (∃ t, exec (.reneg req l) s = .next t ∧ t.mem = s.mem ∧ negotiating t ∧ t.b (HL_CTRL_ENABLE l) = true)) ∧
    (∃ t, exec (.acquire req l) s = .next t ∧ s.regsBut t [HL_CTRL l] ∧ t.b (HL_CTRL_ENABLE l) = s.b (HL_CTRL_ENABLE l) ∧
      t.b (HL_CTRL_ACQUIRE l) = (s.b (HL_CTRL_ACQUIRE l) || (s.role ≠ 3 && s.role ≠ 5)))

/-- R425, R426, R428, R430, R458: the way of a negotiation: CAP frames with the lane's own masks; after three equal CAPs the mode that R426 selects,
or failure with source 49; the switch after 10 us of idle, and the next lower rate where no echo comes within 1 ms; failure 20 ms after the start.
R694: a Basalt lane likewise, with the rates both twins offer, CRC-32C and no CFLAGS: a selection sent and echoed is the switch.
R419, R421, R439, R456, R695: a lane that was UP and loses its lock, or hears nothing, is negotiated anew outside PARKED, without a lease, source 48
LIVE; another lane stays as it is; a Basalt lane likewise with source 112; a bad frame is counted with source 50; a lane that is off or has failed
hears no bits. -/
def Obligations.LaneNegotiationAndLoss : Prop :=
  (∀ (l : Fin 64) (i : Fin 2) (p : List Byte) (r : Nat) (ms : List Nat) (s : State),
    let x := s.lane l
    let y := s.basaltLane i
    let hl : Fin 66 := l.castLE (by decide)
    let bl : Fin 66 := Fin.natAdd 64 i
    let mine : Nat := if s.f TWIN_CFG_RATE_MAX = 1 then 2 else 6
    let basalt (ms : List Byte) : Out := .basalt i 2 ([1] ++ ms ++ [BitVec.ofNat 8 (s.f SYS_BOOT_STAT_TWIN_SEL)])
    let lower (q : Nat) : Prop := q < y.rate ∧ bitAt y.offered q = true ∧ bitAt mine q = true
    let still (c : Instr) : Prop := ∃ t, exec c s = .next t ∧ t.mem = s.mem ∧ t.regs = s.regs ∧ t.lanes = s.lanes ∧ t.twin = s.twin ∧ t.out = s.out
    let failed (t : State) : Prop := t.mem = s.mem ∧ (t.lane l).phase = .failed ∧ t.f (HL_LINK_STATE l) = 3 ∧ t.b (HL_STAT_NEG_FAIL l) = true ∧
      t.b (FLT_SRC_LATCHED 49) = true
    let selected (t : State) : Prop := t.mem = s.mem ∧ (t.lane l).phase = .selecting ∧ (t.lane l).rate = r ∧
      (t.lane l).sel = ms.map (BitVec.ofNat 8)
    s.asleep = false → s.firmware = true →
    (x.phase = .caps → ∃ t, exec (.capTx hl) s = .next t ∧ t.mem = s.mem ∧ t.regs = s.regs ∧ t.lanes = s.lanes ∧
      t.out = .frame l 2 (s.capBytes l (s.ownMasks l) 0) :: s.out) ∧
    (x.phase = .selecting → ∃ t, exec (.capTx hl) s = .next t ∧ t.mem = s.mem ∧ t.regs = s.regs ∧
      t.out = .frame l 2 (s.capBytes l (x.sel.map (·.toNat)) 1) :: s.out) ∧
    (capOk p = true → bitAt (leAt p 7 1) 2 = false → x.phase = .caps → x.lastCap = p → 2 ≤ x.capSame →
      (s.pickMode l 3 p = some (r, ms) → ∃ t, exec (.capRx l p) s = .next t ∧ selected t ∧ t.regBytes (HL_PCAP l 0) 16 = p) ∧
      (s.pickMode l 3 p = none → ∃ t, exec (.capRx l p) s = .next t ∧ failed t)) ∧
    (capOk p = true → bitAt (leAt p 7 1) 2 = false → x.phase = .selecting → (p.drop 1).take 5 = x.sel → bitAt (leAt p 7 1) 1 = true →
      ∃ t, exec (.capRx l p) s = .next t ∧ (t.lane l).phase = .switching ∧ (t.lane l).switchAt = s.tb) ∧
    (capOk p = false → ∃ t, exec (.capRx l p) s = .next t ∧ (t.lane l).phase = x.phase ∧
      t.f (HL_ERRCNT_FRAME_BAD l) = min (s.f (HL_ERRCNT_FRAME_BAD l) + 1) 65535) ∧
    (x.phase = .switching → x.switchAt + 8000 ≤ s.tb → ∃ t, exec (.rateSwitch hl) s = .next t ∧ t.mem = s.mem ∧ t.regs = s.regs ∧
        (t.lane l).phase = .echoing ∧
      (t.lane l).switchAt = s.tb ∧ t.out = .frame l 1 [] :: s.out) ∧
    (x.phase ≠ .switching ∨ s.tb < x.switchAt + 8000 → still (.rateSwitch hl)) ∧
    (x.phase = .echoing → x.switchAt + 800000 ≤ s.tb → s.pickMode l x.rate x.peerCap = some (r, ms) →
      ∃ t, exec (.negFallback hl) s = .next t ∧ selected t) ∧
    (x.phase = .echoing → x.switchAt + 800000 ≤ s.tb → s.pickMode l x.rate x.peerCap = none →
      ∃ t, exec (.negFallback hl) s = .next t ∧ failed t) ∧
    (x.phase = .echoing → s.tb < x.switchAt + 800000 → still (.negFallback hl)) ∧
    (y.phase = .caps → ∃ t, exec (.capTx bl) s = .next t ∧ t.regs = s.regs ∧ t.twin = s.twin ∧ t.out = basalt [BitVec.ofNat 8 mine, 3] :: s.out) ∧
    (y.phase = .selecting → ∃ t, exec (.capTx bl) s = .next t ∧ t.regs = s.regs ∧ t.out = basalt y.sel :: s.out ∧
      t.basaltLane i = if y.capSame ||| 1 = 3 then { y with capSame := 3, phase := .switching, switchAt := s.tb }
        else { y with capSame := y.capSame ||| 1 }) ∧
    (y.phase = .off ∨ y.phase = .switching ∨ y.phase = .up ∨ y.phase = .failed → still (.capTx bl)) ∧
    (y.phase = .switching → y.switchAt + 8000 ≤ s.tb → ∃ t, exec (.rateSwitch bl) s = .next t ∧ t.regs = s.regs ∧
      t.basaltLane i = { y with phase := .echoing, capSame := 0, switchAt := s.tb } ∧ t.out = .basalt i 1 [] :: s.out) ∧
    (y.phase ≠ .switching ∨ s.tb < y.switchAt + 8000 → still (.rateSwitch bl)) ∧
    (y.phase = .echoing → y.switchAt + 800000 ≤ s.tb → lower r → (∀ q, r < q → q < 3 → ¬ lower q) → r < 3 →
      ∃ t, exec (.negFallback bl) s = .next t ∧ t.regs = s.regs ∧ t.out = s.out ∧
        t.basaltLane i = { y with phase := .selecting, rate := r, sel := [BitVec.ofNat 8 (2 ^ r), 2], capSame := 0 }) ∧
    (y.phase = .echoing → y.switchAt + 800000 ≤ s.tb → (∀ q < 3, ¬ lower q) → ∃ t, exec (.negFallback bl) s = .next t ∧ t.mem = s.mem ∧
      (t.basaltLane i).phase = .failed ∧ t.b (FLT_SRC_LATCHED 116) = true) ∧
    (y.phase ≠ .echoing ∨ s.tb < y.switchAt + 800000 → still (.negFallback bl)) ∧
    (x.phase.busy = true → x.startedAt + 16000000 ≤ s.tb → ∃ t, exec (.negTimeout (l.castLE (by decide))) s = .next t ∧ failed t) ∧
    (x.phase.busy = false ∨ s.tb < x.startedAt + 16000000 → still (.negTimeout (l.castLE (by decide)))) ∧
    (y.phase.busy = true → y.startedAt + 16000000 ≤ s.tb → ∃ t, exec (.negTimeout (Fin.natAdd 64 i)) s = .next t ∧
      (t.basaltLane i).phase = .failed ∧ t.b (FLT_SRC_LATCHED 116) = true)) ∧
  (∀ (l : Fin 64) (i : Fin 2) (s : State),
    let lost (c : Instr) : Prop := ∃ t, exec c s = .next t ∧ t.f (HL_LINK_STATE l) = 1 ∧ (t.lane l).phase = .caps ∧ (t.lane l).lost = true ∧
      (t.lane l).startedAt = s.tb ∧ t.f (HL_LEASE_STATE l) = 0 ∧ t.b (HL_STAT_LINK_DOWN l) = true ∧ t.b (FLT_SRC_LATCHED 48) = true ∧
      t.b (FLT_SRC_LIVE 48) = true
    let still (c : Instr) : Prop := ∃ t, exec c s = .next t ∧ t.mem = s.mem ∧ t.regs = s.regs ∧ t.lanes = s.lanes ∧ t.twin = s.twin
    s.asleep = false → s.b SYS_PWR_CTRL_PARKED = false →
    ((s.lane l).phase = .up → lost (.linkLockLoss (l.castLE (by decide))) ∧ lost (.upstreamSilence l)) ∧
    ((s.lane l).phase ≠ .up → still (.linkLockLoss (l.castLE (by decide))) ∧ still (.upstreamSilence l)) ∧
    ((s.basaltLane i).phase = .up → ∃ t, exec (.linkLockLoss (Fin.natAdd 64 i)) s = .next t ∧ (t.basaltLane i).phase = .caps ∧
      (t.basaltLane i).startedAt = s.tb ∧ bitAt (t.f TWIN_STATE_LANES_UP) i = false ∧ t.b (FLT_SRC_LIVE 112) = true) ∧
    ((s.basaltLane i).phase ≠ .up → still (.linkLockLoss (Fin.natAdd 64 i))) ∧
    ((s.lane l).phase = .off ∨ (s.lane l).phase = .failed → ∀ bits, still (.badFrameRx l (some bits))) ∧
    (∃ t, exec (.badFrameRx l none) s = .next t ∧ t.mem = s.mem ∧ t.f (HL_ERRCNT_FRAME_BAD l) = min (s.f (HL_ERRCNT_FRAME_BAD l) + 1) 65535 ∧
      t.b (FLT_SRC_LATCHED 50) = true ∧ t.rn (FLT_INFO 50) = l))

/-- R424, R431, R433, R442, Table 11.3: a lane that is UP and may fire sends the next FIRE frame of the slice handed over, 256 decisions from its
first, each in 14 bits; then a SYNC block for each phase slot reached, after the last of which the slice is gone; else IDLE. R417: a block goes out
behind the sync header of its kind, and descrambling the rest gives its bytes back. -/
def Obligations.LaneFrames : Prop :=
  (∀ (l : Fin 64) (i hold : Nat) (c : Slice) (post : List Slice) (s : State),
    let n := s.f (HL_NOZ_COUNT l)
    let first := 256 * c.framed
    let epoch := s.rn (HL_EPOCH l)
    let p := s.firePayload l c first
    s.asleep = false → s.firmware = true → s.f (HL_LINK_STATE l) = 2 →
    (∃ t, exec (.idleTx l) s = .next t ∧ t.mem = s.mem ∧ t.regs = s.regs ∧ t.lanes = s.lanes ∧ t.out = .frame l 1 [] :: s.out) ∧
    (s.mayFire l = false → (∃ t, exec (.fireTx l hold) s = .next t ∧ t.regs = s.regs ∧ t.lanes = s.lanes ∧ t.out = s.out) ∧
      (∃ t, exec (.syncTx l) s = .next t ∧ t.regs = s.regs ∧ t.lanes = s.lanes ∧ t.out = s.out)) ∧
    (s.mayFire l = true → (s.lane l).slices = c :: post → (∀ x ∈ post, x.period ≠ c.period) →
      (c.handed = true → c.leased = true → c.replay = false → c.framesDone = false → c.period < 0x100000000 → first < n →
        (∀ d ∈ c.decisions, d < 16384) → i < 256 → first + i < n → i < c.decisions.length - first →
        ∃ t, exec (.fireTx l hold) s = .next t ∧ t.mem = s.mem ∧ t.regs = s.regs ∧ (hold = 0 → (t.tx l).rest = []) ∧
            t.out = .frame l 0x10 p :: s.out ∧
          leAt p 0 4 = c.period ∧ leAt p 4 4 = epoch ∧ leAt p 8 2 = first ∧ p.length = 16 + 56 * ((min 256 (n - first) + 31) / 32) ∧
          bits (ofLe (slice p (16 + 56 * (i / 32)) 56)) (14 * (i % 32) + 13) (14 * (i % 32)) = c.decisions.getD (first + i) 0 ∧
          (t.lane l).slices = { c with framed := c.framed + 1, framesDone := decide (n ≤ first + 256) } :: post) ∧
      (c.framesDone = true → s.reached (s.f (HL_CFG_DCD l)) c.period (s.slotStart l c.syncs) = true →
        (c.syncs = 0 → (s.vlane l).gap.any (·.testFrom = c.period) = false) →
        ∃ t, exec (.syncTx l) s = .next t ∧ t.mem = s.mem ∧ t.regs = s.regs ∧ t.out = .sync l (c.period % 65536) c.syncs (epoch % 65536) :: s.out ∧
          (t.lane l).slices = if c.syncs + 1 = s.nph l then post else { c with syncs := c.syncs + 1 } :: post))) ∧
  (∀ (st : BitVec 58) (b : Block), b.bytes.length = 8 →
    let w := b.word st
    let r := descramble 64 st.toNat (w.1.toNat / 4)
    w.1.toNat % 4 = (if b.control = true then 1 else 2) ∧ leBytes 8 r.1 = b.bytes ∧ BitVec.ofNat 58 r.2 = w.2)

/-- R448 to R451, R458: the lease of a lane: asked for every 100 us while ACQUIRE stands and none is held, renewed every 500 us while it is held,
counted from the ask that is answered, lost
with ACQUIRE 1.8 ms after it or on the bridge's word. Roles that take part in a twin are in TwinEvents. -/
def Obligations.LaneLeases : Prop :=
  ∀ (l : Fin 64) (epoch : Word) (holder : Bool) (who : BitVec 8) (remain : BitVec 16) (u : Nat) (s : State),
    let x := s.lane l
    let held := s.f (HL_LEASE_STATE l) = 2
    let frame (op : Byte) (w : Word) : Out := .frame l 3 ([op, BitVec.ofNat 8 s.twinId, 0, 0] ++ leBytes 4 w.toNat)
    let still (c : Instr) : Prop := ∃ t, exec c s = .next t ∧ s.regsBut t [] ∧ t.lanes = s.lanes ∧ t.out = s.out
    let lost (t : State) : Prop := t.f (HL_LEASE_STATE l) = 0 ∧ t.b (HL_CTRL_ACQUIRE l) = false ∧ t.b (HL_STAT_LEASE_LOST l) = true ∧
      t.b (FLT_SRC_LATCHED 52) = true ∧ (t.lane l).leaseAt = none ∧ ∀ c ∈ (t.lane l).slices, (c.blank = true ∨ c.replay = true) ∧ c.framed = 0
    s.asleep = false → s.firmware = true → s.role = 0 →
    (s.f (HL_LINK_STATE l) = 2 →
      (¬ held → s.b (HL_CTRL_ACQUIRE l) = true → (∀ at_, x.requestAt = some at_ → at_ + 80000 ≤ s.tb) → ∃ t, exec (.leaseRequestTx l) s = .next t ∧
          s.regsBut t [HL_LEASE l] ∧ t.f (HL_LEASE_STATE l) = 1 ∧
        (t.lane l).lastAsk = some s.tb ∧ t.out = frame 1 0 :: s.out) ∧
      (held ∨ s.b (HL_CTRL_ACQUIRE l) = false ∨ (∃ at_, x.requestAt = some at_ ∧ s.tb < at_ + 80000) → still (.leaseRequestTx l)) ∧
      (held → (∀ at_, x.renewAt = some at_ → at_ + 400000 ≤ s.tb) → ∃ t, exec (.leaseRenewTx l) s = .next t ∧ s.regsBut t [] ∧
          (t.lane l).lastAsk = some s.tb ∧ t.out = frame 2 (s.rd (HL_EPOCH l)) :: s.out) ∧
      (¬ held ∨ (∃ at_, x.renewAt = some at_ ∧ s.tb < at_ + 400000) → still (.leaseRenewTx l)) ∧
      (x.lastAsk = some u → s.b (HL_CTRL_ACQUIRE l) = true → ∃ t, exec (.leaseGrantRx l epoch) s = .next t ∧
        s.regsBut t [HL_LEASE l, HL_EPOCH l, HL_STAT l] ∧ t.f (HL_LEASE_STATE l) = 2 ∧ t.rd (HL_EPOCH l) = epoch ∧ t.b (HL_STAT_GRANTED l) = true ∧
        (t.lane l).leaseAt = some u ∧ (t.lane l).lastAsk = none) ∧
      (x.lastAsk = none → still (.leaseGrantRx l epoch))) ∧
    (held → x.lastAsk = some u → s.rd (HL_EPOCH l) = epoch → ∃ t, exec (.leaseRenewedRx l epoch) s = .next t ∧ s.regsBut t [] ∧
      (t.lane l).leaseAt = some u ∧ (t.lane l).lastAsk = none) ∧
    (s.rd (HL_EPOCH l) ≠ epoch → still (.leaseRenewedRx l epoch)) ∧
    (held → ∃ t, exec (.leaseNoLeaseRx l who) s = .next t ∧ lost t ∧ t.b (HL_STAT_BRIDGE_RESET l) = true ∧ t.b (VFY_LANE_THR_VALID l) = false) ∧
    (¬ held → still (.leaseNoLeaseRx l who)) ∧
    (∃ t, exec (.leaseDenyRx l holder remain) s = .next t ∧ t.mem = s.mem ∧ t.b (HL_LEASE_HOLDER_ID l) = holder ∧
      t.f (HL_LEASE_REMAIN l) = remain.toNat ∧ t.b (HL_STAT_DENIED l) = true ∧ t.b (FLT_SRC_LATCHED 53) = true ∧
      t.f (HL_LEASE_STATE l) = s.f (HL_LEASE_STATE l) ∧ (t.lane l).leaseAt = x.leaseAt ∧ (¬ held → (t.lane l).lastAsk = none)) ∧
    (s.f (HL_LEASE_STATE l) = 3 → ∃ t, exec (.leaseReleasedRx l) s = .next t ∧ s.regsBut t [HL_LEASE l] ∧ t.f (HL_LEASE_STATE l) = 0) ∧
    (s.f (HL_LEASE_STATE l) ≠ 3 → still (.leaseReleasedRx l)) ∧
    (held → x.leaseAt = some u → u + 1440000 ≤ s.tb → ∃ t, exec (.leaseExpire l) s = .next t ∧ lost t) ∧
    (x.leaseAt = some u → s.tb < u + 1440000 → still (.leaseExpire l))

/-- R459: a bridge access: GO sends a CTRL frame with the next tag, but in STANDBY none (Table 19.4), and sets BUSY, and is ignored while BUSY; its
reply ends it with STATUS and the data read; no reply within 100 us ends it with STATUS 4 and source 56; a reply with another tag is none. -/
def Obligations.BridgeAccess : Prop :=
  ∀ (req : Req) (l : Fin 64) (tag status : BitVec 8) (data : Word) (c : Ctrl) (s : State),
    let x := s.lane l
    let addr := leBytes 4 (s.rn (HL_CX_ADDR l) / 4 * 4)
    let sent (t : State) (write : Bool) (words : List Byte) : Prop := s.regsBut t [HL_CX_CMD l] ∧ t.b (HL_CX_CMD_BUSY l) = true ∧
      t.f (HL_CX_CMD_OP l) = (if write = true then 2 else 1) ∧
      (t.lane l).ctrl = x.ctrl ++ [⟨x.ctrlTag, s.tb, if write = true then .cxWrite else .cxRead⟩] ∧
      t.out = if s.role = 3 then s.out else
        .frame l 4 ([if write = true then 2 else 1, BitVec.ofNat 8 x.ctrlTag, 1, 0] ++ addr ++ words) :: s.out
    (s.reaches req (HL_CX_CMD l) → s.b (HL_CX_CMD_BUSY l) = false → s.f (HL_LINK_STATE l) = 2 → s.firmware = true →
      (∃ t, exec (.cxRead req l) s = .next t ∧ sent t false []) ∧
      (∃ t, exec (.cxWrite req l) s = .next t ∧ sent t true (leBytes 4 (s.rn (HL_CX_WDATA l)) ++ zeros 4))) ∧
    (s.reaches req (HL_CX_CMD l) → s.b (HL_CX_CMD_BUSY l) = true → ∃ t, exec (.cxRead req l) s = .next t ∧
      s.regsBut t [HL_CX_CMD l] ∧ t.b (HL_CX_CMD_BUSY l) = true ∧ t.f (HL_CX_CMD_OP l) = 1 ∧ t.lanes = s.lanes ∧ t.out = s.out) ∧
    (s.asleep = false → x.ctrl = [c] →
      (c.tag = tag.toNat → c.use = .cxRead → ∃ t, exec (.ctrlReplyRx l tag status data) s = .next t ∧ s.regsBut t [HL_CX_CMD l, HL_CX_RDATA l] ∧
        t.b (HL_CX_CMD_BUSY l) = false ∧ t.f (HL_CX_CMD_STATUS l) = min 3 status.toNat ∧
        t.rd (HL_CX_RDATA l) = (if status = 0 then data else s.rd (HL_CX_RDATA l)) ∧ (t.lane l).ctrl = []) ∧
      (c.tag = tag.toNat → c.use = .cxWrite → ∃ t, exec (.ctrlReplyRx l tag status data) s = .next t ∧ s.regsBut t [HL_CX_CMD l] ∧
        t.b (HL_CX_CMD_BUSY l) = false ∧ t.f (HL_CX_CMD_STATUS l) = min 3 status.toNat) ∧
      (c.tag ≠ tag.toNat → ∃ t, exec (.ctrlReplyRx l tag status data) s = .next t ∧ s.regsBut t [] ∧ t.lanes = s.lanes) ∧
      (c.sentAt + 80000 ≤ s.tb → c.use = .cxRead ∨ c.use = .cxWrite → ∃ t, exec (.ctrlTimeout l) s = .next t ∧ t.mem = s.mem ∧
        t.b (HL_CX_CMD_BUSY l) = false ∧ t.f (HL_CX_CMD_STATUS l) = 4 ∧ t.b (HL_STAT_CTRL_TIMEOUT l) = true ∧ t.b (FLT_SRC_LATCHED 56) = true ∧
        (t.lane l).ctrl = []) ∧
      (s.tb < c.sentAt + 80000 → ∃ t, exec (.ctrlTimeout l) s = .next t ∧ s.regsBut t [] ∧ t.lanes = s.lanes))

/-! Drop verification -/

/-- R466, R469, R475, R476, R479 to R486, R494: a hold is released; a VERIFY EVENTS frame of an UP lane gives a test line its class and result record:
a report in depth and velocity is class 0, one too shallow class 1, none class 2 with MISS, source 64 and a hold; one of no test line sets NO_REPORT;
a RAW frame is kept for the dark phase, whose last one may abort it; a local gate's windows do the same. A STANDBY and a lane that is not UP take no
frame. -/
def Obligations.VerificationCommands : Prop :=
  ∀ (req : Req) (l : Fin 64) (g : Fin 4) (v : Word) (p : List Byte) (w : List (BitVec 12)) (q : TestLine) (gp : Gap) (m sec : Nat) (s : State),
    let n := v.toNat % 262144
    let x := s.vlane l
    let wr := s.f (VFY_RESQ_WR l)
    let cls := s.rn (VFY_CLS (s.f (HL_CFG_DCD l)))
    let quiet (c : Instr) : Prop := ∃ t, exec c s = .next t ∧ s.regsBut t [] ∧ t.vlanes = s.vlanes ∧ t.holds = s.holds
    let recorded (t : State) (c : Nat) : Prop := t.mem = s.mem ∧ (t.vlane l).tests = [] ∧ t.f (VFY_RESQ_WR l) = (wr + 1) % 64 ∧
      t.rn (VFY_RING l (wr % 32 * 4)) = q.period % 0x100000000 ∧ t.rn (VFY_RING l (wr % 32 * 4 + 1)) = m + 0x40000 * sec + 0x400000 * c
    let missed (t : State) : Prop := recorded t 2 ∧ t.b (VFY_LSTAT_MISS l) = true ∧ t.b (FLT_SRC_LATCHED 64) = true ∧
      ((s.holdList (m / 32768)).length < 256 → m ∈ t.holdList (m / 32768))
    let one : Prop := x.tests = [q] ∧ x.gap = none ∧ q.inhibited = false ∧ q.noThr = false ∧ q.fired = [(m, sec)] ∧ m < 262144 ∧ sec < 16 ∧
      s.item? q.item = none ∧ (wr + 64 - s.f (VFY_RESQ_RD l)) % 64 < 32
    (s.reaches req VFY_HOLD_REL →
      (n ∈ s.holdList (n / 32768) → ∃ t, exec (.holdRelease req v) s = .next t ∧ s.regsBut t [] ∧
        ∀ k, t.holdList k = (s.holdList k).filter (· ≠ n)) ∧
      (n ∉ s.holdList (n / 32768) → quiet (.holdRelease req v))) ∧
    (s.asleep = false →
      (verifyFrameOk p = false → ∃ t, exec (.verifyRx l p) s = .next t ∧ t.mem = s.mem ∧
        t.f (HL_ERRCNT_FRAME_BAD l) = min (s.f (HL_ERRCNT_FRAME_BAD l) + 1) 65535 ∧ t.b (FLT_SRC_LATCHED 50) = true) ∧
      (verifyFrameOk p = true → s.f (HL_LINK_STATE l) ≠ 2 ∨ s.role = 3 → quiet (.verifyRx l p)) ∧
      (s.f (HL_LINK_STATE l) = 2 → verifyFrameOk p = true → s.role ≠ 3 →
        (leAt p 4 1 = 0 → (∀ y ∈ x.tests, y.period ≠ leAt p 0 4) → ∃ t, exec (.verifyRx l p) s = .next t ∧ s.regsBut t [VFY_LSTAT l] ∧
          t.b (VFY_LSTAT_NO_REPORT l) = true ∧ t.vlanes = s.vlanes) ∧
        (leAt p 4 1 = 0 → leAt p 5 1 = 1 → one → leAt p 0 4 = q.period → s.f (HL_NOZ_NBASE l) + leAt p 8 2 = m → leAt p 10 1 % 16 = sec →
          bitAt (leAt p 11 1) 1 = false →
          (bitAt (leAt p 11 1) 0 = false → ∃ t, exec (.verifyRx l p) s = .next t ∧ missed t) ∧
          (bitAt (leAt p 11 1) 0 = true → leAt p 12 2 < bits cls 11 0 → ∃ t, exec (.verifyRx l p) s = .next t ∧ recorded t 1 ∧
            t.holds = s.holds ∧ t.f (VFY_LCNT_WEAKS l) = min (s.f (VFY_LCNT_WEAKS l) + 1) 65535) ∧
          (bitAt (leAt p 11 1) 0 = true → bits cls 11 0 ≤ leAt p 12 2 → leAt p 14 2 = s.f (VFY_VEL_T_REF l) + s.f (VFY_VEL_OFS l) →
            ∃ t, exec (.verifyRx l p) s = .next t ∧ recorded t 0 ∧ t.holds = s.holds)) ∧
        (leAt p 4 1 = 1 → x.gap = some gp → gp.replay = false → gp.m ≠ 0 → gp.judged = false → leAt p 8 1 < s.sections l →
            0 ≤ lineDiff (leAt p 0 4) gp.darkFrom →
          lineDiff (leAt p 0 4) gp.darkFrom < gp.dark →
          let r : Nat × Nat × List Nat := (leAt p 0 4, leAt p 8 1, (List.range 64).map fun i => leAt p (16 + 2 * i) 2 % 4096)
          let gp' := { gp with raws := gp.raws.filter (fun y => !(y.1 = r.1 && y.2.1 = r.2.1)) ++ [r] }
          (gp'.complete (s.sections l) = false → ∃ t, exec (.verifyRx l p) s = .next t ∧ s.regsBut t [] ∧
            t.vlane l = { x with gap := some gp' }) ∧
          (gp'.complete (s.sections l) = true → gp'.abortReason (s.sections l) ≠ 0 → ∃ t, exec (.verifyRx l p) s = .next t ∧ t.mem = s.mem ∧
            t.b (VFY_LSTAT_CAL_ABORT l) = true ∧ t.f (VFY_LSTAT_ABORT_REASON l) = gp'.abortReason (s.sections l) ∧
            t.b (FLT_SRC_LATCHED 68) = true))) ∧
      (s.b (VFY_LGATE_EN g) = false → quiet (.localGateWindow g true [w]) ∧ quiet (.localGateWindow g false [w])) ∧
      (s.b (VFY_LGATE_EN g) = true → s.cal.armed = [] → s.b (VFY_LGATE_INVERT g) = false → s.f (CAL_ADCOFS_OFS_A g) = 0 → s.anchorGain g = 0x4000 →
        s.f (VFY_LGATE_LANE g) = l → s.b (VFY_LANE_LOCAL l) = true → s.f (VFY_LANE_LGATE l) = g → s.role ≠ 3 →
        (x.gap = some gp → gp.replay = false → gp.raws = [] → gp.m ≠ 0 → gp.judged = false → 2 ≤ gp.dark → gp.darkFrom < 0x100000000 →
          ∃ t, exec (.localGateWindow g false [w]) s = .next t ∧ s.regsBut t [] ∧
            t.vlane l = { x with gap := some { gp with raws := [(gp.darkFrom, 0, w.map (·.toNat))] } }) ∧
        (one → sec = 0 → s.f (HL_NOZ_NBASE l) ≤ m → (∀ y ∈ w.drop 1, y.toNat < bits (s.rn (VFY_LEVELS l 0)) 27 16) →
          ∃ t, exec (.localGateWindow g true [w]) s = .next t ∧ missed t)))

/-! Motion -/

/-- R502, R508, R513 to R516, R520, R528, R529, R588: ENABLE loads the command position and makes an axis IDLE, or is refused with CFG_ERROR; set
while the ramp of an S4 stop still runs, it leaves that ramp and its state as they are (the model's choice, log 97); GO starts the motion of the
axis's mode, or is refused with source 85 under R516; STOP and QSTOP ramp a moving axis, or its whole group, down, a quick stop never softened, and
force the loops that drive it; HOME starts homing from IDLE; MOT_POS is written in IDLE alone. A GO or HOME of its own to an axis in a moving group is
ignored with CFG_ERROR of both. -/
def Obligations.AxisCommands : Prop :=
  ∀ (req : Req) (a : Fin 16) (v : DWord) (g : Nat) (s : State),
    let x := s.axis a
    let st := s.f (MOT_STATE_STATE a)
    let mode := s.f (MOT_CFG_MODE a)
    let fb := s.f (MOT_CFG_FB a)
    let master := s.f (MOT_GCFG_MASTER a)
    let may := s.f (MOT_CFG_KIND a) ≠ 0 ∧ s.latchedAtLeast 4 = false ∧ (fb < 12 → s.b (FB_LIVE_DETECTED fb) = true)
    let still (t : State) : Prop := ∀ b, t.axis b = s.axis b
    let refused (c : Instr) : Prop := ∃ t, exec c s = .next t ∧ s.regsBut t [MOT_STAT a] ∧ t.b (MOT_STAT_CFG_ERROR a) = true ∧ still t
    let ignored (c : Instr) : Prop := ∃ t, exec c s = .next t ∧ s.regsBut t [MOT_STAT a, GRP_STAT g] ∧ t.b (MOT_STAT_CFG_ERROR a) = true ∧
      t.b (GRP_STAT_CFG_ERROR g) = true ∧ still t
    let on := s.b (MOT_CTRL_ENABLE a)
    let faulted (c : Instr) : Prop := ∃ t, exec c s = .next t ∧ t.mem = s.mem ∧ t.b (MOT_STAT_CFG_ERROR a) = true ∧
      t.b (FLT_SRC_LATCHED 85) = true ∧ t.rn (FLT_INFO 85) = a
    let moves (c : Instr) (state : Nat) (y : Axis) : Prop := ∃ t, exec c s = .next t ∧ s.regsBut t [MOT_STATE a] ∧
      t.f (MOT_STATE_STATE a) = state ∧ t.axis a = y ∧ ∀ b, b ≠ a.val → t.axis b = s.axis b
    s.rd (MOT_CTRL a) &&& 0x1E#32 = 0 →
    (s.granted req (MOT_CTRL a) → s.b (MOT_CTRL_ENABLE a) = false →
      (may → x.moving = true → ∃ t, exec (.axisEnable req a) s = .next t ∧ s.regsBut t [MOT_CTRL a] ∧ t.b (MOT_CTRL_ENABLE a) = true ∧
        t.axis a = { x with frac := 0, move := (0, 0), x0 := s.rdS64 (MOT_POS_LO a), p0 := (s.axisFb a).getD 0, loaded := true, devTicks := 0
                            stalled := false }) ∧
      (may → x.moving = false → ∃ t, exec (.axisEnable req a) s = .next t ∧ s.regsBut t [MOT_CTRL a, MOT_STATE a] ∧
        t.b (MOT_CTRL_ENABLE a) = true ∧ t.f (MOT_STATE_STATE a) = 1 ∧ t.axis a =
          { x with frac := 0, move := (0, 0), x0 := s.rdS64 (MOT_POS_LO a), p0 := (s.axisFb a).getD 0, loaded := true, devTicks := 0
                   stalled := false, moving := false, seek := false, ramp := .none, homing := .none, geared := false, finishing := false,
                       holdD := none, deficit := 0, reached := none }) ∧
      (¬ may → refused (.axisEnable req a))) ∧
    (s.reaches req (MOT_CTRL a) →
      (s.groupOf a = none →
        (s.latchedAtLeast 3 = false → st ≠ 0 → st ≠ 4 → on = true → s.limited a (s.goDir a) = false →
          (mode < 2 → moves (.axisGo req a) 2
            { x with moving := true, seek := decide (mode = 0), ramp := .none, finishing := false, reached := none }) ∧
          (mode = 2 → master < 12 → s.b (FB_LIVE_DETECTED master) = true → 0 < x.gearDen → moves (.axisGo req a) 5
            { x with moving := true, seek := false, geared := true, ramp := .none, gearPrev := s.rdS64 (FB_POS_LO master), gearRem := 0
                     gearRemDen := 1, deficit := 0 })) ∧
        (s.latchedAtLeast 3 = true ∨ st = 0 ∨ st = 4 ∨ on = false ∨ mode = 3 ∨ s.limited a (s.goDir a) = true → faulted (.axisGo req a)) ∧
        (x.moving = true ∨ x.geared = true ∨ x.homing ≠ .none → (∀ l < 32, s.f (LP_CFG_DST_KIND l) ≠ 2 ∨ s.f (LP_CFG_DST_IDX l) ≠ a) →
          moves (.axisStop req a) 3 { x with moving := true, geared := false, homing := .none, ramp := if x.ramp = .quick then .quick else .stop } ∧
          moves (.axisQstop req a) 3 { x with moving := true, geared := false, homing := .none, ramp := .quick }) ∧
        (x.moving = true ∨ x.geared = true ∨ x.homing ≠ .none → ∀ l < 32, s.f (LP_CFG_DST_KIND l) = 2 → s.f (LP_CFG_DST_IDX l) = a →
          s.b (LP_CTRL_RUN l) = true → ∀ c ∈ [Instr.axisStop req a, .axisQstop req a], ∃ t, exec c s = .next t ∧ t.mem = s.mem ∧
            t.b (LP_CTRL_RUN l) = false ∧ t.b (LP_STAT_FORCED l) = true ∧ (∀ i < 3, t.rd (LP_XH l i) = s.rd (LP_XH l i)) ∧
            t.f (MOT_STATE_STATE a) = 3) ∧
        (x.moving = false → x.geared = false → x.homing = .none → ∀ c ∈ [Instr.axisStop req a, .axisQstop req a],
          ∃ t, exec c s = .next t ∧ s.regsBut t [] ∧ still t) ∧
        (s.latchedAtLeast 3 = false → st = 1 → on = true → moves (.axisHome req a) 4
          { x with moving := true, seek := false, homing := if s.b (MOT_STATE_HOME_IN a) = true then .backOff else .fast
                   homeNeg := s.b (MOT_HCFG_HDIR a)
                   homeTurned := false, backFrom := none, homeToggles := [] }) ∧
        (s.latchedAtLeast 3 = false → st ≠ 1 ∨ on = false → ∃ t, exec (.axisHome req a) s = .next t ∧ s.regsBut t [] ∧ still t)) ∧
      (s.latchedAtLeast 3 = true → faulted (.axisGo req a) ∧ faulted (.axisHome req a)) ∧
      (s.groupOf a = some g →
        (s.latchedAtLeast 3 = false → ignored (.axisGo req a) ∧ ignored (.axisHome req a)) ∧
        ((∀ l < 32, s.f (LP_CFG_DST_KIND l) ≠ 2 ∨ bitAt (s.f (GRP_CFG_MEMBERS g)) (s.f (LP_CFG_DST_IDX l)) = false) →
          (∃ t, exec (.axisStop req a) s = .next t ∧ s.regsBut t [] ∧ still t ∧
            t.group g = { s.group g with ramp := if (s.group g).ramp = .quick then .quick else .stop, restart := false }) ∧
          (∃ t, exec (.axisQstop req a) s = .next t ∧ s.regsBut t [] ∧ still t ∧
            t.group g = { s.group g with ramp := .quick, restart := false })) ∧
        (∀ l < 32, s.f (LP_CFG_DST_KIND l) = 2 → s.f (LP_CFG_DST_IDX l) < 16 →
          bitAt (s.f (GRP_CFG_MEMBERS g)) (s.f (LP_CFG_DST_IDX l)) = true → s.b (LP_CTRL_RUN l) = true →
          ∀ c ∈ [Instr.axisStop req a, .axisQstop req a], ∃ t, exec c s = .next t ∧ t.mem = s.mem ∧ still t ∧
            t.b (LP_CTRL_RUN l) = false ∧ t.b (LP_STAT_FORCED l) = true ∧ (∀ i < 3, t.rd (LP_XH l i) = s.rd (LP_XH l i)))) ∧
      (st = 1 → ∃ t, exec (.motPosWrite req a v) s = .next t ∧ s.regsBut t [MOT_POS_LO a, MOT_POS_HI a] ∧ t.rd64 (MOT_POS_LO a) = v.toNat ∧
        t.axis a = { x with frac := 0, move := (0, 0), x0 := v.toInt, p0 := (s.axisFb a).getD 0, loaded := true, devTicks := 0, stalled := false }) ∧
      (st ≠ 1 → v.toNat ≠ s.rd64 (MOT_POS_LO a) → refused (.motPosWrite req a v)))

/-- R503, R516 to R523, R525, R526, R528: an input acts once its ball has kept a new level for DEB. A limit that becomes active under LIM_INV toward
the motion quick-stops the axis with LIMIT and source 81, and turns homing in FAST once; an edge of HOME latches the position at the raw edge and
turns a homing axis, and one that does not last DEB does neither; a change of HOME past CHAT_MAX ends homing with cause 3; a group GO starts the path
of idle members, restarts a moving one or is refused with source 85; a group STOP ramps the path down. -/
def Obligations.AxisEventsAndGroups : Prop :=
  ∀ (req : Req) (a : Fin 16) (g : Fin 4) (neg high : Bool) (s : State),
    let x := s.axis a
    let lim := high != s.b (MOT_CFG_LIM_INV a)
    let on := high != s.b (MOT_CFG_HOME_INV a)
    let deb := 800 * s.f (MOT_HCFG_DEB a)
    let was := if neg = true then x.limN else x.limP
    let since := if neg = true then x.limNAt else x.limPAt
    let due := high ≠ was ∧ (if neg = true then x.limPAt else x.limNAt) = none ∧ x.homeAt = none ∧ since.getD s.tb + deb ≤ s.tb
    let balls : Axis := if neg = true then { x with limN := high, limNAt := none } else { x with limP := high, limPAt := none }
    let waits : Axis := if neg = true then { x with limNAt := some s.tb } else { x with limPAt := some s.tb }
    let calm := x.limPAt = none ∧ x.limNAt = none ∧ x.homeAt = none
    let y := s.group g
    let ms := s.members g
    let input := if neg = true then MOT_STATE_LIMN_IN a else MOT_STATE_LIMP_IN a
    let toggles := x.homeToggles.filter fun t => s.tb ≤ t + 8000 * s.f (MOT_HCHATWIN_WIN a)
    let path : List (Nat × Int × Int) := ms.map fun b => (b, s.axisX b, s.rdS64 (MOT_TARGET_LO b) * 0x100000000 - s.axisX b)
    let free (b : Nat) : Prop := s.limited b (sgn (s.rdS64 (MOT_TARGET_LO b) * 0x100000000 - s.axisX b)) = false
    let ready (b : Nat) : Prop := (y.active = true ∨ (s.f (MOT_STATE_STATE b) = 1 ∧ s.b (MOT_CTRL_ENABLE b) = true)) ∧ free b
    let only (t : State) (z : Axis) : Prop := t.axis a = z ∧ ∀ b, b ≠ a.val → t.axis b = s.axis b
    let latched (t : State) : Prop := t.mem = s.mem ∧ t.b (MOT_STATE_HOME_IN a) = on ∧
      t.rdS64 (MOT_HLATCH_LO a) = (BitVec.ofInt 64 (s.edgePos a)).toInt
    (s.asleep = false →
      (calm → high = was → ∃ t, exec (.limitTrip a neg high) s = .next t ∧ s.regsBut t [] ∧ only t x) ∧
      (calm → high ≠ was → 0 < deb → ∃ t, exec (.limitTrip a neg high) s = .next t ∧ s.regsBut t [] ∧ only t waits) ∧
      (due → lim = true → s.groupOf a = none → x.moving = true → x.homing = .none → s.b (MOT_CFG_LIM_EN a) = true →
        sgn x.v = (if neg = true then -1 else 1) →
        ∃ t, exec (.limitTrip a neg high) s = .next t ∧ t.mem = s.mem ∧ t.b input = true ∧ t.b (MOT_STAT_LIMIT a) = true ∧
          t.b (FLT_SRC_LATCHED 81) = true ∧ (t.axis a).ramp = .quick ∧ (t.axis a).moving = true ∧ (t.axis a).v = x.v ∧
          t.f (MOT_STATE_STATE a) = 3) ∧
      (due → lim = false ∨ (x.homing = .none ∧ (s.b (MOT_CFG_LIM_EN a) = false ∨ (s.groupOf a = none ∧ x.v = 0))) →
        ∃ t, exec (.limitTrip a neg high) s = .next t ∧ s.regsBut t [MOT_STATE a] ∧ t.b input = lim ∧ only t balls) ∧
      (due → lim = true → x.homing = .fast → x.homeNeg = neg →
        (x.homeTurned = false → ∃ t, exec (.limitTrip a neg high) s = .next t ∧ s.regsBut t [MOT_STATE a] ∧ t.b input = true ∧
          only t { balls with homing := .fastTurn }) ∧
        (x.homeTurned = true → ∃ t, exec (.limitTrip a neg high) s = .next t ∧ t.mem = s.mem ∧ t.b (MOT_STAT_HOME_FAULT a) = true ∧
          t.f (MOT_STAT_HFAULT_CAUSE a) = 1 ∧ t.b (FLT_SRC_LATCHED 82) = true ∧ (t.axis a).homing = .none ∧ (t.axis a).ramp = .quick)) ∧
      (calm → high = x.home → ∃ t, exec (.homeEdge a high true) s = .next t ∧ s.regsBut t [] ∧ only t x) ∧
      (calm → high ≠ x.home → x.homing = .none →
        (deb = 0 → ∃ t, exec (.homeEdge a high true) s = .next t ∧ latched t ∧
          s.regsBut t [MOT_STATE a, MOT_HLATCH_LO a, MOT_HLATCH_HI a] ∧ only t { x with home := high, homeRaw := s.edgePos a }) ∧
        (0 < deb →
          (∃ t, exec (.homeEdge a high true) s = .next t ∧ s.regsBut t [] ∧ only t { x with homeAt := some s.tb, homeRaw := s.edgePos a }) ∧
          ∃ t, exec (.homeEdge a high false) s = .next t ∧ s.regsBut t [] ∧ only t { x with homeRaw := s.edgePos a })) ∧
      (calm → high ≠ x.home → x.homing ≠ .none → max 1 (s.f (MOT_HCFG_CHAT_MAX a)) ≤ toggles.length →
          ∀ held, ∃ t, exec (.homeEdge a high held) s = .next t ∧
        t.mem = s.mem ∧ t.b (MOT_STAT_HOME_FAULT a) = true ∧ t.f (MOT_STAT_HFAULT_CAUSE a) = 3 ∧ t.b (FLT_SRC_LATCHED 82) = true ∧
            (t.axis a).homing = .none ∧
        (t.axis a).ramp = .quick ∧ t.f (MOT_STATE_STATE a) = 3) ∧
      (calm → high ≠ x.home → deb = 0 → toggles.length < max 1 (s.f (MOT_HCFG_CHAT_MAX a)) → on = true →
        ∀ p ∈ [(Homing.fast, Homing.backStop), (.slow, .slowRamp)], x.homing = p.1 → ∃ t, exec (.homeEdge a high true) s = .next t ∧ latched t ∧
          s.regsBut t [MOT_STATE a, MOT_HLATCH_LO a, MOT_HLATCH_HI a] ∧
            only t { x with home := high, homeRaw := s.edgePos a, homing := p.2, homeToggles := toggles ++ [s.tb] })) ∧
    (s.reaches req (GRP_CTRL g) → s.b (GRP_CTRL_STOP g) = false →
      (y.active = true →
        (s.latchedAtLeast 3 = false → ms ≠ [] → (∀ b ∈ ms, free b) → ∃ t, exec (.groupGo req g) s = .next t ∧ s.regsBut t [] ∧
          t.group g = { y with ramp := if y.ramp = .quick then .quick else .stop, restart := true }) ∧
        (∃ t, exec (.groupStop req g) s = .next t ∧ s.regsBut t [] ∧
          t.group g = { y with ramp := if y.ramp = .quick then .quick else .stop, restart := false })) ∧
      (y.active = false → ∃ t, exec (.groupStop req g) s = .next t ∧ s.regsBut t [] ∧ t.groups = s.groups) ∧
      (y.active = false → s.latchedAtLeast 3 = false → ms ≠ [] → (∀ b ∈ ms, ready b) → ∃ t, exec (.groupGo req g) s = .next t ∧
        s.regsBut t (GRP_STAT g :: ms.map MOT_STATE) ∧ (t.group g).active = true ∧ (t.group g).s = 0 ∧ (t.group g).v = 0 ∧
        (t.group g).parts = path ∧ t.f (GRP_STAT_LEAD g) = (t.group g).lead ∧
        (∃ p ∈ path, p.1 = (t.group g).lead ∧ p.2.2.natAbs = (t.group g).length) ∧ (∀ p ∈ path, p.2.2.natAbs ≤ (t.group g).length) ∧
        ∀ b ∈ ms, t.f (MOT_STATE_STATE b) = 2 ∧ (t.axis b).moving = true) ∧
      (s.latchedAtLeast 3 = true ∨ ms = [] ∨ (∃ b ∈ ms, ¬ ready b) → ∃ t, exec (.groupGo req g) s = .next t ∧
        t.mem = s.mem ∧ t.b (GRP_STAT_CFG_ERROR g) = true ∧ t.b (FLT_SRC_LATCHED 85) = true ∧ t.rn (FLT_INFO 85) = g))

/-! Position feedback -/

/-- R541, R542, R554 to R557, R571, R574: EN := 1 decides a channel by its MODE, or starts detection from position 0, or is refused with CFG_ERROR and
source 93; EN := 0 makes it undecided; REDETECT begins detection anew, from position 0, where MODE is automatic; a SIG_OK that returns to 1 may end
LIVE of source 90; FB_POS loads the integer part of the position, which stays 0 during detection, or is refused with CFG_ERROR, and an emulation
output that runs follows it; an emulation output starts from its source's position, or is refused with source 93. That REDETECT zeroes the position at
once and an FB_POS write in detection is lost is the model's reading of R101 (DEDUCED, log 63). -/
def Obligations.FeedbackCommands : Prop :=
  ∀ (req : Req) (c : Fin 12) (n : Fin 4) (v : DWord) (s : State),
    let x := s.chan c
    let mode := s.f (FB_CFG_MODE c)
    let ip := s.f (FB_CFG_IP_SH c)
    let allowed := modeAllowed c mode = true ∧ (mode = 3 ∨ mode = 4 → 2 ≤ ip ∧ ip ≤ 12)
    let src := s.f (EMU_CFG_SRC n)
    let source := s.rn (EMU_DEN n) ≠ 0 ∧ src < 12 ∧ s.b (FB_LIVE_DETECTED src) = true
    let detecting (t : State) : Prop := t.b (FB_CTRL_EN c) = true ∧ t.b (FB_LIVE_DETECTED c) = false ∧ t.f (FB_LIVE_DET_MODE c) = 0 ∧
      (t.chan c).detecting = true ∧ (t.chan c).attempts = 0 ∧ (t.chan c).detectAt = s.tb + 102400
    let unfollowed := ∀ k : Fin 4, s.b (EMU_CFG_EN k) = true → s.f (EMU_CFG_SRC k) ≠ c
    let sig : List Nat := if s.b (FB_LIVE_SIG_OK c) = true then [] else [FLT_SRC 90, FLT_LIVE_SUM 2]
    (s.granted req (FB_CTRL c) → s.rd (FB_CTRL c) &&& 2#32 = 0 →
      (s.b (FB_CTRL_EN c) = false →
        (allowed → mode ≠ 4 → ∃ t, exec (.fbEnable req c) s = .next t ∧ s.regsBut t [FB_CTRL c, FB_LIVE c] ∧ t.b (FB_CTRL_EN c) = true ∧
          t.b (FB_LIVE_LOW_SPEED c) = true ∧ t.b (FB_LIVE_DETECTED c) = true ∧ t.f (FB_LIVE_DET_MODE c) = (if mode = 3 then 2 else 1) ∧
          t.chan c = { x with stamp := s.tb, edges := 0, dx := 0, errs := [] }) ∧
        (allowed → mode = 4 → ∃ t, exec (.fbEnable req c) s = .next t ∧
          t.mem = s.mem ∧ detecting t ∧ t.rd64 (FB_POS_LO c) = 0 ∧
          (unfollowed → s.regsBut t ([FB_CTRL c, FB_LIVE c, FB_POS_LO c, FB_POS_HI c, FB_POS_FRAC c] ++ sig))) ∧
        (¬ allowed → ∃ t, exec (.fbEnable req c) s = .next t ∧ t.mem = s.mem ∧ t.b (FB_CTRL_EN c) = false ∧ t.b (FB_STAT_CFG_ERROR c) = true ∧
          t.b (FLT_SRC_LATCHED 93) = true ∧ t.rn (FLT_INFO 93) = c ∧ t.chan c = x) ∧
        (∃ t, exec (.fbDisable req c) s = .next t ∧ s.regsBut t [] ∧ t.channels = s.channels)) ∧
      (s.b (FB_CTRL_EN c) = true → s.sincosRun c = none → ∃ t, exec (.fbDisable req c) s = .next t ∧ s.regsBut t ([FB_CTRL c, FB_LIVE c] ++ sig) ∧
        t.b (FB_CTRL_EN c) = false ∧ t.b (FB_LIVE_DETECTED c) = false ∧ t.f (FB_LIVE_DET_MODE c) = 0 ∧
        t.chan c = { x with
          detecting := false, outRun := 0, inRun := 0, angle := none, corr := none
          cyc := if s.sincos c = true then x.cyc else 0
          off := if s.sincos c = true then x.off else s.rdS64 (FB_POS_LO c) * one })) ∧
    (s.reaches req (FB_CTRL c) →
      (s.b (FB_CTRL_EN c) = true → mode = 4 → ∃ t, exec (.redetect req c) s = .next t ∧
        t.mem = s.mem ∧ detecting t ∧ t.rd64 (FB_POS_LO c) = 0 ∧
        (unfollowed → s.regsBut t ([FB_LIVE c, FB_POS_LO c, FB_POS_HI c, FB_POS_FRAC c] ++ sig))) ∧
      (s.b (FB_CTRL_EN c) = false ∨ mode ≠ 4 → ∃ t, exec (.redetect req c) s = .next t ∧ s.regsBut t [] ∧ t.channels = s.channels) ∧
      (s.fbLoadable c = true → x.detecting = false → ∃ t, exec (.fbPosWrite req c v) s = .next t ∧
        t.mem = s.mem ∧ t.rd64 (FB_POS_LO c) = v.toNat ∧ t.b (FB_LIVE_POS_UNSURE c) = false ∧
        (unfollowed → s.regsBut t [FB_POS_LO c, FB_POS_HI c, FB_LIVE c])) ∧
      (s.fbLoadable c = true → x.detecting = true → ∃ t, exec (.fbPosWrite req c v) s = .next t ∧ s.regsBut t [FB_LIVE c] ∧
        t.b (FB_LIVE_POS_UNSURE c) = false) ∧
      (s.fbLoadable c = false → v.toNat ≠ s.rd64 (FB_POS_LO c) → ∃ t, exec (.fbPosWrite req c v) s = .next t ∧ s.regsBut t [FB_STAT c] ∧
        t.b (FB_STAT_CFG_ERROR c) = true)) ∧
    (s.granted req (EMU_CFG n) → s.b (EMU_CFG_EN n) = false →
      (source → ∃ t, exec (.emuEnable req n) s = .next t ∧ s.regsBut t [EMU_CFG n] ∧ t.b (EMU_CFG_EN n) = true ∧
        t.emu n = { x0 := s.pos64 src }) ∧
      (¬ source → ∃ t, exec (.emuEnable req n) s = .next t ∧ t.mem = s.mem ∧ t.b (EMU_CFG_EN n) = false ∧ t.b (FLT_SRC_LATCHED 93) = true))

/-- R543 to R560, R562 to R565, R572: an edge of a digital channel whose levels have surely stood for FILT + 1 samples counts one in its direction,
stamped (FILT + 3) x 10 ns after the raw edge, or is an error where both levels change; levels that have stood for FILT x 10 ns or less are not taken
(R740; between the two the phase of the samples decides, a free value: the model's reading, log 63); a sin/cos sample in the amplitude window is taken
at an angle within one unit of the exact one, stamped 1,600 ns late, one outside it may lose the signal; a detection attempt over 256 pairs decides
the channel, or fails after eight that are 1 ms apart; LOW_SPEED comes LSTMO after the last edge; an index event latches the position and checks it
against the reference, and leaves a correction for the end of the next sample (O2 says how it is made); an emulation output steps toward its source.
-/
def Obligations.FeedbackEvents : Prop :=
  ∀ (c : Fin 12) (n : Fin 4) (a b : Bool) (age : Nat) (sn cs : BitVec 16) (xs : List (BitVec 16 × BitVec 16)) (s : State),
    let x := s.chan c
    let accepted := 8 * s.f (FB_CFG_FILT c) + 16 ≤ age
    let rejected := age ≤ 8 * s.f (FB_CFG_FILT c)
    let edge := s.tb + 8 * (s.f (FB_CFG_FILT c) + 3) - age
    let moved := (quadIndex a b + 4 - quadIndex x.levA x.levB) % 4
    let counting := s.b (FB_CTRL_EN c) = true ∧ s.b (FB_LIVE_DETECTED c) = true
    let sincos := s.f (FB_LIVE_DET_MODE c) = 2
    let errs := (x.errs.filter fun t => s.tb ≤ t + s.f (FB_ERRCFG_ERR_WIN c) * 8000) ++ [s.tb]
    let counted (back : Bool) : Prop := ∃ t, exec (.encoderEdge c a b age) s = .next t ∧ t.mem = s.mem ∧
      t.rd64 (FB_POS_LO c) = (s.rd64 (FB_POS_LO c) + (if back = true then 0xFFFFFFFFFFFFFFFF else 1)) % 0x10000000000000000 ∧
      (t.chan c).levA = a ∧ (t.chan c).levB = b ∧ (t.chan c).stamp = edge ∧ (t.chan c).edges = x.edges + 1 ∧
      (t.chan c).tau = edge - x.stamp
    let erred (t : State) (es : List Nat) : Prop := t.mem = s.mem ∧ t.rd64 (FB_POS_LO c) = s.rd64 (FB_POS_LO c) ∧
      t.f (FB_ERRCNT_ILLEGAL c) = min (s.f (FB_ERRCNT_ILLEGAL c) + 1) 65535 ∧ (t.chan c).levA = a ∧ (t.chan c).levB = b ∧ (t.chan c).errs = es
    let lo := s.f (FB_AMPWIN_AMP_LO c)
    let hi := s.f (FB_AMPWIN_AMP_HI c)
    let r := sn.toInt * sn.toInt + cs.toInt * cs.toInt
    let outside := r < (lo * lo : Nat) ∨ (hi * hi : Nat) < r
    let digital (p : BitVec 16 × BitVec 16) : Prop := 16384 ≤ (s.pairFix c p).1.natAbs ∧ 16384 ≤ (s.pairFix c p).2.natAbs
    let small (p : BitVec 16 × BitVec 16) : Prop :=
      let q := s.pairFix c p
      q.1.natAbs < 16384 ∧ q.2.natAbs < 16384 ∧ lo * lo ≤ q.1.natAbs ^ 2 + q.2.natAbs ^ 2 ∧ q.1.natAbs ^ 2 + q.2.natAbs ^ 2 ≤ hi * hi
    let decided (t : State) (mode : Nat) : Prop := t.mem = s.mem ∧ t.b (FB_LIVE_DETECTED c) = true ∧ t.f (FB_LIVE_DET_MODE c) = mode ∧
      (t.chan c).detecting = false ∧ t.rd64 (FB_POS_LO c) = 0
    let lpr : Int := s.rn (FB_LPR c)
    let m := (s.rdS64 (FB_POS_LO c) - s.rn (FB_IDXREF c)) % lpr
    let diff := if lpr ≤ 2 * m then m - lpr else m
    let y := s.emuTarget n
    let e := s.emu n
    let due := e.lastStep + 8 * max 1 (s.f (EMU_CFG_MINGAP n)) ≤ s.tb
    s.asleep = false →
    (accepted → counting → ¬ sincos → s.f (FB_CFG_MODE c) = 0 →
      (moved = 1 → counted (s.b (FB_CFG_DIR_INV c))) ∧ (moved = 3 → counted (!s.b (FB_CFG_DIR_INV c))) ∧
      (moved = 0 → ∃ t, exec (.encoderEdge c a b age) s = .next t ∧ s.regsBut t [] ∧ t.chan c = { x with levA := a, levB := b }) ∧
      (moved = 2 → (s.f (FB_ERRCFG_ERR_MAX c) = 0 ∨ errs.length < min 16 (s.f (FB_ERRCFG_ERR_MAX c)) → ∃ t,
          exec (.encoderEdge c a b age) s = .next t ∧ erred t errs ∧ s.regsBut t [FB_ERRCNT c]) ∧
        (s.f (FB_ERRCFG_ERR_MAX c) ≠ 0 → min 16 (s.f (FB_ERRCFG_ERR_MAX c)) ≤ errs.length → ∃ t, exec (.encoderEdge c a b age) s = .next t ∧
          erred t [] ∧ t.b (FB_STAT_ILLEGAL_FAULT c) = true ∧ t.b (FLT_SRC_LATCHED 88) = true))) ∧
    (accepted → ¬ counting ∨ sincos → ∃ t, exec (.encoderEdge c a b age) s = .next t ∧ s.regsBut t [] ∧
      t.chan c = { x with levA := a, levB := b }) ∧
    (rejected → ∃ t, exec (.encoderEdge c a b age) s = .next t ∧ s.regsBut t [] ∧ t.chan c = x) ∧
    (¬ accepted → ¬ rejected → ∃ t, exec (.encoderEdge c a b age) s = .next t ∧ t.mem = s.mem ∧
      ((s.regsBut t [] ∧ t.chan c = x) ∨ ((t.chan c).levA = a ∧ (t.chan c).levB = b))) ∧
    (x.corr = none → s.cal.armed = [] → s.pairFix c (sn, cs) = (sn.toInt, cs.toInt) →
      (¬ counting ∨ ¬ sincos → ∃ t, exec (.sincosSample c sn cs) s = .next t ∧ s.regsBut t [FB_SCRAW c] ∧
        t.rd (FB_SCRAW c) = cs ++ sn ∧ t.channels = s.channels) ∧
      (counting → sincos → s.rd (FB_SCOFS c) = 0 → s.rd (FB_SCGAIN c) = 0x40004000#32 → lo ≤ hi → s.sincosRun c = none →
          s.b (FB_LIVE_SIG_OK c) = true →
        (outside → x.outRun + 1 < s.lossN c → ∃ t, exec (.sincosSample c sn cs) s = .next t ∧ s.regsBut t [FB_SCRAW c] ∧
          (t.chan c).outRun = x.outRun + 1 ∧ (t.chan c).inRun = 0 ∧ (t.chan c).angle = x.angle) ∧
        (outside → s.lossN c ≤ x.outRun + 1 → ∃ t, exec (.sincosSample c sn cs) s = .next t ∧ t.mem = s.mem ∧ t.b (FB_LIVE_SIG_OK c) = false ∧
          t.b (FB_LIVE_POS_UNSURE c) = true ∧ (t.chan c).angle = none ∧ t.b (FB_STAT_SIG_LOSS c) = true ∧ t.b (FLT_SRC_LATCHED 90) = true) ∧
        (¬ outside → s.b (FB_CFG_DIR_INV c) = false → ∃ t, exec (.sincosSample c sn cs) s = .next t ∧ t.mem = s.mem ∧
          (∃ k ∈ ([-1, 0, 1] : List Int), (t.chan c).angle = some (ofSigned 16 (angleOf sn.toInt cs.toInt + k))) ∧ (t.chan c).outRun = 0 ∧
          (t.chan c).edges = x.edges + 1 ∧ (t.chan c).stamp = s.tb + 1280))) ∧
    (xs.length ≠ 256 ∨ s.tb < x.detectAt → ∃ t, exec (.detectAttempt c xs) s = .next t ∧ s.regsBut t [] ∧ t.channels = s.channels) ∧
    (x.detecting = true → s.b (FB_CTRL_EN c) = true → xs.length = 256 → x.detectAt ≤ s.tb → lo ≤ hi → s.cal.armed = [] →
      ((∀ p ∈ xs, digital p) → ∃ t, exec (.detectAttempt c xs) s = .next t ∧ decided t 1) ∧
      ((∀ p ∈ xs, small p) → ∃ t, exec (.detectAttempt c xs) s = .next t ∧ decided t 2) ∧
      ((∃ p ∈ xs, ¬ digital p) → (∃ p ∈ xs, ¬ small p) →
        (x.attempts < 7 → ∃ t, exec (.detectAttempt c xs) s = .next t ∧ s.regsBut t [] ∧ (t.chan c).attempts = x.attempts + 1 ∧
          (t.chan c).detectAt = s.tb + 800000) ∧
        (7 ≤ x.attempts → ∃ t, exec (.detectAttempt c xs) s = .next t ∧ t.mem = s.mem ∧ t.b (FB_CTRL_EN c) = false ∧
          t.b (FB_STAT_DETECT_FAIL c) = true ∧ t.b (FLT_SRC_LATCHED 92) = true))) ∧
    (x.stamp + 800 * max 1 (s.f (FB_LSTMO_US c)) ≤ s.tb →
      ∃ t, exec (.lowSpeedTimeout c) s = .next t ∧ s.regsBut t [FB_LIVE c] ∧ t.b (FB_LIVE_LOW_SPEED c) = true) ∧
    (s.tb < x.stamp + 800 * max 1 (s.f (FB_LSTMO_US c)) →
      ∃ t, exec (.lowSpeedTimeout c) s = .next t ∧ s.regsBut t []) ∧
    (accepted → counting → s.b (FB_CFG_INDEX_EN c) = true → s.b (FB_CFG_INDEX_GATE c) = false → lpr ≠ 0 →
      (s.b (FB_IDXCFG_REF_VALID c) = false → ∃ t, exec (.indexEvent c age) s = .next t ∧
        s.regsBut t [FB_IDXPOS_LO c, FB_IDXPOS_HI c, FB_IDXREF c, FB_IDXCFG c] ∧ t.rd64 (FB_IDXPOS_LO c) = s.rd64 (FB_POS_LO c) ∧
        (t.rn (FB_IDXREF c) : Int) = s.rdS64 (FB_POS_LO c) % lpr ∧ t.b (FB_IDXCFG_REF_VALID c) = true) ∧
      (s.b (FB_IDXCFG_REF_VALID c) = true → diff = 0 → ∃ t, exec (.indexEvent c age) s = .next t ∧ s.regsBut t [FB_IDXPOS_LO c, FB_IDXPOS_HI c] ∧
        t.rd64 (FB_IDXPOS_LO c) = s.rd64 (FB_POS_LO c)) ∧
      (s.b (FB_IDXCFG_REF_VALID c) = true → diff ≠ 0 → ∃ t, exec (.indexEvent c age) s = .next t ∧ t.mem = s.mem ∧
        t.rd64 (FB_IDXPOS_LO c) = s.rd64 (FB_POS_LO c) ∧ t.rd64 (FB_POS_LO c) = s.rd64 (FB_POS_LO c) ∧ t.rdS (FB_IDXDIFF c) = diff ∧
        t.b (FB_STAT_IDX_MISMATCH c) = true ∧ (t.chan c).corr = (if s.b (FB_CFG_CORRECT_ON_INDEX c) = true then some (diff, s.tb) else x.corr) ∧
        (s.f (FB_IDXCFG_TOL c) < diff.natAbs → t.b (FB_STAT_IDX_FAULT c) = true ∧ t.b (FLT_SRC_LATCHED 89) = true))) ∧
    (rejected ∨ ¬ counting → ∃ t, exec (.indexEvent c age) s = .next t ∧ s.regsBut t []) ∧
    (s.b (EMU_CFG_EN n) = true → s.role ≠ 3 → s.firmware = true → due → y ≠ e.emitted → ∃ t, exec (.emuStep n) s = .next t ∧ t.mem = s.mem ∧
      .emu n (decide (e.emitted < y)) ∈ t.out ∧ (t.emu n).emitted = e.emitted + (if e.emitted < y then 1 else -1) ∧
      (t.emu n).lastStep = s.tb ∧ (t.emu n).x0 = e.x0) ∧
    (s.b (EMU_CFG_EN n) = false ∨ y = e.emitted ∨ ¬ due → ∃ t, exec (.emuStep n) s = .next t ∧ t.mem = s.mem ∧
      (t.emu n).emitted = e.emitted ∧ (t.emu n).lastStep = e.lastStep)

/-! Loop array and calibration -/

/-- R576 to R590: a timer started now ticks 2 PERIOD ticks later; RUN starts a loop that meets R586, or is refused with CFG_ERROR and source 8;
stopping keeps the history; INIT of a stopped loop loads it; a due tick commits an armed set and runs the compensation law of R581 with the saturation
of R582; a due PWM period takes its duty, and the next is due PWM_PERIOD cycles later; an output held low shows none. The model's
readings: the difference wraps at 64 bits (DEDUCED, log 105), and what the timers and PWM periods run from (DEDUCED, log 65). -/
def Obligations.LoopCommands : Prop :=
  ∀ (req : Req) (v : Word) (k : Fin 8) (l : Fin 32) (p : Fin 16) (s : State),
    let at_ (t : State) (i : Nat) := Map.get (fun _ => 0) t.timerAt i
    let pwmAt (t : State) := Map.get (fun _ => 0) t.pwmAt p
    let due := s.b (LP_TMR_EN k) = true ∧ at_ s k + 2 * s.f (LP_TMR_PERIOD k) ≤ s.tb
    let alone := s.timersWith k = [k.val] ∧ ∀ i : Fin 32, s.f (LP_CFG_TIMER i) = k ↔ i = l
    let clamp (x : Int) : Int := max (-2147483648) (min x 2147483647)
    let c (j : Nat) : Int := s.rdS (LP_ACTIVE l j)
    let term (j : Nat) (x : Int) (w i : Nat) : Int :=
      let h := s.rn (LP_ACTIVE l w) / 2 ^ (8 * i) % 32
      (c j * x + (if h = 0 then 0 else 2 ^ (h - 1))) / 2 ^ h
    let e := clamp ((s.rdS (LP_REF l) - s.rdS64 (FB_POS_LO (s.f (LP_CFG_SRC_MEAS l)))).bmod (2 ^ 64))
    let xs := term 1 (s.rdS (LP_XH l 0)) 7 1 + term 2 (s.rdS (LP_XH l 1)) 7 2 +
      (if s.b (LP_CFG_ORDER3 l) = true then term 3 (s.rdS (LP_XH l 2)) 7 3 else 0)
    let ys := term 4 (s.rdS (LP_YH l 0)) 8 0 + term 5 (s.rdS (LP_YH l 1)) 8 1 +
      (if s.b (LP_CFG_ORDER3 l) = true then term 6 (s.rdS (LP_YH l 2)) 8 2 else 0)
    let u := clamp (term 0 e 7 0 + xs - ys)
    let y := min (max u (c 9)) (c 10)
    let quiet (i : Instr) : Prop := ∃ t, exec i s = .next t ∧ s.regsBut t []
    (s.reaches req LP_TMR_START → ∃ t, exec (.timerStart req v) s = .next t ∧ s.regsBut t [] ∧
      ∀ i, at_ t i = if i < 8 ∧ bitAt v.toNat i = true then s.tb else at_ s i) ∧
    (s.reaches req (LP_CTRL l) → s.b (LP_CTRL_INIT l) = false →
      (s.b (LP_CTRL_RUN l) = false →
        (s.loopOk l = true → ∃ t, exec (.loopRun req l) s = .next t ∧ s.regsBut t [LP_CTRL l, LP_LIVE l] ∧ t.b (LP_CTRL_RUN l) = true ∧
          t.b (LP_LIVE_RUNNING l) = true) ∧
        (s.loopOk l = false → ∃ t, exec (.loopRun req l) s = .next t ∧ t.mem = s.mem ∧ t.b (LP_CTRL_RUN l) = false ∧
          t.b (LP_STAT_CFG_ERROR l) = true ∧ t.b (FLT_SRC_LATCHED 8) = true) ∧
        quiet (.loopStop req l) ∧
        (∃ t, exec (.loopInit req l) s = .next t ∧ s.regsBut t [LP_XH l 0, LP_XH l 1, LP_XH l 2, LP_YH l 0, LP_YH l 1, LP_YH l 2] ∧
          ∀ i < 3, t.rd (LP_XH l i) = 0 ∧ t.rd (LP_YH l i) = s.rd (LP_YINIT l))) ∧
      (s.b (LP_CTRL_RUN l) = true → quiet (.loopRun req l) ∧ quiet (.loopInit req l) ∧
        ∃ t, exec (.loopStop req l) s = .next t ∧ s.regsBut t [LP_CTRL l, LP_LIVE l] ∧ t.b (LP_CTRL_RUN l) = false ∧
          t.b (LP_LIVE_RUNNING l) = false)) ∧
    (s.asleep = false →
      (¬ due → ∃ t, exec (.loopTick k) s = .next t ∧ s.regsBut t [] ∧ t.timerAt = s.timerAt) ∧
      (due → alone → s.b (LP_SHCTL_ARM l) = true → s.rdS (LP_OMIN l) ≤ s.rdS (LP_OMAX l) → s.b (LP_CTRL_RUN l) = false →
        ∃ t, exec (.loopTick k) s = .next t ∧ t.mem = s.mem ∧ at_ t k = at_ s k + 2 * s.f (LP_TMR_PERIOD k) ∧ t.b (LP_SHCTL_ARM l) = false ∧
          (∀ i < 4, t.rd (LP_ACTIVE l i) = s.rd (LP_B l i)) ∧ (∀ i < 3, t.rd (LP_ACTIVE l (4 + i)) = s.rd (LP_A l i)) ∧
          t.rd (LP_ACTIVE l 7) = s.rd (LP_SHB l) ∧ t.rd (LP_ACTIVE l 8) = s.rd (LP_SHA l) ∧ t.rd (LP_ACTIVE l 9) = s.rd (LP_OMIN l) ∧
          t.rd (LP_ACTIVE l 10) = s.rd (LP_OMAX l)) ∧
      (due → alone → s.b (LP_SHCTL_ARM l) = false → s.b (LP_CTRL_RUN l) = true → s.f (LP_CFG_SRC_MEAS l) < 12 → s.f (LP_CFG_SRC_REF l) = 0xFF →
        s.f (LP_CFG_DST_KIND l) < 2 → s.f (LP_SATLIM_SAMPLES l) = 0 →
        ∃ t, exec (.loopTick k) s = .next t ∧ t.mem = s.mem ∧ (∀ a, a < 0xC0000 ∨ 0xCC000 ≤ a → t.rd a = s.rd a) ∧
          at_ t k = at_ s k + 2 * s.f (LP_TMR_PERIOD k) ∧ t.rdS (LP_E l) = e ∧ t.rdS (LP_U l) = u ∧ t.rdS (LP_Y l) = y ∧
          t.rdS (LP_XH l 0) = e ∧ t.rd (LP_XH l 1) = s.rd (LP_XH l 0) ∧ t.rd (LP_XH l 2) = s.rd (LP_XH l 1) ∧
          t.rdS (LP_YH l 0) = (if s.b (LP_CFG_AW l) = true then y else u) ∧ t.rd (LP_YH l 1) = s.rd (LP_YH l 0) ∧
          t.rd (LP_YH l 2) = s.rd (LP_YH l 1) ∧ t.b (LP_LIVE_SAT l) = decide (u ≠ y) ∧
          (s.f (LP_CFG_DST_KIND l) = 1 → ((Map.get (fun _ => 0) t.pwmDuty (s.f (LP_CFG_DST_IDX l)) : Nat) : Int) = max 0 (min y 65535))) ∧
      (s.b (PWM_CFG_EN p) = true → pwmAt s ≤ s.tb → ∃ t, exec (.pwmPeriodStart p) s = .next t ∧ s.regsBut t [] ∧
        let n := s.f (PWM_PERIOD_CYCLES p)
        pwmAt t = pwmAt s + 2 * n ∧
        let d := if s.b (PWM_CFG_SRC p) = true then Map.get (fun _ => 0) s.pwmDuty p else s.f (PWM_DUTY_DUTY p)
        let low := s.firmware = false ∨ s.b DBG_STAT_FROZEN = true ∨ s.b FLT_STAT_FAULT_IN_LOW = true ∨ s.f FLT_STAT_SAFE_LEVEL = 4 ∨ s.role = 3 ∨
          (s.f FLT_STAT_SAFE_LEVEL = 3 ∧ s.b (PWM_CFG_SAFE_S3 p) = true)
        (¬ low → t.out = .pwm p n (d * n / 65536) :: s.out) ∧ (low → t.out = s.out)) ∧
      (s.b (PWM_CFG_EN p) = false ∨ s.tb < pwmAt s → ∃ t, exec (.pwmPeriodStart p) s = .next t ∧ s.regsBut t [] ∧ t.out = s.out))

/-- R597 to R603, R605, R606, R608, R609: a calibration run starts where R599 allows it, or is refused with source 76; one of ADC_OFS ends with its
4,096 conversions once their time has passed (the command's operand, log 66), first swapping an armed set of its own, and with its staged offset, or
an abort with its REASON and source 74; CAL_APPLY arms a set with a completed run, or leaves it unarmed where it is armed already; a NOZZLE set of a
stopped domain is written to the trims; a trigger falls due past its DT. R611 to R614: QZ_CMD.PROG blows header, payload and CRC into the lowest free
slot, or is refused with source 76; the write ends with COMMIT blown, or fails with source 77, its slot lost; four free slots or fewer raise source
78. -/
def Obligations.CalibrationAndQuartz : Prop :=
  (∀ (req : Req) (v : Word) (l : Fin 64) (k : Fin 16) (xs : List (BitVec 16 × BitVec 16)) (r : CalRun) (x : CalArm) (m : Nat) (s : State),
    let sub := v.toNat / 256 % 4
    let i := v.toNat / 65536 % 64
    let ok := s.cal.run = none ∧ (∀ y ∈ s.cal.armed, y.set ≠ 256 * sub + i) ∧
      ((sub = 1 ∧ i < 4 ∧ s.b (VFY_LGATE_EN i) = false) ∨ (sub = 1 ∧ 8 ≤ i ∧ i < 12 ∧ s.b (FB_CTRL_EN i) = false) ∨
       (sub = 2 ∧ 8 ≤ i ∧ i < 12 ∧ s.b (FB_CTRL_EN i) = true ∧ s.b (FB_LIVE_DETECTED i) = true ∧ s.f (FB_LIVE_DET_MODE i) = 2))
    let n := v.toNat % 65536
    let known := setExists n = true ∧ n ∈ s.cal.staged
    let quiet (c : Instr) : Prop := ∃ t, exec c s = .next t ∧ s.regsBut t [] ∧ t.cal = s.cal
    let aborts (c : Instr) (reason : Nat) : Prop := ∃ t, exec c s = .next t ∧ t.mem = s.mem ∧ t.cal = { s.cal with run := none } ∧
      t.b CAL_STAT_BUSY = false ∧ t.b CAL_STAT_ABORT = true ∧ t.f CAL_STAT_REASON = reason ∧ t.b (FLT_SRC_LATCHED 74) = true ∧
      t.rn (FLT_INFO 74) = r.inst % 0x100000000
    let ripe (ticks : Nat) : Prop := xs.length = 4096 ∧ r.since + ticks ≤ s.tb
    let unarmed := ∀ y ∈ s.cal.armed, y.set ≠ 256 + r.inst
    let set := s.f (CAL_TRIG_SET k)
    let far := 16 * (s.f (CAL_TRIG_DT k) + 1) < (toSigned 16 (s.f CAL_DIETEMP_T) - toSigned 16 (s.f (CAL_TLAST_T_LAST k))).natAbs
    let lone := s.b (CAL_TRIG_EN k) = true ∧ (∀ j : Fin 16, j ≠ k → s.b (CAL_TRIG_EN j) = false) ∧ set / 256 ≠ 3
    let nz := s.f (CAL_NZBUF_NOZZLE 0)
    (s.reaches req CAL_CMD →
      (ok → ∃ t, exec (.calRun req v) s = .next t ∧ s.regsBut t [CAL_CMD, CAL_STAT] ∧ t.b CAL_STAT_BUSY = true ∧
        t.cal = { s.cal with run := some { subject := sub, inst := i, since := s.tb } }) ∧
      (¬ ok → ∃ t, exec (.calRun req v) s = .next t ∧ t.mem = s.mem ∧ t.cal = s.cal ∧ t.b CAL_STAT_CFG_ERROR = true ∧
        t.b (FLT_SRC_LATCHED 76) = true) ∧
      (n / 256 ≠ 3 →
        (¬ known → ∃ t, exec (.calApply req v) s = .next t ∧ s.regsBut t [CAL_APPLY] ∧ t.f CAL_APPLY_RESULT = 1 ∧ t.cal = s.cal) ∧
        (known → (∃ y ∈ s.cal.armed, y.set = n) → ∃ t, exec (.calApply req v) s = .next t ∧ s.regsBut t [CAL_APPLY] ∧
          t.f CAL_APPLY_RESULT = 2 ∧ t.cal = { s.cal with armed := s.cal.armed.filter fun y => y.set ≠ n }) ∧
        (known → (∀ y ∈ s.cal.armed, y.set ≠ n) → ∃ t, exec (.calApply req v) s = .next t ∧ s.regsBut t [CAL_APPLY] ∧
          t.f CAL_APPLY_RESULT = 0 ∧ t.cal = { s.cal with armed := s.cal.armed ++ [{ set := n, engine := none }] }))) ∧
    (s.asleep = false →
      (s.cal.run = none → quiet (.calRunEnd xs) ∧ quiet .calTimeout) ∧
      (s.cal.run = some r → r.subject = 1 → ¬ ripe (if r.inst < 4 then 328000 else 1640000) → quiet (.calRunEnd xs)) ∧
      (s.cal.run = some r → r.subject = 1 → r.inst < 4 → ripe 328000 → s.cal.armed = [x] → x.set = 256 + r.inst → x.engine = none →
        ∃ t, exec (.calRunEnd xs) s = .next t ∧ t.rd (CAL_ADCOFS r.inst) = s.rd (CAL_ADC_STAGE r.inst) ∧ t.cal.armed = [] ∧
          t.b CAL_STAT_SWAPPED = true ∧ t.cal.run = none) ∧
      (∀ p : BitVec 16 × BitVec 16, s.cal.run = some r → r.subject = 1 → 8 ≤ r.inst → r.inst < 12 → ripe 1640000 → unarmed → (∀ q ∈ xs, q = p) →
        p.1 ∉ [0x7FFF#16, 0x8000#16] → p.2 ∉ [0x7FFF#16, 0x8000#16] →
        ∃ t, exec (.calRunEnd xs) s = .next t ∧ s.regsBut t [CAL_STAT, CAL_ADC_STAGE r.inst] ∧ t.rd (CAL_ADC_STAGE r.inst) = p.2 ++ p.1 ∧
          t.b CAL_STAT_DONE = true ∧ t.cal.run = none ∧ 256 + r.inst ∈ t.cal.staged) ∧
      (s.cal.run = some r → r.subject = 1 → r.inst < 4 → ripe 328000 → unarmed → (∀ p ∈ xs, p.1.toNat % 4096 = m) →
        (0 < m → m < 4095 → ∃ t, exec (.calRunEnd xs) s = .next t ∧ s.regsBut t [CAL_STAT, CAL_ADC_STAGE r.inst] ∧
          t.rn (CAL_ADC_STAGE r.inst) = m ∧ t.b CAL_STAT_BUSY = false ∧ t.b CAL_STAT_DONE = true ∧ t.cal.run = none ∧
          256 + r.inst ∈ t.cal.staged ∧ t.cal.armed = s.cal.armed) ∧
        (m = 0 ∨ m = 4095 → aborts (.calRunEnd xs) 3)) ∧
      (s.cal.run = some r → r.subject = 1 → r.inst < 4 → ripe 328000 → unarmed →
        (s.f CAL_LIM_NOISE_MAX : Int) < (medMad (xs.map fun p => ((p.1.toNat % 4096 : Nat) : Int))).2 → aborts (.calRunEnd xs) 1) ∧
      (s.cal.run = some r → r.subject = 2 → r.cycles < 8 → quiet (.calRunEnd xs)) ∧
      (s.cal.run = some r → r.subject = 2 → 8 ≤ r.cycles → (axisFit (r.samples.map (·.1))).2 < s.f CAL_LIM_AMP_MIN → aborts (.calRunEnd xs) 4) ∧
      (s.cal.run = some r → r.subject = 2 → r.cycles < 8 → r.since + max 1 (s.f CAL_LIM_TMO) * 800000 ≤ s.tb → aborts .calTimeout 5) ∧
      (s.cal.run = some r → r.subject ≠ 2 ∨ 8 ≤ r.cycles ∨ s.tb < r.since + max 1 (s.f CAL_LIM_TMO) * 800000 → quiet .calTimeout) ∧
      ((∀ y ∈ s.cal.armed, y.set ≠ 768 + l) → quiet (.nzSetWrite l)) ∧
      (s.cal.armed = [x] → x.set = 768 + l → s.f (DCD_CTRL_STATE (s.f (HL_CFG_DCD l))) = 0 → s.f CAL_NZCFG_COUNT = 1 →
        ∃ t, exec (.nzSetWrite l) s = .next t ∧ t.cal.armed = [] ∧ (x.engine = none → t.b CAL_STAT_SWAPPED = true) ∧
          t.nozzle nz % 1024 = s.f (CAL_NZBUF_TRIM 0) ∧ t.nozzle nz / 1024 % 2 ^ 53 = s.nozzle nz / 1024 % 2 ^ 53 ∧
          onesBelow (t.nozzle nz) 64 % 2 = 0 ∧ ∀ b, (b < nozzleAddr nz ∨ nozzleAddr nz + 8 ≤ b) → t.byte b = s.byte b) ∧
      (s.cal.armed = [x] → x.set = 768 + l → s.f (DCD_CTRL_STATE (s.f (HL_CFG_DCD l))) ≠ 0 → (s.dom (s.f (HL_CFG_DCD l))).bcount ≤ x.since →
        quiet (.nzSetWrite l)) ∧
      ((∀ j : Fin 16, s.b (CAL_TRIG_EN j) = false) → quiet .calTriggerEval) ∧
      (lone → s.b (CAL_TRIG_AUTO k) = false →
        (far → ∃ t, exec .calTriggerEval s = .next t ∧ t.mem = s.mem ∧ t.cal = s.cal ∧ bitAt (t.rn CAL_DUE) k = true ∧
          t.b (FLT_SRC_LATCHED 73) = true) ∧
        (¬ far → quiet .calTriggerEval)) ∧
      (lone → s.b (CAL_TRIG_AUTO k) = true → far → set / 256 = 1 → set % 256 < 4 → s.cal.run = none → s.b (VFY_LGATE_EN (set % 256)) = false →
        (∀ y ∈ s.cal.armed, y.set ≠ set) → ∃ t, exec .calTriggerEval s = .next t ∧ t.mem = s.mem ∧ bitAt (t.rn CAL_DUE) k = true ∧
          t.b CAL_STAT_BUSY = true ∧ t.cal.run = some { subject := 1, inst := set % 256, since := s.tb }))) ∧
  (∀ (req : Req) (n : Nat) (rest : List Nat) (ok : Bool) (s : State),
    let bs := s.regBytes (QZ_BUF 0) 152
    let header := leAt bs 0 4 = 0x00015A51 ∧ leAt bs 4 2 = 136 ∧ leAt bs 6 2 = 0 ∧ allZero (slice bs 0x44 84) = true
    let may := s.b QZ_STAT_BUSY = false ∧ bitAt (s.rn SYS_RAIL_STAT) 5 = true ∧ header
    let commit : List Byte := [0xDE, 0xC0, 0xA7, 0x51]
    (s.granted req QZ_CMD →
      (s.qzFree = n :: rest → may → ∃ t, exec (.qzProg req) s = .next t ∧ s.regsBut t [QZ_STAT, QZ_SLOTS] ∧ t.b QZ_STAT_BUSY = true ∧
          t.f QZ_SLOTS_FREE = t.qzFree.length ∧
        t.quartz.prog = some n ∧ t.quartz.slot = s.quartz.slot ∧ t.qzSlot n = bs ++ leBytes 4 (crc32 bs) ++ zeros 4 ∧
        ∀ a, a < 160 * n ∨ 160 * n + 160 ≤ a → t.qz a = s.qz a) ∧
      (s.qzFree = [] ∨ ¬ may → ∃ t, exec (.qzProg req) s = .next t ∧ t.mem = s.mem ∧ t.quartz = s.quartz ∧
        t.b QZ_STAT_PROG_REFUSED = true ∧ t.b (FLT_SRC_LATCHED 76) = true)) ∧
    (s.asleep = false →
      (s.quartz.prog = none → ∃ t, exec (.qzProgEnd ok) s = .next t ∧ s.regsBut t [] ∧ t.quartz = s.quartz) ∧
      (s.quartz.prog = some n →
        (∃ t, exec (.qzProgEnd true) s = .next t ∧ t.mem = s.mem ∧ t.b QZ_STAT_BUSY = false ∧ t.b QZ_STAT_PROG_DONE = true ∧
          t.quartz.prog = none ∧ t.quartz.slot = s.quartz.slot ∧ t.f QZ_SLOTS_FREE = t.qzFree.length ∧
          (t.qzFree.length ≤ 4 → t.b (FLT_SRC_LATCHED 78) = true) ∧
          ∀ a, t.qz a = if 160 * n + 156 ≤ a ∧ a < 160 * n + 160 then s.qz a ||| commit.getD (a - (160 * n + 156)) 0 else s.qz a) ∧
        (∃ t, exec (.qzProgEnd false) s = .next t ∧ t.mem = s.mem ∧ t.b QZ_STAT_BUSY = false ∧ t.b QZ_STAT_PROG_FAIL = true ∧
          t.b (FLT_SRC_LATCHED 77) = true ∧ t.quartz = { s.quartz with prog := none } ∧ t.f QZ_SLOTS_FREE = t.qzFree.length))))

/-! Faults -/

/-- R625, R631, R636 to R638, R640, R641, R643, R644: RESUME ends safe state only where no fault of S3 or S4 is latched or live and FAULT_IN_N is
high; releasing ERR_HOLD and the end of a pulse let ERR_N go; FORCE latches an injected fault, on a regulated part only with debug unlocked; SEV is
not lowered below a protected source's default; a write-back with SEQ clears; outside reset, FAULT_IN_N low disables the axes and PWM outputs at once
and latches source 10, and in reset it has no effect, which is the model's choice (DESIGN CHOICE, log 30). -/
def Obligations.FaultCommands : Prop :=
  ∀ (req : Req) (n : Fin 128) (sev : BitVec 3) (v : Word) (u : Nat) (s : State),
    let may := s.latchedAtLeast 3 = false ∧ s.b FLT_STAT_FAULT_IN_LOW = false ∧
      ∀ i < 128, sourceLevel i = true → s.b (FLT_SRC_LIVE i) = true → s.severity i < 3
    let frozen := s.b DBG_STAT_FROZEN
    let barred := s.fuses.regulated = true ∧ s.b DBG_STAT_UNLOCKED = false
    let low := sourceProtected n = true ∧ min 4 sev.toNat < defaultSeverity n
    let pw := min (max (s.f FLT_ERRN_PW) 1) 10000 * 8000
    (s.granted req FLT_CTRL → s.rd FLT_CTRL &&& 1#32 = 0 →
      (may → ∃ t, exec (.faultResume req) s = .next t ∧ s.regsBut t [FLT_STAT] ∧ t.f FLT_STAT_SAFE_LEVEL = 0 ∧
        t.errPin = (s.power.aonRuns && (!s.firmware || frozen || s.b FLT_CTRL_ERR_HOLD || s.errPulseEnd.isSome || s.errRelease.isSome))) ∧
      (¬ may → ∃ t, exec (.faultResume req) s = .next t ∧ s.regsBut t [FLT_STAT] ∧ t.b FLT_STAT_RESUME_REFUSED = true ∧
        t.f FLT_STAT_SAFE_LEVEL = s.f FLT_STAT_SAFE_LEVEL)) ∧
    (s.reaches req FLT_CTRL → s.rd FLT_CTRL &&& 1#32 = 0 →
      (s.b FLT_CTRL_ERR_HOLD = true → ∃ t, exec (.errHoldRelease req) s = .next t ∧ s.regsBut t [FLT_CTRL, FLT_STAT] ∧
        t.b FLT_CTRL_ERR_HOLD = false ∧ t.errRelease = some (max (s.tb + pw) (s.errPulseEnd.getD 0)) ∧ t.errPin = s.power.aonRuns) ∧
      (s.b FLT_CTRL_ERR_HOLD = false → ∃ t, exec (.errHoldRelease req) s = .next t ∧ s.regsBut t [FLT_STAT] ∧ t.errRelease = s.errRelease)) ∧
    (s.asleep = false → s.errPulseEnd = some u →
      (u ≤ s.tb → s.errRelease = none → s.b FLT_CTRL_ERR_HOLD = false → s.f FLT_STAT_SAFE_LEVEL ≠ 4 → s.firmware = true →
        ∃ t, exec .errPulseEnd s = .next t ∧ s.regsBut t [FLT_STAT] ∧ t.errPulseEnd = none ∧ t.errPin = false) ∧
      (s.tb < u → ∃ t, exec .errPulseEnd s = .next t ∧ s.regsBut t [FLT_STAT] ∧ t.errPulseEnd = some u ∧ t.errPin = true)) ∧
    (s.granted req (FLT_CFG n) → s.rd (FLT_CFG n) &&& 8#32 = 0 →
      (sourceDefined n = true → ¬ barred → ∃ t, exec (.faultForce req n) s = .next t ∧ t.mem = s.mem ∧ t.b (FLT_SRC_LATCHED n) = true ∧
        t.b (FLT_SRC_INJECTED n) = true ∧ t.f (FLT_SRC_SEV n) = s.severity n ∧ t.rn (FLT_INFO n) = 0 ∧
        t.f (FLT_CNT_COUNT n) = min (s.f (FLT_CNT_COUNT n) + 1) (2 ^ ((FLT_CNT_COUNT n).hi + 1 - (FLT_CNT_COUNT n).lo) - 1)) ∧
      (sourceDefined n = true → barred → ∃ t, exec (.faultForce req n) s = .next t ∧ s.regsBut t [FLT_STAT, FLT_CFG n] ∧
        t.b FLT_STAT_FORCE_REFUSED = true ∧ t.rd (FLT_SRC n) = s.rd (FLT_SRC n)) ∧
      (sourceDefined n = false → ∀ c ∈ [Instr.faultForce req n, .sevWrite req n sev], ∃ t, exec c s = .next t ∧ s.regsBut t []) ∧
      (sourceDefined n = true → ¬ low → ∃ t, exec (.sevWrite req n sev) s = .next t ∧ s.regsBut t [FLT_CFG n] ∧ t.f (FLT_CFG_SEV n) = sev.toNat) ∧
      (sourceDefined n = true → low → ∃ t, exec (.sevWrite req n sev) s = .next t ∧ s.regsBut t [FLT_STAT] ∧ t.b FLT_STAT_SEV_REFUSED = true)) ∧
    (s.reaches req (FLT_SRC n) →
      (v >>> 24 = s.rd (FLT_SRC n) >>> 24 → ∃ t, exec (.fltSrcClear req n v) s = .next t ∧ s.regsBut t [FLT_SRC n, FLT_LATCH_SUM (n / 32)] ∧
        t.b (FLT_SRC_TRANSIENT n) = false ∧ t.b (FLT_SRC_INJECTED n) = false ∧ t.b (FLT_SRC_LIVE n) = s.b (FLT_SRC_LIVE n) ∧
        (s.b (FLT_SRC_LIVE n) = false → t.b (FLT_SRC_LATCHED n) = false ∧ bitAt (t.rn (FLT_LATCH_SUM (n / 32))) (n % 32) = false) ∧
        (s.b (FLT_SRC_LIVE n) = true → t.b (FLT_SRC_LATCHED n) = s.b (FLT_SRC_LATCHED n))) ∧
      (v >>> 24 ≠ s.rd (FLT_SRC n) >>> 24 → ∃ t, exec (.fltSrcClear req n v) s = .next t ∧ s.regsBut t [])) ∧
    (s.b FLT_STAT_FAULT_IN_LOW = true ∨ s.inReset = true → ∃ t, exec .faultInAssert s = .next t ∧ s.regsBut t []) ∧
    (s.b FLT_STAT_FAULT_IN_LOW = false → s.inReset = false → frozen = true → ∃ t, exec .faultInAssert s = .next t ∧ s.regsBut t [FLT_STAT] ∧
      t.b FLT_STAT_FAULT_IN_LOW = true ∧ t.frozenFaultIn = true) ∧
    (s.b FLT_STAT_FAULT_IN_LOW = false → s.inReset = false → frozen = false → ∃ t, exec .faultInAssert s = .next t ∧ t.mem = s.mem ∧
        t.b FLT_STAT_FAULT_IN_LOW = true ∧
      t.b (FLT_SRC_LIVE 10) = true ∧ t.b (FLT_SRC_LATCHED 10) = true ∧ ∀ i < 16, t.b (MOT_CTRL_ENABLE i) = false ∧ t.b (PWM_CFG_EN i) = false) ∧
    (∃ t, exec .faultInRelease s = .next t ∧ s.regsBut t [FLT_STAT, FLT_SRC 10, FLT_LIVE_SUM 0] ∧ t.b FLT_STAT_FAULT_IN_LOW = false ∧
      (frozen = false → t.b (FLT_SRC_LIVE 10) = false))

/-! Security -/

/-- R646 to R653, R84 to R86, R188 to R190: a fuse write that meets Table 18.2, by the fuses as they read and as they will once those in progress are
blown, waits to be blown, or is refused; once blown no bit returns to 0; a token is checked, and the nonce renewed; an authorisation lapses after 1 s;
an image load begins where none runs, and ends with the image copied, its pages locked and the engine verified, or with the first code that fails
(O24 says what the checks of Table 3.4 answer). That the conditions count programmings in progress as blown is the model's choice (log 107), as are
the readings of logs 22, 71 and 72. -/
def Obligations.FusesTokensAndImages : Prop :=
  ∀ (req : Req) (v : Word) (op : BitVec 5) (e : Fin 16) (err : Bool) (field index : Nat) (data : List Byte) (rest : List (Nat × Nat × List Byte))
      (l : Load)
    (s : State),
    let quiet (c : Instr) : Prop := ∃ t, exec c s = .next t ∧ s.regsBut t [] ∧ t.sec = s.sec ∧ t.fuses = s.fuses
    let fieldW := v.toNat % 16
    let indexW := v.toNat / 256 % 4
    let dataW := s.regBytes (SEC_FDATA 0) 48
    let regulated := s.fuses.regulated
    let blank (u : State) (m : Nat) : Prop := 4 ≤ m ∨ allZero (u.keyHash m) = true
    let usableIn (u : State) (m : Nat) : Prop := ¬ blank u m ∧ u.fuses.revoke.getLsbD m = false
    let usable := usableIn s
    let meetsBy (u : State) : Prop :=
      (fieldW = 1 ∧ blank u indexW) ∨ (fieldW = 2 ∧ ¬ blank u indexW ∧ ∃ m, m ≠ indexW ∧ usableIn u m) ∨
      (fieldW = 3 ∧ 1 ≤ ofLe dataW ∧ ofLe dataW ≤ 64 ∧ u.fuses.rollback ≤ ofLe dataW) ∨ (fieldW = 4 ∧ indexW ≤ 2 ∧ u.policyOf indexW = 0) ∨
      (fieldW = 5 ∧ u.fuses.regulated = false) ∨ (fieldW = 6 ∧ allZero u.supplyRoot = true) ∨ (fieldW = 7 ∧ u.fuses.subsys = 0) ∨
      (fieldW = 8 ∧ (∃ m, usableIn u m) ∧ u.policyOf 0 ≠ 0)
    let later : State := { s with fuses := s.sec.fprog.foldl (fun (x : Fuses) (p : Nat × Nat × List Byte) => x.blow p.1 p.2.1 p.2.2) s.fuses }
    let meets : Prop := meetsBy s ∧ meetsBy later
    let need := regulated = true ∧ fieldW ≠ 3
    let token := ∃ y ∈ s.sec.tokens, y.1 = 1 ∧ s.tb < y.2 + 800000000
    let pub := s.regBytes (SEC_TOK_PUB 0) 97
    let text : List Byte := [0x4B, 0x54, 0x44, 0x54] ++ leBytes 8 s.fuses.dsn.toNat ++ leBytes 4 op.toNat ++ s.regBytes (SEC_TOK_NONCE 0) 32
    let valid := op.toNat ∈ [1, 2, 3, 4, 16, 17] ∧ (∃ m, usable m ∧ s.keyHash m = sha384 pub) ∧
      Config.verify384 pub (sha384 text) (s.regBytes (SEC_TOK_SIG 0) 96) = true
    let consec := s.f SEC_TOK_STAT_CONSEC
    let tokenRegs := SEC_TOK_CTRL :: SEC_TOK_STAT :: (List.range 8).map SEC_TOK_NONCE
    let im := s.readMem l.src l.len
    let code := leAt im 0x18 4
    let dlen := leAt im 0x1C 4
    let dat := leAt im 0x20 4
    let dz := leAt im 0x24 4
    let takes := s.ledger.isOpen = true ∧ s.ledger.closing = false ∧ ∀ y ∈ s.ledger.own, y.kind ≠ 12
    let fails (code : Nat) : Prop := ∃ t, exec (.imageLoadDone err) s = .next t ∧ t.mem = s.mem ∧ t.sec = { s.sec with load := none } ∧
      t.b SEC_LD_STAT_BUSY = false ∧ t.b SEC_LD_STAT_FAIL = true ∧ t.f SEC_LD_STAT_FAIL_CODE = code ∧ t.b (FLT_SRC_LATCHED 100) = true ∧
      t.f SYS_ENG_STAT_VERIFIED = s.f SYS_ENG_STAT_VERIFIED
    let ends : Nat :=
      if s.imageCode false im ≠ 1 ∧ imageLen im ≠ l.len then 2
      else if s.imageCode false im ≠ 0 then s.imageCode false im
      else if leAt im 8 1 ≠ 2 ∨ bitAt (leAt im 0x0A 2) l.engine = false then 12
      else if (s.eng l.engine).running = true ∨ 14 ≤ l.engine then 13
      else if err = true then 14
      else if ¬ takes ∧ 16 ≤ s.sec.measured.length then 15
      else 0
    (s.granted req SEC_FPROG →
      (meets → ¬ need → ∃ t, exec (.fuseProgram req v) s = .next t ∧ s.regsBut t [SEC_FPROG] ∧ t.fuses = s.fuses ∧
        t.sec = { s.sec with fprog := s.sec.fprog ++ [(fieldW, indexW, dataW)] }) ∧
      (meets → need → token → ∃ t, exec (.fuseProgram req v) s = .next t ∧ s.regsBut t [SEC_FPROG] ∧ t.fuses = s.fuses ∧
        t.sec.fprog = s.sec.fprog ++ [(fieldW, indexW, dataW)] ∧ t.sec.tokens.length + 1 = s.sec.tokens.length ∧
        ∀ y, y.1 ≠ 1 → (y ∈ t.sec.tokens ↔ y ∈ s.sec.tokens)) ∧
      (¬ meets ∨ (need ∧ ¬ token) → ∃ t, exec (.fuseProgram req v) s = .next t ∧ s.regsBut t [SEC_FPROG, SEC_STAT] ∧
        t.b SEC_STAT_FPROG_REFUSED = true ∧ t.fuses = s.fuses ∧ t.sec = s.sec)) ∧
    (s.reaches req SEC_TOK_CTRL →
      (∃ t, exec (.tokenCheck req op) s = .next t ∧ t.mem = s.mem ∧ (valid ∨ consec ≠ 2 → s.regsBut t tokenRegs) ∧
        (valid → t.b SEC_TOK_STAT_VALID = true ∧ t.b SEC_TOK_STAT_INVALID = false ∧ t.f SEC_TOK_STAT_CONSEC = 0 ∧
          t.sec = { s.sec with tokens := s.sec.tokens ++ [(op.toNat, s.tb)] }) ∧
        (¬ valid → t.b SEC_TOK_STAT_VALID = false ∧ t.b SEC_TOK_STAT_INVALID = true ∧ t.f SEC_TOK_STAT_CONSEC = consec % 3 + 1 ∧ t.sec = s.sec) ∧
        (¬ valid → consec = 2 → bitAt (s.tamperActions 2) 1 = true → (t.geode.log.getLast?.map (·.monitor)) = some 17) ∧
        t.regBytes (SEC_TOK_NONCE 0) 32 = freeBytes s.free 32 ∧ t.free = s.free + 1)) ∧
    (s.granted req SEC_LD_CTRL →
      (s.sec.load = none → ∃ t, exec (.imageLoad req e) s = .next t ∧ s.regsBut t [SEC_LD_CTRL, SEC_LD_STAT] ∧ t.b SEC_LD_STAT_BUSY = true ∧
        t.sec = { s.sec with load := some { engine := e, src := s.rd64 SEC_LD_SRC_LO, len := s.f SEC_LD_LEN_BYTES } }) ∧
      (s.sec.load = some l → ∃ t, exec (.imageLoad req e) s = .next t ∧ s.regsBut t [SEC_LD_CTRL] ∧ t.sec = s.sec)) ∧
    (s.asleep = false →
      (s.sec.fprog = [] → quiet .fuseProgramDone) ∧
      (s.sec.fprog = (field, index, data) :: rest → ∃ t, exec .fuseProgramDone s = .next t ∧
        s.regsBut t (SEC_STAT :: SYS_BOOT_STAT :: (List.range 64).map SEC_FUSE) ∧ t.sec = { s.sec with fprog := rest } ∧
        t.rn (SEC_FUSE 2) = t.fuses.rollback % 0x100000000 ∧ t.b SEC_STAT_REGULATED = t.fuses.regulated ∧
        (field = 1 → s.keyHash index = zeros 48 → data.length = 48 → t.keyHash index = data ∧ ∀ m, m ≠ index → t.keyHash m = s.keyHash m) ∧
        (field = 2 → t.fuses = { s.fuses with revoke := s.fuses.revoke ||| (1#4 <<< index) }) ∧
        (field = 3 → t.fuses = { s.fuses with rollback := max s.fuses.rollback (min (ofLe data) 64) }) ∧
        (field = 4 → t.policyOf index = s.policyOf index ||| BitVec.ofNat 4 (ofLe data)) ∧
        (field = 5 → t.fuses = { s.fuses with tamperUnused := s.fuses.tamperUnused ||| BitVec.ofNat 6 (ofLe data) }) ∧
        (field = 6 → s.supplyRoot = zeros 32 → 32 ≤ data.length → t.supplyRoot = data.take 32) ∧
        (field = 7 → t.fuses = { s.fuses with subsys := s.fuses.subsys ||| BitVec.ofNat 32 (ofLe data) }) ∧
        (field = 8 → t.fuses = { s.fuses with regulated := true })) ∧
      (∃ t, exec .tokenExpire s = .next t ∧ s.regsBut t [] ∧ t.fuses = s.fuses ∧ { t.sec with tokens := s.sec.tokens } = s.sec ∧
        ∀ y, y ∈ t.sec.tokens ↔ y ∈ s.sec.tokens ∧ s.tb < y.2 + 800000000) ∧
      (s.sec.load = none → quiet (.imageLoadDone err)) ∧
      (s.sec.load = some l → s.installed < l.src + l.len → fails (if (s.eng l.engine).running = true ∨ 14 ≤ l.engine then 13 else 14)) ∧
      (s.sec.load = some l → l.src + l.len ≤ s.installed → s.badBeats l.src l.len = [] → beatsIn s.soft l.src l.len = [] →
        (ends ≠ 0 → fails ends) ∧
        (ends = 0 → ∃ t, exec (.imageLoadDone err) s = .next t ∧ t.sec.load = none ∧
          s.regsBut { t with mem := s.mem } ([SEC_LD_STAT, SYS_ENG_STAT, ENG_ENTRY l.engine, ENG_SIGPAGES l.engine] ++
              (List.range 12).map SEC_LD_MEAS) ∧
          t.b SEC_LD_STAT_BUSY = false ∧ t.b SEC_LD_STAT_DONE = true ∧ t.f SEC_LD_STAT_FAIL_CODE = 0 ∧
          bitAt (t.f SYS_ENG_STAT_VERIFIED) l.engine = true ∧ t.f (ENG_ENTRY_ENTRY l.engine) = leAt im 0x10 4 / 4 ∧
          (t.eng l.engine).trapVector = BitVec.ofNat 32 (leAt im 0x14 4) ∧
          t.regBytes (SEC_LD_MEAS 0) 48 = sha384 (im.take (256 + code + dlen)) ∧
          (∀ k < 65536, t.byte (imemBase l.engine + k) =
            if k < code then s.byte (l.src + 256 + k) else [0xFF#8, 0xFF#8, 0x20#8, 0xFC#8].getD (k % 4) 0) ∧
          (∀ k < 131072, t.byte (dmemBase l.engine + k) =
            if dat ≤ k ∧ k < dat + dlen then s.byte (l.src + 256 + code + (k - dat))
            else if dat + dlen ≤ k ∧ k < dat + dlen + dz then 0 else s.byte (dmemBase l.engine + k)) ∧
          (∀ a, a < imemBase l.engine ∨ imemBase l.engine + 196608 ≤ a → t.byte a = s.byte a) ∧
          (∀ k < 16, bitAt (t.f (ENG_SIGPAGES_LOCKED l.engine)) k = true ↔ bitAt (s.f (ENG_SIGPAGES_LOCKED l.engine)) k = true ∨ k * 4096 < code) ∧
          (t.eng l.engine).checked = !s.unsigned ∧
          (takes → t.sec.measured = s.sec.measured ∧ (t.ledger.own.getLast?.map (·.kind)) = some 2) ∧
          (¬ takes → t.sec.measured.length = s.sec.measured.length + 1 ∧ t.ledger = s.ledger))))

/-- R654 to R660, R686: PROVISION wraps a drawn key into the lowest free slot, its KEY record due, or is refused; UNLOCK under its token ends the
regulated lock; CLASSC is a class C tamper event; a tamper sample shows which monitors are active and logs one that comes about; a failed self-test
raises source 105. -/
def Obligations.GeodeCommands : Prop :=
  ∀ (req : Req) (ok : Bool) (n : Nat) (i : Fin 4) (mesh : BitVec 8) (switches : BitVec 4) (die : BitVec 16) (s : State),
    let classA := s.geode.active.toNat % 64 ≠ 0
    let token (op : Nat) : Prop := ∃ y ∈ s.sec.tokens, y.1 = op ∧ s.tb < y.2 + 800000000
    let spent (t : State) (op : Nat) : Prop := t.sec.tokens.length + 1 = s.sec.tokens.length ∧
      ∀ y, y.1 ≠ op → (y ∈ t.sec.tokens ↔ y ∈ s.sec.tokens)
    let shown := [GEO_STAT, GEO_MON, GEO_LOG] ++ (List.range 16).map GEO_LOGENT
    let refused (c : Instr) : Prop := ∃ t, exec c s = .next t ∧ s.regsBut t [GEO_STAT] ∧ t.b GEO_STAT_PROV_REFUSED = true ∧
      t.fuses = s.fuses ∧ t.geode = s.geode ∧ t.sec = s.sec
    let logged (t : State) (m : Nat) : Prop := (t.geode.log.getLast?.map (·.monitor)) = some m ∧
      (s.geode.log.length ≤ 8 → t.geode.log.length = min 8 (s.geode.log.length + 1))
    let failed (c : Instr) : Prop := ∃ t, exec c s = .next t ∧ t.mem = s.mem ∧ t.b SEC_STAT_SELFTEST_FAIL = true ∧ t.b (FLT_SRC_LATCHED 105) = true
    let usedAt (m : Nat) : Bool := m < 6 && s.fuses.tamperUnused.getLsbD m
    let bad (k : Nat) : Bool := mesh.getLsbD k != mesh.getLsbD (k + 4)
    let temp := toSigned 16 die.toNat - toSigned 16 (leAt (s.regBytes (QZ_ACTIVE 0) 160) 0x40 2)
    let hot : Bool := temp < -800 || 2000 < temp
    let takes := s.ledger.isOpen = true ∧ s.ledger.closing = false ∧ ∀ y ∈ s.ledger.own, y.kind ≠ 12
    let drawn := freeBytes s.free 92
    let kek := BitVec.ofNat 256 (ofLe (drawn.take 32))
    let priv := slice drawn 32 48
    let pub := slice (Config.pubKey384 priv) 0 97
    let slot := wrapKey kek (slice drawn 80 12) priv
    let keyRec : List Byte := BitVec.ofNat 8 (2 + leAt pub 96 1 % 2) :: slice pub 1 48
    let timed := s.power.aonRuns = true ∧ s.power.porHeld = false
    let stopped := s.geode.active.getLsbD 11 = true
    let clocks := (s.geode.countRem + 16 * (s.tb - s.geode.countAt)) / 390625
    (s.granted req GEO_CMD → s.rd GEO_CMD &&& 7#32 = 0 →
      (n < 4 → s.fuses.devkeyUsed.getLsbD n = false → (∀ m < n, s.fuses.devkeyUsed.getLsbD m = true) → ¬ classA →
        s.b SEC_STAT_SELFTEST_FAIL = false → (s.fuses.regulated = true → token 2) →
        ∃ t, exec (.provision req) s = .next t ∧ t.mem = s.mem ∧
          t.fuses = { s.fuses with devkeyUsed := s.fuses.devkeyUsed ||| (1#4 <<< n), devkey := Map.insert n slot s.fuses.devkey } ∧
          t.geode = { s.geode with kek := some kek, kekLost := false } ∧ t.b GEO_STAT_DEVKEY_VALID = true ∧ t.b GEO_STAT_KEK_VALID = true ∧
          t.regBytes (LG_DEVPUB 0) 97 = pub ∧ (s.fuses.regulated = true → spent t 2) ∧
          (s.fuses.regulated = false → t.sec = s.sec) ∧ t.ledger.keyDue = s.ledger.keyDue ++ [(n, keyRec)] ∧
          (¬ takes → t.ledger.own = s.ledger.own) ∧ (takes → t.ledger.own = s.ledger.own ++ [⟨3, n, 0x10, keyRec, none⟩])) ∧
      ((s.fuses.devkeyUsed = 15#4 ∨ classA ∨ s.b SEC_STAT_SELFTEST_FAIL = true ∨ (s.fuses.regulated = true ∧ ¬ token 2)) → refused (.provision req)) ∧
      (classA → refused (.geoUnlock req)) ∧
      (¬ classA → token 3 → ∃ t, exec (.geoUnlock req) s = .next t ∧ s.regsBut t shown ∧ t.geode = { s.geode with regLock := false } ∧
        t.b GEO_STAT_REG_LOCK = false ∧ t.fuses = s.fuses ∧ spent t 3) ∧
      (¬ classA → ¬ token 3 → ∃ t, exec (.geoUnlock req) s = .next t ∧ s.regsBut t [] ∧ t.geode = s.geode ∧ t.sec = s.sec) ∧
      (∃ t, exec (.classc req) s = .next t ∧ t.mem = s.mem ∧ t.fuses = s.fuses ∧ t.geode.active = s.geode.active ∧
        (s.fuses.regulated = true ∨ s.policyOf 2 = 0 → logged t 18) ∧
        (s.fuses.regulated = true → s.asleep = false → t.b (FLT_SRC_LATCHED 98) = true) ∧
        (s.fuses.regulated = true → s.asleep = true → 98 ∈ t.geode.waiting) ∧
        (s.fuses.regulated = false → s.policyOf 2 = 0 → s.regsBut t shown ∧ t.geode.kek = s.geode.kek ∧ t.geode.regLock = s.geode.regLock))) ∧
    (∃ t, exec (.tamperSample mesh switches die) s = .next t ∧ t.mem = s.mem ∧ t.fuses = s.fuses ∧
      (timed → t.geode.count = (s.geode.count + (if stopped then s.geode.countRem / 390625 else clocks)) % 0x1000000000000) ∧
      (¬ timed → ¬ stopped → s.geode.countRem < 390625 →
        t.geode.count = (s.geode.count + (if s.power.aonRuns = true then 32 else 32768)) % 0x1000000000000) ∧
      t.geode.active.getLsbD 0 = ((bad 0 || bad 1) && !usedAt 0) ∧ t.geode.active.getLsbD 1 = ((bad 2 || bad 3) && !usedAt 1) ∧
      (∀ k < 4, t.geode.active.getLsbD (2 + k) = (switches.getLsbD k && !usedAt (2 + k))) ∧ t.geode.active.getLsbD 10 = hot ∧
      t.geode.active.getLsbD 11 = false ∧ t.f GEO_MON_ACTIVE = t.geode.active.toNat ∧
      (s.inReset = false → t.f CAL_DIETEMP_T = ofSigned 16 (max (-32768) (min 32767 temp))) ∧
      (mesh.toNat % 16 = mesh.toNat / 16 → switches = 0 → hot = false → t.geode.log = s.geode.log ∧
        s.regsBut t (shown ++ [CAL_DIETEMP, FLT_SRC 96, FLT_LIVE_SUM 3])) ∧
      (mesh.toNat % 16 = mesh.toNat / 16 → switches = 1#4 <<< i.val → hot = false → s.geode.active.getLsbD (2 + i) = false → usedAt (2 + i) = false →
        (s.fuses.regulated = true ∨ s.policyOf 0 = 0) → logged t (2 + i) ∧
        (s.fuses.regulated = true → s.asleep = false → t.b (FLT_SRC_LIVE 96) = true ∧ t.b (FLT_SRC_LATCHED 96) = true ∧
            t.b DBG_STAT_UNLOCKED = false))) ∧
    (s.asleep = false →
      (s.ledger.tested = true → ∃ t, exec (.selfTest ok) s = .next t ∧ s.regsBut t [] ∧ t.ledger = s.ledger) ∧
      (s.ledger.tested = false → s.ledger.openWaits = false → (∃ t, exec (.selfTest true) s = .next t ∧ s.regsBut t [] ∧
        t.ledger = { s.ledger with tested := true }) ∧ failed (.selfTest false)) ∧ failed .entropyTestFail)

/-! The print ledger -/

/-- R661 to R663, R668, R670 to R676: OPEN opens the ledger with the records due, or is refused; CLOSE queues its record, or is refused; acceptance
chains the oldest record, a checkpoint or packed nozzle entries before it, decides an item, and settles a key or tamper entry that was due; a
checkpoint's signature is a record; a record goes to the host ring where there is room; LG_RING_HI of a closed ledger loads the pair and returns both
indices to 0. -/
def Obligations.LedgerCommands : Prop :=
  ∀ (req : Req) (v : Word) (r : Rec) (rest : List Rec) (id c : Nat) (it : Item) (cp : List Byte) (cps : List (Nat × List Byte))
    (bytes h : List Byte) (bufs : List (List Byte × List Byte)) (s : State),
    let l := s.ledger
    let next := s.geode.next
    let quiet (i : Instr) : Prop := ∃ t, exec i s = .next t ∧ s.regsBut t [] ∧ t.ledger = s.ledger ∧ t.geode = s.geode
    let ring := s.f LG_CFG_RING_LOG2
    let may := 4 ≤ ring ∧ ring ≤ 16 ∧ s.b SEC_STAT_SELFTEST_FAIL = false ∧
      (s.fuses.regulated = true → s.b GEO_STAT_DEVKEY_VALID = true ∧ s.geode.regLock = false) ∧
      (s.geode.lost = true → ∀ d < 4, LG_SERIAL_FLOOR_HI d ∈ s.w1Locked)
    let busy := s.fuses.regulated = true ∨ (∃ k < 8, s.b (JQ_CTRL_ENABLE k) = true) ∨ ∃ i ∈ s.items, i.stage ≠ .queued
    let room := l.isOpen = true ∧ l.closing = false ∧ l.markFail = false ∧ l.buffer.length < 512
    let mark := next / 0x100000000
    let blows := next % 0x100000000 = 0 ∧ s.fuses.hwm < mark
    let takes := l.isOpen = true ∧ l.closing = false ∧ ∀ y ∈ l.own, y.kind ≠ 12
    let joins (t : State) (bs : List Byte) (kind : Nat) : Prop := t.mem = s.mem ∧ t.ledger.h = sha384 (l.h ++ bs) ∧
      t.ledger.buffer = l.buffer ++ [(bs, sha384 (l.h ++ bs))] ∧ t.geode.next = next + 1 ∧
      t.fuses = { s.fuses with hwm := if blows then mark else s.fuses.hwm } ∧ (l.buffer.length < 511 →
          s.regsBut t ((if blows then [SEC_FUSE 3] else []) ++ if kind = 7 then [GEO_LOG] else [])) ∧ (blows → t.rn (SEC_FUSE 3) = mark) ∧
      (l.buffer.length = 511 → s.b LG_STAT_STALL = false → t.b LG_STAT_STALL = true ∧ t.b (FLT_SRC_LIVE 101) = true)
    let cpBytes := recBytes 9 0x10 0 next s.tb l.h (l.h ++ s.signer ++ zeros 40)
    let sig := if s.b GEO_STAT_DEVKEY_VALID = true ∧ slice cp 0x50 8 = s.signer then
      slice (Config.sign384 s.free (s.regBytes (LG_DEVPUB 0) 97) (sha384 cp)) 0 96 else zeros 96
    let sigRec : Rec := { kind := 10, aux := c % 0x100000000, source := 0x10, body := sig, item := none }
    let full := (s.rn LG_TAIL + 0x100000000 - s.rn LG_HEAD) % 0x100000000 = 2 ^ ring
    (s.granted req LG_CTRL → s.rd LG_CTRL &&& 3#32 = 0 →
      (l.tested = false → ∃ t, exec (.ledgerOpen req) s = .next t ∧ s.regsBut t [] ∧ t.ledger = { l with openWaits := true } ∧ t.geode = s.geode) ∧
      (l.isOpen = true → l.tested = true → may → quiet (.ledgerOpen req)) ∧
      (l.isOpen = false → l.tested = true → may → ∃ t, exec (.ledgerOpen req) s = .next t ∧
        s.regsBut t [LG_STAT, SEC_LD_STAT] ∧ t.b LG_STAT_IS_OPEN = true ∧
        t.ledger.isOpen = true ∧ t.ledger.opened = true ∧ t.ledger.buffer = l.buffer ∧ t.ledger.keyDue = l.keyDue ∧ t.sec.measured = [] ∧
        t.ledger.h = (if l.opened = true then l.h else if s.geode.lost = true then zeros 48 else s.geode.hSent) ∧
        t.ledger.own.map (·.kind) = (if l.opened = true then [] else [1]) ++ l.keyDue.map (fun _ => 3) ++
          s.sec.measured.map (fun _ => 2) ++ (s.geode.log.filter fun e => !e.appended).map (fun _ => 7) ++ l.own.map (·.kind) ∧
        t.geode.log = s.geode.log) ∧
      (l.tested = true → ¬ may → ∃ t, exec (.ledgerOpen req) s = .next t ∧ s.regsBut t [LG_STAT] ∧ t.b LG_STAT_OPEN_REFUSED = true ∧
        t.ledger = l ∧ t.geode = s.geode) ∧
      (busy → ∃ t, exec (.ledgerClose req) s = .next t ∧ s.regsBut t [LG_STAT] ∧ t.b LG_STAT_CLOSE_REFUSED = true ∧ t.ledger = l) ∧
      (¬ busy → ¬ takes → quiet (.ledgerClose req)) ∧
      (¬ busy → takes → ∃ t, exec (.ledgerClose req) s = .next t ∧ s.regsBut t [] ∧
        t.ledger = { l with own := l.own ++ [{ kind := 12, aux := 0, source := 0x10, body := [], item := none }] })) ∧
    (s.granted req LG_RING_HI →
      (l.isOpen = true → ∃ t, exec (.lgRingHiWrite req v) s = .next t ∧ s.regsBut t [] ∧ t.stagedAt LG_RING_LO = 0) ∧
      (l.isOpen = false → ∃ t, exec (.lgRingHiWrite req v) s = .next t ∧ s.regsBut t [LG_RING_LO, LG_RING_HI, LG_TAIL, LG_HEAD] ∧
        t.rd LG_RING_LO = s.stagedAt LG_RING_LO ∧ t.rd LG_RING_HI = v ∧ t.rn LG_TAIL = 0 ∧ t.rn LG_HEAD = 0 ∧ t.stagedAt LG_RING_LO = 0)) ∧
    (s.asleep = false →
      (¬ room ∨ (l.own = [] ∧ next % 1024 ≠ 1023) → quiet .ledgerAccept) ∧
      (room → next % 1024 = 1023 → ∃ t, exec .ledgerAccept s = .next t ∧ joins t cpBytes 9 ∧ t.ledger.own = l.own ∧
        t.ledger.signing = l.signing ++ [(next, cpBytes)]) ∧
      (room → l.own = r :: rest → blows → 255 < mark → ∃ t, exec .ledgerAccept s = .next t ∧ t.mem = s.mem ∧ t.ledger = { l with markFail := true } ∧
        t.geode = s.geode ∧ t.b LG_STAT_STALL = true ∧ t.b (FLT_SRC_LIVE 101) = true) ∧
      (room → l.own = r :: rest → ¬ (blows ∧ 255 < mark) →
        (next % 1024 ≠ 1023 → r.kind = 4 → l.nozzle ≠ [] → ∃ t, exec .ledgerAccept s = .next t ∧
          joins t (recBytes 5 0x10 (min 6 l.nozzle.length) next s.tb l.h (l.nozzle.take 6).flatten) 5 ∧ t.ledger.own = l.own ∧
          t.ledger.nozzle = l.nozzle.drop 6) ∧
        (next % 1024 ≠ 1023 → r.kind ≠ 4 ∨ l.nozzle = [] → r.item = none → ∃ t, exec .ledgerAccept s = .next t ∧
          joins t (recBytes r.kind r.source r.aux next s.tb l.h (if r.kind = 7 then r.body.set 2
              (BitVec.ofNat 8 s.geode.overflow) else r.body)) r.kind ∧
          t.ledger.own = rest ∧ t.ledger.closing = decide (r.kind = 12) ∧
          t.ledger.keyDue = (if r.kind = 3 then l.keyDue.erase (r.aux, r.body) else l.keyDue) ∧
          (r.kind ≠ 7 → t.geode = { s.geode with next := next + 1 }) ∧
          (r.kind = 7 → t.geode.overflow = 0 ∧ t.f GEO_LOG_OVF = 0 ∧ ∀ e es, s.geode.log = e :: es → e.appended = false → r = e.record →
            t.geode.log = { e with appended := true } :: es)) ∧
        (next % 1024 ≠ 1023 → r.kind ≠ 4 ∨ l.nozzle = [] → r.item = some id → s.item? id = some it → ∃ t, exec .ledgerAccept s = .next t ∧
          joins t (recBytes r.kind r.source r.aux next s.tb l.h it.body) r.kind ∧ t.ledger.own = rest ∧
          (it.windowed = true ∨ it.reject = 0xFF ∨ it.replay = true → t.item? id = none) ∧
          (it.windowed = false → it.reject ≠ 0xFF → it.replay = false → (t.item? id).map (fun i => (i.stage, i.recorded)) = some (.decided, true)))) ∧
      (l.signing = [] → quiet .cpSig) ∧
      (l.signing = (c, cp) :: cps →
        (¬ room → ∃ t, exec .cpSig s = .next t ∧ s.regsBut t [] ∧ t.ledger = { l with signing := cps, own := sigRec :: l.own }) ∧
        (room → ¬ blows → next % 1024 ≠ 1023 → ∃ t, exec .cpSig s = .next t ∧ joins t (recBytes 10 0x10 sigRec.aux next s.tb l.h sig) 10 ∧
          t.ledger.own = l.own ∧ t.ledger.signing = cps ∧ ∀ e < 16, (t.eng e).pendingEv.getLsbD 4 = true)) ∧
      (l.buffer = [] ∨ full ∨ s.canSend = false → quiet .ledgerSend) ∧
      (l.buffer = (bytes, h) :: bufs → ¬ full → s.canSend = true → ∃ t, exec .ledgerSend s = .next t ∧
        s.regsBut t [LG_TAIL, LG_STAT, MSIX_PBA 0, MSIX_PBA 1, FLT_SRC 101, FLT_LIVE_SUM 3] ∧ t.rn LG_TAIL = (s.rn LG_TAIL + 1) % 0x100000000 ∧
        t.ledger.buffer = bufs ∧ t.geode.sent = leAt bytes 8 8 ∧ t.geode.hSent = h ∧ t.ledger.h = l.h ∧
        (s.pcie.msixEnable = false → t.out = (s.hostWrite (s.rd64 LG_RING_LO + s.rn LG_TAIL % 2 ^ ring * 128) bytes).out) ∧
        (leAt bytes 0 2 = 12 → t.ledger.isOpen = false ∧ t.b LG_STAT_IS_OPEN = false) ∧
        (leAt bytes 0 2 ≠ 12 → t.ledger.isOpen = l.isOpen) ∧
        (l.markFail = false → bufs.length < 512 → t.b LG_STAT_STALL = false ∧ (s.b LG_STAT_STALL = true → t.b (FLT_SRC_LIVE 101) = false))))

/-! Ink supplies -/

/-- R678 to R684: authentication runs HELLO, SELECT, CERT and CHALLENGE, and ends AUTHENTICATED with a SUPPLY record or with AUTH_FAIL and source 102;
a due decrement is sent and takes its amount from ACC, or fails with DECR_FAIL and source 103, the third in a row ending AUTHENTICATED; BUSY is read
again each 1 ms for 50 ms; a NACK, CRC error or timeout fails the transaction, the third in a row disconnecting the channel, which authenticates
anew. -/
def Obligations.SupplyTransactions : Prop :=
  ∀ (k : Fin 16) (st : BitVec 8) (p junk : List Byte) (b : Nat) (s : State),
    let x := s.supply k
    let addr := s.f (SUP_CFG_ADDR k)
    let bus := s.f (SUP_CFG_BUS k)
    let en := s.b (SUP_CFG_EN k) = true
    let frame (cmd : Byte) (payload : List Byte) : List Out :=
      let body := [cmd] ++ leBytes 2 payload.length ++ payload
      [.i2cRead bus addr, .i2c bus addr (body ++ leBytes 4 (crc32 body))]
    let quiet (c : Instr) : Prop := ∃ t, exec c s = .next t ∧ s.regsBut t [] ∧ t.supplies = s.supplies ∧ t.out = s.out ∧ t.ledger = s.ledger
    let record (t : State) (kind : Nat) : Prop := (t.ledger.own.getLast?.map fun r => (r.kind, r.aux)) = some (8, k.val + 256 * kind)
    let starts (c : Instr) : Prop := ∃ t, exec c s = .next t ∧ s.regsBut t [] ∧ t.out = frame 1 [] ++ s.out ∧ t.ledger = s.ledger ∧
      t.supply k = { x with phase := .hello, busySince := none, authAt := s.tb, needSync := false, reauth := false }
    let authFails (t : State) (fails : Nat) : Prop := t.mem = s.mem ∧ t.f (SUP_STAT_STATE k) = 2 ∧ t.b (SUP_STAT_AUTH_FAIL k) = true ∧
      t.b (FLT_SRC_LATCHED 102) = true ∧ t.rn (FLT_INFO 102) = k ∧ (t.supply k).phase = .idle ∧ (t.supply k).fails = fails ∧ record t 2
    let decrFails (t : State) (fails : Nat) (sync : Bool) : Prop := t.mem = s.mem ∧ t.b (SUP_STAT_DECR_FAIL k) = true ∧
      t.b (FLT_SRC_LATCHED 103) = true ∧ t.rn (FLT_INFO 103) = k ∧ (t.supply k).fails = fails ∧ t.ledger = s.ledger ∧
      (x.reauth = false → (t.supply k).phase = .idle ∧ (t.supply k).needSync = (x.needSync || sync)) ∧
      (x.reauth = true → en → (t.supply k).phase = .hello) ∧
      (x.decrFails < 2 → (t.supply k).decrFails = x.decrFails + 1 ∧ t.f (SUP_STAT_STATE k) = s.f (SUP_STAT_STATE k)) ∧
      (2 ≤ x.decrFails → (t.supply k).decrFails = 0 ∧ t.f (SUP_STAT_STATE k) = 2)
    let authing := x.phase = .hello ∨ x.phase = .select ∨ x.phase = .cert ∨ x.phase = .challenge
    let lost (c : Instr) : Prop :=
      (x.fails < 2 → authing → ∃ t, exec c s = .next t ∧ authFails t (x.fails + 1)) ∧
      (x.fails < 2 → x.phase = .decrement → ∃ t, exec c s = .next t ∧ decrFails t (x.fails + 1) false) ∧
      (x.fails < 2 → x.phase = .resync → ∃ t, exec c s = .next t ∧ decrFails t (x.fails + 1) true) ∧
      (2 ≤ x.fails → x.phase ≠ .idle → ∃ t, exec c s = .next t ∧ t.mem = s.mem ∧ t.f (SUP_STAT_STATE k) = 3 ∧
        t.b (SUP_STAT_DISCONNECT k) = true ∧ (t.supply k).fails = 0 ∧ record t 4 ∧
        (en → (t.supply k).phase = .hello ∧ t.out.take 2 = frame 1 []))
    let id := s.regBytes (SUP_ID k 0) 16
    let nonce := freeBytes s.free 32
    let resp : List Byte := ([st] ++ leBytes 2 p.length ++ p) ++ leBytes 4 (crc32 ([st] ++ leBytes 2 p.length ++ p))
    let go := Instr.supplyResponse k resp
    let signed := p.length = 76 ∧
      Config.verify256 x.pubkey (sha256 ([0x4B, 0x53, 0x55, 0x50] ++ x.nonce ++ id ++ p.take 8 ++ slice p 8 4)) (slice p 12 64) = true
    let certified := p.length = 129 ∧ sha256 (s.regBytes (SUP_ROOT 0) 65) = s.supplyRoot ∧
      Config.verify256 (s.regBytes (SUP_ROOT 0) 65) (sha256 (p.take 65 ++ id ++ [x.ink])) (slice p 65 64) = true
    let loaded (t : State) : Prop := t.rd64 (SUP_USED_LO k) = leAt p 0 8 ∧ t.rn (SUP_SEQ k) = leAt p 8 4
    let regs := [SUP_STAT k, SUP_USED_LO k, SUP_USED_HI k, SUP_SEQ k, SUP_ACC_LO k, SUP_ACC_HI k]
    let acc := s.rd64 (SUP_ACC_LO k)
    let spend (seq : Nat) : List Out := frame 5 (nonce ++ leBytes 8 (acc / 1000000) ++ leBytes 4 seq)
    let due := en ∧ s.f (SUP_STAT_STATE k) = 1 ∧ x.phase = .idle ∧ 1000000 ≤ acc ∧ s.every x.spentAt s.supInterval = true
    s.asleep = false → s.firmware = true →
    (en → x.phase = .idle → starts (.supplyAuth k)) ∧
    (¬ en ∨ x.phase ≠ .idle → quiet (.supplyAuth k)) ∧
    (s.tb < x.authAt + 800000000 * max 1 (s.f (SUP_CFG_REAUTH k)) ∨ ¬ en ∨ x.phase ≠ .idle → quiet (.supplyReauth k)) ∧
    (x.authAt + 800000000 * max 1 (s.f (SUP_CFG_REAUTH k)) ≤ s.tb → en → x.phase = .idle →
      (¬ due → starts (.supplyReauth k)) ∧
      (due → ∃ t u, exec (.supplyDecrement k) s = .next u ∧ exec (.supplyReauth k) s = .next t ∧
          t = u.modSupply k fun y => { y with reauth := true })) ∧
    (x.phase = .idle → quiet (.supplyTimeout k) ∧ quiet (.supplyResponse k junk)) ∧
    lost (.supplyTimeout k) ∧
    (junk.length < 7 ∨ leAt junk 1 2 + 7 ≠ junk.length ∨ leAt junk (junk.length - 4) 4 ≠ crc32 (junk.take (junk.length - 4)) →
      lost (.supplyResponse k junk)) ∧
    (x.busySince = none → quiet (.supplyBusyRetry k)) ∧
    (x.busySince = some b → b + 40000000 < s.tb → lost (.supplyBusyRetry k)) ∧
    (x.busySince = some b → s.tb ≤ b + 40000000 → s.tb < x.busyAt + 800000 → quiet (.supplyBusyRetry k)) ∧
    (x.busySince = some b → s.tb ≤ b + 40000000 → x.busyAt + 800000 ≤ s.tb → ∃ t, exec (.supplyBusyRetry k) s = .next t ∧ s.regsBut t [] ∧
      t.supply k = { x with busyAt := s.tb } ∧ t.out = .i2cRead bus addr :: s.out) ∧
    (¬ due → quiet (.supplyDecrement k)) ∧
    (due → ∃ t, exec (.supplyDecrement k) s = .next t ∧ s.regsBut t [] ∧ t.ledger = s.ledger ∧ t.free = s.free + 1 ∧
      (x.needSync = true → t.supply k = { x with phase := .resync, busySince := none, nonce := nonce, spentAt := some s.tb } ∧
          t.out = frame 4 nonce ++ s.out) ∧
      (x.needSync = false → t.supply k =
          { x with phase := .decrement, busySince := none, nonce := nonce, amount := acc / 1000000, needSync := false, spentAt := some s.tb } ∧
        t.out = spend (s.rn (SUP_SEQ k)) ++ s.out)) ∧
    (p.length < 65536 →
      (st = 1 → x.phase ≠ .idle → ∃ t, exec go s = .next t ∧ s.regsBut t [] ∧ t.out = s.out ∧
        t.supply k = { x with busySince := some (x.busySince.getD s.tb), busyAt := s.tb }) ∧
      (st ≠ 0 → st ≠ 1 → authing → ∃ t, exec go s = .next t ∧ authFails t 0) ∧
      (st ≠ 0 → st ≠ 1 → x.phase = .decrement → ∃ t, exec go s = .next t ∧ decrFails t 0 (decide (st = 4))) ∧
      (st ≠ 0 → st ≠ 1 → x.phase = .resync → ∃ t, exec go s = .next t ∧ decrFails t 0 true) ∧
      (st = 0 → x.phase = .hello →
        (p.length = 19 → bitAt (leAt p 0 1) 0 = true → bitAt (leAt p 1 1) 0 = true → ∃ t, exec go s = .next t ∧
          s.regsBut t [SUP_ID k 0, SUP_ID k 1, SUP_ID k 2, SUP_ID k 3] ∧ t.regBytes (SUP_ID k 0) 16 = slice p 2 16 ∧ t.ledger = s.ledger ∧
          t.supply k = { x with phase := .select, busySince := none, fails := 0, ink := p.getD 18 0 } ∧ t.out = frame 2 [1, 1] ++ s.out) ∧
        (p.length ≠ 19 ∨ bitAt (leAt p 0 1) 0 = false ∨ bitAt (leAt p 1 1) 0 = false → ∃ t, exec go s = .next t ∧ authFails t 0)) ∧
      (st = 0 → x.phase = .select → ∃ t, exec go s = .next t ∧ s.regsBut t [] ∧
        t.supply k = { x with phase := .cert, busySince := none, fails := 0 } ∧
        t.out = frame 3 [] ++ s.out) ∧
      (st = 0 → x.phase = .cert → ∃ t, exec go s = .next t ∧ t.mem = s.mem ∧ (¬ certified → authFails t 0) ∧
        (certified → s.regsBut t [] ∧ t.out = frame 4 nonce ++ s.out ∧
          t.supply k = { x with phase := .challenge, busySince := none, fails := 0, nonce := nonce, pubkey := p.take 65 })) ∧
      (st = 0 → x.phase = .challenge → ∃ t, exec go s = .next t ∧ t.mem = s.mem ∧ (¬ signed → authFails t 0) ∧
        (signed → s.regsBut t regs ∧ t.f (SUP_STAT_STATE k) = 1 ∧ loaded t ∧ record t 1 ∧ t.rd64 (SUP_ACC_LO k) = acc ∧
          t.supply k = { x with phase := .idle, busySince := none, fails := 0 })) ∧
      (st = 0 → x.phase = .decrement → ∃ t, exec go s = .next t ∧ t.mem = s.mem ∧ (¬ signed → decrFails t 0 false) ∧
        (signed → s.regsBut t regs ∧ loaded t ∧ record t 3 ∧ t.rd64 (SUP_ACC_LO k) = acc - x.amount * 1000000 ∧
          t.f (SUP_STAT_STATE k) = s.f (SUP_STAT_STATE k) ∧
          (x.reauth = false → t.supply k = { x with phase := .idle, busySince := none, fails := 0, decrFails := 0 }) ∧
          (x.reauth = true → en → (t.supply k).phase = .hello))) ∧
      (st = 0 → x.phase = .resync → ∃ t, exec go s = .next t ∧ t.mem = s.mem ∧ (¬ signed → decrFails t 0 true) ∧
        (signed → s.regsBut t regs ∧ loaded t ∧ t.out = spend (leAt p 8 4) ++ s.out ∧
          t.supply k = { x with phase := .decrement, busySince := none, fails := 0, nonce := nonce, amount := acc / 1000000, needSync := false })))

/-! Twin operation -/

/-- R690 to R698, R705: EN enters PAIRING and starts both lanes, or is refused; SWITCH of an idle PRIMARY makes it STANDBY with every lease released;
REJOIN leaves ISOLATED; three identical CAPs select the highest common rate, and echoes of it bring a lane UP, the first one, or one that finds no
session, beginning a session; HELLO is answered by AUTH; a valid AUTH gives the session key and, of a peer that is silent on the quorum, the role,
another one ends the session and its lane is renegotiated; heartbeats go out. That a peer alive on the quorum has its HB waited for, and that with the
session the 1 ms of a heartbeat begins anew, are the model's choices (DEDUCED, logs 77 and 70). -/
def Obligations.TwinCommands : Prop :=
  ∀ (req : Req) (i : Fin 2) (bs κ : List Byte) (r u mask : Nat) (s : State),
    let x := s.basaltLane i
    let up (j : Nat) : Prop := (s.basaltLane j).phase = .up
    let link := up 0 ∨ up 1
    let first : Nat := if up 0 then 0 else 1
    let id := s.f SYS_BOOT_STAT_TWIN_SEL
    let idB := BitVec.ofNat 8 id
    let role := s.f TWIN_STATE_ROLE
    let peer := s.f TWIN_STATE_PEER_ROLE
    let en := s.b TWIN_CFG_EN = true
    let stopped := ∀ d < 4, s.f (DCD_CTRL_STATE d) = 0
    let mine : Nat := if s.f TWIN_CFG_RATE_MAX = 1 then 2 else 6
    let quiet (c : Instr) : Prop := ∃ t, exec c s = .next t ∧ s.regsBut t [] ∧ t.twin = s.twin ∧ t.out = s.out
    let nonce := freeBytes s.free 32
    let hello (j : Nat) : Out := .basalt j 0x40 (nonce ++ [idB] ++ zeros 7)
    let fails (c : Instr) : Prop := ∃ t, exec c s = .next t ∧ t.mem = s.mem ∧ (t.basaltLane i).phase = .failed ∧
      t.b (FLT_SRC_LATCHED 116) = true ∧ t.rn (FLT_INFO 116) = i
    let offered := x.offered ||| leAt bs 1 1
    let common (q : Nat) : Prop := bitAt offered q = true ∧ bitAt mine q = true
    let third := x.lastCap = bs ∧ 2 ≤ x.capSame
    let fit := leAt bs 0 1 ≠ 0 ∧ bitAt (leAt bs 2 1) 1 = true ∧ leAt bs 3 1 ≠ id
    let echo := x.sel = (bs.drop 1).take 2
    let quorate := ∃ v, s.twin.qwAt = some v ∧ s.tb < v + 800000
    let go := Instr.basaltCapRx i bs
    let nonces := if id = 0 then s.twin.nonce ++ s.twin.peerNonce else s.twin.peerNonce ++ s.twin.nonce
    let authText (ns : List Byte) (who : Nat) : List Byte := sha384 ([0x4B, 0x54, 0x44, 0x41] ++ ns ++ [BitVec.ofNat 8 who])
    let auth (n : Nat) (own : List Byte) : Out :=
      let ns := if id = 0 then own ++ bs else bs ++ own
      .basalt i 0x41 ([idB] ++ zeros 7 ++ slice (Config.sign384 n (s.regBytes (LG_DEVPUB 0) 97) (authText ns id)) 0 96)
    let valid := leAt bs 0 1 = 1 - id ∧
      Config.verify384 (s.regBytes (TWIN_PEER_PUB 0) 97) (authText nonces (1 - id)) (slice bs 8 96) = true
    let authForm := bs.length = 104 ∧ leAt bs 1 7 = 0
    let beat := s.every s.twin.sentAt 40000 = true
    let hb : List Byte := [BitVec.ofNat 8 role] ++ (List.range 4).map (fun d => BitVec.ofNat 8 (s.f (DCD_CTRL_STATE d))) ++ zeros 3 ++
      leBytes 8 mask ++ leBytes 8 s.twin.mseq ++ leBytes 8 s.twin.rxMseq
    let seq (j : Nat) := leBytes 8 (s.basaltLane j).txSeq
    let hbFrame (j : Nat) : Out := .basalt j 0x50 (seq j ++ gcmSeal κ ([idB, BitVec.ofNat 8 j, 0, 0] ++ seq j)
      ([0x50, idB, 7, 0, 0, 0, 0] ++ seq j) hb)
    s.firmware = true →
    (s.granted req TWIN_CFG →
      let ok := s.b GEO_STAT_DEVKEY_VALID = true ∧ s.geode.psk.isSome = true ∧ allZero (s.regBytes (TWIN_PEER_PUB 0) 97) = false ∧
        (∀ m < 2, s.f (MEMC_CH_STAT_TRAIN_STATE m) = 2) ∧ stopped
      (en → quiet (.twinEnable req)) ∧
      (¬ en → ok → s.b SYS_PWR_CTRL_PARKED = false → ∃ t, exec (.twinEnable req) s = .next t ∧ t.mem = s.mem ∧ t.b TWIN_CFG_EN = true ∧
          t.f TWIN_STATE_ROLE = 1 ∧
        t.twin.key = none ∧ t.twin.hbAt = s.tb ∧ (∀ j < 2, t.basaltLane j = { phase := .caps, startedAt := s.tb }) ∧
        t.b (FLT_SRC_LIVE 112) = true ∧ t.b (FLT_SRC_LATCHED 112) = true) ∧
      (¬ en → ¬ ok → ∃ t, exec (.twinEnable req) s = .next t ∧ s.regsBut t [TWIN_STAT] ∧ t.b TWIN_STAT_CFG_ERROR = true ∧ t.twin = s.twin)) ∧
    (s.granted req TWIN_CTRL → s.rd TWIN_CTRL &&& 3#32 = 0 →
      let may := role = 2 ∧ peer = 3 ∧ s.twin.key.isSome = true ∧ s.b TWIN_STATE_HB_LOST = false ∧ s.tb < s.twin.hbAt + 800000 ∧ stopped ∧
        s.twin.peerStates ≠ [] ∧ ∀ y ∈ s.twin.peerStates, y = 0
      (may → ∃ t, exec (.twinSwitch req) s = .next t ∧ s.regsBut t (TWIN_STATE :: (List.range 64).map HL_LEASE) ∧ t.f TWIN_STATE_ROLE = 3 ∧
        (∀ l < 64, t.f (HL_LEASE_STATE l) = if s.f (HL_LEASE_STATE l) = 2 then 3 else s.f (HL_LEASE_STATE l)) ∧
        ∀ j < 2, up j → ∃ p, .basalt j 0x53 p ∈ t.out) ∧
      (¬ may → quiet (.twinSwitch req)) ∧
      (role = 5 → link → ∃ t, exec (.twinRejoin req) s = .next t ∧ s.regsBut t [TWIN_STATE, FLT_SRC 115, FLT_LIVE_SUM 3] ∧
        t.f TWIN_STATE_ROLE = 1 ∧ t.b (FLT_SRC_LIVE 115) = false ∧ t.twin.nonce = nonce ∧ t.twin.peerNonce = [] ∧ t.twin.key = none ∧
        t.out.head? = some (hello first)) ∧
      (role ≠ 5 ∨ ¬ link → quiet (.twinRejoin req))) ∧
    (s.asleep = false →
      (¬ en ∨ bs.length ≠ 4 ∨ x.phase = .off ∨ x.phase = .switching ∨ x.phase = .up ∨ x.phase = .failed → quiet go) ∧
      (en → bs.length = 4 →
        (x.phase = .caps → ¬ third → ∃ t, exec go s = .next t ∧ s.regsBut t [] ∧ t.out = s.out ∧
          t.basaltLane i = { x with lastCap := bs, capSame := if x.lastCap = bs then x.capSame + 1 else 1, offered := offered }) ∧
        (x.phase = .caps → third → ¬ fit ∨ (∀ q < 3, ¬ common q) → fails go) ∧
        (x.phase = .caps → third → fit → r < 3 → common r → (∀ q, r < q → q < 3 → ¬ common q) → ∃ t, exec go s = .next t ∧ s.regsBut t [] ∧
          t.out = s.out ∧ let sel : List Byte := [BitVec.ofNat 8 (2 ^ r), 2]
          t.basaltLane i = { x with phase := .selecting, rate := r, sel := sel, lastCap := bs, offered := offered
                                    capSame := if (bs.drop 1).take 2 = sel then 2 else 0 }) ∧
        (x.phase = .selecting ∨ x.phase = .echoing → ¬ echo → quiet go) ∧
        (x.phase = .selecting ∨ x.phase = .echoing → echo → x.capSame ||| 2 ≠ 3 → ∃ t, exec go s = .next t ∧ s.regsBut t [] ∧ t.out = s.out ∧
          t.basaltLane i = { x with capSame := x.capSame ||| 2 }) ∧
        (x.phase = .selecting → echo → x.capSame ||| 2 = 3 → ∃ t, exec go s = .next t ∧ s.regsBut t [] ∧ t.out = s.out ∧
          t.basaltLane i = { x with capSame := 3, phase := .switching, switchAt := s.tb }) ∧
        (x.phase = .echoing → echo → x.capSame ||| 2 = 3 → ∃ t, exec go s = .next t ∧ s.regsBut t [TWIN_STATE, FLT_SRC 112, FLT_LIVE_SUM 3] ∧
          (t.basaltLane i).phase = .up ∧ bitAt (t.f TWIN_STATE_LANES_UP) i = true ∧ (up (1 - i) → t.b (FLT_SRC_LIVE 112) = false) ∧
          let begins := ¬ link ∨ (s.twin.key = none ∧ s.twin.nonce = [])
          (¬ begins → t.twin.nonce = s.twin.nonce ∧ t.out = s.out) ∧
          (begins → t.twin.nonce = nonce ∧ t.twin.peerNonce = [] ∧ t.twin.key = none ∧ t.out = hello i :: s.out))) ∧
      (¬ en ∨ x.phase ≠ .up ∨ bs.length ≠ 32 → quiet (.helloRx bs i)) ∧
      (en → x.phase = .up → bs.length = 32 →
        (s.twin.key = none → s.twin.nonce ≠ [] → ∃ t, exec (.helloRx bs i) s = .next t ∧ s.regsBut t [] ∧ t.twin = { s.twin with peerNonce := bs } ∧
          t.out = auth s.free s.twin.nonce :: s.out) ∧
        (s.twin.key ≠ none ∨ s.twin.nonce = [] → ∃ t, exec (.helloRx bs i) s = .next t ∧ s.regsBut t [] ∧
          t.twin = { s.twin with nonce := nonce, peerNonce := bs, key := none } ∧ t.out = auth (s.free + 1) nonce :: hello i :: s.out)) ∧
      (¬ en ∨ x.phase ≠ .up ∨ s.twin.nonce = [] ∨ s.twin.peerNonce = [] ∨ ¬ authForm → quiet (.authRx bs i)) ∧
      (en → x.phase = .up → s.twin.nonce ≠ [] → s.twin.peerNonce ≠ [] → authForm → ∃ t, exec (.authRx bs i) s = .next t ∧ t.mem = s.mem ∧
        (valid → s.regsBut t [TWIN_STATE, FLT_SRC 113, FLT_LIVE_SUM 3] ∧ t.b TWIN_STATE_HB_LOST = false ∧ t.twin.peerStates = [] ∧
          t.twin.key = some ((sha384 ([0x4B, 0x54, 0x44, 0x42] ++ s.geode.psk.getD (zeros 32) ++ nonces)).take 32) ∧ t.twin.hbAt = s.tb ∧
          t.twin.mseq = 0 ∧ t.twin.unacked = [] ∧ (∀ j, (t.basaltLane j).txSeq = 1 ∧ (t.basaltLane j).rxSeq = 0) ∧
          (role ≠ 1 → t.f TWIN_STATE_ROLE = role) ∧
          (role = 1 → quorate → t.f TWIN_STATE_ROLE = 1) ∧
          (role = 1 → ¬ quorate → t.b TWIN_STATE_WAIT_IDLE = false ∧ t.f TWIN_STATE_ROLE =
            if (s.b TWIN_CFG_PREFER = true ∧ Config.peerPrefer = false) ∨ id = 0 then 2 else 3)) ∧
        (¬ valid → t.twin.key = none ∧ t.twin.nonce = [] ∧ t.twin.peerNonce = [] ∧ (t.basaltLane i).renegAt = some (s.tb + 8000000) ∧
          t.b TWIN_STAT_AUTH_FAIL = true ∧ t.b (FLT_SRC_LATCHED 117) = true ∧ t.f TWIN_STATE_ROLE = role)) ∧
      (x.renegAt = none → quiet (.basaltReneg i)) ∧
      (x.renegAt = some u → s.tb < u → quiet (.basaltReneg i)) ∧
      (x.renegAt = some u → u ≤ s.tb → s.b SYS_PWR_CTRL_PARKED = false → ∃ t, exec (.basaltReneg i) s = .next t ∧ t.mem = s.mem ∧
        t.basaltLane i = { x with phase := .caps, startedAt := s.tb, lastCap := [], capSame := 0, sel := [], offered := 0, renegAt := none } ∧
            t.b (FLT_SRC_LIVE 112) = true) ∧
      (role < 2 ∨ 4 < role ∨ ¬ beat → quiet .heartbeatTx) ∧
      (2 ≤ role → role ≤ 4 → beat → mask < 2 ^ 64 → (∀ l < 64, bitAt mask l = true ↔ s.f (HL_LEASE_STATE l) = 2) →
        (s.twin.key = none → ∃ t, exec .heartbeatTx s = .next t ∧ s.regsBut t [] ∧
          t.twin = { s.twin with qwOut := (!s.twin.qwOut.1, s.twin.qwOut.2), sentAt := some s.tb } ∧ t.out = .quorum 0 :: s.out) ∧
        (s.twin.key = some κ → up 0 → up 1 → ∃ t, exec .heartbeatTx s = .next t ∧ s.regsBut t [] ∧ t.twin.qwOut = (!s.twin.qwOut.1, s.twin.qwOut.2) ∧
          t.twin.sentAt = some s.tb ∧ (∀ j < 2, t.basaltLane j = { s.basaltLane j with txSeq := (s.basaltLane j).txSeq + 1 }) ∧
          t.out = [.quorum 0, hbFrame 1, hbFrame 0] ++ s.out)))

/-- R693, R697 to R712, Tables 19.3 and 19.4: a frame whose tag fails or whose SEQ is not new is discarded with source 117; a heartbeat, a mirror
entry, a countersignature, once for a CP_HASH, and a ROLE frame have their effect; when heartbeats are lost, a STANDBY whose peer is silent on the
quorum, or falls silent within 100 us, takes over, else it becomes ISOLATED; a takeover becomes PRIMARY with every lease, or yields; late
acknowledgements and quorum disagreement raise sources 118 and 119. The quorum inputs come with the command. A heartbeat, a grant or an ITEM record
that waits in the queue is of the same cycle (the model's choice, DEDUCED, log 16), and the first HB of a session is waited for while the peer is
alive on the quorum (DEDUCED, log 77). -/
def Obligations.TwinEvents : Prop :=
  ∀ (i : Fin 2) (bs κ p r : List Byte) (m nz v u : Nat) (w : Quorum) (s : State),
    let x := s.basaltLane i
    let role := s.f TWIN_STATE_ROLE
    let id := s.f SYS_BOOT_STAT_TWIN_SEL
    let peerB := BitVec.ofNat 8 (1 - id)
    let en := s.b TWIN_CFG_EN = true
    let seq := leAt bs 0 8
    let opened (kind : Byte) : Option (List Byte) :=
      gcmOpen κ ([peerB, BitVec.ofNat 8 i, 0, 0] ++ bs.take 8) ([kind, peerB] ++ leBytes 2 ((bs.length + 7) / 8) ++ zeros 3 ++ bs.take 8) (bs.drop 8)
    let counted : Twin := (s.modBasalt i fun x => { x with rxSeq := seq }).twin
    let quiet (c : Instr) : Prop := ∃ t, exec c s = .next t ∧ s.regsBut t [] ∧ t.twin = s.twin ∧ t.out = s.out ∧ t.ledger = s.ledger
    let enabled (l : Fin 64) : Prop := s.b (HL_CTRL_ENABLE l) = true
    let level := (w.level.map (·.toNat)).getD (s.f TWIN_STATE_QW_IN)
    let change : Option Nat := match w.moved with
      | some k => some (s.tb - k)
      | none => if level % 2 ≠ s.f TWIN_STATE_QW_IN % 2 then some s.tb else s.twin.qwAt
    let silentBy (t : Nat) : Prop := ∀ y, change = some y → y + 800000 ≤ t
    let now : Twin := { s.twin with qwAt := change }
    let sampled (t : State) : Prop := s.regsBut t [TWIN_STATE] ∧ t.f TWIN_STATE_QW_IN = level ∧ t.f TWIN_STATE_ROLE = role ∧
      t.f TWIN_STATE_PEER_ROLE = s.f TWIN_STATE_PEER_ROLE ∧ t.b TWIN_STATE_HB_LOST = s.b TWIN_STATE_HB_LOST
    let only (c : Instr) : Prop := ∃ t, exec c s = .next t ∧ sampled t ∧ t.twin = now ∧ t.out = s.out
    let tookOver (tw : Twin) (switch : Prop) (t : State) : Prop := t.mem = s.mem ∧
      (∀ l, enabled l → s.f (HL_LEASE_STATE l) ≠ 2 → t.f TWIN_STATE_ROLE = 4 ∧ t.twin.enteredAt = s.tb ∧ t.twin.lostAt = none ∧
        (∀ k, enabled k → t.b (HL_CTRL_ACQUIRE k) = true) ∧
        ∀ y ∈ t.items, (∀ e ∈ s.twin.mirrored, ¬ (e.1 = y.dcd ∧ e.2.1 = y.serial)) →
          (∀ e ∈ ({ s with twin := tw } : State).mirrorWaits, ¬ (e.1 = y.dcd ∧ e.2 = y.serial)) →
          y.replay = true ∨ y.stage = .decided ∨ y.late = true ∨ y.kept ≠ none ∨ (switch ∧ y.stage = .queued) ∨
            ∃ c ∈ y.causes, c.code = 18 ∧ c.spoils = true) ∧
      ((∀ l, enabled l → s.f (HL_LEASE_STATE l) = 2) → t.f TWIN_STATE_ROLE = 2 ∧ t.b TWIN_STAT_TAKEOVER_EV = true ∧ t.b (FLT_SRC_LATCHED 114) = true)
    let isolated (t : State) : Prop := t.mem = s.mem ∧ t.f TWIN_STATE_ROLE = 5 ∧ t.b TWIN_STAT_ISOLATE_EV = true ∧ t.b (FLT_SRC_LIVE 115) = true ∧
      t.b (FLT_SRC_LATCHED 115) = true ∧ ∀ l : Fin 64, t.f (HL_LEASE_STATE l) ≠ 2
    let lost := s.b TWIN_STATE_HB_LOST = false ∧ s.twin.hbAt + 800000 ≤ s.tb ∧ ¬ (s.twin.hbAt + 800000 = s.tb ∧ s.beatWaits = true)
    let old (y : Nat × Nat) : Prop := y.2 + 160000 < s.tb
    let peerSays := leAt p 0 1 % 8
    let roleForm := p.length = 8 ∧ leAt p 2 6 = 0
    let mine := (s.b TWIN_CFG_PREFER = true ∧ Config.peerPrefer = false) ∨ id = 0
    let differs := (s.b TWIN_STATE_HB_LOST = true ↔ ¬ silentBy s.tb) ∨ bitAt level 1 ≠ decide (s.f TWIN_STATE_PEER_ROLE = 2)
    let peerBusy := ∃ y ∈ (p.drop 1).take 4, y ≠ 0
    let lgm := s.rd64 TWIN_LGM_LO + s.rn TWIN_LGM_WR % 2 ^ s.f TWIN_LGM_CFG_LOG2 * 128
    let waited := s.twin.enteredAt + 80000 * max 15 (s.f TWIN_TIMING_LEASE_WAIT)
    s.asleep = false →
    (¬ en → quiet (.hbRx i bs w) ∧ quiet (.heartbeatLoss w) ∧ quiet (.quorumSilent w) ∧ quiet (.takeoverDecide w) ∧ quiet (.quorumMismatch w)) ∧
    (en → (s.twin.key = none ∨ x.phase ≠ .up → only (.hbRx i bs w)) ∧
      (s.twin.key = some κ → x.phase = .up → opened 0x50 = none ∨ seq ≤ x.rxSeq → ∃ t, exec (.hbRx i bs w) s = .next t ∧ t.mem = s.mem ∧
        t.twin = now ∧ t.b TWIN_STAT_AUTH_FAIL = true ∧ t.b (FLT_SRC_LATCHED 117) = true ∧ t.rn (FLT_INFO 117) = i) ∧
      (s.twin.key = some κ → x.phase = .up → x.rxSeq < seq → opened 0x50 = some p → ∃ t, exec (.hbRx i bs w) s = .next t ∧ t.mem = s.mem ∧
        (p.length ≠ 32 ∨ leAt p 5 3 ≠ 0 → sampled t ∧ t.twin = { counted with qwAt := change }) ∧
        (p.length = 32 → leAt p 5 3 = 0 → s.regsBut t [TWIN_STATE, TWIN_PEER_LEASES_LO, TWIN_PEER_LEASES_HI, FLT_SRC 113, FLT_LIVE_SUM 3] ∧
          t.f TWIN_STATE_PEER_ROLE = peerSays ∧ t.b TWIN_STATE_HB_LOST = false ∧ (s.b TWIN_STATE_HB_LOST = true → t.b (FLT_SRC_LIVE 113) = false) ∧
          t.rd64 TWIN_PEER_LEASES_LO = leAt p 8 8 ∧ t.f TWIN_STATE_QW_IN = level ∧
          { t.twin with qwOut := s.twin.qwOut } =
            { counted with hbAt := s.tb, lostAt := none, qwAt := change, peerStates := ((p.drop 1).take 4).map (·.toNat)
                           unacked := s.twin.unacked.filter fun y => leAt p 24 8 < y.1 } ∧
          (role ≠ 1 → t.f TWIN_STATE_ROLE = role) ∧
          (role = 1 → peerSays = 2 → peerBusy → t.f TWIN_STATE_ROLE = 1 ∧ t.b TWIN_STATE_WAIT_IDLE = true) ∧
          (role = 1 → peerSays ≠ 2 ∨ ¬ peerBusy → t.b TWIN_STATE_WAIT_IDLE = false ∧ t.f TWIN_STATE_ROLE =
            if peerSays ≠ 2 ∧ peerSays ≠ 3 ∧ mine then 2 else 3)))) ∧
    (∀ q ∈ [(Instr.mirrorRx, 0x51#8), (Instr.csignRx, 0x52#8), (Instr.roleRx, 0x53#8)],
      (s.twin.key = none ∨ ¬ en ∨ x.phase ≠ .up → quiet (q.1 i bs)) ∧
      (s.twin.key = some κ → en → x.phase = .up → opened q.2 = none ∨ seq ≤ x.rxSeq → ∃ t, exec (q.1 i bs) s = .next t ∧ t.mem = s.mem ∧
        t.twin = s.twin ∧ t.b TWIN_STAT_AUTH_FAIL = true ∧ t.b (FLT_SRC_LATCHED 117) = true ∧ t.rn (FLT_INFO 117) = i)) ∧
    (s.twin.key = some κ → en → x.phase = .up → x.rxSeq < seq →
      (∃ t, exec (.mirrorRx i bs) s = .next t ∧
        (opened 0x51 = some p → role ≠ 3 → ¬ ((role = 2 ∨ role = 4) ∧ s.twin.enteredAt = s.tb) → s.regsBut t [] ∧ t.twin = counted) ∧
        (m < 2 ^ 64 → nz < 0x40000 → v < 0x100000000 → role = 3 → opened 0x51 = some (leBytes 8 m ++ ([3, 0, 0, 0] ++ leBytes 4 nz ++ leBytes 8 v)) →
          (m ≤ s.twin.rxMseq → s.regsBut t [] ∧ t.twin = counted) ∧
          (s.twin.rxMseq < m → t.twin = { counted with rxMseq := m } ∧ (∀ a, t.rd a = s.rd a) ∧ t.nozzle nz % 0x100000000 = v ∧
            t.nozzle nz / 0x100000000 % 0x80000000 = s.nozzle nz / 0x100000000 % 0x80000000 ∧ onesBelow (t.nozzle nz) 64 % 2 = 0 ∧
            ∀ a, (a < nozzleAddr nz ∨ nozzleAddr nz + 8 ≤ a) → t.byte a = s.byte a)) ∧
        (m < 2 ^ 64 → r.length = 128 → leAt r 0 2 ≠ 9 → leAt r 0 2 ≠ 4 → 4 ≤ s.f TWIN_LGM_CFG_LOG2 → s.f TWIN_LGM_CFG_LOG2 ≤ 20 →
            s.badBeats lgm 128 = [] →
          role = 3 → s.twin.rxMseq < m → opened 0x51 = some (leBytes 8 m ++ ([2, 0, 0, 0, 0, 0, 0, 0] ++ r)) →
          t.twin = { counted with rxMseq := m, mirrorH := s.twin.mirrorH.map fun h => sha384 (h ++ r) } ∧ t.readMem lgm 128 = r ∧
          t.rn TWIN_LGM_WR = (s.rn TWIN_LGM_WR + 1) % 0x100000000 ∧ (∀ a, a ≠ TWIN_LGM_WR → t.rd a = s.rd a) ∧
          ∀ a, (a < lgm ∨ lgm + 128 ≤ a) → t.byte a = s.byte a)) ∧
      (∃ t, exec (.csignRx i bs) s = .next t ∧ t.mem = s.mem ∧ (opened 0x52 = some p → s.regsBut t [] ∧
        let again := ∃ c, s.twin.csign = some c ∧ leAt p 0 8 ≤ c
        (role ≠ 2 ∨ p.length ≠ 104 ∨ again → t.twin = counted ∧ t.ledger = s.ledger) ∧
        (role = 2 → p.length = 104 → ¬ again → t.twin = { counted with csign := some (leAt p 0 8) } ∧
          t.ledger = { s.ledger with own := s.ledger.own ++ [⟨11, leAt p 0 8 % 0x100000000, 0x10, slice p 8 96, none⟩] }))) ∧
      (∃ t, exec (.roleRx i bs) s = .next t ∧ t.mem = s.mem ∧ (opened 0x53 = some p →
        (roleForm → role = 3 → leAt p 1 1 = 1 → tookOver counted True t) ∧
        (¬ roleForm ∨ role ≠ 3 ∨ leAt p 1 1 ≠ 1 → s.regsBut t [] ∧ t.twin = counted)))) ∧
    (en →
      (¬ lost → only (.heartbeatLoss w)) ∧
      (lost → role = 3 → silentBy s.tb → ∃ t, exec (.heartbeatLoss w) s = .next t ∧ t.b TWIN_STATE_HB_LOST = true ∧
        t.b (FLT_SRC_LATCHED 113) = true ∧ tookOver s.twin False t) ∧
      (lost → role ≠ 3 ∨ ¬ silentBy s.tb → ∃ t, exec (.heartbeatLoss w) s = .next t ∧ t.mem = s.mem ∧ t.b TWIN_STATE_HB_LOST = true ∧
        t.b (FLT_SRC_LIVE 113) = true ∧ t.b (FLT_SRC_LATCHED 113) = true ∧ t.twin = { now with lostAt := some s.tb } ∧ t.f TWIN_STATE_ROLE = role) ∧
      (¬ silentBy s.tb → only (.quorumSilent w)) ∧
      (silentBy s.tb →
        (s.twin.lostAt = some u → s.tb ≤ u + 80000 → role = 3 → ∃ t, exec (.quorumSilent w) s = .next t ∧ tookOver s.twin False t) ∧
        (s.twin.lostAt = some u → u + 80000 < s.tb → role ≠ 1 → only (.quorumSilent w)) ∧
        (s.twin.lostAt = none ∨ role ≠ 3 → role ≠ 1 ∨ s.twin.key = none → only (.quorumSilent w)) ∧
        (role = 1 → s.twin.key ≠ none → s.twin.peerStates = [] → ∃ t, exec (.quorumSilent w) s = .next t ∧ s.regsBut t [TWIN_STATE] ∧
          t.b TWIN_STATE_WAIT_IDLE = false ∧ t.f TWIN_STATE_ROLE = if mine then 2 else 3)) ∧
      (s.twin.lostAt = some u → u + 80000 ≤ s.tb → role = 3 →
        (silentBy (u + 80000) → ∃ t, exec (.takeoverDecide w) s = .next t ∧ tookOver s.twin False t) ∧
        (¬ silentBy (u + 80000) → ∃ t, exec (.takeoverDecide w) s = .next t ∧ isolated t)) ∧
      (s.twin.lostAt = none ∨ role ≠ 3 → only (.takeoverDecide w)) ∧
      (s.twin.lostAt = some u → s.tb < u + 80000 → only (.takeoverDecide w)) ∧
      (∃ t, exec (.quorumMismatch w) s = .next t ∧ t.mem = s.mem ∧ t.f TWIN_STATE_QW_IN = level ∧ t.twin = now ∧
        (differs → t.b (FLT_SRC_LATCHED 119) = true) ∧ (¬ differs → sampled t))) ∧
    (role = 4 → waited ≤ s.tb → ¬ (waited = s.tb ∧ s.begin.grantsWait = true) → ∃ t, exec .leaseWaitExpire s = .next t ∧ isolated t ∧
      t.b TWIN_STAT_YIELD = true ∧ t.b (FLT_SRC_LATCHED 120) = true) ∧
    (role ≠ 4 ∨ s.tb < waited ∨ (waited = s.tb ∧ s.begin.grantsWait = true) → quiet .leaseWaitExpire) ∧
    (role = 2 → (∃ y ∈ s.twin.unacked, old y) → ∃ t, exec .mirrorAckTimeout s = .next t ∧ t.mem = s.mem ∧ t.b TWIN_STAT_MIRROR_LAG = true ∧
      t.b (FLT_SRC_LATCHED 118) = true ∧ ∀ y, y ∈ t.twin.unacked ↔ y ∈ s.twin.unacked ∧ ¬ old y) ∧
    (role ≠ 2 ∨ (∀ y ∈ s.twin.unacked, ¬ old y) → quiet .mirrorAckTimeout)

/-! Freeze and debug -/

/-- R713 to R727: debug unlocks freely on an unregulated part and under its token on another, and locks; BENCH; a freeze, while unlocked, stores
TIMEBASE, forces the enables low and holds ERR_N; RESUME ends it only where BENCH stood, with every output disabled and positions unsure; the debug
port reaches the map while not frozen; the window reads and, with BENCH, writes the memories while frozen, both copies of the SPE pair (R746), but for
a locked IMEM page (R110) and the nozzle table (R109). In a freeze no source latches. R725, R728, Table 20.3: the TAP selects an instruction where its
condition holds, else BYPASS, and shifts out, once firmware runs, the identification, the bypass bit, the boundary register or the chain, every
rotation of a freeze alike; EXTEST and CLAMP drive the balls it covers, HIGHZ lets them go; TRST_N low selects IDCODE and returns the DEBUG block to
reset, a freeze going on. That the window's writes to those two are ignored without a latch is the model's choice (DESIGN CHOICE, log 81), as is
that FREEZE_N in reset has no effect (DESIGN CHOICE, log 30). -/
def Obligations.DebugAndJtag : Prop :=
  (∀ (req : Req) (stops : List (BitVec 7)) (write : Bool) (addr : Nat) (v : Word) (s : State),
    let unlocked := s.b DBG_STAT_UNLOCKED = true
    let frozen := s.b DBG_STAT_FROZEN = true
    let bench := s.b DBG_CTRL_BENCH = true
    let regulated := s.fuses.regulated = true
    let token (op : Nat) : Prop := ∃ y ∈ s.sec.tokens, y.1 = op ∧ s.tb < y.2 + 800000000
    let spent (t : State) (op : Nat) : Prop := t.sec.tokens.length + 1 = s.sec.tokens.length ∧
      ∀ y, y.1 ≠ op → (y ∈ t.sec.tokens ↔ y ∈ s.sec.tokens)
    let quiet (c : Instr) : Prop := ∃ t, exec c s = .next t ∧ s.regsBut t [] ∧ t.sec = s.sec ∧ t.out = s.out
    let freezes (c : Instr) (cycles : Nat → Nat) : Prop := ∃ t, exec c s = .next t ∧
      s.regsBut t ([DBG_STAT, DBG_FRZ_TB_LO, DBG_FRZ_TB_HI, FLT_STAT] ++ (List.range 17).map DBG_ISL_STOP) ∧ t.b DBG_STAT_FROZEN = true ∧
      t.rd64 DBG_FRZ_TB_LO = s.tb % 2 ^ 64 ∧ t.b DBG_STAT_BENCH_AT_FREEZE = s.b DBG_CTRL_BENCH ∧ t.errPin = s.power.aonRuns ∧ t.pinsCut = true ∧
      (∀ a < 16, t.enPin a = false) ∧ (∀ r < 4, t.rejPin r = false) ∧ ∀ k < 17, t.f (DBG_ISL_STOP_CYCLES k) = min 64 (cycles k)
    let refused (c : Instr) : Prop := ∃ t, exec c s = .next t ∧ s.regsBut t [DBG_STAT] ∧ t.b DBG_STAT_FREEZE_REFUSED = true ∧
      t.b DBG_STAT_FROZEN = s.b DBG_STAT_FROZEN
    let held := s.rd DBG_CTRL &&& 27#32 = 0
    let o := 4 * s.f DBG_MWIN_ADDR_ADDR
    let window := windowRange o = true ∧ windowAll o 4 = true
    let p := barBase + (if 0x7C0000 ≤ o ∧ o < 0x800000 then o - 0x40000 else o)
    let pair := 0x780000 ≤ o ∧ o < 0x800000
    let nozzles := 0x800000 ≤ o ∧ o < 0xA00000
    let answered (t : State) (w : Nat) : Prop :=
      t.out = (if req = 16 then Out.completion 0 (leBytes 4 w) else .readWord req (BitVec.ofNat 32 w)) :: s.out
    (s.granted req DBG_CTRL → held →
      (¬ regulated → ∃ t, exec (.debugUnlock req) s = .next t ∧ s.regsBut t [DBG_STAT] ∧ t.b DBG_STAT_UNLOCKED = true ∧ t.sec = s.sec) ∧
      (regulated → token 16 → ∃ t, exec (.debugUnlock req) s = .next t ∧ s.regsBut t [DBG_STAT] ∧ t.b DBG_STAT_UNLOCKED = true ∧ spent t 16) ∧
      (regulated → ¬ token 16 → ∃ t, exec (.debugUnlock req) s = .next t ∧ t.mem = s.mem ∧ t.b DBG_STAT_UNLOCK_REFUSED = true ∧
        t.b DBG_STAT_UNLOCKED = s.b DBG_STAT_UNLOCKED ∧ (¬ frozen → t.b (FLT_SRC_LATCHED 104) = true) ∧
        (frozen → s.regsBut t [DBG_STAT]) ∧ t.sec = s.sec) ∧
      (unlocked → ¬ bench → ¬ regulated → ∃ t, exec (.bench req) s = .next t ∧ s.regsBut t [DBG_CTRL] ∧ t.b DBG_CTRL_BENCH = true ∧ t.sec = s.sec) ∧
      (unlocked → ¬ bench → regulated → token 17 → ∃ t, exec (.bench req) s = .next t ∧ s.regsBut t [DBG_CTRL] ∧ t.b DBG_CTRL_BENCH = true ∧
        spent t 17) ∧
      (¬ unlocked ∨ bench ∨ (regulated ∧ ¬ token 17) → quiet (.bench req))) ∧
    (s.reaches req DBG_CTRL → held →
      (∃ t, exec (.debugLock req) s = .next t ∧ s.regsBut t [DBG_STAT, DBG_CTRL] ∧ t.b DBG_STAT_UNLOCKED = false ∧ t.b DBG_CTRL_BENCH = false ∧
        t.b DBG_STAT_FROZEN = s.b DBG_STAT_FROZEN) ∧
      (unlocked → ¬ frozen → freezes (.freeze req) fun k => bits (freeAt s.free k).toNat 6 0) ∧
      (unlocked → frozen → quiet (.freeze req)) ∧
      (¬ unlocked → refused (.freeze req)) ∧
      (frozen → s.b DBG_STAT_BENCH_AT_FREEZE = true → ∃ t, exec (.debugResume req) s = .next t ∧ t.b DBG_STAT_FROZEN = false ∧
        (s.pcie.lostDue = false → s.pcie.backDue = false → t.mem = s.mem) ∧
        (∀ a < 16, t.b (MOT_CTRL_ENABLE a) = false ∧ t.b (PWM_CFG_EN a) = false) ∧ (∀ r < 4, t.b (REJ_CFG_EN r) = false ∧ (t.rej r).high = false) ∧
        (∀ c < 12, s.b (FB_CTRL_EN c) = true → t.b (FB_LIVE_POS_UNSURE c) = true) ∧ t.frozenFaultIn = false ∧
        (s.frozenFaultIn = true → t.b (FLT_SRC_LATCHED 10) = true) ∧
        (s.frozenFaultIn = true → s.b FLT_STAT_FAULT_IN_LOW = true → t.b (FLT_SRC_LIVE 10) = true)) ∧
      (¬ frozen ∨ s.b DBG_STAT_BENCH_AT_FREEZE = false → ∃ t, exec (.debugResume req) s = .next t ∧ s.regsBut t [DBG_STAT] ∧
        t.b DBG_STAT_RESUME_REFUSED = true ∧ t.b DBG_STAT_FROZEN = s.b DBG_STAT_FROZEN)) ∧
    (s.inReset = false → unlocked → ¬ frozen → freezes (.freezePin stops) fun k => (stops.getD k 0).toNat) ∧
    (s.inReset = true ∨ unlocked ∧ frozen → quiet (.freezePin stops)) ∧
    (s.inReset = false → ¬ unlocked → refused (.freezePin stops)) ∧
    (¬ unlocked → ∃ t, exec (.dbgacc write addr v) s = .next t ∧ s.regsBut t [] ∧ t.out = s.out ∧ t.jtagIr = 0xFF) ∧
    (unlocked → ∃ t, exec (.dbgacc true addr v) s = .next t ∧ exec (.registerWrite 17 addr v 15) { s with jtagIr := 0x20 } = .next t) ∧
    (s.reaches 17 SYS_ID → ∃ t, exec (.dbgacc false SYS_ID v) s = .next t ∧ s.regsBut t [] ∧ t.jtagIr = 0x20 ∧
        t.out = .readWord 17 (s.rd SYS_ID) :: s.out) ∧
    (s.reaches 17 DBG_STAT → ∃ t, exec (.dbgacc false DBG_STAT v) s = .next t ∧ s.regsBut t [] ∧ t.out = .readWord 17 (s.rd DBG_STAT) :: s.out) ∧
    (unlocked → frozen → addr / 0x10000 ≠ 0x10 → ∃ t, exec (.dbgacc write addr v) s = .next t ∧ s.regsBut t [] ∧ t.out = s.out) ∧
    (s.reaches req DBG_MWIN_DATA →
      (frozen → window → ∃ t, exec (.mwinDataRead req) s = .next t ∧ s.regsBut t [DBG_MWIN_ADDR] ∧
        t.f DBG_MWIN_ADDR_ADDR = (s.f DBG_MWIN_ADDR_ADDR + 1) % 0x400000 ∧ answered t (s.valueAt p 4)) ∧
      (¬ frozen → ∃ t, exec (.mwinDataRead req) s = .next t ∧ s.regsBut t [] ∧ answered t (s.rn DBG_MWIN_DATA)) ∧
      (frozen → bench → window → ¬ nozzles → s.signedHit o 4 = none → ∃ t, exec (.mwinDataWrite req v) s = .next t ∧ (∀ a, t.rd a = s.rd a) ∧
        t.valueAt p 4 = v.toNat ∧ (pair → t.valueAt (p + 0x40000) 4 = v.toNat) ∧
        ∀ a, a < p ∨ p + 4 ≤ a → (pair → a < p + 0x40000 ∨ p + 0x40004 ≤ a) → t.byte a = s.byte a) ∧
      (¬ frozen ∨ ¬ bench ∨ ¬ window ∨ nozzles ∨ s.signedHit o 4 ≠ none → quiet (.mwinDataWrite req v) ∧
        ∃ t, exec (.mwinDataWrite req v) s = .next t ∧ t.mem = s.mem))) ∧
  (∀ (tdi : List Bool) (pin : Pin) (s : State),
    let unlocked := s.b DBG_STAT_UNLOCKED = true
    let frozen := s.b DBG_STAT_FROZEN = true
    let selects (c : Instr) (ir : Nat) (o : List Out) : Prop := ∃ t, exec c s = .next t ∧ s.regsBut t [] ∧ t.jtagIr = ir ∧
      t.out = (if s.firmware = true then o else []) ++ s.out
    let ok := (frozen ∧ unlocked) ∨ (s.resetPinLow = true ∧ s.fuses.regulated = false)
    let shifted : List Bool := (List.range Config.boundaryLen).map (Config.scanBit s.free 32) ++ tdi
    let shifts (c : Instr) (ir : Nat) : Prop := ∃ t, exec c s = .next t ∧ s.regsBut t [] ∧ t.jtagIr = ir ∧
      t.bsr = (if tdi = [] then s.bsr else shifted.drop tdi.length) ∧
      t.out = (if s.firmware = true ∧ tdi ≠ [] then [.jtag (shifted.take tdi.length)] else []) ++ s.out
    let drives (c : Instr) (level : State → Nat → Level) : Prop := ∃ t, exec c s = .next t ∧
      t.pin pin = match pin.ball with
        | some n => level t n
        | none => t.blockPin pin
    let cell (t : State) (n : Nat) : Level := match Config.boundaryCell t.bsr n with
      | some high => if high = true then .high else .low
      | none => .highZ
    (ok → shifts (.extest tdi) 0x00 ∧ drives (.extest tdi) cell ∧ drives .clamp cell ∧ (drives .highz fun _ _ => .highZ)) ∧
    (ok → selects .clamp 0x03 [.jtag [false]] ∧ selects .highz 0x04 [.jtag [false]]) ∧
    (¬ ok → ∀ c ∈ [Instr.extest tdi, .clamp, .highz], selects c 0xFF [.jtag [false]] ∧ drives c fun t _ => t.blockPin pin) ∧
    shifts (.samplePreload tdi) 0x01 ∧
    selects .idcode 0x02 [.jtag ((List.range 32).map fun k => (0x16448967 : Word).getLsbD k)] ∧
    selects .bypass 0xFF [.jtag [false]] ∧
    (unlocked → frozen → selects .scanout 0x21
      [.jtag ((List.range (Config.scanLen (s.f DBG_SCAN_SEL_ISLAND)).toNat).map fun k =>
        Config.scanBit s.scanKey (s.f DBG_SCAN_SEL_ISLAND) k)]) ∧
    (¬ unlocked ∨ ¬ frozen → selects .scanout 0xFF [.jtag [false]]) ∧
    (∃ t, exec .debugReset s = .next t ∧ s.regsBut t [DBG_CTRL, DBG_STAT, DBG_MWIN_ADDR, DBG_MWIN_DATA, DBG_SCAN_SEL] ∧
      (∀ a ∈ [DBG_CTRL, DBG_MWIN_ADDR, DBG_MWIN_DATA, DBG_SCAN_SEL], t.rd a = 0) ∧ 
      (t.b DBG_STAT_UNLOCKED = true ↔ s.fuses.regulated = false ∧ s.inReset = false) ∧
      t.b DBG_STAT_FROZEN = s.b DBG_STAT_FROZEN ∧ t.jtagIr = 0x02))

/-! Whole machine -/

/-- R156: START while the engine runs is ignored. START and STOP in one write: STOP wins, so that the word with both bits written to ENG_CTRL does
what STOP alone does. It starts nothing, be the engine stopped with an image that START would run (R155) or without, or of the pair (R157); it halts a
running engine 0 to 13 that does not stall with cause 2, and one that waits in a device load or a FENCE.L at the end of that (R158, R222). Out of any
other stall STOP halts it at once, which O20 states and is the model's choice (log 98). -/
def Obligations.StopWinsOverStart : Prop :=
  ∀ (req : Req) (e : Fin 16) (s : State), s.granted req (ENG_CTRL e) → s.rd (ENG_CTRL e) = 0 →
    let x := s.eng e
    let both := Instr.registerWrite req (ENG_CTRL e) 3 15
    let ignored (i : Instr) : Prop := ∃ t, exec i s = .next t ∧ t.mem = s.mem ∧ t.regs = s.regs ∧ t.engines = s.engines
    (x.running = true → ignored (.engStart req e)) ∧
    (∃ t, exec both s = .next t ∧ exec (.engStop req e) s = .next t) ∧
    (x.running = false ∨ 14 ≤ e.val → ignored both) ∧
    (x.running = true → e.val < 14 → ∃ t, exec both s = .next t ∧ t.mem = s.mem ∧ t.regs = s.regs ∧
      (∀ c, c ≠ e.val → t.eng c = s.eng c) ∧
      (x.loading = true ∨ x.lining = true → t.eng e = { x with stopAsked := true }) ∧
      (x.stall = none → (t.eng e).running = false ∧ (t.eng e).halted = true ∧ (t.eng e).haltCause = 2 ∧ (t.eng e).gpr = x.gpr ∧
        (t.eng e).pc = x.pc ∧ (t.eng e).storeBuf = x.storeBuf))

/-- Every command completes: in every state exec answers a next state, never a fault and never a refusal. The spec has the block go on after
every command, an ignored one and a trapped instruction included; what each command does stands in the statements above. -/
def Obligations.EveryCommandCompletes : Prop := ∀ (i : Instr) (s : State), ∃ t, exec i s = .next t

/-- Memory and the register map keep their canonical form through every step, whatever command it takes: addresses rise and no entry holds
what an unlisted address reads as. -/
def Obligations.EveryStepKeepsCanonicalForm : Prop :=
  ∀ s t : State, s.memWf → s.regsWf → step s = .next t → t.memWf ∧ t.regsWf

/-- Memory and the register map are in canonical form at reset, and every register reads its reset value. -/
def Obligations.ResetIsCanonical : Prop :=
  State.reset.memWf ∧ State.reset.regsWf ∧ ∀ a, State.reset.rd a = resetOf a
end

