-- ==== Sys2Proof/Laws/Map.lean ====
section
/-!
SUPPORT. Laws/Map.lean: the laws of sparse data by key: a read after a write, a write and the canonical form.
-/

namespace Sys2Proof.Machine

theorem Map.get_insert {α : Type} (d : Nat → α) (m : List (Nat × α)) (k j : Nat) (v : α) :
    Map.get d (Map.insert k v m) j = if k = j then v else Map.get d m j := by
  induction m with
  | nil => simp [Map.insert, Map.get]
  | cons e m ih =>
    obtain ⟨i, w⟩ := e
    simp only [Map.insert]
    split
    · simp only [Map.get]
    · split
      · subst_vars
        simp only [Map.get]
        split <;> simp_all
      · simp only [Map.get, ih]
        split
        · split <;> simp_all
        · rfl

theorem Map.get_erase {α : Type} (d : Nat → α) (m : List (Nat × α)) (k j : Nat) :
    Map.get d (Map.erase k m) j = if k = j then d j else Map.get d m j := by
  induction m with
  | nil => simp [Map.erase, Map.get]
  | cons e m ih =>
    obtain ⟨i, w⟩ := e
    simp only [Map.erase]
    split
    · subst_vars
      simp only [ih, Map.get]
      split <;> simp_all
    · simp only [Map.get, ih]
      split
      · split <;> simp_all
      · rfl

/-- A read after a write: the value written, and every other key as before. -/
theorem Map.get_set {α : Type} [DecidableEq α] (d : Nat → α) (m : List (Nat × α)) (k j : Nat) (v : α) :
    Map.get d (Map.set d m k v) j = if k = j then v else Map.get d m j := by
  simp only [Map.set]
  split
  · rw [Map.get_erase]
    split <;> simp_all
  · exact Map.get_insert d m k j v

@[simp] theorem Map.get_set_same {α : Type} [DecidableEq α] (d : Nat → α) (m : List (Nat × α)) (k : Nat) (v : α) :
    Map.get d (Map.set d m k v) k = v := by simp [Map.get_set]

theorem Map.get_set_ne {α : Type} [DecidableEq α] (d : Nat → α) (m : List (Nat × α)) (k j : Nat) (v : α) (h : k ≠ j) :
    Map.get d (Map.set d m k v) j = Map.get d m j := by simp [Map.get_set, h]

/-! Runs of values -/

theorem Map.get_append {α : Type} (d : Nat → α) (m n : List (Nat × α)) (j : Nat) :
    Map.get d (m ++ n) j = if (m.any fun e => e.1 = j) then Map.get d m j else Map.get d n j := by
  induction m with
  | nil => simp
  | cons e m ih =>
    obtain ⟨i, w⟩ := e
    by_cases h : i = j
    · simp [Map.get, h]
    · simp only [List.cons_append, Map.get, h, if_false, ih, List.any_cons, decide_false, Bool.false_or]

theorem Map.get_none {α : Type} (d : Nat → α) (m : List (Nat × α)) (j : Nat) (h : ¬ (m.any fun e => e.1 = j) = true) :
    Map.get d m j = d j := by
  induction m with
  | nil => rfl
  | cons e m ih =>
    obtain ⟨i, w⟩ := e
    simp only [List.any_cons, Bool.or_eq_true, decide_eq_true_eq, not_or] at h
    simp only [Map.get, h.1, if_false]
    exact ih h.2

theorem Map.get_filter {α : Type} (d : Nat → α) (m : List (Nat × α)) (p : Nat → Bool) (j : Nat) :
    Map.get d (m.filter fun e => p e.1) j = if p j then Map.get d m j else d j := by
  induction m with
  | nil => simp [Map.get]
  | cons e m ih =>
    obtain ⟨i, w⟩ := e
    by_cases hp : p i
    · simp only [List.filter_cons, hp, if_true, Map.get]
      by_cases h : i = j
      · subst h; simp [hp]
      · simp [h, ih]
    · simp only [List.filter_cons, hp]
      by_cases h : i = j
      · subst h; simp [ih, hp]
      · simp [Map.get, h, ih]

theorem Map.get_block {α : Type} [DecidableEq α] (d : Nat → α) (vs : List α) (k j : Nat) :
    Map.get d (Map.block d k vs) j = if k ≤ j then (vs[j - k]?).getD (d j) else d j := by
  induction vs generalizing k with
  | nil => simp [Map.block, Map.get]
  | cons v vs ih =>
    simp only [Map.block]
    split
    · rw [ih]
      by_cases h : k = j
      · subst h; simp_all
      · by_cases h' : k ≤ j
        · have h1 : k + 1 ≤ j := by omega
          obtain ⟨n, hn⟩ : ∃ n, j - k = n + 1 := ⟨j - k - 1, by omega⟩
          have h2 : j - (k + 1) = n := by omega
          simp [h1, h', hn, h2]
        · have h1 : ¬ k + 1 ≤ j := by omega
          simp [h1, h']
    · simp only [Map.get, ih]
      by_cases h : k = j
      · subst h; simp
      · by_cases h' : k ≤ j
        · have h1 : k + 1 ≤ j := by omega
          obtain ⟨n, hn⟩ : ∃ n, j - k = n + 1 := ⟨j - k - 1, by omega⟩
          have h2 : j - (k + 1) = n := by omega
          simp [h, h1, h', hn, h2]
        · have h1 : ¬ k + 1 ≤ j := by omega
          simp [h, h1, h']

theorem Map.block_keys {α : Type} [DecidableEq α] (d : Nat → α) (vs : List α) (k : Nat) (e : Nat × α)
    (h : e ∈ Map.block d k vs) : k ≤ e.1 ∧ e.1 < k + vs.length ∧ e.2 ≠ d e.1 := by
  induction vs generalizing k with
  | nil => simp [Map.block] at h
  | cons v vs ih =>
    simp only [Map.block] at h
    split at h
    · have := ih (k + 1) h
      simp only [List.length_cons]
      exact ⟨by omega, by omega, this.2.2⟩
    · rcases List.mem_cons.1 h with rfl | h
      · simp_all
      · have := ih (k + 1) h
        simp only [List.length_cons]
        exact ⟨by omega, by omega, this.2.2⟩

/-- A read after a run of writes: the values written in the run, and every other key as before. -/
theorem Map.get_put {α : Type} [DecidableEq α] (d : Nat → α) (m : List (Nat × α)) (k : Nat) (vs : List α) (j : Nat) :
    Map.get d (Map.put d m k vs) j = if k ≤ j ∧ j < k + vs.length then (vs[j - k]?).getD (d j) else Map.get d m j := by
  have f1 := Map.get_filter d m (fun i => decide (i < k)) j
  have f2 := Map.get_filter d m (fun i => decide (k + vs.length ≤ i)) j
  have fb := Map.get_block d vs k j
  simp only [decide_eq_true_eq] at f1 f2
  simp only [Map.put, Map.get_append]
  by_cases h1 : j < k
  · have nb : ¬ (k ≤ j ∧ j < k + vs.length) := by omega
    have nk : ¬ k ≤ j := by omega
    have na : ¬ k + vs.length ≤ j := by omega
    rw [if_neg nb]
    split
    · rw [f1, if_pos h1]
    · next hn =>
      have e1 : Map.get d m j = d j := by
        rw [← Map.get_none d _ j hn, f1, if_pos h1]
      split
      · rw [fb, if_neg nk, e1]
      · rw [f2, if_neg na, e1]
  · have n1 : ((m.filter fun e => decide (e.1 < k)).any fun e => decide (e.1 = j)) = false := by
      simp only [List.any_eq_false, List.mem_filter]
      intro e he
      simp at he ⊢
      omega
    rw [n1]
    simp only [Bool.false_eq_true, if_false]
    by_cases h2 : j < k + vs.length
    · have kb : k ≤ j ∧ j < k + vs.length := by omega
      rw [if_pos kb]
      split
      · rw [fb, if_pos kb.1]
      · next hn =>
        have e1 := Map.get_none d _ j hn
        rw [f2, if_neg (by omega), ← fb.trans (if_pos kb.1), e1]
    · have nb : ¬ (k ≤ j ∧ j < k + vs.length) := by omega
      have n2 : ((Map.block d k vs).any fun e => decide (e.1 = j)) = false := by
        simp only [List.any_eq_false]
        intro e he
        have := Map.block_keys d vs k e he
        simp
        omega
      rw [if_neg nb, n2]
      simp only [Bool.false_eq_true, if_false]
      rw [f2, if_pos (by omega)]

/-! The canonical form -/

/-- The canonical form in words: the keys rise strictly, and no entry is at its default. -/
theorem Map.wf_iff {α : Type} [DecidableEq α] (d : Nat → α) (m : List (Nat × α)) :
    Map.wf d m = true ↔ m.Pairwise (fun a b => a.1 < b.1) ∧ ∀ e ∈ m, e.2 ≠ d e.1 := by
  have h : ∀ (m : List (Nat × α)) (lo : Option Nat), Map.wfFrom d lo m = true ↔
      (∀ l, lo = some l → ∀ e ∈ m, l < e.1) ∧ m.Pairwise (fun a b => a.1 < b.1) ∧ ∀ e ∈ m, e.2 ≠ d e.1 := by
    intro m
    induction m with
    | nil => intro lo; simp [Map.wfFrom]
    | cons e m ih =>
      intro lo
      obtain ⟨j, v⟩ := e
      simp only [Map.wfFrom, Bool.and_eq_true, decide_eq_true_eq, ih, List.pairwise_cons, List.mem_cons, forall_eq_or_imp,
        Option.some.injEq, forall_eq']
      cases lo with
      | none => simp; tauto
      | some l =>
        simp only [Option.some.injEq, forall_eq', decide_eq_true_eq]
        constructor
        · rintro ⟨⟨a, b⟩, c, p, q⟩
          exact ⟨⟨a, fun e he => Nat.lt_trans a (c e he)⟩, ⟨c, p⟩, b, q⟩
        · rintro ⟨⟨a, _⟩, ⟨c, p⟩, b, q⟩
          exact ⟨⟨a, b⟩, c, p, q⟩
  simpa [Map.wf] using h m none

theorem Map.insert_mem {α : Type} (k : Nat) (v : α) (m : List (Nat × α)) (e : Nat × α) (h : e ∈ Map.insert k v m) :
    e = (k, v) ∨ e ∈ m := by
  induction m with
  | nil => simp [Map.insert] at h; exact .inl h
  | cons x m ih =>
    simp only [Map.insert] at h
    split at h
    · rcases List.mem_cons.1 h with h | h
      · exact .inl h
      · exact .inr h
    · split at h
      · rcases List.mem_cons.1 h with h | h
        · exact .inl h
        · exact .inr (List.mem_cons_of_mem _ h)
      · rcases List.mem_cons.1 h with h | h
        · exact .inr (h ▸ List.mem_cons_self)
        · rcases ih h with h | h
          · exact .inl h
          · exact .inr (List.mem_cons_of_mem _ h)

theorem Map.insert_rises {α : Type} (k : Nat) (v : α) (m : List (Nat × α)) (h : m.Pairwise (fun a b => a.1 < b.1)) :
    (Map.insert k v m).Pairwise (fun a b => a.1 < b.1) := by
  induction m with
  | nil => simp [Map.insert]
  | cons x m ih =>
    rw [List.pairwise_cons] at h
    simp only [Map.insert]
    split
    · next hk =>
      simp only [List.pairwise_cons, List.mem_cons, forall_eq_or_imp]
      exact ⟨⟨hk, fun e he => Nat.lt_trans hk (h.1 e he)⟩, h.1, h.2⟩
    · split
      · next hj =>
        simp only [List.pairwise_cons]
        exact ⟨fun e he => hj ▸ h.1 e he, h.2⟩
      · next hk hj =>
        simp only [List.pairwise_cons]
        refine ⟨fun e he => ?_, ih h.2⟩
        rcases Map.insert_mem k v m e he with rfl | he
        · dsimp; omega
        · exact h.1 e he

theorem Map.erase_sub {α : Type} (k : Nat) (m : List (Nat × α)) : (Map.erase k m).Sublist m := by
  induction m with
  | nil => exact List.Sublist.refl _
  | cons x m ih =>
    simp only [Map.erase]
    split
    · exact ih.cons _
    · exact ih.cons_cons _

/-- A write keeps the canonical form. -/
theorem Map.wf_set {α : Type} [DecidableEq α] (d : Nat → α) (m : List (Nat × α)) (k : Nat) (v : α) (h : Map.wf d m = true) :
    Map.wf d (Map.set d m k v) = true := by
  rw [Map.wf_iff] at h ⊢
  simp only [Map.set]
  split
  · exact ⟨h.1.sublist (Map.erase_sub k m), fun e he => h.2 e ((Map.erase_sub k m).subset he)⟩
  · next hv =>
    refine ⟨Map.insert_rises k v m h.1, fun e he => ?_⟩
    rcases Map.insert_mem k v m e he with rfl | he
    · exact hv
    · exact h.2 e he

theorem Map.block_rises {α : Type} [DecidableEq α] (d : Nat → α) (vs : List α) (k : Nat) :
    (Map.block d k vs).Pairwise (fun a b => a.1 < b.1) := by
  induction vs generalizing k with
  | nil => simp [Map.block]
  | cons v vs ih =>
    simp only [Map.block]
    split
    · exact ih _
    · simp only [List.pairwise_cons]
      exact ⟨fun e he => by have := Map.block_keys d vs (k + 1) e he; omega, ih _⟩

/-- A run of writes keeps the canonical form. -/
theorem Map.wf_put {α : Type} [DecidableEq α] (d : Nat → α) (m : List (Nat × α)) (k : Nat) (vs : List α)
    (h : Map.wf d m = true) : Map.wf d (Map.put d m k vs) = true := by
  rw [Map.wf_iff] at h ⊢
  have s1 : (m.filter fun e => decide (e.1 < k)).Sublist m := List.filter_sublist
  have s2 : (m.filter fun e => decide (k + vs.length ≤ e.1)).Sublist m := List.filter_sublist
  simp only [Map.put, List.pairwise_append, List.mem_append]
  refine ⟨⟨h.1.sublist s1, ⟨Map.block_rises d vs k, h.1.sublist s2, ?_⟩, ?_⟩, ?_⟩
  · intro a ha b hb
    have := Map.block_keys d vs k a ha
    simp at hb
    omega
  · intro a ha b hb
    simp at ha
    rcases hb with hb | hb
    · have := Map.block_keys d vs k b hb
      omega
    · simp at hb
      omega
  · intro e he
    rcases he with he | he | he
    · exact h.2 e (s1.subset he)
    · exact (Map.block_keys d vs k e he).2.2
    · exact h.2 e (s2.subset he)

end Sys2Proof.Machine
end

