-- ==== Sys2Proof/Laws/State.lean ====
section
/-!
SUPPORT. Laws/State.lean: what each update of the state leaves in each of its parts, one lemma a part and update, and what the units and
registers read after it.
-/

namespace Sys2Proof.Machine

/-! wr -/

@[simp] theorem State.wr_mem (s : State) (a : Nat) (v : Word) : (s.wr a v).mem = s.mem := rfl
@[simp] theorem State.wr_poison (s : State) (a : Nat) (v : Word) : (s.wr a v).poison = s.poison := rfl
@[simp] theorem State.wr_tb (s : State) (a : Nat) (v : Word) : (s.wr a v).tb = s.tb := rfl
@[simp] theorem State.wr_pending (s : State) (a : Nat) (v : Word) : (s.wr a v).pending = s.pending := rfl
@[simp] theorem State.wr_out (s : State) (a : Nat) (v : Word) : (s.wr a v).out = s.out := rfl
@[simp] theorem State.wr_free (s : State) (a : Nat) (v : Word) : (s.wr a v).free = s.free := rfl
@[simp] theorem State.wr_firstThis (s : State) (a : Nat) (v : Word) : (s.wr a v).firstThis = s.firstThis := rfl
@[simp] theorem State.wr_fltRead (s : State) (a : Nat) (v : Word) : (s.wr a v).fltRead = s.fltRead := rfl
@[simp] theorem State.wr_engines (s : State) (a : Nat) (v : Word) : (s.wr a v).engines = s.engines := rfl
@[simp] theorem State.wr_items (s : State) (a : Nat) (v : Word) : (s.wr a v).items = s.items := rfl
@[simp] theorem State.wr_nextItem (s : State) (a : Nat) (v : Word) : (s.wr a v).nextItem = s.nextItem := rfl
@[simp] theorem State.wr_jobs (s : State) (a : Nat) (v : Word) : (s.wr a v).jobs = s.jobs := rfl
@[simp] theorem State.wr_intake (s : State) (a : Nat) (v : Word) : (s.wr a v).intake = s.intake := rfl
@[simp] theorem State.wr_intakeNext (s : State) (a : Nat) (v : Word) : (s.wr a v).intakeNext = s.intakeNext := rfl
@[simp] theorem State.wr_waitingCpl (s : State) (a : Nat) (v : Word) : (s.wr a v).waitingCpl = s.waitingCpl := rfl
@[simp] theorem State.wr_unlocks (s : State) (a : Nat) (v : Word) : (s.wr a v).unlocks = s.unlocks := rfl
@[simp] theorem State.wr_w1Locked (s : State) (a : Nat) (v : Word) : (s.wr a v).w1Locked = s.w1Locked := rfl
@[simp] theorem State.wr_staged (s : State) (a : Nat) (v : Word) : (s.wr a v).staged = s.staged := rfl
@[simp] theorem State.wr_issueQ (s : State) (a : Nat) (v : Word) : (s.wr a v).issueQ = s.issueQ := rfl
@[simp] theorem State.wr_issueSeq (s : State) (a : Nat) (v : Word) : (s.wr a v).issueSeq = s.issueSeq := rfl
@[simp] theorem State.wr_taken (s : State) (a : Nat) (v : Word) : (s.wr a v).taken = s.taken := rfl
@[simp] theorem State.wr_expect (s : State) (a : Nat) (v : Word) : (s.wr a v).expect = s.expect := rfl
@[simp] theorem State.wr_streams (s : State) (a : Nat) (v : Word) : (s.wr a v).streams = s.streams := rfl
@[simp] theorem State.wr_dmas (s : State) (a : Nat) (v : Word) : (s.wr a v).dmas = s.dmas := rfl
@[simp] theorem State.wr_dmaTurn (s : State) (a : Nat) (v : Word) : (s.wr a v).dmaTurn = s.dmaTurn := rfl
@[simp] theorem State.wr_lanes (s : State) (a : Nat) (v : Word) : (s.wr a v).lanes = s.lanes := rfl
@[simp] theorem State.wr_vlanes (s : State) (a : Nat) (v : Word) : (s.wr a v).vlanes = s.vlanes := rfl
@[simp] theorem State.wr_holds (s : State) (a : Nat) (v : Word) : (s.wr a v).holds = s.holds := rfl
@[simp] theorem State.wr_nzDirty (s : State) (a : Nat) (v : Word) : (s.wr a v).nzDirty = s.nzDirty := rfl
@[simp] theorem State.wr_channels (s : State) (a : Nat) (v : Word) : (s.wr a v).channels = s.channels := rfl
@[simp] theorem State.wr_cmps (s : State) (a : Nat) (v : Word) : (s.wr a v).cmps = s.cmps := rfl
@[simp] theorem State.wr_emus (s : State) (a : Nat) (v : Word) : (s.wr a v).emus = s.emus := rfl
@[simp] theorem State.wr_domains (s : State) (a : Nat) (v : Word) : (s.wr a v).domains = s.domains := rfl
@[simp] theorem State.wr_heads (s : State) (a : Nat) (v : Word) : (s.wr a v).heads = s.heads := rfl
@[simp] theorem State.wr_axes (s : State) (a : Nat) (v : Word) : (s.wr a v).axes = s.axes := rfl
@[simp] theorem State.wr_groups (s : State) (a : Nat) (v : Word) : (s.wr a v).groups = s.groups := rfl
@[simp] theorem State.wr_rejects (s : State) (a : Nat) (v : Word) : (s.wr a v).rejects = s.rejects := rfl
@[simp] theorem State.wr_traces (s : State) (a : Nat) (v : Word) : (s.wr a v).traces = s.traces := rfl
@[simp] theorem State.wr_timerAt (s : State) (a : Nat) (v : Word) : (s.wr a v).timerAt = s.timerAt := rfl
@[simp] theorem State.wr_gateLast (s : State) (a : Nat) (v : Word) : (s.wr a v).gateLast = s.gateLast := rfl
@[simp] theorem State.wr_loopSat (s : State) (a : Nat) (v : Word) : (s.wr a v).loopSat = s.loopSat := rfl
@[simp] theorem State.wr_pwmDuty (s : State) (a : Nat) (v : Word) : (s.wr a v).pwmDuty = s.pwmDuty := rfl
@[simp] theorem State.wr_pwmAt (s : State) (a : Nat) (v : Word) : (s.wr a v).pwmAt = s.pwmAt := rfl
@[simp] theorem State.wr_ledger (s : State) (a : Nat) (v : Word) : (s.wr a v).ledger = s.ledger := rfl
@[simp] theorem State.wr_geode (s : State) (a : Nat) (v : Word) : (s.wr a v).geode = s.geode := rfl
@[simp] theorem State.wr_fuses (s : State) (a : Nat) (v : Word) : (s.wr a v).fuses = s.fuses := rfl
@[simp] theorem State.wr_supplies (s : State) (a : Nat) (v : Word) : (s.wr a v).supplies = s.supplies := rfl
@[simp] theorem State.wr_twin (s : State) (a : Nat) (v : Word) : (s.wr a v).twin = s.twin := rfl
@[simp] theorem State.wr_pcie (s : State) (a : Nat) (v : Word) : (s.wr a v).pcie = s.pcie := rfl
@[simp] theorem State.wr_power (s : State) (a : Nat) (v : Word) : (s.wr a v).power = s.power := rfl
@[simp] theorem State.wr_boot (s : State) (a : Nat) (v : Word) : (s.wr a v).boot = s.boot := rfl
@[simp] theorem State.wr_cal (s : State) (a : Nat) (v : Word) : (s.wr a v).cal = s.cal := rfl
@[simp] theorem State.wr_quartz (s : State) (a : Nat) (v : Word) : (s.wr a v).quartz = s.quartz := rfl
@[simp] theorem State.wr_sec (s : State) (a : Nat) (v : Word) : (s.wr a v).sec = s.sec := rfl
@[simp] theorem State.wr_frozenFaultIn (s : State) (a : Nat) (v : Word) : (s.wr a v).frozenFaultIn = s.frozenFaultIn := rfl
@[simp] theorem State.wr_jtagIr (s : State) (a : Nat) (v : Word) : (s.wr a v).jtagIr = s.jtagIr := rfl
@[simp] theorem State.wr_bsr (s : State) (a : Nat) (v : Word) : (s.wr a v).bsr = s.bsr := rfl
@[simp] theorem State.wr_scanKey (s : State) (a : Nat) (v : Word) : (s.wr a v).scanKey = s.scanKey := rfl
@[simp] theorem State.wr_soft (s : State) (a : Nat) (v : Word) : (s.wr a v).soft = s.soft := rfl
@[simp] theorem State.wr_wire (s : State) (a : Nat) (v : Word) : (s.wr a v).wire = s.wire := rfl
@[simp] theorem State.wr_lineTx (s : State) (a : Nat) (v : Word) : (s.wr a v).lineTx = s.lineTx := rfl
@[simp] theorem State.wr_lineRx (s : State) (a : Nat) (v : Word) : (s.wr a v).lineRx = s.lineRx := rfl
@[simp] theorem State.wr_doneJobs (s : State) (a : Nat) (v : Word) : (s.wr a v).doneJobs = s.doneJobs := rfl
@[simp] theorem State.wr_replayOut (s : State) (a : Nat) (v : Word) : (s.wr a v).replayOut = s.replayOut := rfl
@[simp] theorem State.wr_planAt (s : State) (a : Nat) (v : Word) : (s.wr a v).planAt = s.planAt := rfl
@[simp] theorem State.wr_riseAt (s : State) (a : Nat) (v : Word) : (s.wr a v).riseAt = s.riseAt := rfl
@[simp] theorem State.wr_errPulseEnd (s : State) (a : Nat) (v : Word) : (s.wr a v).errPulseEnd = s.errPulseEnd := rfl
@[simp] theorem State.wr_errRelease (s : State) (a : Nat) (v : Word) : (s.wr a v).errRelease = s.errRelease := rfl
@[simp] theorem State.wr_byte (s : State) (a : Nat) (v : Word) (c : Nat) : (s.wr a v).byte c = s.byte c := rfl
@[simp] theorem State.wr_readMem (s : State) (a : Nat) (v : Word) (c n : Nat) : (s.wr a v).readMem c n = s.readMem c n := rfl
@[simp] theorem State.wr_eng (s : State) (a : Nat) (v : Word) (j : Nat) : (s.wr a v).eng j = s.eng j := rfl
@[simp] theorem State.wr_lane (s : State) (a : Nat) (v : Word) (j : Nat) : (s.wr a v).lane j = s.lane j := rfl
@[simp] theorem State.wr_dom (s : State) (a : Nat) (v : Word) (j : Nat) : (s.wr a v).dom j = s.dom j := rfl
@[simp] theorem State.wr_head (s : State) (a : Nat) (v : Word) (j : Nat) : (s.wr a v).head j = s.head j := rfl
@[simp] theorem State.wr_axis (s : State) (a : Nat) (v : Word) (j : Nat) : (s.wr a v).axis j = s.axis j := rfl
@[simp] theorem State.wr_group (s : State) (a : Nat) (v : Word) (j : Nat) : (s.wr a v).group j = s.group j := rfl
@[simp] theorem State.wr_rej (s : State) (a : Nat) (v : Word) (j : Nat) : (s.wr a v).rej j = s.rej j := rfl
@[simp] theorem State.wr_trace (s : State) (a : Nat) (v : Word) (j : Nat) : (s.wr a v).trace j = s.trace j := rfl
@[simp] theorem State.wr_supply (s : State) (a : Nat) (v : Word) (j : Nat) : (s.wr a v).supply j = s.supply j := rfl
@[simp] theorem State.wr_vlane (s : State) (a : Nat) (v : Word) (j : Nat) : (s.wr a v).vlane j = s.vlane j := rfl
@[simp] theorem State.wr_chan (s : State) (a : Nat) (v : Word) (j : Nat) : (s.wr a v).chan j = s.chan j := rfl
@[simp] theorem State.wr_cmp (s : State) (a : Nat) (v : Word) (j : Nat) : (s.wr a v).cmp j = s.cmp j := rfl
@[simp] theorem State.wr_emu (s : State) (a : Nat) (v : Word) (j : Nat) : (s.wr a v).emu j = s.emu j := rfl
@[simp] theorem State.wr_strm (s : State) (a : Nat) (v : Word) (j : Nat) : (s.wr a v).strm j = s.strm j := rfl
@[simp] theorem State.wr_dma (s : State) (a : Nat) (v : Word) (j : Nat) : (s.wr a v).dma j = s.dma j := rfl

/-! writeMem -/

@[simp] theorem State.writeMem_regs (s : State) (a : Nat) (bs : List Byte) : (s.writeMem a bs).regs = s.regs := rfl
@[simp] theorem State.writeMem_poison (s : State) (a : Nat) (bs : List Byte) : (s.writeMem a bs).poison = s.poison := rfl
@[simp] theorem State.writeMem_tb (s : State) (a : Nat) (bs : List Byte) : (s.writeMem a bs).tb = s.tb := rfl
@[simp] theorem State.writeMem_pending (s : State) (a : Nat) (bs : List Byte) : (s.writeMem a bs).pending = s.pending := rfl
@[simp] theorem State.writeMem_out (s : State) (a : Nat) (bs : List Byte) : (s.writeMem a bs).out = s.out := rfl
@[simp] theorem State.writeMem_free (s : State) (a : Nat) (bs : List Byte) : (s.writeMem a bs).free = s.free := rfl
@[simp] theorem State.writeMem_firstThis (s : State) (a : Nat) (bs : List Byte) : (s.writeMem a bs).firstThis = s.firstThis := rfl
@[simp] theorem State.writeMem_fltRead (s : State) (a : Nat) (bs : List Byte) : (s.writeMem a bs).fltRead = s.fltRead := rfl
@[simp] theorem State.writeMem_engines (s : State) (a : Nat) (bs : List Byte) : (s.writeMem a bs).engines = s.engines := rfl
@[simp] theorem State.writeMem_items (s : State) (a : Nat) (bs : List Byte) : (s.writeMem a bs).items = s.items := rfl
@[simp] theorem State.writeMem_nextItem (s : State) (a : Nat) (bs : List Byte) : (s.writeMem a bs).nextItem = s.nextItem := rfl
@[simp] theorem State.writeMem_jobs (s : State) (a : Nat) (bs : List Byte) : (s.writeMem a bs).jobs = s.jobs := rfl
@[simp] theorem State.writeMem_intake (s : State) (a : Nat) (bs : List Byte) : (s.writeMem a bs).intake = s.intake := rfl
@[simp] theorem State.writeMem_intakeNext (s : State) (a : Nat) (bs : List Byte) : (s.writeMem a bs).intakeNext = s.intakeNext := rfl
@[simp] theorem State.writeMem_waitingCpl (s : State) (a : Nat) (bs : List Byte) : (s.writeMem a bs).waitingCpl = s.waitingCpl := rfl
@[simp] theorem State.writeMem_unlocks (s : State) (a : Nat) (bs : List Byte) : (s.writeMem a bs).unlocks = s.unlocks := rfl
@[simp] theorem State.writeMem_w1Locked (s : State) (a : Nat) (bs : List Byte) : (s.writeMem a bs).w1Locked = s.w1Locked := rfl
@[simp] theorem State.writeMem_staged (s : State) (a : Nat) (bs : List Byte) : (s.writeMem a bs).staged = s.staged := rfl
@[simp] theorem State.writeMem_issueQ (s : State) (a : Nat) (bs : List Byte) : (s.writeMem a bs).issueQ = s.issueQ := rfl
@[simp] theorem State.writeMem_issueSeq (s : State) (a : Nat) (bs : List Byte) : (s.writeMem a bs).issueSeq = s.issueSeq := rfl
@[simp] theorem State.writeMem_taken (s : State) (a : Nat) (bs : List Byte) : (s.writeMem a bs).taken = s.taken := rfl
@[simp] theorem State.writeMem_expect (s : State) (a : Nat) (bs : List Byte) : (s.writeMem a bs).expect = s.expect := rfl
@[simp] theorem State.writeMem_streams (s : State) (a : Nat) (bs : List Byte) : (s.writeMem a bs).streams = s.streams := rfl
@[simp] theorem State.writeMem_dmas (s : State) (a : Nat) (bs : List Byte) : (s.writeMem a bs).dmas = s.dmas := rfl
@[simp] theorem State.writeMem_dmaTurn (s : State) (a : Nat) (bs : List Byte) : (s.writeMem a bs).dmaTurn = s.dmaTurn := rfl
@[simp] theorem State.writeMem_lanes (s : State) (a : Nat) (bs : List Byte) : (s.writeMem a bs).lanes = s.lanes := rfl
@[simp] theorem State.writeMem_vlanes (s : State) (a : Nat) (bs : List Byte) : (s.writeMem a bs).vlanes = s.vlanes := rfl
@[simp] theorem State.writeMem_holds (s : State) (a : Nat) (bs : List Byte) : (s.writeMem a bs).holds = s.holds := rfl
@[simp] theorem State.writeMem_nzDirty (s : State) (a : Nat) (bs : List Byte) : (s.writeMem a bs).nzDirty = s.nzDirty := rfl
@[simp] theorem State.writeMem_channels (s : State) (a : Nat) (bs : List Byte) : (s.writeMem a bs).channels = s.channels := rfl
@[simp] theorem State.writeMem_cmps (s : State) (a : Nat) (bs : List Byte) : (s.writeMem a bs).cmps = s.cmps := rfl
@[simp] theorem State.writeMem_emus (s : State) (a : Nat) (bs : List Byte) : (s.writeMem a bs).emus = s.emus := rfl
@[simp] theorem State.writeMem_domains (s : State) (a : Nat) (bs : List Byte) : (s.writeMem a bs).domains = s.domains := rfl
@[simp] theorem State.writeMem_heads (s : State) (a : Nat) (bs : List Byte) : (s.writeMem a bs).heads = s.heads := rfl
@[simp] theorem State.writeMem_axes (s : State) (a : Nat) (bs : List Byte) : (s.writeMem a bs).axes = s.axes := rfl
@[simp] theorem State.writeMem_groups (s : State) (a : Nat) (bs : List Byte) : (s.writeMem a bs).groups = s.groups := rfl
@[simp] theorem State.writeMem_rejects (s : State) (a : Nat) (bs : List Byte) : (s.writeMem a bs).rejects = s.rejects := rfl
@[simp] theorem State.writeMem_traces (s : State) (a : Nat) (bs : List Byte) : (s.writeMem a bs).traces = s.traces := rfl
@[simp] theorem State.writeMem_timerAt (s : State) (a : Nat) (bs : List Byte) : (s.writeMem a bs).timerAt = s.timerAt := rfl
@[simp] theorem State.writeMem_gateLast (s : State) (a : Nat) (bs : List Byte) : (s.writeMem a bs).gateLast = s.gateLast := rfl
@[simp] theorem State.writeMem_loopSat (s : State) (a : Nat) (bs : List Byte) : (s.writeMem a bs).loopSat = s.loopSat := rfl
@[simp] theorem State.writeMem_pwmDuty (s : State) (a : Nat) (bs : List Byte) : (s.writeMem a bs).pwmDuty = s.pwmDuty := rfl
@[simp] theorem State.writeMem_pwmAt (s : State) (a : Nat) (bs : List Byte) : (s.writeMem a bs).pwmAt = s.pwmAt := rfl
@[simp] theorem State.writeMem_ledger (s : State) (a : Nat) (bs : List Byte) : (s.writeMem a bs).ledger = s.ledger := rfl
@[simp] theorem State.writeMem_geode (s : State) (a : Nat) (bs : List Byte) : (s.writeMem a bs).geode = s.geode := rfl
@[simp] theorem State.writeMem_fuses (s : State) (a : Nat) (bs : List Byte) : (s.writeMem a bs).fuses = s.fuses := rfl
@[simp] theorem State.writeMem_supplies (s : State) (a : Nat) (bs : List Byte) : (s.writeMem a bs).supplies = s.supplies := rfl
@[simp] theorem State.writeMem_twin (s : State) (a : Nat) (bs : List Byte) : (s.writeMem a bs).twin = s.twin := rfl
@[simp] theorem State.writeMem_pcie (s : State) (a : Nat) (bs : List Byte) : (s.writeMem a bs).pcie = s.pcie := rfl
@[simp] theorem State.writeMem_power (s : State) (a : Nat) (bs : List Byte) : (s.writeMem a bs).power = s.power := rfl
@[simp] theorem State.writeMem_boot (s : State) (a : Nat) (bs : List Byte) : (s.writeMem a bs).boot = s.boot := rfl
@[simp] theorem State.writeMem_cal (s : State) (a : Nat) (bs : List Byte) : (s.writeMem a bs).cal = s.cal := rfl
@[simp] theorem State.writeMem_quartz (s : State) (a : Nat) (bs : List Byte) : (s.writeMem a bs).quartz = s.quartz := rfl
@[simp] theorem State.writeMem_sec (s : State) (a : Nat) (bs : List Byte) : (s.writeMem a bs).sec = s.sec := rfl
@[simp] theorem State.writeMem_frozenFaultIn (s : State) (a : Nat) (bs : List Byte) : (s.writeMem a bs).frozenFaultIn = s.frozenFaultIn := rfl
@[simp] theorem State.writeMem_jtagIr (s : State) (a : Nat) (bs : List Byte) : (s.writeMem a bs).jtagIr = s.jtagIr := rfl
@[simp] theorem State.writeMem_bsr (s : State) (a : Nat) (bs : List Byte) : (s.writeMem a bs).bsr = s.bsr := rfl
@[simp] theorem State.writeMem_scanKey (s : State) (a : Nat) (bs : List Byte) : (s.writeMem a bs).scanKey = s.scanKey := rfl
@[simp] theorem State.writeMem_soft (s : State) (a : Nat) (bs : List Byte) : (s.writeMem a bs).soft = s.soft := rfl
@[simp] theorem State.writeMem_wire (s : State) (a : Nat) (bs : List Byte) : (s.writeMem a bs).wire = s.wire := rfl
@[simp] theorem State.writeMem_lineTx (s : State) (a : Nat) (bs : List Byte) : (s.writeMem a bs).lineTx = s.lineTx := rfl
@[simp] theorem State.writeMem_lineRx (s : State) (a : Nat) (bs : List Byte) : (s.writeMem a bs).lineRx = s.lineRx := rfl
@[simp] theorem State.writeMem_doneJobs (s : State) (a : Nat) (bs : List Byte) : (s.writeMem a bs).doneJobs = s.doneJobs := rfl
@[simp] theorem State.writeMem_replayOut (s : State) (a : Nat) (bs : List Byte) : (s.writeMem a bs).replayOut = s.replayOut := rfl
@[simp] theorem State.writeMem_planAt (s : State) (a : Nat) (bs : List Byte) : (s.writeMem a bs).planAt = s.planAt := rfl
@[simp] theorem State.writeMem_riseAt (s : State) (a : Nat) (bs : List Byte) : (s.writeMem a bs).riseAt = s.riseAt := rfl
@[simp] theorem State.writeMem_errPulseEnd (s : State) (a : Nat) (bs : List Byte) : (s.writeMem a bs).errPulseEnd = s.errPulseEnd := rfl
@[simp] theorem State.writeMem_errRelease (s : State) (a : Nat) (bs : List Byte) : (s.writeMem a bs).errRelease = s.errRelease := rfl
@[simp] theorem State.writeMem_rd (s : State) (a : Nat) (bs : List Byte) (c : Nat) : (s.writeMem a bs).rd c = s.rd c := rfl
@[simp] theorem State.writeMem_f (s : State) (a : Nat) (bs : List Byte) (x : Field) : (s.writeMem a bs).f x = s.f x := rfl
@[simp] theorem State.writeMem_b (s : State) (a : Nat) (bs : List Byte) (x : Field) : (s.writeMem a bs).b x = s.b x := rfl
@[simp] theorem State.writeMem_rn (s : State) (a : Nat) (bs : List Byte) (c : Nat) : (s.writeMem a bs).rn c = s.rn c := rfl
@[simp] theorem State.writeMem_rd64 (s : State) (a : Nat) (bs : List Byte) (c : Nat) : (s.writeMem a bs).rd64 c = s.rd64 c := rfl
@[simp] theorem State.writeMem_eng (s : State) (a : Nat) (bs : List Byte) (j : Nat) : (s.writeMem a bs).eng j = s.eng j := rfl
@[simp] theorem State.writeMem_lane (s : State) (a : Nat) (bs : List Byte) (j : Nat) : (s.writeMem a bs).lane j = s.lane j := rfl
@[simp] theorem State.writeMem_dom (s : State) (a : Nat) (bs : List Byte) (j : Nat) : (s.writeMem a bs).dom j = s.dom j := rfl
@[simp] theorem State.writeMem_head (s : State) (a : Nat) (bs : List Byte) (j : Nat) : (s.writeMem a bs).head j = s.head j := rfl
@[simp] theorem State.writeMem_axis (s : State) (a : Nat) (bs : List Byte) (j : Nat) : (s.writeMem a bs).axis j = s.axis j := rfl
@[simp] theorem State.writeMem_group (s : State) (a : Nat) (bs : List Byte) (j : Nat) : (s.writeMem a bs).group j = s.group j := rfl
@[simp] theorem State.writeMem_rej (s : State) (a : Nat) (bs : List Byte) (j : Nat) : (s.writeMem a bs).rej j = s.rej j := rfl
@[simp] theorem State.writeMem_trace (s : State) (a : Nat) (bs : List Byte) (j : Nat) : (s.writeMem a bs).trace j = s.trace j := rfl
@[simp] theorem State.writeMem_supply (s : State) (a : Nat) (bs : List Byte) (j : Nat) : (s.writeMem a bs).supply j = s.supply j := rfl
@[simp] theorem State.writeMem_vlane (s : State) (a : Nat) (bs : List Byte) (j : Nat) : (s.writeMem a bs).vlane j = s.vlane j := rfl
@[simp] theorem State.writeMem_chan (s : State) (a : Nat) (bs : List Byte) (j : Nat) : (s.writeMem a bs).chan j = s.chan j := rfl
@[simp] theorem State.writeMem_cmp (s : State) (a : Nat) (bs : List Byte) (j : Nat) : (s.writeMem a bs).cmp j = s.cmp j := rfl
@[simp] theorem State.writeMem_emu (s : State) (a : Nat) (bs : List Byte) (j : Nat) : (s.writeMem a bs).emu j = s.emu j := rfl
@[simp] theorem State.writeMem_strm (s : State) (a : Nat) (bs : List Byte) (j : Nat) : (s.writeMem a bs).strm j = s.strm j := rfl
@[simp] theorem State.writeMem_dma (s : State) (a : Nat) (bs : List Byte) (j : Nat) : (s.writeMem a bs).dma j = s.dma j := rfl

/-! begin -/

@[simp] theorem State.begin_regs (s : State) : (s.begin).regs = s.regs := rfl
@[simp] theorem State.begin_mem (s : State) : (s.begin).mem = s.mem := rfl
@[simp] theorem State.begin_poison (s : State) : (s.begin).poison = s.poison := rfl
@[simp] theorem State.begin_tb (s : State) : (s.begin).tb = s.tb := rfl
@[simp] theorem State.begin_pending (s : State) : (s.begin).pending = s.pending := rfl
@[simp] theorem State.begin_out (s : State) : (s.begin).out = s.out := rfl
@[simp] theorem State.begin_free (s : State) : (s.begin).free = s.free := rfl
@[simp] theorem State.begin_fltRead (s : State) : (s.begin).fltRead = s.fltRead := rfl
@[simp] theorem State.begin_engines (s : State) : (s.begin).engines = s.engines := rfl
@[simp] theorem State.begin_items (s : State) : (s.begin).items = s.items := rfl
@[simp] theorem State.begin_nextItem (s : State) : (s.begin).nextItem = s.nextItem := rfl
@[simp] theorem State.begin_jobs (s : State) : (s.begin).jobs = s.jobs := rfl
@[simp] theorem State.begin_intake (s : State) : (s.begin).intake = s.intake := rfl
@[simp] theorem State.begin_intakeNext (s : State) : (s.begin).intakeNext = s.intakeNext := rfl
@[simp] theorem State.begin_waitingCpl (s : State) : (s.begin).waitingCpl = s.waitingCpl := rfl
@[simp] theorem State.begin_unlocks (s : State) : (s.begin).unlocks = s.unlocks := rfl
@[simp] theorem State.begin_w1Locked (s : State) : (s.begin).w1Locked = s.w1Locked := rfl
@[simp] theorem State.begin_staged (s : State) : (s.begin).staged = s.staged := rfl
@[simp] theorem State.begin_issueQ (s : State) : (s.begin).issueQ = s.issueQ := rfl
@[simp] theorem State.begin_issueSeq (s : State) : (s.begin).issueSeq = s.issueSeq := rfl
@[simp] theorem State.begin_taken (s : State) : (s.begin).taken = s.taken := rfl
@[simp] theorem State.begin_expect (s : State) : (s.begin).expect = s.expect := rfl
@[simp] theorem State.begin_streams (s : State) : (s.begin).streams = s.streams := rfl
@[simp] theorem State.begin_dmas (s : State) : (s.begin).dmas = s.dmas := rfl
@[simp] theorem State.begin_dmaTurn (s : State) : (s.begin).dmaTurn = s.dmaTurn := rfl
@[simp] theorem State.begin_lanes (s : State) : (s.begin).lanes = s.lanes := rfl
@[simp] theorem State.begin_vlanes (s : State) : (s.begin).vlanes = s.vlanes := rfl
@[simp] theorem State.begin_holds (s : State) : (s.begin).holds = s.holds := rfl
@[simp] theorem State.begin_nzDirty (s : State) : (s.begin).nzDirty = s.nzDirty := rfl
@[simp] theorem State.begin_channels (s : State) : (s.begin).channels = s.channels := rfl
@[simp] theorem State.begin_cmps (s : State) : (s.begin).cmps = s.cmps := rfl
@[simp] theorem State.begin_emus (s : State) : (s.begin).emus = s.emus := rfl
@[simp] theorem State.begin_domains (s : State) : (s.begin).domains = s.domains := rfl
@[simp] theorem State.begin_heads (s : State) : (s.begin).heads = s.heads := rfl
@[simp] theorem State.begin_axes (s : State) : (s.begin).axes = s.axes := rfl
@[simp] theorem State.begin_groups (s : State) : (s.begin).groups = s.groups := rfl
@[simp] theorem State.begin_rejects (s : State) : (s.begin).rejects = s.rejects := rfl
@[simp] theorem State.begin_traces (s : State) : (s.begin).traces = s.traces := rfl
@[simp] theorem State.begin_timerAt (s : State) : (s.begin).timerAt = s.timerAt := rfl
@[simp] theorem State.begin_gateLast (s : State) : (s.begin).gateLast = s.gateLast := rfl
@[simp] theorem State.begin_loopSat (s : State) : (s.begin).loopSat = s.loopSat := rfl
@[simp] theorem State.begin_pwmDuty (s : State) : (s.begin).pwmDuty = s.pwmDuty := rfl
@[simp] theorem State.begin_pwmAt (s : State) : (s.begin).pwmAt = s.pwmAt := rfl
@[simp] theorem State.begin_ledger (s : State) : (s.begin).ledger = s.ledger := rfl
@[simp] theorem State.begin_geode (s : State) : (s.begin).geode = s.geode := rfl
@[simp] theorem State.begin_fuses (s : State) : (s.begin).fuses = s.fuses := rfl
@[simp] theorem State.begin_supplies (s : State) : (s.begin).supplies = s.supplies := rfl
@[simp] theorem State.begin_twin (s : State) : (s.begin).twin = s.twin := rfl
@[simp] theorem State.begin_pcie (s : State) : (s.begin).pcie = s.pcie := rfl
@[simp] theorem State.begin_power (s : State) : (s.begin).power = s.power := rfl
@[simp] theorem State.begin_boot (s : State) : (s.begin).boot = s.boot := rfl
@[simp] theorem State.begin_cal (s : State) : (s.begin).cal = s.cal := rfl
@[simp] theorem State.begin_quartz (s : State) : (s.begin).quartz = s.quartz := rfl
@[simp] theorem State.begin_sec (s : State) : (s.begin).sec = s.sec := rfl
@[simp] theorem State.begin_frozenFaultIn (s : State) : (s.begin).frozenFaultIn = s.frozenFaultIn := rfl
@[simp] theorem State.begin_jtagIr (s : State) : (s.begin).jtagIr = s.jtagIr := rfl
@[simp] theorem State.begin_bsr (s : State) : (s.begin).bsr = s.bsr := rfl
@[simp] theorem State.begin_scanKey (s : State) : (s.begin).scanKey = s.scanKey := rfl
@[simp] theorem State.begin_soft (s : State) : (s.begin).soft = s.soft := rfl
@[simp] theorem State.begin_wire (s : State) : (s.begin).wire = s.wire := rfl
@[simp] theorem State.begin_lineTx (s : State) : (s.begin).lineTx = s.lineTx := rfl
@[simp] theorem State.begin_lineRx (s : State) : (s.begin).lineRx = s.lineRx := rfl
@[simp] theorem State.begin_doneJobs (s : State) : (s.begin).doneJobs = s.doneJobs := rfl
@[simp] theorem State.begin_replayOut (s : State) : (s.begin).replayOut = s.replayOut := rfl
@[simp] theorem State.begin_planAt (s : State) : (s.begin).planAt = s.planAt := rfl
@[simp] theorem State.begin_riseAt (s : State) : (s.begin).riseAt = s.riseAt := rfl
@[simp] theorem State.begin_errPulseEnd (s : State) : (s.begin).errPulseEnd = s.errPulseEnd := rfl
@[simp] theorem State.begin_errRelease (s : State) : (s.begin).errRelease = s.errRelease := rfl
@[simp] theorem State.begin_rd (s : State) (c : Nat) : (s.begin).rd c = s.rd c := rfl
@[simp] theorem State.begin_f (s : State) (x : Field) : (s.begin).f x = s.f x := rfl
@[simp] theorem State.begin_b (s : State) (x : Field) : (s.begin).b x = s.b x := rfl
@[simp] theorem State.begin_rn (s : State) (c : Nat) : (s.begin).rn c = s.rn c := rfl
@[simp] theorem State.begin_rd64 (s : State) (c : Nat) : (s.begin).rd64 c = s.rd64 c := rfl
@[simp] theorem State.begin_byte (s : State) (c : Nat) : (s.begin).byte c = s.byte c := rfl
@[simp] theorem State.begin_readMem (s : State) (c n : Nat) : (s.begin).readMem c n = s.readMem c n := rfl
@[simp] theorem State.begin_eng (s : State) (j : Nat) : (s.begin).eng j = s.eng j := rfl
@[simp] theorem State.begin_lane (s : State) (j : Nat) : (s.begin).lane j = s.lane j := rfl
@[simp] theorem State.begin_dom (s : State) (j : Nat) : (s.begin).dom j = s.dom j := rfl
@[simp] theorem State.begin_head (s : State) (j : Nat) : (s.begin).head j = s.head j := rfl
@[simp] theorem State.begin_axis (s : State) (j : Nat) : (s.begin).axis j = s.axis j := rfl
@[simp] theorem State.begin_group (s : State) (j : Nat) : (s.begin).group j = s.group j := rfl
@[simp] theorem State.begin_rej (s : State) (j : Nat) : (s.begin).rej j = s.rej j := rfl
@[simp] theorem State.begin_trace (s : State) (j : Nat) : (s.begin).trace j = s.trace j := rfl
@[simp] theorem State.begin_supply (s : State) (j : Nat) : (s.begin).supply j = s.supply j := rfl
@[simp] theorem State.begin_vlane (s : State) (j : Nat) : (s.begin).vlane j = s.vlane j := rfl
@[simp] theorem State.begin_chan (s : State) (j : Nat) : (s.begin).chan j = s.chan j := rfl
@[simp] theorem State.begin_cmp (s : State) (j : Nat) : (s.begin).cmp j = s.cmp j := rfl
@[simp] theorem State.begin_emu (s : State) (j : Nat) : (s.begin).emu j = s.emu j := rfl
@[simp] theorem State.begin_strm (s : State) (j : Nat) : (s.begin).strm j = s.strm j := rfl
@[simp] theorem State.begin_dma (s : State) (j : Nat) : (s.begin).dma j = s.dma j := rfl

/-! setEng -/

@[simp] theorem State.setEng_regs (s : State) (i : Nat) (v : Engine) : (s.setEng i v).regs = s.regs := rfl
@[simp] theorem State.setEng_mem (s : State) (i : Nat) (v : Engine) : (s.setEng i v).mem = s.mem := rfl
@[simp] theorem State.setEng_poison (s : State) (i : Nat) (v : Engine) : (s.setEng i v).poison = s.poison := rfl
@[simp] theorem State.setEng_tb (s : State) (i : Nat) (v : Engine) : (s.setEng i v).tb = s.tb := rfl
@[simp] theorem State.setEng_pending (s : State) (i : Nat) (v : Engine) : (s.setEng i v).pending = s.pending := rfl
@[simp] theorem State.setEng_out (s : State) (i : Nat) (v : Engine) : (s.setEng i v).out = s.out := rfl
@[simp] theorem State.setEng_free (s : State) (i : Nat) (v : Engine) : (s.setEng i v).free = s.free := rfl
@[simp] theorem State.setEng_firstThis (s : State) (i : Nat) (v : Engine) : (s.setEng i v).firstThis = s.firstThis := rfl
@[simp] theorem State.setEng_fltRead (s : State) (i : Nat) (v : Engine) : (s.setEng i v).fltRead = s.fltRead := rfl
@[simp] theorem State.setEng_items (s : State) (i : Nat) (v : Engine) : (s.setEng i v).items = s.items := rfl
@[simp] theorem State.setEng_nextItem (s : State) (i : Nat) (v : Engine) : (s.setEng i v).nextItem = s.nextItem := rfl
@[simp] theorem State.setEng_jobs (s : State) (i : Nat) (v : Engine) : (s.setEng i v).jobs = s.jobs := rfl
@[simp] theorem State.setEng_intake (s : State) (i : Nat) (v : Engine) : (s.setEng i v).intake = s.intake := rfl
@[simp] theorem State.setEng_intakeNext (s : State) (i : Nat) (v : Engine) : (s.setEng i v).intakeNext = s.intakeNext := rfl
@[simp] theorem State.setEng_waitingCpl (s : State) (i : Nat) (v : Engine) : (s.setEng i v).waitingCpl = s.waitingCpl := rfl
@[simp] theorem State.setEng_unlocks (s : State) (i : Nat) (v : Engine) : (s.setEng i v).unlocks = s.unlocks := rfl
@[simp] theorem State.setEng_w1Locked (s : State) (i : Nat) (v : Engine) : (s.setEng i v).w1Locked = s.w1Locked := rfl
@[simp] theorem State.setEng_staged (s : State) (i : Nat) (v : Engine) : (s.setEng i v).staged = s.staged := rfl
@[simp] theorem State.setEng_issueQ (s : State) (i : Nat) (v : Engine) : (s.setEng i v).issueQ = s.issueQ := rfl
@[simp] theorem State.setEng_issueSeq (s : State) (i : Nat) (v : Engine) : (s.setEng i v).issueSeq = s.issueSeq := rfl
@[simp] theorem State.setEng_taken (s : State) (i : Nat) (v : Engine) : (s.setEng i v).taken = s.taken := rfl
@[simp] theorem State.setEng_expect (s : State) (i : Nat) (v : Engine) : (s.setEng i v).expect = s.expect := rfl
@[simp] theorem State.setEng_streams (s : State) (i : Nat) (v : Engine) : (s.setEng i v).streams = s.streams := rfl
@[simp] theorem State.setEng_dmas (s : State) (i : Nat) (v : Engine) : (s.setEng i v).dmas = s.dmas := rfl
@[simp] theorem State.setEng_dmaTurn (s : State) (i : Nat) (v : Engine) : (s.setEng i v).dmaTurn = s.dmaTurn := rfl
@[simp] theorem State.setEng_lanes (s : State) (i : Nat) (v : Engine) : (s.setEng i v).lanes = s.lanes := rfl
@[simp] theorem State.setEng_vlanes (s : State) (i : Nat) (v : Engine) : (s.setEng i v).vlanes = s.vlanes := rfl
@[simp] theorem State.setEng_holds (s : State) (i : Nat) (v : Engine) : (s.setEng i v).holds = s.holds := rfl
@[simp] theorem State.setEng_nzDirty (s : State) (i : Nat) (v : Engine) : (s.setEng i v).nzDirty = s.nzDirty := rfl
@[simp] theorem State.setEng_channels (s : State) (i : Nat) (v : Engine) : (s.setEng i v).channels = s.channels := rfl
@[simp] theorem State.setEng_cmps (s : State) (i : Nat) (v : Engine) : (s.setEng i v).cmps = s.cmps := rfl
@[simp] theorem State.setEng_emus (s : State) (i : Nat) (v : Engine) : (s.setEng i v).emus = s.emus := rfl
@[simp] theorem State.setEng_domains (s : State) (i : Nat) (v : Engine) : (s.setEng i v).domains = s.domains := rfl
@[simp] theorem State.setEng_heads (s : State) (i : Nat) (v : Engine) : (s.setEng i v).heads = s.heads := rfl
@[simp] theorem State.setEng_axes (s : State) (i : Nat) (v : Engine) : (s.setEng i v).axes = s.axes := rfl
@[simp] theorem State.setEng_groups (s : State) (i : Nat) (v : Engine) : (s.setEng i v).groups = s.groups := rfl
@[simp] theorem State.setEng_rejects (s : State) (i : Nat) (v : Engine) : (s.setEng i v).rejects = s.rejects := rfl
@[simp] theorem State.setEng_traces (s : State) (i : Nat) (v : Engine) : (s.setEng i v).traces = s.traces := rfl
@[simp] theorem State.setEng_timerAt (s : State) (i : Nat) (v : Engine) : (s.setEng i v).timerAt = s.timerAt := rfl
@[simp] theorem State.setEng_gateLast (s : State) (i : Nat) (v : Engine) : (s.setEng i v).gateLast = s.gateLast := rfl
@[simp] theorem State.setEng_loopSat (s : State) (i : Nat) (v : Engine) : (s.setEng i v).loopSat = s.loopSat := rfl
@[simp] theorem State.setEng_pwmDuty (s : State) (i : Nat) (v : Engine) : (s.setEng i v).pwmDuty = s.pwmDuty := rfl
@[simp] theorem State.setEng_pwmAt (s : State) (i : Nat) (v : Engine) : (s.setEng i v).pwmAt = s.pwmAt := rfl
@[simp] theorem State.setEng_ledger (s : State) (i : Nat) (v : Engine) : (s.setEng i v).ledger = s.ledger := rfl
@[simp] theorem State.setEng_geode (s : State) (i : Nat) (v : Engine) : (s.setEng i v).geode = s.geode := rfl
@[simp] theorem State.setEng_fuses (s : State) (i : Nat) (v : Engine) : (s.setEng i v).fuses = s.fuses := rfl
@[simp] theorem State.setEng_supplies (s : State) (i : Nat) (v : Engine) : (s.setEng i v).supplies = s.supplies := rfl
@[simp] theorem State.setEng_twin (s : State) (i : Nat) (v : Engine) : (s.setEng i v).twin = s.twin := rfl
@[simp] theorem State.setEng_pcie (s : State) (i : Nat) (v : Engine) : (s.setEng i v).pcie = s.pcie := rfl
@[simp] theorem State.setEng_power (s : State) (i : Nat) (v : Engine) : (s.setEng i v).power = s.power := rfl
@[simp] theorem State.setEng_boot (s : State) (i : Nat) (v : Engine) : (s.setEng i v).boot = s.boot := rfl
@[simp] theorem State.setEng_cal (s : State) (i : Nat) (v : Engine) : (s.setEng i v).cal = s.cal := rfl
@[simp] theorem State.setEng_quartz (s : State) (i : Nat) (v : Engine) : (s.setEng i v).quartz = s.quartz := rfl
@[simp] theorem State.setEng_sec (s : State) (i : Nat) (v : Engine) : (s.setEng i v).sec = s.sec := rfl
@[simp] theorem State.setEng_frozenFaultIn (s : State) (i : Nat) (v : Engine) : (s.setEng i v).frozenFaultIn = s.frozenFaultIn := rfl
@[simp] theorem State.setEng_jtagIr (s : State) (i : Nat) (v : Engine) : (s.setEng i v).jtagIr = s.jtagIr := rfl
@[simp] theorem State.setEng_bsr (s : State) (i : Nat) (v : Engine) : (s.setEng i v).bsr = s.bsr := rfl
@[simp] theorem State.setEng_scanKey (s : State) (i : Nat) (v : Engine) : (s.setEng i v).scanKey = s.scanKey := rfl
@[simp] theorem State.setEng_soft (s : State) (i : Nat) (v : Engine) : (s.setEng i v).soft = s.soft := rfl
@[simp] theorem State.setEng_wire (s : State) (i : Nat) (v : Engine) : (s.setEng i v).wire = s.wire := rfl
@[simp] theorem State.setEng_lineTx (s : State) (i : Nat) (v : Engine) : (s.setEng i v).lineTx = s.lineTx := rfl
@[simp] theorem State.setEng_lineRx (s : State) (i : Nat) (v : Engine) : (s.setEng i v).lineRx = s.lineRx := rfl
@[simp] theorem State.setEng_doneJobs (s : State) (i : Nat) (v : Engine) : (s.setEng i v).doneJobs = s.doneJobs := rfl
@[simp] theorem State.setEng_replayOut (s : State) (i : Nat) (v : Engine) : (s.setEng i v).replayOut = s.replayOut := rfl
@[simp] theorem State.setEng_planAt (s : State) (i : Nat) (v : Engine) : (s.setEng i v).planAt = s.planAt := rfl
@[simp] theorem State.setEng_riseAt (s : State) (i : Nat) (v : Engine) : (s.setEng i v).riseAt = s.riseAt := rfl
@[simp] theorem State.setEng_errPulseEnd (s : State) (i : Nat) (v : Engine) : (s.setEng i v).errPulseEnd = s.errPulseEnd := rfl
@[simp] theorem State.setEng_errRelease (s : State) (i : Nat) (v : Engine) : (s.setEng i v).errRelease = s.errRelease := rfl
@[simp] theorem State.setEng_rd (s : State) (i : Nat) (v : Engine) (c : Nat) : (s.setEng i v).rd c = s.rd c := rfl
@[simp] theorem State.setEng_f (s : State) (i : Nat) (v : Engine) (x : Field) : (s.setEng i v).f x = s.f x := rfl
@[simp] theorem State.setEng_b (s : State) (i : Nat) (v : Engine) (x : Field) : (s.setEng i v).b x = s.b x := rfl
@[simp] theorem State.setEng_rn (s : State) (i : Nat) (v : Engine) (c : Nat) : (s.setEng i v).rn c = s.rn c := rfl
@[simp] theorem State.setEng_rd64 (s : State) (i : Nat) (v : Engine) (c : Nat) : (s.setEng i v).rd64 c = s.rd64 c := rfl
@[simp] theorem State.setEng_byte (s : State) (i : Nat) (v : Engine) (c : Nat) : (s.setEng i v).byte c = s.byte c := rfl
@[simp] theorem State.setEng_readMem (s : State) (i : Nat) (v : Engine) (c n : Nat) : (s.setEng i v).readMem c n = s.readMem c n := rfl
theorem State.setEng_eng (s : State) (i : Nat) (v : Engine) (j : Nat) : (s.setEng i v).eng j = if i = j then v else s.eng j := Map.get_set _ _ _ _ _
@[simp] theorem State.setEng_eng_same (s : State) (i : Nat) (v : Engine) : (s.setEng i v).eng i = v := Map.get_set_same _ _ _ _
@[simp] theorem State.setEng_lane (s : State) (i : Nat) (v : Engine) (j : Nat) : (s.setEng i v).lane j = s.lane j := rfl
@[simp] theorem State.setEng_dom (s : State) (i : Nat) (v : Engine) (j : Nat) : (s.setEng i v).dom j = s.dom j := rfl
@[simp] theorem State.setEng_head (s : State) (i : Nat) (v : Engine) (j : Nat) : (s.setEng i v).head j = s.head j := rfl
@[simp] theorem State.setEng_axis (s : State) (i : Nat) (v : Engine) (j : Nat) : (s.setEng i v).axis j = s.axis j := rfl
@[simp] theorem State.setEng_group (s : State) (i : Nat) (v : Engine) (j : Nat) : (s.setEng i v).group j = s.group j := rfl
@[simp] theorem State.setEng_rej (s : State) (i : Nat) (v : Engine) (j : Nat) : (s.setEng i v).rej j = s.rej j := rfl
@[simp] theorem State.setEng_trace (s : State) (i : Nat) (v : Engine) (j : Nat) : (s.setEng i v).trace j = s.trace j := rfl
@[simp] theorem State.setEng_supply (s : State) (i : Nat) (v : Engine) (j : Nat) : (s.setEng i v).supply j = s.supply j := rfl
@[simp] theorem State.setEng_vlane (s : State) (i : Nat) (v : Engine) (j : Nat) : (s.setEng i v).vlane j = s.vlane j := rfl
@[simp] theorem State.setEng_chan (s : State) (i : Nat) (v : Engine) (j : Nat) : (s.setEng i v).chan j = s.chan j := rfl
@[simp] theorem State.setEng_cmp (s : State) (i : Nat) (v : Engine) (j : Nat) : (s.setEng i v).cmp j = s.cmp j := rfl
@[simp] theorem State.setEng_emu (s : State) (i : Nat) (v : Engine) (j : Nat) : (s.setEng i v).emu j = s.emu j := rfl
@[simp] theorem State.setEng_strm (s : State) (i : Nat) (v : Engine) (j : Nat) : (s.setEng i v).strm j = s.strm j := rfl
@[simp] theorem State.setEng_dma (s : State) (i : Nat) (v : Engine) (j : Nat) : (s.setEng i v).dma j = s.dma j := rfl

/-! setLane -/

@[simp] theorem State.setLane_regs (s : State) (i : Nat) (v : Lane) : (s.setLane i v).regs = s.regs := rfl
@[simp] theorem State.setLane_mem (s : State) (i : Nat) (v : Lane) : (s.setLane i v).mem = s.mem := rfl
@[simp] theorem State.setLane_poison (s : State) (i : Nat) (v : Lane) : (s.setLane i v).poison = s.poison := rfl
@[simp] theorem State.setLane_tb (s : State) (i : Nat) (v : Lane) : (s.setLane i v).tb = s.tb := rfl
@[simp] theorem State.setLane_pending (s : State) (i : Nat) (v : Lane) : (s.setLane i v).pending = s.pending := rfl
@[simp] theorem State.setLane_out (s : State) (i : Nat) (v : Lane) : (s.setLane i v).out = s.out := rfl
@[simp] theorem State.setLane_free (s : State) (i : Nat) (v : Lane) : (s.setLane i v).free = s.free := rfl
@[simp] theorem State.setLane_firstThis (s : State) (i : Nat) (v : Lane) : (s.setLane i v).firstThis = s.firstThis := rfl
@[simp] theorem State.setLane_fltRead (s : State) (i : Nat) (v : Lane) : (s.setLane i v).fltRead = s.fltRead := rfl
@[simp] theorem State.setLane_engines (s : State) (i : Nat) (v : Lane) : (s.setLane i v).engines = s.engines := rfl
@[simp] theorem State.setLane_items (s : State) (i : Nat) (v : Lane) : (s.setLane i v).items = s.items := rfl
@[simp] theorem State.setLane_nextItem (s : State) (i : Nat) (v : Lane) : (s.setLane i v).nextItem = s.nextItem := rfl
@[simp] theorem State.setLane_jobs (s : State) (i : Nat) (v : Lane) : (s.setLane i v).jobs = s.jobs := rfl
@[simp] theorem State.setLane_intake (s : State) (i : Nat) (v : Lane) : (s.setLane i v).intake = s.intake := rfl
@[simp] theorem State.setLane_intakeNext (s : State) (i : Nat) (v : Lane) : (s.setLane i v).intakeNext = s.intakeNext := rfl
@[simp] theorem State.setLane_waitingCpl (s : State) (i : Nat) (v : Lane) : (s.setLane i v).waitingCpl = s.waitingCpl := rfl
@[simp] theorem State.setLane_unlocks (s : State) (i : Nat) (v : Lane) : (s.setLane i v).unlocks = s.unlocks := rfl
@[simp] theorem State.setLane_w1Locked (s : State) (i : Nat) (v : Lane) : (s.setLane i v).w1Locked = s.w1Locked := rfl
@[simp] theorem State.setLane_staged (s : State) (i : Nat) (v : Lane) : (s.setLane i v).staged = s.staged := rfl
@[simp] theorem State.setLane_issueQ (s : State) (i : Nat) (v : Lane) : (s.setLane i v).issueQ = s.issueQ := rfl
@[simp] theorem State.setLane_issueSeq (s : State) (i : Nat) (v : Lane) : (s.setLane i v).issueSeq = s.issueSeq := rfl
@[simp] theorem State.setLane_taken (s : State) (i : Nat) (v : Lane) : (s.setLane i v).taken = s.taken := rfl
@[simp] theorem State.setLane_expect (s : State) (i : Nat) (v : Lane) : (s.setLane i v).expect = s.expect := rfl
@[simp] theorem State.setLane_streams (s : State) (i : Nat) (v : Lane) : (s.setLane i v).streams = s.streams := rfl
@[simp] theorem State.setLane_dmas (s : State) (i : Nat) (v : Lane) : (s.setLane i v).dmas = s.dmas := rfl
@[simp] theorem State.setLane_dmaTurn (s : State) (i : Nat) (v : Lane) : (s.setLane i v).dmaTurn = s.dmaTurn := rfl
@[simp] theorem State.setLane_vlanes (s : State) (i : Nat) (v : Lane) : (s.setLane i v).vlanes = s.vlanes := rfl
@[simp] theorem State.setLane_holds (s : State) (i : Nat) (v : Lane) : (s.setLane i v).holds = s.holds := rfl
@[simp] theorem State.setLane_nzDirty (s : State) (i : Nat) (v : Lane) : (s.setLane i v).nzDirty = s.nzDirty := rfl
@[simp] theorem State.setLane_channels (s : State) (i : Nat) (v : Lane) : (s.setLane i v).channels = s.channels := rfl
@[simp] theorem State.setLane_cmps (s : State) (i : Nat) (v : Lane) : (s.setLane i v).cmps = s.cmps := rfl
@[simp] theorem State.setLane_emus (s : State) (i : Nat) (v : Lane) : (s.setLane i v).emus = s.emus := rfl
@[simp] theorem State.setLane_domains (s : State) (i : Nat) (v : Lane) : (s.setLane i v).domains = s.domains := rfl
@[simp] theorem State.setLane_heads (s : State) (i : Nat) (v : Lane) : (s.setLane i v).heads = s.heads := rfl
@[simp] theorem State.setLane_axes (s : State) (i : Nat) (v : Lane) : (s.setLane i v).axes = s.axes := rfl
@[simp] theorem State.setLane_groups (s : State) (i : Nat) (v : Lane) : (s.setLane i v).groups = s.groups := rfl
@[simp] theorem State.setLane_rejects (s : State) (i : Nat) (v : Lane) : (s.setLane i v).rejects = s.rejects := rfl
@[simp] theorem State.setLane_traces (s : State) (i : Nat) (v : Lane) : (s.setLane i v).traces = s.traces := rfl
@[simp] theorem State.setLane_timerAt (s : State) (i : Nat) (v : Lane) : (s.setLane i v).timerAt = s.timerAt := rfl
@[simp] theorem State.setLane_gateLast (s : State) (i : Nat) (v : Lane) : (s.setLane i v).gateLast = s.gateLast := rfl
@[simp] theorem State.setLane_loopSat (s : State) (i : Nat) (v : Lane) : (s.setLane i v).loopSat = s.loopSat := rfl
@[simp] theorem State.setLane_pwmDuty (s : State) (i : Nat) (v : Lane) : (s.setLane i v).pwmDuty = s.pwmDuty := rfl
@[simp] theorem State.setLane_pwmAt (s : State) (i : Nat) (v : Lane) : (s.setLane i v).pwmAt = s.pwmAt := rfl
@[simp] theorem State.setLane_ledger (s : State) (i : Nat) (v : Lane) : (s.setLane i v).ledger = s.ledger := rfl
@[simp] theorem State.setLane_geode (s : State) (i : Nat) (v : Lane) : (s.setLane i v).geode = s.geode := rfl
@[simp] theorem State.setLane_fuses (s : State) (i : Nat) (v : Lane) : (s.setLane i v).fuses = s.fuses := rfl
@[simp] theorem State.setLane_supplies (s : State) (i : Nat) (v : Lane) : (s.setLane i v).supplies = s.supplies := rfl
@[simp] theorem State.setLane_twin (s : State) (i : Nat) (v : Lane) : (s.setLane i v).twin = s.twin := rfl
@[simp] theorem State.setLane_pcie (s : State) (i : Nat) (v : Lane) : (s.setLane i v).pcie = s.pcie := rfl
@[simp] theorem State.setLane_power (s : State) (i : Nat) (v : Lane) : (s.setLane i v).power = s.power := rfl
@[simp] theorem State.setLane_boot (s : State) (i : Nat) (v : Lane) : (s.setLane i v).boot = s.boot := rfl
@[simp] theorem State.setLane_cal (s : State) (i : Nat) (v : Lane) : (s.setLane i v).cal = s.cal := rfl
@[simp] theorem State.setLane_quartz (s : State) (i : Nat) (v : Lane) : (s.setLane i v).quartz = s.quartz := rfl
@[simp] theorem State.setLane_sec (s : State) (i : Nat) (v : Lane) : (s.setLane i v).sec = s.sec := rfl
@[simp] theorem State.setLane_frozenFaultIn (s : State) (i : Nat) (v : Lane) : (s.setLane i v).frozenFaultIn = s.frozenFaultIn := rfl
@[simp] theorem State.setLane_jtagIr (s : State) (i : Nat) (v : Lane) : (s.setLane i v).jtagIr = s.jtagIr := rfl
@[simp] theorem State.setLane_bsr (s : State) (i : Nat) (v : Lane) : (s.setLane i v).bsr = s.bsr := rfl
@[simp] theorem State.setLane_scanKey (s : State) (i : Nat) (v : Lane) : (s.setLane i v).scanKey = s.scanKey := rfl
@[simp] theorem State.setLane_soft (s : State) (i : Nat) (v : Lane) : (s.setLane i v).soft = s.soft := rfl
@[simp] theorem State.setLane_wire (s : State) (i : Nat) (v : Lane) : (s.setLane i v).wire = s.wire := rfl
@[simp] theorem State.setLane_lineTx (s : State) (i : Nat) (v : Lane) : (s.setLane i v).lineTx = s.lineTx := rfl
@[simp] theorem State.setLane_lineRx (s : State) (i : Nat) (v : Lane) : (s.setLane i v).lineRx = s.lineRx := rfl
@[simp] theorem State.setLane_doneJobs (s : State) (i : Nat) (v : Lane) : (s.setLane i v).doneJobs = s.doneJobs := rfl
@[simp] theorem State.setLane_replayOut (s : State) (i : Nat) (v : Lane) : (s.setLane i v).replayOut = s.replayOut := rfl
@[simp] theorem State.setLane_planAt (s : State) (i : Nat) (v : Lane) : (s.setLane i v).planAt = s.planAt := rfl
@[simp] theorem State.setLane_riseAt (s : State) (i : Nat) (v : Lane) : (s.setLane i v).riseAt = s.riseAt := rfl
@[simp] theorem State.setLane_errPulseEnd (s : State) (i : Nat) (v : Lane) : (s.setLane i v).errPulseEnd = s.errPulseEnd := rfl
@[simp] theorem State.setLane_errRelease (s : State) (i : Nat) (v : Lane) : (s.setLane i v).errRelease = s.errRelease := rfl
@[simp] theorem State.setLane_rd (s : State) (i : Nat) (v : Lane) (c : Nat) : (s.setLane i v).rd c = s.rd c := rfl
@[simp] theorem State.setLane_f (s : State) (i : Nat) (v : Lane) (x : Field) : (s.setLane i v).f x = s.f x := rfl
@[simp] theorem State.setLane_b (s : State) (i : Nat) (v : Lane) (x : Field) : (s.setLane i v).b x = s.b x := rfl
@[simp] theorem State.setLane_rn (s : State) (i : Nat) (v : Lane) (c : Nat) : (s.setLane i v).rn c = s.rn c := rfl
@[simp] theorem State.setLane_rd64 (s : State) (i : Nat) (v : Lane) (c : Nat) : (s.setLane i v).rd64 c = s.rd64 c := rfl
@[simp] theorem State.setLane_byte (s : State) (i : Nat) (v : Lane) (c : Nat) : (s.setLane i v).byte c = s.byte c := rfl
@[simp] theorem State.setLane_readMem (s : State) (i : Nat) (v : Lane) (c n : Nat) : (s.setLane i v).readMem c n = s.readMem c n := rfl
@[simp] theorem State.setLane_eng (s : State) (i : Nat) (v : Lane) (j : Nat) : (s.setLane i v).eng j = s.eng j := rfl
theorem State.setLane_lane (s : State) (i : Nat) (v : Lane) (j : Nat) :
    (s.setLane i v).lane j = if i = j then v else s.lane j := Map.get_set _ _ _ _ _
@[simp] theorem State.setLane_lane_same (s : State) (i : Nat) (v : Lane) : (s.setLane i v).lane i = v := Map.get_set_same _ _ _ _
@[simp] theorem State.setLane_dom (s : State) (i : Nat) (v : Lane) (j : Nat) : (s.setLane i v).dom j = s.dom j := rfl
@[simp] theorem State.setLane_head (s : State) (i : Nat) (v : Lane) (j : Nat) : (s.setLane i v).head j = s.head j := rfl
@[simp] theorem State.setLane_axis (s : State) (i : Nat) (v : Lane) (j : Nat) : (s.setLane i v).axis j = s.axis j := rfl
@[simp] theorem State.setLane_group (s : State) (i : Nat) (v : Lane) (j : Nat) : (s.setLane i v).group j = s.group j := rfl
@[simp] theorem State.setLane_rej (s : State) (i : Nat) (v : Lane) (j : Nat) : (s.setLane i v).rej j = s.rej j := rfl
@[simp] theorem State.setLane_trace (s : State) (i : Nat) (v : Lane) (j : Nat) : (s.setLane i v).trace j = s.trace j := rfl
@[simp] theorem State.setLane_supply (s : State) (i : Nat) (v : Lane) (j : Nat) : (s.setLane i v).supply j = s.supply j := rfl
@[simp] theorem State.setLane_vlane (s : State) (i : Nat) (v : Lane) (j : Nat) : (s.setLane i v).vlane j = s.vlane j := rfl
@[simp] theorem State.setLane_chan (s : State) (i : Nat) (v : Lane) (j : Nat) : (s.setLane i v).chan j = s.chan j := rfl
@[simp] theorem State.setLane_cmp (s : State) (i : Nat) (v : Lane) (j : Nat) : (s.setLane i v).cmp j = s.cmp j := rfl
@[simp] theorem State.setLane_emu (s : State) (i : Nat) (v : Lane) (j : Nat) : (s.setLane i v).emu j = s.emu j := rfl
@[simp] theorem State.setLane_strm (s : State) (i : Nat) (v : Lane) (j : Nat) : (s.setLane i v).strm j = s.strm j := rfl
@[simp] theorem State.setLane_dma (s : State) (i : Nat) (v : Lane) (j : Nat) : (s.setLane i v).dma j = s.dma j := rfl

/-! setDom -/

@[simp] theorem State.setDom_regs (s : State) (i : Nat) (v : Domain) : (s.setDom i v).regs = s.regs := rfl
@[simp] theorem State.setDom_mem (s : State) (i : Nat) (v : Domain) : (s.setDom i v).mem = s.mem := rfl
@[simp] theorem State.setDom_poison (s : State) (i : Nat) (v : Domain) : (s.setDom i v).poison = s.poison := rfl
@[simp] theorem State.setDom_tb (s : State) (i : Nat) (v : Domain) : (s.setDom i v).tb = s.tb := rfl
@[simp] theorem State.setDom_pending (s : State) (i : Nat) (v : Domain) : (s.setDom i v).pending = s.pending := rfl
@[simp] theorem State.setDom_out (s : State) (i : Nat) (v : Domain) : (s.setDom i v).out = s.out := rfl
@[simp] theorem State.setDom_free (s : State) (i : Nat) (v : Domain) : (s.setDom i v).free = s.free := rfl
@[simp] theorem State.setDom_firstThis (s : State) (i : Nat) (v : Domain) : (s.setDom i v).firstThis = s.firstThis := rfl
@[simp] theorem State.setDom_fltRead (s : State) (i : Nat) (v : Domain) : (s.setDom i v).fltRead = s.fltRead := rfl
@[simp] theorem State.setDom_engines (s : State) (i : Nat) (v : Domain) : (s.setDom i v).engines = s.engines := rfl
@[simp] theorem State.setDom_items (s : State) (i : Nat) (v : Domain) : (s.setDom i v).items = s.items := rfl
@[simp] theorem State.setDom_nextItem (s : State) (i : Nat) (v : Domain) : (s.setDom i v).nextItem = s.nextItem := rfl
@[simp] theorem State.setDom_jobs (s : State) (i : Nat) (v : Domain) : (s.setDom i v).jobs = s.jobs := rfl
@[simp] theorem State.setDom_intake (s : State) (i : Nat) (v : Domain) : (s.setDom i v).intake = s.intake := rfl
@[simp] theorem State.setDom_intakeNext (s : State) (i : Nat) (v : Domain) : (s.setDom i v).intakeNext = s.intakeNext := rfl
@[simp] theorem State.setDom_waitingCpl (s : State) (i : Nat) (v : Domain) : (s.setDom i v).waitingCpl = s.waitingCpl := rfl
@[simp] theorem State.setDom_unlocks (s : State) (i : Nat) (v : Domain) : (s.setDom i v).unlocks = s.unlocks := rfl
@[simp] theorem State.setDom_w1Locked (s : State) (i : Nat) (v : Domain) : (s.setDom i v).w1Locked = s.w1Locked := rfl
@[simp] theorem State.setDom_staged (s : State) (i : Nat) (v : Domain) : (s.setDom i v).staged = s.staged := rfl
@[simp] theorem State.setDom_issueQ (s : State) (i : Nat) (v : Domain) : (s.setDom i v).issueQ = s.issueQ := rfl
@[simp] theorem State.setDom_issueSeq (s : State) (i : Nat) (v : Domain) : (s.setDom i v).issueSeq = s.issueSeq := rfl
@[simp] theorem State.setDom_taken (s : State) (i : Nat) (v : Domain) : (s.setDom i v).taken = s.taken := rfl
@[simp] theorem State.setDom_expect (s : State) (i : Nat) (v : Domain) : (s.setDom i v).expect = s.expect := rfl
@[simp] theorem State.setDom_streams (s : State) (i : Nat) (v : Domain) : (s.setDom i v).streams = s.streams := rfl
@[simp] theorem State.setDom_dmas (s : State) (i : Nat) (v : Domain) : (s.setDom i v).dmas = s.dmas := rfl
@[simp] theorem State.setDom_dmaTurn (s : State) (i : Nat) (v : Domain) : (s.setDom i v).dmaTurn = s.dmaTurn := rfl
@[simp] theorem State.setDom_lanes (s : State) (i : Nat) (v : Domain) : (s.setDom i v).lanes = s.lanes := rfl
@[simp] theorem State.setDom_vlanes (s : State) (i : Nat) (v : Domain) : (s.setDom i v).vlanes = s.vlanes := rfl
@[simp] theorem State.setDom_holds (s : State) (i : Nat) (v : Domain) : (s.setDom i v).holds = s.holds := rfl
@[simp] theorem State.setDom_nzDirty (s : State) (i : Nat) (v : Domain) : (s.setDom i v).nzDirty = s.nzDirty := rfl
@[simp] theorem State.setDom_channels (s : State) (i : Nat) (v : Domain) : (s.setDom i v).channels = s.channels := rfl
@[simp] theorem State.setDom_cmps (s : State) (i : Nat) (v : Domain) : (s.setDom i v).cmps = s.cmps := rfl
@[simp] theorem State.setDom_emus (s : State) (i : Nat) (v : Domain) : (s.setDom i v).emus = s.emus := rfl
@[simp] theorem State.setDom_heads (s : State) (i : Nat) (v : Domain) : (s.setDom i v).heads = s.heads := rfl
@[simp] theorem State.setDom_axes (s : State) (i : Nat) (v : Domain) : (s.setDom i v).axes = s.axes := rfl
@[simp] theorem State.setDom_groups (s : State) (i : Nat) (v : Domain) : (s.setDom i v).groups = s.groups := rfl
@[simp] theorem State.setDom_rejects (s : State) (i : Nat) (v : Domain) : (s.setDom i v).rejects = s.rejects := rfl
@[simp] theorem State.setDom_traces (s : State) (i : Nat) (v : Domain) : (s.setDom i v).traces = s.traces := rfl
@[simp] theorem State.setDom_timerAt (s : State) (i : Nat) (v : Domain) : (s.setDom i v).timerAt = s.timerAt := rfl
@[simp] theorem State.setDom_gateLast (s : State) (i : Nat) (v : Domain) : (s.setDom i v).gateLast = s.gateLast := rfl
@[simp] theorem State.setDom_loopSat (s : State) (i : Nat) (v : Domain) : (s.setDom i v).loopSat = s.loopSat := rfl
@[simp] theorem State.setDom_pwmDuty (s : State) (i : Nat) (v : Domain) : (s.setDom i v).pwmDuty = s.pwmDuty := rfl
@[simp] theorem State.setDom_pwmAt (s : State) (i : Nat) (v : Domain) : (s.setDom i v).pwmAt = s.pwmAt := rfl
@[simp] theorem State.setDom_ledger (s : State) (i : Nat) (v : Domain) : (s.setDom i v).ledger = s.ledger := rfl
@[simp] theorem State.setDom_geode (s : State) (i : Nat) (v : Domain) : (s.setDom i v).geode = s.geode := rfl
@[simp] theorem State.setDom_fuses (s : State) (i : Nat) (v : Domain) : (s.setDom i v).fuses = s.fuses := rfl
@[simp] theorem State.setDom_supplies (s : State) (i : Nat) (v : Domain) : (s.setDom i v).supplies = s.supplies := rfl
@[simp] theorem State.setDom_twin (s : State) (i : Nat) (v : Domain) : (s.setDom i v).twin = s.twin := rfl
@[simp] theorem State.setDom_pcie (s : State) (i : Nat) (v : Domain) : (s.setDom i v).pcie = s.pcie := rfl
@[simp] theorem State.setDom_power (s : State) (i : Nat) (v : Domain) : (s.setDom i v).power = s.power := rfl
@[simp] theorem State.setDom_boot (s : State) (i : Nat) (v : Domain) : (s.setDom i v).boot = s.boot := rfl
@[simp] theorem State.setDom_cal (s : State) (i : Nat) (v : Domain) : (s.setDom i v).cal = s.cal := rfl
@[simp] theorem State.setDom_quartz (s : State) (i : Nat) (v : Domain) : (s.setDom i v).quartz = s.quartz := rfl
@[simp] theorem State.setDom_sec (s : State) (i : Nat) (v : Domain) : (s.setDom i v).sec = s.sec := rfl
@[simp] theorem State.setDom_frozenFaultIn (s : State) (i : Nat) (v : Domain) : (s.setDom i v).frozenFaultIn = s.frozenFaultIn := rfl
@[simp] theorem State.setDom_jtagIr (s : State) (i : Nat) (v : Domain) : (s.setDom i v).jtagIr = s.jtagIr := rfl
@[simp] theorem State.setDom_bsr (s : State) (i : Nat) (v : Domain) : (s.setDom i v).bsr = s.bsr := rfl
@[simp] theorem State.setDom_scanKey (s : State) (i : Nat) (v : Domain) : (s.setDom i v).scanKey = s.scanKey := rfl
@[simp] theorem State.setDom_soft (s : State) (i : Nat) (v : Domain) : (s.setDom i v).soft = s.soft := rfl
@[simp] theorem State.setDom_wire (s : State) (i : Nat) (v : Domain) : (s.setDom i v).wire = s.wire := rfl
@[simp] theorem State.setDom_lineTx (s : State) (i : Nat) (v : Domain) : (s.setDom i v).lineTx = s.lineTx := rfl
@[simp] theorem State.setDom_lineRx (s : State) (i : Nat) (v : Domain) : (s.setDom i v).lineRx = s.lineRx := rfl
@[simp] theorem State.setDom_doneJobs (s : State) (i : Nat) (v : Domain) : (s.setDom i v).doneJobs = s.doneJobs := rfl
@[simp] theorem State.setDom_replayOut (s : State) (i : Nat) (v : Domain) : (s.setDom i v).replayOut = s.replayOut := rfl
@[simp] theorem State.setDom_planAt (s : State) (i : Nat) (v : Domain) : (s.setDom i v).planAt = s.planAt := rfl
@[simp] theorem State.setDom_riseAt (s : State) (i : Nat) (v : Domain) : (s.setDom i v).riseAt = s.riseAt := rfl
@[simp] theorem State.setDom_errPulseEnd (s : State) (i : Nat) (v : Domain) : (s.setDom i v).errPulseEnd = s.errPulseEnd := rfl
@[simp] theorem State.setDom_errRelease (s : State) (i : Nat) (v : Domain) : (s.setDom i v).errRelease = s.errRelease := rfl
@[simp] theorem State.setDom_rd (s : State) (i : Nat) (v : Domain) (c : Nat) : (s.setDom i v).rd c = s.rd c := rfl
@[simp] theorem State.setDom_f (s : State) (i : Nat) (v : Domain) (x : Field) : (s.setDom i v).f x = s.f x := rfl
@[simp] theorem State.setDom_b (s : State) (i : Nat) (v : Domain) (x : Field) : (s.setDom i v).b x = s.b x := rfl
@[simp] theorem State.setDom_rn (s : State) (i : Nat) (v : Domain) (c : Nat) : (s.setDom i v).rn c = s.rn c := rfl
@[simp] theorem State.setDom_rd64 (s : State) (i : Nat) (v : Domain) (c : Nat) : (s.setDom i v).rd64 c = s.rd64 c := rfl
@[simp] theorem State.setDom_byte (s : State) (i : Nat) (v : Domain) (c : Nat) : (s.setDom i v).byte c = s.byte c := rfl
@[simp] theorem State.setDom_readMem (s : State) (i : Nat) (v : Domain) (c n : Nat) : (s.setDom i v).readMem c n = s.readMem c n := rfl
@[simp] theorem State.setDom_eng (s : State) (i : Nat) (v : Domain) (j : Nat) : (s.setDom i v).eng j = s.eng j := rfl
@[simp] theorem State.setDom_lane (s : State) (i : Nat) (v : Domain) (j : Nat) : (s.setDom i v).lane j = s.lane j := rfl
theorem State.setDom_dom (s : State) (i : Nat) (v : Domain) (j : Nat) : (s.setDom i v).dom j = if i = j then v else s.dom j := Map.get_set _ _ _ _ _
@[simp] theorem State.setDom_dom_same (s : State) (i : Nat) (v : Domain) : (s.setDom i v).dom i = v := Map.get_set_same _ _ _ _
@[simp] theorem State.setDom_head (s : State) (i : Nat) (v : Domain) (j : Nat) : (s.setDom i v).head j = s.head j := rfl
@[simp] theorem State.setDom_axis (s : State) (i : Nat) (v : Domain) (j : Nat) : (s.setDom i v).axis j = s.axis j := rfl
@[simp] theorem State.setDom_group (s : State) (i : Nat) (v : Domain) (j : Nat) : (s.setDom i v).group j = s.group j := rfl
@[simp] theorem State.setDom_rej (s : State) (i : Nat) (v : Domain) (j : Nat) : (s.setDom i v).rej j = s.rej j := rfl
@[simp] theorem State.setDom_trace (s : State) (i : Nat) (v : Domain) (j : Nat) : (s.setDom i v).trace j = s.trace j := rfl
@[simp] theorem State.setDom_supply (s : State) (i : Nat) (v : Domain) (j : Nat) : (s.setDom i v).supply j = s.supply j := rfl
@[simp] theorem State.setDom_vlane (s : State) (i : Nat) (v : Domain) (j : Nat) : (s.setDom i v).vlane j = s.vlane j := rfl
@[simp] theorem State.setDom_chan (s : State) (i : Nat) (v : Domain) (j : Nat) : (s.setDom i v).chan j = s.chan j := rfl
@[simp] theorem State.setDom_cmp (s : State) (i : Nat) (v : Domain) (j : Nat) : (s.setDom i v).cmp j = s.cmp j := rfl
@[simp] theorem State.setDom_emu (s : State) (i : Nat) (v : Domain) (j : Nat) : (s.setDom i v).emu j = s.emu j := rfl
@[simp] theorem State.setDom_strm (s : State) (i : Nat) (v : Domain) (j : Nat) : (s.setDom i v).strm j = s.strm j := rfl
@[simp] theorem State.setDom_dma (s : State) (i : Nat) (v : Domain) (j : Nat) : (s.setDom i v).dma j = s.dma j := rfl

/-! setHead -/

@[simp] theorem State.setHead_regs (s : State) (i : Nat) (v : Head) : (s.setHead i v).regs = s.regs := rfl
@[simp] theorem State.setHead_mem (s : State) (i : Nat) (v : Head) : (s.setHead i v).mem = s.mem := rfl
@[simp] theorem State.setHead_poison (s : State) (i : Nat) (v : Head) : (s.setHead i v).poison = s.poison := rfl
@[simp] theorem State.setHead_tb (s : State) (i : Nat) (v : Head) : (s.setHead i v).tb = s.tb := rfl
@[simp] theorem State.setHead_pending (s : State) (i : Nat) (v : Head) : (s.setHead i v).pending = s.pending := rfl
@[simp] theorem State.setHead_out (s : State) (i : Nat) (v : Head) : (s.setHead i v).out = s.out := rfl
@[simp] theorem State.setHead_free (s : State) (i : Nat) (v : Head) : (s.setHead i v).free = s.free := rfl
@[simp] theorem State.setHead_firstThis (s : State) (i : Nat) (v : Head) : (s.setHead i v).firstThis = s.firstThis := rfl
@[simp] theorem State.setHead_fltRead (s : State) (i : Nat) (v : Head) : (s.setHead i v).fltRead = s.fltRead := rfl
@[simp] theorem State.setHead_engines (s : State) (i : Nat) (v : Head) : (s.setHead i v).engines = s.engines := rfl
@[simp] theorem State.setHead_items (s : State) (i : Nat) (v : Head) : (s.setHead i v).items = s.items := rfl
@[simp] theorem State.setHead_nextItem (s : State) (i : Nat) (v : Head) : (s.setHead i v).nextItem = s.nextItem := rfl
@[simp] theorem State.setHead_jobs (s : State) (i : Nat) (v : Head) : (s.setHead i v).jobs = s.jobs := rfl
@[simp] theorem State.setHead_intake (s : State) (i : Nat) (v : Head) : (s.setHead i v).intake = s.intake := rfl
@[simp] theorem State.setHead_intakeNext (s : State) (i : Nat) (v : Head) : (s.setHead i v).intakeNext = s.intakeNext := rfl
@[simp] theorem State.setHead_waitingCpl (s : State) (i : Nat) (v : Head) : (s.setHead i v).waitingCpl = s.waitingCpl := rfl
@[simp] theorem State.setHead_unlocks (s : State) (i : Nat) (v : Head) : (s.setHead i v).unlocks = s.unlocks := rfl
@[simp] theorem State.setHead_w1Locked (s : State) (i : Nat) (v : Head) : (s.setHead i v).w1Locked = s.w1Locked := rfl
@[simp] theorem State.setHead_staged (s : State) (i : Nat) (v : Head) : (s.setHead i v).staged = s.staged := rfl
@[simp] theorem State.setHead_issueQ (s : State) (i : Nat) (v : Head) : (s.setHead i v).issueQ = s.issueQ := rfl
@[simp] theorem State.setHead_issueSeq (s : State) (i : Nat) (v : Head) : (s.setHead i v).issueSeq = s.issueSeq := rfl
@[simp] theorem State.setHead_taken (s : State) (i : Nat) (v : Head) : (s.setHead i v).taken = s.taken := rfl
@[simp] theorem State.setHead_expect (s : State) (i : Nat) (v : Head) : (s.setHead i v).expect = s.expect := rfl
@[simp] theorem State.setHead_streams (s : State) (i : Nat) (v : Head) : (s.setHead i v).streams = s.streams := rfl
@[simp] theorem State.setHead_dmas (s : State) (i : Nat) (v : Head) : (s.setHead i v).dmas = s.dmas := rfl
@[simp] theorem State.setHead_dmaTurn (s : State) (i : Nat) (v : Head) : (s.setHead i v).dmaTurn = s.dmaTurn := rfl
@[simp] theorem State.setHead_lanes (s : State) (i : Nat) (v : Head) : (s.setHead i v).lanes = s.lanes := rfl
@[simp] theorem State.setHead_vlanes (s : State) (i : Nat) (v : Head) : (s.setHead i v).vlanes = s.vlanes := rfl
@[simp] theorem State.setHead_holds (s : State) (i : Nat) (v : Head) : (s.setHead i v).holds = s.holds := rfl
@[simp] theorem State.setHead_nzDirty (s : State) (i : Nat) (v : Head) : (s.setHead i v).nzDirty = s.nzDirty := rfl
@[simp] theorem State.setHead_channels (s : State) (i : Nat) (v : Head) : (s.setHead i v).channels = s.channels := rfl
@[simp] theorem State.setHead_cmps (s : State) (i : Nat) (v : Head) : (s.setHead i v).cmps = s.cmps := rfl
@[simp] theorem State.setHead_emus (s : State) (i : Nat) (v : Head) : (s.setHead i v).emus = s.emus := rfl
@[simp] theorem State.setHead_domains (s : State) (i : Nat) (v : Head) : (s.setHead i v).domains = s.domains := rfl
@[simp] theorem State.setHead_axes (s : State) (i : Nat) (v : Head) : (s.setHead i v).axes = s.axes := rfl
@[simp] theorem State.setHead_groups (s : State) (i : Nat) (v : Head) : (s.setHead i v).groups = s.groups := rfl
@[simp] theorem State.setHead_rejects (s : State) (i : Nat) (v : Head) : (s.setHead i v).rejects = s.rejects := rfl
@[simp] theorem State.setHead_traces (s : State) (i : Nat) (v : Head) : (s.setHead i v).traces = s.traces := rfl
@[simp] theorem State.setHead_timerAt (s : State) (i : Nat) (v : Head) : (s.setHead i v).timerAt = s.timerAt := rfl
@[simp] theorem State.setHead_gateLast (s : State) (i : Nat) (v : Head) : (s.setHead i v).gateLast = s.gateLast := rfl
@[simp] theorem State.setHead_loopSat (s : State) (i : Nat) (v : Head) : (s.setHead i v).loopSat = s.loopSat := rfl
@[simp] theorem State.setHead_pwmDuty (s : State) (i : Nat) (v : Head) : (s.setHead i v).pwmDuty = s.pwmDuty := rfl
@[simp] theorem State.setHead_pwmAt (s : State) (i : Nat) (v : Head) : (s.setHead i v).pwmAt = s.pwmAt := rfl
@[simp] theorem State.setHead_ledger (s : State) (i : Nat) (v : Head) : (s.setHead i v).ledger = s.ledger := rfl
@[simp] theorem State.setHead_geode (s : State) (i : Nat) (v : Head) : (s.setHead i v).geode = s.geode := rfl
@[simp] theorem State.setHead_fuses (s : State) (i : Nat) (v : Head) : (s.setHead i v).fuses = s.fuses := rfl
@[simp] theorem State.setHead_supplies (s : State) (i : Nat) (v : Head) : (s.setHead i v).supplies = s.supplies := rfl
@[simp] theorem State.setHead_twin (s : State) (i : Nat) (v : Head) : (s.setHead i v).twin = s.twin := rfl
@[simp] theorem State.setHead_pcie (s : State) (i : Nat) (v : Head) : (s.setHead i v).pcie = s.pcie := rfl
@[simp] theorem State.setHead_power (s : State) (i : Nat) (v : Head) : (s.setHead i v).power = s.power := rfl
@[simp] theorem State.setHead_boot (s : State) (i : Nat) (v : Head) : (s.setHead i v).boot = s.boot := rfl
@[simp] theorem State.setHead_cal (s : State) (i : Nat) (v : Head) : (s.setHead i v).cal = s.cal := rfl
@[simp] theorem State.setHead_quartz (s : State) (i : Nat) (v : Head) : (s.setHead i v).quartz = s.quartz := rfl
@[simp] theorem State.setHead_sec (s : State) (i : Nat) (v : Head) : (s.setHead i v).sec = s.sec := rfl
@[simp] theorem State.setHead_frozenFaultIn (s : State) (i : Nat) (v : Head) : (s.setHead i v).frozenFaultIn = s.frozenFaultIn := rfl
@[simp] theorem State.setHead_jtagIr (s : State) (i : Nat) (v : Head) : (s.setHead i v).jtagIr = s.jtagIr := rfl
@[simp] theorem State.setHead_bsr (s : State) (i : Nat) (v : Head) : (s.setHead i v).bsr = s.bsr := rfl
@[simp] theorem State.setHead_scanKey (s : State) (i : Nat) (v : Head) : (s.setHead i v).scanKey = s.scanKey := rfl
@[simp] theorem State.setHead_soft (s : State) (i : Nat) (v : Head) : (s.setHead i v).soft = s.soft := rfl
@[simp] theorem State.setHead_wire (s : State) (i : Nat) (v : Head) : (s.setHead i v).wire = s.wire := rfl
@[simp] theorem State.setHead_lineTx (s : State) (i : Nat) (v : Head) : (s.setHead i v).lineTx = s.lineTx := rfl
@[simp] theorem State.setHead_lineRx (s : State) (i : Nat) (v : Head) : (s.setHead i v).lineRx = s.lineRx := rfl
@[simp] theorem State.setHead_doneJobs (s : State) (i : Nat) (v : Head) : (s.setHead i v).doneJobs = s.doneJobs := rfl
@[simp] theorem State.setHead_replayOut (s : State) (i : Nat) (v : Head) : (s.setHead i v).replayOut = s.replayOut := rfl
@[simp] theorem State.setHead_planAt (s : State) (i : Nat) (v : Head) : (s.setHead i v).planAt = s.planAt := rfl
@[simp] theorem State.setHead_riseAt (s : State) (i : Nat) (v : Head) : (s.setHead i v).riseAt = s.riseAt := rfl
@[simp] theorem State.setHead_errPulseEnd (s : State) (i : Nat) (v : Head) : (s.setHead i v).errPulseEnd = s.errPulseEnd := rfl
@[simp] theorem State.setHead_errRelease (s : State) (i : Nat) (v : Head) : (s.setHead i v).errRelease = s.errRelease := rfl
@[simp] theorem State.setHead_rd (s : State) (i : Nat) (v : Head) (c : Nat) : (s.setHead i v).rd c = s.rd c := rfl
@[simp] theorem State.setHead_f (s : State) (i : Nat) (v : Head) (x : Field) : (s.setHead i v).f x = s.f x := rfl
@[simp] theorem State.setHead_b (s : State) (i : Nat) (v : Head) (x : Field) : (s.setHead i v).b x = s.b x := rfl
@[simp] theorem State.setHead_rn (s : State) (i : Nat) (v : Head) (c : Nat) : (s.setHead i v).rn c = s.rn c := rfl
@[simp] theorem State.setHead_rd64 (s : State) (i : Nat) (v : Head) (c : Nat) : (s.setHead i v).rd64 c = s.rd64 c := rfl
@[simp] theorem State.setHead_byte (s : State) (i : Nat) (v : Head) (c : Nat) : (s.setHead i v).byte c = s.byte c := rfl
@[simp] theorem State.setHead_readMem (s : State) (i : Nat) (v : Head) (c n : Nat) : (s.setHead i v).readMem c n = s.readMem c n := rfl
@[simp] theorem State.setHead_eng (s : State) (i : Nat) (v : Head) (j : Nat) : (s.setHead i v).eng j = s.eng j := rfl
@[simp] theorem State.setHead_lane (s : State) (i : Nat) (v : Head) (j : Nat) : (s.setHead i v).lane j = s.lane j := rfl
@[simp] theorem State.setHead_dom (s : State) (i : Nat) (v : Head) (j : Nat) : (s.setHead i v).dom j = s.dom j := rfl
theorem State.setHead_head (s : State) (i : Nat) (v : Head) (j : Nat) :
    (s.setHead i v).head j = if i = j then v else s.head j := Map.get_set _ _ _ _ _
@[simp] theorem State.setHead_head_same (s : State) (i : Nat) (v : Head) : (s.setHead i v).head i = v := Map.get_set_same _ _ _ _
@[simp] theorem State.setHead_axis (s : State) (i : Nat) (v : Head) (j : Nat) : (s.setHead i v).axis j = s.axis j := rfl
@[simp] theorem State.setHead_group (s : State) (i : Nat) (v : Head) (j : Nat) : (s.setHead i v).group j = s.group j := rfl
@[simp] theorem State.setHead_rej (s : State) (i : Nat) (v : Head) (j : Nat) : (s.setHead i v).rej j = s.rej j := rfl
@[simp] theorem State.setHead_trace (s : State) (i : Nat) (v : Head) (j : Nat) : (s.setHead i v).trace j = s.trace j := rfl
@[simp] theorem State.setHead_supply (s : State) (i : Nat) (v : Head) (j : Nat) : (s.setHead i v).supply j = s.supply j := rfl
@[simp] theorem State.setHead_vlane (s : State) (i : Nat) (v : Head) (j : Nat) : (s.setHead i v).vlane j = s.vlane j := rfl
@[simp] theorem State.setHead_chan (s : State) (i : Nat) (v : Head) (j : Nat) : (s.setHead i v).chan j = s.chan j := rfl
@[simp] theorem State.setHead_cmp (s : State) (i : Nat) (v : Head) (j : Nat) : (s.setHead i v).cmp j = s.cmp j := rfl
@[simp] theorem State.setHead_emu (s : State) (i : Nat) (v : Head) (j : Nat) : (s.setHead i v).emu j = s.emu j := rfl
@[simp] theorem State.setHead_strm (s : State) (i : Nat) (v : Head) (j : Nat) : (s.setHead i v).strm j = s.strm j := rfl
@[simp] theorem State.setHead_dma (s : State) (i : Nat) (v : Head) (j : Nat) : (s.setHead i v).dma j = s.dma j := rfl

/-! setAxis -/

@[simp] theorem State.setAxis_regs (s : State) (i : Nat) (v : Axis) : (s.setAxis i v).regs = s.regs := rfl
@[simp] theorem State.setAxis_mem (s : State) (i : Nat) (v : Axis) : (s.setAxis i v).mem = s.mem := rfl
@[simp] theorem State.setAxis_poison (s : State) (i : Nat) (v : Axis) : (s.setAxis i v).poison = s.poison := rfl
@[simp] theorem State.setAxis_tb (s : State) (i : Nat) (v : Axis) : (s.setAxis i v).tb = s.tb := rfl
@[simp] theorem State.setAxis_pending (s : State) (i : Nat) (v : Axis) : (s.setAxis i v).pending = s.pending := rfl
@[simp] theorem State.setAxis_out (s : State) (i : Nat) (v : Axis) : (s.setAxis i v).out = s.out := rfl
@[simp] theorem State.setAxis_free (s : State) (i : Nat) (v : Axis) : (s.setAxis i v).free = s.free := rfl
@[simp] theorem State.setAxis_firstThis (s : State) (i : Nat) (v : Axis) : (s.setAxis i v).firstThis = s.firstThis := rfl
@[simp] theorem State.setAxis_fltRead (s : State) (i : Nat) (v : Axis) : (s.setAxis i v).fltRead = s.fltRead := rfl
@[simp] theorem State.setAxis_engines (s : State) (i : Nat) (v : Axis) : (s.setAxis i v).engines = s.engines := rfl
@[simp] theorem State.setAxis_items (s : State) (i : Nat) (v : Axis) : (s.setAxis i v).items = s.items := rfl
@[simp] theorem State.setAxis_nextItem (s : State) (i : Nat) (v : Axis) : (s.setAxis i v).nextItem = s.nextItem := rfl
@[simp] theorem State.setAxis_jobs (s : State) (i : Nat) (v : Axis) : (s.setAxis i v).jobs = s.jobs := rfl
@[simp] theorem State.setAxis_intake (s : State) (i : Nat) (v : Axis) : (s.setAxis i v).intake = s.intake := rfl
@[simp] theorem State.setAxis_intakeNext (s : State) (i : Nat) (v : Axis) : (s.setAxis i v).intakeNext = s.intakeNext := rfl
@[simp] theorem State.setAxis_waitingCpl (s : State) (i : Nat) (v : Axis) : (s.setAxis i v).waitingCpl = s.waitingCpl := rfl
@[simp] theorem State.setAxis_unlocks (s : State) (i : Nat) (v : Axis) : (s.setAxis i v).unlocks = s.unlocks := rfl
@[simp] theorem State.setAxis_w1Locked (s : State) (i : Nat) (v : Axis) : (s.setAxis i v).w1Locked = s.w1Locked := rfl
@[simp] theorem State.setAxis_staged (s : State) (i : Nat) (v : Axis) : (s.setAxis i v).staged = s.staged := rfl
@[simp] theorem State.setAxis_issueQ (s : State) (i : Nat) (v : Axis) : (s.setAxis i v).issueQ = s.issueQ := rfl
@[simp] theorem State.setAxis_issueSeq (s : State) (i : Nat) (v : Axis) : (s.setAxis i v).issueSeq = s.issueSeq := rfl
@[simp] theorem State.setAxis_taken (s : State) (i : Nat) (v : Axis) : (s.setAxis i v).taken = s.taken := rfl
@[simp] theorem State.setAxis_expect (s : State) (i : Nat) (v : Axis) : (s.setAxis i v).expect = s.expect := rfl
@[simp] theorem State.setAxis_streams (s : State) (i : Nat) (v : Axis) : (s.setAxis i v).streams = s.streams := rfl
@[simp] theorem State.setAxis_dmas (s : State) (i : Nat) (v : Axis) : (s.setAxis i v).dmas = s.dmas := rfl
@[simp] theorem State.setAxis_dmaTurn (s : State) (i : Nat) (v : Axis) : (s.setAxis i v).dmaTurn = s.dmaTurn := rfl
@[simp] theorem State.setAxis_lanes (s : State) (i : Nat) (v : Axis) : (s.setAxis i v).lanes = s.lanes := rfl
@[simp] theorem State.setAxis_vlanes (s : State) (i : Nat) (v : Axis) : (s.setAxis i v).vlanes = s.vlanes := rfl
@[simp] theorem State.setAxis_holds (s : State) (i : Nat) (v : Axis) : (s.setAxis i v).holds = s.holds := rfl
@[simp] theorem State.setAxis_nzDirty (s : State) (i : Nat) (v : Axis) : (s.setAxis i v).nzDirty = s.nzDirty := rfl
@[simp] theorem State.setAxis_channels (s : State) (i : Nat) (v : Axis) : (s.setAxis i v).channels = s.channels := rfl
@[simp] theorem State.setAxis_cmps (s : State) (i : Nat) (v : Axis) : (s.setAxis i v).cmps = s.cmps := rfl
@[simp] theorem State.setAxis_emus (s : State) (i : Nat) (v : Axis) : (s.setAxis i v).emus = s.emus := rfl
@[simp] theorem State.setAxis_domains (s : State) (i : Nat) (v : Axis) : (s.setAxis i v).domains = s.domains := rfl
@[simp] theorem State.setAxis_heads (s : State) (i : Nat) (v : Axis) : (s.setAxis i v).heads = s.heads := rfl
@[simp] theorem State.setAxis_groups (s : State) (i : Nat) (v : Axis) : (s.setAxis i v).groups = s.groups := rfl
@[simp] theorem State.setAxis_rejects (s : State) (i : Nat) (v : Axis) : (s.setAxis i v).rejects = s.rejects := rfl
@[simp] theorem State.setAxis_traces (s : State) (i : Nat) (v : Axis) : (s.setAxis i v).traces = s.traces := rfl
@[simp] theorem State.setAxis_timerAt (s : State) (i : Nat) (v : Axis) : (s.setAxis i v).timerAt = s.timerAt := rfl
@[simp] theorem State.setAxis_gateLast (s : State) (i : Nat) (v : Axis) : (s.setAxis i v).gateLast = s.gateLast := rfl
@[simp] theorem State.setAxis_loopSat (s : State) (i : Nat) (v : Axis) : (s.setAxis i v).loopSat = s.loopSat := rfl
@[simp] theorem State.setAxis_pwmDuty (s : State) (i : Nat) (v : Axis) : (s.setAxis i v).pwmDuty = s.pwmDuty := rfl
@[simp] theorem State.setAxis_pwmAt (s : State) (i : Nat) (v : Axis) : (s.setAxis i v).pwmAt = s.pwmAt := rfl
@[simp] theorem State.setAxis_ledger (s : State) (i : Nat) (v : Axis) : (s.setAxis i v).ledger = s.ledger := rfl
@[simp] theorem State.setAxis_geode (s : State) (i : Nat) (v : Axis) : (s.setAxis i v).geode = s.geode := rfl
@[simp] theorem State.setAxis_fuses (s : State) (i : Nat) (v : Axis) : (s.setAxis i v).fuses = s.fuses := rfl
@[simp] theorem State.setAxis_supplies (s : State) (i : Nat) (v : Axis) : (s.setAxis i v).supplies = s.supplies := rfl
@[simp] theorem State.setAxis_twin (s : State) (i : Nat) (v : Axis) : (s.setAxis i v).twin = s.twin := rfl
@[simp] theorem State.setAxis_pcie (s : State) (i : Nat) (v : Axis) : (s.setAxis i v).pcie = s.pcie := rfl
@[simp] theorem State.setAxis_power (s : State) (i : Nat) (v : Axis) : (s.setAxis i v).power = s.power := rfl
@[simp] theorem State.setAxis_boot (s : State) (i : Nat) (v : Axis) : (s.setAxis i v).boot = s.boot := rfl
@[simp] theorem State.setAxis_cal (s : State) (i : Nat) (v : Axis) : (s.setAxis i v).cal = s.cal := rfl
@[simp] theorem State.setAxis_quartz (s : State) (i : Nat) (v : Axis) : (s.setAxis i v).quartz = s.quartz := rfl
@[simp] theorem State.setAxis_sec (s : State) (i : Nat) (v : Axis) : (s.setAxis i v).sec = s.sec := rfl
@[simp] theorem State.setAxis_frozenFaultIn (s : State) (i : Nat) (v : Axis) : (s.setAxis i v).frozenFaultIn = s.frozenFaultIn := rfl
@[simp] theorem State.setAxis_jtagIr (s : State) (i : Nat) (v : Axis) : (s.setAxis i v).jtagIr = s.jtagIr := rfl
@[simp] theorem State.setAxis_bsr (s : State) (i : Nat) (v : Axis) : (s.setAxis i v).bsr = s.bsr := rfl
@[simp] theorem State.setAxis_scanKey (s : State) (i : Nat) (v : Axis) : (s.setAxis i v).scanKey = s.scanKey := rfl
@[simp] theorem State.setAxis_soft (s : State) (i : Nat) (v : Axis) : (s.setAxis i v).soft = s.soft := rfl
@[simp] theorem State.setAxis_wire (s : State) (i : Nat) (v : Axis) : (s.setAxis i v).wire = s.wire := rfl
@[simp] theorem State.setAxis_lineTx (s : State) (i : Nat) (v : Axis) : (s.setAxis i v).lineTx = s.lineTx := rfl
@[simp] theorem State.setAxis_lineRx (s : State) (i : Nat) (v : Axis) : (s.setAxis i v).lineRx = s.lineRx := rfl
@[simp] theorem State.setAxis_doneJobs (s : State) (i : Nat) (v : Axis) : (s.setAxis i v).doneJobs = s.doneJobs := rfl
@[simp] theorem State.setAxis_replayOut (s : State) (i : Nat) (v : Axis) : (s.setAxis i v).replayOut = s.replayOut := rfl
@[simp] theorem State.setAxis_planAt (s : State) (i : Nat) (v : Axis) : (s.setAxis i v).planAt = s.planAt := rfl
@[simp] theorem State.setAxis_riseAt (s : State) (i : Nat) (v : Axis) : (s.setAxis i v).riseAt = s.riseAt := rfl
@[simp] theorem State.setAxis_errPulseEnd (s : State) (i : Nat) (v : Axis) : (s.setAxis i v).errPulseEnd = s.errPulseEnd := rfl
@[simp] theorem State.setAxis_errRelease (s : State) (i : Nat) (v : Axis) : (s.setAxis i v).errRelease = s.errRelease := rfl
@[simp] theorem State.setAxis_rd (s : State) (i : Nat) (v : Axis) (c : Nat) : (s.setAxis i v).rd c = s.rd c := rfl
@[simp] theorem State.setAxis_f (s : State) (i : Nat) (v : Axis) (x : Field) : (s.setAxis i v).f x = s.f x := rfl
@[simp] theorem State.setAxis_b (s : State) (i : Nat) (v : Axis) (x : Field) : (s.setAxis i v).b x = s.b x := rfl
@[simp] theorem State.setAxis_rn (s : State) (i : Nat) (v : Axis) (c : Nat) : (s.setAxis i v).rn c = s.rn c := rfl
@[simp] theorem State.setAxis_rd64 (s : State) (i : Nat) (v : Axis) (c : Nat) : (s.setAxis i v).rd64 c = s.rd64 c := rfl
@[simp] theorem State.setAxis_byte (s : State) (i : Nat) (v : Axis) (c : Nat) : (s.setAxis i v).byte c = s.byte c := rfl
@[simp] theorem State.setAxis_readMem (s : State) (i : Nat) (v : Axis) (c n : Nat) : (s.setAxis i v).readMem c n = s.readMem c n := rfl
@[simp] theorem State.setAxis_eng (s : State) (i : Nat) (v : Axis) (j : Nat) : (s.setAxis i v).eng j = s.eng j := rfl
@[simp] theorem State.setAxis_lane (s : State) (i : Nat) (v : Axis) (j : Nat) : (s.setAxis i v).lane j = s.lane j := rfl
@[simp] theorem State.setAxis_dom (s : State) (i : Nat) (v : Axis) (j : Nat) : (s.setAxis i v).dom j = s.dom j := rfl
@[simp] theorem State.setAxis_head (s : State) (i : Nat) (v : Axis) (j : Nat) : (s.setAxis i v).head j = s.head j := rfl
theorem State.setAxis_axis (s : State) (i : Nat) (v : Axis) (j : Nat) :
    (s.setAxis i v).axis j = if i = j then v else s.axis j := Map.get_set _ _ _ _ _
@[simp] theorem State.setAxis_axis_same (s : State) (i : Nat) (v : Axis) : (s.setAxis i v).axis i = v := Map.get_set_same _ _ _ _
@[simp] theorem State.setAxis_group (s : State) (i : Nat) (v : Axis) (j : Nat) : (s.setAxis i v).group j = s.group j := rfl
@[simp] theorem State.setAxis_rej (s : State) (i : Nat) (v : Axis) (j : Nat) : (s.setAxis i v).rej j = s.rej j := rfl
@[simp] theorem State.setAxis_trace (s : State) (i : Nat) (v : Axis) (j : Nat) : (s.setAxis i v).trace j = s.trace j := rfl
@[simp] theorem State.setAxis_supply (s : State) (i : Nat) (v : Axis) (j : Nat) : (s.setAxis i v).supply j = s.supply j := rfl
@[simp] theorem State.setAxis_vlane (s : State) (i : Nat) (v : Axis) (j : Nat) : (s.setAxis i v).vlane j = s.vlane j := rfl
@[simp] theorem State.setAxis_chan (s : State) (i : Nat) (v : Axis) (j : Nat) : (s.setAxis i v).chan j = s.chan j := rfl
@[simp] theorem State.setAxis_cmp (s : State) (i : Nat) (v : Axis) (j : Nat) : (s.setAxis i v).cmp j = s.cmp j := rfl
@[simp] theorem State.setAxis_emu (s : State) (i : Nat) (v : Axis) (j : Nat) : (s.setAxis i v).emu j = s.emu j := rfl
@[simp] theorem State.setAxis_strm (s : State) (i : Nat) (v : Axis) (j : Nat) : (s.setAxis i v).strm j = s.strm j := rfl
@[simp] theorem State.setAxis_dma (s : State) (i : Nat) (v : Axis) (j : Nat) : (s.setAxis i v).dma j = s.dma j := rfl

/-! setGroup -/

@[simp] theorem State.setGroup_regs (s : State) (i : Nat) (v : Group) : (s.setGroup i v).regs = s.regs := rfl
@[simp] theorem State.setGroup_mem (s : State) (i : Nat) (v : Group) : (s.setGroup i v).mem = s.mem := rfl
@[simp] theorem State.setGroup_poison (s : State) (i : Nat) (v : Group) : (s.setGroup i v).poison = s.poison := rfl
@[simp] theorem State.setGroup_tb (s : State) (i : Nat) (v : Group) : (s.setGroup i v).tb = s.tb := rfl
@[simp] theorem State.setGroup_pending (s : State) (i : Nat) (v : Group) : (s.setGroup i v).pending = s.pending := rfl
@[simp] theorem State.setGroup_out (s : State) (i : Nat) (v : Group) : (s.setGroup i v).out = s.out := rfl
@[simp] theorem State.setGroup_free (s : State) (i : Nat) (v : Group) : (s.setGroup i v).free = s.free := rfl
@[simp] theorem State.setGroup_firstThis (s : State) (i : Nat) (v : Group) : (s.setGroup i v).firstThis = s.firstThis := rfl
@[simp] theorem State.setGroup_fltRead (s : State) (i : Nat) (v : Group) : (s.setGroup i v).fltRead = s.fltRead := rfl
@[simp] theorem State.setGroup_engines (s : State) (i : Nat) (v : Group) : (s.setGroup i v).engines = s.engines := rfl
@[simp] theorem State.setGroup_items (s : State) (i : Nat) (v : Group) : (s.setGroup i v).items = s.items := rfl
@[simp] theorem State.setGroup_nextItem (s : State) (i : Nat) (v : Group) : (s.setGroup i v).nextItem = s.nextItem := rfl
@[simp] theorem State.setGroup_jobs (s : State) (i : Nat) (v : Group) : (s.setGroup i v).jobs = s.jobs := rfl
@[simp] theorem State.setGroup_intake (s : State) (i : Nat) (v : Group) : (s.setGroup i v).intake = s.intake := rfl
@[simp] theorem State.setGroup_intakeNext (s : State) (i : Nat) (v : Group) : (s.setGroup i v).intakeNext = s.intakeNext := rfl
@[simp] theorem State.setGroup_waitingCpl (s : State) (i : Nat) (v : Group) : (s.setGroup i v).waitingCpl = s.waitingCpl := rfl
@[simp] theorem State.setGroup_unlocks (s : State) (i : Nat) (v : Group) : (s.setGroup i v).unlocks = s.unlocks := rfl
@[simp] theorem State.setGroup_w1Locked (s : State) (i : Nat) (v : Group) : (s.setGroup i v).w1Locked = s.w1Locked := rfl
@[simp] theorem State.setGroup_staged (s : State) (i : Nat) (v : Group) : (s.setGroup i v).staged = s.staged := rfl
@[simp] theorem State.setGroup_issueQ (s : State) (i : Nat) (v : Group) : (s.setGroup i v).issueQ = s.issueQ := rfl
@[simp] theorem State.setGroup_issueSeq (s : State) (i : Nat) (v : Group) : (s.setGroup i v).issueSeq = s.issueSeq := rfl
@[simp] theorem State.setGroup_taken (s : State) (i : Nat) (v : Group) : (s.setGroup i v).taken = s.taken := rfl
@[simp] theorem State.setGroup_expect (s : State) (i : Nat) (v : Group) : (s.setGroup i v).expect = s.expect := rfl
@[simp] theorem State.setGroup_streams (s : State) (i : Nat) (v : Group) : (s.setGroup i v).streams = s.streams := rfl
@[simp] theorem State.setGroup_dmas (s : State) (i : Nat) (v : Group) : (s.setGroup i v).dmas = s.dmas := rfl
@[simp] theorem State.setGroup_dmaTurn (s : State) (i : Nat) (v : Group) : (s.setGroup i v).dmaTurn = s.dmaTurn := rfl
@[simp] theorem State.setGroup_lanes (s : State) (i : Nat) (v : Group) : (s.setGroup i v).lanes = s.lanes := rfl
@[simp] theorem State.setGroup_vlanes (s : State) (i : Nat) (v : Group) : (s.setGroup i v).vlanes = s.vlanes := rfl
@[simp] theorem State.setGroup_holds (s : State) (i : Nat) (v : Group) : (s.setGroup i v).holds = s.holds := rfl
@[simp] theorem State.setGroup_nzDirty (s : State) (i : Nat) (v : Group) : (s.setGroup i v).nzDirty = s.nzDirty := rfl
@[simp] theorem State.setGroup_channels (s : State) (i : Nat) (v : Group) : (s.setGroup i v).channels = s.channels := rfl
@[simp] theorem State.setGroup_cmps (s : State) (i : Nat) (v : Group) : (s.setGroup i v).cmps = s.cmps := rfl
@[simp] theorem State.setGroup_emus (s : State) (i : Nat) (v : Group) : (s.setGroup i v).emus = s.emus := rfl
@[simp] theorem State.setGroup_domains (s : State) (i : Nat) (v : Group) : (s.setGroup i v).domains = s.domains := rfl
@[simp] theorem State.setGroup_heads (s : State) (i : Nat) (v : Group) : (s.setGroup i v).heads = s.heads := rfl
@[simp] theorem State.setGroup_axes (s : State) (i : Nat) (v : Group) : (s.setGroup i v).axes = s.axes := rfl
@[simp] theorem State.setGroup_rejects (s : State) (i : Nat) (v : Group) : (s.setGroup i v).rejects = s.rejects := rfl
@[simp] theorem State.setGroup_traces (s : State) (i : Nat) (v : Group) : (s.setGroup i v).traces = s.traces := rfl
@[simp] theorem State.setGroup_timerAt (s : State) (i : Nat) (v : Group) : (s.setGroup i v).timerAt = s.timerAt := rfl
@[simp] theorem State.setGroup_gateLast (s : State) (i : Nat) (v : Group) : (s.setGroup i v).gateLast = s.gateLast := rfl
@[simp] theorem State.setGroup_loopSat (s : State) (i : Nat) (v : Group) : (s.setGroup i v).loopSat = s.loopSat := rfl
@[simp] theorem State.setGroup_pwmDuty (s : State) (i : Nat) (v : Group) : (s.setGroup i v).pwmDuty = s.pwmDuty := rfl
@[simp] theorem State.setGroup_pwmAt (s : State) (i : Nat) (v : Group) : (s.setGroup i v).pwmAt = s.pwmAt := rfl
@[simp] theorem State.setGroup_ledger (s : State) (i : Nat) (v : Group) : (s.setGroup i v).ledger = s.ledger := rfl
@[simp] theorem State.setGroup_geode (s : State) (i : Nat) (v : Group) : (s.setGroup i v).geode = s.geode := rfl
@[simp] theorem State.setGroup_fuses (s : State) (i : Nat) (v : Group) : (s.setGroup i v).fuses = s.fuses := rfl
@[simp] theorem State.setGroup_supplies (s : State) (i : Nat) (v : Group) : (s.setGroup i v).supplies = s.supplies := rfl
@[simp] theorem State.setGroup_twin (s : State) (i : Nat) (v : Group) : (s.setGroup i v).twin = s.twin := rfl
@[simp] theorem State.setGroup_pcie (s : State) (i : Nat) (v : Group) : (s.setGroup i v).pcie = s.pcie := rfl
@[simp] theorem State.setGroup_power (s : State) (i : Nat) (v : Group) : (s.setGroup i v).power = s.power := rfl
@[simp] theorem State.setGroup_boot (s : State) (i : Nat) (v : Group) : (s.setGroup i v).boot = s.boot := rfl
@[simp] theorem State.setGroup_cal (s : State) (i : Nat) (v : Group) : (s.setGroup i v).cal = s.cal := rfl
@[simp] theorem State.setGroup_quartz (s : State) (i : Nat) (v : Group) : (s.setGroup i v).quartz = s.quartz := rfl
@[simp] theorem State.setGroup_sec (s : State) (i : Nat) (v : Group) : (s.setGroup i v).sec = s.sec := rfl
@[simp] theorem State.setGroup_frozenFaultIn (s : State) (i : Nat) (v : Group) : (s.setGroup i v).frozenFaultIn = s.frozenFaultIn := rfl
@[simp] theorem State.setGroup_jtagIr (s : State) (i : Nat) (v : Group) : (s.setGroup i v).jtagIr = s.jtagIr := rfl
@[simp] theorem State.setGroup_bsr (s : State) (i : Nat) (v : Group) : (s.setGroup i v).bsr = s.bsr := rfl
@[simp] theorem State.setGroup_scanKey (s : State) (i : Nat) (v : Group) : (s.setGroup i v).scanKey = s.scanKey := rfl
@[simp] theorem State.setGroup_soft (s : State) (i : Nat) (v : Group) : (s.setGroup i v).soft = s.soft := rfl
@[simp] theorem State.setGroup_wire (s : State) (i : Nat) (v : Group) : (s.setGroup i v).wire = s.wire := rfl
@[simp] theorem State.setGroup_lineTx (s : State) (i : Nat) (v : Group) : (s.setGroup i v).lineTx = s.lineTx := rfl
@[simp] theorem State.setGroup_lineRx (s : State) (i : Nat) (v : Group) : (s.setGroup i v).lineRx = s.lineRx := rfl
@[simp] theorem State.setGroup_doneJobs (s : State) (i : Nat) (v : Group) : (s.setGroup i v).doneJobs = s.doneJobs := rfl
@[simp] theorem State.setGroup_replayOut (s : State) (i : Nat) (v : Group) : (s.setGroup i v).replayOut = s.replayOut := rfl
@[simp] theorem State.setGroup_planAt (s : State) (i : Nat) (v : Group) : (s.setGroup i v).planAt = s.planAt := rfl
@[simp] theorem State.setGroup_riseAt (s : State) (i : Nat) (v : Group) : (s.setGroup i v).riseAt = s.riseAt := rfl
@[simp] theorem State.setGroup_errPulseEnd (s : State) (i : Nat) (v : Group) : (s.setGroup i v).errPulseEnd = s.errPulseEnd := rfl
@[simp] theorem State.setGroup_errRelease (s : State) (i : Nat) (v : Group) : (s.setGroup i v).errRelease = s.errRelease := rfl
@[simp] theorem State.setGroup_rd (s : State) (i : Nat) (v : Group) (c : Nat) : (s.setGroup i v).rd c = s.rd c := rfl
@[simp] theorem State.setGroup_f (s : State) (i : Nat) (v : Group) (x : Field) : (s.setGroup i v).f x = s.f x := rfl
@[simp] theorem State.setGroup_b (s : State) (i : Nat) (v : Group) (x : Field) : (s.setGroup i v).b x = s.b x := rfl
@[simp] theorem State.setGroup_rn (s : State) (i : Nat) (v : Group) (c : Nat) : (s.setGroup i v).rn c = s.rn c := rfl
@[simp] theorem State.setGroup_rd64 (s : State) (i : Nat) (v : Group) (c : Nat) : (s.setGroup i v).rd64 c = s.rd64 c := rfl
@[simp] theorem State.setGroup_byte (s : State) (i : Nat) (v : Group) (c : Nat) : (s.setGroup i v).byte c = s.byte c := rfl
@[simp] theorem State.setGroup_readMem (s : State) (i : Nat) (v : Group) (c n : Nat) : (s.setGroup i v).readMem c n = s.readMem c n := rfl
@[simp] theorem State.setGroup_eng (s : State) (i : Nat) (v : Group) (j : Nat) : (s.setGroup i v).eng j = s.eng j := rfl
@[simp] theorem State.setGroup_lane (s : State) (i : Nat) (v : Group) (j : Nat) : (s.setGroup i v).lane j = s.lane j := rfl
@[simp] theorem State.setGroup_dom (s : State) (i : Nat) (v : Group) (j : Nat) : (s.setGroup i v).dom j = s.dom j := rfl
@[simp] theorem State.setGroup_head (s : State) (i : Nat) (v : Group) (j : Nat) : (s.setGroup i v).head j = s.head j := rfl
@[simp] theorem State.setGroup_axis (s : State) (i : Nat) (v : Group) (j : Nat) : (s.setGroup i v).axis j = s.axis j := rfl
theorem State.setGroup_group (s : State) (i : Nat) (v : Group) (j : Nat) :
    (s.setGroup i v).group j = if i = j then v else s.group j := Map.get_set _ _ _ _ _
@[simp] theorem State.setGroup_group_same (s : State) (i : Nat) (v : Group) : (s.setGroup i v).group i = v := Map.get_set_same _ _ _ _
@[simp] theorem State.setGroup_rej (s : State) (i : Nat) (v : Group) (j : Nat) : (s.setGroup i v).rej j = s.rej j := rfl
@[simp] theorem State.setGroup_trace (s : State) (i : Nat) (v : Group) (j : Nat) : (s.setGroup i v).trace j = s.trace j := rfl
@[simp] theorem State.setGroup_supply (s : State) (i : Nat) (v : Group) (j : Nat) : (s.setGroup i v).supply j = s.supply j := rfl
@[simp] theorem State.setGroup_vlane (s : State) (i : Nat) (v : Group) (j : Nat) : (s.setGroup i v).vlane j = s.vlane j := rfl
@[simp] theorem State.setGroup_chan (s : State) (i : Nat) (v : Group) (j : Nat) : (s.setGroup i v).chan j = s.chan j := rfl
@[simp] theorem State.setGroup_cmp (s : State) (i : Nat) (v : Group) (j : Nat) : (s.setGroup i v).cmp j = s.cmp j := rfl
@[simp] theorem State.setGroup_emu (s : State) (i : Nat) (v : Group) (j : Nat) : (s.setGroup i v).emu j = s.emu j := rfl
@[simp] theorem State.setGroup_strm (s : State) (i : Nat) (v : Group) (j : Nat) : (s.setGroup i v).strm j = s.strm j := rfl
@[simp] theorem State.setGroup_dma (s : State) (i : Nat) (v : Group) (j : Nat) : (s.setGroup i v).dma j = s.dma j := rfl

/-! setRej -/

@[simp] theorem State.setRej_regs (s : State) (i : Nat) (v : Reject) : (s.setRej i v).regs = s.regs := rfl
@[simp] theorem State.setRej_mem (s : State) (i : Nat) (v : Reject) : (s.setRej i v).mem = s.mem := rfl
@[simp] theorem State.setRej_poison (s : State) (i : Nat) (v : Reject) : (s.setRej i v).poison = s.poison := rfl
@[simp] theorem State.setRej_tb (s : State) (i : Nat) (v : Reject) : (s.setRej i v).tb = s.tb := rfl
@[simp] theorem State.setRej_pending (s : State) (i : Nat) (v : Reject) : (s.setRej i v).pending = s.pending := rfl
@[simp] theorem State.setRej_out (s : State) (i : Nat) (v : Reject) : (s.setRej i v).out = s.out := rfl
@[simp] theorem State.setRej_free (s : State) (i : Nat) (v : Reject) : (s.setRej i v).free = s.free := rfl
@[simp] theorem State.setRej_firstThis (s : State) (i : Nat) (v : Reject) : (s.setRej i v).firstThis = s.firstThis := rfl
@[simp] theorem State.setRej_fltRead (s : State) (i : Nat) (v : Reject) : (s.setRej i v).fltRead = s.fltRead := rfl
@[simp] theorem State.setRej_engines (s : State) (i : Nat) (v : Reject) : (s.setRej i v).engines = s.engines := rfl
@[simp] theorem State.setRej_items (s : State) (i : Nat) (v : Reject) : (s.setRej i v).items = s.items := rfl
@[simp] theorem State.setRej_nextItem (s : State) (i : Nat) (v : Reject) : (s.setRej i v).nextItem = s.nextItem := rfl
@[simp] theorem State.setRej_jobs (s : State) (i : Nat) (v : Reject) : (s.setRej i v).jobs = s.jobs := rfl
@[simp] theorem State.setRej_intake (s : State) (i : Nat) (v : Reject) : (s.setRej i v).intake = s.intake := rfl
@[simp] theorem State.setRej_intakeNext (s : State) (i : Nat) (v : Reject) : (s.setRej i v).intakeNext = s.intakeNext := rfl
@[simp] theorem State.setRej_waitingCpl (s : State) (i : Nat) (v : Reject) : (s.setRej i v).waitingCpl = s.waitingCpl := rfl
@[simp] theorem State.setRej_unlocks (s : State) (i : Nat) (v : Reject) : (s.setRej i v).unlocks = s.unlocks := rfl
@[simp] theorem State.setRej_w1Locked (s : State) (i : Nat) (v : Reject) : (s.setRej i v).w1Locked = s.w1Locked := rfl
@[simp] theorem State.setRej_staged (s : State) (i : Nat) (v : Reject) : (s.setRej i v).staged = s.staged := rfl
@[simp] theorem State.setRej_issueQ (s : State) (i : Nat) (v : Reject) : (s.setRej i v).issueQ = s.issueQ := rfl
@[simp] theorem State.setRej_issueSeq (s : State) (i : Nat) (v : Reject) : (s.setRej i v).issueSeq = s.issueSeq := rfl
@[simp] theorem State.setRej_taken (s : State) (i : Nat) (v : Reject) : (s.setRej i v).taken = s.taken := rfl
@[simp] theorem State.setRej_expect (s : State) (i : Nat) (v : Reject) : (s.setRej i v).expect = s.expect := rfl
@[simp] theorem State.setRej_streams (s : State) (i : Nat) (v : Reject) : (s.setRej i v).streams = s.streams := rfl
@[simp] theorem State.setRej_dmas (s : State) (i : Nat) (v : Reject) : (s.setRej i v).dmas = s.dmas := rfl
@[simp] theorem State.setRej_dmaTurn (s : State) (i : Nat) (v : Reject) : (s.setRej i v).dmaTurn = s.dmaTurn := rfl
@[simp] theorem State.setRej_lanes (s : State) (i : Nat) (v : Reject) : (s.setRej i v).lanes = s.lanes := rfl
@[simp] theorem State.setRej_vlanes (s : State) (i : Nat) (v : Reject) : (s.setRej i v).vlanes = s.vlanes := rfl
@[simp] theorem State.setRej_holds (s : State) (i : Nat) (v : Reject) : (s.setRej i v).holds = s.holds := rfl
@[simp] theorem State.setRej_nzDirty (s : State) (i : Nat) (v : Reject) : (s.setRej i v).nzDirty = s.nzDirty := rfl
@[simp] theorem State.setRej_channels (s : State) (i : Nat) (v : Reject) : (s.setRej i v).channels = s.channels := rfl
@[simp] theorem State.setRej_cmps (s : State) (i : Nat) (v : Reject) : (s.setRej i v).cmps = s.cmps := rfl
@[simp] theorem State.setRej_emus (s : State) (i : Nat) (v : Reject) : (s.setRej i v).emus = s.emus := rfl
@[simp] theorem State.setRej_domains (s : State) (i : Nat) (v : Reject) : (s.setRej i v).domains = s.domains := rfl
@[simp] theorem State.setRej_heads (s : State) (i : Nat) (v : Reject) : (s.setRej i v).heads = s.heads := rfl
@[simp] theorem State.setRej_axes (s : State) (i : Nat) (v : Reject) : (s.setRej i v).axes = s.axes := rfl
@[simp] theorem State.setRej_groups (s : State) (i : Nat) (v : Reject) : (s.setRej i v).groups = s.groups := rfl
@[simp] theorem State.setRej_traces (s : State) (i : Nat) (v : Reject) : (s.setRej i v).traces = s.traces := rfl
@[simp] theorem State.setRej_timerAt (s : State) (i : Nat) (v : Reject) : (s.setRej i v).timerAt = s.timerAt := rfl
@[simp] theorem State.setRej_gateLast (s : State) (i : Nat) (v : Reject) : (s.setRej i v).gateLast = s.gateLast := rfl
@[simp] theorem State.setRej_loopSat (s : State) (i : Nat) (v : Reject) : (s.setRej i v).loopSat = s.loopSat := rfl
@[simp] theorem State.setRej_pwmDuty (s : State) (i : Nat) (v : Reject) : (s.setRej i v).pwmDuty = s.pwmDuty := rfl
@[simp] theorem State.setRej_pwmAt (s : State) (i : Nat) (v : Reject) : (s.setRej i v).pwmAt = s.pwmAt := rfl
@[simp] theorem State.setRej_ledger (s : State) (i : Nat) (v : Reject) : (s.setRej i v).ledger = s.ledger := rfl
@[simp] theorem State.setRej_geode (s : State) (i : Nat) (v : Reject) : (s.setRej i v).geode = s.geode := rfl
@[simp] theorem State.setRej_fuses (s : State) (i : Nat) (v : Reject) : (s.setRej i v).fuses = s.fuses := rfl
@[simp] theorem State.setRej_supplies (s : State) (i : Nat) (v : Reject) : (s.setRej i v).supplies = s.supplies := rfl
@[simp] theorem State.setRej_twin (s : State) (i : Nat) (v : Reject) : (s.setRej i v).twin = s.twin := rfl
@[simp] theorem State.setRej_pcie (s : State) (i : Nat) (v : Reject) : (s.setRej i v).pcie = s.pcie := rfl
@[simp] theorem State.setRej_power (s : State) (i : Nat) (v : Reject) : (s.setRej i v).power = s.power := rfl
@[simp] theorem State.setRej_boot (s : State) (i : Nat) (v : Reject) : (s.setRej i v).boot = s.boot := rfl
@[simp] theorem State.setRej_cal (s : State) (i : Nat) (v : Reject) : (s.setRej i v).cal = s.cal := rfl
@[simp] theorem State.setRej_quartz (s : State) (i : Nat) (v : Reject) : (s.setRej i v).quartz = s.quartz := rfl
@[simp] theorem State.setRej_sec (s : State) (i : Nat) (v : Reject) : (s.setRej i v).sec = s.sec := rfl
@[simp] theorem State.setRej_frozenFaultIn (s : State) (i : Nat) (v : Reject) : (s.setRej i v).frozenFaultIn = s.frozenFaultIn := rfl
@[simp] theorem State.setRej_jtagIr (s : State) (i : Nat) (v : Reject) : (s.setRej i v).jtagIr = s.jtagIr := rfl
@[simp] theorem State.setRej_bsr (s : State) (i : Nat) (v : Reject) : (s.setRej i v).bsr = s.bsr := rfl
@[simp] theorem State.setRej_scanKey (s : State) (i : Nat) (v : Reject) : (s.setRej i v).scanKey = s.scanKey := rfl
@[simp] theorem State.setRej_soft (s : State) (i : Nat) (v : Reject) : (s.setRej i v).soft = s.soft := rfl
@[simp] theorem State.setRej_wire (s : State) (i : Nat) (v : Reject) : (s.setRej i v).wire = s.wire := rfl
@[simp] theorem State.setRej_lineTx (s : State) (i : Nat) (v : Reject) : (s.setRej i v).lineTx = s.lineTx := rfl
@[simp] theorem State.setRej_lineRx (s : State) (i : Nat) (v : Reject) : (s.setRej i v).lineRx = s.lineRx := rfl
@[simp] theorem State.setRej_doneJobs (s : State) (i : Nat) (v : Reject) : (s.setRej i v).doneJobs = s.doneJobs := rfl
@[simp] theorem State.setRej_replayOut (s : State) (i : Nat) (v : Reject) : (s.setRej i v).replayOut = s.replayOut := rfl
@[simp] theorem State.setRej_planAt (s : State) (i : Nat) (v : Reject) : (s.setRej i v).planAt = s.planAt := rfl
@[simp] theorem State.setRej_riseAt (s : State) (i : Nat) (v : Reject) : (s.setRej i v).riseAt = s.riseAt := rfl
@[simp] theorem State.setRej_errPulseEnd (s : State) (i : Nat) (v : Reject) : (s.setRej i v).errPulseEnd = s.errPulseEnd := rfl
@[simp] theorem State.setRej_errRelease (s : State) (i : Nat) (v : Reject) : (s.setRej i v).errRelease = s.errRelease := rfl
@[simp] theorem State.setRej_rd (s : State) (i : Nat) (v : Reject) (c : Nat) : (s.setRej i v).rd c = s.rd c := rfl
@[simp] theorem State.setRej_f (s : State) (i : Nat) (v : Reject) (x : Field) : (s.setRej i v).f x = s.f x := rfl
@[simp] theorem State.setRej_b (s : State) (i : Nat) (v : Reject) (x : Field) : (s.setRej i v).b x = s.b x := rfl
@[simp] theorem State.setRej_rn (s : State) (i : Nat) (v : Reject) (c : Nat) : (s.setRej i v).rn c = s.rn c := rfl
@[simp] theorem State.setRej_rd64 (s : State) (i : Nat) (v : Reject) (c : Nat) : (s.setRej i v).rd64 c = s.rd64 c := rfl
@[simp] theorem State.setRej_byte (s : State) (i : Nat) (v : Reject) (c : Nat) : (s.setRej i v).byte c = s.byte c := rfl
@[simp] theorem State.setRej_readMem (s : State) (i : Nat) (v : Reject) (c n : Nat) : (s.setRej i v).readMem c n = s.readMem c n := rfl
@[simp] theorem State.setRej_eng (s : State) (i : Nat) (v : Reject) (j : Nat) : (s.setRej i v).eng j = s.eng j := rfl
@[simp] theorem State.setRej_lane (s : State) (i : Nat) (v : Reject) (j : Nat) : (s.setRej i v).lane j = s.lane j := rfl
@[simp] theorem State.setRej_dom (s : State) (i : Nat) (v : Reject) (j : Nat) : (s.setRej i v).dom j = s.dom j := rfl
@[simp] theorem State.setRej_head (s : State) (i : Nat) (v : Reject) (j : Nat) : (s.setRej i v).head j = s.head j := rfl
@[simp] theorem State.setRej_axis (s : State) (i : Nat) (v : Reject) (j : Nat) : (s.setRej i v).axis j = s.axis j := rfl
@[simp] theorem State.setRej_group (s : State) (i : Nat) (v : Reject) (j : Nat) : (s.setRej i v).group j = s.group j := rfl
theorem State.setRej_rej (s : State) (i : Nat) (v : Reject) (j : Nat) : (s.setRej i v).rej j = if i = j then v else s.rej j := Map.get_set _ _ _ _ _
@[simp] theorem State.setRej_rej_same (s : State) (i : Nat) (v : Reject) : (s.setRej i v).rej i = v := Map.get_set_same _ _ _ _
@[simp] theorem State.setRej_trace (s : State) (i : Nat) (v : Reject) (j : Nat) : (s.setRej i v).trace j = s.trace j := rfl
@[simp] theorem State.setRej_supply (s : State) (i : Nat) (v : Reject) (j : Nat) : (s.setRej i v).supply j = s.supply j := rfl
@[simp] theorem State.setRej_vlane (s : State) (i : Nat) (v : Reject) (j : Nat) : (s.setRej i v).vlane j = s.vlane j := rfl
@[simp] theorem State.setRej_chan (s : State) (i : Nat) (v : Reject) (j : Nat) : (s.setRej i v).chan j = s.chan j := rfl
@[simp] theorem State.setRej_cmp (s : State) (i : Nat) (v : Reject) (j : Nat) : (s.setRej i v).cmp j = s.cmp j := rfl
@[simp] theorem State.setRej_emu (s : State) (i : Nat) (v : Reject) (j : Nat) : (s.setRej i v).emu j = s.emu j := rfl
@[simp] theorem State.setRej_strm (s : State) (i : Nat) (v : Reject) (j : Nat) : (s.setRej i v).strm j = s.strm j := rfl
@[simp] theorem State.setRej_dma (s : State) (i : Nat) (v : Reject) (j : Nat) : (s.setRej i v).dma j = s.dma j := rfl

/-! setTrace -/

@[simp] theorem State.setTrace_regs (s : State) (i : Nat) (v : Trace) : (s.setTrace i v).regs = s.regs := rfl
@[simp] theorem State.setTrace_mem (s : State) (i : Nat) (v : Trace) : (s.setTrace i v).mem = s.mem := rfl
@[simp] theorem State.setTrace_poison (s : State) (i : Nat) (v : Trace) : (s.setTrace i v).poison = s.poison := rfl
@[simp] theorem State.setTrace_tb (s : State) (i : Nat) (v : Trace) : (s.setTrace i v).tb = s.tb := rfl
@[simp] theorem State.setTrace_pending (s : State) (i : Nat) (v : Trace) : (s.setTrace i v).pending = s.pending := rfl
@[simp] theorem State.setTrace_out (s : State) (i : Nat) (v : Trace) : (s.setTrace i v).out = s.out := rfl
@[simp] theorem State.setTrace_free (s : State) (i : Nat) (v : Trace) : (s.setTrace i v).free = s.free := rfl
@[simp] theorem State.setTrace_firstThis (s : State) (i : Nat) (v : Trace) : (s.setTrace i v).firstThis = s.firstThis := rfl
@[simp] theorem State.setTrace_fltRead (s : State) (i : Nat) (v : Trace) : (s.setTrace i v).fltRead = s.fltRead := rfl
@[simp] theorem State.setTrace_engines (s : State) (i : Nat) (v : Trace) : (s.setTrace i v).engines = s.engines := rfl
@[simp] theorem State.setTrace_items (s : State) (i : Nat) (v : Trace) : (s.setTrace i v).items = s.items := rfl
@[simp] theorem State.setTrace_nextItem (s : State) (i : Nat) (v : Trace) : (s.setTrace i v).nextItem = s.nextItem := rfl
@[simp] theorem State.setTrace_jobs (s : State) (i : Nat) (v : Trace) : (s.setTrace i v).jobs = s.jobs := rfl
@[simp] theorem State.setTrace_intake (s : State) (i : Nat) (v : Trace) : (s.setTrace i v).intake = s.intake := rfl
@[simp] theorem State.setTrace_intakeNext (s : State) (i : Nat) (v : Trace) : (s.setTrace i v).intakeNext = s.intakeNext := rfl
@[simp] theorem State.setTrace_waitingCpl (s : State) (i : Nat) (v : Trace) : (s.setTrace i v).waitingCpl = s.waitingCpl := rfl
@[simp] theorem State.setTrace_unlocks (s : State) (i : Nat) (v : Trace) : (s.setTrace i v).unlocks = s.unlocks := rfl
@[simp] theorem State.setTrace_w1Locked (s : State) (i : Nat) (v : Trace) : (s.setTrace i v).w1Locked = s.w1Locked := rfl
@[simp] theorem State.setTrace_staged (s : State) (i : Nat) (v : Trace) : (s.setTrace i v).staged = s.staged := rfl
@[simp] theorem State.setTrace_issueQ (s : State) (i : Nat) (v : Trace) : (s.setTrace i v).issueQ = s.issueQ := rfl
@[simp] theorem State.setTrace_issueSeq (s : State) (i : Nat) (v : Trace) : (s.setTrace i v).issueSeq = s.issueSeq := rfl
@[simp] theorem State.setTrace_taken (s : State) (i : Nat) (v : Trace) : (s.setTrace i v).taken = s.taken := rfl
@[simp] theorem State.setTrace_expect (s : State) (i : Nat) (v : Trace) : (s.setTrace i v).expect = s.expect := rfl
@[simp] theorem State.setTrace_streams (s : State) (i : Nat) (v : Trace) : (s.setTrace i v).streams = s.streams := rfl
@[simp] theorem State.setTrace_dmas (s : State) (i : Nat) (v : Trace) : (s.setTrace i v).dmas = s.dmas := rfl
@[simp] theorem State.setTrace_dmaTurn (s : State) (i : Nat) (v : Trace) : (s.setTrace i v).dmaTurn = s.dmaTurn := rfl
@[simp] theorem State.setTrace_lanes (s : State) (i : Nat) (v : Trace) : (s.setTrace i v).lanes = s.lanes := rfl
@[simp] theorem State.setTrace_vlanes (s : State) (i : Nat) (v : Trace) : (s.setTrace i v).vlanes = s.vlanes := rfl
@[simp] theorem State.setTrace_holds (s : State) (i : Nat) (v : Trace) : (s.setTrace i v).holds = s.holds := rfl
@[simp] theorem State.setTrace_nzDirty (s : State) (i : Nat) (v : Trace) : (s.setTrace i v).nzDirty = s.nzDirty := rfl
@[simp] theorem State.setTrace_channels (s : State) (i : Nat) (v : Trace) : (s.setTrace i v).channels = s.channels := rfl
@[simp] theorem State.setTrace_cmps (s : State) (i : Nat) (v : Trace) : (s.setTrace i v).cmps = s.cmps := rfl
@[simp] theorem State.setTrace_emus (s : State) (i : Nat) (v : Trace) : (s.setTrace i v).emus = s.emus := rfl
@[simp] theorem State.setTrace_domains (s : State) (i : Nat) (v : Trace) : (s.setTrace i v).domains = s.domains := rfl
@[simp] theorem State.setTrace_heads (s : State) (i : Nat) (v : Trace) : (s.setTrace i v).heads = s.heads := rfl
@[simp] theorem State.setTrace_axes (s : State) (i : Nat) (v : Trace) : (s.setTrace i v).axes = s.axes := rfl
@[simp] theorem State.setTrace_groups (s : State) (i : Nat) (v : Trace) : (s.setTrace i v).groups = s.groups := rfl
@[simp] theorem State.setTrace_rejects (s : State) (i : Nat) (v : Trace) : (s.setTrace i v).rejects = s.rejects := rfl
@[simp] theorem State.setTrace_timerAt (s : State) (i : Nat) (v : Trace) : (s.setTrace i v).timerAt = s.timerAt := rfl
@[simp] theorem State.setTrace_gateLast (s : State) (i : Nat) (v : Trace) : (s.setTrace i v).gateLast = s.gateLast := rfl
@[simp] theorem State.setTrace_loopSat (s : State) (i : Nat) (v : Trace) : (s.setTrace i v).loopSat = s.loopSat := rfl
@[simp] theorem State.setTrace_pwmDuty (s : State) (i : Nat) (v : Trace) : (s.setTrace i v).pwmDuty = s.pwmDuty := rfl
@[simp] theorem State.setTrace_pwmAt (s : State) (i : Nat) (v : Trace) : (s.setTrace i v).pwmAt = s.pwmAt := rfl
@[simp] theorem State.setTrace_ledger (s : State) (i : Nat) (v : Trace) : (s.setTrace i v).ledger = s.ledger := rfl
@[simp] theorem State.setTrace_geode (s : State) (i : Nat) (v : Trace) : (s.setTrace i v).geode = s.geode := rfl
@[simp] theorem State.setTrace_fuses (s : State) (i : Nat) (v : Trace) : (s.setTrace i v).fuses = s.fuses := rfl
@[simp] theorem State.setTrace_supplies (s : State) (i : Nat) (v : Trace) : (s.setTrace i v).supplies = s.supplies := rfl
@[simp] theorem State.setTrace_twin (s : State) (i : Nat) (v : Trace) : (s.setTrace i v).twin = s.twin := rfl
@[simp] theorem State.setTrace_pcie (s : State) (i : Nat) (v : Trace) : (s.setTrace i v).pcie = s.pcie := rfl
@[simp] theorem State.setTrace_power (s : State) (i : Nat) (v : Trace) : (s.setTrace i v).power = s.power := rfl
@[simp] theorem State.setTrace_boot (s : State) (i : Nat) (v : Trace) : (s.setTrace i v).boot = s.boot := rfl
@[simp] theorem State.setTrace_cal (s : State) (i : Nat) (v : Trace) : (s.setTrace i v).cal = s.cal := rfl
@[simp] theorem State.setTrace_quartz (s : State) (i : Nat) (v : Trace) : (s.setTrace i v).quartz = s.quartz := rfl
@[simp] theorem State.setTrace_sec (s : State) (i : Nat) (v : Trace) : (s.setTrace i v).sec = s.sec := rfl
@[simp] theorem State.setTrace_frozenFaultIn (s : State) (i : Nat) (v : Trace) : (s.setTrace i v).frozenFaultIn = s.frozenFaultIn := rfl
@[simp] theorem State.setTrace_jtagIr (s : State) (i : Nat) (v : Trace) : (s.setTrace i v).jtagIr = s.jtagIr := rfl
@[simp] theorem State.setTrace_bsr (s : State) (i : Nat) (v : Trace) : (s.setTrace i v).bsr = s.bsr := rfl
@[simp] theorem State.setTrace_scanKey (s : State) (i : Nat) (v : Trace) : (s.setTrace i v).scanKey = s.scanKey := rfl
@[simp] theorem State.setTrace_soft (s : State) (i : Nat) (v : Trace) : (s.setTrace i v).soft = s.soft := rfl
@[simp] theorem State.setTrace_wire (s : State) (i : Nat) (v : Trace) : (s.setTrace i v).wire = s.wire := rfl
@[simp] theorem State.setTrace_lineTx (s : State) (i : Nat) (v : Trace) : (s.setTrace i v).lineTx = s.lineTx := rfl
@[simp] theorem State.setTrace_lineRx (s : State) (i : Nat) (v : Trace) : (s.setTrace i v).lineRx = s.lineRx := rfl
@[simp] theorem State.setTrace_doneJobs (s : State) (i : Nat) (v : Trace) : (s.setTrace i v).doneJobs = s.doneJobs := rfl
@[simp] theorem State.setTrace_replayOut (s : State) (i : Nat) (v : Trace) : (s.setTrace i v).replayOut = s.replayOut := rfl
@[simp] theorem State.setTrace_planAt (s : State) (i : Nat) (v : Trace) : (s.setTrace i v).planAt = s.planAt := rfl
@[simp] theorem State.setTrace_riseAt (s : State) (i : Nat) (v : Trace) : (s.setTrace i v).riseAt = s.riseAt := rfl
@[simp] theorem State.setTrace_errPulseEnd (s : State) (i : Nat) (v : Trace) : (s.setTrace i v).errPulseEnd = s.errPulseEnd := rfl
@[simp] theorem State.setTrace_errRelease (s : State) (i : Nat) (v : Trace) : (s.setTrace i v).errRelease = s.errRelease := rfl
@[simp] theorem State.setTrace_rd (s : State) (i : Nat) (v : Trace) (c : Nat) : (s.setTrace i v).rd c = s.rd c := rfl
@[simp] theorem State.setTrace_f (s : State) (i : Nat) (v : Trace) (x : Field) : (s.setTrace i v).f x = s.f x := rfl
@[simp] theorem State.setTrace_b (s : State) (i : Nat) (v : Trace) (x : Field) : (s.setTrace i v).b x = s.b x := rfl
@[simp] theorem State.setTrace_rn (s : State) (i : Nat) (v : Trace) (c : Nat) : (s.setTrace i v).rn c = s.rn c := rfl
@[simp] theorem State.setTrace_rd64 (s : State) (i : Nat) (v : Trace) (c : Nat) : (s.setTrace i v).rd64 c = s.rd64 c := rfl
@[simp] theorem State.setTrace_byte (s : State) (i : Nat) (v : Trace) (c : Nat) : (s.setTrace i v).byte c = s.byte c := rfl
@[simp] theorem State.setTrace_readMem (s : State) (i : Nat) (v : Trace) (c n : Nat) : (s.setTrace i v).readMem c n = s.readMem c n := rfl
@[simp] theorem State.setTrace_eng (s : State) (i : Nat) (v : Trace) (j : Nat) : (s.setTrace i v).eng j = s.eng j := rfl
@[simp] theorem State.setTrace_lane (s : State) (i : Nat) (v : Trace) (j : Nat) : (s.setTrace i v).lane j = s.lane j := rfl
@[simp] theorem State.setTrace_dom (s : State) (i : Nat) (v : Trace) (j : Nat) : (s.setTrace i v).dom j = s.dom j := rfl
@[simp] theorem State.setTrace_head (s : State) (i : Nat) (v : Trace) (j : Nat) : (s.setTrace i v).head j = s.head j := rfl
@[simp] theorem State.setTrace_axis (s : State) (i : Nat) (v : Trace) (j : Nat) : (s.setTrace i v).axis j = s.axis j := rfl
@[simp] theorem State.setTrace_group (s : State) (i : Nat) (v : Trace) (j : Nat) : (s.setTrace i v).group j = s.group j := rfl
@[simp] theorem State.setTrace_rej (s : State) (i : Nat) (v : Trace) (j : Nat) : (s.setTrace i v).rej j = s.rej j := rfl
theorem State.setTrace_trace (s : State) (i : Nat) (v : Trace) (j : Nat) :
    (s.setTrace i v).trace j = if i = j then v else s.trace j := Map.get_set _ _ _ _ _
@[simp] theorem State.setTrace_trace_same (s : State) (i : Nat) (v : Trace) : (s.setTrace i v).trace i = v := Map.get_set_same _ _ _ _
@[simp] theorem State.setTrace_supply (s : State) (i : Nat) (v : Trace) (j : Nat) : (s.setTrace i v).supply j = s.supply j := rfl
@[simp] theorem State.setTrace_vlane (s : State) (i : Nat) (v : Trace) (j : Nat) : (s.setTrace i v).vlane j = s.vlane j := rfl
@[simp] theorem State.setTrace_chan (s : State) (i : Nat) (v : Trace) (j : Nat) : (s.setTrace i v).chan j = s.chan j := rfl
@[simp] theorem State.setTrace_cmp (s : State) (i : Nat) (v : Trace) (j : Nat) : (s.setTrace i v).cmp j = s.cmp j := rfl
@[simp] theorem State.setTrace_emu (s : State) (i : Nat) (v : Trace) (j : Nat) : (s.setTrace i v).emu j = s.emu j := rfl
@[simp] theorem State.setTrace_strm (s : State) (i : Nat) (v : Trace) (j : Nat) : (s.setTrace i v).strm j = s.strm j := rfl
@[simp] theorem State.setTrace_dma (s : State) (i : Nat) (v : Trace) (j : Nat) : (s.setTrace i v).dma j = s.dma j := rfl

/-! setSupply -/

@[simp] theorem State.setSupply_regs (s : State) (i : Nat) (v : Supply) : (s.setSupply i v).regs = s.regs := rfl
@[simp] theorem State.setSupply_mem (s : State) (i : Nat) (v : Supply) : (s.setSupply i v).mem = s.mem := rfl
@[simp] theorem State.setSupply_poison (s : State) (i : Nat) (v : Supply) : (s.setSupply i v).poison = s.poison := rfl
@[simp] theorem State.setSupply_tb (s : State) (i : Nat) (v : Supply) : (s.setSupply i v).tb = s.tb := rfl
@[simp] theorem State.setSupply_pending (s : State) (i : Nat) (v : Supply) : (s.setSupply i v).pending = s.pending := rfl
@[simp] theorem State.setSupply_out (s : State) (i : Nat) (v : Supply) : (s.setSupply i v).out = s.out := rfl
@[simp] theorem State.setSupply_free (s : State) (i : Nat) (v : Supply) : (s.setSupply i v).free = s.free := rfl
@[simp] theorem State.setSupply_firstThis (s : State) (i : Nat) (v : Supply) : (s.setSupply i v).firstThis = s.firstThis := rfl
@[simp] theorem State.setSupply_fltRead (s : State) (i : Nat) (v : Supply) : (s.setSupply i v).fltRead = s.fltRead := rfl
@[simp] theorem State.setSupply_engines (s : State) (i : Nat) (v : Supply) : (s.setSupply i v).engines = s.engines := rfl
@[simp] theorem State.setSupply_items (s : State) (i : Nat) (v : Supply) : (s.setSupply i v).items = s.items := rfl
@[simp] theorem State.setSupply_nextItem (s : State) (i : Nat) (v : Supply) : (s.setSupply i v).nextItem = s.nextItem := rfl
@[simp] theorem State.setSupply_jobs (s : State) (i : Nat) (v : Supply) : (s.setSupply i v).jobs = s.jobs := rfl
@[simp] theorem State.setSupply_intake (s : State) (i : Nat) (v : Supply) : (s.setSupply i v).intake = s.intake := rfl
@[simp] theorem State.setSupply_intakeNext (s : State) (i : Nat) (v : Supply) : (s.setSupply i v).intakeNext = s.intakeNext := rfl
@[simp] theorem State.setSupply_waitingCpl (s : State) (i : Nat) (v : Supply) : (s.setSupply i v).waitingCpl = s.waitingCpl := rfl
@[simp] theorem State.setSupply_unlocks (s : State) (i : Nat) (v : Supply) : (s.setSupply i v).unlocks = s.unlocks := rfl
@[simp] theorem State.setSupply_w1Locked (s : State) (i : Nat) (v : Supply) : (s.setSupply i v).w1Locked = s.w1Locked := rfl
@[simp] theorem State.setSupply_staged (s : State) (i : Nat) (v : Supply) : (s.setSupply i v).staged = s.staged := rfl
@[simp] theorem State.setSupply_issueQ (s : State) (i : Nat) (v : Supply) : (s.setSupply i v).issueQ = s.issueQ := rfl
@[simp] theorem State.setSupply_issueSeq (s : State) (i : Nat) (v : Supply) : (s.setSupply i v).issueSeq = s.issueSeq := rfl
@[simp] theorem State.setSupply_taken (s : State) (i : Nat) (v : Supply) : (s.setSupply i v).taken = s.taken := rfl
@[simp] theorem State.setSupply_expect (s : State) (i : Nat) (v : Supply) : (s.setSupply i v).expect = s.expect := rfl
@[simp] theorem State.setSupply_streams (s : State) (i : Nat) (v : Supply) : (s.setSupply i v).streams = s.streams := rfl
@[simp] theorem State.setSupply_dmas (s : State) (i : Nat) (v : Supply) : (s.setSupply i v).dmas = s.dmas := rfl
@[simp] theorem State.setSupply_dmaTurn (s : State) (i : Nat) (v : Supply) : (s.setSupply i v).dmaTurn = s.dmaTurn := rfl
@[simp] theorem State.setSupply_lanes (s : State) (i : Nat) (v : Supply) : (s.setSupply i v).lanes = s.lanes := rfl
@[simp] theorem State.setSupply_vlanes (s : State) (i : Nat) (v : Supply) : (s.setSupply i v).vlanes = s.vlanes := rfl
@[simp] theorem State.setSupply_holds (s : State) (i : Nat) (v : Supply) : (s.setSupply i v).holds = s.holds := rfl
@[simp] theorem State.setSupply_nzDirty (s : State) (i : Nat) (v : Supply) : (s.setSupply i v).nzDirty = s.nzDirty := rfl
@[simp] theorem State.setSupply_channels (s : State) (i : Nat) (v : Supply) : (s.setSupply i v).channels = s.channels := rfl
@[simp] theorem State.setSupply_cmps (s : State) (i : Nat) (v : Supply) : (s.setSupply i v).cmps = s.cmps := rfl
@[simp] theorem State.setSupply_emus (s : State) (i : Nat) (v : Supply) : (s.setSupply i v).emus = s.emus := rfl
@[simp] theorem State.setSupply_domains (s : State) (i : Nat) (v : Supply) : (s.setSupply i v).domains = s.domains := rfl
@[simp] theorem State.setSupply_heads (s : State) (i : Nat) (v : Supply) : (s.setSupply i v).heads = s.heads := rfl
@[simp] theorem State.setSupply_axes (s : State) (i : Nat) (v : Supply) : (s.setSupply i v).axes = s.axes := rfl
@[simp] theorem State.setSupply_groups (s : State) (i : Nat) (v : Supply) : (s.setSupply i v).groups = s.groups := rfl
@[simp] theorem State.setSupply_rejects (s : State) (i : Nat) (v : Supply) : (s.setSupply i v).rejects = s.rejects := rfl
@[simp] theorem State.setSupply_traces (s : State) (i : Nat) (v : Supply) : (s.setSupply i v).traces = s.traces := rfl
@[simp] theorem State.setSupply_timerAt (s : State) (i : Nat) (v : Supply) : (s.setSupply i v).timerAt = s.timerAt := rfl
@[simp] theorem State.setSupply_gateLast (s : State) (i : Nat) (v : Supply) : (s.setSupply i v).gateLast = s.gateLast := rfl
@[simp] theorem State.setSupply_loopSat (s : State) (i : Nat) (v : Supply) : (s.setSupply i v).loopSat = s.loopSat := rfl
@[simp] theorem State.setSupply_pwmDuty (s : State) (i : Nat) (v : Supply) : (s.setSupply i v).pwmDuty = s.pwmDuty := rfl
@[simp] theorem State.setSupply_pwmAt (s : State) (i : Nat) (v : Supply) : (s.setSupply i v).pwmAt = s.pwmAt := rfl
@[simp] theorem State.setSupply_ledger (s : State) (i : Nat) (v : Supply) : (s.setSupply i v).ledger = s.ledger := rfl
@[simp] theorem State.setSupply_geode (s : State) (i : Nat) (v : Supply) : (s.setSupply i v).geode = s.geode := rfl
@[simp] theorem State.setSupply_fuses (s : State) (i : Nat) (v : Supply) : (s.setSupply i v).fuses = s.fuses := rfl
@[simp] theorem State.setSupply_twin (s : State) (i : Nat) (v : Supply) : (s.setSupply i v).twin = s.twin := rfl
@[simp] theorem State.setSupply_pcie (s : State) (i : Nat) (v : Supply) : (s.setSupply i v).pcie = s.pcie := rfl
@[simp] theorem State.setSupply_power (s : State) (i : Nat) (v : Supply) : (s.setSupply i v).power = s.power := rfl
@[simp] theorem State.setSupply_boot (s : State) (i : Nat) (v : Supply) : (s.setSupply i v).boot = s.boot := rfl
@[simp] theorem State.setSupply_cal (s : State) (i : Nat) (v : Supply) : (s.setSupply i v).cal = s.cal := rfl
@[simp] theorem State.setSupply_quartz (s : State) (i : Nat) (v : Supply) : (s.setSupply i v).quartz = s.quartz := rfl
@[simp] theorem State.setSupply_sec (s : State) (i : Nat) (v : Supply) : (s.setSupply i v).sec = s.sec := rfl
@[simp] theorem State.setSupply_frozenFaultIn (s : State) (i : Nat) (v : Supply) : (s.setSupply i v).frozenFaultIn = s.frozenFaultIn := rfl
@[simp] theorem State.setSupply_jtagIr (s : State) (i : Nat) (v : Supply) : (s.setSupply i v).jtagIr = s.jtagIr := rfl
@[simp] theorem State.setSupply_bsr (s : State) (i : Nat) (v : Supply) : (s.setSupply i v).bsr = s.bsr := rfl
@[simp] theorem State.setSupply_scanKey (s : State) (i : Nat) (v : Supply) : (s.setSupply i v).scanKey = s.scanKey := rfl
@[simp] theorem State.setSupply_soft (s : State) (i : Nat) (v : Supply) : (s.setSupply i v).soft = s.soft := rfl
@[simp] theorem State.setSupply_wire (s : State) (i : Nat) (v : Supply) : (s.setSupply i v).wire = s.wire := rfl
@[simp] theorem State.setSupply_lineTx (s : State) (i : Nat) (v : Supply) : (s.setSupply i v).lineTx = s.lineTx := rfl
@[simp] theorem State.setSupply_lineRx (s : State) (i : Nat) (v : Supply) : (s.setSupply i v).lineRx = s.lineRx := rfl
@[simp] theorem State.setSupply_doneJobs (s : State) (i : Nat) (v : Supply) : (s.setSupply i v).doneJobs = s.doneJobs := rfl
@[simp] theorem State.setSupply_replayOut (s : State) (i : Nat) (v : Supply) : (s.setSupply i v).replayOut = s.replayOut := rfl
@[simp] theorem State.setSupply_planAt (s : State) (i : Nat) (v : Supply) : (s.setSupply i v).planAt = s.planAt := rfl
@[simp] theorem State.setSupply_riseAt (s : State) (i : Nat) (v : Supply) : (s.setSupply i v).riseAt = s.riseAt := rfl
@[simp] theorem State.setSupply_errPulseEnd (s : State) (i : Nat) (v : Supply) : (s.setSupply i v).errPulseEnd = s.errPulseEnd := rfl
@[simp] theorem State.setSupply_errRelease (s : State) (i : Nat) (v : Supply) : (s.setSupply i v).errRelease = s.errRelease := rfl
@[simp] theorem State.setSupply_rd (s : State) (i : Nat) (v : Supply) (c : Nat) : (s.setSupply i v).rd c = s.rd c := rfl
@[simp] theorem State.setSupply_f (s : State) (i : Nat) (v : Supply) (x : Field) : (s.setSupply i v).f x = s.f x := rfl
@[simp] theorem State.setSupply_b (s : State) (i : Nat) (v : Supply) (x : Field) : (s.setSupply i v).b x = s.b x := rfl
@[simp] theorem State.setSupply_rn (s : State) (i : Nat) (v : Supply) (c : Nat) : (s.setSupply i v).rn c = s.rn c := rfl
@[simp] theorem State.setSupply_rd64 (s : State) (i : Nat) (v : Supply) (c : Nat) : (s.setSupply i v).rd64 c = s.rd64 c := rfl
@[simp] theorem State.setSupply_byte (s : State) (i : Nat) (v : Supply) (c : Nat) : (s.setSupply i v).byte c = s.byte c := rfl
@[simp] theorem State.setSupply_readMem (s : State) (i : Nat) (v : Supply) (c n : Nat) : (s.setSupply i v).readMem c n = s.readMem c n := rfl
@[simp] theorem State.setSupply_eng (s : State) (i : Nat) (v : Supply) (j : Nat) : (s.setSupply i v).eng j = s.eng j := rfl
@[simp] theorem State.setSupply_lane (s : State) (i : Nat) (v : Supply) (j : Nat) : (s.setSupply i v).lane j = s.lane j := rfl
@[simp] theorem State.setSupply_dom (s : State) (i : Nat) (v : Supply) (j : Nat) : (s.setSupply i v).dom j = s.dom j := rfl
@[simp] theorem State.setSupply_head (s : State) (i : Nat) (v : Supply) (j : Nat) : (s.setSupply i v).head j = s.head j := rfl
@[simp] theorem State.setSupply_axis (s : State) (i : Nat) (v : Supply) (j : Nat) : (s.setSupply i v).axis j = s.axis j := rfl
@[simp] theorem State.setSupply_group (s : State) (i : Nat) (v : Supply) (j : Nat) : (s.setSupply i v).group j = s.group j := rfl
@[simp] theorem State.setSupply_rej (s : State) (i : Nat) (v : Supply) (j : Nat) : (s.setSupply i v).rej j = s.rej j := rfl
@[simp] theorem State.setSupply_trace (s : State) (i : Nat) (v : Supply) (j : Nat) : (s.setSupply i v).trace j = s.trace j := rfl
theorem State.setSupply_supply (s : State) (i : Nat) (v : Supply) (j : Nat) :
    (s.setSupply i v).supply j = if i = j then v else s.supply j := Map.get_set _ _ _ _ _
@[simp] theorem State.setSupply_supply_same (s : State) (i : Nat) (v : Supply) : (s.setSupply i v).supply i = v := Map.get_set_same _ _ _ _
@[simp] theorem State.setSupply_vlane (s : State) (i : Nat) (v : Supply) (j : Nat) : (s.setSupply i v).vlane j = s.vlane j := rfl
@[simp] theorem State.setSupply_chan (s : State) (i : Nat) (v : Supply) (j : Nat) : (s.setSupply i v).chan j = s.chan j := rfl
@[simp] theorem State.setSupply_cmp (s : State) (i : Nat) (v : Supply) (j : Nat) : (s.setSupply i v).cmp j = s.cmp j := rfl
@[simp] theorem State.setSupply_emu (s : State) (i : Nat) (v : Supply) (j : Nat) : (s.setSupply i v).emu j = s.emu j := rfl
@[simp] theorem State.setSupply_strm (s : State) (i : Nat) (v : Supply) (j : Nat) : (s.setSupply i v).strm j = s.strm j := rfl
@[simp] theorem State.setSupply_dma (s : State) (i : Nat) (v : Supply) (j : Nat) : (s.setSupply i v).dma j = s.dma j := rfl

/-! setVLane -/

@[simp] theorem State.setVLane_regs (s : State) (i : Nat) (v : VLane) : (s.setVLane i v).regs = s.regs := rfl
@[simp] theorem State.setVLane_mem (s : State) (i : Nat) (v : VLane) : (s.setVLane i v).mem = s.mem := rfl
@[simp] theorem State.setVLane_poison (s : State) (i : Nat) (v : VLane) : (s.setVLane i v).poison = s.poison := rfl
@[simp] theorem State.setVLane_tb (s : State) (i : Nat) (v : VLane) : (s.setVLane i v).tb = s.tb := rfl
@[simp] theorem State.setVLane_pending (s : State) (i : Nat) (v : VLane) : (s.setVLane i v).pending = s.pending := rfl
@[simp] theorem State.setVLane_out (s : State) (i : Nat) (v : VLane) : (s.setVLane i v).out = s.out := rfl
@[simp] theorem State.setVLane_free (s : State) (i : Nat) (v : VLane) : (s.setVLane i v).free = s.free := rfl
@[simp] theorem State.setVLane_firstThis (s : State) (i : Nat) (v : VLane) : (s.setVLane i v).firstThis = s.firstThis := rfl
@[simp] theorem State.setVLane_fltRead (s : State) (i : Nat) (v : VLane) : (s.setVLane i v).fltRead = s.fltRead := rfl
@[simp] theorem State.setVLane_engines (s : State) (i : Nat) (v : VLane) : (s.setVLane i v).engines = s.engines := rfl
@[simp] theorem State.setVLane_items (s : State) (i : Nat) (v : VLane) : (s.setVLane i v).items = s.items := rfl
@[simp] theorem State.setVLane_nextItem (s : State) (i : Nat) (v : VLane) : (s.setVLane i v).nextItem = s.nextItem := rfl
@[simp] theorem State.setVLane_jobs (s : State) (i : Nat) (v : VLane) : (s.setVLane i v).jobs = s.jobs := rfl
@[simp] theorem State.setVLane_intake (s : State) (i : Nat) (v : VLane) : (s.setVLane i v).intake = s.intake := rfl
@[simp] theorem State.setVLane_intakeNext (s : State) (i : Nat) (v : VLane) : (s.setVLane i v).intakeNext = s.intakeNext := rfl
@[simp] theorem State.setVLane_waitingCpl (s : State) (i : Nat) (v : VLane) : (s.setVLane i v).waitingCpl = s.waitingCpl := rfl
@[simp] theorem State.setVLane_unlocks (s : State) (i : Nat) (v : VLane) : (s.setVLane i v).unlocks = s.unlocks := rfl
@[simp] theorem State.setVLane_w1Locked (s : State) (i : Nat) (v : VLane) : (s.setVLane i v).w1Locked = s.w1Locked := rfl
@[simp] theorem State.setVLane_staged (s : State) (i : Nat) (v : VLane) : (s.setVLane i v).staged = s.staged := rfl
@[simp] theorem State.setVLane_issueQ (s : State) (i : Nat) (v : VLane) : (s.setVLane i v).issueQ = s.issueQ := rfl
@[simp] theorem State.setVLane_issueSeq (s : State) (i : Nat) (v : VLane) : (s.setVLane i v).issueSeq = s.issueSeq := rfl
@[simp] theorem State.setVLane_taken (s : State) (i : Nat) (v : VLane) : (s.setVLane i v).taken = s.taken := rfl
@[simp] theorem State.setVLane_expect (s : State) (i : Nat) (v : VLane) : (s.setVLane i v).expect = s.expect := rfl
@[simp] theorem State.setVLane_streams (s : State) (i : Nat) (v : VLane) : (s.setVLane i v).streams = s.streams := rfl
@[simp] theorem State.setVLane_dmas (s : State) (i : Nat) (v : VLane) : (s.setVLane i v).dmas = s.dmas := rfl
@[simp] theorem State.setVLane_dmaTurn (s : State) (i : Nat) (v : VLane) : (s.setVLane i v).dmaTurn = s.dmaTurn := rfl
@[simp] theorem State.setVLane_lanes (s : State) (i : Nat) (v : VLane) : (s.setVLane i v).lanes = s.lanes := rfl
@[simp] theorem State.setVLane_holds (s : State) (i : Nat) (v : VLane) : (s.setVLane i v).holds = s.holds := rfl
@[simp] theorem State.setVLane_nzDirty (s : State) (i : Nat) (v : VLane) : (s.setVLane i v).nzDirty = s.nzDirty := rfl
@[simp] theorem State.setVLane_channels (s : State) (i : Nat) (v : VLane) : (s.setVLane i v).channels = s.channels := rfl
@[simp] theorem State.setVLane_cmps (s : State) (i : Nat) (v : VLane) : (s.setVLane i v).cmps = s.cmps := rfl
@[simp] theorem State.setVLane_emus (s : State) (i : Nat) (v : VLane) : (s.setVLane i v).emus = s.emus := rfl
@[simp] theorem State.setVLane_domains (s : State) (i : Nat) (v : VLane) : (s.setVLane i v).domains = s.domains := rfl
@[simp] theorem State.setVLane_heads (s : State) (i : Nat) (v : VLane) : (s.setVLane i v).heads = s.heads := rfl
@[simp] theorem State.setVLane_axes (s : State) (i : Nat) (v : VLane) : (s.setVLane i v).axes = s.axes := rfl
@[simp] theorem State.setVLane_groups (s : State) (i : Nat) (v : VLane) : (s.setVLane i v).groups = s.groups := rfl
@[simp] theorem State.setVLane_rejects (s : State) (i : Nat) (v : VLane) : (s.setVLane i v).rejects = s.rejects := rfl
@[simp] theorem State.setVLane_traces (s : State) (i : Nat) (v : VLane) : (s.setVLane i v).traces = s.traces := rfl
@[simp] theorem State.setVLane_timerAt (s : State) (i : Nat) (v : VLane) : (s.setVLane i v).timerAt = s.timerAt := rfl
@[simp] theorem State.setVLane_gateLast (s : State) (i : Nat) (v : VLane) : (s.setVLane i v).gateLast = s.gateLast := rfl
@[simp] theorem State.setVLane_loopSat (s : State) (i : Nat) (v : VLane) : (s.setVLane i v).loopSat = s.loopSat := rfl
@[simp] theorem State.setVLane_pwmDuty (s : State) (i : Nat) (v : VLane) : (s.setVLane i v).pwmDuty = s.pwmDuty := rfl
@[simp] theorem State.setVLane_pwmAt (s : State) (i : Nat) (v : VLane) : (s.setVLane i v).pwmAt = s.pwmAt := rfl
@[simp] theorem State.setVLane_ledger (s : State) (i : Nat) (v : VLane) : (s.setVLane i v).ledger = s.ledger := rfl
@[simp] theorem State.setVLane_geode (s : State) (i : Nat) (v : VLane) : (s.setVLane i v).geode = s.geode := rfl
@[simp] theorem State.setVLane_fuses (s : State) (i : Nat) (v : VLane) : (s.setVLane i v).fuses = s.fuses := rfl
@[simp] theorem State.setVLane_supplies (s : State) (i : Nat) (v : VLane) : (s.setVLane i v).supplies = s.supplies := rfl
@[simp] theorem State.setVLane_twin (s : State) (i : Nat) (v : VLane) : (s.setVLane i v).twin = s.twin := rfl
@[simp] theorem State.setVLane_pcie (s : State) (i : Nat) (v : VLane) : (s.setVLane i v).pcie = s.pcie := rfl
@[simp] theorem State.setVLane_power (s : State) (i : Nat) (v : VLane) : (s.setVLane i v).power = s.power := rfl
@[simp] theorem State.setVLane_boot (s : State) (i : Nat) (v : VLane) : (s.setVLane i v).boot = s.boot := rfl
@[simp] theorem State.setVLane_cal (s : State) (i : Nat) (v : VLane) : (s.setVLane i v).cal = s.cal := rfl
@[simp] theorem State.setVLane_quartz (s : State) (i : Nat) (v : VLane) : (s.setVLane i v).quartz = s.quartz := rfl
@[simp] theorem State.setVLane_sec (s : State) (i : Nat) (v : VLane) : (s.setVLane i v).sec = s.sec := rfl
@[simp] theorem State.setVLane_frozenFaultIn (s : State) (i : Nat) (v : VLane) : (s.setVLane i v).frozenFaultIn = s.frozenFaultIn := rfl
@[simp] theorem State.setVLane_jtagIr (s : State) (i : Nat) (v : VLane) : (s.setVLane i v).jtagIr = s.jtagIr := rfl
@[simp] theorem State.setVLane_bsr (s : State) (i : Nat) (v : VLane) : (s.setVLane i v).bsr = s.bsr := rfl
@[simp] theorem State.setVLane_scanKey (s : State) (i : Nat) (v : VLane) : (s.setVLane i v).scanKey = s.scanKey := rfl
@[simp] theorem State.setVLane_soft (s : State) (i : Nat) (v : VLane) : (s.setVLane i v).soft = s.soft := rfl
@[simp] theorem State.setVLane_wire (s : State) (i : Nat) (v : VLane) : (s.setVLane i v).wire = s.wire := rfl
@[simp] theorem State.setVLane_lineTx (s : State) (i : Nat) (v : VLane) : (s.setVLane i v).lineTx = s.lineTx := rfl
@[simp] theorem State.setVLane_lineRx (s : State) (i : Nat) (v : VLane) : (s.setVLane i v).lineRx = s.lineRx := rfl
@[simp] theorem State.setVLane_doneJobs (s : State) (i : Nat) (v : VLane) : (s.setVLane i v).doneJobs = s.doneJobs := rfl
@[simp] theorem State.setVLane_replayOut (s : State) (i : Nat) (v : VLane) : (s.setVLane i v).replayOut = s.replayOut := rfl
@[simp] theorem State.setVLane_planAt (s : State) (i : Nat) (v : VLane) : (s.setVLane i v).planAt = s.planAt := rfl
@[simp] theorem State.setVLane_riseAt (s : State) (i : Nat) (v : VLane) : (s.setVLane i v).riseAt = s.riseAt := rfl
@[simp] theorem State.setVLane_errPulseEnd (s : State) (i : Nat) (v : VLane) : (s.setVLane i v).errPulseEnd = s.errPulseEnd := rfl
@[simp] theorem State.setVLane_errRelease (s : State) (i : Nat) (v : VLane) : (s.setVLane i v).errRelease = s.errRelease := rfl
@[simp] theorem State.setVLane_rd (s : State) (i : Nat) (v : VLane) (c : Nat) : (s.setVLane i v).rd c = s.rd c := rfl
@[simp] theorem State.setVLane_f (s : State) (i : Nat) (v : VLane) (x : Field) : (s.setVLane i v).f x = s.f x := rfl
@[simp] theorem State.setVLane_b (s : State) (i : Nat) (v : VLane) (x : Field) : (s.setVLane i v).b x = s.b x := rfl
@[simp] theorem State.setVLane_rn (s : State) (i : Nat) (v : VLane) (c : Nat) : (s.setVLane i v).rn c = s.rn c := rfl
@[simp] theorem State.setVLane_rd64 (s : State) (i : Nat) (v : VLane) (c : Nat) : (s.setVLane i v).rd64 c = s.rd64 c := rfl
@[simp] theorem State.setVLane_byte (s : State) (i : Nat) (v : VLane) (c : Nat) : (s.setVLane i v).byte c = s.byte c := rfl
@[simp] theorem State.setVLane_readMem (s : State) (i : Nat) (v : VLane) (c n : Nat) : (s.setVLane i v).readMem c n = s.readMem c n := rfl
@[simp] theorem State.setVLane_eng (s : State) (i : Nat) (v : VLane) (j : Nat) : (s.setVLane i v).eng j = s.eng j := rfl
@[simp] theorem State.setVLane_lane (s : State) (i : Nat) (v : VLane) (j : Nat) : (s.setVLane i v).lane j = s.lane j := rfl
@[simp] theorem State.setVLane_dom (s : State) (i : Nat) (v : VLane) (j : Nat) : (s.setVLane i v).dom j = s.dom j := rfl
@[simp] theorem State.setVLane_head (s : State) (i : Nat) (v : VLane) (j : Nat) : (s.setVLane i v).head j = s.head j := rfl
@[simp] theorem State.setVLane_axis (s : State) (i : Nat) (v : VLane) (j : Nat) : (s.setVLane i v).axis j = s.axis j := rfl
@[simp] theorem State.setVLane_group (s : State) (i : Nat) (v : VLane) (j : Nat) : (s.setVLane i v).group j = s.group j := rfl
@[simp] theorem State.setVLane_rej (s : State) (i : Nat) (v : VLane) (j : Nat) : (s.setVLane i v).rej j = s.rej j := rfl
@[simp] theorem State.setVLane_trace (s : State) (i : Nat) (v : VLane) (j : Nat) : (s.setVLane i v).trace j = s.trace j := rfl
@[simp] theorem State.setVLane_supply (s : State) (i : Nat) (v : VLane) (j : Nat) : (s.setVLane i v).supply j = s.supply j := rfl
theorem State.setVLane_vlane (s : State) (i : Nat) (v : VLane) (j : Nat) :
    (s.setVLane i v).vlane j = if i = j then v else s.vlane j := Map.get_set _ _ _ _ _
@[simp] theorem State.setVLane_vlane_same (s : State) (i : Nat) (v : VLane) : (s.setVLane i v).vlane i = v := Map.get_set_same _ _ _ _
@[simp] theorem State.setVLane_chan (s : State) (i : Nat) (v : VLane) (j : Nat) : (s.setVLane i v).chan j = s.chan j := rfl
@[simp] theorem State.setVLane_cmp (s : State) (i : Nat) (v : VLane) (j : Nat) : (s.setVLane i v).cmp j = s.cmp j := rfl
@[simp] theorem State.setVLane_emu (s : State) (i : Nat) (v : VLane) (j : Nat) : (s.setVLane i v).emu j = s.emu j := rfl
@[simp] theorem State.setVLane_strm (s : State) (i : Nat) (v : VLane) (j : Nat) : (s.setVLane i v).strm j = s.strm j := rfl
@[simp] theorem State.setVLane_dma (s : State) (i : Nat) (v : VLane) (j : Nat) : (s.setVLane i v).dma j = s.dma j := rfl

/-! setChan -/

@[simp] theorem State.setChan_regs (s : State) (i : Nat) (v : Channel) : (s.setChan i v).regs = s.regs := rfl
@[simp] theorem State.setChan_mem (s : State) (i : Nat) (v : Channel) : (s.setChan i v).mem = s.mem := rfl
@[simp] theorem State.setChan_poison (s : State) (i : Nat) (v : Channel) : (s.setChan i v).poison = s.poison := rfl
@[simp] theorem State.setChan_tb (s : State) (i : Nat) (v : Channel) : (s.setChan i v).tb = s.tb := rfl
@[simp] theorem State.setChan_pending (s : State) (i : Nat) (v : Channel) : (s.setChan i v).pending = s.pending := rfl
@[simp] theorem State.setChan_out (s : State) (i : Nat) (v : Channel) : (s.setChan i v).out = s.out := rfl
@[simp] theorem State.setChan_free (s : State) (i : Nat) (v : Channel) : (s.setChan i v).free = s.free := rfl
@[simp] theorem State.setChan_firstThis (s : State) (i : Nat) (v : Channel) : (s.setChan i v).firstThis = s.firstThis := rfl
@[simp] theorem State.setChan_fltRead (s : State) (i : Nat) (v : Channel) : (s.setChan i v).fltRead = s.fltRead := rfl
@[simp] theorem State.setChan_engines (s : State) (i : Nat) (v : Channel) : (s.setChan i v).engines = s.engines := rfl
@[simp] theorem State.setChan_items (s : State) (i : Nat) (v : Channel) : (s.setChan i v).items = s.items := rfl
@[simp] theorem State.setChan_nextItem (s : State) (i : Nat) (v : Channel) : (s.setChan i v).nextItem = s.nextItem := rfl
@[simp] theorem State.setChan_jobs (s : State) (i : Nat) (v : Channel) : (s.setChan i v).jobs = s.jobs := rfl
@[simp] theorem State.setChan_intake (s : State) (i : Nat) (v : Channel) : (s.setChan i v).intake = s.intake := rfl
@[simp] theorem State.setChan_intakeNext (s : State) (i : Nat) (v : Channel) : (s.setChan i v).intakeNext = s.intakeNext := rfl
@[simp] theorem State.setChan_waitingCpl (s : State) (i : Nat) (v : Channel) : (s.setChan i v).waitingCpl = s.waitingCpl := rfl
@[simp] theorem State.setChan_unlocks (s : State) (i : Nat) (v : Channel) : (s.setChan i v).unlocks = s.unlocks := rfl
@[simp] theorem State.setChan_w1Locked (s : State) (i : Nat) (v : Channel) : (s.setChan i v).w1Locked = s.w1Locked := rfl
@[simp] theorem State.setChan_staged (s : State) (i : Nat) (v : Channel) : (s.setChan i v).staged = s.staged := rfl
@[simp] theorem State.setChan_issueQ (s : State) (i : Nat) (v : Channel) : (s.setChan i v).issueQ = s.issueQ := rfl
@[simp] theorem State.setChan_issueSeq (s : State) (i : Nat) (v : Channel) : (s.setChan i v).issueSeq = s.issueSeq := rfl
@[simp] theorem State.setChan_taken (s : State) (i : Nat) (v : Channel) : (s.setChan i v).taken = s.taken := rfl
@[simp] theorem State.setChan_expect (s : State) (i : Nat) (v : Channel) : (s.setChan i v).expect = s.expect := rfl
@[simp] theorem State.setChan_streams (s : State) (i : Nat) (v : Channel) : (s.setChan i v).streams = s.streams := rfl
@[simp] theorem State.setChan_dmas (s : State) (i : Nat) (v : Channel) : (s.setChan i v).dmas = s.dmas := rfl
@[simp] theorem State.setChan_dmaTurn (s : State) (i : Nat) (v : Channel) : (s.setChan i v).dmaTurn = s.dmaTurn := rfl
@[simp] theorem State.setChan_lanes (s : State) (i : Nat) (v : Channel) : (s.setChan i v).lanes = s.lanes := rfl
@[simp] theorem State.setChan_vlanes (s : State) (i : Nat) (v : Channel) : (s.setChan i v).vlanes = s.vlanes := rfl
@[simp] theorem State.setChan_holds (s : State) (i : Nat) (v : Channel) : (s.setChan i v).holds = s.holds := rfl
@[simp] theorem State.setChan_nzDirty (s : State) (i : Nat) (v : Channel) : (s.setChan i v).nzDirty = s.nzDirty := rfl
@[simp] theorem State.setChan_cmps (s : State) (i : Nat) (v : Channel) : (s.setChan i v).cmps = s.cmps := rfl
@[simp] theorem State.setChan_emus (s : State) (i : Nat) (v : Channel) : (s.setChan i v).emus = s.emus := rfl
@[simp] theorem State.setChan_domains (s : State) (i : Nat) (v : Channel) : (s.setChan i v).domains = s.domains := rfl
@[simp] theorem State.setChan_heads (s : State) (i : Nat) (v : Channel) : (s.setChan i v).heads = s.heads := rfl
@[simp] theorem State.setChan_axes (s : State) (i : Nat) (v : Channel) : (s.setChan i v).axes = s.axes := rfl
@[simp] theorem State.setChan_groups (s : State) (i : Nat) (v : Channel) : (s.setChan i v).groups = s.groups := rfl
@[simp] theorem State.setChan_rejects (s : State) (i : Nat) (v : Channel) : (s.setChan i v).rejects = s.rejects := rfl
@[simp] theorem State.setChan_traces (s : State) (i : Nat) (v : Channel) : (s.setChan i v).traces = s.traces := rfl
@[simp] theorem State.setChan_timerAt (s : State) (i : Nat) (v : Channel) : (s.setChan i v).timerAt = s.timerAt := rfl
@[simp] theorem State.setChan_gateLast (s : State) (i : Nat) (v : Channel) : (s.setChan i v).gateLast = s.gateLast := rfl
@[simp] theorem State.setChan_loopSat (s : State) (i : Nat) (v : Channel) : (s.setChan i v).loopSat = s.loopSat := rfl
@[simp] theorem State.setChan_pwmDuty (s : State) (i : Nat) (v : Channel) : (s.setChan i v).pwmDuty = s.pwmDuty := rfl
@[simp] theorem State.setChan_pwmAt (s : State) (i : Nat) (v : Channel) : (s.setChan i v).pwmAt = s.pwmAt := rfl
@[simp] theorem State.setChan_ledger (s : State) (i : Nat) (v : Channel) : (s.setChan i v).ledger = s.ledger := rfl
@[simp] theorem State.setChan_geode (s : State) (i : Nat) (v : Channel) : (s.setChan i v).geode = s.geode := rfl
@[simp] theorem State.setChan_fuses (s : State) (i : Nat) (v : Channel) : (s.setChan i v).fuses = s.fuses := rfl
@[simp] theorem State.setChan_supplies (s : State) (i : Nat) (v : Channel) : (s.setChan i v).supplies = s.supplies := rfl
@[simp] theorem State.setChan_twin (s : State) (i : Nat) (v : Channel) : (s.setChan i v).twin = s.twin := rfl
@[simp] theorem State.setChan_pcie (s : State) (i : Nat) (v : Channel) : (s.setChan i v).pcie = s.pcie := rfl
@[simp] theorem State.setChan_power (s : State) (i : Nat) (v : Channel) : (s.setChan i v).power = s.power := rfl
@[simp] theorem State.setChan_boot (s : State) (i : Nat) (v : Channel) : (s.setChan i v).boot = s.boot := rfl
@[simp] theorem State.setChan_cal (s : State) (i : Nat) (v : Channel) : (s.setChan i v).cal = s.cal := rfl
@[simp] theorem State.setChan_quartz (s : State) (i : Nat) (v : Channel) : (s.setChan i v).quartz = s.quartz := rfl
@[simp] theorem State.setChan_sec (s : State) (i : Nat) (v : Channel) : (s.setChan i v).sec = s.sec := rfl
@[simp] theorem State.setChan_frozenFaultIn (s : State) (i : Nat) (v : Channel) : (s.setChan i v).frozenFaultIn = s.frozenFaultIn := rfl
@[simp] theorem State.setChan_jtagIr (s : State) (i : Nat) (v : Channel) : (s.setChan i v).jtagIr = s.jtagIr := rfl
@[simp] theorem State.setChan_bsr (s : State) (i : Nat) (v : Channel) : (s.setChan i v).bsr = s.bsr := rfl
@[simp] theorem State.setChan_scanKey (s : State) (i : Nat) (v : Channel) : (s.setChan i v).scanKey = s.scanKey := rfl
@[simp] theorem State.setChan_soft (s : State) (i : Nat) (v : Channel) : (s.setChan i v).soft = s.soft := rfl
@[simp] theorem State.setChan_wire (s : State) (i : Nat) (v : Channel) : (s.setChan i v).wire = s.wire := rfl
@[simp] theorem State.setChan_lineTx (s : State) (i : Nat) (v : Channel) : (s.setChan i v).lineTx = s.lineTx := rfl
@[simp] theorem State.setChan_lineRx (s : State) (i : Nat) (v : Channel) : (s.setChan i v).lineRx = s.lineRx := rfl
@[simp] theorem State.setChan_doneJobs (s : State) (i : Nat) (v : Channel) : (s.setChan i v).doneJobs = s.doneJobs := rfl
@[simp] theorem State.setChan_replayOut (s : State) (i : Nat) (v : Channel) : (s.setChan i v).replayOut = s.replayOut := rfl
@[simp] theorem State.setChan_planAt (s : State) (i : Nat) (v : Channel) : (s.setChan i v).planAt = s.planAt := rfl
@[simp] theorem State.setChan_riseAt (s : State) (i : Nat) (v : Channel) : (s.setChan i v).riseAt = s.riseAt := rfl
@[simp] theorem State.setChan_errPulseEnd (s : State) (i : Nat) (v : Channel) : (s.setChan i v).errPulseEnd = s.errPulseEnd := rfl
@[simp] theorem State.setChan_errRelease (s : State) (i : Nat) (v : Channel) : (s.setChan i v).errRelease = s.errRelease := rfl
@[simp] theorem State.setChan_rd (s : State) (i : Nat) (v : Channel) (c : Nat) : (s.setChan i v).rd c = s.rd c := rfl
@[simp] theorem State.setChan_f (s : State) (i : Nat) (v : Channel) (x : Field) : (s.setChan i v).f x = s.f x := rfl
@[simp] theorem State.setChan_b (s : State) (i : Nat) (v : Channel) (x : Field) : (s.setChan i v).b x = s.b x := rfl
@[simp] theorem State.setChan_rn (s : State) (i : Nat) (v : Channel) (c : Nat) : (s.setChan i v).rn c = s.rn c := rfl
@[simp] theorem State.setChan_rd64 (s : State) (i : Nat) (v : Channel) (c : Nat) : (s.setChan i v).rd64 c = s.rd64 c := rfl
@[simp] theorem State.setChan_byte (s : State) (i : Nat) (v : Channel) (c : Nat) : (s.setChan i v).byte c = s.byte c := rfl
@[simp] theorem State.setChan_readMem (s : State) (i : Nat) (v : Channel) (c n : Nat) : (s.setChan i v).readMem c n = s.readMem c n := rfl
@[simp] theorem State.setChan_eng (s : State) (i : Nat) (v : Channel) (j : Nat) : (s.setChan i v).eng j = s.eng j := rfl
@[simp] theorem State.setChan_lane (s : State) (i : Nat) (v : Channel) (j : Nat) : (s.setChan i v).lane j = s.lane j := rfl
@[simp] theorem State.setChan_dom (s : State) (i : Nat) (v : Channel) (j : Nat) : (s.setChan i v).dom j = s.dom j := rfl
@[simp] theorem State.setChan_head (s : State) (i : Nat) (v : Channel) (j : Nat) : (s.setChan i v).head j = s.head j := rfl
@[simp] theorem State.setChan_axis (s : State) (i : Nat) (v : Channel) (j : Nat) : (s.setChan i v).axis j = s.axis j := rfl
@[simp] theorem State.setChan_group (s : State) (i : Nat) (v : Channel) (j : Nat) : (s.setChan i v).group j = s.group j := rfl
@[simp] theorem State.setChan_rej (s : State) (i : Nat) (v : Channel) (j : Nat) : (s.setChan i v).rej j = s.rej j := rfl
@[simp] theorem State.setChan_trace (s : State) (i : Nat) (v : Channel) (j : Nat) : (s.setChan i v).trace j = s.trace j := rfl
@[simp] theorem State.setChan_supply (s : State) (i : Nat) (v : Channel) (j : Nat) : (s.setChan i v).supply j = s.supply j := rfl
@[simp] theorem State.setChan_vlane (s : State) (i : Nat) (v : Channel) (j : Nat) : (s.setChan i v).vlane j = s.vlane j := rfl
theorem State.setChan_chan (s : State) (i : Nat) (v : Channel) (j : Nat) :
    (s.setChan i v).chan j = if i = j then v else s.chan j := Map.get_set _ _ _ _ _
@[simp] theorem State.setChan_chan_same (s : State) (i : Nat) (v : Channel) : (s.setChan i v).chan i = v := Map.get_set_same _ _ _ _
@[simp] theorem State.setChan_cmp (s : State) (i : Nat) (v : Channel) (j : Nat) : (s.setChan i v).cmp j = s.cmp j := rfl
@[simp] theorem State.setChan_emu (s : State) (i : Nat) (v : Channel) (j : Nat) : (s.setChan i v).emu j = s.emu j := rfl
@[simp] theorem State.setChan_strm (s : State) (i : Nat) (v : Channel) (j : Nat) : (s.setChan i v).strm j = s.strm j := rfl
@[simp] theorem State.setChan_dma (s : State) (i : Nat) (v : Channel) (j : Nat) : (s.setChan i v).dma j = s.dma j := rfl

/-! setCmp -/

@[simp] theorem State.setCmp_regs (s : State) (i : Nat) (v : Cmp) : (s.setCmp i v).regs = s.regs := rfl
@[simp] theorem State.setCmp_mem (s : State) (i : Nat) (v : Cmp) : (s.setCmp i v).mem = s.mem := rfl
@[simp] theorem State.setCmp_poison (s : State) (i : Nat) (v : Cmp) : (s.setCmp i v).poison = s.poison := rfl
@[simp] theorem State.setCmp_tb (s : State) (i : Nat) (v : Cmp) : (s.setCmp i v).tb = s.tb := rfl
@[simp] theorem State.setCmp_pending (s : State) (i : Nat) (v : Cmp) : (s.setCmp i v).pending = s.pending := rfl
@[simp] theorem State.setCmp_out (s : State) (i : Nat) (v : Cmp) : (s.setCmp i v).out = s.out := rfl
@[simp] theorem State.setCmp_free (s : State) (i : Nat) (v : Cmp) : (s.setCmp i v).free = s.free := rfl
@[simp] theorem State.setCmp_firstThis (s : State) (i : Nat) (v : Cmp) : (s.setCmp i v).firstThis = s.firstThis := rfl
@[simp] theorem State.setCmp_fltRead (s : State) (i : Nat) (v : Cmp) : (s.setCmp i v).fltRead = s.fltRead := rfl
@[simp] theorem State.setCmp_engines (s : State) (i : Nat) (v : Cmp) : (s.setCmp i v).engines = s.engines := rfl
@[simp] theorem State.setCmp_items (s : State) (i : Nat) (v : Cmp) : (s.setCmp i v).items = s.items := rfl
@[simp] theorem State.setCmp_nextItem (s : State) (i : Nat) (v : Cmp) : (s.setCmp i v).nextItem = s.nextItem := rfl
@[simp] theorem State.setCmp_jobs (s : State) (i : Nat) (v : Cmp) : (s.setCmp i v).jobs = s.jobs := rfl
@[simp] theorem State.setCmp_intake (s : State) (i : Nat) (v : Cmp) : (s.setCmp i v).intake = s.intake := rfl
@[simp] theorem State.setCmp_intakeNext (s : State) (i : Nat) (v : Cmp) : (s.setCmp i v).intakeNext = s.intakeNext := rfl
@[simp] theorem State.setCmp_waitingCpl (s : State) (i : Nat) (v : Cmp) : (s.setCmp i v).waitingCpl = s.waitingCpl := rfl
@[simp] theorem State.setCmp_unlocks (s : State) (i : Nat) (v : Cmp) : (s.setCmp i v).unlocks = s.unlocks := rfl
@[simp] theorem State.setCmp_w1Locked (s : State) (i : Nat) (v : Cmp) : (s.setCmp i v).w1Locked = s.w1Locked := rfl
@[simp] theorem State.setCmp_staged (s : State) (i : Nat) (v : Cmp) : (s.setCmp i v).staged = s.staged := rfl
@[simp] theorem State.setCmp_issueQ (s : State) (i : Nat) (v : Cmp) : (s.setCmp i v).issueQ = s.issueQ := rfl
@[simp] theorem State.setCmp_issueSeq (s : State) (i : Nat) (v : Cmp) : (s.setCmp i v).issueSeq = s.issueSeq := rfl
@[simp] theorem State.setCmp_taken (s : State) (i : Nat) (v : Cmp) : (s.setCmp i v).taken = s.taken := rfl
@[simp] theorem State.setCmp_expect (s : State) (i : Nat) (v : Cmp) : (s.setCmp i v).expect = s.expect := rfl
@[simp] theorem State.setCmp_streams (s : State) (i : Nat) (v : Cmp) : (s.setCmp i v).streams = s.streams := rfl
@[simp] theorem State.setCmp_dmas (s : State) (i : Nat) (v : Cmp) : (s.setCmp i v).dmas = s.dmas := rfl
@[simp] theorem State.setCmp_dmaTurn (s : State) (i : Nat) (v : Cmp) : (s.setCmp i v).dmaTurn = s.dmaTurn := rfl
@[simp] theorem State.setCmp_lanes (s : State) (i : Nat) (v : Cmp) : (s.setCmp i v).lanes = s.lanes := rfl
@[simp] theorem State.setCmp_vlanes (s : State) (i : Nat) (v : Cmp) : (s.setCmp i v).vlanes = s.vlanes := rfl
@[simp] theorem State.setCmp_holds (s : State) (i : Nat) (v : Cmp) : (s.setCmp i v).holds = s.holds := rfl
@[simp] theorem State.setCmp_nzDirty (s : State) (i : Nat) (v : Cmp) : (s.setCmp i v).nzDirty = s.nzDirty := rfl
@[simp] theorem State.setCmp_channels (s : State) (i : Nat) (v : Cmp) : (s.setCmp i v).channels = s.channels := rfl
@[simp] theorem State.setCmp_emus (s : State) (i : Nat) (v : Cmp) : (s.setCmp i v).emus = s.emus := rfl
@[simp] theorem State.setCmp_domains (s : State) (i : Nat) (v : Cmp) : (s.setCmp i v).domains = s.domains := rfl
@[simp] theorem State.setCmp_heads (s : State) (i : Nat) (v : Cmp) : (s.setCmp i v).heads = s.heads := rfl
@[simp] theorem State.setCmp_axes (s : State) (i : Nat) (v : Cmp) : (s.setCmp i v).axes = s.axes := rfl
@[simp] theorem State.setCmp_groups (s : State) (i : Nat) (v : Cmp) : (s.setCmp i v).groups = s.groups := rfl
@[simp] theorem State.setCmp_rejects (s : State) (i : Nat) (v : Cmp) : (s.setCmp i v).rejects = s.rejects := rfl
@[simp] theorem State.setCmp_traces (s : State) (i : Nat) (v : Cmp) : (s.setCmp i v).traces = s.traces := rfl
@[simp] theorem State.setCmp_timerAt (s : State) (i : Nat) (v : Cmp) : (s.setCmp i v).timerAt = s.timerAt := rfl
@[simp] theorem State.setCmp_gateLast (s : State) (i : Nat) (v : Cmp) : (s.setCmp i v).gateLast = s.gateLast := rfl
@[simp] theorem State.setCmp_loopSat (s : State) (i : Nat) (v : Cmp) : (s.setCmp i v).loopSat = s.loopSat := rfl
@[simp] theorem State.setCmp_pwmDuty (s : State) (i : Nat) (v : Cmp) : (s.setCmp i v).pwmDuty = s.pwmDuty := rfl
@[simp] theorem State.setCmp_pwmAt (s : State) (i : Nat) (v : Cmp) : (s.setCmp i v).pwmAt = s.pwmAt := rfl
@[simp] theorem State.setCmp_ledger (s : State) (i : Nat) (v : Cmp) : (s.setCmp i v).ledger = s.ledger := rfl
@[simp] theorem State.setCmp_geode (s : State) (i : Nat) (v : Cmp) : (s.setCmp i v).geode = s.geode := rfl
@[simp] theorem State.setCmp_fuses (s : State) (i : Nat) (v : Cmp) : (s.setCmp i v).fuses = s.fuses := rfl
@[simp] theorem State.setCmp_supplies (s : State) (i : Nat) (v : Cmp) : (s.setCmp i v).supplies = s.supplies := rfl
@[simp] theorem State.setCmp_twin (s : State) (i : Nat) (v : Cmp) : (s.setCmp i v).twin = s.twin := rfl
@[simp] theorem State.setCmp_pcie (s : State) (i : Nat) (v : Cmp) : (s.setCmp i v).pcie = s.pcie := rfl
@[simp] theorem State.setCmp_power (s : State) (i : Nat) (v : Cmp) : (s.setCmp i v).power = s.power := rfl
@[simp] theorem State.setCmp_boot (s : State) (i : Nat) (v : Cmp) : (s.setCmp i v).boot = s.boot := rfl
@[simp] theorem State.setCmp_cal (s : State) (i : Nat) (v : Cmp) : (s.setCmp i v).cal = s.cal := rfl
@[simp] theorem State.setCmp_quartz (s : State) (i : Nat) (v : Cmp) : (s.setCmp i v).quartz = s.quartz := rfl
@[simp] theorem State.setCmp_sec (s : State) (i : Nat) (v : Cmp) : (s.setCmp i v).sec = s.sec := rfl
@[simp] theorem State.setCmp_frozenFaultIn (s : State) (i : Nat) (v : Cmp) : (s.setCmp i v).frozenFaultIn = s.frozenFaultIn := rfl
@[simp] theorem State.setCmp_jtagIr (s : State) (i : Nat) (v : Cmp) : (s.setCmp i v).jtagIr = s.jtagIr := rfl
@[simp] theorem State.setCmp_bsr (s : State) (i : Nat) (v : Cmp) : (s.setCmp i v).bsr = s.bsr := rfl
@[simp] theorem State.setCmp_scanKey (s : State) (i : Nat) (v : Cmp) : (s.setCmp i v).scanKey = s.scanKey := rfl
@[simp] theorem State.setCmp_soft (s : State) (i : Nat) (v : Cmp) : (s.setCmp i v).soft = s.soft := rfl
@[simp] theorem State.setCmp_wire (s : State) (i : Nat) (v : Cmp) : (s.setCmp i v).wire = s.wire := rfl
@[simp] theorem State.setCmp_lineTx (s : State) (i : Nat) (v : Cmp) : (s.setCmp i v).lineTx = s.lineTx := rfl
@[simp] theorem State.setCmp_lineRx (s : State) (i : Nat) (v : Cmp) : (s.setCmp i v).lineRx = s.lineRx := rfl
@[simp] theorem State.setCmp_doneJobs (s : State) (i : Nat) (v : Cmp) : (s.setCmp i v).doneJobs = s.doneJobs := rfl
@[simp] theorem State.setCmp_replayOut (s : State) (i : Nat) (v : Cmp) : (s.setCmp i v).replayOut = s.replayOut := rfl
@[simp] theorem State.setCmp_planAt (s : State) (i : Nat) (v : Cmp) : (s.setCmp i v).planAt = s.planAt := rfl
@[simp] theorem State.setCmp_riseAt (s : State) (i : Nat) (v : Cmp) : (s.setCmp i v).riseAt = s.riseAt := rfl
@[simp] theorem State.setCmp_errPulseEnd (s : State) (i : Nat) (v : Cmp) : (s.setCmp i v).errPulseEnd = s.errPulseEnd := rfl
@[simp] theorem State.setCmp_errRelease (s : State) (i : Nat) (v : Cmp) : (s.setCmp i v).errRelease = s.errRelease := rfl
@[simp] theorem State.setCmp_rd (s : State) (i : Nat) (v : Cmp) (c : Nat) : (s.setCmp i v).rd c = s.rd c := rfl
@[simp] theorem State.setCmp_f (s : State) (i : Nat) (v : Cmp) (x : Field) : (s.setCmp i v).f x = s.f x := rfl
@[simp] theorem State.setCmp_b (s : State) (i : Nat) (v : Cmp) (x : Field) : (s.setCmp i v).b x = s.b x := rfl
@[simp] theorem State.setCmp_rn (s : State) (i : Nat) (v : Cmp) (c : Nat) : (s.setCmp i v).rn c = s.rn c := rfl
@[simp] theorem State.setCmp_rd64 (s : State) (i : Nat) (v : Cmp) (c : Nat) : (s.setCmp i v).rd64 c = s.rd64 c := rfl
@[simp] theorem State.setCmp_byte (s : State) (i : Nat) (v : Cmp) (c : Nat) : (s.setCmp i v).byte c = s.byte c := rfl
@[simp] theorem State.setCmp_readMem (s : State) (i : Nat) (v : Cmp) (c n : Nat) : (s.setCmp i v).readMem c n = s.readMem c n := rfl
@[simp] theorem State.setCmp_eng (s : State) (i : Nat) (v : Cmp) (j : Nat) : (s.setCmp i v).eng j = s.eng j := rfl
@[simp] theorem State.setCmp_lane (s : State) (i : Nat) (v : Cmp) (j : Nat) : (s.setCmp i v).lane j = s.lane j := rfl
@[simp] theorem State.setCmp_dom (s : State) (i : Nat) (v : Cmp) (j : Nat) : (s.setCmp i v).dom j = s.dom j := rfl
@[simp] theorem State.setCmp_head (s : State) (i : Nat) (v : Cmp) (j : Nat) : (s.setCmp i v).head j = s.head j := rfl
@[simp] theorem State.setCmp_axis (s : State) (i : Nat) (v : Cmp) (j : Nat) : (s.setCmp i v).axis j = s.axis j := rfl
@[simp] theorem State.setCmp_group (s : State) (i : Nat) (v : Cmp) (j : Nat) : (s.setCmp i v).group j = s.group j := rfl
@[simp] theorem State.setCmp_rej (s : State) (i : Nat) (v : Cmp) (j : Nat) : (s.setCmp i v).rej j = s.rej j := rfl
@[simp] theorem State.setCmp_trace (s : State) (i : Nat) (v : Cmp) (j : Nat) : (s.setCmp i v).trace j = s.trace j := rfl
@[simp] theorem State.setCmp_supply (s : State) (i : Nat) (v : Cmp) (j : Nat) : (s.setCmp i v).supply j = s.supply j := rfl
@[simp] theorem State.setCmp_vlane (s : State) (i : Nat) (v : Cmp) (j : Nat) : (s.setCmp i v).vlane j = s.vlane j := rfl
@[simp] theorem State.setCmp_chan (s : State) (i : Nat) (v : Cmp) (j : Nat) : (s.setCmp i v).chan j = s.chan j := rfl
theorem State.setCmp_cmp (s : State) (i : Nat) (v : Cmp) (j : Nat) : (s.setCmp i v).cmp j = if i = j then v else s.cmp j := Map.get_set _ _ _ _ _
@[simp] theorem State.setCmp_cmp_same (s : State) (i : Nat) (v : Cmp) : (s.setCmp i v).cmp i = v := Map.get_set_same _ _ _ _
@[simp] theorem State.setCmp_emu (s : State) (i : Nat) (v : Cmp) (j : Nat) : (s.setCmp i v).emu j = s.emu j := rfl
@[simp] theorem State.setCmp_strm (s : State) (i : Nat) (v : Cmp) (j : Nat) : (s.setCmp i v).strm j = s.strm j := rfl
@[simp] theorem State.setCmp_dma (s : State) (i : Nat) (v : Cmp) (j : Nat) : (s.setCmp i v).dma j = s.dma j := rfl

/-! setEmu -/

@[simp] theorem State.setEmu_regs (s : State) (i : Nat) (v : Emu) : (s.setEmu i v).regs = s.regs := rfl
@[simp] theorem State.setEmu_mem (s : State) (i : Nat) (v : Emu) : (s.setEmu i v).mem = s.mem := rfl
@[simp] theorem State.setEmu_poison (s : State) (i : Nat) (v : Emu) : (s.setEmu i v).poison = s.poison := rfl
@[simp] theorem State.setEmu_tb (s : State) (i : Nat) (v : Emu) : (s.setEmu i v).tb = s.tb := rfl
@[simp] theorem State.setEmu_pending (s : State) (i : Nat) (v : Emu) : (s.setEmu i v).pending = s.pending := rfl
@[simp] theorem State.setEmu_out (s : State) (i : Nat) (v : Emu) : (s.setEmu i v).out = s.out := rfl
@[simp] theorem State.setEmu_free (s : State) (i : Nat) (v : Emu) : (s.setEmu i v).free = s.free := rfl
@[simp] theorem State.setEmu_firstThis (s : State) (i : Nat) (v : Emu) : (s.setEmu i v).firstThis = s.firstThis := rfl
@[simp] theorem State.setEmu_fltRead (s : State) (i : Nat) (v : Emu) : (s.setEmu i v).fltRead = s.fltRead := rfl
@[simp] theorem State.setEmu_engines (s : State) (i : Nat) (v : Emu) : (s.setEmu i v).engines = s.engines := rfl
@[simp] theorem State.setEmu_items (s : State) (i : Nat) (v : Emu) : (s.setEmu i v).items = s.items := rfl
@[simp] theorem State.setEmu_nextItem (s : State) (i : Nat) (v : Emu) : (s.setEmu i v).nextItem = s.nextItem := rfl
@[simp] theorem State.setEmu_jobs (s : State) (i : Nat) (v : Emu) : (s.setEmu i v).jobs = s.jobs := rfl
@[simp] theorem State.setEmu_intake (s : State) (i : Nat) (v : Emu) : (s.setEmu i v).intake = s.intake := rfl
@[simp] theorem State.setEmu_intakeNext (s : State) (i : Nat) (v : Emu) : (s.setEmu i v).intakeNext = s.intakeNext := rfl
@[simp] theorem State.setEmu_waitingCpl (s : State) (i : Nat) (v : Emu) : (s.setEmu i v).waitingCpl = s.waitingCpl := rfl
@[simp] theorem State.setEmu_unlocks (s : State) (i : Nat) (v : Emu) : (s.setEmu i v).unlocks = s.unlocks := rfl
@[simp] theorem State.setEmu_w1Locked (s : State) (i : Nat) (v : Emu) : (s.setEmu i v).w1Locked = s.w1Locked := rfl
@[simp] theorem State.setEmu_staged (s : State) (i : Nat) (v : Emu) : (s.setEmu i v).staged = s.staged := rfl
@[simp] theorem State.setEmu_issueQ (s : State) (i : Nat) (v : Emu) : (s.setEmu i v).issueQ = s.issueQ := rfl
@[simp] theorem State.setEmu_issueSeq (s : State) (i : Nat) (v : Emu) : (s.setEmu i v).issueSeq = s.issueSeq := rfl
@[simp] theorem State.setEmu_taken (s : State) (i : Nat) (v : Emu) : (s.setEmu i v).taken = s.taken := rfl
@[simp] theorem State.setEmu_expect (s : State) (i : Nat) (v : Emu) : (s.setEmu i v).expect = s.expect := rfl
@[simp] theorem State.setEmu_streams (s : State) (i : Nat) (v : Emu) : (s.setEmu i v).streams = s.streams := rfl
@[simp] theorem State.setEmu_dmas (s : State) (i : Nat) (v : Emu) : (s.setEmu i v).dmas = s.dmas := rfl
@[simp] theorem State.setEmu_dmaTurn (s : State) (i : Nat) (v : Emu) : (s.setEmu i v).dmaTurn = s.dmaTurn := rfl
@[simp] theorem State.setEmu_lanes (s : State) (i : Nat) (v : Emu) : (s.setEmu i v).lanes = s.lanes := rfl
@[simp] theorem State.setEmu_vlanes (s : State) (i : Nat) (v : Emu) : (s.setEmu i v).vlanes = s.vlanes := rfl
@[simp] theorem State.setEmu_holds (s : State) (i : Nat) (v : Emu) : (s.setEmu i v).holds = s.holds := rfl
@[simp] theorem State.setEmu_nzDirty (s : State) (i : Nat) (v : Emu) : (s.setEmu i v).nzDirty = s.nzDirty := rfl
@[simp] theorem State.setEmu_channels (s : State) (i : Nat) (v : Emu) : (s.setEmu i v).channels = s.channels := rfl
@[simp] theorem State.setEmu_cmps (s : State) (i : Nat) (v : Emu) : (s.setEmu i v).cmps = s.cmps := rfl
@[simp] theorem State.setEmu_domains (s : State) (i : Nat) (v : Emu) : (s.setEmu i v).domains = s.domains := rfl
@[simp] theorem State.setEmu_heads (s : State) (i : Nat) (v : Emu) : (s.setEmu i v).heads = s.heads := rfl
@[simp] theorem State.setEmu_axes (s : State) (i : Nat) (v : Emu) : (s.setEmu i v).axes = s.axes := rfl
@[simp] theorem State.setEmu_groups (s : State) (i : Nat) (v : Emu) : (s.setEmu i v).groups = s.groups := rfl
@[simp] theorem State.setEmu_rejects (s : State) (i : Nat) (v : Emu) : (s.setEmu i v).rejects = s.rejects := rfl
@[simp] theorem State.setEmu_traces (s : State) (i : Nat) (v : Emu) : (s.setEmu i v).traces = s.traces := rfl
@[simp] theorem State.setEmu_timerAt (s : State) (i : Nat) (v : Emu) : (s.setEmu i v).timerAt = s.timerAt := rfl
@[simp] theorem State.setEmu_gateLast (s : State) (i : Nat) (v : Emu) : (s.setEmu i v).gateLast = s.gateLast := rfl
@[simp] theorem State.setEmu_loopSat (s : State) (i : Nat) (v : Emu) : (s.setEmu i v).loopSat = s.loopSat := rfl
@[simp] theorem State.setEmu_pwmDuty (s : State) (i : Nat) (v : Emu) : (s.setEmu i v).pwmDuty = s.pwmDuty := rfl
@[simp] theorem State.setEmu_pwmAt (s : State) (i : Nat) (v : Emu) : (s.setEmu i v).pwmAt = s.pwmAt := rfl
@[simp] theorem State.setEmu_ledger (s : State) (i : Nat) (v : Emu) : (s.setEmu i v).ledger = s.ledger := rfl
@[simp] theorem State.setEmu_geode (s : State) (i : Nat) (v : Emu) : (s.setEmu i v).geode = s.geode := rfl
@[simp] theorem State.setEmu_fuses (s : State) (i : Nat) (v : Emu) : (s.setEmu i v).fuses = s.fuses := rfl
@[simp] theorem State.setEmu_supplies (s : State) (i : Nat) (v : Emu) : (s.setEmu i v).supplies = s.supplies := rfl
@[simp] theorem State.setEmu_twin (s : State) (i : Nat) (v : Emu) : (s.setEmu i v).twin = s.twin := rfl
@[simp] theorem State.setEmu_pcie (s : State) (i : Nat) (v : Emu) : (s.setEmu i v).pcie = s.pcie := rfl
@[simp] theorem State.setEmu_power (s : State) (i : Nat) (v : Emu) : (s.setEmu i v).power = s.power := rfl
@[simp] theorem State.setEmu_boot (s : State) (i : Nat) (v : Emu) : (s.setEmu i v).boot = s.boot := rfl
@[simp] theorem State.setEmu_cal (s : State) (i : Nat) (v : Emu) : (s.setEmu i v).cal = s.cal := rfl
@[simp] theorem State.setEmu_quartz (s : State) (i : Nat) (v : Emu) : (s.setEmu i v).quartz = s.quartz := rfl
@[simp] theorem State.setEmu_sec (s : State) (i : Nat) (v : Emu) : (s.setEmu i v).sec = s.sec := rfl
@[simp] theorem State.setEmu_frozenFaultIn (s : State) (i : Nat) (v : Emu) : (s.setEmu i v).frozenFaultIn = s.frozenFaultIn := rfl
@[simp] theorem State.setEmu_jtagIr (s : State) (i : Nat) (v : Emu) : (s.setEmu i v).jtagIr = s.jtagIr := rfl
@[simp] theorem State.setEmu_bsr (s : State) (i : Nat) (v : Emu) : (s.setEmu i v).bsr = s.bsr := rfl
@[simp] theorem State.setEmu_scanKey (s : State) (i : Nat) (v : Emu) : (s.setEmu i v).scanKey = s.scanKey := rfl
@[simp] theorem State.setEmu_soft (s : State) (i : Nat) (v : Emu) : (s.setEmu i v).soft = s.soft := rfl
@[simp] theorem State.setEmu_wire (s : State) (i : Nat) (v : Emu) : (s.setEmu i v).wire = s.wire := rfl
@[simp] theorem State.setEmu_lineTx (s : State) (i : Nat) (v : Emu) : (s.setEmu i v).lineTx = s.lineTx := rfl
@[simp] theorem State.setEmu_lineRx (s : State) (i : Nat) (v : Emu) : (s.setEmu i v).lineRx = s.lineRx := rfl
@[simp] theorem State.setEmu_doneJobs (s : State) (i : Nat) (v : Emu) : (s.setEmu i v).doneJobs = s.doneJobs := rfl
@[simp] theorem State.setEmu_replayOut (s : State) (i : Nat) (v : Emu) : (s.setEmu i v).replayOut = s.replayOut := rfl
@[simp] theorem State.setEmu_planAt (s : State) (i : Nat) (v : Emu) : (s.setEmu i v).planAt = s.planAt := rfl
@[simp] theorem State.setEmu_riseAt (s : State) (i : Nat) (v : Emu) : (s.setEmu i v).riseAt = s.riseAt := rfl
@[simp] theorem State.setEmu_errPulseEnd (s : State) (i : Nat) (v : Emu) : (s.setEmu i v).errPulseEnd = s.errPulseEnd := rfl
@[simp] theorem State.setEmu_errRelease (s : State) (i : Nat) (v : Emu) : (s.setEmu i v).errRelease = s.errRelease := rfl
@[simp] theorem State.setEmu_rd (s : State) (i : Nat) (v : Emu) (c : Nat) : (s.setEmu i v).rd c = s.rd c := rfl
@[simp] theorem State.setEmu_f (s : State) (i : Nat) (v : Emu) (x : Field) : (s.setEmu i v).f x = s.f x := rfl
@[simp] theorem State.setEmu_b (s : State) (i : Nat) (v : Emu) (x : Field) : (s.setEmu i v).b x = s.b x := rfl
@[simp] theorem State.setEmu_rn (s : State) (i : Nat) (v : Emu) (c : Nat) : (s.setEmu i v).rn c = s.rn c := rfl
@[simp] theorem State.setEmu_rd64 (s : State) (i : Nat) (v : Emu) (c : Nat) : (s.setEmu i v).rd64 c = s.rd64 c := rfl
@[simp] theorem State.setEmu_byte (s : State) (i : Nat) (v : Emu) (c : Nat) : (s.setEmu i v).byte c = s.byte c := rfl
@[simp] theorem State.setEmu_readMem (s : State) (i : Nat) (v : Emu) (c n : Nat) : (s.setEmu i v).readMem c n = s.readMem c n := rfl
@[simp] theorem State.setEmu_eng (s : State) (i : Nat) (v : Emu) (j : Nat) : (s.setEmu i v).eng j = s.eng j := rfl
@[simp] theorem State.setEmu_lane (s : State) (i : Nat) (v : Emu) (j : Nat) : (s.setEmu i v).lane j = s.lane j := rfl
@[simp] theorem State.setEmu_dom (s : State) (i : Nat) (v : Emu) (j : Nat) : (s.setEmu i v).dom j = s.dom j := rfl
@[simp] theorem State.setEmu_head (s : State) (i : Nat) (v : Emu) (j : Nat) : (s.setEmu i v).head j = s.head j := rfl
@[simp] theorem State.setEmu_axis (s : State) (i : Nat) (v : Emu) (j : Nat) : (s.setEmu i v).axis j = s.axis j := rfl
@[simp] theorem State.setEmu_group (s : State) (i : Nat) (v : Emu) (j : Nat) : (s.setEmu i v).group j = s.group j := rfl
@[simp] theorem State.setEmu_rej (s : State) (i : Nat) (v : Emu) (j : Nat) : (s.setEmu i v).rej j = s.rej j := rfl
@[simp] theorem State.setEmu_trace (s : State) (i : Nat) (v : Emu) (j : Nat) : (s.setEmu i v).trace j = s.trace j := rfl
@[simp] theorem State.setEmu_supply (s : State) (i : Nat) (v : Emu) (j : Nat) : (s.setEmu i v).supply j = s.supply j := rfl
@[simp] theorem State.setEmu_vlane (s : State) (i : Nat) (v : Emu) (j : Nat) : (s.setEmu i v).vlane j = s.vlane j := rfl
@[simp] theorem State.setEmu_chan (s : State) (i : Nat) (v : Emu) (j : Nat) : (s.setEmu i v).chan j = s.chan j := rfl
@[simp] theorem State.setEmu_cmp (s : State) (i : Nat) (v : Emu) (j : Nat) : (s.setEmu i v).cmp j = s.cmp j := rfl
theorem State.setEmu_emu (s : State) (i : Nat) (v : Emu) (j : Nat) : (s.setEmu i v).emu j = if i = j then v else s.emu j := Map.get_set _ _ _ _ _
@[simp] theorem State.setEmu_emu_same (s : State) (i : Nat) (v : Emu) : (s.setEmu i v).emu i = v := Map.get_set_same _ _ _ _
@[simp] theorem State.setEmu_strm (s : State) (i : Nat) (v : Emu) (j : Nat) : (s.setEmu i v).strm j = s.strm j := rfl
@[simp] theorem State.setEmu_dma (s : State) (i : Nat) (v : Emu) (j : Nat) : (s.setEmu i v).dma j = s.dma j := rfl

/-! setStrm -/

@[simp] theorem State.setStrm_regs (s : State) (i : Nat) (v : Stream) : (s.setStrm i v).regs = s.regs := rfl
@[simp] theorem State.setStrm_mem (s : State) (i : Nat) (v : Stream) : (s.setStrm i v).mem = s.mem := rfl
@[simp] theorem State.setStrm_poison (s : State) (i : Nat) (v : Stream) : (s.setStrm i v).poison = s.poison := rfl
@[simp] theorem State.setStrm_tb (s : State) (i : Nat) (v : Stream) : (s.setStrm i v).tb = s.tb := rfl
@[simp] theorem State.setStrm_pending (s : State) (i : Nat) (v : Stream) : (s.setStrm i v).pending = s.pending := rfl
@[simp] theorem State.setStrm_out (s : State) (i : Nat) (v : Stream) : (s.setStrm i v).out = s.out := rfl
@[simp] theorem State.setStrm_free (s : State) (i : Nat) (v : Stream) : (s.setStrm i v).free = s.free := rfl
@[simp] theorem State.setStrm_firstThis (s : State) (i : Nat) (v : Stream) : (s.setStrm i v).firstThis = s.firstThis := rfl
@[simp] theorem State.setStrm_fltRead (s : State) (i : Nat) (v : Stream) : (s.setStrm i v).fltRead = s.fltRead := rfl
@[simp] theorem State.setStrm_engines (s : State) (i : Nat) (v : Stream) : (s.setStrm i v).engines = s.engines := rfl
@[simp] theorem State.setStrm_items (s : State) (i : Nat) (v : Stream) : (s.setStrm i v).items = s.items := rfl
@[simp] theorem State.setStrm_nextItem (s : State) (i : Nat) (v : Stream) : (s.setStrm i v).nextItem = s.nextItem := rfl
@[simp] theorem State.setStrm_jobs (s : State) (i : Nat) (v : Stream) : (s.setStrm i v).jobs = s.jobs := rfl
@[simp] theorem State.setStrm_intake (s : State) (i : Nat) (v : Stream) : (s.setStrm i v).intake = s.intake := rfl
@[simp] theorem State.setStrm_intakeNext (s : State) (i : Nat) (v : Stream) : (s.setStrm i v).intakeNext = s.intakeNext := rfl
@[simp] theorem State.setStrm_waitingCpl (s : State) (i : Nat) (v : Stream) : (s.setStrm i v).waitingCpl = s.waitingCpl := rfl
@[simp] theorem State.setStrm_unlocks (s : State) (i : Nat) (v : Stream) : (s.setStrm i v).unlocks = s.unlocks := rfl
@[simp] theorem State.setStrm_w1Locked (s : State) (i : Nat) (v : Stream) : (s.setStrm i v).w1Locked = s.w1Locked := rfl
@[simp] theorem State.setStrm_staged (s : State) (i : Nat) (v : Stream) : (s.setStrm i v).staged = s.staged := rfl
@[simp] theorem State.setStrm_issueQ (s : State) (i : Nat) (v : Stream) : (s.setStrm i v).issueQ = s.issueQ := rfl
@[simp] theorem State.setStrm_issueSeq (s : State) (i : Nat) (v : Stream) : (s.setStrm i v).issueSeq = s.issueSeq := rfl
@[simp] theorem State.setStrm_taken (s : State) (i : Nat) (v : Stream) : (s.setStrm i v).taken = s.taken := rfl
@[simp] theorem State.setStrm_expect (s : State) (i : Nat) (v : Stream) : (s.setStrm i v).expect = s.expect := rfl
@[simp] theorem State.setStrm_dmas (s : State) (i : Nat) (v : Stream) : (s.setStrm i v).dmas = s.dmas := rfl
@[simp] theorem State.setStrm_dmaTurn (s : State) (i : Nat) (v : Stream) : (s.setStrm i v).dmaTurn = s.dmaTurn := rfl
@[simp] theorem State.setStrm_lanes (s : State) (i : Nat) (v : Stream) : (s.setStrm i v).lanes = s.lanes := rfl
@[simp] theorem State.setStrm_vlanes (s : State) (i : Nat) (v : Stream) : (s.setStrm i v).vlanes = s.vlanes := rfl
@[simp] theorem State.setStrm_holds (s : State) (i : Nat) (v : Stream) : (s.setStrm i v).holds = s.holds := rfl
@[simp] theorem State.setStrm_nzDirty (s : State) (i : Nat) (v : Stream) : (s.setStrm i v).nzDirty = s.nzDirty := rfl
@[simp] theorem State.setStrm_channels (s : State) (i : Nat) (v : Stream) : (s.setStrm i v).channels = s.channels := rfl
@[simp] theorem State.setStrm_cmps (s : State) (i : Nat) (v : Stream) : (s.setStrm i v).cmps = s.cmps := rfl
@[simp] theorem State.setStrm_emus (s : State) (i : Nat) (v : Stream) : (s.setStrm i v).emus = s.emus := rfl
@[simp] theorem State.setStrm_domains (s : State) (i : Nat) (v : Stream) : (s.setStrm i v).domains = s.domains := rfl
@[simp] theorem State.setStrm_heads (s : State) (i : Nat) (v : Stream) : (s.setStrm i v).heads = s.heads := rfl
@[simp] theorem State.setStrm_axes (s : State) (i : Nat) (v : Stream) : (s.setStrm i v).axes = s.axes := rfl
@[simp] theorem State.setStrm_groups (s : State) (i : Nat) (v : Stream) : (s.setStrm i v).groups = s.groups := rfl
@[simp] theorem State.setStrm_rejects (s : State) (i : Nat) (v : Stream) : (s.setStrm i v).rejects = s.rejects := rfl
@[simp] theorem State.setStrm_traces (s : State) (i : Nat) (v : Stream) : (s.setStrm i v).traces = s.traces := rfl
@[simp] theorem State.setStrm_timerAt (s : State) (i : Nat) (v : Stream) : (s.setStrm i v).timerAt = s.timerAt := rfl
@[simp] theorem State.setStrm_gateLast (s : State) (i : Nat) (v : Stream) : (s.setStrm i v).gateLast = s.gateLast := rfl
@[simp] theorem State.setStrm_loopSat (s : State) (i : Nat) (v : Stream) : (s.setStrm i v).loopSat = s.loopSat := rfl
@[simp] theorem State.setStrm_pwmDuty (s : State) (i : Nat) (v : Stream) : (s.setStrm i v).pwmDuty = s.pwmDuty := rfl
@[simp] theorem State.setStrm_pwmAt (s : State) (i : Nat) (v : Stream) : (s.setStrm i v).pwmAt = s.pwmAt := rfl
@[simp] theorem State.setStrm_ledger (s : State) (i : Nat) (v : Stream) : (s.setStrm i v).ledger = s.ledger := rfl
@[simp] theorem State.setStrm_geode (s : State) (i : Nat) (v : Stream) : (s.setStrm i v).geode = s.geode := rfl
@[simp] theorem State.setStrm_fuses (s : State) (i : Nat) (v : Stream) : (s.setStrm i v).fuses = s.fuses := rfl
@[simp] theorem State.setStrm_supplies (s : State) (i : Nat) (v : Stream) : (s.setStrm i v).supplies = s.supplies := rfl
@[simp] theorem State.setStrm_twin (s : State) (i : Nat) (v : Stream) : (s.setStrm i v).twin = s.twin := rfl
@[simp] theorem State.setStrm_pcie (s : State) (i : Nat) (v : Stream) : (s.setStrm i v).pcie = s.pcie := rfl
@[simp] theorem State.setStrm_power (s : State) (i : Nat) (v : Stream) : (s.setStrm i v).power = s.power := rfl
@[simp] theorem State.setStrm_boot (s : State) (i : Nat) (v : Stream) : (s.setStrm i v).boot = s.boot := rfl
@[simp] theorem State.setStrm_cal (s : State) (i : Nat) (v : Stream) : (s.setStrm i v).cal = s.cal := rfl
@[simp] theorem State.setStrm_quartz (s : State) (i : Nat) (v : Stream) : (s.setStrm i v).quartz = s.quartz := rfl
@[simp] theorem State.setStrm_sec (s : State) (i : Nat) (v : Stream) : (s.setStrm i v).sec = s.sec := rfl
@[simp] theorem State.setStrm_frozenFaultIn (s : State) (i : Nat) (v : Stream) : (s.setStrm i v).frozenFaultIn = s.frozenFaultIn := rfl
@[simp] theorem State.setStrm_jtagIr (s : State) (i : Nat) (v : Stream) : (s.setStrm i v).jtagIr = s.jtagIr := rfl
@[simp] theorem State.setStrm_bsr (s : State) (i : Nat) (v : Stream) : (s.setStrm i v).bsr = s.bsr := rfl
@[simp] theorem State.setStrm_scanKey (s : State) (i : Nat) (v : Stream) : (s.setStrm i v).scanKey = s.scanKey := rfl
@[simp] theorem State.setStrm_soft (s : State) (i : Nat) (v : Stream) : (s.setStrm i v).soft = s.soft := rfl
@[simp] theorem State.setStrm_wire (s : State) (i : Nat) (v : Stream) : (s.setStrm i v).wire = s.wire := rfl
@[simp] theorem State.setStrm_lineTx (s : State) (i : Nat) (v : Stream) : (s.setStrm i v).lineTx = s.lineTx := rfl
@[simp] theorem State.setStrm_lineRx (s : State) (i : Nat) (v : Stream) : (s.setStrm i v).lineRx = s.lineRx := rfl
@[simp] theorem State.setStrm_doneJobs (s : State) (i : Nat) (v : Stream) : (s.setStrm i v).doneJobs = s.doneJobs := rfl
@[simp] theorem State.setStrm_replayOut (s : State) (i : Nat) (v : Stream) : (s.setStrm i v).replayOut = s.replayOut := rfl
@[simp] theorem State.setStrm_planAt (s : State) (i : Nat) (v : Stream) : (s.setStrm i v).planAt = s.planAt := rfl
@[simp] theorem State.setStrm_riseAt (s : State) (i : Nat) (v : Stream) : (s.setStrm i v).riseAt = s.riseAt := rfl
@[simp] theorem State.setStrm_errPulseEnd (s : State) (i : Nat) (v : Stream) : (s.setStrm i v).errPulseEnd = s.errPulseEnd := rfl
@[simp] theorem State.setStrm_errRelease (s : State) (i : Nat) (v : Stream) : (s.setStrm i v).errRelease = s.errRelease := rfl
@[simp] theorem State.setStrm_rd (s : State) (i : Nat) (v : Stream) (c : Nat) : (s.setStrm i v).rd c = s.rd c := rfl
@[simp] theorem State.setStrm_f (s : State) (i : Nat) (v : Stream) (x : Field) : (s.setStrm i v).f x = s.f x := rfl
@[simp] theorem State.setStrm_b (s : State) (i : Nat) (v : Stream) (x : Field) : (s.setStrm i v).b x = s.b x := rfl
@[simp] theorem State.setStrm_rn (s : State) (i : Nat) (v : Stream) (c : Nat) : (s.setStrm i v).rn c = s.rn c := rfl
@[simp] theorem State.setStrm_rd64 (s : State) (i : Nat) (v : Stream) (c : Nat) : (s.setStrm i v).rd64 c = s.rd64 c := rfl
@[simp] theorem State.setStrm_byte (s : State) (i : Nat) (v : Stream) (c : Nat) : (s.setStrm i v).byte c = s.byte c := rfl
@[simp] theorem State.setStrm_readMem (s : State) (i : Nat) (v : Stream) (c n : Nat) : (s.setStrm i v).readMem c n = s.readMem c n := rfl
@[simp] theorem State.setStrm_eng (s : State) (i : Nat) (v : Stream) (j : Nat) : (s.setStrm i v).eng j = s.eng j := rfl
@[simp] theorem State.setStrm_lane (s : State) (i : Nat) (v : Stream) (j : Nat) : (s.setStrm i v).lane j = s.lane j := rfl
@[simp] theorem State.setStrm_dom (s : State) (i : Nat) (v : Stream) (j : Nat) : (s.setStrm i v).dom j = s.dom j := rfl
@[simp] theorem State.setStrm_head (s : State) (i : Nat) (v : Stream) (j : Nat) : (s.setStrm i v).head j = s.head j := rfl
@[simp] theorem State.setStrm_axis (s : State) (i : Nat) (v : Stream) (j : Nat) : (s.setStrm i v).axis j = s.axis j := rfl
@[simp] theorem State.setStrm_group (s : State) (i : Nat) (v : Stream) (j : Nat) : (s.setStrm i v).group j = s.group j := rfl
@[simp] theorem State.setStrm_rej (s : State) (i : Nat) (v : Stream) (j : Nat) : (s.setStrm i v).rej j = s.rej j := rfl
@[simp] theorem State.setStrm_trace (s : State) (i : Nat) (v : Stream) (j : Nat) : (s.setStrm i v).trace j = s.trace j := rfl
@[simp] theorem State.setStrm_supply (s : State) (i : Nat) (v : Stream) (j : Nat) : (s.setStrm i v).supply j = s.supply j := rfl
@[simp] theorem State.setStrm_vlane (s : State) (i : Nat) (v : Stream) (j : Nat) : (s.setStrm i v).vlane j = s.vlane j := rfl
@[simp] theorem State.setStrm_chan (s : State) (i : Nat) (v : Stream) (j : Nat) : (s.setStrm i v).chan j = s.chan j := rfl
@[simp] theorem State.setStrm_cmp (s : State) (i : Nat) (v : Stream) (j : Nat) : (s.setStrm i v).cmp j = s.cmp j := rfl
@[simp] theorem State.setStrm_emu (s : State) (i : Nat) (v : Stream) (j : Nat) : (s.setStrm i v).emu j = s.emu j := rfl
theorem State.setStrm_strm (s : State) (i : Nat) (v : Stream) (j : Nat) :
    (s.setStrm i v).strm j = if i = j then v else s.strm j := Map.get_set _ _ _ _ _
@[simp] theorem State.setStrm_strm_same (s : State) (i : Nat) (v : Stream) : (s.setStrm i v).strm i = v := Map.get_set_same _ _ _ _
@[simp] theorem State.setStrm_dma (s : State) (i : Nat) (v : Stream) (j : Nat) : (s.setStrm i v).dma j = s.dma j := rfl

/-! setDma -/

@[simp] theorem State.setDma_regs (s : State) (i : Nat) (v : Dma) : (s.setDma i v).regs = s.regs := rfl
@[simp] theorem State.setDma_mem (s : State) (i : Nat) (v : Dma) : (s.setDma i v).mem = s.mem := rfl
@[simp] theorem State.setDma_poison (s : State) (i : Nat) (v : Dma) : (s.setDma i v).poison = s.poison := rfl
@[simp] theorem State.setDma_tb (s : State) (i : Nat) (v : Dma) : (s.setDma i v).tb = s.tb := rfl
@[simp] theorem State.setDma_pending (s : State) (i : Nat) (v : Dma) : (s.setDma i v).pending = s.pending := rfl
@[simp] theorem State.setDma_out (s : State) (i : Nat) (v : Dma) : (s.setDma i v).out = s.out := rfl
@[simp] theorem State.setDma_free (s : State) (i : Nat) (v : Dma) : (s.setDma i v).free = s.free := rfl
@[simp] theorem State.setDma_firstThis (s : State) (i : Nat) (v : Dma) : (s.setDma i v).firstThis = s.firstThis := rfl
@[simp] theorem State.setDma_fltRead (s : State) (i : Nat) (v : Dma) : (s.setDma i v).fltRead = s.fltRead := rfl
@[simp] theorem State.setDma_engines (s : State) (i : Nat) (v : Dma) : (s.setDma i v).engines = s.engines := rfl
@[simp] theorem State.setDma_items (s : State) (i : Nat) (v : Dma) : (s.setDma i v).items = s.items := rfl
@[simp] theorem State.setDma_nextItem (s : State) (i : Nat) (v : Dma) : (s.setDma i v).nextItem = s.nextItem := rfl
@[simp] theorem State.setDma_jobs (s : State) (i : Nat) (v : Dma) : (s.setDma i v).jobs = s.jobs := rfl
@[simp] theorem State.setDma_intake (s : State) (i : Nat) (v : Dma) : (s.setDma i v).intake = s.intake := rfl
@[simp] theorem State.setDma_intakeNext (s : State) (i : Nat) (v : Dma) : (s.setDma i v).intakeNext = s.intakeNext := rfl
@[simp] theorem State.setDma_waitingCpl (s : State) (i : Nat) (v : Dma) : (s.setDma i v).waitingCpl = s.waitingCpl := rfl
@[simp] theorem State.setDma_unlocks (s : State) (i : Nat) (v : Dma) : (s.setDma i v).unlocks = s.unlocks := rfl
@[simp] theorem State.setDma_w1Locked (s : State) (i : Nat) (v : Dma) : (s.setDma i v).w1Locked = s.w1Locked := rfl
@[simp] theorem State.setDma_staged (s : State) (i : Nat) (v : Dma) : (s.setDma i v).staged = s.staged := rfl
@[simp] theorem State.setDma_issueQ (s : State) (i : Nat) (v : Dma) : (s.setDma i v).issueQ = s.issueQ := rfl
@[simp] theorem State.setDma_issueSeq (s : State) (i : Nat) (v : Dma) : (s.setDma i v).issueSeq = s.issueSeq := rfl
@[simp] theorem State.setDma_taken (s : State) (i : Nat) (v : Dma) : (s.setDma i v).taken = s.taken := rfl
@[simp] theorem State.setDma_expect (s : State) (i : Nat) (v : Dma) : (s.setDma i v).expect = s.expect := rfl
@[simp] theorem State.setDma_streams (s : State) (i : Nat) (v : Dma) : (s.setDma i v).streams = s.streams := rfl
@[simp] theorem State.setDma_dmaTurn (s : State) (i : Nat) (v : Dma) : (s.setDma i v).dmaTurn = s.dmaTurn := rfl
@[simp] theorem State.setDma_lanes (s : State) (i : Nat) (v : Dma) : (s.setDma i v).lanes = s.lanes := rfl
@[simp] theorem State.setDma_vlanes (s : State) (i : Nat) (v : Dma) : (s.setDma i v).vlanes = s.vlanes := rfl
@[simp] theorem State.setDma_holds (s : State) (i : Nat) (v : Dma) : (s.setDma i v).holds = s.holds := rfl
@[simp] theorem State.setDma_nzDirty (s : State) (i : Nat) (v : Dma) : (s.setDma i v).nzDirty = s.nzDirty := rfl
@[simp] theorem State.setDma_channels (s : State) (i : Nat) (v : Dma) : (s.setDma i v).channels = s.channels := rfl
@[simp] theorem State.setDma_cmps (s : State) (i : Nat) (v : Dma) : (s.setDma i v).cmps = s.cmps := rfl
@[simp] theorem State.setDma_emus (s : State) (i : Nat) (v : Dma) : (s.setDma i v).emus = s.emus := rfl
@[simp] theorem State.setDma_domains (s : State) (i : Nat) (v : Dma) : (s.setDma i v).domains = s.domains := rfl
@[simp] theorem State.setDma_heads (s : State) (i : Nat) (v : Dma) : (s.setDma i v).heads = s.heads := rfl
@[simp] theorem State.setDma_axes (s : State) (i : Nat) (v : Dma) : (s.setDma i v).axes = s.axes := rfl
@[simp] theorem State.setDma_groups (s : State) (i : Nat) (v : Dma) : (s.setDma i v).groups = s.groups := rfl
@[simp] theorem State.setDma_rejects (s : State) (i : Nat) (v : Dma) : (s.setDma i v).rejects = s.rejects := rfl
@[simp] theorem State.setDma_traces (s : State) (i : Nat) (v : Dma) : (s.setDma i v).traces = s.traces := rfl
@[simp] theorem State.setDma_timerAt (s : State) (i : Nat) (v : Dma) : (s.setDma i v).timerAt = s.timerAt := rfl
@[simp] theorem State.setDma_gateLast (s : State) (i : Nat) (v : Dma) : (s.setDma i v).gateLast = s.gateLast := rfl
@[simp] theorem State.setDma_loopSat (s : State) (i : Nat) (v : Dma) : (s.setDma i v).loopSat = s.loopSat := rfl
@[simp] theorem State.setDma_pwmDuty (s : State) (i : Nat) (v : Dma) : (s.setDma i v).pwmDuty = s.pwmDuty := rfl
@[simp] theorem State.setDma_pwmAt (s : State) (i : Nat) (v : Dma) : (s.setDma i v).pwmAt = s.pwmAt := rfl
@[simp] theorem State.setDma_ledger (s : State) (i : Nat) (v : Dma) : (s.setDma i v).ledger = s.ledger := rfl
@[simp] theorem State.setDma_geode (s : State) (i : Nat) (v : Dma) : (s.setDma i v).geode = s.geode := rfl
@[simp] theorem State.setDma_fuses (s : State) (i : Nat) (v : Dma) : (s.setDma i v).fuses = s.fuses := rfl
@[simp] theorem State.setDma_supplies (s : State) (i : Nat) (v : Dma) : (s.setDma i v).supplies = s.supplies := rfl
@[simp] theorem State.setDma_twin (s : State) (i : Nat) (v : Dma) : (s.setDma i v).twin = s.twin := rfl
@[simp] theorem State.setDma_pcie (s : State) (i : Nat) (v : Dma) : (s.setDma i v).pcie = s.pcie := rfl
@[simp] theorem State.setDma_power (s : State) (i : Nat) (v : Dma) : (s.setDma i v).power = s.power := rfl
@[simp] theorem State.setDma_boot (s : State) (i : Nat) (v : Dma) : (s.setDma i v).boot = s.boot := rfl
@[simp] theorem State.setDma_cal (s : State) (i : Nat) (v : Dma) : (s.setDma i v).cal = s.cal := rfl
@[simp] theorem State.setDma_quartz (s : State) (i : Nat) (v : Dma) : (s.setDma i v).quartz = s.quartz := rfl
@[simp] theorem State.setDma_sec (s : State) (i : Nat) (v : Dma) : (s.setDma i v).sec = s.sec := rfl
@[simp] theorem State.setDma_frozenFaultIn (s : State) (i : Nat) (v : Dma) : (s.setDma i v).frozenFaultIn = s.frozenFaultIn := rfl
@[simp] theorem State.setDma_jtagIr (s : State) (i : Nat) (v : Dma) : (s.setDma i v).jtagIr = s.jtagIr := rfl
@[simp] theorem State.setDma_bsr (s : State) (i : Nat) (v : Dma) : (s.setDma i v).bsr = s.bsr := rfl
@[simp] theorem State.setDma_scanKey (s : State) (i : Nat) (v : Dma) : (s.setDma i v).scanKey = s.scanKey := rfl
@[simp] theorem State.setDma_soft (s : State) (i : Nat) (v : Dma) : (s.setDma i v).soft = s.soft := rfl
@[simp] theorem State.setDma_wire (s : State) (i : Nat) (v : Dma) : (s.setDma i v).wire = s.wire := rfl
@[simp] theorem State.setDma_lineTx (s : State) (i : Nat) (v : Dma) : (s.setDma i v).lineTx = s.lineTx := rfl
@[simp] theorem State.setDma_lineRx (s : State) (i : Nat) (v : Dma) : (s.setDma i v).lineRx = s.lineRx := rfl
@[simp] theorem State.setDma_doneJobs (s : State) (i : Nat) (v : Dma) : (s.setDma i v).doneJobs = s.doneJobs := rfl
@[simp] theorem State.setDma_replayOut (s : State) (i : Nat) (v : Dma) : (s.setDma i v).replayOut = s.replayOut := rfl
@[simp] theorem State.setDma_planAt (s : State) (i : Nat) (v : Dma) : (s.setDma i v).planAt = s.planAt := rfl
@[simp] theorem State.setDma_riseAt (s : State) (i : Nat) (v : Dma) : (s.setDma i v).riseAt = s.riseAt := rfl
@[simp] theorem State.setDma_errPulseEnd (s : State) (i : Nat) (v : Dma) : (s.setDma i v).errPulseEnd = s.errPulseEnd := rfl
@[simp] theorem State.setDma_errRelease (s : State) (i : Nat) (v : Dma) : (s.setDma i v).errRelease = s.errRelease := rfl
@[simp] theorem State.setDma_rd (s : State) (i : Nat) (v : Dma) (c : Nat) : (s.setDma i v).rd c = s.rd c := rfl
@[simp] theorem State.setDma_f (s : State) (i : Nat) (v : Dma) (x : Field) : (s.setDma i v).f x = s.f x := rfl
@[simp] theorem State.setDma_b (s : State) (i : Nat) (v : Dma) (x : Field) : (s.setDma i v).b x = s.b x := rfl
@[simp] theorem State.setDma_rn (s : State) (i : Nat) (v : Dma) (c : Nat) : (s.setDma i v).rn c = s.rn c := rfl
@[simp] theorem State.setDma_rd64 (s : State) (i : Nat) (v : Dma) (c : Nat) : (s.setDma i v).rd64 c = s.rd64 c := rfl
@[simp] theorem State.setDma_byte (s : State) (i : Nat) (v : Dma) (c : Nat) : (s.setDma i v).byte c = s.byte c := rfl
@[simp] theorem State.setDma_readMem (s : State) (i : Nat) (v : Dma) (c n : Nat) : (s.setDma i v).readMem c n = s.readMem c n := rfl
@[simp] theorem State.setDma_eng (s : State) (i : Nat) (v : Dma) (j : Nat) : (s.setDma i v).eng j = s.eng j := rfl
@[simp] theorem State.setDma_lane (s : State) (i : Nat) (v : Dma) (j : Nat) : (s.setDma i v).lane j = s.lane j := rfl
@[simp] theorem State.setDma_dom (s : State) (i : Nat) (v : Dma) (j : Nat) : (s.setDma i v).dom j = s.dom j := rfl
@[simp] theorem State.setDma_head (s : State) (i : Nat) (v : Dma) (j : Nat) : (s.setDma i v).head j = s.head j := rfl
@[simp] theorem State.setDma_axis (s : State) (i : Nat) (v : Dma) (j : Nat) : (s.setDma i v).axis j = s.axis j := rfl
@[simp] theorem State.setDma_group (s : State) (i : Nat) (v : Dma) (j : Nat) : (s.setDma i v).group j = s.group j := rfl
@[simp] theorem State.setDma_rej (s : State) (i : Nat) (v : Dma) (j : Nat) : (s.setDma i v).rej j = s.rej j := rfl
@[simp] theorem State.setDma_trace (s : State) (i : Nat) (v : Dma) (j : Nat) : (s.setDma i v).trace j = s.trace j := rfl
@[simp] theorem State.setDma_supply (s : State) (i : Nat) (v : Dma) (j : Nat) : (s.setDma i v).supply j = s.supply j := rfl
@[simp] theorem State.setDma_vlane (s : State) (i : Nat) (v : Dma) (j : Nat) : (s.setDma i v).vlane j = s.vlane j := rfl
@[simp] theorem State.setDma_chan (s : State) (i : Nat) (v : Dma) (j : Nat) : (s.setDma i v).chan j = s.chan j := rfl
@[simp] theorem State.setDma_cmp (s : State) (i : Nat) (v : Dma) (j : Nat) : (s.setDma i v).cmp j = s.cmp j := rfl
@[simp] theorem State.setDma_emu (s : State) (i : Nat) (v : Dma) (j : Nat) : (s.setDma i v).emu j = s.emu j := rfl
@[simp] theorem State.setDma_strm (s : State) (i : Nat) (v : Dma) (j : Nat) : (s.setDma i v).strm j = s.strm j := rfl
theorem State.setDma_dma (s : State) (i : Nat) (v : Dma) (j : Nat) : (s.setDma i v).dma j = if i = j then v else s.dma j := Map.get_set _ _ _ _ _
@[simp] theorem State.setDma_dma_same (s : State) (i : Nat) (v : Dma) : (s.setDma i v).dma i = v := Map.get_set_same _ _ _ _

/-! setRx -/

@[simp] theorem State.setRx_dmas (s : State) (i : Nat) (v : LineRx) : (s.setRx i v).dmas = s.dmas := rfl
@[simp] theorem State.setRx_regs (s : State) (i : Nat) (v : LineRx) : (s.setRx i v).regs = s.regs := rfl
@[simp] theorem State.setRx_mem (s : State) (i : Nat) (v : LineRx) : (s.setRx i v).mem = s.mem := rfl
@[simp] theorem State.setRx_poison (s : State) (i : Nat) (v : LineRx) : (s.setRx i v).poison = s.poison := rfl
@[simp] theorem State.setRx_tb (s : State) (i : Nat) (v : LineRx) : (s.setRx i v).tb = s.tb := rfl
@[simp] theorem State.setRx_pending (s : State) (i : Nat) (v : LineRx) : (s.setRx i v).pending = s.pending := rfl
@[simp] theorem State.setRx_out (s : State) (i : Nat) (v : LineRx) : (s.setRx i v).out = s.out := rfl
@[simp] theorem State.setRx_free (s : State) (i : Nat) (v : LineRx) : (s.setRx i v).free = s.free := rfl
@[simp] theorem State.setRx_firstThis (s : State) (i : Nat) (v : LineRx) : (s.setRx i v).firstThis = s.firstThis := rfl
@[simp] theorem State.setRx_fltRead (s : State) (i : Nat) (v : LineRx) : (s.setRx i v).fltRead = s.fltRead := rfl
@[simp] theorem State.setRx_engines (s : State) (i : Nat) (v : LineRx) : (s.setRx i v).engines = s.engines := rfl
@[simp] theorem State.setRx_items (s : State) (i : Nat) (v : LineRx) : (s.setRx i v).items = s.items := rfl
@[simp] theorem State.setRx_nextItem (s : State) (i : Nat) (v : LineRx) : (s.setRx i v).nextItem = s.nextItem := rfl
@[simp] theorem State.setRx_jobs (s : State) (i : Nat) (v : LineRx) : (s.setRx i v).jobs = s.jobs := rfl
@[simp] theorem State.setRx_intake (s : State) (i : Nat) (v : LineRx) : (s.setRx i v).intake = s.intake := rfl
@[simp] theorem State.setRx_intakeNext (s : State) (i : Nat) (v : LineRx) : (s.setRx i v).intakeNext = s.intakeNext := rfl
@[simp] theorem State.setRx_waitingCpl (s : State) (i : Nat) (v : LineRx) : (s.setRx i v).waitingCpl = s.waitingCpl := rfl
@[simp] theorem State.setRx_unlocks (s : State) (i : Nat) (v : LineRx) : (s.setRx i v).unlocks = s.unlocks := rfl
@[simp] theorem State.setRx_w1Locked (s : State) (i : Nat) (v : LineRx) : (s.setRx i v).w1Locked = s.w1Locked := rfl
@[simp] theorem State.setRx_staged (s : State) (i : Nat) (v : LineRx) : (s.setRx i v).staged = s.staged := rfl
@[simp] theorem State.setRx_issueQ (s : State) (i : Nat) (v : LineRx) : (s.setRx i v).issueQ = s.issueQ := rfl
@[simp] theorem State.setRx_issueSeq (s : State) (i : Nat) (v : LineRx) : (s.setRx i v).issueSeq = s.issueSeq := rfl
@[simp] theorem State.setRx_taken (s : State) (i : Nat) (v : LineRx) : (s.setRx i v).taken = s.taken := rfl
@[simp] theorem State.setRx_expect (s : State) (i : Nat) (v : LineRx) : (s.setRx i v).expect = s.expect := rfl
@[simp] theorem State.setRx_streams (s : State) (i : Nat) (v : LineRx) : (s.setRx i v).streams = s.streams := rfl
@[simp] theorem State.setRx_lanes (s : State) (i : Nat) (v : LineRx) : (s.setRx i v).lanes = s.lanes := rfl
@[simp] theorem State.setRx_vlanes (s : State) (i : Nat) (v : LineRx) : (s.setRx i v).vlanes = s.vlanes := rfl
@[simp] theorem State.setRx_holds (s : State) (i : Nat) (v : LineRx) : (s.setRx i v).holds = s.holds := rfl
@[simp] theorem State.setRx_nzDirty (s : State) (i : Nat) (v : LineRx) : (s.setRx i v).nzDirty = s.nzDirty := rfl
@[simp] theorem State.setRx_channels (s : State) (i : Nat) (v : LineRx) : (s.setRx i v).channels = s.channels := rfl
@[simp] theorem State.setRx_cmps (s : State) (i : Nat) (v : LineRx) : (s.setRx i v).cmps = s.cmps := rfl
@[simp] theorem State.setRx_emus (s : State) (i : Nat) (v : LineRx) : (s.setRx i v).emus = s.emus := rfl
@[simp] theorem State.setRx_domains (s : State) (i : Nat) (v : LineRx) : (s.setRx i v).domains = s.domains := rfl
@[simp] theorem State.setRx_heads (s : State) (i : Nat) (v : LineRx) : (s.setRx i v).heads = s.heads := rfl
@[simp] theorem State.setRx_axes (s : State) (i : Nat) (v : LineRx) : (s.setRx i v).axes = s.axes := rfl
@[simp] theorem State.setRx_groups (s : State) (i : Nat) (v : LineRx) : (s.setRx i v).groups = s.groups := rfl
@[simp] theorem State.setRx_rejects (s : State) (i : Nat) (v : LineRx) : (s.setRx i v).rejects = s.rejects := rfl
@[simp] theorem State.setRx_traces (s : State) (i : Nat) (v : LineRx) : (s.setRx i v).traces = s.traces := rfl
@[simp] theorem State.setRx_timerAt (s : State) (i : Nat) (v : LineRx) : (s.setRx i v).timerAt = s.timerAt := rfl
@[simp] theorem State.setRx_gateLast (s : State) (i : Nat) (v : LineRx) : (s.setRx i v).gateLast = s.gateLast := rfl
@[simp] theorem State.setRx_loopSat (s : State) (i : Nat) (v : LineRx) : (s.setRx i v).loopSat = s.loopSat := rfl
@[simp] theorem State.setRx_pwmDuty (s : State) (i : Nat) (v : LineRx) : (s.setRx i v).pwmDuty = s.pwmDuty := rfl
@[simp] theorem State.setRx_pwmAt (s : State) (i : Nat) (v : LineRx) : (s.setRx i v).pwmAt = s.pwmAt := rfl
@[simp] theorem State.setRx_ledger (s : State) (i : Nat) (v : LineRx) : (s.setRx i v).ledger = s.ledger := rfl
@[simp] theorem State.setRx_geode (s : State) (i : Nat) (v : LineRx) : (s.setRx i v).geode = s.geode := rfl
@[simp] theorem State.setRx_fuses (s : State) (i : Nat) (v : LineRx) : (s.setRx i v).fuses = s.fuses := rfl
@[simp] theorem State.setRx_supplies (s : State) (i : Nat) (v : LineRx) : (s.setRx i v).supplies = s.supplies := rfl
@[simp] theorem State.setRx_twin (s : State) (i : Nat) (v : LineRx) : (s.setRx i v).twin = s.twin := rfl
@[simp] theorem State.setRx_pcie (s : State) (i : Nat) (v : LineRx) : (s.setRx i v).pcie = s.pcie := rfl
@[simp] theorem State.setRx_power (s : State) (i : Nat) (v : LineRx) : (s.setRx i v).power = s.power := rfl
@[simp] theorem State.setRx_boot (s : State) (i : Nat) (v : LineRx) : (s.setRx i v).boot = s.boot := rfl
@[simp] theorem State.setRx_cal (s : State) (i : Nat) (v : LineRx) : (s.setRx i v).cal = s.cal := rfl
@[simp] theorem State.setRx_quartz (s : State) (i : Nat) (v : LineRx) : (s.setRx i v).quartz = s.quartz := rfl
@[simp] theorem State.setRx_sec (s : State) (i : Nat) (v : LineRx) : (s.setRx i v).sec = s.sec := rfl
@[simp] theorem State.setRx_frozenFaultIn (s : State) (i : Nat) (v : LineRx) : (s.setRx i v).frozenFaultIn = s.frozenFaultIn := rfl
@[simp] theorem State.setRx_jtagIr (s : State) (i : Nat) (v : LineRx) : (s.setRx i v).jtagIr = s.jtagIr := rfl
@[simp] theorem State.setRx_bsr (s : State) (i : Nat) (v : LineRx) : (s.setRx i v).bsr = s.bsr := rfl
@[simp] theorem State.setRx_scanKey (s : State) (i : Nat) (v : LineRx) : (s.setRx i v).scanKey = s.scanKey := rfl
@[simp] theorem State.setRx_soft (s : State) (i : Nat) (v : LineRx) : (s.setRx i v).soft = s.soft := rfl
@[simp] theorem State.setRx_wire (s : State) (i : Nat) (v : LineRx) : (s.setRx i v).wire = s.wire := rfl
@[simp] theorem State.setRx_lineTx (s : State) (i : Nat) (v : LineRx) : (s.setRx i v).lineTx = s.lineTx := rfl
@[simp] theorem State.setRx_doneJobs (s : State) (i : Nat) (v : LineRx) : (s.setRx i v).doneJobs = s.doneJobs := rfl
@[simp] theorem State.setRx_replayOut (s : State) (i : Nat) (v : LineRx) : (s.setRx i v).replayOut = s.replayOut := rfl
@[simp] theorem State.setRx_planAt (s : State) (i : Nat) (v : LineRx) : (s.setRx i v).planAt = s.planAt := rfl
@[simp] theorem State.setRx_riseAt (s : State) (i : Nat) (v : LineRx) : (s.setRx i v).riseAt = s.riseAt := rfl
@[simp] theorem State.setRx_errPulseEnd (s : State) (i : Nat) (v : LineRx) : (s.setRx i v).errPulseEnd = s.errPulseEnd := rfl
@[simp] theorem State.setRx_errRelease (s : State) (i : Nat) (v : LineRx) : (s.setRx i v).errRelease = s.errRelease := rfl
@[simp] theorem State.setRx_rd (s : State) (i : Nat) (v : LineRx) (c : Nat) : (s.setRx i v).rd c = s.rd c := rfl
@[simp] theorem State.setRx_f (s : State) (i : Nat) (v : LineRx) (x : Field) : (s.setRx i v).f x = s.f x := rfl
@[simp] theorem State.setRx_b (s : State) (i : Nat) (v : LineRx) (x : Field) : (s.setRx i v).b x = s.b x := rfl
@[simp] theorem State.setRx_rn (s : State) (i : Nat) (v : LineRx) (c : Nat) : (s.setRx i v).rn c = s.rn c := rfl
@[simp] theorem State.setRx_rd64 (s : State) (i : Nat) (v : LineRx) (c : Nat) : (s.setRx i v).rd64 c = s.rd64 c := rfl
@[simp] theorem State.setRx_byte (s : State) (i : Nat) (v : LineRx) (c : Nat) : (s.setRx i v).byte c = s.byte c := rfl
@[simp] theorem State.setRx_readMem (s : State) (i : Nat) (v : LineRx) (c n : Nat) : (s.setRx i v).readMem c n = s.readMem c n := rfl
@[simp] theorem State.setRx_eng (s : State) (i : Nat) (v : LineRx) (j : Nat) : (s.setRx i v).eng j = s.eng j := rfl
@[simp] theorem State.setRx_lane (s : State) (i : Nat) (v : LineRx) (j : Nat) : (s.setRx i v).lane j = s.lane j := rfl
@[simp] theorem State.setRx_dom (s : State) (i : Nat) (v : LineRx) (j : Nat) : (s.setRx i v).dom j = s.dom j := rfl
@[simp] theorem State.setRx_head (s : State) (i : Nat) (v : LineRx) (j : Nat) : (s.setRx i v).head j = s.head j := rfl
@[simp] theorem State.setRx_axis (s : State) (i : Nat) (v : LineRx) (j : Nat) : (s.setRx i v).axis j = s.axis j := rfl
@[simp] theorem State.setRx_group (s : State) (i : Nat) (v : LineRx) (j : Nat) : (s.setRx i v).group j = s.group j := rfl
@[simp] theorem State.setRx_rej (s : State) (i : Nat) (v : LineRx) (j : Nat) : (s.setRx i v).rej j = s.rej j := rfl
@[simp] theorem State.setRx_trace (s : State) (i : Nat) (v : LineRx) (j : Nat) : (s.setRx i v).trace j = s.trace j := rfl
@[simp] theorem State.setRx_supply (s : State) (i : Nat) (v : LineRx) (j : Nat) : (s.setRx i v).supply j = s.supply j := rfl
@[simp] theorem State.setRx_vlane (s : State) (i : Nat) (v : LineRx) (j : Nat) : (s.setRx i v).vlane j = s.vlane j := rfl
@[simp] theorem State.setRx_chan (s : State) (i : Nat) (v : LineRx) (j : Nat) : (s.setRx i v).chan j = s.chan j := rfl
@[simp] theorem State.setRx_cmp (s : State) (i : Nat) (v : LineRx) (j : Nat) : (s.setRx i v).cmp j = s.cmp j := rfl
@[simp] theorem State.setRx_emu (s : State) (i : Nat) (v : LineRx) (j : Nat) : (s.setRx i v).emu j = s.emu j := rfl
@[simp] theorem State.setRx_strm (s : State) (i : Nat) (v : LineRx) (j : Nat) : (s.setRx i v).strm j = s.strm j := rfl
@[simp] theorem State.setRx_dma (s : State) (i : Nat) (v : LineRx) (j : Nat) : (s.setRx i v).dma j = s.dma j := rfl
theorem State.setRx_rx (s : State) (i : Nat) (v : LineRx) (j : Nat) : (s.setRx i v).rx j = if i = j then v else s.rx j := Map.get_set _ _ _ _ _
@[simp] theorem State.setRx_rx_same (s : State) (i : Nat) (v : LineRx) : (s.setRx i v).rx i = v := Map.get_set_same _ _ _ _

end Sys2Proof.Machine
end

