-- ==== Sys2Proof/Laws/Ops.lean ====
section
/-!
SUPPORT. Laws/Ops.lean: what each named operation over registers, fields, memory and output does, said once: a field after a field is set, a
register after a register is written, a byte after a run of bytes is written, and that each keeps the canonical forms.
-/

namespace Sys2Proof.Machine

/-! Bits of a number -/

theorem testBit_bits (n hi lo i : Nat) : (bits n hi lo).testBit i = (decide (i < hi + 1 - lo) && n.testBit (lo + i)) := by
  simp only [bits, Nat.testBit_mod_two_pow, Nat.testBit_div_two_pow, Nat.add_comm]

theorem bits_lt (n hi lo : Nat) : bits n hi lo < 2 ^ (hi + 1 - lo) := Nat.mod_lt _ (Nat.two_pow_pos _)

theorem bitAt_eq (n i : Nat) : bitAt n i = n.testBit i := by
  simp only [bitAt, Nat.testBit_eq_decide_div_mod_eq]

/-- Bit by bit, what a word is after its bits hi:lo are replaced. -/
theorem testBit_putNat (n v hi lo i : Nat) (h : lo ≤ hi) :
    (n / 2 ^ (hi + 1) * 2 ^ (hi + 1) + v % 2 ^ (hi + 1 - lo) * 2 ^ lo + n % 2 ^ lo).testBit i =
      if i < lo then n.testBit i else if i ≤ hi then v.testBit (i - lo) else n.testBit i := by
  have e1 : n / 2 ^ (hi + 1) * 2 ^ (hi + 1) + v % 2 ^ (hi + 1 - lo) * 2 ^ lo + n % 2 ^ lo =
      2 ^ lo * (2 ^ (hi + 1 - lo) * (n / 2 ^ (hi + 1)) + v % 2 ^ (hi + 1 - lo)) + n % 2 ^ lo := by
    have : 2 ^ (hi + 1) = 2 ^ lo * 2 ^ (hi + 1 - lo) := by rw [← Nat.pow_add]; congr 1; omega
    rw [Nat.mul_add, ← Nat.mul_assoc, ← this, Nat.mul_comm (n / _), Nat.mul_comm (v % _)]
  rw [e1, Nat.testBit_two_pow_mul_add _ (Nat.mod_lt _ (Nat.two_pow_pos _))]
  split
  · next hi1 => simp [Nat.testBit_mod_two_pow, hi1]
  · next hi1 =>
    rw [Nat.testBit_two_pow_mul_add _ (Nat.mod_lt _ (Nat.two_pow_pos _))]
    by_cases h2 : i ≤ hi
    · have h3 : i - lo < hi + 1 - lo := by omega
      simp [h2, h3, Nat.testBit_mod_two_pow]
    · have h3 : ¬ i - lo < hi + 1 - lo := by omega
      have h4 : i - lo - (hi + 1 - lo) + (hi + 1) = i := by omega
      simp [h2, h3, Nat.testBit_div_two_pow, h4]

theorem testBit_putBits (w : Word) (hi lo v i : Nat) (h : lo ≤ hi) :
    (putBits w hi lo v).toNat.testBit i =
      (decide (i < 32) && if i < lo then w.toNat.testBit i else if i ≤ hi then v.testBit (i - lo) else w.toNat.testBit i) := by
  simp only [putBits, BitVec.toNat_ofNat, Nat.testBit_mod_two_pow, testBit_putNat _ _ _ _ _ h]

theorem getLsbD_putBits (w : Word) (hi lo v i : Nat) (h : lo ≤ hi) (hi32 : i < 32) :
    (putBits w hi lo v).getLsbD i = if i < lo then w.getLsbD i else if i ≤ hi then v.testBit (i - lo) else w.getLsbD i := by
  have := testBit_putBits w hi lo v i h
  simp only [hi32, decide_true, Bool.true_and] at this
  simpa [BitVec.testBit_toNat] using this

/-- A field of a word after the same field is set. -/
theorem bits_putBits_same (w : Word) (hi lo v : Nat) (h : lo ≤ hi) (h32 : hi < 32) :
    bits (putBits w hi lo v).toNat hi lo = v % 2 ^ (hi + 1 - lo) := by
  apply Nat.eq_of_testBit_eq
  intro i
  rw [testBit_bits, Nat.testBit_mod_two_pow]
  by_cases hi' : i < hi + 1 - lo
  · have h1 : lo + i < 32 := by omega
    have h2 : ¬ lo + i < lo := by omega
    have h3 : lo + i ≤ hi := by omega
    have h4 : lo + i - lo = i := by omega
    simp [hi', testBit_putBits _ _ _ _ _ h, h1, h3]
  · simp [hi']

/-- A field of a word after a field that shares no bit with it is set. -/
theorem bits_putBits_apart (w : Word) (hi lo v hi' lo' : Nat) (h : lo ≤ hi) (h32 : hi' < 32) (hd : hi < lo' ∨ hi' < lo) :
    bits (putBits w hi lo v).toNat hi' lo' = bits w.toNat hi' lo' := by
  apply Nat.eq_of_testBit_eq
  intro i
  rw [testBit_bits, testBit_bits]
  by_cases hi1 : i < hi' + 1 - lo'
  · have h1 : lo' + i < 32 := by omega
    simp only [hi1, decide_true, Bool.true_and, testBit_putBits _ _ _ _ _ h, h1]
    rcases hd with hd | hd
    · have h2 : ¬ lo' + i < lo := by omega
      have h3 : ¬ lo' + i ≤ hi := by omega
      simp [h2, h3]
    · have h2 : lo' + i < lo := by omega
      simp [h2]
  · simp [hi1]

/-! Registers and fields -/

theorem State.rd_wr (s : State) (a b : Nat) (v : Word) : (s.wr a v).rd b = if a = b then v else s.rd b := Map.get_set _ _ _ _ _

@[simp] theorem State.rd_wr_same (s : State) (a : Nat) (v : Word) : (s.wr a v).rd a = v := Map.get_set_same _ _ _ _

theorem State.rd_wr_ne (s : State) (a b : Nat) (v : Word) (h : a ≠ b) : (s.wr a v).rd b = s.rd b := by simp [State.rd_wr, h]

theorem State.f_wr (s : State) (a : Nat) (v : Word) (x : Field) :
    (s.wr a v).f x = if a = x.addr then bits v.toNat x.hi x.lo else s.f x := by
  simp only [State.f, State.rd_wr]
  split <;> rfl

/-- A field after it is set. -/
theorem State.f_setF_same (s : State) (x : Field) (v : Nat) (h : x.lo ≤ x.hi) (h32 : x.hi < 32) :
    (s.setF x v).f x = v % 2 ^ (x.hi + 1 - x.lo) := by
  simp only [State.setF, State.f, State.rd_wr_same, bits_putBits_same _ _ _ _ h h32]

/-- A field of another register after a field is set. -/
theorem State.f_setF_other (s : State) (x y : Field) (v : Nat) (h : x.addr ≠ y.addr) : (s.setF x v).f y = s.f y := by
  simp only [State.setF, State.f, State.rd_wr_ne _ _ _ _ h]

/-- A field of the same register that shares no bit, after a field is set. -/
theorem State.f_setF_apart (s : State) (x y : Field) (v : Nat) (h : x.lo ≤ x.hi) (h32 : y.hi < 32)
    (hd : x.hi < y.lo ∨ y.hi < x.lo) : (s.setF x v).f y = s.f y := by
  by_cases ha : x.addr = y.addr
  · simp only [State.setF, State.f, ha, State.rd_wr_same, bits_putBits_apart _ _ _ _ _ _ h h32 hd]
  · exact State.f_setF_other s x y v ha

theorem State.rd_setF_other (s : State) (x : Field) (v b : Nat) (h : x.addr ≠ b) : (s.setF x v).rd b = s.rd b :=
  State.rd_wr_ne _ _ _ _ h

theorem State.b_setB_same (s : State) (x : Field) (v : Bool) (h : x.lo = x.hi) (h32 : x.hi < 32) : (s.setB x v).b x = v := by
  have : x.hi + 1 - x.lo = 1 := by omega
  simp only [State.b, State.setB, State.f_setF_same s x _ (by omega) h32, this]
  cases v <;> rfl

theorem State.b_setF_other (s : State) (x y : Field) (v : Nat) (h : x.addr ≠ y.addr) : (s.setF x v).b y = s.b y := by
  simp only [State.b, State.f_setF_other _ _ _ _ h]

theorem State.b_setB_other (s : State) (x y : Field) (v : Bool) (h : x.addr ≠ y.addr) : (s.setB x v).b y = s.b y :=
  State.b_setF_other _ _ _ _ h

theorem State.b_setB_apart (s : State) (x y : Field) (v : Bool) (h : x.lo ≤ x.hi) (h32 : y.hi < 32)
    (hd : x.hi < y.lo ∨ y.hi < x.lo) : (s.setB x v).b y = s.b y := by
  simp only [State.b, State.setB, State.f_setF_apart _ _ _ _ h h32 hd]

theorem State.rd64_wr64 (s : State) (a v : Nat) : (s.wr64 a v).rd64 a = v % 2 ^ 64 := by
  have h1 : a ≠ a + 4 := by omega
  have h2 : a + 4 ≠ a := by omega
  simp only [State.rd64, State.wr64, State.wn, State.rn, State.rd_wr, h2, if_true, if_false, BitVec.toNat_ofNat]
  omega

/-! Memory -/

/-- A byte after a run of bytes is written. -/
theorem State.byte_writeMem (s : State) (a c : Nat) (bs : List Byte) :
    (s.writeMem a bs).byte c = if a ≤ c ∧ c < a + bs.length then (bs[c - a]?).getD (memDefault c) else s.byte c :=
  Map.get_put _ _ _ _ _

theorem State.byte_writeMem_out (s : State) (a c : Nat) (bs : List Byte) (h : c < a ∨ a + bs.length ≤ c) :
    (s.writeMem a bs).byte c = s.byte c := by
  rw [State.byte_writeMem, if_neg (by omega)]

theorem State.writeMem_wf (s : State) (a : Nat) (bs : List Byte) (h : Memory.wf s.mem) : Memory.wf (s.writeMem a bs).mem :=
  Map.wf_put _ _ _ _ h

theorem State.wr_wf (s : State) (a : Nat) (v : Word) (h : Map.wf resetOf s.regs = true) : Map.wf resetOf (s.wr a v).regs = true :=
  Map.wf_set _ _ _ _ h

/-- A run of bytes is its bytes. -/
theorem State.readMem_eq (s : State) (a n : Nat) : s.readMem a n = (List.range n).map fun i => s.byte (a + i) := rfl

/-! Derived updates -/

@[simp] theorem State.when_true (s : State) (g : State → State) : s.when true g = g s := rfl

@[simp] theorem State.when_false (s : State) (g : State → State) : s.when false g = s := rfl

@[simp] theorem State.begin_asleep (s : State) : s.begin.asleep = s.asleep := rfl

theorem State.awake_of (s : State) (g : State → State) (h : s.asleep = false) : s.awake g = g s.begin := by
  simp [State.awake, h]

theorem State.awake_asleep (s : State) (g : State → State) (h : s.asleep = true) : s.awake g = s := by simp [State.awake, h]

end Sys2Proof.Machine
end

