-- ==== Sys2Proof/Laws/Fault.lean ====
section
/-!
SUPPORT. Laws/Fault.lean: what a latch of the fault collector changes: the source's own registers, the engines' event 3, and the registers its
reactions write; every part of the state and every register apart from these is as before.
-/

namespace Sys2Proof.Machine
open Reg Fld

/-! What repeated and conditional updates leave as it is -/

theorem State.foldl_keeps {α β : Type} (π : State → α) (l : List β) (g : State → β → State) (h : ∀ s, ∀ i ∈ l, π (g s i) = π s)
    (s : State) : π (l.foldl g s) = π s := by
  induction l generalizing s with
  | nil => rfl
  | cons a l ih => rw [List.foldl_cons, ih (fun s i hi => h s i (by simp [hi])), h s a (by simp)]

theorem State.forEach_keeps {α : Type} (π : State → α) (l : List Nat) (g : State → Nat → State)
    (h : ∀ s, ∀ i ∈ l, π (g s i) = π s) (s : State) : π (s.forEach l g) = π s := State.foldl_keeps π l g h s

theorem State.when_keeps {α : Type} (π : State → α) (c : Bool) (g : State → State) (h : ∀ s, π (g s) = π s) (s : State) :
    π (s.when c g) = π s := by
  cases c
  · rfl
  · exact h s

/-- A part of the state that a latch's reactions do not reach, but for writes of registers of W: what is sent, items, lanes, axes, groups and
the collector's own marks are not in it. -/
structure State.Apart {α : Type} (W : Nat → Prop) (π : State → α) : Prop where
  regs : ∀ (s : State) a v, W a → π (s.wr a v) = π s
  out : ∀ (s : State) o w t, π { s with out := o, wire := w, lineTx := t } = π s
  items : ∀ (s : State) o, π { s with items := o } = π s
  lanes : ∀ (s : State) o, π { s with lanes := o } = π s
  vlanes : ∀ (s : State) o, π { s with vlanes := o } = π s
  axes : ∀ (s : State) o, π { s with axes := o } = π s
  groups : ∀ (s : State) o, π { s with groups := o } = π s
  first : ∀ (s : State) o, π { s with firstThis := o } = π s
  read : ∀ (s : State) o, π { s with fltRead := o } = π s
  pulse : ∀ (s : State) o, π { s with errPulseEnd := o } = π s

/-- The registers a latch's reactions write. -/
structure RaiseWrites (W : Nat → Prop) : Prop where
  ctrl : W FLT_CTRL
  stat : W FLT_STAT
  first : W FLT_FIRST
  tbLo : W FLT_FIRST_TB_LO
  tbHi : W (FLT_FIRST_TB_LO + 4)
  set : ∀ k < 4, W (FLT_FIRST_SET k)
  pba : ∀ k < 2, W (MSIX_PBA k)
  lpCtrl : ∀ l < 32, W (LP_CTRL l)
  lpLive : ∀ l < 32, W (LP_LIVE l)
  lpStat : ∀ l < 32, W (LP_STAT l)
  pwm : ∀ p < 16, W (PWM_CFG p)
  motCtrl : ∀ a < 16, W (MOT_CTRL a)
  motState : ∀ a < 16, W (MOT_STATE a)

theorem RaiseWrites.all : RaiseWrites fun _ => True := by constructor <;> intros <;> trivial

namespace State.Apart
variable {α : Type} {W : Nat → Prop} {π : State → α} (h : State.Apart W π)
include h

theorem setF (s : State) (x : Field) (v : Nat) (hx : W x.addr) : π (s.setF x v) = π s := h.regs _ _ _ hx

theorem setB (s : State) (x : Field) (v : Bool) (hx : W x.addr) : π (s.setB x v) = π s := h.regs _ _ _ hx

theorem wn (s : State) (a v : Nat) (hx : W a) : π (s.wn a v) = π s := h.regs _ _ _ hx

theorem wr64 (s : State) (a v : Nat) (hx : W a) (hy : W (a + 4)) : π (s.wr64 a v) = π s :=
  (h.regs _ _ _ hy).trans (h.regs _ _ _ hx)

theorem ev (s : State) (x : Field) (hx : W x.addr) : π (s.ev x) = π s := h.regs _ _ _ hx

theorem incSat (s : State) (x : Field) (n : Nat) (hx : W x.addr) : π (s.incSat x n) = π s := h.regs _ _ _ hx

theorem emit (s : State) (o : Out) : π (s.emit o) = π s := by
  simp only [State.emit, State.emitHeld]
  split
  · rfl
  · exact h.out _ _ _ _

theorem msix (w : RaiseWrites W) (s : State) (v : Nat) : π (s.msix v) = π s := by
  simp only [State.msix]
  split
  · rfl
  · split
    · exact h.regs _ _ _ (w.pba _ (by omega))
    · exact h.emit _ _

theorem spoilWhere (s : State) (c : Nat) (p : Item → Bool) : π (s.spoilWhere c p) = π s := h.items _ _

theorem modLane (s : State) (i : Nat) (g : Lane → Lane) : π (s.modLane i g) = π s := h.lanes _ _

theorem abortLane (s : State) (l r : Nat) : π (s.abortLane l r) = π s := by
  simp only [State.abortLane, h.modLane]
  exact State.when_keeps π _ _ (fun s => h.emit s _) s

theorem inhibitTests (s : State) (l : Nat) : π (s.inhibitTests l) = π s := h.vlanes _ _

theorem forceLoop (w : RaiseWrites W) (s : State) (l : Nat) (hl : l < 32) : π (s.forceLoop l) = π s := by
  simp only [State.forceLoop]
  split
  · rw [h.ev _ _ (w.lpStat l hl), h.setB _ _ _ (w.lpLive l hl), h.setB _ _ _ (w.lpCtrl l hl)]
  · rfl

theorem stopAxis (w : RaiseWrites W) (s : State) (r : Ramp) (a : Nat) (ha : a < 16) : π (s.stopAxis r a) = π s := by
  simp only [State.stopAxis]
  split
  · refine (State.forEach_keeps π _ _ (fun s l hl => ?_) _).trans (h.groups _ _)
    obtain ⟨b, -, hb⟩ := List.mem_flatMap.1 hl
    exact h.forceLoop w s l (List.mem_range.1 (List.mem_of_mem_filter hb))
  · split
    · refine (State.forEach_keeps π _ _ (fun s l hl => h.forceLoop w s l (List.mem_range.1 (List.mem_of_mem_filter hl))) _).trans ?_
      exact (h.setF _ _ _ (w.motState a ha)).trans (h.axes _ _)
    · exact h.axes _ _

theorem safeOutputs (w : RaiseWrites W) (s : State) (s4 : Bool) : π (s.safeOutputs s4) = π s := by
  simp only [State.safeOutputs]
  rw [State.forEach_keeps π _ _ fun s a ha => ?_, State.forEach_keeps π _ _ fun s p hp => ?_,
    State.forEach_keeps π _ _ fun s l hl => ?_]
  · exact State.when_keeps π _ _ (fun s => h.forceLoop w s l (List.mem_range.1 hl)) s
  · exact State.when_keeps π _ _ (fun s => h.setB s _ _ (w.pwm _ (List.mem_range.1 hp))) s
  · rw [State.when_keeps π _ _ (fun s => h.setB s _ _ (w.motCtrl _ (List.mem_range.1 ha))), h.stopAxis w _ _ _ (List.mem_range.1 ha)]

theorem errDrive (w : RaiseWrites W) (s : State) : π s.errDrive = π s := h.setB _ _ _ w.stat

theorem firstFault (w : RaiseWrites W) (s : State) (src sev : Nat) (inj : Bool) (hs : src < 128) :
    π (s.firstFault src sev inj) = π s := by
  have hk : src / 32 < 4 := by omega
  simp only [State.firstFault, h.ev _ _ (show W FLT_FIRST_VALID.addr from w.first)]
  split
  · refine (h.first _ _).trans ?_
    rw [h.regs _ _ _ (w.set _ hk), h.wr64 _ _ _ w.tbLo w.tbHi, h.setB _ _ _ w.first, h.setF _ _ _ w.first, h.setF _ _ _ w.first]
    exact State.foldl_keeps π _ _ (fun s k hk => h.wn _ _ _ (w.set _ (List.mem_range.1 hk))) s
  · split
    · split
      · rw [h.setB _ _ _ w.first, h.setF _ _ _ w.first, h.setF _ _ _ w.first, h.regs _ _ _ (w.set _ hk)]
      · exact h.regs _ _ _ (w.set _ hk)
    · rfl

theorem react (w : RaiseWrites W) (s : State) (src sev : Nat) : π (s.react src sev) = π s := by
  simp only [State.react]
  split
  · split
    · rfl
    · exact h.spoilWhere _ _ _
  · split
    · rw [h.safeOutputs w, State.forEach_keeps π _ _ fun s l hl => ?_, h.spoilWhere, h.setF _ _ _ w.stat]
      · rw [h.modLane, h.inhibitTests, h.abortLane]
    · rfl

end State.Apart

theorem sourceDefined_lt : ∀ src, sourceDefined src = true → src < 128 := by
  intro src h
  have h' := of_decide_eq_true h
  refine (show ∀ x ∈ _, x < 128 from ?_) src h'
  decide

/-- After its own writes a latch reaches the engines, and nothing that is apart. -/
theorem State.Apart.raiseWith {α : Type} {W : Nat → Prop} {π : State → α} (h : State.Apart W π) (w : RaiseWrites W) (s : State)
    (inj : Bool) (src info : Nat) (hd : sourceDefined src = true) :
    π (s.raiseWith inj src info) =
      π (((s.latchWrites inj src info (s.severity src)).firstFault src (s.severity src) inj).engEvents 3 allEngines) := by
  have k' : ∀ (s : State) (c : Prop) [Decidable c], π (if c then { s with errPulseEnd := some (s.tb + s.errPulseTicks) } else s) = π s := by
    intro s c _; split
    · exact h.pulse _ _
    · rfl
  simp only [State.raiseWith, hd, Bool.not_true, Bool.false_eq_true, if_false]
  rw [h.errDrive w, State.when_keeps π _ _ (fun s => h.setB _ _ _ w.ctrl), k', State.when_keeps π _ _ (fun s => h.msix w _ _), h.react w]

theorem State.Apart.latchWrites {α : Type} {W : Nat → Prop} {π : State → α} (h : State.Apart W π) (s : State) (inj : Bool)
    (src info sev : Nat) (hw : ∀ b, b = FLT_SRC src ∨ b = FLT_LATCH_SUM (src / 32) ∨ b = FLT_INFO src ∨ b = FLT_CNT src → W b) :
    π (s.latchWrites inj src info sev) = π s := by
  have h0 : π (s.latchSrc inj src sev) = π s := by
    simp only [State.latchSrc]
    split
    · exact h.regs _ _ _ (hw _ (.inl rfl))
    · exact (h.read _ _).trans (h.regs _ _ _ (hw _ (.inl rfl)))
  rw [State.latchWrites, h.incSat _ _ _ (hw _ (.inr (.inr (.inr rfl)))), h.wn _ _ _ (hw _ (.inr (.inr (.inl rfl)))),
    h.regs _ _ _ (hw _ (.inr (.inl rfl))), h0]

/-- A latch leaves as it is what its own writes and the engines' events leave as it is. -/
theorem State.Apart.raiseWith_keeps {α : Type} {W : Nat → Prop} {π : State → α} (h : State.Apart W π) (w : RaiseWrites W) (s : State)
    (inj : Bool) (src info : Nat) (he : ∀ (s : State) i v, π (s.setEng i v) = π s)
    (hw : ∀ b, b = FLT_SRC src ∨ b = FLT_LATCH_SUM (src / 32) ∨ b = FLT_INFO src ∨ b = FLT_CNT src → W b) :
    π (s.raiseWith inj src info) = π s := by
  by_cases hd : sourceDefined src = true
  · rw [h.raiseWith w s inj src info hd]
    rw [State.engEvents, State.forEach_keeps π _ _ fun s e _ => by rw [State.engEvent, State.modEng, he]]
    rw [h.firstFault w _ _ _ _ (sourceDefined_lt src hd)]
    exact h.latchWrites s inj src info _ hw
  · simp [State.raiseWith, hd]

theorem State.apart_mem : State.Apart (fun _ => True) State.mem := by constructor <;> intros <;> rfl
theorem State.apart_tb : State.Apart (fun _ => True) State.tb := by constructor <;> intros <;> rfl
theorem State.apart_pending : State.Apart (fun _ => True) State.pending := by constructor <;> intros <;> rfl
theorem State.apart_power : State.Apart (fun _ => True) State.power := by constructor <;> intros <;> rfl
theorem State.apart_engines : State.Apart (fun _ => True) State.engines := by constructor <;> intros <;> rfl
theorem State.apart_rd (b : Nat) : State.Apart (fun a => a ≠ b) (fun s => s.rd b) := by
  constructor
  · intro s a v ha; exact State.rd_wr_ne _ _ _ _ ha
  all_goals intros; rfl

/-- A raised source changes nothing that its latch leaves, frozen or not. -/
theorem State.raise_keeps {α : Type} (π : State → α) (s : State) (src info : Nat) (h : π (s.raiseWith false src info) = π s) :
    π (s.raise src info) = π s := by
  unfold State.raise
  split
  · rfl
  · exact h

@[simp] theorem State.raise_mem (s : State) (src info : Nat) : (s.raise src info).mem = s.mem :=
  State.raise_keeps _ s src info <| State.apart_mem.raiseWith_keeps .all s false src info (fun _ _ _ => rfl) fun _ _ => trivial

@[simp] theorem State.raise_tb (s : State) (src info : Nat) : (s.raise src info).tb = s.tb :=
  State.raise_keeps _ s src info <| State.apart_tb.raiseWith_keeps .all s false src info (fun _ _ _ => rfl) fun _ _ => trivial

@[simp] theorem State.raise_pending (s : State) (src info : Nat) : (s.raise src info).pending = s.pending :=
  State.raise_keeps _ s src info <| State.apart_pending.raiseWith_keeps .all s false src info (fun _ _ _ => rfl) fun _ _ => trivial

@[simp] theorem State.raise_power (s : State) (src info : Nat) : (s.raise src info).power = s.power :=
  State.raise_keeps _ s src info <| State.apart_power.raiseWith_keeps .all s false src info (fun _ _ _ => rfl) fun _ _ => trivial

/-- The registers a latch can write: the FAULT block, MSIX_PBA, and of loops, PWM outputs and axes the control and state registers. -/
def raiseReach (b : Nat) : Bool :=
  (0x30000 ≤ b && b < 0x32000) || b = 0x4D000 || b = 0x4D004 || (0xA0000 ≤ b && b < 0xA2000 && (b % 0x200 = 0 || b % 0x200 = 0x4C)) ||
  (0xC0000 ≤ b && b < 0xC2000 && (b % 0x100 = 0 || b % 0x100 = 0x3C || b % 0x100 = 0x40)) ||
  (0xC4000 ≤ b && b < 0xC4100 && b % 0x10 = 0)

theorem raiseReach_writes (b : Nat) (h : raiseReach b = false) : RaiseWrites fun a => a ≠ b := by
  simp only [raiseReach, Bool.or_eq_false_iff, Bool.and_eq_false_iff, decide_eq_false_iff_not] at h
  constructor <;> intros <;>
    simp only [FLT_CTRL, FLT_STAT, FLT_FIRST, FLT_FIRST_TB_LO, FLT_FIRST_SET, MSIX_PBA, LP_CTRL, LP_LIVE, LP_STAT, PWM_CFG, MOT_CTRL,
      MOT_STATE] <;> omega

/-- A register a latch does not reach is as before. -/
theorem State.raiseWith_rd (s : State) (inj : Bool) (src info b : Nat) (h : raiseReach b = false) :
    (s.raiseWith inj src info).rd b = s.rd b := by
  by_cases hd : sourceDefined src = true
  · have hl := sourceDefined_lt src hd
    have hb : b < 0x30000 ∨ 0x32000 ≤ b := by
      simp only [raiseReach, Bool.or_eq_false_iff, Bool.and_eq_false_iff, decide_eq_false_iff_not] at h
      omega
    refine (State.apart_rd b).raiseWith_keeps (raiseReach_writes b h) s inj src info (fun _ _ _ => rfl) fun a ha => ?_
    simp only [FLT_SRC, FLT_LATCH_SUM, FLT_INFO, FLT_CNT] at ha
    have : 0x30000 ≤ a ∧ a < 0x32000 := by omega
    show a ≠ b
    omega
  · simp [State.raiseWith, hd]

theorem State.raise_rd (s : State) (src info b : Nat) (h : raiseReach b = false) : (s.raise src info).rd b = s.rd b :=
  State.raise_keeps (·.rd b) s src info (State.raiseWith_rd s false src info b h)

theorem State.raise_f (s : State) (src info : Nat) (x : Field) (h : raiseReach x.addr = false) : (s.raise src info).f x = s.f x := by
  simp only [State.f, State.raise_rd s src info _ h]

theorem State.raise_b (s : State) (src info : Nat) (x : Field) (h : raiseReach x.addr = false) : (s.raise src info).b x = s.b x := by
  simp only [State.b, State.raise_f s src info _ h]

@[simp] theorem State.raise_asleep (s : State) (src info : Nat) : (s.raise src info).asleep = s.asleep := by
  simp only [State.asleep, State.inReset, State.raise_power, State.raise_b s src info Fld.DBG_STAT_FROZEN (by decide)]

/-! The source's own registers -/

theorem srcWrites (b : Nat) (hb : 0x31000 ≤ b ∧ b < 0x31800) : RaiseWrites fun a => a ≠ b := by
  constructor <;> intros <;>
    simp only [FLT_CTRL, FLT_STAT, FLT_FIRST, FLT_FIRST_TB_LO, FLT_FIRST_SET, MSIX_PBA, LP_CTRL, LP_LIVE, LP_STAT, PWM_CFG, MOT_CTRL,
      MOT_STATE] <;> omega

theorem State.raiseWith_own (s : State) (inj : Bool) (src info b : Nat) (hd : sourceDefined src = true)
    (hb : 0x31000 ≤ b ∧ b < 0x31800) : (s.raiseWith inj src info).rd b = (s.latchWrites inj src info (s.severity src)).rd b := by
  have hl := sourceDefined_lt src hd
  have h := State.apart_rd b
  have w := srcWrites b hb
  have e1 := h.raiseWith w s inj src info hd
  have e2 := h.firstFault w (s.latchWrites inj src info (s.severity src)) src (s.severity src) inj hl
  have e3 := State.forEach_keeps (fun s => s.rd b) allEngines (fun s e => s.engEvent 3 e) (fun s e _ => rfl)
    ((s.latchWrites inj src info (s.severity src)).firstFault src (s.severity src) inj)
  exact e1.trans (e3.trans e2)

theorem State.rd_chain (s : State) (l i c a : Nat) (u v w : Word) (hl : l ≠ a) (hi : i ≠ a) (hc : c ≠ a) :
    (((s.wr l u).wr i v).wr c w).rd a = s.rd a := by
  rw [State.rd_wr_ne _ _ _ _ hc, State.rd_wr_ne _ _ _ _ hi, State.rd_wr_ne _ _ _ _ hl]

theorem State.rd_congr {s t : State} (h : s.regs = t.regs) (a : Nat) : s.rd a = t.rd a := by simp only [State.rd, h]

/-- What a latch puts into FLT_SRC. -/
def latchWord (w : Word) (injected : Bool) (sev : Nat) : Word := putBits (sqEvent w (if injected then [0, 2] else [0])) 6 4 sev

theorem latchWord_latched (w : Word) (inj : Bool) (sev : Nat) : bits (latchWord w inj sev).toNat 0 0 = 1 := by
  simp only [latchWord, sqEvent]
  rw [bits_putBits_apart _ _ _ _ _ _ (by omega) (by omega) (by omega), bits_putBits_apart _ _ _ _ _ _ (by omega) (by omega) (by omega)]
  cases inj
  · simp only [Bool.false_eq_true, if_false, List.foldl_cons, List.foldl_nil]
    rw [bits_putBits_same _ _ _ _ (by omega) (by omega)]; rfl
  · simp only [if_true, List.foldl_cons, List.foldl_nil]
    rw [bits_putBits_apart _ _ _ _ _ _ (by omega) (by omega) (by omega), bits_putBits_same _ _ _ _ (by omega) (by omega)]; rfl

theorem State.latchSrc_regs (s : State) (inj : Bool) (src sev : Nat) :
    (s.latchSrc inj src sev).regs = (s.wr (FLT_SRC src) (latchWord (s.rd (FLT_SRC src)) inj sev)).regs := by
  unfold State.latchSrc
  by_cases h : s.b (FLT_SRC_LATCHED src) = true
  · rw [if_pos h]; rfl
  · rw [if_neg h]; rfl

theorem State.latchSrc_rd (s : State) (inj : Bool) (src sev : Nat) :
    (s.latchSrc inj src sev).rd (FLT_SRC src) = latchWord (s.rd (FLT_SRC src)) inj sev :=
  (State.rd_congr (State.latchSrc_regs s inj src sev) _).trans (State.rd_wr_same _ _ _)

/-- A latch sets LATCHED (R620). -/
theorem State.raiseWith_latched (s : State) (inj : Bool) (src info : Nat) (hd : sourceDefined src = true) :
    (s.raiseWith inj src info).b (FLT_SRC_LATCHED src) = true := by
  have hl := sourceDefined_lt src hd
  have n1 : FLT_CNT src ≠ FLT_SRC src := by simp only [FLT_CNT, FLT_SRC]; omega
  have n2 : FLT_INFO src ≠ FLT_SRC src := by simp only [FLT_INFO, FLT_SRC]; omega
  have n3 : FLT_LATCH_SUM (src / 32) ≠ FLT_SRC src := by simp only [FLT_LATCH_SUM, FLT_SRC]; omega
  have hb : (0x31000 ≤ FLT_SRC src ∧ FLT_SRC src < 0x31800) := by simp only [FLT_SRC]; omega
  have e : (s.latchWrites inj src info (s.severity src)).rd (FLT_SRC src) = latchWord (s.rd (FLT_SRC src)) inj (s.severity src) := by
    exact (State.rd_chain _ _ _ _ _ _ _ _ n3 n2 n1).trans (State.latchSrc_rd _ _ _ _)
  show decide (bits ((s.raiseWith inj src info).rd (FLT_SRC src)).toNat 0 0 = 1) = true
  rw [State.raiseWith_own s inj src info _ hd hb, e, latchWord_latched]; rfl

/-- A latch writes the fault information (R634). -/
theorem State.raiseWith_info (s : State) (inj : Bool) (src info : Nat) (hd : sourceDefined src = true) :
    (s.raiseWith inj src info).rd (FLT_INFO src) = BitVec.ofNat 32 info := by
  have hl := sourceDefined_lt src hd
  have n4 : FLT_CNT src ≠ FLT_INFO src := by simp only [FLT_CNT, FLT_INFO]; omega
  have hb : (0x31000 ≤ FLT_INFO src ∧ FLT_INFO src < 0x31800) := by simp only [FLT_INFO]; omega
  rw [State.raiseWith_own s inj src info _ hd hb]
  exact (State.rd_wr_ne _ _ _ _ n4).trans (State.rd_wr_same _ _ _)

theorem State.raise_latched (s : State) (src info : Nat) (hd : sourceDefined src = true) (hf : s.b Fld.DBG_STAT_FROZEN = false) :
    (s.raise src info).b (FLT_SRC_LATCHED src) = true := by
  rw [State.raise, if_neg (by simp [hf])]
  exact State.raiseWith_latched s false src info hd

theorem State.raise_info (s : State) (src info : Nat) (hd : sourceDefined src = true) (hf : s.b Fld.DBG_STAT_FROZEN = false) :
    (s.raise src info).rd (FLT_INFO src) = BitVec.ofNat 32 info := by
  rw [State.raise, if_neg (by simp [hf])]
  exact State.raiseWith_info s false src info hd

/-! The engines -/

theorem allEngines_nodup : allEngines.Nodup := List.nodup_range

/-- An engine with an event pending. -/
def Engine.withEvent (ev : Nat) (x : Engine) : Engine := { x with pendingEv := x.pendingEv ||| (1#256 <<< ev) }

theorem State.engEvents_eng (s : State) (ev : Nat) (es : List Nat) (hn : es.Nodup) (j : Nat) :
    (s.engEvents ev es).eng j = if j ∈ es then (s.eng j).withEvent ev else s.eng j := by
  induction es generalizing s with
  | nil => simp [State.engEvents, State.forEach]
  | cons a es ih =>
    rw [List.nodup_cons] at hn
    have : s.engEvents ev (a :: es) = (s.engEvent ev a).engEvents ev es := rfl
    rw [this, ih _ hn.2]
    have e1 : (s.engEvent ev a).eng j = if a = j then (s.eng a).withEvent ev else s.eng j := State.setEng_eng _ _ _ _
    rw [e1]
    by_cases h : a = j
    · subst h; simp [hn.1]
    · simp [h, Ne.symm h]

theorem State.eng_congr {s t : State} (h : t.engines = s.engines) (j : Nat) : t.eng j = s.eng j := by simp only [State.eng, h]

theorem State.latchWrites_engines (s : State) (inj : Bool) (src info sev : Nat) :
    (s.latchWrites inj src info sev).engines = s.engines := State.apart_engines.latchWrites s inj src info sev fun _ _ => trivial

/-- A latch sets event 3 pending in every engine (R620). -/
theorem State.raiseWith_eng (s : State) (inj : Bool) (src info j : Nat) :
    (s.raiseWith inj src info).eng j = if sourceDefined src = true ∧ j < 16 then (s.eng j).withEvent 3 else s.eng j := by
  cases hd : sourceDefined src
  · simp [State.raiseWith, hd]
  · have e1 : (s.raiseWith inj src info).engines =
        (((s.latchWrites inj src info (s.severity src)).firstFault src (s.severity src) inj).engEvents 3 allEngines).engines :=
      State.apart_engines.raiseWith .all s inj src info hd
    have e2 : ((s.latchWrites inj src info (s.severity src)).firstFault src (s.severity src) inj).engines = (s.latchWrites inj src info
        (s.severity src)).engines :=
      State.apart_engines.firstFault .all (s.latchWrites inj src info (s.severity src)) src (s.severity src) inj (sourceDefined_lt src hd)
    have e3 := e2.trans (State.latchWrites_engines s inj src info _)
    have e4 : (j ∈ allEngines) = (j < 16) := by simp [allEngines]
    have e5 := State.engEvents_eng ((s.latchWrites inj src info (s.severity src)).firstFault src (s.severity src) inj) 3 allEngines allEngines_nodup j
    simp only [State.eng_congr e1, e5, State.eng_congr e3, e4, true_and]

theorem State.raise_eng (s : State) (src info j : Nat) (hf : s.b Fld.DBG_STAT_FROZEN = false) :
    (s.raise src info).eng j = if sourceDefined src = true ∧ j < 16 then (s.eng j).withEvent 3 else s.eng j := by
  rw [State.raise, if_neg (by simp [hf])]
  exact State.raiseWith_eng s false src info j

end Sys2Proof.Machine
end

