-- ==== Sys2Proof/Laws/Xaone.lean ====
section
/-!
SUPPORT. Laws/Xaone.lean: what executing an instruction does: how a ready engine issues a plan, what retiring, stalling and trapping change.
-/

namespace Sys2Proof.Machine
open Reg Fld

/-- What an act does to its engine. -/
def XAct.onEngine (tb : Nat) (a : XAct) (x : Engine) : Engine :=
  match a with
  | .reg r v => x.setG r v
  | .csr n v => x.csrWrite tb n v
  | .jump pc => { x with pc := pc }
  | .endTrap => { x with status := x.status &&& ~~~1 }
  | .clear ev => x.clearEv ev
  | .pop => { x with mailbox := x.mailbox.drop 1 }
  | .halt => Engine.halt tb 1 x
  | .dmem _ _ | .draw => x

/-- Does an act change its engine alone? -/
def XAct.engineOnly : XAct → Bool
  | .dmem _ _ | .draw => false
  | _ => true

theorem State.modEng_eng (s : State) (i j : Nat) (g : Engine → Engine) :
    (s.modEng i g).eng j = if i = j then g (s.eng i) else s.eng j := State.setEng_eng _ _ _ _

@[simp] theorem State.modEng_tb (s : State) (i : Nat) (g : Engine → Engine) : (s.modEng i g).tb = s.tb := rfl

theorem State.modEng_rest (s : State) (i : Nat) (g : Engine → Engine) (m : List (Nat × Engine)) :
    (s.modEng i g).withEngines m = s.withEngines m := rfl

theorem State.xAct_eng (c : Nat) (s : State) (a : XAct) (j : Nat) :
    (State.xAct c s a).eng j = if c = j then a.onEngine s.tb (s.eng c) else s.eng j := by
  cases a <;> simp only [State.xAct, State.modEng_eng, XAct.onEngine, State.writeMem_eng] <;> split <;> simp_all [State.eng]

theorem State.xAct_tb (c : Nat) (s : State) (a : XAct) : (State.xAct c s a).tb = s.tb := by cases a <;> rfl

theorem State.xAct_rest (c : Nat) (s : State) (a : XAct) (h : a.engineOnly = true) (m : List (Nat × Engine)) :
    (State.xAct c s a).withEngines m = s.withEngines m := by
  cases a <;> first | rfl | simp [XAct.engineOnly] at h

theorem State.xActs_tb (c : Nat) (l : List XAct) (s : State) : (l.foldl (State.xAct c) s).tb = s.tb := by
  induction l generalizing s with
  | nil => rfl
  | cons a l ih => simp only [List.foldl_cons, ih, State.xAct_tb]

theorem State.xActs_eng (c : Nat) (l : List XAct) (s : State) (j : Nat) :
    (l.foldl (State.xAct c) s).eng j = if c = j then l.foldl (fun x a => a.onEngine s.tb x) (s.eng c) else s.eng j := by
  induction l generalizing s with
  | nil => simp; intro h; rw [h]
  | cons a l ih =>
    simp only [List.foldl_cons, ih, State.xAct_tb, State.xAct_eng, if_true]
    split <;> simp_all

theorem State.xActs_rest (c : Nat) (l : List XAct) (s : State) (h : l.all XAct.engineOnly = true) (m : List (Nat × Engine)) :
    (l.foldl (State.xAct c) s).withEngines m = s.withEngines m := by
  induction l generalizing s with
  | nil => rfl
  | cons a l ih =>
    simp only [List.all_cons, Bool.and_eq_true] at h
    simp only [List.foldl_cons, ih _ h.2, State.xAct_rest _ _ _ h.1]

theorem State.xRetire_eng (c : Nat) (l : List XAct) (s : State) (j : Nat) :
    (State.xRetire c l s).eng j =
      if c = j then Engine.wdogSync s.tb (l.foldl (fun x a => a.onEngine s.tb x) (s.eng c).ahead) else s.eng j := by
  simp only [State.xRetire, State.modEng_eng, State.xActs_eng, State.modEng_tb, if_true]
  split <;> simp_all [Engine.ahead]

@[simp] theorem State.xRetire_tb (c : Nat) (l : List XAct) (s : State) : (State.xRetire c l s).tb = s.tb := by
  simp only [State.xRetire, State.modEng_tb, State.xActs_tb]

theorem State.xRetire_rest (c : Nat) (l : List XAct) (s : State) (h : l.all XAct.engineOnly = true) (m : List (Nat × Engine)) :
    (State.xRetire c l s).withEngines m = s.withEngines m := by
  exact State.xActs_rest c l (s.modEng c fun x => { x with pc := toPc ((x.pc.zeroExtend 32 : Word) + 4), stall := none }) h m

/-- The copies of an engine, by cases. -/
theorem xCopies_cases (e : Nat) : (e < 14 ∧ xCopies e = [e] ∧ xReq e = e) ∨ (14 ≤ e ∧ xCopies e = [14, 15] ∧ xReq e = 14) := by
  by_cases h : 14 ≤ e
  · exact .inr ⟨h, by simp [xCopies, h], by simp [xReq]; omega⟩
  · exact .inl ⟨by omega, by simp [xCopies, h], by simp [xReq]; omega⟩

theorem xCopies_xReq (e : Nat) : xCopies (xReq e) = xCopies e := by
  rcases xCopies_cases e with ⟨h, h1, h2⟩ | ⟨h, h1, h2⟩
  · rw [h2]
  · rw [h1, h2]; rfl

/-- Retiring on every copy the acts of a plan that change the engine alone. -/
theorem State.retireAll_engineOnly (s : State) (e : Nat) (l : List XAct) (g : Engine → Engine) (hs : s.begin = s)
    (hl : l.all XAct.engineOnly = true)
    (hg : ∀ c ∈ xCopies e, l.foldl (fun x a => a.onEngine s.tb x) (s.eng c).ahead = g (s.eng c)) :
    s.engineOnly (s.forEach (xCopies e) fun s c => s.xRetire c l) e g := by
  rcases xCopies_cases e with ⟨h, h1, _⟩ | ⟨h, h1, _⟩ <;> rw [h1] at hg <;> simp only [State.engineOnly, h1, State.forEach,
    List.foldl_cons, List.foldl_nil, State.xRetire_rest _ _ _ hl, hs, State.xRetire_eng, State.xRetire_tb]
  · refine ⟨fun c => ?_, rfl⟩
    have := hg e (by simp)
    by_cases hc : e = c
    · subst hc; simp [this]
    · simp [hc, Ne.symm hc]
  · refine ⟨fun c => ?_, rfl⟩
    have h14 := hg 14 (by simp)
    have h15 := hg 15 (by simp)
    by_cases hc : c = 15
    · subst hc; simp [h15]
    · by_cases hd : c = 14
      · subst hd; simp [h14]
      · simp [hc, hd, Ne.symm hc, Ne.symm hd]

/-! Issue -/

/-- The page of the PC of engine e is locked as signed, and the copies of the pair stand alike. -/
def State.inPage (s : State) (e : Nat) : Prop :=
  bitAt (s.f (ENG_SIGPAGES_LOCKED (xReq e))) ((s.eng (xReq e)).pc.toNat / 4096) = true ∧ (14 ≤ e → ∃ b, s.eng 15 = (s.eng 14).posting b)

theorem State.ready_inPage (s : State) (e : Nat) (h : s.ready e) : s.inPage e := ⟨h.1.2.2.2.2, fun h14 => (h.2 h14).1⟩

theorem State.ready_xUp (s : State) (e : Nat) (h : s.ready e) : s.xUp e = true := by
  simp [State.xUp, h.1.1, h.1.2.1, h.1.2.2.1]

theorem State.inPage_fetched (s : State) (e : Nat) (p : State → Nat → XPlan) (h : s.inPage e) :
    State.fetched p s (xReq e) = p s (xReq e) := by
  have : xReq (xReq e) = xReq e := by simp [xReq]
  simp only [State.fetched, this, h.1, if_true]

theorem State.inPage_fetched15 (s : State) (e : Nat) (p : State → Nat → XPlan) (h : s.inPage e) (h14 : 14 ≤ e) :
    State.fetched p s 15 = p s 15 := by
  have e14 : xReq e = 14 := by simp [xReq]; omega
  have h1 := h.1
  obtain ⟨b, hb⟩ := h.2 h14
  have hpc : (s.eng 15).pc = (s.eng 14).pc := by rw [hb]; rfl
  rw [e14, ← hpc] at h1
  have : xReq 15 = 14 := rfl
  simp only [State.fetched, this, h1, if_true]

/-- Do the copies of a ready engine plan alike? True of every plan that reads its engine, DMEM and the common state alone. -/
def State.plansAlike (s : State) (e : Nat) (p : State → Nat → XPlan) : Prop := 14 ≤ e → p s 15 = p s 14

theorem XPlan.differs_self (p : XPlan) : p.differs p = false := by
  cases p <;> simp [XPlan.differs]

/-- A plan whose request is served retires on every copy. -/
theorem State.perform_served (back : Bool) (s t : State) (e : Nat) (i : Instr) (p : State → Nat → XPlan) (r : XReq)
    (k : List Word → List XAct) (ws : List Word) (h : s.inPage e) (ha : s.plansAlike e p) (hp : p s (xReq e) = .act r k)
    (hv : State.serve back (xReq e) r s = (t, .data ws)) :
    s.perform back e i p = t.forEach (xCopies e) fun s c => s.xRetire c (k ws) := by
  have hf := State.inPage_fetched s e p h
  simp only [State.perform, hf, hp, hv, xCopies_xReq]
  by_cases h14 : 14 ≤ e
  · have h15 := State.inPage_fetched15 s e p h h14
    have er : xReq e = 14 := by simp [xReq]; omega
    have : p s 15 = .act r k := by rw [ha h14, ← er, hp]
    rw [h15, this]
    simp [er, XPlan.differs_self, XPlan.acts]
  · have er : ¬ 14 ≤ xReq e := by simp [xReq]; omega
    simp [er]

/-- A plan whose request has to wait stalls every copy. -/
theorem State.perform_stalls (back : Bool) (s t : State) (e : Nat) (i : Instr) (p : State → Nat → XPlan) (r : XReq)
    (k : List Word → List XAct) (h : s.inPage e) (ha : s.plansAlike e p) (hp : p s (xReq e) = .act r k)
    (hv : State.serve back (xReq e) r s = (t, .stall)) : s.perform back e i p = t.xStallAll e i := by
  have hf := State.inPage_fetched s e p h
  simp only [State.perform, hf, hp, hv, State.xStallAll, xCopies_xReq]
  by_cases h14 : 14 ≤ e
  · have h15 := State.inPage_fetched15 s e p h h14
    have er : xReq e = 14 := by simp [xReq]; omega
    have : p s 15 = .act r k := by rw [ha h14, ← er, hp]
    rw [h15, this]
    simp [er, XPlan.differs_self]
  · have er : ¬ 14 ≤ xReq e := by simp [xReq]; omega
    simp [er]

/-- A plan whose request ends in an error traps on every copy. -/
theorem State.perform_errs (back : Bool) (s t : State) (e : Nat) (i : Instr) (p : State → Nat → XPlan) (r : XReq)
    (k : List Word → List XAct) (cause : Nat) (tval : Word) (h : s.inPage e) (ha : s.plansAlike e p) (hp : p s (xReq e) = .act r k)
    (hv : State.serve back (xReq e) r s = (t, .err cause tval)) : s.perform back e i p = t.xTrapAll e cause tval := by
  have hf := State.inPage_fetched s e p h
  simp only [State.perform, hf, hp, hv, State.xTrapAll, xCopies_xReq]
  by_cases h14 : 14 ≤ e
  · have h15 := State.inPage_fetched15 s e p h h14
    have er : xReq e = 14 := by simp [xReq]; omega
    have : p s 15 = .act r k := by rw [ha h14, ← er, hp]
    rw [h15, this]
    simp [er, XPlan.differs_self]
  · have er : ¬ 14 ≤ xReq e := by simp [xReq]; omega
    simp [er]

/-- A plan that traps traps on every copy. -/
theorem State.perform_traps (back : Bool) (s : State) (e : Nat) (i : Instr) (p : State → Nat → XPlan) (cause : Nat) (tval : Word)
    (h : s.inPage e) (ha : s.plansAlike e p) (hp : p s (xReq e) = .trap cause tval) :
    s.perform back e i p = s.xTrapAll e cause tval := by
  have hf := State.inPage_fetched s e p h
  simp only [State.perform, hf, hp, State.xTrapAll, xCopies_xReq]
  by_cases h14 : 14 ≤ e
  · have h15 := State.inPage_fetched15 s e p h h14
    have er : xReq e = 14 := by simp [xReq]; omega
    have : p s 15 = .trap cause tval := by rw [ha h14, ← er, hp]
    rw [h15, this]
    simp [er, XPlan.differs_self]
  · have er : ¬ 14 ≤ xReq e := by simp [xReq]; omega
    simp [er]

/-- A plan that waits for its event stalls every copy. -/
theorem State.perform_waits (back : Bool) (s : State) (e : Nat) (i : Instr) (p : State → Nat → XPlan) (h : s.inPage e)
    (ha : s.plansAlike e p) (hp : p s (xReq e) = .wait) : s.perform back e i p = s.xStallAll e i := by
  have hf := State.inPage_fetched s e p h
  simp only [State.perform, hf, hp, State.xStallAll, xCopies_xReq]
  by_cases h14 : 14 ≤ e
  · have h15 := State.inPage_fetched15 s e p h h14
    have er : xReq e = 14 := by simp [xReq]; omega
    have : p s 15 = .wait := by rw [ha h14, ← er, hp]
    rw [h15, this]
    simp [er, XPlan.differs_self]
  · have er : ¬ 14 ≤ xReq e := by simp [xReq]; omega
    simp [er]

/-- A ready engine issues what it executes. -/
theorem State.issue_ready (s : State) (e : Nat) (i : Instr) (p : State → Nat → XPlan) (h : s.ready e) :
    s.issue e i p = s.perform false e i p := by
  simp only [State.issue, State.ready_xUp s e h, h.1.2.2.2.1, decide_true, Bool.and_self, if_true]

/-- A ready engine issues a plan that asks for nothing: it retires on every copy. -/
theorem State.issue_pure (s : State) (e : Nat) (i : Instr) (p : State → Nat → XPlan) (l : List XAct) (h : s.ready e)
    (ha : s.plansAlike e p) (hp : p s (xReq e) = .pure l) :
    s.issue e i p = s.forEach (xCopies e) fun s c => s.xRetire c l := by
  rw [State.issue_ready s e i p h]
  exact State.perform_served false s s e i p .none (fun _ => l) [] (State.ready_inPage s e h) ha hp rfl

/-- A ready engine issues a plan that changes the engine alone. -/
theorem State.issue_engineOnly (s : State) (e : Nat) (i : Instr) (p : State → Nat → XPlan) (l : List XAct) (g : Engine → Engine)
    (h : s.ready e) (ha : s.plansAlike e p) (hp : p s (xReq e) = .pure l) (hs : s.begin = s) (hl : l.all XAct.engineOnly = true)
    (hg : ∀ c ∈ xCopies e, l.foldl (fun x a => a.onEngine s.tb x) (s.eng c).ahead = g (s.eng c)) :
    s.engineOnly (s.issue e i p) e g := by
  rw [State.issue_pure s e i p l h ha hp]
  exact State.retireAll_engineOnly s e l g hs hl hg

theorem State.ready_eng15 (s : State) (e : Nat) (h : s.ready e) (h14 : 14 ≤ e) : ∃ b, s.eng 15 = (s.eng 14).posting b := (h.2 h14).1
theorem State.ready_g15 (s : State) (e : Nat) (h : s.ready e) (h14 : 14 ≤ e) (r : Nat) : s.g 15 r = s.g 14 r := by
  obtain ⟨b, hb⟩ := (h.2 h14).1
  simp only [State.g, hb]; rfl

theorem State.inPage_copy (s : State) (e c : Nat) (h : s.inPage e) (hc : c ∈ xCopies e) : ∃ b, s.eng c = (s.eng (xReq e)).posting b := by
  rcases xCopies_cases e with ⟨h1, h2, h3⟩ | ⟨h1, h2, h3⟩
  · rw [h2] at hc; simp at hc; rw [hc, h3]; exact ⟨_, rfl⟩
  · rw [h2] at hc; simp at hc
    rcases hc with rfl | rfl
    · rw [h3]; exact ⟨_, rfl⟩
    · rw [h3]; exact h.2 h1

/-- Both copies of a ready engine are its first copy, but for posted stores. -/
theorem State.ready_copy (s : State) (e c : Nat) (h : s.ready e) (hc : c ∈ xCopies e) : ∃ b, s.eng c = (s.eng (xReq e)).posting b :=
  State.inPage_copy s e c (State.ready_inPage s e h) hc

/-- A ready engine executes an instruction whose plan changes the engine alone. -/
theorem State.issue_retires (s : State) (e : Nat) (i : Instr) (p : State → Nat → XPlan) (l : List XAct) (g : Engine → Engine) (h : s.ready e)
    (ha : s.begin.plansAlike e p) (hp : p s.begin (xReq e) = .pure l) (hl : l.all XAct.engineOnly = true)
    (hf : ∀ b, l.foldl (fun x a => a.onEngine s.tb x) ((s.eng (xReq e)).posting b).ahead = g ((s.eng (xReq e)).posting b)) :
    s.engineOnly (s.begin.issue e i p) e g := by
  refine State.issue_engineOnly s.begin e i p _ g h ha hp rfl hl ?_
  intro c hc
  obtain ⟨b, hb⟩ : ∃ b, s.begin.eng c = (s.eng (xReq e)).posting b := State.ready_copy s e c h hc
  rw [hb]; exact hf b


/-! Stalls and traps -/

/-- A change of every copy of an engine. -/
theorem State.eachCopy (s : State) (e : Nat) (g : State → Nat → State) (k : Engine → Engine)
    (hg : ∀ s' c, c ∈ xCopies e → (∀ d, d = c → s'.eng d = s.eng d) → s'.withEngines [] = s.withEngines [] →
      (∀ j, (g s' c).eng j = if c = j then k (s.eng c) else s'.eng j) ∧ (g s' c).withEngines [] = s.withEngines []) :
    (∀ j, (s.forEach (xCopies e) g).eng j = if j ∈ xCopies e then k (s.eng j) else s.eng j) ∧
    (s.forEach (xCopies e) g).withEngines [] = s.withEngines [] := by
  rcases xCopies_cases e with ⟨h, h1, _⟩ | ⟨h, h1, _⟩ <;> rw [h1] at hg ⊢ <;> simp only [State.forEach, List.foldl_cons, List.foldl_nil]
  · have := hg s e (by simp) (fun _ _ => rfl) rfl
    refine ⟨fun j => ?_, this.2⟩
    rw [this.1]
    by_cases hc : e = j
    · subst hc; simp
    · simp [hc, Ne.symm hc]
  · have h14 := hg s 14 (by simp) (fun _ _ => rfl) rfl
    have h15 := hg (g s 14) 15 (by simp) (fun d hd => by rw [h14.1, hd]; simp) h14.2
    refine ⟨fun j => ?_, h15.2⟩
    rw [h15.1, h14.1]
    by_cases hc : j = 15
    · subst hc; simp
    · by_cases hd : j = 14
      · subst hd; simp
      · simp [hc, hd, Ne.symm hc, Ne.symm hd]

/-- An engine that stalls in an instruction. -/
def Engine.stalled (i : Instr) (tb mark : Nat) (x : Engine) : Engine :=
  if x.stall.isSome then x else { x with stall := some i, stallAt := tb, fenceMark := mark }

/-- A stall changes the copies of the engine alone. -/
theorem State.xStallAll_effect (s : State) (e : Nat) (i : Instr) :
    (∀ j, (s.xStallAll e i).eng j = if j ∈ xCopies e then Engine.wdogSync s.tb ((s.eng j).stalled i s.tb s.issueSeq) else s.eng j) ∧
    (s.xStallAll e i).withEngines [] = s.withEngines [] := by
  refine State.eachCopy s e _ (fun x => Engine.wdogSync s.tb (x.stalled i s.tb s.issueSeq)) ?_
  intro s' c _ he hw
  have ht : (s'.withEngines []).tb = (s.withEngines []).tb := by rw [hw]
  have ht : s'.tb = s.tb := ht
  have hq : (s'.withEngines []).issueSeq = (s.withEngines []).issueSeq := by rw [hw]
  have hq : s'.issueSeq = s.issueSeq := hq
  refine ⟨fun j => ?_, hw⟩
  rw [State.xStall, State.modEng_eng, he c rfl, ht, hq]
  rfl

/-- A trap outside a trap, of a cause that raises no fault, changes the copies of the engine alone. -/
theorem State.xTrapAll_effect (s : State) (e cause : Nat) (tval : Word) (hn : ∀ c ∈ xCopies e, (s.eng c).inTrap = false)
    (h4 : cause ≠ 4) (h5 : cause ≠ 5) :
    (∀ j, (s.xTrapAll e cause tval).eng j =
      if j ∈ xCopies e then Engine.wdogSync s.tb ((s.eng j).trapEntered s.tb cause tval) else s.eng j) ∧
    (s.xTrapAll e cause tval).withEngines [] = s.withEngines [] := by
  refine State.eachCopy s e _ (fun x => Engine.wdogSync s.tb (x.trapEntered s.tb cause tval)) ?_
  intro s' c hc he hw
  have ht : (s'.withEngines []).tb = (s.withEngines []).tb := by rw [hw]
  have ht : s'.tb = s.tb := ht
  simp only [State.xTrap, he c rfl, hn c hc, Bool.false_eq_true, if_false, h4, h5, decide_false, Bool.false_and, State.when_false, ht]
  exact ⟨fun j => State.setEng_eng _ _ _ _, hw⟩

theorem State.withEngines_of (s t : State) (h : t.withEngines [] = s.withEngines []) : t.withEngines s.engines = s := by
  have : (t.withEngines []).withEngines s.engines = (s.withEngines []).withEngines s.engines := by rw [h]
  exact this

end Sys2Proof.Machine
end

