-- ==== Sys2Proof/Laws/XaoneWord.lean ====
section
/-!
SUPPORT. Laws/XaoneWord.lean: decoding the word of an engine's instruction gives the instruction back (05_xaone_isa.md R162, R163).
-/

namespace Sys2Proof.Machine

/-- The number of a format A word. -/
theorem encA_toNat (op : Nat) (rd rs1 rs2 : Fin 32) (sh : BitVec 5) (h : op < 64) :
    (encA op rd rs1 rs2 sh).toNat = rd.val * 2 ^ 21 + rs1.val * 2 ^ 16 + rs2.val * 2 ^ 11 + op * 32 + sh.toNat := by
  have := sh.isLt
  simp only [encA, BitVec.toNat_ofNat]
  omega

/-- The number of a format I or B word. -/
theorem encI_toNat (op : Nat) (rd rs1 : Fin 32) (imm : BitVec 16) (h : op < 64) :
    (encI op rd rs1 imm).toNat = op * 2 ^ 26 + rd.val * 2 ^ 21 + rs1.val * 2 ^ 16 + imm.toNat := by
  have := imm.isLt
  simp only [encI, BitVec.toNat_ofNat]
  omega

/-- The number of a format J word. -/
theorem encJ_toNat (op : Nat) (off : BitVec 26) (h : op < 64) : (encJ op off).toNat = op * 2 ^ 26 + off.toNat := by
  have := off.isLt
  simp only [encJ, BitVec.toNat_ofNat]
  omega

/-- The number of a format S word with one operand field. -/
theorem encS_toNat (sub : Nat) (z : BitVec 20) (h : sub < 64) : (encS sub z).toNat = 0x3F * 2 ^ 26 + sub * 2 ^ 20 + z.toNat := by
  have := z.isLt
  simp only [encS, BitVec.toNat_ofNat]
  omega

/-- The number of a format S word with layout S-R. -/
theorem encR_toNat (sub : Nat) (rd rs1 rs2 aux : Fin 32) (h : sub < 64) :
    (encR sub rd rs1 rs2 aux).toNat =
      0x3F * 2 ^ 26 + sub * 2 ^ 20 + rd.val * 2 ^ 15 + rs1.val * 2 ^ 10 + rs2.val * 32 + aux.val := by
  simp only [encR, BitVec.toNat_ofNat]
  omega

/-- A register field is read back from its place. -/
theorem regField_eq (w : Word) (lo : Nat) (r : Fin 32) (h : w.toNat / 2 ^ lo % 32 = r.val) : regField w lo = r := Fin.ext h

/-- A field of low bits is read back. -/
theorem lowField_eq (n : Nat) (w : Word) (v : BitVec n) (h : w.toNat % 2 ^ n = v.toNat) : w.extractLsb' 0 n = v := by
  apply BitVec.eq_of_toNat_eq
  simp [BitVec.extractLsb'_toNat, h]

/-- Format A. -/
theorem decode_encA (e : Fin 16) (op : Nat) (rd rs1 rs2 : Fin 32) (sh : BitVec 5) (h : op < 64) :
    decodeXaone e (encA op rd rs1 rs2 sh) = decA e op rd rs1 rs2 sh := by
  have hw := encA_toNat op rd rs1 rs2 sh h
  have := sh.isLt
  simp only [decodeXaone]
  rw [regField_eq _ 21 rd (by omega), regField_eq _ 16 rs1 (by omega), regField_eq _ 11 rs2 (by omega),
    lowField_eq 5 _ sh (by omega), if_pos (by omega)]
  congr 1
  simp only [bits]
  omega

/-- Formats I and B. -/
theorem decode_encI (e : Fin 16) (op : Nat) (rd rs1 : Fin 32) (imm : BitVec 16) (h : op < 64) (h0 : op ≠ 0) (h1 : op ≠ 0x28)
    (h2 : op ≠ 0x2A) (h3 : op ≠ 0x3F) : decodeXaone e (encI op rd rs1 imm) = decI e op rd rs1 imm := by
  have hw := encI_toNat op rd rs1 imm h
  have := imm.isLt
  have hop : (encI op rd rs1 imm).toNat / 2 ^ 26 = op := by omega
  simp only [decodeXaone, hop, if_neg h0, if_neg h1, if_neg h2, if_neg h3]
  rw [regField_eq _ 21 rd (by omega), regField_eq _ 16 rs1 (by omega), lowField_eq 16 _ imm (by omega)]

/-- J. -/
theorem decode_j (e : Fin 16) (off : BitVec 26) : decodeXaone e (encJ 0x28 off) = some (.j e off) := by
  have hw := encJ_toNat 0x28 off (by decide)
  have := off.isLt
  have hop : (encJ 0x28 off).toNat / 2 ^ 26 = 0x28 := by omega
  simp only [decodeXaone, hop]
  rw [lowField_eq 26 _ off (by omega)]
  rfl

/-- CALL. -/
theorem decode_call (e : Fin 16) (off : BitVec 26) : decodeXaone e (encJ 0x2A off) = some (.call e off) := by
  have hw := encJ_toNat 0x2A off (by decide)
  have := off.isLt
  have hop : (encJ 0x2A off).toNat / 2 ^ 26 = 0x2A := by omega
  simp only [decodeXaone, hop]
  rw [lowField_eq 26 _ off (by omega)]
  rfl

/-- Format S with one operand field: the instruction does not read the layout S-R. -/
theorem decode_encS (e : Fin 16) (sub : Nat) (z : BitVec 20) (h : sub < 64) :
    ∃ rd rs1 rs2 aux, decodeXaone e (encS sub z) = decS e sub (encS sub z) z rd rs1 rs2 aux := by
  have hw := encS_toNat sub z h
  have := z.isLt
  have hop : (encS sub z).toNat / 2 ^ 26 = 0x3F := by omega
  have hs : bits (encS sub z).toNat 25 20 = sub := by simp only [bits]; omega
  refine ⟨regField (encS sub z) 15, regField (encS sub z) 10, regField (encS sub z) 5, regField (encS sub z) 0, ?_⟩
  simp only [decodeXaone, hop, hs]
  rw [lowField_eq 20 _ z (by omega)]
  rfl

/-- Format S with layout S-R: the instruction does not read the one operand field. -/
theorem decode_encR (e : Fin 16) (sub : Nat) (rd rs1 rs2 aux : Fin 32) (h : sub < 64) :
    ∃ z, decodeXaone e (encR sub rd rs1 rs2 aux) = decS e sub (encR sub rd rs1 rs2 aux) z rd rs1 rs2 aux := by
  have hw := encR_toNat sub rd rs1 rs2 aux h
  have hop : (encR sub rd rs1 rs2 aux).toNat / 2 ^ 26 = 0x3F := by omega
  have hs : bits (encR sub rd rs1 rs2 aux).toNat 25 20 = sub := by simp only [bits]; omega
  refine ⟨(encR sub rd rs1 rs2 aux).extractLsb' 0 20, ?_⟩
  simp only [decodeXaone, hop, hs]
  rw [regField_eq _ 15 rd (by omega), regField_eq _ 10 rs1 (by omega), regField_eq _ 5 rs2 (by omega),
    regField_eq _ 0 aux (by omega)]
  rfl

/-- Decoding the word of an instruction gives the instruction back, for each of the engines' instructions; a word kept as SNOP's operand
comes back as it is where it is SNOP's. -/
theorem decode_xaoneWord (e : Fin 16) (rd rs1 rs2 aux : Fin 32) (sh : BitVec 5) (imm : BitVec 16) (off : BitVec 26) (z : BitVec 20) :
    ∀ i ∈ ([
      .add e rd rs1 rs2 sh, .sub e rd rs1 rs2 sh, .and e rd rs1 rs2 sh, .or e rd rs1 rs2 sh, .xor e rd rs1 rs2 sh, .sll e rd rs1 rs2 sh,
      .srl e rd rs1 rs2 sh, .sra e rd rs1 rs2 sh, .slt e rd rs1 rs2 sh, .sltu e rd rs1 rs2 sh, .mul e rd rs1 rs2 sh,
      .mulh e rd rs1 rs2 sh, .mulhu e rd rs1 rs2 sh, .mulq e rd rs1 rs2 sh, .addi e rd rs1 imm, .andi e rd rs1 imm, .ori e rd rs1 imm,
      .xori e rd rs1 imm, .slti e rd rs1 imm, .sltiu e rd rs1 imm, .slli e rd rs1 imm, .srli e rd rs1 imm, .srai e rd rs1 imm,
      .lui e rd rs1 imm, .lw e rd rs1 imm, .lh e rd rs1 imm, .lhu e rd rs1 imm, .lb e rd rs1 imm, .lbu e rd rs1 imm, .sw e rd rs1 imm,
      .sh e rd rs1 imm, .sb e rd rs1 imm, .callr e rd rs1 imm, .csrr e rd rs1 imm, .csrw e rd rs1 imm, .csrm e rd rs1 imm,
      .beq e rd rs1 imm, .bne e rd rs1 imm, .blt e rd rs1 imm, .bge e rd rs1 imm, .bltu e rd rs1 imm, .bgeu e rd rs1 imm, .j e off,
      .call e off, .halt e z, .trap e z, .rett e z, .wait e z, .fenceE e z, .fenceD e z, .fenceH e z, .fenceL e z,
      .lissue e rd rs1 rs2 aux, .nzld e rd rs1 rs2 aux, .nzst e rd rs1 rs2 aux, .nzcas e rd rs1 rs2 aux, .lgput e rd rs1 rs2 aux,
      .cswap e rd rs1 rs2 aux, .emit e rd rs1 rs2 aux, .recv e rd rs1 rs2 aux] : List Instr), decodeXaone e (xaoneWord i) = some i := by
  intro i hi
  simp only [List.mem_cons, List.not_mem_nil, or_false] at hi
  rcases hi with rfl | rfl | rfl | rfl | rfl | rfl | rfl | rfl | rfl | rfl | rfl | rfl | rfl | rfl | rfl | rfl | rfl | rfl | rfl | rfl | rfl | rfl | rfl | rfl | rfl | rfl | rfl | rfl | rfl | rfl | rfl | rfl | rfl | rfl | rfl | rfl | rfl | rfl | rfl | rfl | rfl | rfl | rfl | rfl | rfl | rfl | rfl | rfl | rfl | rfl | rfl | rfl | rfl | rfl | rfl | rfl | rfl | rfl | rfl | rfl
  · exact decode_encA e 0x00 rd rs1 rs2 sh (by decide)
  · exact decode_encA e 0x01 rd rs1 rs2 sh (by decide)
  · exact decode_encA e 0x02 rd rs1 rs2 sh (by decide)
  · exact decode_encA e 0x03 rd rs1 rs2 sh (by decide)
  · exact decode_encA e 0x04 rd rs1 rs2 sh (by decide)
  · exact decode_encA e 0x05 rd rs1 rs2 sh (by decide)
  · exact decode_encA e 0x06 rd rs1 rs2 sh (by decide)
  · exact decode_encA e 0x07 rd rs1 rs2 sh (by decide)
  · exact decode_encA e 0x08 rd rs1 rs2 sh (by decide)
  · exact decode_encA e 0x09 rd rs1 rs2 sh (by decide)
  · exact decode_encA e 0x10 rd rs1 rs2 sh (by decide)
  · exact decode_encA e 0x11 rd rs1 rs2 sh (by decide)
  · exact decode_encA e 0x12 rd rs1 rs2 sh (by decide)
  · exact decode_encA e 0x13 rd rs1 rs2 sh (by decide)
  · exact decode_encI e 0x01 rd rs1 imm (by decide) (by decide) (by decide) (by decide) (by decide)
  · exact decode_encI e 0x02 rd rs1 imm (by decide) (by decide) (by decide) (by decide) (by decide)
  · exact decode_encI e 0x03 rd rs1 imm (by decide) (by decide) (by decide) (by decide) (by decide)
  · exact decode_encI e 0x04 rd rs1 imm (by decide) (by decide) (by decide) (by decide) (by decide)
  · exact decode_encI e 0x05 rd rs1 imm (by decide) (by decide) (by decide) (by decide) (by decide)
  · exact decode_encI e 0x06 rd rs1 imm (by decide) (by decide) (by decide) (by decide) (by decide)
  · exact decode_encI e 0x07 rd rs1 imm (by decide) (by decide) (by decide) (by decide) (by decide)
  · exact decode_encI e 0x08 rd rs1 imm (by decide) (by decide) (by decide) (by decide) (by decide)
  · exact decode_encI e 0x09 rd rs1 imm (by decide) (by decide) (by decide) (by decide) (by decide)
  · exact decode_encI e 0x0A rd rs1 imm (by decide) (by decide) (by decide) (by decide) (by decide)
  · exact decode_encI e 0x10 rd rs1 imm (by decide) (by decide) (by decide) (by decide) (by decide)
  · exact decode_encI e 0x11 rd rs1 imm (by decide) (by decide) (by decide) (by decide) (by decide)
  · exact decode_encI e 0x12 rd rs1 imm (by decide) (by decide) (by decide) (by decide) (by decide)
  · exact decode_encI e 0x13 rd rs1 imm (by decide) (by decide) (by decide) (by decide) (by decide)
  · exact decode_encI e 0x14 rd rs1 imm (by decide) (by decide) (by decide) (by decide) (by decide)
  · exact decode_encI e 0x18 rd rs1 imm (by decide) (by decide) (by decide) (by decide) (by decide)
  · exact decode_encI e 0x19 rd rs1 imm (by decide) (by decide) (by decide) (by decide) (by decide)
  · exact decode_encI e 0x1A rd rs1 imm (by decide) (by decide) (by decide) (by decide) (by decide)
  · exact decode_encI e 0x29 rd rs1 imm (by decide) (by decide) (by decide) (by decide) (by decide)
  · exact decode_encI e 0x30 rd rs1 imm (by decide) (by decide) (by decide) (by decide) (by decide)
  · exact decode_encI e 0x31 rd rs1 imm (by decide) (by decide) (by decide) (by decide) (by decide)
  · exact decode_encI e 0x32 rd rs1 imm (by decide) (by decide) (by decide) (by decide) (by decide)
  · exact decode_encI e 0x20 rd rs1 imm (by decide) (by decide) (by decide) (by decide) (by decide)
  · exact decode_encI e 0x21 rd rs1 imm (by decide) (by decide) (by decide) (by decide) (by decide)
  · exact decode_encI e 0x22 rd rs1 imm (by decide) (by decide) (by decide) (by decide) (by decide)
  · exact decode_encI e 0x23 rd rs1 imm (by decide) (by decide) (by decide) (by decide) (by decide)
  · exact decode_encI e 0x24 rd rs1 imm (by decide) (by decide) (by decide) (by decide) (by decide)
  · exact decode_encI e 0x25 rd rs1 imm (by decide) (by decide) (by decide) (by decide) (by decide)
  · exact decode_j e off
  · exact decode_call e off
  · exact (decode_encS e 0x01 z (by decide)).elim fun _ ⟨_, _, _, h⟩ => h
  · exact (decode_encS e 0x02 z (by decide)).elim fun _ ⟨_, _, _, h⟩ => h
  · exact (decode_encS e 0x03 z (by decide)).elim fun _ ⟨_, _, _, h⟩ => h
  · exact (decode_encS e 0x04 z (by decide)).elim fun _ ⟨_, _, _, h⟩ => h
  · exact (decode_encS e 0x08 z (by decide)).elim fun _ ⟨_, _, _, h⟩ => h
  · exact (decode_encS e 0x09 z (by decide)).elim fun _ ⟨_, _, _, h⟩ => h
  · exact (decode_encS e 0x0A z (by decide)).elim fun _ ⟨_, _, _, h⟩ => h
  · exact (decode_encS e 0x0B z (by decide)).elim fun _ ⟨_, _, _, h⟩ => h
  · exact (decode_encR e 0x10 rd rs1 rs2 aux (by decide)).elim fun _ h => h
  · exact (decode_encR e 0x11 rd rs1 rs2 aux (by decide)).elim fun _ h => h
  · exact (decode_encR e 0x12 rd rs1 rs2 aux (by decide)).elim fun _ h => h
  · exact (decode_encR e 0x13 rd rs1 rs2 aux (by decide)).elim fun _ h => h
  · exact (decode_encR e 0x14 rd rs1 rs2 aux (by decide)).elim fun _ h => h
  · exact (decode_encR e 0x15 rd rs1 rs2 aux (by decide)).elim fun _ h => h
  · exact (decode_encR e 0x16 rd rs1 rs2 aux (by decide)).elim fun _ h => h
  · exact (decode_encR e 0x17 rd rs1 rs2 aux (by decide)).elim fun _ h => h

end Sys2Proof.Machine
end

