-- ==== Sys2Proof/WellFormed.lean ====
section
/-!
DEFINITION. WellFormed.lean: the operands a command can bear where their types allow more: places in the maps, lengths a request or an image can
have, and the samples a measurement brings.
-/

namespace Sys2Proof

/-- A BAR0 offset: the map of Table 4.1 is 16 MiB. -/
def barOk (a : Nat) : Bool := a < 0x1000000

/-- The bytes one request carries: PCI Express allows 1 to 4,096 (R234). -/
def requestLen (n : Nat) : Bool := 0 < n && n ≤ 4096

/-- A configuration dword of the 4 KiB configuration space (Table 7.2). -/
def configOk (off : Nat) : Bool := off < 4096 && off % 4 = 0

/-- An image read from QSPI NOR: 128 KiB at most (R87). -/
def imageOk (im : List Byte) : Bool := im.length ≤ 131072

/-- The stop cycles of a freeze: one for each of the 17 islands of Table 1.4 and at most 64 (R720). -/
def stopsOk (l : List (BitVec 7)) : Bool := l.length = 17 && l.all fun x => x.toNat ≤ 64

/-- A DDR address: two channels of at most 16 GiB, in 32-bit beats (R290, R292). -/
def ddrOk (a : Nat) : Bool := a < 0x800000000 && a % 4 = 0

/-- Windows of gate samples: none is empty. -/
def windowsOk (l : List (List (BitVec 12))) : Bool := l.all fun w => w ≠ []

/-- A command as something can send it or as it can befall. -/
def Instr.wellFormed (i : Instr) : Bool :=
  match i with
  | .qspiReadDone im => imageOk im
  | .configRequest _ off _ => configOk off
  | .registerWrite _ a _ _ => barOk a && a % 4 = 0
  | .loStageWrite _ a _ => barOk a && a % 8 = 0
  | .sqWriteBack _ a _ => barOk a && a % 4 = 0
  | .shadowArm _ a _ => barOk a && a % 4 = 0
  | .badRegisterRead _ a n => barOk a && requestLen n
  | .memoryWindowWrite _ a bs => barOk a && requestLen bs.length
  | .nozzleTableWrite _ a bs => barOk a && requestLen bs.length
  | .bar2Read _ n _ => requestLen n
  | .bar2Write _ bs => requestLen bs.length
  | .scrubStep a _ => ddrOk a
  | .detectAttempt _ l => l.length = 256
  | .dbgacc _ a _ => barOk a && a % 4 = 0
  | .freezePin l => stopsOk l
  | .localGateWindow _ _ l => windowsOk l
  | _ => true

end Sys2Proof
end

