-- ==== Sys2Proof/Tests/Slice0.lean ====
section
/-!
SUPPORT. Slice0.lean: tests of the model, each of one step on a small state, with expected results worked out from the spec, and witnesses that the
hypotheses of the statements are met together. A test of a command is also the witness of its statement: it runs the command on a state that meets
the clause's hypotheses, at a boundary value where the clause has one, and holds what the clause concludes.
-/

set_option maxRecDepth 10000
set_option Elab.async false

open Sys2Proof Sys2Proof.Machine Sys2Proof.Machine.Reg Sys2Proof.Machine.Fld

namespace Sys2Proof.Tests

/-! Helpers -/

/-- The state after a command. -/
def after (c : Instr) (s : State) : State :=
  match exec c s with
  | .next t => t
  | _ => s

/-- The state after a step. -/
def stepped (s : State) : State :=
  match step s with
  | .next t => t
  | _ => s

/-- A state in which firmware runs. -/
def fw : State := ({} : State).setF SYS_BOOT_STAT_STAGE 3

/-- A state in which firmware runs, with fields of its registers set. -/
def put (l : List (Field × Nat)) (s : State := fw) : State := l.foldl (fun s x => s.setF x.1 x.2) s

/-- An unlock of block b for the host. -/
def ul (b : Nat) (s : State := {}) : State := { s with unlocks := [(16, b, s.tb)] }

/-- Registers but those listed, and memory, are kept. -/
def keeps (s t : State) (l : List Nat) : Bool :=
  t.mem = s.mem && t.regs.filter (fun x => !l.contains x.1) = s.regs.filter (fun x => !l.contains x.1)

/-- Engine e running with its pages locked as signed; both copies of the pair alike. -/
def on (e : Nat) (x : Engine) (s : State := {}) : State :=
  (xCopies e).foldl (fun s c => s.setEng c { x with running := true }) (s.setF (ENG_SIGPAGES_LOCKED (xReq e)) 0xFFFF)

/-- `State.engineOnly` on the sixteen engines. -/
def only (s t : State) (e : Nat) (g : Engine → Engine) : Bool :=
  ((List.range 16).all fun c => t.eng c = if c ∈ xCopies e then Engine.wdogSync s.tb (g (s.eng c)) else s.eng c) &&
  t.withEngines s.engines = s.begin

/-- `State.retired`. -/
def retires (s : State) (i : Instr) (e : Nat) (g : Engine → Engine) : Bool := only s (after i s) e fun x => g x.ahead

/-- `State.stallsIn`. -/
def stalls (s : State) (i : Instr) (e : Nat) : Bool :=
  only s (after i s) e fun x => { x with stall := some i, stallAt := s.tb, fenceMark := s.issueSeq }

theorem reset_pair_memory (i : Nat) (h : i < 0x20000) : memDefault (dmemBase 15 + i) = memDefault (dmemBase 14 + i) := by
  unfold memDefault dmemBase barBase
  rw [if_neg (by omega), if_neg (by omega)]

/-! Engines -/

/-- g1 = -6, g2 = 7, g3 in DMEM. -/
def x0 : Engine := { gpr := [(1, 0xFFFFFFFA#32), (2, 7#32), (3, 0x10000008#32)], pc := 0x100#16, tvec := 0x40#32 }

theorem witness_ready : (on 3 x0).ready 3 := ⟨by unfold State.canIssue; decide +kernel, fun h => absurd h (by decide)⟩

theorem witness_ready_pair : (on 15 x0).ready 15 := by
  refine ⟨by unfold State.canIssue; decide +kernel, fun _ => ⟨⟨[], by decide +kernel⟩, fun i h => ?_⟩⟩
  exact reset_pair_memory i h

theorem test_register_operations :
    let s := on 3 x0
    (∀ p ∈ ([(Instr.add, 1#32), (Instr.sub, 0xFFFFFFF3#32), (Instr.and, 2#32), (Instr.or, 0xFFFFFFFF#32), (Instr.xor, 0xFFFFFFFD#32),
      (Instr.sll, 0xFFFFFD00#32), (Instr.srl, 0x1FFFFFF#32), (Instr.sra, 0xFFFFFFFF#32), (Instr.slt, 1#32), (Instr.sltu, 0#32),
      (Instr.mul, 0xFFFFFFD6#32), (Instr.mulh, 0xFFFFFFFF#32), (Instr.mulhu, 6#32)] :
      List ((Fin 16 → Fin 32 → Fin 32 → Fin 32 → BitVec 5 → Instr) × Word)), retires s (p.1 3 4 1 2 0) 3 (·.setG 4 p.2) = true) ∧
    retires s (.add 3 0 1 2 0) 3 id = true := by decide +kernel

theorem test_mulq :
    retires (on 3 x0) (.mulq 3 4 1 2 2) 3 (·.setG 4 0xFFFFFFF6#32) = true ∧
    retires (on 3 { x0 with gpr := [(1, 0x7FFFFFFF#32)] }) (.mulq 3 4 1 1 0) 3 (·.setG 4 0x7FFFFFFF#32) = true ∧
    retires (on 14 x0) (.mulq 14 4 1 2 31) 14 (·.setG 4 0#32) = true := by decide +kernel

theorem test_immediate_operations :
    let s := on 3 x0
    (∀ p ∈ ([(Instr.addi, 0xFFF9#16, 0xFFFFFFF3#32), (Instr.andi, 0xFFF8#16, 0xFFF8#32), (Instr.ori, 5#16, 0xFFFFFFFF#32),
      (Instr.xori, 0xFFFF#16, 0xFFFF0005#32), (Instr.slti, 0xFFFB#16, 1#32), (Instr.sltiu, 0xFFFB#16, 1#32), (Instr.slli, 31#16, 0#32),
      (Instr.srli, 31#16, 1#32), (Instr.srai, 31#16, 0xFFFFFFFF#32)] :
      List ((Fin 16 → Fin 32 → Fin 32 → BitVec 16 → Instr) × BitVec 16 × Word)), retires s (p.1 3 4 1 p.2.1) 3 (·.setG 4 p.2.2) = true) ∧
    retires s (.lui 3 4 0 0x1234#16) 3 (·.setG 4 0x12340000#32) = true := by decide +kernel

/-- Bytes 0x81 to 0x84 at offset 8 of DMEM. -/
def sMem (e : Nat) : State := (xCopies e).foldl (fun s c => s.writeMem (dmemBase c + 8) [0x81, 0x82, 0x83, 0x84]) (on e x0)

theorem test_loads :
    (∀ p ∈ ([(Instr.lw, 0x84838281#32), (Instr.lh, 0xFFFF8281#32), (Instr.lhu, 0x8281#32), (Instr.lb, 0xFFFFFF81#32),
      (Instr.lbu, 0x81#32)] : List ((Fin 16 → Fin 32 → Fin 32 → BitVec 16 → Instr) × Word)),
      retires (sMem 3) (p.1 3 4 3 0) 3 (·.setG 4 p.2) = true) ∧
    retires (sMem 14) (.lb 14 4 3 3) 14 (·.setG 4 0xFFFFFF84#32) = true := by decide +kernel

theorem test_stores :
    let s := on 3 x0
    (∀ p ∈ ([(Instr.sw, 4), (Instr.sh, 2), (Instr.sb, 1)] : List ((Fin 16 → Fin 32 → Fin 32 → BitVec 16 → Instr) × Nat)),
      let t := after (p.1 3 1 3 4) s
      only s { t with mem := s.mem } 3 Engine.ahead = true ∧ t.readMem (dmemBase 3 + 12) 5 = [0xFA, 0xFF, 0xFF, 0xFF].take p.2 ++ zeros (5 - p.2)) ∧
    (after (.sb 14 1 3 4) (on 14 x0)).byte (dmemBase 15 + 12) = 0xFA := by decide +kernel

theorem test_device_stores :
    let s := on 3 { x0 with gpr := [(1, 0x00030010#32), (2, 0x80000040#32)], apBase := 0x4000000 }
    let full := on 3 { x0 with gpr := [(1, 0x00030010#32)], storeBuf := List.replicate 16 ⟨0, [], false⟩ }
    ((after (.sw 3 1 1 0) s).eng 3).storeBuf = [⟨0x30010, [0x10, 0, 3, 0], false⟩] ∧
    ((after (.sh 3 1 2 0) s).eng 3).storeBuf = [⟨0x104000040, [0x10, 0], false⟩] ∧
    stalls full (.sb 3 1 1 0) 3 = true := by decide +kernel

theorem test_branches :
    let s := on 3 x0
    let goto (n : BitVec 16) (x : Engine) : Engine := { x with pc := n }
    retires s (.beq 3 1 1 0xFFFF) 3 (goto 0xFC) = true ∧ retires s (.bne 3 1 2 1) 3 (goto 0x104) = true ∧
    retires s (.blt 3 1 2 2) 3 (goto 0x108) = true ∧ retires s (.bge 3 1 2 2) 3 id = true ∧ retires s (.bltu 3 1 2 2) 3 id = true ∧
    retires s (.bgeu 3 1 2 0x4000) 3 (goto 0x100) = true ∧ retires s (.j 3 0x3FFFFFF) 3 (goto 0xFC) = true ∧
    retires s (.call 3 4) 3 (fun x => { x.setG 31 0x104 with pc := 0x110 }) = true ∧
    retires s (.callr 3 5 3 4) 3 (fun x => { x.setG 5 0x104 with pc := 0xC }) = true := by decide +kernel

theorem test_csr :
    let s := on 3 { x0 with gpr := [(1, 0x00FF0012#32), (2, 0xC#32)] }
    s.csr? 3 0x015 = some 0 ∧ s.csr? 3 0 = some 3 ∧
    retires s (.csrr 3 4 0 0) 3 (·.setG 4 3) = true ∧
    retires s (.csrw 3 0 2 0x011) 3 (fun x => { x with tvec := 0xC }) = true ∧
    retires s (.csrm 3 4 1 0x1015) 3 (fun x => { x with tscratch := 0x120000 }) = true ∧
    retires s (.csrm 3 4 2 0x015) 3 id = true := by decide +kernel

theorem test_csr_numbers :
    let x : Engine := { x0 with timerStage := 9, wdogLoad := 2, pendingEv := 7, timerDone := true }
    (on 15 x0).csr? 15 0 = some 62 ∧ (on 3 x0).csr? 3 0x051 = none ∧ (on 3 x).csr? 3 0x040 = some 6 ∧
    x.csrWrite 5 0x010 7 = { x with status := 2 } ∧ x.csrWrite 5 0x011 7 = { x with tvec := 4 } ∧
    x.csrWrite 5 0x021 0 = { x with wdog := 2048, wdogFrom := 5 } ∧ x.csrWrite 5 0x048 3 = { x with pendingEv := 4 } ∧
    x.csrWrite 5 0x031 8 = { x with timer := 0x800000009, timerStage := 0, timerDone := false } ∧ x.csrWrite 5 0x013 8 = x ∧
    (let s := on 3 x0; only s (after (.csrr 3 4 0 0x051) s) 3 (Engine.trapEntered 0 1 ((after (.csrr 3 4 0 0x051) s).eng 3).tval)) = true := by
  decide +kernel

theorem test_system_instructions :
    let s := on 3 { x0 with tpc := 0x203#32, status := 3#32 }
    retires s (.snop 3 0) 3 id = true ∧ retires s (.fenceE 3 0) 3 id = true ∧
    retires s (.rett 3 0) 3 (fun x => { x with pc := 0x200, status := 2 }) = true ∧
    (((after (.halt 3 0) s).eng 3).halted = true ∧ ((after (.halt 3 0) s).eng 3).haltCause = 1) := by decide +kernel

theorem test_traps :
    let s := on 3 x0
    let enters (i : Instr) (cause : Nat) (tval : Word) : Bool := only s (after i s) 3 (Engine.trapEntered s.tb cause tval)
    enters (.trap 3 0xFFFF) 6 0xFFFF = true ∧ enters (.lw 3 4 2 0) 2 7 = true ∧ enters (.sh 3 4 2 0) 2 7 = true ∧
    enters (.callr 3 4 2 0) 2 7 = true ∧ enters (.add 3 1 2 3 4) 1 0x00221804#32 = true ∧ enters (.nzld 3 4 3 0 0) 3 0x10000008 = true := by
  decide +kernel

theorem test_double_trap :
    let t := (on 14 { x0 with status := 1 }).xTrapAll 14 6 0
    (t.eng 15).halted = true ∧ (t.eng 14).haltCause = 3 ∧ t.b (FLT_SRC_LATCHED 2) = true ∧ t.rn (FLT_INFO 2) = 14 := by decide +kernel

theorem test_unsigned_page :
    let t := after (.snop 3 0) ((on 3 x0).setF (ENG_SIGPAGES_LOCKED 3) 0xFFFE)
    (t.eng 3).tcause = 4 ∧ (t.eng 3).pc = 0x40 ∧ (t.eng 3).tval = 0x100 ∧ t.b (FLT_SRC_LATCHED 4) = true := by decide +kernel

theorem test_unsigned_page_any :
    (∀ i ∈ [Instr.add 3 1 2 3 0, .lw 3 1 2 0, .recv 3 2 0 0 5, .wait 3 1, .snop 3 0xFFFFFFFF],
      engineOf i = some 3 ∧ ((after i ((on 3 x0).setF (ENG_SIGPAGES_LOCKED 3) 0xFFFE)).eng 3).tcause = 4) ∧
    engineOf (.waitWake 3) = none := by decide +kernel

theorem test_wait :
    let s := on 3 { x0 with pendingEv := 32 }
    retires s (.wait 3 5) 3 (fun x => { x with pendingEv := 0 }) = true ∧ stalls s (.wait 3 4) 3 = true ∧ stalls s (.wait 3 0) 3 = true ∧
    retires (on 3 { x0 with pendingEv := 32, stall := some (.wait 3 5) }) (.waitWake 3) 3 (fun x => { x with pendingEv := 0 }) = true := by
  decide +kernel

theorem witness_stalled : (on 3 { x0 with pendingEv := 32, stall := some (.wait 3 5) }).stalledIn 3 (.wait 3 5) := by
  unfold State.stalledIn
  exact ⟨by decide +kernel, by decide +kernel, by decide +kernel, by decide +kernel, by decide +kernel, fun h => absurd h (by decide)⟩

theorem test_watchdog :
    let s := on 14 { x0 with wdogOn := true, wdogLoad := 5 }
    let t := after (.watchdogExpire 14) s
    (s.eng 14).wdogLeft 0 = 0 ∧ (t.eng 15).tcause = 5 ∧ (t.eng 14).tpc = 0x100 ∧ (t.eng 14).wdogLeft 0 = 5120 ∧ t.b (FLT_SRC_LATCHED 3) = true := by
  decide +kernel

theorem test_timer :
    let s := on 3 { x0 with timer := 0 }
    ((after (.timerMatch 3) s).eng 3) = { s.eng 3 with pendingEv := 2, timerDone := true } := by decide +kernel

theorem test_fences :
    let s := on 3 x0
    retires s (.fenceD 3 0) 3 id = true ∧ stalls (on 3 { x0 with storeBuf := [⟨0, [], false⟩] }) (.fenceD 3 0) 3 = true ∧
    retires s (.fenceH 3 0) 3 id = true ∧
    stalls { (on 3 x0 (put [(PCIE_LINK_STAT_LINK_UP, 1)])) with waitingCpl := [(0, 0, 0)] } (.fenceH 3 0) 3 = true ∧
    retires s (.fenceL 3 0) 3 id = true ∧ stalls { s with issueQ := [(3, [⟨0, []⟩])], issueSeq := 1 } (.fenceL 3 0) 3 = true ∧
    (let u (line : Nat) : State := { s with
       issueSeq := 1, taken := [{ seq := 0, pipe := 3, dcd := 0, line := line, kind := 2, item := none, mask := 1, first := false, last := false }] }
     stalls (u 0) (.fenceL 3 0) 3 = true ∧ retires (u 0xFFFFFFFF) (.fenceL 3 0) 3 id = true) ∧
    retires (on 3 { x0 with stall := some (.fenceD 3 0) }) (.fenceRetire 3) 3 id = true := by decide +kernel

theorem test_emit :
    let s := on 3 x0
    let t := after (.emit 3 0 2 1 14) s
    (t.eng 14).mailbox = [0xFFFFFFFA00000007#64] ∧ (t.eng 15).mailbox = [0xFFFFFFFA00000007#64] ∧ (t.eng 3).pc = 0x104 ∧
    stalls (s.setEng 5 { mailbox := List.replicate 16 0 }) (.emit 3 0 2 1 5) 3 = true ∧ ((after (.emit 3 1 2 1 14) s).eng 3).tcause = 1 := by
  decide +kernel

theorem test_recv :
    let s := on 3 { x0 with mailbox := [0x100000002#64, 9#64] }
    retires s (.recv 3 4 0 0 6) 3 (fun x => { ((x.setG 4 2).setG 5 1).setG 6 1 with mailbox := [9#64] }) = true ∧
    retires (on 3 x0) (.recv 3 4 0 0 6) 3 (fun x => ((x.setG 4 0).setG 5 0).setG 6 0) = true := by decide +kernel

/-- Nozzle 6 with entry 0x10000000C, g4:g5 that entry, g6:g7 another. -/
def sNz (st : Option Instr) : State :=
  (on 3 { x0 with gpr := [(1, 6#32), (4, 0xC#32), (5, 1#32), (6, 1#32), (7, 2#32)], stall := st }).writeMem (nozzleAddr 6) (leBytes 8 0x10000000C)

theorem test_nozzle_operations :
    stalls (sNz none) (.nzld 3 8 1 0 0) 3 = true ∧ stalls (sNz none) (.nzcas 3 4 1 6 9) 3 = true ∧
    retires (sNz (some (.nzld 3 8 1 0 0))) (.loadReturn 3) 3 (fun x => (x.setG 8 0xC).setG 9 1) = true ∧
    (let t := after (.loadReturn 3) (sNz (some (.nzcas 3 4 1 6 9)))
     t.g 3 9 = 1 ∧ t.g 3 4 = 0xC ∧ t.nozzle 6 = 0x200000001) ∧
    (let t := after (.loadReturn 3) (sNz (some (.nzcas 3 6 1 4 9)))
     t.g 3 9 = 0 ∧ t.g 3 6 = 0xC ∧ t.nozzle 6 = 0x10000000C) ∧
    ((after (.nzst 3 0 1 6 0) (sNz none)).eng 3).storeBuf = [⟨6, [1, 0, 0, 0, 2, 0, 0, 0], true⟩] := by decide +kernel

theorem test_lissue :
    let s := on 3 { x0 with gpr := [(3, 0x10000020#32)] }
    let t := after (.lissue 3 0 3 0 0) s
    t.lineQueue 3 = [⟨0, zeros 32⟩] ∧ t.issueSeq = 1 ∧ (t.eng 3).pc = 0x104 ∧
    stalls { s with issueQ := [(3, List.replicate 64 ⟨0, []⟩)] } (.lissue 3 0 3 0 0) 3 = true ∧
    ((after (.lissue 9 0 3 0 0) (on 9 x0)).eng 9).tcause = 1 := by decide +kernel

theorem test_lgput :
    let s := { ((on 3 x0).writeMem (dmemBase 3 + 8) ([0, 2, 1] ++ zeros 125)) with ledger := { isOpen := true } }
    retires (on 3 x0) (.lgput 3 4 3 0 0) 3 (·.setG 4 1) = true ∧
    (after (.lgput 3 4 3 0 0) s).ledger.buffer.length = 1 ∧ (after (.lgput 3 4 3 0 0) s).geode.next = 2 ∧ (after (.lgput 3 4 3 0 0) s).g 3 4 = 0 := by
  decide +kernel

theorem test_cswap :
    let s := on 3 { x0 with gpr := [(1, 256#32)] }
    retires s (.cswap 3 4 1 0 0) 3 (·.setG 4 1) = true ∧
    (let t := after (.cswap 3 4 1 0 0) { s with cal := { s.cal with staged := [256] } }
     t.g 3 4 = 0 ∧ t.cal.armed.map (fun x => (x.set, x.engine)) = [(256, some 3)] ∧
         (after (.cswap 3 4 1 0 0) { t with engines := s.engines }).g 3 4 = 2) := by
  decide +kernel

/-- One MiB of DDR in use. -/
def ddr : State := put [(MEMC_CH_STAT_TRAIN_STATE 0, 2), (MEMC_CH_STAT_CAPACITY 0, 1)]

theorem test_load_return :
    let x := { x0 with gpr := [(1, 0x80000004#32)] }
    let s (o : Option Instr) : State := (on 3 { x with stall := o } ddr).writeMem 4 [1, 2, 3, 4]
    stalls (s none) (.lh 3 4 1 0) 3 = true ∧
    retires (s (some (.lh 3 4 1 2))) (.loadReturn 3) 3 (·.setG 4 0x403) = true ∧
    only { (s (some (.lw 3 4 1 0))) with tb := 4096 } (after (.loadTimeout 3) { (s (some (.lw 3 4 1 0))) with tb := 4096 }) 3
      (Engine.trapEntered 4096 3 0x80000004) = true := by decide +kernel

theorem test_loads_from_nowhere :
    let enters (e : Fin 16) (s : State) (i : Instr) (a : Word) : Bool := only s (after i s) e (Engine.trapEntered s.tb 3 a)
    let at_ (a : Word) : Engine := { x0 with gpr := [(1, a)] }
    enters 3 (on 3 (at_ 0x3FFFFC)) (.lw 3 4 1 0) 0x3FFFFC = true ∧ enters 3 (on 3 (at_ 0x430000)) (.lb 3 4 1 0) 0x430000 = true ∧
    enters 3 (on 3 (at_ 0x1000000)) (.lh 3 4 1 0) 0x1000000 = true ∧ enters 3 (on 3 (at_ 0x10020000)) (.lw 3 4 1 0) 0x10020000 = true ∧
    enters 3 (on 3 (at_ 0x80100000) ddr) (.lbu 3 4 1 0) 0x80100000 = true ∧
    enters 14 (on 14 (at_ 0x80000000) (ddr.setB SYS_PWR_CTRL_PARKED true)) (.lw 14 4 1 0) 0x80000000 = true := by decide +kernel

theorem test_stall_release :
    let p : Posted := ⟨0x100000010, [7, 8], false⟩
    let s := on 3 { x0 with gpr := [(1, 0x80000000#32)], stall := some (.sw 3 1 1 0), storeBuf := p :: List.replicate 15 ⟨0x100000020, [],
        false⟩ } ddr
    let t := after (.stallRelease 3) s
    (t.eng 3).stall = none ∧ (t.eng 3).storeBuf.length = 16 ∧ t.readMem 0x10 2 = [7, 8] ∧ (t.eng 3).pc = 0x104 ∧
    (let u := after (.stallRelease 3) (on 3 { x0 with stall := some (.emit 3 0 2 1 5) })
     (u.eng 5).mailbox = [0xFFFFFFFA00000007#64] ∧ (u.eng 3).stall = none) := by decide +kernel

theorem test_engine_commands :
    let s := ul 0x20 (put [(⟨SYS_ENG_STAT, 3, 3⟩, 1), (ENG_ENTRY_ENTRY 3, 5)])
    ((after (.engStart 16 3) s).eng 3).running = true ∧ ((after (.engStart 16 3) s).eng 3).pc = 20 ∧
    (let t := after (.engStart 16 3) (ul 0x20 {})
     (t.eng 3).running = false ∧ t.b (FLT_SRC_LATCHED 4) = true ∧ t.rn (FLT_INFO 4) = 3) ∧
    (after (.engStart 16 14) s).engines = s.engines ∧
    (let t := after (.engStop 16 3) (ul 0x20 (on 3 x0))
     (t.eng 3).halted = true ∧ (t.eng 3).haltCause = 2) ∧
    ((after (.engStop 16 3) (ul 0x20 (on 3 { x0 with stall := some (.lw 3 4 1 0) }))).eng 3).stopAsked = true ∧
    ((after (.engEvset 16 15 191) {}).eng 14).pendingEv = 1#256 <<< 191 := by decide +kernel

/-! Reset, supplies, boot -/

/-- A state after some commands: items, a lane, a store, a tick count. -/
def sUsed : State :=
  { (put [(⟨SYS_RAIL_STAT, 8, 0⟩, 0x1FE), (SYS_RST_CAUSE_SEQ, 255), (⟨DCD_LINE 2, 31, 0⟩, 9)]).writeMem 0 [1] with tb := 99, lanes := [(1,
      { phase := .up })] }

theorem test_resets :
    (let t := after .powerOnReset sUsed
     t.mem = [] ∧ t.lanes = [] ∧ t.tb = 0 ∧ t.asleep = true ∧ t.rd SYS_RAIL_STAT = 0x1FE ∧ t.rn (DCD_LINE 2) = 0 ∧ t.errPin = true ∧
     t.pin .tdo = .highZ ∧ t.pin (.ddrCsN 1) = .high ∧ (stepped t).tb = 0 ∧ (after .testEnHigh t).power.porHeld = true) ∧
    (let t := after .warmReset sUsed
     t.mem = [] ∧ t.tb = 99 ∧ t.f SYS_RST_CAUSE_SEQ = 0 ∧ t.b SYS_RST_CAUSE_PIN = true ∧ t.b SYS_RST_CAUSE_SOFT = false ∧ t.rn (DCD_LINE 2) = 0) ∧
    (let t := after (.softReset 16) (ul 0 sUsed)
     t.mem = [] ∧ t.tb = 99 ∧ t.b SYS_RST_CAUSE_PIN = false ∧ t.b SYS_RST_CAUSE_SOFT = true ∧ t.asleep = true) ∧
    (let t := after .testEnHigh sUsed
     t.mem = [] ∧ t.tb = 99 ∧ t.asleep = true ∧ t.rd SYS_RST_CAUSE = sUsed.rd SYS_RST_CAUSE) ∧
    (after .warmReset sUsed).power.resetLow = true ∧ (after .warmReset sUsed).power.aonRuns = true ∧
    (let t := after .aonIslandRuns { (put [(⟨SYS_RAIL_STAT, 8, 0⟩, 0x1FF), (PWM_CFG_EN 2, 1)]) with power := { aonRuns := false } }
     t.power.aonRuns = true ∧ t.b (PWM_CFG_EN 2) = false ∧ t.errPin = true ∧ t.pin (.step 3) = .low) ∧
    (let t := (after .warmReset sUsed).sampleStraps 2 true
     t.f SYS_BOOT_STAT_BOOT_SEL = 2 ∧ t.power.strapsDue = false ∧
     ((after (.softReset 16) (ul 0 t)).sampleStraps 1 false).f SYS_BOOT_STAT_BOOT_SEL = 2 ∧
     ((after .warmReset { t with power := { t.power with resetLow := false } }).sampleStraps 1 false).f SYS_BOOT_STAT_BOOT_SEL = 1) := by decide +kernel

theorem witness_soft_reset : (ul 0 sUsed).granted 16 SYS_RST_CTRL := by unfold State.granted; decide +kernel

theorem test_supplies :
    (let t := after (.railExcursion 3) sUsed
     bitAt (t.rn SYS_RAIL_STAT) 3 = false ∧ t.b (FLT_SRC_LIVE 0) = true ∧ t.b (FLT_SRC_LATCHED 0) = true ∧ t.mem = sUsed.mem) ∧
    (let t := after (.railReturn 0) { sUsed with regs := (put [(⟨SYS_RAIL_STAT, 8, 0⟩, 0xFE), (FLT_SRC_LIVE 0, 1)]).regs }
     bitAt (t.rn SYS_RAIL_STAT) 0 = true ∧ t.b (FLT_SRC_LIVE 0) = false) ∧
    (let t := after .clockFail sUsed
     t.b (FLT_SRC_LIVE 5) = true ∧ t.b (FLT_SRC_LATCHED 5) = true ∧ (after .clockReturn t).b (FLT_SRC_LIVE 5) = false) ∧
    (let t := after (.railExcursion 0) (after (.railExcursion 5) { (after .powerOnReset {}) with geode := { kek := some 1 } })
     t.power.aonRuns = false ∧ t.geode.onVbat = true ∧ t.geode.kek = some 1 ∧ t.errPin = false ∧ t.pin (.en 1) = .highZ ∧
     t.b (FLT_SRC_LATCHED 0) = false ∧ (after .vbatLoss t).geode.lost = true ∧ (after .vbatLoss t).geode.kek = none) ∧
    (let t := after (.vaultSupplySwitch true) { (put [(⟨SYS_RAIL_STAT, 8, 0⟩, 0x1DF)]) with geode := { kek := some 1 } }
     t.b GEO_STAT_ON_VBAT = true ∧ t.geode.kek = some 1) ∧
    (after (.vaultSupplySwitch true) {}).regs = [] ∧
    (after .vbatLoss { sUsed with geode := { kek := some 1 } }).geode.kek = some 1 ∧
    (let t := after .vbatLow { sUsed with geode := { onVbat := true } }
     bitAt (t.rn SYS_RAIL_STAT) 8 = false ∧ bitAt (t.f GEO_MON_ACTIVE) 8 = true) ∧
    bitAt ((after .xtalStop sUsed).f GEO_MON_ACTIVE) 11 = true := by decide +kernel

theorem test_park :
    (let t := after (.park 16) (ul 0)
     t.b SYS_PWR_CTRL_PARK = true ∧ t.b SYS_PWR_CTRL_PARK_REFUSED = false) ∧
    (let t := after (.park 16) (ul 0 (put [(DCD_CTRL_STATE 3, 1)]))
     t.b SYS_PWR_CTRL_PARK = false ∧ t.b SYS_PWR_CTRL_PARK_REFUSED = true) ∧
    (after (.unpark 16) (ul 0 (put [(SYS_PWR_CTRL_PARK, 1), (SYS_PWR_CTRL_PARKED, 1)]))).b SYS_PWR_CTRL_PARK = false ∧
    (let t := after .parkDone { (on 3 x0 (put [(SYS_PWR_CTRL_PARK, 1), (HL_LINK_STATE 5, 2)])) with lanes := [(5, { phase := .up })] }
     t.b SYS_PWR_CTRL_PARKED = true ∧ (t.eng 3).suspended = true ∧ (t.eng 3).parkTb = t.tb ∧ (t.eng 4).suspended = false ∧
         t.f (HL_LINK_STATE 5) = 0) ∧
    (let t := after .unparkDone (on 3 { x0 with suspended := true } (put [(SYS_PWR_CTRL_PARKED, 1)]))
     t.b SYS_PWR_CTRL_PARKED = false ∧ (t.eng 3).suspended = false) := by decide +kernel

/-- The boot ROM at a stage. -/
def booting (stage : Nat) (l : List (Field × Nat) := []) : State :=
  { (put ((SYS_BOOT_STAT_STAGE, stage) :: (SYS_BOOT_STAT_CFG_READY, 0) :: l)) with boot := { started := true } }

/-- A failed boot shows its code, and no engine runs (R89). -/
def failedBoot (t : State) (code : Nat) : Bool :=
  t.f SYS_BOOT_STAT_STAGE = 4 && t.f SYS_BOOT_STAT_FAIL_CODE = code && t.b SYS_BOOT_STAT_CFG_READY && t.errPin &&
  (List.range 16).all fun e => !(t.eng e).running

theorem test_boot :
    failedBoot (after (.fusesRead true) (booting 0)) 10 = true ∧
    (after (.fusesRead false) (booting 0)).f SYS_BOOT_STAT_STAGE = 1 ∧
    (after (.fusesRead false) (booting 0)).out.head? = some (.qspi 0x6C 0 4 8 131072) ∧
    (after (.fusesRead false) (booting 0 [(SYS_BOOT_STAT_BOOT_SEL, 2)])).f SYS_BOOT_STAT_STAGE = 5 ∧
    failedBoot (after (.fusesRead false) (booting 0 [(SYS_BOOT_STAT_BOOT_SEL, 3)])) 9 = true ∧
    (let t := after (.qspiReadDone [1, 2, 3]) (booting 1)
     t.f SYS_BOOT_STAT_STAGE = 2 ∧ t.readMem (dmemBase 14) 3 = [1, 2, 3] ∧ t.readMem (dmemBase 15) 3 = [1, 2, 3]) ∧
    failedBoot (after .qspiTimeout (booting 1)) 7 = true ∧
    failedBoot (after .firstStageLate { (booting 1) with tb := 800000005, power := { perstAt := some 5 } }) 11 = true ∧
    (after (.hostGo 16) (booting 5)).f SYS_BOOT_STAT_STAGE = 2 ∧
    (let t := after (.cfgReady 16) (booting 5)
     t.b SYS_BOOT_STAT_CFG_READY = true ∧ SYS_BOOT_STAT ∈ t.w1Locked) := by decide +kernel

theorem test_first_stage_check :
    (let t := after .firstStageChecksDone (booting 2)
     t.f SYS_BOOT_STAT_STAGE = 1 ∧ t.f SYS_BOOT_STAT_FAIL_CODE = 1 ∧ t.boot.fallback = true ∧ t.out.head? = some (.qspi 0x6C 0x1000000 4 8 131072)) ∧
    (after .firstStageChecksDone (booting 2 [(SYS_BOOT_STAT_BOOT_SEL, 2)])).f SYS_BOOT_STAT_STAGE = 5 ∧
    failedBoot (after .firstStageChecksDone (booting 2 [(SYS_BOOT_STAT_BOOT_SEL, 1)])) 1 = true := by decide +kernel

theorem test_config_space :
    (after (.configRequest true 0x98 7) (booting 5)).out = [.completion 2 []] ∧
    (after (.configRequest false 0 7) (put [(SYS_BOOT_STAT_CFG_READY, 1)])).out = [.completion 0 [0x7C, 0x1F, 0x48, 0x64]] ∧
    (let t := after (.configRequest true 0x98 0x1000) (put [(SYS_BOOT_STAT_CFG_READY, 1)])
     t.out = [.completion 0 []] ∧ t.pcie.tag10 = true) := by decide +kernel

/-! Register accesses -/

theorem test_guarded_writes :
    (let t := after (.guardUnlock 16 0x7C5E000A) { (put [(GUARD_STAT_CONSEC, 3), (GUARD_STAT_TOTAL, 4)]) with unlocks := [(16, 3, 0), (2, 3, 0)] }
     t.f GUARD_STAT_CONSEC = 0 ∧ t.f GUARD_STAT_TOTAL = 4 ∧ t.unlocks = [(16, 10, 0), (2, 3, 0)]) ∧
    (let t := after (.guardUnlock 16 0x7C5D000A) (put [(GUARD_STAT_CONSEC, 6), (GUARD_STAT_TOTAL, 0xFFFF)])
     t.f GUARD_STAT_CONSEC = 7 ∧ t.f GUARD_STAT_TOTAL = 0xFFFF ∧ t.unlocks = []) ∧
    (after (.unlockExpire 16) { ({} : State) with unlocks := [(16, 3, 0), (2, 3, 0)], tb := 1024 }).unlocks = [(2, 3, 0)] ∧
    (after (.unlockExpire 16) { ({} : State) with unlocks := [(16, 3, 0)], tb := 1023 }).unlocks = [(16, 3, 0)] := by decide +kernel

/-- REGISTER_WRITE of v puts the bits m. -/
def puts (a : Nat) (m v : Word) : Bool :=
  let t := after (.registerWrite 16 a v 15) {}
  keeps {} t [a] && t.rd a = (({} : State).rd a &&& ~~~m) ||| (v &&& m)

/-- With an unlock of block b it puts the bits m and uses the unlock; without one it is refused. -/
def guards (b a : Nat) (m v : Word) : Bool :=
  let t := after (.registerWrite 16 a v 15) (ul b)
  let u := after (.registerWrite 16 a v 15) {}
  keeps {} t [a] && t.rd a = (({} : State).rd a &&& ~~~m) ||| (v &&& m) && t.unlocks = [] &&
  u.rd a = ({} : State).rd a && u.f GUARD_REFUSE_LAST_BLOCK = b && u.f GUARD_REFUSE_LAST_REQ = 16 && u.b (FLT_SRC_LATCHED 22)

theorem test_register_writes :
    puts FLT_IRQ 0x7BF 0xFFFFFFFF = true ∧ puts (FH_VNOM 5) 0xFFFF 0x12345678 = true ∧ puts (FH_BUDGET 5) 0xFFFFFF 0x12345678 = true ∧
    puts (MOT_VMAX 3) 0xFFFFFFFF 0x12345678 = true ∧ puts (VFY_DET 2) 0x0FFFFFFF 0xFFFFFFFF = true ∧
    puts (RAS_MASKSEL 63) 0x3F 0xFFFFFFFF = true ∧ puts SUP_TIMING 0x3FFF 0xFFFFFFFF = true := by decide +kernel

theorem test_guarded_register_writes :
    guards 3 FLT_ERRN 0x773FFF 0xFFFFFFFF = true ∧ guards 5 MEMC_SCRUB 0xFF01 0xFFFFFFFF = true ∧
    guards 7 (FH_VWIN 5) 0xFFFFFFFF 0x12345678 = true ∧ guards 7 (FH_TLIM 5) 0xFFFFFFFF 0x12345678 = true ∧
    guards 10 (MOT_STEPCFG 3) 0xFFFF 0xFFFFFFFF = true := by decide +kernel

theorem witness_granted : (ul 7).granted 16 (FH_VWIN 5) ∧ ¬ State.granted {} 16 (FH_VWIN 5) ∧ State.reaches {} 16 (FH_VWIN 5) := by
  unfold State.granted State.reaches; decide +kernel

theorem test_staged_and_event_registers :
    (after (.loStageWrite 16 SEC_LD_SRC_LO 7) {}).stagedAt SEC_LD_SRC_LO = 7 ∧
    (let t := after (.registerWrite 16 SEC_LD_SRC_HI 5 15) { ({} : State) with staged := [(SEC_LD_SRC_LO, 7)] }
     t.rd SEC_LD_SRC_LO = 7 ∧ t.rd SEC_LD_SRC_HI = 5 ∧ t.staged = []) ∧
    (∀ a ∈ [MEMC_ECC_STAT 1, MOT_STAT 7, FH_STAT 40, QZ_STAT],
      (after (.sqWriteBack 16 a 0x02000005) (({} : State).wr a 0x02000007)).rd a = 0x02000000 ∧
      (after (.sqWriteBack 16 a 0x03000005) (({} : State).wr a 0x02000007)).rd a = 0x02000007) ∧
    ({} : State).fhShadowOk 9 = true ∧ (after (.shadowArm 16 (FH_SHCTL 9) 1) {}).b (FH_SHCTL_ARM 9) = true := by decide +kernel

theorem test_access_shapes :
    rowOf 0x11FF00 = none ∧ windowRange 0x11FF00 = false ∧
    (let t := after (.registerWrite 5 0x11FF00 1 15) {}
     t.b (FLT_SRC_LATCHED 20) = true ∧ t.rn (FLT_INFO 20) = 0x0511FF00) ∧
    (let t := after (.registerWrite 5 0x11FF02 1 15) {}
     t.b (FLT_SRC_LATCHED 20) = true ∧ t.rn (FLT_INFO 20) = 0x0511FF02) ∧
    (let t := after (.badRegisterRead 16 0x11FF00 4) {}
     t.out.head? = some (.completion 0 [0, 0, 0, 0]) ∧ t.b (FLT_SRC_LATCHED 20) = true) ∧
    (let t := after (.memoryWindowWrite 16 (0x410000 + 0x40000 * 3 + 0x1FFFE) [8, 9]) {}
     t.readMem (dmemBase 3 + 0x1FFFD) 3 = [0, 8, 9]) ∧
    (let t := after (.memoryWindowWrite 16 (0x400000 + 0x40000 * 3 + 5) [8]) (put [(ENG_SIGPAGES_LOCKED 3, 1)])
     t.mem = [] ∧ t.b (FLT_SRC_LATCHED 4) = true ∧ t.rn (FLT_INFO 4) = 3) := by decide +kernel

theorem test_nozzle_table_and_bar2 :
    (let t := after (.nozzleTableWrite 16 0x800030 [0xFF, 1, 0, 0, 0, 0, 0, 0x80]) {}
     t.nozzle 6 % 2 ^ 63 = 0x1FF ∧ onesBelow (t.nozzle 6) 64 % 2 = 0) ∧
    (let s := (put [(BAR2_PAGE_EN 2, 1)] ddr).writeMem 0x10 [7]
     (after (.bar2Read 0x2000010 2 []) s).out = [.completion 0 [7, 0]] ∧
     (after (.bar2Write 0x2000010 [3, 4]) s).readMem 0x10 2 = [3, 4] ∧
     (after (.bar2Read 0x1000010 2 []) s).out.head? = some (.completion 0 [0, 0]) ∧
         (after (.bar2Read 0x1000010 2 []) s).b (FLT_SRC_LATCHED 27) = true) := by
  decide +kernel

/-! Jobs -/

/-- Queue 3 in order, the ledger open. -/
def jq (l : List (Field × Nat) := []) : State :=
  { (ul 4 (put ([(JQ_CTRL_RING_LOG2 3, 4), (JQ_CTRL_CQ_LOG2 3, 5), (JQ_CTRL_OWNER 3, 2), (JQ_CTRL_DRAINED 3, 1), (PCIE_LINK_STAT_LINK_UP, 1),
    (PCIE_LINK_STAT_BME, 1)] ++ l))) with ledger := { isOpen := true } }

theorem witness_queue_granted : jq.granted 16 (JQ_CTRL 3) := by unfold State.granted; decide +kernel

theorem test_job_queues :
    (let t := after (.jqEnable 16 3 (jq.rd (JQ_CTRL 3))) jq
     t.b (JQ_CTRL_ENABLE 3) = true ∧ t.b (JQ_CTRL_DRAINED 3) = false ∧ t.f (JQ_CTRL_RING_LOG2 3) = 4) ∧
    (let t := after (.jqEnable 16 3 (jq.rd (JQ_CTRL 3))) { jq with ledger := {} }
     t.b (JQ_CTRL_ENABLE 3) = false ∧ t.b (JQ_STAT_CFG_ERROR 3) = true ∧ t.b (FLT_SRC_LATCHED 25) = true) ∧
    (let t := after (.jqDisable 16 3 0) { (jq [(JQ_CTRL_ENABLE 3, 1)]) with intake := [(3, .readDesc)] }
     t.b (JQ_CTRL_ENABLE 3) = false ∧ t.intakeOf 3 = .idle ∧ t.b (JQ_CTRL_DRAINED 3) = true) ∧
    (let t := after (.idxClr 16 3 0x800) (jq [(JQ_TAIL_TAIL 3, 7), (JQ_CQ_HEAD_CQ_HEAD 3, 2)])
     t.rn (JQ_TAIL 3) = 0 ∧ t.rn (JQ_CQ_HEAD 3) = 0) ∧
    (let s := jq [(JQ_HEAD_HEAD 3, 0xFFFF), (JQ_TAIL_TAIL 3, 0xFFFF), (JQ_CQ_HEAD_CQ_HEAD 3, 1), (JQ_CQ_TAIL_CQ_TAIL 3, 3)]
     (after (.doorbell 16 3 15) s).f (JQ_TAIL_TAIL 3) = 15 ∧
     (after (.doorbell 16 3 16) s).b (JQ_STAT_INDEX_ERROR 3) = true ∧ (after (.doorbell 16 3 16) s).rn (FLT_INFO 25) = 3 ∧
     (after (.cqHeadWrite 16 3 3) s).f (JQ_CQ_HEAD_CQ_HEAD 3) = 3 ∧
     (after (.cqHeadWrite 16 3 4) s).b (JQ_STAT_INDEX_ERROR 3) = true ∧ (after (.cqHeadWrite 16 3 4) s).f (JQ_CQ_HEAD_CQ_HEAD 3) = 1) := by
  decide +kernel

/-- A descriptor of two items for owner 2, and its items. -/
def jdesc (n : Nat := 2) : List Byte := [9, 8, 7, 6, 0, 0] ++ leBytes 2 n ++ [1, 4] ++ zeros 54

/-- An item descriptor of 100 lines with a serial. -/
def itemBytes (serial : Nat) : List Byte := leBytes 8 serial ++ leBytes 4 100 ++ [0, 0, 0, 0xFF] ++ zeros 16

/-- A job in a slot of a queue. -/
def jobIn (k slot : Nat) (x : Bool := false) : Job :=
  { queue := k, slot := slot, tag := 5, count := 0, dcd := 1, pipeMask := 0, blank := false, replay := false, replayOut := 0, done := x }

theorem test_job_intake :
    (let t := after .jobIntake { (jq [(JQ_CTRL_ENABLE 3, 1), (JQ_TAIL_TAIL 3, 1)]) with intakeNext := 3 }
     t.intakeOf 3 = .readDesc ∧ t.out = [.hostRead 0 64 { tag := 8 }]) ∧
    (let t := after (.jobDescReturn 3 (.data jdesc)) { jq with intake := [(3, .readDesc)] }
     t.intakeOf 3 = .readItems jdesc 64 [] ∧ t.regs = jq.regs ∧ t.out = [.hostRead 0 64 { tag := 8 }]) ∧
    (let t := after (.jobDescReturn 3 (.data (jdesc 0))) { jq with intake := [(3, .readDesc)] }
     t.intakeOf 3 = .idle ∧ t.f (JQ_HEAD_HEAD 3) = 1 ∧ t.f (JQ_STAT_LAST_REFUSE 3) = 1 ∧ t.b (FLT_SRC_LATCHED 24) = true ∧
     t.byte (dmemBase 2 + 66) = 1) ∧
    (let t := after (.itemArrayReturn 3 (.data (itemBytes 5 ++ itemBytes 6))) { jq with intake := [(3, .readItems jdesc 64 [])] }
     t.items.map (·.serial) = [5, 6] ∧ t.intakeOf 3 = .idle ∧ t.f (JQ_HEAD_HEAD 3) = 1 ∧ (t.eng 2).pendingEv.getLsbD 11 = true ∧
     t.byte (dmemBase 2 + 66) = 0 ∧ t.items.map (·.stage) = [.queued, .queued]) := by decide +kernel

theorem test_job_completion :
    let s := { (jq [(JQ_CQ_TAIL_CQ_TAIL 3, 33), (JQ_CQ_HEAD_CQ_HEAD 3, 32)]) with jobs := [jobIn 3 4 true], doneJobs := [(3, 4)], tb := 6 }
    let full := { (jq [(JQ_CQ_TAIL_CQ_TAIL 3, 32)]) with jobs := [jobIn 3 4 true], doneJobs := [(3, 4)], tb := 6 }
    (let t := after (.completionRelease 3) s
     t.f (JQ_CQ_TAIL_CQ_TAIL 3) = 34 ∧ .hostWrite 32 ((jobIn 3 4 true).record false 6) {} ∈ t.out) ∧
    (let t := after (.completionRelease 3) full
     t.b (JQ_STAT_CQ_STALL 3) = true ∧ t.waitingCpl = [(3, 4, 6)] ∧ t.out = []) ∧
    (after (.jqDone 2 3 4) { jq with jobs := [jobIn 3 4] }).job? 3 4 = some (jobIn 3 4 true) ∧
    (let t := after (.jqDone 1 3 4) { jq with jobs := [jobIn 3 4] }
     t.b (JQ_STAT_NOT_OWNER 3) = true ∧ t.b (FLT_SRC_LATCHED 26) = true ∧ t.rn (FLT_INFO 26) = 3) := by decide +kernel

/-- An item of the job in slot 4 of queue 3, of one line. -/
def itemOf (id : Nat) (stage : Stage) : Item :=
  { id := id, serial := id, lines := 1, gap := 0, regulated := false, reject := 0xFF, dcd := 0, queue := 3, slot := 4, index := 0, tag := 5,
    pipeMask := 0, blank := false, ovsPolicy := 0, replay := false, stage := stage }

theorem test_job_abort :
    let t := after (.jqAbort 2 3 4) { jq with jobs := [jobIn 3 4], items := [itemOf 0 .queued, itemOf 1 .printing] }
    (t.job? 3 4).map (fun x => (x.done, x.aborted)) = some (true, true) ∧
    t.items.map (fun i => (i.id, i.stage, i.spoiled)) = [(1, .printing, true)] := by decide +kernel

/-! Host link and DMA -/

/-- A link that is up, with bus master enable. -/
def linked (l : List (Field × Nat) := []) : State := put ([(PCIE_LINK_STAT_LINK_UP, 1), (PCIE_LINK_STAT_BME, 1)] ++ l)

theorem test_link_events :
    (let t := after (.linkUp 4 8) { (put [(PCIE_LINK_STAT_L1, 1)]) with power := { perstLow := false } }
     t.b PCIE_LINK_STAT_LINK_UP = true ∧ t.f PCIE_LINK_STAT_SPEED = 1 ∧ t.f PCIE_LINK_STAT_WIDTH = 8 ∧ t.b PCIE_LINK_STAT_L1 = false ∧
     (after (.linkUp 4 15) t).f PCIE_LINK_STAT_SPEED = 4 ∧ (after (.linkUp 3 3) t).f PCIE_LINK_STAT_SPEED = 3 ∧
     (after (.linkUp 3 3) t).f PCIE_LINK_STAT_WIDTH = 2) ∧
    (let t := after .linkDown { (linked) with intake := [(3, .readDesc)] }
     t.b PCIE_LINK_STAT_LINK_UP = false ∧ t.b PCIE_ERR_STAT_LINK_DOWN = true ∧ t.b (FLT_SRC_LATCHED 16) = true ∧ t.intakeOf 3 = .idle) ∧
    (let t := after .perstAssert { (linked) with
        intake := [(3, .readDesc)], dmas := [(2, { active := true, descs := [{ addr := 0, bytes := [] }] })] }
     t.b PCIE_ERR_STAT_PERST = true ∧ t.b PCIE_LINK_STAT_BME = false ∧ t.power.perstLow = true ∧ t.intakeOf 3 = .idle ∧
     ((t.dma 2).active = true → ∃ d, d ∈ (t.dma 2).descs ∧ d.err ≠ 0)) ∧
    (after .perstRelease { (linked) with tb := 7 }).power.perstAt = some 7 ∧
    (let t := after .functionLevelReset { (linked [(SYS_BOOT_STAT_CFG_READY, 1)]) with pcie := { msixEnable := true } }
     t.b PCIE_ERR_STAT_FLR = true ∧ t.b PCIE_LINK_STAT_BME = false ∧ t.b PCIE_LINK_STAT_LINK_UP = true ∧ t.pcie.msixEnable = false) ∧
    (after .unsupportedRequest linked).out = [.completion 1 []] := by decide +kernel

theorem test_link_errors :
    (let t := after (.pcieErrorRx 1) linked
     t.b PCIE_ERR_STAT_POISONED = true ∧ t.b PCIE_ERR_STAT_UR_CA = false ∧ t.b (FLT_SRC_LATCHED 17) = true) ∧
    (let t := after (.cplTimeout 35) { (jq) with intake := [(3, .readDesc)] }
     t.b PCIE_ERR_STAT_CPL_TIMEOUT = true ∧ t.intakeOf 3 = .idle ∧ t.f (JQ_STAT_LAST_REFUSE 3) = 5 ∧ t.b (FLT_SRC_LATCHED 24) = true) ∧
    (after .bmeClear linked).b PCIE_LINK_STAT_BME = false ∧ (after .bmeSet (put [])).b PCIE_LINK_STAT_BME = true ∧
    (after .d3hotEntry linked).b PCIE_LINK_STAT_D3HOT = true ∧
    (let t := after (.msixUnmask 33) { (linked [(⟨MSIX_PBA 1, 31, 0⟩, 2)]) with pcie := { msixEnable := true } }
     t.rn (MSIX_TABLE 135) % 2 = 0 ∧ t.rd (MSIX_PBA 1) = 0 ∧ t.out = [.msix 33 {}]) ∧
    (let t := after .aspmL1Entry { (linked [(SYS_PWR_CTRL_PARKED, 1)]) with pcie := { aspmL1 := true } }
     t.b PCIE_LINK_STAT_L1 = true ∧ t.out = [.link true]) := by decide +kernel

theorem test_dma_commands :
    (let t := after (.dmaGo 16 5) (linked [(CH_CFG_RB_QUOTA 5, 63), (⟨CH_HEAD_LO 5, 31, 0⟩, 0x40)])
     (t.dma 5).active = true ∧ (t.dma 5).next = 0x40 ∧ t.f (CH_STAT_STATE 5) = 1) ∧
    (let t := after (.dmaGo 16 5) (put [(CH_CFG_RB_QUOTA 5, 1)])
     (t.dma 5).active = true ∧ t.f (CH_STAT_STATE 5) = 4) ∧
    (let t := after (.dmaGo 16 5) { (linked) with dmas := [(5, { active := true })] }
     t.b (CH_STAT_CFG_ERROR 5) = true ∧ t.b (FLT_SRC_LATCHED 29) = true ∧ t.rn (FLT_INFO 29) = 5) ∧
    ((after (.dmaKick 16 5) { (linked) with dmas := [(5, { active := true, waitDesc := true })] }).dma 5).waitDesc = false ∧
    (let t := after (.dmaAbort 16 5) { (linked) with dmas := [(5, { active := true })] }
     (t.dma 5).active = false ∧ t.f (CH_STAT_STATE 5) = 0) ∧
    (let t := after (.dmaFlush 16 5)
       { (linked [(CH_CFG_RING_EN 5, 1), (CH_CFG_DIR 5, 1), (CH_PROD_COUNT 5, 9)]) with dmas := [(5, { active := true, paused := true })] }
     (t.dma 5).flush = true ∧ (t.dma 5).paused = false) ∧
    (let s := { (linked [(CH_PROD_COUNT 5, 3), (CH_CONS_COUNT 5, 0x7FFFFFFF)]) with dmas := [(5, { tail := 3 })] }
     (after (.ringCountWrite 16 5 false 2) s).f (CH_CONS_COUNT 5) = 2 ∧
     (after (.ringCountWrite 16 5 true 2) s).b (CH_STAT_CFG_ERROR 5) = true ∧ (after (.ringCountWrite 16 5 true 2) s).f (CH_PROD_COUNT 5) = 3) := by
  decide +kernel

/-- A descriptor of 48 bytes from host address 0x2FF0 to device address 0x10. -/
def dbytes (status : Nat := 0) : List Byte := leBytes 8 0x2FF0 ++ leBytes 8 0x40 ++ leBytes 8 0x10 ++ leBytes 4 0x30 ++ leBytes 4 status

/-- Channel 5 as given, its link up. -/
def chn (x : Dma) : State := { (put [(PCIE_LINK_STAT_LINK_UP, 1), (PCIE_LINK_STAT_BME, 1), (CH_CFG_RB_QUOTA 5, 2)] ddr) with dmas := [(5, x)] }

theorem test_dma_flow :
    let x : Dma := { active := true, fetching := true, next := 0x80 }
    let d : Desc := { addr := 0x80, bytes := dbytes, begun := true }
    (let t := after (.descFetchReturn 5 (.data (dbytes 1))) (chn x)
     (t.dma 5).waitDesc = true ∧ (t.dma 5).descs = [] ∧ t.f (CH_STAT_STATE 5) = 3) ∧
    (let t := after (.descFetchReturn 5 (.data dbytes)) (chn x)
     (t.dma 5).next = 0x40 ∧ (t.dma 5).descs.map (fun x => (x.addr, x.bytes)) = [(0x80, dbytes)]) ∧
    (let t := after (.dmaRequestIssue 5) (chn { x with descs := [d] })
     t.out = [.hostRead 0x2FF0 16 { tag := 8 }] ∧ (t.dma 5).descs.map (fun x => (x.asked, x.reqs)) = [(16, [⟨0, 16, .wait⟩])]) ∧
    (let t := after (.dataReturn 5 (.data [1, 2, 3, 4])) (chn { x with descs := [{ d with asked := 16, reqs := [⟨0, 4, .wait⟩] }] })
     (t.dma 5).descs.map (fun x => (x.moved, x.reqs)) = [(4, [])] ∧ t.readMem 0x10 5 = [1, 2, 3, 4, 0]) ∧
    (let t := after (.descComplete 5 false) (chn { x with descs := [{ d with asked := 48, moved := 48 }] })
     (t.dma 5).descs = [] ∧ t.rn (CH_DONECNT 5) = 1 ∧ .hostWrite 0x9C (leBytes 4 0x3001) {} ∈ t.out) := by decide +kernel

/-! Device memory and streams -/

theorem test_ddr_training :
    (let t := after (.ddrTrain 16 1 3) (ul 5 (put [(MEMC_CH_STAT_TRAIN_STATE 1, 3), (MEMC_CH_STAT_FAIL_STEP 1, 9)]))
     t.f (MEMC_CH_STAT_TRAIN_STATE 1) = 1 ∧ t.f (MEMC_CH_STAT_FAIL_STEP 1) = 0 ∧ t.b (MEMC_CH_CFG_TRAIN 1) = false ∧ t.f (MEMC_CH_CFG_RATE 1) = 3) ∧
    (let t := after (.trainDone 1 true 0 16384) (put [(MEMC_CH_STAT_TRAIN_STATE 1, 1)])
     t.f (MEMC_CH_STAT_TRAIN_STATE 1) = 2 ∧ t.f (MEMC_CH_STAT_CAPACITY 1) = 16384) ∧
    (let t := after (.trainDone 1 false 7 0) (put [(MEMC_CH_STAT_TRAIN_STATE 1, 1)])
     t.f (MEMC_CH_STAT_TRAIN_STATE 1) = 3 ∧ t.f (MEMC_CH_STAT_FAIL_STEP 1) = 7 ∧ t.b (FLT_SRC_LATCHED 12) = true) := by decide +kernel

theorem witness_ddr_train : (ul 5 (put [(MEMC_CH_STAT_TRAIN_STATE 1, 3)])).granted 16 (MEMC_CH_CFG 1) := by unfold State.granted; decide +kernel

theorem test_scrub :
    let s := put [(MEMC_SCRUB_EN, 1), (MEMC_ECC_CNT_CE 0, 65535)] ddr
    (after (.scrubStep 0x44 0) s).regs = s.regs ∧
    (let t := after (.scrubStep 0x44 1) s
     t.b (MEMC_ECC_STAT_CE 0) = true ∧ t.b (MEMC_ECC_STAT_BY_SCRUB 0) = true ∧ t.b (MEMC_ECC_STAT_UE 0) = false ∧ t.f (MEMC_ECC_CNT_CE 0) = 65535 ∧
     t.rd64 (MEMC_ECC_ADDR_LO 0) = 0x44 ∧ t.b (FLT_SRC_LATCHED 13) = true) ∧
    (let t := after (.scrubStep 0x44 2) s
     t.poison = [0x11] ∧ t.b (MEMC_ECC_STAT_UE 0) = true ∧ t.f (MEMC_ECC_CNT_UE 0) = 1 ∧ t.b (FLT_SRC_LATCHED 14) = true) := by decide +kernel

/-- Stream 6 on lane 9 (of pipeline 1), domain 2, channel 5. -/
def sStrm (l : List (Field × Nat) := []) : State :=
  ul 6 (put ([(HL_CFG_DCD 9, 2), (HL_NOZ_COUNT 9, 512), (CH_CFG_RING_EN 5, 1), (CH_CFG_RING_LOG2 5, 12), (CH_WM_HIGH_WM 5, 255), (CH_CONS_COUNT 5,
      7)] ++ l))

/-- RAS_STREAM of lane 9, domain 2, channel 5. -/
def strmWord : Word := 0x02050067

theorem witness_stream : sStrm.granted 16 (RAS_STREAM 6) ∧ (sStrm.wr (RAS_STREAM 6) strmWord).streamOk 6 = true := by
  unfold State.granted; decide +kernel

theorem test_streams :
    (let t := after (.streamEnable 16 6 strmWord) sStrm
     t.rd (RAS_STREAM 6) = strmWord ∧ t.b (RAS_STREAM_STAT_ACTIVE 6) = true ∧ t.f (RAS_LINE_BYTES_BYTES 6) = 128 ∧
     t.strm 6 = { base := 7, passed := 0 }) ∧
    (let t := after (.streamEnable 16 6 strmWord) (sStrm [(DCD_CTRL_STATE 2, 1)])
     t.rd (RAS_STREAM 6) = sStrm.rd (RAS_STREAM 6) ∧ t.b (RAS_STREAM_STAT_CFG_ERROR 6) = true ∧ t.rn (FLT_INFO 35) = 6) ∧
    (let t := after (.streamDisable 16 6 strmWord) (sStrm [(⟨RAS_STREAM 6, 31, 0⟩, strmWord.toNat), (RAS_STREAM_STAT_ACTIVE 6, 1)])
     t.rd (RAS_STREAM 6) = strmWord - 1 ∧ t.b (RAS_STREAM_STAT_ACTIVE 6) = false) ∧
    (let t := after (.streamDisable 16 6 strmWord) (sStrm [(⟨RAS_STREAM 6, 31, 0⟩, strmWord.toNat), (DCD_CTRL_STATE 2, 2)])
     t.rd (RAS_STREAM 6) = strmWord ∧ t.b (FLT_SRC_LATCHED 35) = true) := by decide +kernel

/-! Dot clocks -/

/-- Domain 2 in order for GO in time mode, lane 9 its own. -/
def sDom (l : List (Field × Nat) := []) : State :=
  put ([(HL_CFG_DCD 9, 2), (HL_CTRL_ENABLE 9, 1), (DCD_CTRL_MODE 2, 2), (DCD_TMIN_TICKS 2, 16666), (⟨DCD_START 2, 31, 0⟩, 3)] ++ l)

theorem test_dot_clock_commands :
    sDom.domainLanes 2 = [9] ∧ sDom.firePeriod 9 ≤ 16666 ∧ (sDom.dom 2).freq * 16666 ≤ 0x100000000 ∧
    (let t := after (.dcdGo 16 2) sDom
     t.f (DCD_CTRL_STATE 2) = 1 ∧ t.f (DCD_SPEED_S 2) = 0x8000 ∧ (t.dom 2).start = 3 ∧ (t.dom 2).made = 0 ∧ (t.dom 2).speed = 0x1000000) ∧
    (let t := after (.dcdGo 16 2) (sDom [(HL_CTRL_ENABLE 9, 0)])
     t.f (DCD_CTRL_STATE 2) = 0 ∧ t.b (DCD_STAT_CFG_ERROR 2) = true ∧ t.b (FLT_SRC_LATCHED 42) = true) ∧
    (after (.dcdStop 16 2) (sDom [(DCD_CTRL_STATE 2, 1)])).f (DCD_CTRL_STATE 2) = 2 ∧
    (after (.dcdStop 16 2) sDom).regs = sDom.regs ∧
    ((after (.derate 16 2) sDom).dom 2).derate = true := by decide +kernel

theorem test_line_timing :
    (let t := after (.lineBoundary 2) { (sDom [(DCD_CTRL_STATE 2, 1)]) with tb := 20000, domains := [(2, { freq := 300000, start := 3 })] }
     (t.dom 2).made = 1 ∧ t.rd64 (DCD_BOUND_TB_LO 2) = 20000 ∧ t.rn (DCD_LINE 2) = 0xFFFFFFFF) ∧
    (let t := after (.lineBoundary 2) { (sDom [(DCD_CTRL_STATE 2, 1), (⟨DCD_LINE 2, 31, 0⟩, 0xFFFFFFFF)]) with
       tb := 20000, domains := [(2, { freq := 300000, start := 3, made := 1 })] }
     (t.dom 2).made = 2 ∧ t.rn (DCD_LINE 2) = 0) ∧
    (let s := { (sDom [(DCD_CTRL_STATE 2, 1)]) with tb := 10000, domains := [(2, { freq := 300000, start := 3 })] }
     (after (.lineBoundary 2) s).regs = s.regs ∧ (after (.lineBoundary 2) s).domains = s.domains) ∧
    (let t := after (.lineBoundary 2) { (sDom [(DCD_CTRL_MODE 2, 1), (DCD_CTRL_STATE 2, 1), (DCD_SRC_CHANNEL 2, 3), (FB_CTRL_EN 3, 1),
       (FB_LIVE_DETECTED 3, 1)]) with tb := 20000, domains := [(2, { start := 3 })] }
     (t.dom 2).made = 1 ∧ t.rn (DCD_LINE 2) = 0xFFFFFFFF) ∧
    (let t := after .planningTick { (put [(DCD_DERATE_SLEW 2, 512)]) with domains := [(2, { speed := 0x800000 })] }
     (t.dom 2).speed = 0x800200 ∧ t.f (DCD_SPEED_S 2) = 0x4001) := by decide +kernel

/-- The energy settings of reset. -/
def energy0 : Energy :=
  { wBase := 0x3200, wLim := 0x06400001, pre := 0, ktcfg := 0, kv := 16384, points := [0], ts := [0], slopes := [], rises := [], scan := none }

/-- A slice of a dot period. -/
def slice0 (period : Nat) : Slice :=
  { line := 0, period := period, bcount := 0, kind := 0, item := none, blank := false, stream := none, data := [], rline := 0, pass := none,
      mask := 0,
    testLine := false, test := [], replay := false, leased := true, energy := energy0 }

/-- Lane 9 as given. -/
def lanes9 (x : Lane) (s : State) : State := { s with lanes := [(9, x)] }

theorem test_slice_handover :
    let s := put [(HL_NOZ_COUNT 9, 3)]
    let old := { slice0 7 with handed := true }
    let c := s.placed 9 { slice0 8 with kind := 1, test := [(2, 0)] }
    (let t := after (.sliceHandover 9) (lanes9 { slices := [old, { slice0 8 with blank := true }] } s)
     (t.lane 9).slices = [old, { slice0 8 with blank := true, handed := true, decisions := [] }]) ∧
    (let t := after (.sliceHandover 9) (lanes9 { slices := [old, c] } s)
     (t.lane 9).slices = [old, { c with handed := true, decisions := [0, 0, s.decision 9 c 2 1] }] ∧ s.decision 9 c 2 1 = 800 + 4096 ∧
     bits (t.nozzle (s.f (HL_NOZ_NBASE 9) + 2)) 41 32 = 1 ∧ bits (t.nozzle (s.f (HL_NOZ_NBASE 9) + 1)) 41 32 = 0) ∧
    (let u := lanes9 { slices := [old] } s
     (after (.sliceHandover 9) u).lanes = u.lanes) := by decide +kernel

theorem test_energy :
    let s := put [(HL_NOZ_COUNT 9, 4), (FH_DUTY_GUARD_EN 9, 1)]
    let e : Energy := { energy0 with points := [0, 2], ts := [16, 48], slopes := [1048576], rises := [8192] }
    e.temp 4 0 = 18 ∧ e.temp 4 1 = 32 ∧ e.temp 4 3 = 48 ∧
    (let m := s.writeMem (barBase + 0xB00480) (leBytes 2 100 ++ leBytes 2 201)
     m.kt { energy0 with ktcfg := 0x20000 } 9 (-1) = 100 ∧ m.kt { energy0 with ktcfg := 0x20000 } 9 2 = 151 ∧
     m.kt { energy0 with ktcfg := 0x20000 } 9 252 = 0x4000) ∧
    (let c := { slice0 15 with trims := [(2, 512)], testLine := true }
     s.decision 9 c 2 3 = 400 + 3 * 4096 ∧ s.decision 9 { c with energy := { energy0 with scan := some 77 } } 2 3 = 77 + 3 * 4096) ∧
    (let n := nozzleAddr (s.f (HL_NOZ_NBASE 9) + 1)
     let u := (s.modHead 9 fun h => { h with duty := (2, 16) }).writeMem n (leBytes 8 0x300000000)
     u.tryNozzle 9 (slice0 15) 1 = .guarded ∧ u.tryNozzle 9 (slice0 7) 1 = .guarded ∧ u.tryNozzle 9 (slice0 15) 0 = .usable ∧
     (u.writeMem n (leBytes 8 0x200000001)).tryNozzle 9 (slice0 7) 1 = .usable ∧
     (u.writeMem n (leBytes 8 0x300000400)).tryNozzle 9 (slice0 15) 1 = .no) ∧
    (put [(RAS_SKEW_PHASE 9, 5), (HL_LINK_NPH 9, 2)]).slotStart 9 3 = 53 := by decide +kernel

/-! Heads -/

/-- Lane 9 is UP, its head's voltage window open, one sense point. -/
def sHead (l : List (Field × Nat) := []) : State :=
  put ([(HL_LINK_STATE 9, 2), (FH_VWIN_V_LO 9, 0), (FH_VWIN_V_HI 9, 65535), (FH_VNOM_V_NOM 9, 100), (FH_SPCFG_NSP_M1 9, 0),
    (FH_TLIM_T_SOFT 9, 0xFFF0), (FH_TLIM_T_HARD 9, 5)] ++ l)
/-- A SENSE frame of one point. -/
def senseF (vm t : Nat) : List Byte := zeros 4 ++ leBytes 2 vm ++ [1, 0] ++ leBytes 2 t ++ zeros 30

theorem test_sense_frames :
    senseOk (senseF 100 4) = true ∧
    (let t := after (.senseRx 9 (senseF 100 0xFFFF)) { sHead with tb := 6 }
     t.f (FH_TEMP_V_MEAS 9) = 100 ∧ t.f (FH_KV_KV 9) = 16384 ∧ t.f (FH_TEMP_T_PEAK 9) = 0xFFFF ∧ t.b (FH_STAT_INHIBITED 9) = false ∧
     t.regBytes (FH_SENSE 9 0) 32 = [0xFF, 0xFF] ++ zeros 30 ∧ (t.head 9).senseAt = some 6) ∧
    (let t := after (.senseRx 9 (senseF 100 5)) sHead
     t.b (FH_STAT_INHIBITED 9) = true ∧ t.f (FH_STAT_CAUSE 9) = 1 ∧ t.f (FH_CNT_INHIBITS 9) = 1 ∧ t.b (FLT_SRC_LATCHED 45) = true) ∧
    (let t := after (.senseRx 9 (senseF 0 4)) sHead
     t.b (FH_STAT_INHIBITED 9) = true ∧ t.f (FH_STAT_CAUSE 9) = 3) ∧
    (let t := after (.senseRx 9 ((senseF 100 4).set 6 2)) sHead
     t.b (HL_STAT_SENSE_ERROR 9) = true ∧ t.b (FLT_SRC_LATCHED 55) = true ∧ t.rn (FLT_INFO 55) = 9 ∧ t.heads = sHead.heads) ∧
    (let t := after (.senseRx 9 ((senseF 100 4).set 7 1)) sHead
     t.b (HL_STAT_DATA_LOST 9) = true ∧ t.b (FLT_SRC_LATCHED 57) = true) ∧
    (let t := after (.senseRx 9 [1]) sHead
     t.f (HL_ERRCNT_FRAME_BAD 9) = 1 ∧ t.b (FLT_SRC_LATCHED 50) = true) ∧
    (after (.senseRx 9 (senseF 100 4)) (put [])).regs = (put []).regs := by decide +kernel

theorem test_head_commands :
    (let t := after (.clrInhibit 16 9) { (ul 7 (put [(FH_STAT_INHIBITED 9, 1), (FH_TEMP_V_MEAS 9, 5), (FH_TEMP_T_PEAK 9, 0x31F), (FH_VWIN_V_LO 9, 0),
       (FH_VWIN_V_HI 9, 5)])) with heads := [(9, { senseAt := some 0 })] }
     (t.head 9).clearing = true ∧ t.b (FH_STAT_INHIBITED 9) = true) ∧
    (let t := after (.clrInhibit 16 9) (ul 7 (put [(FH_STAT_INHIBITED 9, 1), (FH_TEMP_T_PEAK 9, 0x320)]))
     t.b (FH_STAT_CFG_ERROR 9) = true ∧ (t.head 9).clearing = false) ∧
    (let t := after (.forceInhibit 16 9) (put [])
     t.b (FH_CTRL_FORCE_INHIBIT 9) = true ∧ t.b (FH_STAT_INHIBITED 9) = true ∧ t.f (FH_STAT_CAUSE 9) = 4) := by decide +kernel

theorem witness_clear : (ul 7 (put [(FH_STAT_INHIBITED 9, 1)])).granted 16 (FH_CTRL 9) := by unfold State.granted; decide +kernel

/-! Head lanes -/

/-- Lane 9 with 512 nozzles from nozzle 32768 of its pipeline. -/
def sLane (l : List (Field × Nat) := []) : State := ul 8 (put ([(HL_NOZ_NBASE 9, 32768), (HL_NOZ_COUNT 9, 512)] ++ l))

theorem witness_lane : sLane.granted 16 (HL_CTRL 9) := by unfold State.granted; decide +kernel

theorem test_lane_enable :
    (let t := after (.laneEnable 16 9) { (sLane [(⟨FH_RISEZ 9 3, 31, 0⟩, 4), (VFY_LANE_THR_VALID 9, 1)]) with tb := 6, holds := [⟨32770, 0, none⟩] }
     t.b (HL_CTRL_ENABLE 9) = true ∧ t.f (HL_LINK_STATE 9) = 1 ∧ (t.lane 9).phase = .caps ∧ (t.lane 9).startedAt = 6 ∧
     t.rd (FH_RISEZ 9 3) = 0 ∧ t.holdList 1 = [] ∧ t.b (VFY_LANE_THR_VALID 9) = false) ∧
    (let t := after (.laneEnable 16 9) (sLane [(HL_CTRL_ENABLE 12, 1), (HL_NOZ_NBASE 12, 33000), (HL_NOZ_COUNT 12, 1)])
     t.b (HL_CTRL_ENABLE 9) = false ∧ t.b (HL_STAT_CFG_ERROR 9) = true ∧ t.rn (FLT_INFO 54) = 9 ∧ t.b (FLT_SRC_LATCHED 54) = true) ∧
    (let t := after (.laneEnable 16 9) (sLane [(DCD_CTRL_STATE 0, 1)])
     t.b (HL_CTRL_ENABLE 9) = false ∧ t.b (FLT_SRC_LATCHED 58) = true) ∧
    (let t := after (.laneEnable 16 9) (sLane [(HL_NOZ_NBASE 9, 0), (HL_NOZ_COUNT 9, 0)])
     t.b (HL_CTRL_ENABLE 9) = false ∧ t.b (FLT_SRC_LATCHED 54) = true ∧ t.b (FLT_SRC_LATCHED 58) = true) ∧
    (let t := after (.laneEnable 16 9) (sLane [(SYS_PWR_CTRL_PARKED, 1)])
     t.b (HL_CTRL_ENABLE 9) = true ∧ t.f (HL_LINK_STATE 9) = 0 ∧ (t.lane 9).phase = .off) := by decide +kernel

/-- Lane 9 UP with its lease, one slice in flight. -/
def sUp (l : List (Field × Nat) := []) (x : Lane := {}) : State :=
  lanes9 { x with phase := .up } (sLane ([(HL_CTRL_ENABLE 9, 1), (HL_LINK_STATE 9, 2), (HL_LEASE_STATE 9, 2), (⟨HL_EPOCH 9, 31, 0⟩, 0x123)] ++ l))

theorem test_lane_commands :
    (let t := after (.laneDisable 16 9) (sUp [] { slices := [slice0 7] })
     t.b (HL_CTRL_ENABLE 9) = false ∧ t.f (HL_LINK_STATE 9) = 0 ∧ t.f (HL_LEASE_STATE 9) = 0 ∧ (t.lane 9).phase = .off ∧ (t.lane 9).slices = [] ∧
     t.out = [.abort 9 0x13]) ∧
    (let t := after (.release 16 9) (sUp [] { slices := [slice0 7], leaseAt := some 4 })
     t.f (HL_LEASE_STATE 9) = 3 ∧ (t.lane 9).leaseAt = none ∧ (t.lane 9).slices.map (fun c => (c.blank, c.leased, c.framed)) = [(true, false, 0)] ∧
     t.out = [.frame 9 3 [3, 0, 0, 0, 0x23, 1, 0, 0], .abort 9 0x13]) ∧
    ((after (.reneg 16 9) sUp).lane 9).phase = .caps ∧ (after (.reneg 16 9) sUp).f (HL_LINK_STATE 9) = 1 ∧
    (after (.acquire 16 9) sLane).b (HL_CTRL_ACQUIRE 9) = true ∧ (after (.acquire 16 9) (sLane [(TWIN_STATE_ROLE, 3)])).b
        (HL_CTRL_ACQUIRE 9) = false := by
  decide +kernel

/-- The CAP of the bridge of lane 9. -/
def cap9 (flags : Nat := 0) (fire : Byte := 3) : List Byte := [1, 3, 3, 1, 7, fire, 1, BitVec.ofNat 8 flags] ++ leBytes 2 512 ++ zeros 6

/-- Lane 9 negotiating, 25 ms after TIMEBASE 0. -/
def negS (x : Lane) : State := { (lanes9 x (sLane [(HL_CTRL_ENABLE 9, 1), (HL_LINK_STATE 9, 1)])) with tb := 20000000 }

theorem test_negotiation_caps :
    capOk (cap9) = true ∧
    (let s := negS { phase := .caps }
     (after (.capTx 9) s).out = [.frame 9 2 (s.capBytes 9 (s.ownMasks 9) 0)] ∧ (s.capBytes 9 (s.ownMasks 9) 0).length = 16) ∧
    (let s := negS { phase := .caps, lastCap := cap9, capSame := 2 }
     let t := after (.capRx 9 cap9) s
     s.pickMode 9 3 cap9 = some (1, [2, 2, 1, 4, 2]) ∧ (t.lane 9).phase = .selecting ∧ (t.lane 9).rate = 1 ∧ (t.lane 9).sel = [2, 2, 1, 4, 2] ∧
     t.regBytes (HL_PCAP 9 0) 16 = cap9) ∧
    (let t := after (.capRx 9 (cap9 0 1)) (negS { phase := .caps, lastCap := cap9 0 1, capSame := 2 })
     (t.lane 9).phase = .failed ∧ t.f (HL_LINK_STATE 9) = 3 ∧ t.b (FLT_SRC_LATCHED 49) = true) ∧
    (let t := after (.capRx 9 ([1, 1, 2, 1, 1, 2, 1, 2] ++ leBytes 2 512 ++ zeros 6)) (negS { phase := .selecting, sel := [1, 2, 1, 1, 2] })
     (t.lane 9).phase = .switching ∧ (t.lane 9).switchAt = 20000000) ∧
    (let t := after (.capRx 9 [1]) (negS { phase := .selecting })
     (t.lane 9).phase = .selecting ∧ t.f (HL_ERRCNT_FRAME_BAD 9) = 1) := by decide +kernel

theorem test_negotiation_switch :
    (let t := after (.rateSwitch 9) (negS { phase := .switching })
     (t.lane 9).phase = .echoing ∧ t.out = [.frame 9 1 []]) ∧
    (after (.rateSwitch 9) (negS { phase := .caps })).lanes = (negS { phase := .caps }).lanes ∧
    (after (.rateSwitch 9) (negS { phase := .switching, switchAt := 19992001 })).out = [] ∧
    (let t := after (.negFallback 9) (negS { phase := .echoing, rate := 1, peerCap := cap9 })
     (t.lane 9).phase = .selecting ∧ (t.lane 9).rate = 0) ∧
    (let t := after (.negFallback 9) (negS { phase := .echoing, rate := 0, peerCap := cap9 })
     (t.lane 9).phase = .failed ∧ t.b (HL_STAT_NEG_FAIL 9) = true) ∧
    (after (.negFallback 9) (negS { phase := .echoing, switchAt := 19200001 })).lanes = (negS { phase := .echoing, switchAt := 19200001 }).lanes ∧
    ((after (.negTimeout 9) (negS { phase := .caps, startedAt := 4000000 })).lane 9).phase = .failed ∧
    ((after (.negTimeout 9) (negS { phase := .caps, startedAt := 4000001 })).lane 9).phase = .caps ∧
    (let t := after (.negTimeout 65) { (negS {}) with twin := { lanes := [(1, { phase := .caps })] } }
     (t.basaltLane 1).phase = .failed ∧ t.b (FLT_SRC_LATCHED 116) = true) := by decide +kernel

theorem test_lane_loss :
    (let t := after (.linkLockLoss 9) sUp
     t.f (HL_LINK_STATE 9) = 1 ∧ (t.lane 9).phase = .caps ∧ (t.lane 9).lost = true ∧ t.f (HL_LEASE_STATE 9) = 0 ∧ t.b (HL_STAT_LINK_DOWN 9) = true ∧
     t.b (FLT_SRC_LIVE 48) = true ∧ t.b (FLT_SRC_LATCHED 48) = true) ∧
    (let t := after (.upstreamSilence 9) sUp
     t.f (HL_LINK_STATE 9) = 1 ∧ t.b (FLT_SRC_LIVE 48) = true) ∧
    (after (.linkLockLoss 10) sUp).regs = sUp.regs ∧
    (let t := after (.linkLockLoss 65) { (put [(TWIN_STATE_LANES_UP, 3)]) with twin := { lanes := [(0, { phase := .up }), (1, { phase := .up })] } }
     (t.basaltLane 1).phase = .caps ∧ t.f TWIN_STATE_LANES_UP = 1 ∧ t.b (FLT_SRC_LIVE 112) = true) ∧
    (let t := after (.badFrameRx 9 none) (put [(HL_ERRCNT_FRAME_BAD 9, 65535)])
     t.f (HL_ERRCNT_FRAME_BAD 9) = 65535 ∧ t.b (FLT_SRC_LATCHED 50) = true ∧ t.rn (FLT_INFO 50) = 9) := by decide +kernel

/-- A slice of 257 decisions, whose first 256 have gone. -/
def slice1 : Slice := { slice0 0x10007 with handed := true, decisions := zeros 256 |>.map (fun _ => 5) , framed := 0 }

theorem test_lane_frames :
    (after (.idleTx 9) sUp).out = [.frame 9 1 []] ∧
    (let c := { slice0 0x10007 with handed := true, decisions := List.replicate 256 5 ++ [0x3FFF, 9], framed := 1 }
     let s := sUp [(HL_NOZ_COUNT 9, 258)] { slices := [c] }
     let p := s.firePayload 9 c 256
     let t := after (.fireTx 9 0) s
     s.mayFire 9 = true ∧ t.out = [.frame 9 0x10 p] ∧ leAt p 0 4 = 0x10007 ∧ leAt p 4 4 = 0x123 ∧ leAt p 8 2 = 256 ∧ p.length = 72 ∧
     bits (ofLe (slice p 16 56)) 27 14 = 9 ∧ (t.lane 9).slices = [{ c with framed := 2, framesDone := true }]) ∧
    (let c := { slice0 0x10007 with handed := true, framesDone := true }
     let s := sUp [(⟨DCD_LINE 0, 31, 0⟩, 0x10008)] { slices := [c, slice0 0x10008] }
     let t := after (.syncTx 9) s
     t.out = [.sync 9 7 0 0x123] ∧ (t.lane 9).slices = [slice0 0x10008]) ∧
    (let s := sUp [(HL_LEASE_STATE 9, 1)] { slices := [slice1] }
     (after (.fireTx 9 1) s).lanes = s.lanes ∧ (after (.syncTx 9) s).lanes = s.lanes ∧ (after (.fireTx 9 1) s).out = []) := by decide +kernel

theorem test_leases :
    (let t := after (.leaseRequestTx 9) { (sUp [(HL_LEASE_STATE 9, 0), (HL_CTRL_ACQUIRE 9, 1)]) with tb := 5 }
     t.f (HL_LEASE_STATE 9) = 1 ∧ (t.lane 9).lastAsk = some 5 ∧ t.out = [.frame 9 3 [1, 0, 0, 0, 0, 0, 0, 0]]) ∧
    (after (.leaseRequestTx 9) sUp).out = [] ∧
    (let t := after (.leaseRenewTx 9) { sUp with tb := 5 }
     (t.lane 9).lastAsk = some 5 ∧ t.out = [.frame 9 3 [2, 0, 0, 0, 0x23, 1, 0, 0]]) ∧
    (let t := after (.leaseGrantRx 9 0x77) (sUp [(HL_LEASE_STATE 9, 1), (HL_CTRL_ACQUIRE 9, 1)] { lastAsk := some 3 })
     t.f (HL_LEASE_STATE 9) = 2 ∧ t.rd (HL_EPOCH 9) = 0x77 ∧ t.b (HL_STAT_GRANTED 9) = true ∧ (t.lane 9).leaseAt = some 3 ∧
         (t.lane 9).lastAsk = none) ∧
    (after (.leaseGrantRx 9 0x77) sUp).lanes = sUp.lanes ∧
    ((after (.leaseRenewedRx 9 0x123) (sUp [] { lastAsk := some 3 })).lane 9).leaseAt = some 3 ∧
    (after (.leaseRenewedRx 9 0x124) (sUp [] { lastAsk := some 3 })).lanes = (sUp [] { lastAsk := some 3 }).lanes := by decide +kernel

theorem test_lease_ends :
    let lost (t : State) : Bool := t.f (HL_LEASE_STATE 9) = 0 && !t.b (HL_CTRL_ACQUIRE 9) && t.b (HL_STAT_LEASE_LOST 9) && t.b (FLT_SRC_LATCHED 52) &&
      (t.lane 9).slices.all fun c => c.blank && c.framed = 0
    lost (after (.leaseNoLeaseRx 9 1) (sUp [(HL_CTRL_ACQUIRE 9, 1)] { slices := [slice0 7] })) = true ∧
    (after (.leaseNoLeaseRx 9 1) sUp).b (HL_STAT_BRIDGE_RESET 9) = true ∧
    (let t := after (.leaseDenyRx 9 true 0x44) (sUp [(HL_LEASE_STATE 9, 1)] { lastAsk := some 3 })
     t.b (HL_LEASE_HOLDER_ID 9) = true ∧ t.f (HL_LEASE_REMAIN 9) = 0x44 ∧ t.b (HL_STAT_DENIED 9) = true ∧ t.b (FLT_SRC_LATCHED 53) = true ∧
     (t.lane 9).lastAsk = none) ∧
    (after (.leaseReleasedRx 9) (sUp [(HL_LEASE_STATE 9, 3)])).f (HL_LEASE_STATE 9) = 0 ∧ (after (.leaseReleasedRx 9) sUp).regs = sUp.regs ∧
    lost (after (.leaseExpire 9) { (sUp [] { slices := [slice0 7], leaseAt := some 10 }) with tb := 1440010 }) = true ∧
    (after (.leaseExpire 9) { (sUp [] { leaseAt := some 10 }) with tb := 1440009 }).regs = sUp.regs := by decide +kernel

theorem test_bridge_access :
    let s := sUp [(⟨HL_CX_ADDR 9, 31, 0⟩, 0x1236), (⟨HL_CX_WDATA 9, 31, 0⟩, 0xAB)] { ctrlTag := 7 }
    let w (u : CtrlUse) : State := sUp [(HL_CX_CMD_BUSY 9, 1)] { ctrl := [⟨7, 0, u⟩] }
    (let t := after (.cxRead 16 9) s
     t.b (HL_CX_CMD_BUSY 9) = true ∧ t.f (HL_CX_CMD_OP 9) = 1 ∧ (t.lane 9).ctrl = [⟨7, 0, .cxRead⟩] ∧
     t.out = [.frame 9 4 [1, 7, 1, 0, 0x34, 0x12, 0, 0]]) ∧
    (let t := after (.cxWrite 16 9) s
     t.f (HL_CX_CMD_OP 9) = 2 ∧ t.out = [.frame 9 4 [2, 7, 1, 0, 0x34, 0x12, 0, 0, 0xAB, 0, 0, 0, 0, 0, 0, 0]]) ∧
    (let t := after (.cxRead 16 9) (w .cxRead)
     t.b (HL_CX_CMD_BUSY 9) = true ∧ t.f (HL_CX_CMD_OP 9) = 1 ∧ t.lanes = (w .cxRead).lanes ∧ t.out = []) ∧
    (let t := after (.ctrlReplyRx 9 7 0 0x99) (w .cxRead)
     t.b (HL_CX_CMD_BUSY 9) = false ∧ t.f (HL_CX_CMD_STATUS 9) = 0 ∧ t.rd (HL_CX_RDATA 9) = 0x99 ∧ (t.lane 9).ctrl = []) ∧
    (after (.ctrlReplyRx 9 7 200 0x99) (w .cxWrite)).f (HL_CX_CMD_STATUS 9) = 3 ∧
    (after (.ctrlReplyRx 9 8 0 0x99) (w .cxRead)).lanes = (w .cxRead).lanes ∧
    (let t := after (.ctrlTimeout 9) { (w .cxRead) with tb := 80000 }
     t.b (HL_CX_CMD_BUSY 9) = false ∧ t.f (HL_CX_CMD_STATUS 9) = 4 ∧ t.b (FLT_SRC_LATCHED 56) = true ∧ (t.lane 9).ctrl = []) ∧
    (after (.ctrlTimeout 9) { (w .cxRead) with tb := 79999 }).lanes = (w .cxRead).lanes := by decide +kernel

/-! Drop verification -/

/-- A test line of nozzle 40 in dot period 7. -/
def vline : TestLine := { period := 7, item := 5, fired := [(40, 0)], inhibited := false, noThr := false }

/-- Lane 3 UP with that test line, its gate the local gate 2. -/
def vlaneS : State := (put [(HL_LINK_STATE 3, 2), (VFY_LANE_LOCAL 3, 1), (VFY_LANE_LGATE 3, 2), (VFY_LGATE_LANE 2, 3), (VFY_LGATE_EN 2, 1),
  (HL_NOZ_NBASE 3, 32), (VFY_CLS_DEPTH_WEAK 0, 100), (VFY_VEL_T_REF 3, 50), (VFY_RESQ_WR 3, 63), (VFY_RESQ_RD 3, 40), (⟨VFY_LEVELS 3 0, 27, 16⟩,
      200)]).setVLane 3 { tests := [vline] }

/-- A VERIFY frame of the line: one event of nozzle 40. -/
def vframe (flags depth tr : Nat) : List Byte := leBytes 4 7 ++ [0, 1, 0, 0] ++ leBytes 2 8 ++ [0,
    BitVec.ofNat 8 flags] ++ leBytes 2 depth ++ leBytes 2 tr

theorem witness_verification :
    (vlaneS.vlane 3).tests = [vline] ∧ vlaneS.item? 5 = none ∧ vlaneS.role ≠ 3 ∧ vlaneS.anchorGain 2 = 0x4000 ∧ vlaneS.f (CAL_ADCOFS_OFS_A 2) = 0 ∧
    vlaneS.b (VFY_LGATE_INVERT 2) = false ∧ vlaneS.asleep = false ∧ verifyFrameOk (vframe 0 9 8) = true ∧ leAt (vframe 0 9 8) 4 1 = 0 ∧
    leAt (vframe 0 9 8) 5 1 = 1 := by decide +kernel

/-- The result record of nozzle 40 with class c. -/
def recd (t : State) (c : Nat) : Bool := t.mem = [] ∧ (t.vlane 3).tests = [] ∧ t.f (VFY_RESQ_WR 3) = 0 ∧ t.rn (VFY_RING 3 124) = 7 ∧
  t.rn (VFY_RING 3 125) = 40 + 0x400000 * c

/-- Holds of pipeline 1, one of them with an end. -/
def hs : State := { ({} : State) with holds := [⟨32768 + 5, 0, none⟩, ⟨32768 + 6, 0, none⟩, ⟨32768 + 5, 0, some 4⟩] }

theorem test_hold_release :
    hs.busUp 16 VFY_HOLD_REL = true ∧ let t := after (.holdRelease 16 (32773#32 + 0x40000)) hs; t.regs = hs.regs ∧ t.holdList 1 = [32774] ∧
    t.holdList 0 = [] := by decide +kernel

/-- A gap of two dark lines from 0xFFFFFFFF. -/
def gap0 : Gap :=
    { item := 0, g := 0, clear := 0, dark := 2, settle := 0, m := 1, n := 1, det := 0, win := 0, cls := 0, darkFrom := 0xFFFFFFFF, testFrom := 0 }

/-- Lane 3 in that gap. -/
def gs : State := (vlaneS.setVLane 3 { gap := some gap0 })

theorem test_local_gate_window :
    (let t := after (.localGateWindow 2 true [[4000, 199, 3]]) vlaneS
     recd t 2 = true ∧ t.b (VFY_LSTAT_MISS 3) = true) ∧
    (let t := after (.localGateWindow 2 false [[1,2]]) gs
     t.vlane 3 = { gap := some { gap0 with raws := [(0xFFFFFFFF, 0, [1,2])] } } ∧ t.regs = gs.regs) := by decide +kernel

/-- A RAW frame with one level throughout. -/
def rawf (line : Nat) (v : Nat) : List Byte := leBytes 4 line ++ [1, 1, 0, 0] ++ zeros 8 ++ (List.range 64).flatMap fun _ => leBytes 2 v

/-- The gap with a sample at the end of the scale. -/
def gs2 : State := (vlaneS.setVLane 3 { gap := some { gap0 with raws := [(0xFFFFFFFF, 0, [4095])] } })

theorem test_verify_rx :
    (let t := after (.verifyRx 3 (vframe 0 0 0)) vlaneS
     recd t 2 = true ∧ t.b (VFY_LSTAT_MISS 3) = true ∧ t.b (FLT_SRC_LATCHED 64) = true ∧ 40 ∈ t.holdList 0) ∧
    (let t := after (.verifyRx 3 (vframe 1 99 1)) vlaneS
     recd t 1 = true ∧ t.holds = [] ∧ t.f (VFY_LCNT_WEAKS 3) = 1) ∧
    (let t := after (.verifyRx 3 (vframe 1 100 50)) vlaneS
     recd t 0 = true ∧ t.holds = []) ∧
    (let t := after (.verifyRx 3 (vframe 0 0 0 |>.set 0 8)) vlaneS
     t.b (VFY_LSTAT_NO_REPORT 3) = true ∧ t.vlanes = vlaneS.vlanes ∧ (t.wr (VFY_LSTAT 3) 0).regs = vlaneS.regs) ∧
    (let t := after (.verifyRx 3 []) vlaneS
     t.b (FLT_SRC_LATCHED 50) = true ∧ t.f (HL_ERRCNT_FRAME_BAD 3) = 1) ∧
    (let p := rawf 0 9
     verifyFrameOk p = true ∧ lineDiff (leAt p 0 4) gap0.darkFrom = 1 ∧
     (let t := after (.verifyRx 3 p) gs; (t.vlane 3).gap = some { gap0 with raws := [(0, 0, List.replicate 64 9)] } ∧ t.regs = gs.regs)) ∧
    (let t := after (.verifyRx 3 (rawf 0 9)) gs2
     t.b (VFY_LSTAT_CAL_ABORT 3) = true ∧ t.f (VFY_LSTAT_ABORT_REASON 3) = 2 ∧ t.b (FLT_SRC_LATCHED 68) = true) := by decide +kernel

/-! Motion -/

/-- Axis 2 IDLE at 77. -/
def ax : State := ul 10 (put [(MOT_CFG_KIND 2, 1), (MOT_CFG_FB 2, 15), (MOT_POS_LO_POS 2, 77), (MOT_STATE_STATE 2, 1)])

/-- The axis enabled. -/
def axOn : State := ax.setB (MOT_CTRL_ENABLE 2) true

theorem witness_axis :
    (ax.consume 16 (MOT_CTRL 2)).1 = true ∧ ax.busUp 16 (MOT_CTRL 2) = true ∧ ax.latchedAtLeast 3 = false ∧ ax.groupOf 2 = none := by decide +kernel

theorem test_axis_enable :
    (let t := after (.axisEnable 16 2) ax
     t.b (MOT_CTRL_ENABLE 2) = true ∧ t.f (MOT_STATE_STATE 2) = 1 ∧ (t.axis 2) = { ax.axis 2 with x0 := 77, loaded := true }) ∧
    (let t := after (.axisEnable 16 3) ax
     t.b (MOT_CTRL_ENABLE 3) = false ∧ t.b (MOT_STAT_CFG_ERROR 3) = true) := by decide +kernel

/-- ENABLE in the ramp of an S4 stop: the axis goes on slowing down (log 97). -/
theorem test_axis_enable_in_a_ramp :
    let t := after (.axisEnable 16 2) ((ax.setF (MOT_STATE_STATE 2) 3).setAxis 2 { moving := true, v := -5, ramp := .quick })
    t.b (MOT_CTRL_ENABLE 2) = true ∧ t.f (MOT_STATE_STATE 2) = 3 ∧
    t.axis 2 = { moving := true, v := -5, ramp := .quick, x0 := 77, loaded := true } := by decide +kernel

theorem test_axis_go :
    (let t := after (.axisGo 16 2) axOn
     t.f (MOT_STATE_STATE 2) = 2 ∧ t.axis 2 = { moving := true, seek := true } ∧ (t.setF (MOT_STATE_STATE 2) 1).regs = axOn.regs) ∧
    (let t := after (.axisGo 16 3) ax
     t.b (MOT_STAT_CFG_ERROR 3) = true ∧ t.b (FLT_SRC_LATCHED 85) = true ∧ t.rn (FLT_INFO 85) = 3) := by decide +kernel

/-- Axis 2 moving backward. -/
def mv : State := ax.setAxis 2 { moving := true, v := -5 }

theorem test_axis_stop :
    let t := after (.axisStop 16 2) mv
    t.f (MOT_STATE_STATE 2) = 3 ∧ t.axis 2 = { moving := true, v := -5, ramp := .stop } := by decide +kernel

theorem test_axis_qstop :
    let t := after (.axisQstop 16 2) mv
    t.f (MOT_STATE_STATE 2) = 3 ∧ t.axis 2 = { moving := true, v := -5, ramp := .quick } := by decide +kernel

theorem test_axis_home :
    let t := after (.axisHome 16 2) axOn
    t.f (MOT_STATE_STATE 2) = 4 ∧ t.axis 2 = { moving := true, homing := .fast } := by decide +kernel

theorem test_mot_pos_write :
    (let t := after (.motPosWrite 16 2 (-3)) ax
     t.rdS64 (MOT_POS_LO 2) = -3 ∧ t.axis 2 = { x0 := -3, loaded := true }) ∧
    (let t := after (.motPosWrite 16 3 (-3)) ax
     t.b (MOT_STAT_CFG_ERROR 3) = true ∧ t.rdS64 (MOT_POS_LO 3) = 0) := by decide +kernel

/-- With its limit inputs in use. -/
def lim : State := mv.setB (MOT_CFG_LIM_EN 2) true

theorem test_limit_trip :
    (let t := after (.limitTrip 2 true true) lim
     t.b (MOT_STAT_LIMIT 2) = true ∧ t.b (FLT_SRC_LATCHED 81) = true ∧ (t.axis 2).ramp = .quick ∧ t.f (MOT_STATE_STATE 2) = 3 ∧
     t.b (MOT_STATE_LIMN_IN 2) = true) ∧
    (let t := after (.limitTrip 2 false true) mv
     (t.axis 2).ramp = .none ∧ t.b (MOT_STATE_LIMP_IN 2) = true ∧ (t.axis 2).limP = true) ∧
    (let t := after (.limitTrip 2 true false) ((lim.setB (MOT_CFG_LIM_INV 2) true).modAxis 2 fun y => { y with limN := true })
     t.b (MOT_STAT_LIMIT 2) = true ∧ t.b (MOT_STATE_LIMN_IN 2) = true ∧ (t.axis 2).limN = false) ∧
    (let t := after (.limitTrip 2 true true) (lim.setF (MOT_HCFG_DEB 2) 4)
     t.b (MOT_STAT_LIMIT 2) = false ∧ (t.axis 2).limNAt = some 0 ∧ (after .planningTick { t with tb := 3200 }).b (MOT_STAT_LIMIT 2) = true) ∧
    (let h : Axis := { moving := true, homing := .fast }
     ((after (.limitTrip 2 false true) (ax.setAxis 2 h)).axis 2).homing = .fastTurn ∧
     (after (.limitTrip 2 false true) (ax.setAxis 2 { h with homeTurned := true })).f (MOT_STAT_HFAULT_CAUSE 2) = 1) := by decide +kernel

/-- Homing, in its fast phase. -/
def hm : State := ax.setAxis 2 { moving := true, homing := .fast }

theorem test_home_edge :
    (let t := after (.homeEdge 2 true true) (hm.setF (MOT_HCFG_CHAT_MAX 2) 1)
     (t.axis 2) = { moving := true, homing := .backStop, homeToggles := [0], home := true, homeRaw := 77 } ∧ t.rdS64 (MOT_HLATCH_LO 2) = 77) ∧
    (let t := after (.homeEdge 2 false true) ((ax.setB (MOT_CFG_HOME_INV 2) true).setAxis 2 { home := true })
     t.b (MOT_STATE_HOME_IN 2) = true ∧ t.rdS64 (MOT_HLATCH_LO 2) = 77) ∧
    (let z := ax.setF (MOT_HCFG_DEB 2) 4
     let t := after (.homeEdge 2 true false) z
     t.regs = z.regs ∧ (t.axis 2) = { homeRaw := 77 }) ∧
    (let t := after (.homeEdge 2 true false) ((hm.setF (MOT_HCFG_CHAT_MAX 2) 1).setAxis 2 { homing := .slow, homeToggles := [0] })
     t.f (MOT_STAT_HFAULT_CAUSE 2) = 3 ∧ t.b (FLT_SRC_LATCHED 82) = true ∧ t.f (MOT_STATE_STATE 2) = 3) := by decide +kernel

/-- Group 1 of axes 2 and 5, both IDLE. -/
def gr : State := put [(MOT_CFG_KIND 2, 1), (MOT_CFG_KIND 5, 1), (MOT_CTRL_ENABLE 2, 1), (MOT_CTRL_ENABLE 5, 1), (MOT_STATE_STATE 2, 1),
    (MOT_STATE_STATE 5, 1), (GRP_CFG_MEMBERS 1, 36),
    (MOT_TARGET_LO_TARGET 2, 5), (MOT_TARGET_LO_TARGET 5, 9)]

/-- The group on its path. -/
def gr2 : State := after (.groupGo 16 1) gr

theorem test_group_go :
    gr.members 1 = [2, 5] ∧ let t := after (.groupGo 16 1) gr; (t.group 1).active = true ∧
    (t.group 1).parts = [(2, 0, 5 * 0x100000000), (5, 0, 9 * 0x100000000)] ∧ (t.group 1).lead = 5 ∧ t.f (GRP_STAT_LEAD 1) = 5 ∧
    (t.group 1).length = 9 * 0x100000000 ∧ t.groupOf 5 = some 1 ∧ t.f (MOT_STATE_STATE 5) = 2 ∧
    ((after (.groupGo 16 1) gr2).group 1).restart = true ∧ ((after (.groupGo 16 1) gr2).group 1).ramp = .stop ∧
    ((after (.groupStop 16 1) gr2).group 1).restart = false ∧ ((after (.axisQstop 16 5) gr2).group 1).ramp = .quick ∧
    (after (.axisHome 16 5) gr2).b (MOT_STAT_CFG_ERROR 5) = true ∧ (after (.axisGo 16 5) gr2).b (MOT_STAT_CFG_ERROR 5) = true ∧
    (after (.groupGo 16 2) gr2).b (GRP_STAT_CFG_ERROR 2) = true ∧ (after (.groupGo 16 2) gr2).b (FLT_SRC_LATCHED 85) = true ∧
    (after (.groupGo 16 2) gr2).rn (FLT_INFO 85) = 2 ∧
    (after (.groupGo 16 1) (put [(MOT_CFG_LIM_EN 5, 1), (MOT_STATE_LIMP_IN 5, 1)] gr2)).b (GRP_STAT_CFG_ERROR 1) = true := by decide +kernel

/-- A STOP of a member forces the loop that drives another one (R588). -/
theorem test_group_forces_loops :
    let s := put [(LP_CFG_DST_KIND 4, 2), (LP_CFG_DST_IDX 4, 2), (LP_CTRL_RUN 4, 1)] gr2
    let t := after (.axisStop 16 5) s
    s.groupOf 5 = some 1 ∧ (t.group 1).ramp = .stop ∧ t.b (LP_CTRL_RUN 4) = false ∧ t.b (LP_STAT_FORCED 4) = true := by decide +kernel

/-! Position feedback and emulation -/

/-- An unlock of the FEEDBACK block. -/
def f0 : State := ul 11 {}

theorem witness_feedback :
    (f0.consume 16 (FB_CTRL 3)).1 = true ∧ f0.busUp 16 (FB_CTRL 3) = true ∧ f0.f (FB_CFG_MODE 3) = 0 ∧ modeAllowed 3 0 = true ∧
    f0.fbLoadable 3 = true := by decide +kernel

theorem test_fb_enable :
    (let t := after (.fbEnable 16 3) f0
     t.b (FB_CTRL_EN 3) = true ∧ t.f (FB_LIVE_DET_MODE 3) = 1 ∧ t.b (FB_LIVE_LOW_SPEED 3) = true) ∧
    (let t := after (.fbEnable 16 9) (f0.setF (FB_CFG_MODE 9) 4 |>.setF (FB_CFG_IP_SH 9) 2)
     t.b (FB_CTRL_EN 9) = true ∧ (t.chan 9).detecting = true) ∧
    (let t := after (.fbEnable 16 3) (f0.setF (FB_CFG_MODE 3) 4)
     t.b (FB_CTRL_EN 3) = false ∧ t.b (FLT_SRC_LATCHED 93) = true ∧ t.rn (FLT_INFO 93) = 3 ∧ t.b (FB_STAT_CFG_ERROR 3) = true) := by decide +kernel

/-- Channel 3 in quadrature mode, an error limit of 1. -/
def on3 : State := put [(FB_CTRL_EN 3, 1), (FB_LIVE_DETECTED 3, 1), (FB_LIVE_DET_MODE 3, 1), (FB_ERRCFG_ERR_MAX 3, 1)]

theorem test_fb_disable :
    let t := after (.fbDisable 16 3) (ul 11 on3)
    t.b (FB_CTRL_EN 3) = false ∧ t.b (FB_LIVE_DETECTED 3) = false := by decide +kernel

theorem test_fb_pos_write :
    (let t := after (.fbPosWrite 16 3 (-7)) f0
     t.rdS64 (FB_POS_LO 3) = -7) ∧
    (let s := f0.setAxis 0 { geared := true }
     let s := s.setF (MOT_GCFG_MASTER 0) 3
     s.fbLoadable 3 = false ∧ let t := after (.fbPosWrite 16 3 (-7)) s; t.rdS64 (FB_POS_LO 3) = 0 ∧
         t.b (FB_STAT_CFG_ERROR 3) = true) := by decide +kernel

theorem test_emu_enable :
    let s := ul 11 (put [(EMU_CFG_SRC 1, 3), (FB_LIVE_DETECTED 3, 1), (⟨EMU_DEN 1, 31, 0⟩, 1)])
    let t := after (.emuEnable 16 1) s
    t.b (EMU_CFG_EN 1) = true ∧ (after (.emuEnable 16 2) (s.wn (EMU_DEN 2) 0)).b (FLT_SRC_LATCHED 93) = true := by decide +kernel

theorem test_encoder_edge :
    (let t := after (.encoderEdge 3 true false) on3
     t.rd64 (FB_POS_LO 3) = 1 ∧ (t.chan 3).edges = 1) ∧
    (let t := after (.encoderEdge 3 false true) on3
     t.rdS64 (FB_POS_LO 3) = -1) ∧
    (let t := after (.encoderEdge 3 true true) on3
     t.rdS64 (FB_POS_LO 3) = 0 ∧ t.f (FB_ERRCNT_ILLEGAL 3) = 1 ∧ t.b (FLT_SRC_LATCHED 88) = true ∧ (t.chan 3).errs = []) ∧
    (let t := after (.encoderEdge 3 true true) (on3.setF (FB_ERRCFG_ERR_MAX 3) 2)
     t.f (FB_ERRCNT_ILLEGAL 3) = 1 ∧ (t.chan 3).errs = [0]) := by decide +kernel

/-- Channel 9 in SINCOS mode, its window 100 to 1,000, gains 1. -/
def sc : State := (put [(FB_CTRL_EN 9, 1), (FB_LIVE_DETECTED 9, 1), (FB_LIVE_DET_MODE 9, 2), (FB_AMPWIN_AMP_LO 9, 100), (FB_AMPWIN_AMP_HI 9, 1000),
    (FB_LIVE_SIG_OK 9, 1),  (FB_LOSS_LOSS_N 9, 1)]).wr (FB_SCGAIN 9) 0x40004000#32

theorem test_sincos_sample :
    (let s : State := {}
     s.pairFix 9 (5#16, -6#16) = (5, -6) ∧ (after (.sincosSample 9 5 (-6)) s).rd (FB_SCRAW 9) = (-6#16) ++ 5#16) ∧
    (let t := after (.sincosSample 9 5 (-6)) sc
     t.b (FB_LIVE_SIG_OK 9) = false ∧ t.b (FLT_SRC_LATCHED 90) = true) ∧
    (let t := after (.sincosSample 9 5 (-6)) (sc.setF (FB_LOSS_LOSS_N 9) 2)
     t.b (FB_LIVE_SIG_OK 9) = true ∧ (t.chan 9).outRun = 1) := by decide +kernel

/-- The 256 pairs of an attempt, all alike. -/
def pairs (a b : BitVec 16) : List (BitVec 16 × BitVec 16) := List.replicate 256 (a, b)

/-- Channel 9 at its last detection attempt. -/
def dt : State := (put [(FB_CTRL_EN 9, 1),(FB_AMPWIN_AMP_LO 9, 100), (FB_AMPWIN_AMP_HI 9, 1000)]).setChan 9 { detecting := true, attempts := 7 }

theorem test_detect_attempt :
    (after (.detectAttempt 9 (pairs 20000 (-20000))) dt).f (FB_LIVE_DET_MODE 9) = 1 ∧
    (after (.detectAttempt 9 (pairs 200 (-20))) dt).f (FB_LIVE_DET_MODE 9) = 2 ∧
    (after (.detectAttempt 9 [(20000, -20000)]) dt).f (FB_LIVE_DET_MODE 9) = 0 ∧
    (let t := after (.detectAttempt 9 (pairs 20 (-20))) dt
     t.b (FLT_SRC_LATCHED 92) = true ∧ t.b (FB_CTRL_EN 9) = false) := by decide +kernel

theorem test_low_speed_timeout :
    (after (.lowSpeedTimeout 3) { on3 with tb := 800 * 70000 }).b (FB_LIVE_LOW_SPEED 3) = true := by decide +kernel

/-- Channel 3 at 250 with 100 lines a turn. -/
def ix : State := (on3.setB (FB_CFG_INDEX_EN 3) true).wn (FB_LPR 3) 100 |>.wn (FB_POS_LO 3) 250

theorem test_index_event :
    (let t := after (.indexEvent 3) ix
     t.rd64 (FB_IDXPOS_LO 3) = 250 ∧ t.rn (FB_IDXREF 3) = 50 ∧ t.b (FB_IDXCFG_REF_VALID 3) = true) ∧
    (let t := after (.indexEvent 3) ((ix.setB (FB_IDXCFG_REF_VALID 3) true).wn (FB_IDXREF 3) 60)
     t.rdS (FB_IDXDIFF 3) = -10 ∧ t.b (FB_STAT_IDX_MISMATCH 3) = true ∧ t.b (FLT_SRC_LATCHED 89) = true) := by decide +kernel

/-- Output 1 follows channel 3, 9 counts behind. -/
def em : State := { (put [(EMU_CFG_EN 1, 1), (EMU_CFG_SRC 1, 3), (⟨EMU_DEN 1, 31, 0⟩, 1), (⟨EMU_NUM 1, 31, 0⟩, 1), (⟨FB_POS_LO 3, 31, 0⟩, 9)]) with
    tb := 3000 }

theorem test_emu_step :
    em.emuTarget 1 = 9 ∧ let t := after (.emuStep 1) em; (t.emu 1).emitted = 1 ∧ t.out = [.emu 1 true] := by decide +kernel

/-! Loops, PWM, calibration and the Quartz store -/

/-- Loop 5 on timer 1, from channel 3 to PWM 2. -/
def l0 : State :=
    { (put [(LP_TMR_EN 1, 1), (LP_TMR_PERIOD 1, 10), (LP_CFG_TIMER 5, 1), (LP_CTRL_RUN 5, 1), (LP_CFG_SRC_MEAS 5, 3), (LP_CFG_SRC_REF 5, 255),
  (LP_CFG_DST_KIND 5, 1), (LP_CFG_DST_IDX 5, 2), (LP_REF_REF 5, 1000), (⟨FB_POS_LO 3, 31, 0⟩, 100), (LP_ACTIVE_VALUE 5 0, 3), (LP_ACTIVE_VALUE 5 7,
      1), (LP_ACTIVE_VALUE 5 9, 0xFFFFFFFF), (LP_ACTIVE_VALUE 5 10, 1200)]) with tb := 20 }

theorem witness_loop :
    (∀ i : Fin 32, l0.f (LP_CFG_TIMER i) = 1 ↔ i = 5) ∧ l0.loopOk 6 = true := by decide +kernel

theorem test_loop_tick :
    (let t := after (.loopTick 1) l0
     t.rdS (LP_E 5) = 900 ∧ t.rdS (LP_U 5) = 1350 ∧ t.rdS (LP_Y 5) = 1200 ∧ t.b (LP_LIVE_SAT 5) = true ∧ Map.get (fun _ => 0) t.pwmDuty 2 = 1200 ∧
     t.rdS (LP_YH 5 0) = 1350) ∧
    (let t := after (.loopTick 1) ((l0.setB (LP_CTRL_RUN 5) false).setB (LP_SHCTL_ARM 5) true |>.wn (LP_B 5 2) 9)
     t.rd (LP_ACTIVE 5 2) = 9 ∧ t.rd (LP_ACTIVE 5 10) = l0.rd (LP_OMAX 5) ∧ t.b (LP_SHCTL_ARM 5) = false) := by decide +kernel

theorem test_timer_start :
    let t := after (.timerStart 16 3) l0
    t.timerAt = [(0, 20), (1, 20)] ∧ t.regs = l0.regs := by decide +kernel

theorem test_loop_run :
    (after (.loopRun 16 6) l0).b (LP_LIVE_RUNNING 6) = true ∧
    (after (.loopRun 16 6) (l0.setF (LP_CFG_SRC_REF 6) 0x44)).b (FLT_SRC_LATCHED 8) = true ∧ (after (.loopStop 16 5) l0).b (LP_CTRL_RUN 5) = false ∧
    (after (.loopInit 16 6) (l0.wn (LP_YINIT 6) 4)).rd (LP_YH 6 2) = 4 := by decide +kernel

theorem test_pwm_period_start :
    (let t := after (.pwmPeriodStart 2) (l0.setB (PWM_CFG_EN 2) true |>.setF (PWM_PERIOD_CYCLES 2) 1000 |>.setF (PWM_DUTY_DUTY 2) 0x8000)
     t.out = [.pwm 2 1000 500] ∧ after (.pwmPeriodStart 2) t = t) ∧ (l0.pwmCfgWrite 2 1).pwmAt = [(2, 20)] := by decide +kernel

theorem test_cal_run :
    (after (.calRun 16 0x00020101) {}).cal.run = some ⟨1, 2, 0, 0, 0, []⟩ ∧ (after (.calRun 16 0x00020201) {}).b
        (FLT_SRC_LATCHED 76) = true := by decide +kernel

/-- A run of subject 1 on instance 2. -/
def cr : State := { cal := { run := some ⟨1, 2, 0, 0, 0, []⟩ } }

/-- A run of subject 2, 300 ms old. -/
def cr2 : State := { cal := { run := some ⟨2, 9, 0, 1, 8, [(1, 2)]⟩ }, tb := 800000 * 300 }

theorem test_cal_run_end :
    (after (.calRunEnd [(7, 0), (0x1007, 0)]) cr).cal = cr.cal ∧
    (let t := cr.adcRunEnd ⟨1, 2, 0, 0, 0, []⟩ [(7, 0), (0x1007, 0)]
     t.rn (CAL_ADC_STAGE 2) = 7 ∧ t.b CAL_STAT_DONE = true ∧ t.cal.staged = [258]) ∧
    (let t := cr.adcRunEnd ⟨1, 2, 0, 0, 0, []⟩ [(0xFFF, 0)]
     t.f CAL_STAT_REASON = 3 ∧ t.rn (FLT_INFO 74) = 2 ∧ t.cal.run = none) ∧
    (medMad [(0 : Int), 4000]).2 = 0 ∧ (medMad [(0 : Int), 1000, 4000]).2 = 1000 ∧
    let t := cr.adcRunEnd ⟨1, 2, 0, 0, 0, []⟩ [(0, 0), (1000, 0), (4000, 0)]; t.f CAL_STAT_REASON = 1 ∧
    cr2.f CAL_LIM_AMP_MIN ≠ 0 ∧ (after (.calRunEnd []) cr2).f CAL_STAT_REASON = 4 ∧
        (after .calTimeout { cr2 with cal := { run := some ⟨2, 9, 0, 1, 7, [(1, 2)]⟩ } }).f CAL_STAT_REASON = 5 := by decide +kernel

theorem test_cal_apply :
    (after (.calApply 16 258) {}).f CAL_APPLY_RESULT = 1 ∧ (after (.calApply 16 258) { cal := { staged := [258] } }).cal.armed = [⟨258, none, 0⟩] ∧
    (after (.calApply 16 258) { cal := { staged := [258], armed := [⟨258, none, 0⟩] } }).f CAL_APPLY_RESULT = 2 := by decide +kernel

/-- An armed nozzle set of one entry. -/
def nzs : State := { (put [(CAL_NZCFG_COUNT, 1), (CAL_NZBUF_NOZZLE 0, 9), (CAL_NZBUF_TRIM 0, 1023)]) with cal := { armed := [⟨771, none, 0⟩] } }

theorem test_nz_set_write :
    let t := after (.nzSetWrite 3) nzs
    t.nozzle 9 % 1024 = 1023 ∧ t.cal.armed = [] ∧ t.b CAL_STAT_SWAPPED = true ∧ onesBelow (t.nozzle 9) 64 % 2 = 0 := by decide +kernel

/-- Trigger 4 on a die temperature that has moved. -/
def tr : State := put [(CAL_TRIG_EN 4, 1), (CAL_TRIG_SET 4, 258), (CAL_DIETEMP_T, 500), (CAL_TRIG_DT 4, 1)]

theorem test_cal_trigger_eval :
    let t := after .calTriggerEval tr
    bitAt (t.rn CAL_DUE) 4 = true ∧ t.b (FLT_SRC_LATCHED 73) = true ∧
    (after .calTriggerEval (tr.setB (CAL_TRIG_AUTO 4) true)).cal.run = some ⟨1, 2, 0, 0, 0, []⟩ := by decide +kernel

/-- A good set in QZ_BUF. -/
def qs : State := { ({} : State).putBytes (QZ_BUF 0) (leBytes 4 0x00015A51 ++ leBytes 4 136 ++ [5, 6]) with unlocks := [(16, 13, 0)] }

theorem witness_quartz_program :
    qs.qzFree.head? = some 0 ∧ bitAt (qs.rn SYS_RAIL_STAT) 5 = true := by decide +kernel

/-- The set being programmed. -/
def qt : State := after (.qzProg 16) qs

theorem witness_quartz_programming :
    qt.quartz.prog = some 0 ∧ qt.b QZ_STAT_BUSY = true ∧ (let bs := qs.regBytes (QZ_BUF 0) 152; qt.qzSlot 0 = bs ++ leBytes 4
        (crc32 bs) ++ zeros 4) := by decide +kernel

theorem test_qz_prog :
    (after (.qzProg 16) { unlocks := [(16, 13, 0)] }).b (FLT_SRC_LATCHED 76) = true := by decide +kernel

theorem test_qz_prog_end :
    (let t := after (.qzProgEnd true) { ({} : State) with quartz := { prog := some 0 } }
     t.b QZ_STAT_PROG_DONE = true ∧ t.quartz.prog = none ∧ t.qz 159 = 0x51) ∧
    (let t := after (.qzProgEnd false) { ({} : State) with quartz := { prog := some 0 } }
     t.b QZ_STAT_PROG_FAIL = true ∧ t.b (FLT_SRC_LATCHED 77) = true) := by decide +kernel

/-! Faults -/

theorem test_fault_resume :
    (let t := after (.faultResume 16) (ul 3 (put [(FLT_STAT_SAFE_LEVEL, 4), (FLT_CTRL_ERR_HOLD, 0)]))
     t.f FLT_STAT_SAFE_LEVEL = 0 ∧ t.errPin = false) ∧
    (let t := after (.faultResume 16) (ul 3 (put [(FLT_STAT_SAFE_LEVEL, 4), (FLT_STAT_FAULT_IN_LOW, 1)]))
     t.f FLT_STAT_SAFE_LEVEL = 4 ∧ t.b FLT_STAT_RESUME_REFUSED = true) := by decide +kernel

theorem test_err_hold_release :
    let t := after (.errHoldRelease 16) (put [(FLT_CTRL_ERR_HOLD, 1)])
    t.b FLT_CTRL_ERR_HOLD = false ∧ t.errPin = true ∧ t.errRelease.isSome := by decide +kernel

theorem test_err_pulse_end :
    let t := after .errPulseEnd { (put [(FLT_STAT_ERR_N_LOW, 1), (FLT_CTRL_ERR_HOLD, 0)]) with errPulseEnd := some 5, tb := 5 }
    t.errPin = false := by decide +kernel

theorem test_fault_force :
    (let t := after (.faultForce 16 20) (ul 3 {})
     t.b (FLT_SRC_LATCHED 20) = true ∧ t.b (FLT_SRC_INJECTED 20) = true ∧ t.f (FLT_CNT_COUNT 20) = 1) ∧
    (let t := after (.faultForce 16 20) (ul 3 { fuses := { regulated := true } })
     t.b FLT_STAT_FORCE_REFUSED = true) := by decide +kernel

theorem test_sev_write :
    sourceDefined 20 = true ∧ sourceProtected 20 = false ∧ (after (.sevWrite 16 20 3) (ul 3 {})).f (FLT_CFG_SEV 20) = 3 ∧
    (after (.sevWrite 16 10 0) (ul 3 {})).b FLT_STAT_SEV_REFUSED = true := by decide +kernel

theorem test_flt_src_clear :
    let t := after (.fltSrcClear 16 20 0) (put [(FLT_SRC_LATCHED 20, 1), (⟨FLT_LATCH_SUM 0, 20, 20⟩, 1)])
    t.b (FLT_SRC_LATCHED 20) = false ∧ t.rd (FLT_LATCH_SUM 0) = 0 := by decide +kernel

theorem test_fault_in_assert :
    let t := after .faultInAssert (put [(MOT_CTRL_ENABLE 3, 1)])
    t.b (FLT_SRC_LIVE 10) = true ∧ t.b (FLT_SRC_LATCHED 10) = true ∧ t.b (MOT_CTRL_ENABLE 3) = false ∧ t.b FLT_STAT_FAULT_IN_LOW = true ∧
    (after .faultInRelease t).b (FLT_SRC_LIVE 10) = false ∧
    (after .faultInAssert { (put []) with power := { testEn := true } }).b FLT_STAT_FAULT_IN_LOW = false := by decide +kernel

/-! Fuses, tokens, images and the Geode -/

theorem test_fuse_program :
    (let t := after (.fuseProgram 16 8) (ul 0xE {})
     t.b SEC_STAT_FPROG_REFUSED = true ∧ t.sec.fprog = []) ∧
    (let t := after (.fuseProgram 16 3) (ul 0xE ((put []).wr (SEC_FDATA 0) 5#32))
     t.sec.fprog.map (fun x => (x.1, x.2.1, x.2.2.take 2)) = [(3, 0, [5, 0])] ∧ (after .fuseProgramDone t).fuses.rollback = 5) ∧
    (let t := after (.fuseProgram 16 5) (ul 0xE ({ (({}:State).wr (SEC_FDATA 0) 5#32) with fuses := { regulated := true } }))
     t.b SEC_STAT_FPROG_REFUSED = true) ∧
    (
       let t := after (.fuseProgram 16 7) (ul 0xE ({ (({}:State).wr (SEC_FDATA 0) 5#32) with
         fuses := { regulated := true }, sec := { tokens := [(1, 0)] } }))
     t.sec.tokens = [] ∧ t.sec.fprog.length = 1) := by decide +kernel

theorem witness_token_check :
    (put [(SEC_TOK_STAT_CONSEC, 2)]).f SEC_TOK_STAT_CONSEC = 2 ∧ (put [(SEC_TOK_STAT_CONSEC,
        2)]).reaches 16 SEC_TOK_CTRL := by unfold State.reaches; decide +kernel

theorem test_image_load :
    let t := after (.imageLoad 16 3) (ul 0xE (put [(SEC_LD_LEN_BYTES, 356)]))
    t.sec.load = some ⟨3, 0, 356⟩ ∧ t.b SEC_LD_STAT_BUSY = true := by decide +kernel

theorem test_image_load_done :
    let t := after (.imageLoadDone false) { (put [(SEC_LD_STAT_BUSY, 1), (MEMC_CH_STAT_TRAIN_STATE 0, 2), (MEMC_CH_STAT_CAPACITY 0, 1)]) with
        sec := { load := some ⟨3, 0, 356⟩ } }
    t.f SEC_LD_STAT_FAIL_CODE = 1 ∧ t.b (FLT_SRC_LATCHED 100) = true ∧ t.sec.load = none := by decide +kernel

/-- The header of a 4-byte code image for engine 3, the image and its signature. -/
def img : List Byte :=
  let body : List Byte := [1, 2, 3, 4]
  let h := [0x58, 0x49, 0x4D, 0x47] ++ leBytes 2 0 ++ leBytes 2 0x100 ++ [2, 0] ++ leBytes 2 8 ++ leBytes 4 0 ++ leBytes 4 0 ++ leBytes 4 0 ++ leBytes 4 4 ++ leBytes 4 0 ++ leBytes 4 0 ++ leBytes 4 8 ++ leBytes 8 0 ++ sha384 body
  slice h 0 256 ++ body ++ zeros 96

/-- A load of the image in progress. -/
def loaded : State := { ((put [(SEC_LD_STAT_BUSY, 1), (MEMC_CH_STAT_TRAIN_STATE 0, 2), (MEMC_CH_STAT_CAPACITY 0, 1)]).writeMem 0 img) with
    sec := { load := some ⟨3, 0, 356⟩ } }

theorem witness_image :
    loaded.imageCode false (loaded.readMem 0 356) = 0 ∧ imageLen (loaded.readMem 0 356) = 356 := by decide +kernel

theorem test_image_codes :
    let s := loaded
    s.imageCode true img = 1 ∧ s.imageCode false (img.set 6 1) = 2 ∧ s.imageCode false (img.take 355) = 2 ∧
    ({ s with fuses := { regulated := true } } : State).imageCode false img = 3 ∧
    ({ s with fuses := { regulated := true } } : State).imageCode true (img.set 8 1) = 8 ∧
    ({ s with fuses := { keyHash := [(0, List.replicate 48 1)] } } : State).imageCode false img = 3 ∧
    ({ s with fuses := { keyHash := [(0, sha384 (zeros 97))], revoke := 1 } } : State).imageCode false img = 4 := by decide +kernel

theorem witness_geode_granted :
    (ul 0xE {}).granted 16 GEO_CMD := by unfold State.granted; decide +kernel

theorem test_provision :
    let t := after (.provision 16) (ul 0xE { fuses := { devkeyUsed := 15 } })
    t.b GEO_STAT_PROV_REFUSED = true := by decide +kernel

theorem test_unwrap :
    (State.unwrap { geode := { kekLost := true } }).b (FLT_SRC_LATCHED 99) = true ∧ (State.unwrap {}).b (FLT_SRC_LATCHED 99) = false := by
  decide +kernel

theorem test_geo_unlock :
    let t := after (.geoUnlock 16) (ul 0xE { geode := { regLock := true }, sec := { tokens := [(3, 0)] } })
    t.geode.regLock = false ∧ t.sec.tokens = [] := by decide +kernel

theorem test_classc :
    (let t := after (.classc 16) (ul 0xE { fuses := { regulated := true } })
     t.b (FLT_SRC_LATCHED 98) = true ∧ t.geode.log.map (·.monitor) = [18]) ∧
    (let t := after (.classc 16) (ul 0xE {})
     t.b (FLT_SRC_LATCHED 98) = false ∧ t.geode.log.map (·.monitor) = [18]) := by decide +kernel

theorem test_tamper_sample :
    (let t := after (.tamperSample 0x33 2 0) { fuses := { regulated := true } }
     t.geode.active = 8 ∧ t.geode.log.map (·.monitor) = [3] ∧ t.b (FLT_SRC_LIVE 96) = true ∧ t.b (FLT_SRC_LATCHED 96) = true ∧
     t.f GEO_MON_ACTIVE = 8) ∧
    (let t := after (.tamperSample 0x33 0 100) (put [(FLT_SRC_LIVE 96, 1)])
     t.geode.active = 0 ∧ t.geode.log = [] ∧ t.b (FLT_SRC_LIVE 96) = false ∧ t.f CAL_DIETEMP_T = 100) ∧
    (let t := after (.tamperSample 0x13 0 3000) {}
     t.geode.active = 0x401 ∧ t.geode.log.length = 2) := by decide +kernel

theorem test_self_test :
    let t := after (.selfTest false) {}
    t.b SEC_STAT_SELFTEST_FAIL = true ∧ t.b (FLT_SRC_LATCHED 105) = true := by decide +kernel

/-! Ledger -/

/-- A nozzle record. -/
def rec0 : Rec := { kind := 0x200, aux := 1, source := 3, body := [7] }

/-- The known-answer tests have run. -/
def kat (s : State) : State := { s with ledger := { s.ledger with tested := true } }

/-- The ledger open. -/
def opened (l : Ledger) (s : State := {}) : State := { s with ledger := { l with isOpen := true, opened := true } }

theorem test_ledger_open :
    (let t := after (.ledgerOpen 16) (ul 0xE (put [(LG_CFG_RING_LOG2, 4)]))
     t.ledger.isOpen = false ∧ (after (.selfTest true) t).ledger.isOpen = true) ∧
    (let t := after (.ledgerOpen 16) (ul 0xE (kat (put [(LG_CFG_RING_LOG2, 4)])))
     t.ledger.isOpen = true ∧ t.b LG_STAT_IS_OPEN = true ∧ t.ledger.own.map (·.kind) = [1]) ∧
    (let t := after (.ledgerOpen 16) (ul 0xE (kat (put [(LG_CFG_RING_LOG2, 3)])))
     t.b LG_STAT_OPEN_REFUSED = true ∧ t.ledger.isOpen = false) ∧
    (
       let t := after (.ledgerOpen 16) (ul 0xE { (put [(LG_CFG_RING_LOG2, 4)]) with
         ledger := { tested := true, keyDue := [(1, [2])], own := [rec0] }, geode := { log := [⟨3,2,0,0,false⟩] }, sec := { measured := [⟨2, []⟩] } })
     t.ledger.own.map (·.kind) = [1,3,2,7,0x200] ∧ t.ledger.keyDue = [(1, [2])]) := by decide +kernel

theorem test_ledger_close :
    (let t := after (.ledgerClose 16) (ul 0xE (opened {}))
     t.ledger.own.map (·.kind) = [12]) ∧
    (let t := after (.ledgerClose 16) (ul 0xE (opened {} (put [(JQ_CTRL_ENABLE 3, 1)])))
     t.b LG_STAT_CLOSE_REFUSED = true ∧ t.ledger.own = []) := by decide +kernel

theorem test_lg_ring_hi_write :
    let t := after (.lgRingHiWrite 16 5#32) (ul 0xE { (put [(⟨LG_TAIL, 31, 0⟩, 9)]) with staged := [(LG_RING_LO, 7#32)] })
    t.rd LG_RING_LO = 7 ∧ t.rd LG_RING_HI = 5 ∧ t.rn LG_TAIL = 0 ∧ t.stagedAt LG_RING_LO = 0 := by decide +kernel

theorem test_cp_sig :
    let s := opened { signing := [(1023, [])] } { geode := { next := 1024 } }
    let t := after .cpSig s
    (t.ledger.buffer.map fun x => leAt x.1 0 2) = [10] ∧ t.ledger.own = [] ∧ t.ledger.signing = [] ∧
        (t.eng 3).pendingEv.getLsbD 4 = true := by decide +kernel

theorem test_ledger_send :
    let s := opened { buffer := [(leBytes 2 12 ++ zeros 126, zeros 48)] } (put [(LG_CFG_RING_LOG2, 4), (PCIE_LINK_STAT_LINK_UP, 1),
        (PCIE_LINK_STAT_BME, 1)])
    let t := after .ledgerSend s
    t.ledger.isOpen = false ∧ t.rn LG_TAIL = 1 ∧ t.ledger.buffer = [] := by decide +kernel

theorem test_ledger_accept :
    (let s := opened { own := [rec0] }
     let t := after .ledgerAccept s
     let b := recBytes 0x200 3 1 1 0 (zeros 48) [7]
     t.ledger.buffer = [(b, sha384 (zeros 48 ++ b))] ∧ t.ledger.own = [] ∧ t.geode.next = 2) ∧
    (let s := opened { own := [rec0] } { geode := { next := 1023 } }
     let t := after .ledgerAccept s
     (t.ledger.buffer.map fun x => leAt x.1 0 2) = [9] ∧ t.ledger.own = [rec0] ∧ t.ledger.signing.map (·.1) = [1023]) ∧
    (let s := opened { own := [rec0] } { geode := { next := 0x100000000 } }
     let t := after .ledgerAccept s
     t.fuses.hwm = 1 ∧ t.rn (SEC_FUSE 3) = 1 ∧ t.ledger.own = []) ∧
    (let s := opened { own := [rec0] } { geode := { next := 0x10000000000 } }
     let t := after .ledgerAccept s
     t.ledger.markFail = true ∧ t.b LG_STAT_STALL = true ∧ t.b (FLT_SRC_LIVE 101) = true) ∧
    (let s := opened { own := [{ rec0 with kind := 4 }], nozzle := List.replicate 7 [1] }
     let t := after .ledgerAccept s
     (t.ledger.buffer.map fun x => (leAt x.1 0 2, leAt x.1 4 4)) = [(5, 6)] ∧ t.ledger.nozzle.length = 1) ∧
    (let e : TamperEntry := ⟨17, 2, 5, 6, false⟩
     let t := after .ledgerAccept (opened { own := [e.record] } { geode := { log := [e], overflow := 3 } })
     t.geode.log = [{ e with appended := true }] ∧ t.geode.overflow = 0 ∧ (t.ledger.buffer.map fun x => slice x.1 32 3) = [[17, 2, 3]]) ∧
    (let t := (opened { own := [rec0, { rec0 with kind := 4 }], nozzle := List.replicate 5 [1] }).logNozzle 1 2 3 false
     t.ledger.own.map (·.kind) = [0x200, 5, 4] ∧ t.ledger.nozzle = []) ∧
    (let t := after .ledgerAccept (opened { own := [⟨4, 0, 0x10, [], some 5⟩] } { items := [itemOf 5 .queued] })
     t.item? 5 = none ∧ t.geode.next = 2) := by decide +kernel

/-! Ink supplies -/

/-- A response with its CRC. -/
def mk (st : Byte) (p : List Byte) : List Byte := let b := [st] ++ leBytes 2 p.length ++ p; b ++ leBytes 4 (crc32 b)

/-- Supply 3 enabled. -/
def sup (x : Supply) (l : List (Field × Nat) := []) : State := { (put ((SUP_CFG_EN 3, 1) :: l)) with supplies := [(3, x)] }

theorem test_supply_auth :
    (let t := after (.supplyAuth 3) (sup {})
     (t.supply 3).phase = .hello ∧ t.out.length = 2) ∧
    (let t := after (.supplyAuth 3) {}
     t.out = []) := by decide +kernel

theorem test_supply_reauth :
    let t := after (.supplyReauth 3) { (sup {}) with tb := 2880000000000 }
    (t.supply 3).phase = .hello := by decide +kernel

theorem test_supply_timeout :
    (let t := after (.supplyTimeout 3) (sup { phase := .hello })
     t.f (SUP_STAT_STATE 3) = 2 ∧ t.b (SUP_STAT_AUTH_FAIL 3) = true ∧ t.b (FLT_SRC_LATCHED 102) = true ∧ (t.supply 3).fails = 1 ∧
     (t.supply 3).phase = .idle ∧ t.rn (FLT_INFO 102) = 3 ∧ t.ledger.own.map (fun r => (r.kind, r.aux)) = [(8, 515)]) ∧
    (let t := after (.supplyTimeout 3) (sup { phase := .decrement, decrFails := 2 } [(SUP_STAT_STATE 3, 1)])
     t.f (SUP_STAT_STATE 3) = 2 ∧ t.b (SUP_STAT_DECR_FAIL 3) = true ∧ (t.supply 3).decrFails = 0 ∧ (t.supply 3).fails = 1) ∧
    (let t := after (.supplyTimeout 3) (sup { phase := .resync, fails := 2 } [(SUP_STAT_STATE 3, 1)])
     t.f (SUP_STAT_STATE 3) = 3 ∧ t.b (SUP_STAT_DISCONNECT 3) = true ∧ (t.supply 3).phase = .hello ∧ (t.supply 3).fails = 0 ∧
     (t.ledger.own.getLast?.map (·.aux)) = some 1027 ∧ t.out.length = 2) := by decide +kernel

theorem test_supply_response :
    (let t := after (.supplyResponse 3 (mk 0 ([1, 1] ++ List.replicate 16 9 ++ [7]))) (sup { phase := .hello })
     (t.supply 3).phase = .select ∧ (t.supply 3).ink = 7 ∧ t.regBytes (SUP_ID 3 0) 16 = List.replicate 16 9) ∧
    (let t := after (.supplyResponse 3 (mk 0 [])) (sup { phase := .select })
     (t.supply 3).phase = .cert ∧ t.out.length = 2) ∧
    (let t := after (.supplyResponse 3 (mk 0 [])) (sup { phase := .challenge })
     t.f (SUP_STAT_STATE 3) = 2) ∧
    (let t := after (.supplyResponse 3 (mk 4 [])) (sup { phase := .decrement })
     (t.supply 3).needSync = true ∧ (t.supply 3).decrFails = 1 ∧ (t.supply 3).fails = 0) ∧
    (let t := after (.supplyResponse 3 (mk 1 [])) { (sup { phase := .decrement }) with tb := 5 }
     (t.supply 3).busySince = some 5 ∧ (t.supply 3).phase = .decrement) ∧
    (let t := after (.supplyResponse 3 [1, 2]) (sup { phase := .decrement })
     (t.supply 3).fails = 1) := by decide +kernel

theorem test_supply_busy_retry :
    let s := sup { phase := .decrement, busySince := some 0 }
    (after (.supplyBusyRetry 3) s).out = [] ∧ (after (.supplyBusyRetry 3) { s with tb := 800000 }).out = [.i2cRead 0 0] := by decide +kernel

theorem test_supply_decrement :
    let s := sup {} [(SUP_STAT_STATE 3, 1), (⟨SUP_ACC_LO 3, 31, 0⟩, 2000000)]
    ((after (.supplyDecrement 3) s).supply 3).amount = 2 ∧ ((after (.supplyDecrement 3) s).supply 3).spentAt = some s.tb ∧
    ((after (.supplyDecrement 3) (s.modSupply 3 fun x => { x with spentAt := some s.tb })).supply 3).amount = 0 := by decide +kernel

/-! Twin operation -/

/-- Both Basalt lanes UP. -/
def upL : List (Nat × BasaltLane) := [(0, { phase := .up }), (1, { phase := .up })]

/-- What R690 asks of a part to be enabled as a twin. -/
def pairable (s : State := {}) : State :=
    { (put [(GEO_STAT_DEVKEY_VALID, 1), (⟨TWIN_PEER_PUB 0, 31, 0⟩, 4), (MEMC_CH_STAT_TRAIN_STATE 0, 2), (MEMC_CH_STAT_TRAIN_STATE 1, 2)] s) with
    geode := { psk := some (zeros 32) } }

theorem test_twin_enable :
    (let t := after (.twinEnable 16) (ul 0xF (pairable fw))
     t.b TWIN_CFG_EN = true ∧ t.f TWIN_STATE_ROLE = 1 ∧ (t.basaltLane 0).phase = .caps ∧ t.b (FLT_SRC_LIVE 112) = true ∧
     t.b (FLT_SRC_LATCHED 112) = true ∧ t.twin.hbAt = 0 ∧ (t.basaltLane 1).phase = .caps ∧
     (after (.capTx 65) t).out.head? = some (.basalt 1 2 [1, 6, 3, 0])) ∧
    (let t := after (.twinEnable 16) (ul 0xF {})
     t.b TWIN_STAT_CFG_ERROR = true) := by decide +kernel

theorem test_twin_switch :
    let t := after (.twinSwitch 16) (ul 0xF { (put [(TWIN_STATE_ROLE, 2), (TWIN_STATE_PEER_ROLE, 3), (HL_LEASE_STATE 5, 2)]) with
        twin := { key := some [], peerStates := [0, 0, 0, 0] } })
    t.f TWIN_STATE_ROLE = 3 ∧ t.f (HL_LEASE_STATE 5) = 3 := by decide +kernel

theorem test_role_rules :
    ({ (put [(TWIN_STATE_ROLE, 1), (TWIN_STATE_PEER_ROLE, 2)]) with twin := { key := some [], peerStates := [1, 0, 0, 0] } } : State).selectRole.b
        TWIN_STATE_WAIT_IDLE = true ∧
    ({ (put [(TWIN_STATE_ROLE, 1), (TWIN_STATE_PEER_ROLE, 3)]) with twin := { key := some [], qwAt := some 0 } } : State).selectRole.role = 1 ∧
    ({ (put [(TWIN_STATE_ROLE, 2)]) with twin := { qwOut := (false, true) } } : State).isolate.twin.qwOut.2 = false := by decide +kernel

theorem test_basalt_cap_rx :
    let lane (x : BasaltLane) : State := { (put [(TWIN_CFG_EN, 1)]) with tb := 900000, twin := { lanes := [(0, x)] } }
    (let t := after (.basaltCapRx 0 [1, 6, 3, 1]) (lane { phase := .caps, lastCap := [1, 6, 3, 1], capSame := 1 })
     (t.basaltLane 0).phase = .caps ∧ (t.basaltLane 0).capSame = 2) ∧
    (let t := after (.basaltCapRx 0 [1, 6, 3, 1]) (lane { phase := .caps, lastCap := [1, 6, 3, 1], capSame := 2 })
     (t.basaltLane 0).phase = .selecting ∧ (t.basaltLane 0).rate = 2 ∧ (after (.capTx 64) t).out = [.basalt 0 2 [1, 4, 2, 0]]) ∧
    (let t := after (.basaltCapRx 0 [1, 1, 3, 1]) (lane { phase := .caps, lastCap := [1, 1, 3, 1], capSame := 2 })
     (t.basaltLane 0).phase = .failed ∧ t.b (FLT_SRC_LATCHED 116) = true) ∧
    ((after (.basaltCapRx 0 [1, 4, 2, 1]) (lane { phase := .selecting, sel := [4, 2], rate := 2, capSame := 1 })).basaltLane 0).phase = .switching ∧
    (let t := after (.rateSwitch 64) (lane { phase := .switching, switchAt := 892000, sel := [4, 2], rate := 2 })
     (t.basaltLane 0).phase = .echoing ∧ t.out = [.basalt 0 1 []]) ∧
    (let t := after (.basaltCapRx 0 [1, 4, 2, 1]) (lane { phase := .echoing, sel := [4, 2], rate := 2, capSame := 1 })
     (t.basaltLane 0).phase = .up ∧ t.f TWIN_STATE_LANES_UP = 1 ∧ t.out.length = 1) ∧
    (let t := after (.negFallback 64) (lane { phase := .echoing, switchAt := 100000, offered := 6, sel := [4, 2], rate := 2 })
     (t.basaltLane 0).phase = .selecting ∧ (t.basaltLane 0).rate = 1) := by decide +kernel

theorem test_hello_rx :
    let t := after (.helloRx (zeros 32)) { (put [(TWIN_CFG_EN, 1)]) with twin := { lanes := upL } }
    t.twin.peerNonce = zeros 32 ∧ t.out.length = 2 ∧
    (after (.helloRx (zeros 32) 1) { (put [(TWIN_CFG_EN, 1)]) with twin := { lanes := [(0, { phase := .up })] } }).out = [] := by decide +kernel

theorem test_auth_rx :
    (after (.authRx [0]) { (put [(TWIN_CFG_EN, 1)]) with twin := { lanes := upL, nonce := [1], peerNonce := [2] } }).twin.nonce = [1] ∧
    let t := after (.authRx (zeros 104)) { (put [(TWIN_CFG_EN, 1)]) with twin := { lanes := upL, nonce := [1], peerNonce := [2] } }
    t.twin.key = none ∧ t.twin.nonce = [] ∧ (t.basaltLane 0).renegAt = some 8000000 ∧ t.b (FLT_SRC_LATCHED 117) = true := by decide +kernel

theorem test_heartbeat_tx :
    let t := after .heartbeatTx (put [(TWIN_STATE_ROLE, 2)])
    t.out = [.quorum 0] ∧ t.twin.qwOut = (true, false) ∧
    (after .heartbeatTx { t with tb := 39999 }).out = t.out ∧ (after .heartbeatTx { t with tb := 40000 }).out = [.quorum 0,
        .quorum 0] := by decide +kernel

theorem test_hb_rx :
    let s := put [(TWIN_CFG_EN, 1)]
    after (.hbRx 0 []) s = { s with firstThis := false } ∧
    (after (.hbRx 0 [] ⟨some 3, none⟩) s).f TWIN_STATE_QW_IN = 3 ∧ (after (.hbRx 0 [] ⟨some 3, none⟩) s).twin.qwAt = some 0 := by decide +kernel

theorem test_heartbeat_loss :
    let s (tw : Twin) : State := { (put [(TWIN_CFG_EN, 1), (TWIN_STATE_ROLE, 3), (HL_CTRL_ENABLE 2, 1)]) with tb := 800000, twin := tw }
    let t := after .heartbeatLoss (s {})
    t.f TWIN_STATE_ROLE = 4 ∧ t.b (HL_CTRL_ACQUIRE 2) = true ∧ t.b (FLT_SRC_LATCHED 113) = true ∧
    (let t := after .heartbeatLoss (s { qwAt := some 1 })
     t.f TWIN_STATE_ROLE = 3 ∧ t.twin.lostAt = some 800000 ∧ t.b (FLT_SRC_LATCHED 113) = true) := by decide +kernel

theorem test_quorum_silent :
    let t := after .quorumSilent { (put [(TWIN_CFG_EN, 1), (TWIN_STATE_ROLE, 3)]) with twin := { lostAt := some 0 } }
    (after (.quorumSilent ⟨some 2, none⟩) (put [(TWIN_CFG_EN, 1)])).f TWIN_STATE_QW_IN = 2 ∧ t.f TWIN_STATE_ROLE = 2 ∧
        t.b TWIN_STAT_TAKEOVER_EV = true ∧ t.b (FLT_SRC_LATCHED 114) = true := by decide +kernel

theorem test_takeover_decide :
    let s (u : Nat) : State := { (put [(TWIN_CFG_EN, 1), (TWIN_STATE_ROLE, 3), (HL_LEASE_STATE 1, 2)]) with
        tb := 880000, twin := { lostAt := some 800000, qwAt := some u } }
    let t := after .takeoverDecide (s 80001)
    t.f TWIN_STATE_ROLE = 5 ∧ t.b (FLT_SRC_LATCHED 115) = true ∧ t.f (HL_LEASE_STATE 1) = 3 ∧
    (after .takeoverDecide (s 80000)).b TWIN_STAT_TAKEOVER_EV = true := by decide +kernel

theorem test_lease_wait_expire :
    let t := after .leaseWaitExpire { (put [(TWIN_STATE_ROLE, 4)]) with tb := 80000 * 40 }
    t.f TWIN_STATE_ROLE = 5 ∧ t.b TWIN_STAT_YIELD = true ∧ t.b (FLT_SRC_LATCHED 120) = true := by decide +kernel

theorem test_mirror_ack_timeout :
    let t := after .mirrorAckTimeout { (put [(TWIN_STATE_ROLE, 2)]) with tb := 160001, twin := { unacked := [(1, 0), (2, 1)] } }
    t.twin.unacked = [(2, 1)] ∧ t.b (FLT_SRC_LATCHED 118) = true := by decide +kernel

theorem test_quorum_mismatch :
    (after (.quorumMismatch ⟨some 1, none⟩) (put [(TWIN_CFG_EN, 1)])).b (FLT_SRC_LATCHED 119) = false ∧
    (after (.quorumMismatch ⟨some 3, none⟩) (put [(TWIN_CFG_EN, 1)])).b (FLT_SRC_LATCHED 119) = true ∧
    (after (.quorumMismatch ⟨some 3, none⟩) (put [(TWIN_CFG_EN, 1), (TWIN_STATE_PEER_ROLE, 2)])).b (FLT_SRC_LATCHED 119) = false ∧
    (after .quorumMismatch (put [(TWIN_CFG_EN, 1)])).b (FLT_SRC_LATCHED 119) = true := by
  decide +kernel

theorem test_twin_rejoin :
    let t := after (.twinRejoin 16) (ul 0xF { (put [(TWIN_STATE_ROLE, 5), (FLT_SRC_LIVE 115, 1)]) with twin := { lanes := upL } })
    t.f TWIN_STATE_ROLE = 1 ∧ t.b (FLT_SRC_LIVE 115) = false ∧ t.out.length = 1 := by decide +kernel

theorem test_basalt_reneg :
    let t := after (.basaltReneg 0) { twin := { lanes := [(0, { phase := .up, renegAt := some 0 })] } }
    (t.basaltLane 0).phase = .caps ∧ t.b (FLT_SRC_LIVE 112) = true := by decide +kernel

/-! Debug and JTAG -/

/-- Debug unlocked, the part frozen. -/
def fz (l : List (Field × Nat) := []) : State := put ([(DBG_STAT_UNLOCKED, 1), (DBG_STAT_FROZEN, 1)] ++ l)

theorem test_debug_unlock :
    (after (.debugUnlock 16) (ul 0x10 {})).b DBG_STAT_UNLOCKED = true ∧
    (let t := after (.debugUnlock 16) (ul 0x10 { (put [(DBG_STAT_UNLOCKED, 0)]) with fuses := { regulated := true } })
     t.b DBG_STAT_UNLOCK_REFUSED = true ∧ t.b (FLT_SRC_LATCHED 104) = true ∧ t.b DBG_STAT_UNLOCKED = false) := by decide +kernel

theorem test_bench :
    let t := after (.bench 16) (ul 0x10 (put [(DBG_STAT_UNLOCKED, 1)]))
    t.b DBG_CTRL_BENCH = true := by decide +kernel

theorem test_debug_lock :
    let t := after (.debugLock 16) (put [(DBG_STAT_UNLOCKED, 1), (DBG_CTRL_BENCH, 1)])
    t.b DBG_CTRL_BENCH = false ∧ t.b DBG_STAT_UNLOCKED = false := by decide +kernel

theorem test_freeze_pin :
    let t := after (.freezePin [5, 100]) { (put [(DBG_STAT_UNLOCKED, 1), (MOT_CTRL_ENABLE 2, 1)]) with tb := 77 }
    t.b DBG_STAT_FROZEN = true ∧ t.rd64 DBG_FRZ_TB_LO = 77 ∧ t.errPin = true ∧ t.enPin 2 = false ∧ t.f (DBG_ISL_STOP_CYCLES 1) = 64 ∧
    t.f (DBG_ISL_STOP_CYCLES 0) = 5 := by decide +kernel

theorem test_freeze :
    (after (.freeze 16) (put [(DBG_STAT_UNLOCKED, 0)])).b DBG_STAT_FREEZE_REFUSED = true := by decide +kernel

theorem test_debug_resume :
    (
       let t := after (.debugResume 17) { (fz [(DBG_STAT_BENCH_AT_FREEZE, 1), (MOT_CTRL_ENABLE 2, 1), (FB_CTRL_EN 3, 1), (FLT_STAT_FAULT_IN_LOW,
           1)]) with frozenFaultIn := true }
     t.b DBG_STAT_FROZEN = false ∧ t.b (MOT_CTRL_ENABLE 2) = false ∧ t.b (FB_LIVE_POS_UNSURE 3) = true ∧ t.b (FLT_SRC_LIVE 10) = true ∧
     t.b (FLT_SRC_LATCHED 10) = true) ∧
    (after (.debugResume 17) (fz)).b DBG_STAT_RESUME_REFUSED = true := by decide +kernel

theorem test_dbgacc :
    (let t := after (.dbgacc false SYS_ID 0) (put [(DBG_STAT_UNLOCKED, 1)])
     t.out = [.readWord 17 (({}:State).rd SYS_ID)]) ∧
    (let t := after (.dbgacc false DBG_STAT 0) fz
     t.out = [.readWord 17 (fz.rd DBG_STAT)]) := by decide +kernel

theorem test_mwin_data_read :
    let t := after (.mwinDataRead 17) ((fz [(DBG_MWIN_ADDR_ADDR, 0x200000)]).writeMem (barBase + 0x800000) [1,2,3,4])
    t.out = [.readWord 17 0x04030201#32] ∧ t.f DBG_MWIN_ADDR_ADDR = 0x200001 := by decide +kernel

theorem test_mwin_data_write :
    (after (.mwinDataWrite 17 7#32) (fz [(DBG_MWIN_ADDR_ADDR, 0x200000), (DBG_CTRL_BENCH, 1)])).mem = [] ∧
    (let t := after (.mwinDataWrite 17 7#32) (fz [(DBG_MWIN_ADDR_ADDR, 0x7D0000 / 4), (DBG_CTRL_BENCH, 1)])
     t.byte (barBase + 0x790000) = 7 ∧ t.byte (barBase + 0x7D0000) = 7) ∧
    (let t := after (.mwinDataWrite 17 7#32) (fz [(DBG_MWIN_ADDR_ADDR, 0x401000 / 4), (DBG_CTRL_BENCH, 1), (⟨ENG_SIGPAGES 0, 1, 1⟩, 1)])
     t.mem = [] ∧ t.b (FLT_SRC_LATCHED 4) = false) := by decide +kernel

theorem test_extest :
    let t := after .extest fz
    t.jtagIr = 0 ∧ (after .highz fz).pin (.gpio 3) = .highZ ∧ (after .highz fz).pin (.hlTx 0) = .idle ∧
    (after .extest { ({} : State) with power := { resetLow := true } }).jtagIr = 0 ∧
    (after .extest { ({} : State) with power := { resetLow := true, porHeld := true } }).jtagIr = 0xFF := by decide +kernel

theorem test_idcode :
    (after .idcode fw).out = [.jtag ((List.range 32).map fun k => (0x16448967 : Word).getLsbD k)] ∧ (after .idcode {}).out = [] := by decide +kernel

theorem test_debug_reset :
    let t := after .debugReset (fz [(DBG_CTRL_BENCH, 1)])
    t.b DBG_STAT_FROZEN = true ∧ t.b DBG_CTRL_BENCH = false ∧ t.jtagIr = 2 := by decide +kernel

/-! Commands of the groups above that share a clause -/

theorem test_redetect :
    (let t := after (.redetect 16 9) (put [(FB_CTRL_EN 9, 1), (FB_CFG_MODE 9, 4), (FB_LIVE_DETECTED 9, 1), (⟨FB_POS_LO 9, 31, 0⟩, 8)])
     (t.chan 9).detecting = true ∧ t.b (FB_LIVE_DETECTED 9) = false ∧ t.rd64 (FB_POS_LO 9) = 0 ∧
     (after (.fbPosWrite 16 9 5) t).rd64 (FB_POS_LO 9) = 0) ∧
    (after (.redetect 16 9) (put [(FB_CTRL_EN 9, 1), (FB_CFG_MODE 9, 0)])).channels = [] := by decide +kernel

theorem test_token_expire :
    (after .tokenExpire { ({} : State) with sec := { tokens := [(1, 0), (2, 1)] }, tb := 800000000 }).sec.tokens = [(2, 1)] := by decide +kernel

theorem test_entropy_test_fail :
    let t := after .entropyTestFail {}
    t.b SEC_STAT_SELFTEST_FAIL = true ∧ t.b (FLT_SRC_LATCHED 105) = true := by decide +kernel

theorem test_twin_frames_without_a_key :
    (after (.mirrorRx 0 [1]) {}).regs = [] ∧ (after (.csignRx 1 [1]) {}).regs = [] ∧ (after (.roleRx 0 []) {}).twin = {} := by decide +kernel

theorem test_jtag :
    (after .extest (put [(DBG_STAT_UNLOCKED, 0)])).jtagIr = 0xFF ∧
    (let s := put [(DBG_STAT_UNLOCKED, 1), (DBG_STAT_FROZEN, 1)]
     (after .clamp s).jtagIr = 3 ∧ (after .highz s).jtagIr = 4 ∧ (after .scanout s).jtagIr = 0x21) ∧
    (after .scanout fw).out = [.jtag [false]] ∧ (after .samplePreload {}).jtagIr = 1 ∧ (after .bypass fw).out = [.jtag [false]] := by decide +kernel

/-! Well-formed commands, and words -/

theorem test_ill_formed :
    (Instr.configRequest true 2 0).wellFormed = false ∧
    (Instr.configRequest false 4096 0).wellFormed = false ∧ (Instr.registerWrite 16 2 0 15).wellFormed = false ∧
    (Instr.registerWrite 16 0x1000000 0 15).wellFormed = false ∧ (Instr.loStageWrite 16 4 0).wellFormed = false ∧
    (Instr.sqWriteBack 16 1 0).wellFormed = false ∧ (Instr.shadowArm 16 3 0).wellFormed = false ∧
    (Instr.badRegisterRead 16 4 0).wellFormed = false ∧ (Instr.memoryWindowWrite 16 0x410000 []).wellFormed = false ∧
    (Instr.nozzleTableWrite 16 0x1000000 [1]).wellFormed = false ∧ (Instr.bar2Read 0 4097 []).wellFormed = false ∧
    (Instr.bar2Write 0 []).wellFormed = false ∧ (Instr.scrubStep 0x800000000 1).wellFormed = false ∧
    (Instr.dbgacc false 2 0).wellFormed = false ∧ (Instr.freezePin []).wellFormed = false ∧
    (Instr.freezePin (List.replicate 17 65)).wellFormed = false ∧ (Instr.localGateWindow 0 true [[]]).wellFormed = false := by
  decide +kernel

theorem test_long_image_is_ill_formed : (Instr.qspiReadDone (List.replicate 131073 0)).wellFormed = false := by
  change imageOk _ = false
  unfold imageOk
  rw [List.length_replicate]
  decide

theorem test_well_formed :
    (Instr.qspiReadDone [1]).wellFormed = true ∧ (Instr.configRequest true 4092 0).wellFormed = true ∧
    (Instr.registerWrite 16 0xFFFFFC 0 15).wellFormed = true ∧ (Instr.loStageWrite 16 8 0).wellFormed = true ∧
    (Instr.badRegisterRead 16 3 4096).wellFormed = true ∧ (Instr.memoryWindowWrite 16 0x410000 [1]).wellFormed = true ∧
    (Instr.scrubStep 0x7FFFFFFFC 1).wellFormed = true ∧ (Instr.freezePin (List.replicate 17 64)).wellFormed = true ∧
    (Instr.localGateWindow 0 true [[7]]).wellFormed = true ∧ Instr.planningTick.wellFormed = true := by decide +kernel

/-- The table gives no row bits, so no word spells a command. -/
theorem test_no_word_spells_a_command : decodeTableWord 32 0 = none ∧ State.reset.withFetchWord 32 0 = State.reset := ⟨rfl, rfl⟩

/-! The queue of commands -/

theorem test_step_takes_the_front :
    let t := stepped { ({} : State) with pending := [.bypass, .idcode] }
    t.pending = [.idcode] ∧ t.jtagIr = 0xFF := by decide +kernel

theorem test_idle_step_is_a_tick :
    (stepped {}).tb = 1 ∧ { (stepped {}) with tb := 0, firstThis := ({} : State).firstThis } = ({} : State) := by decide +kernel

theorem test_tick_drains_a_store :
    let rest : List Posted := [⟨0x100000014, [5], false⟩, ⟨0x100000015, [6], false⟩]
    let s (e : Nat) (p : Posted) : State := on e { x0 with storeBuf := p :: rest } ddr
    let drained (e : Nat) (p : Posted) (t : State) : Bool := t.tb = 1 && (t.eng e).storeBuf = rest && t = stepped (s e p)
    (let p : Posted := ⟨0x100000010, [7, 8], false⟩
     let t := stepped (s 3 p)
     drained 3 p t = true ∧ t.mem = [⟨0x10, 7⟩, ⟨0x11, 8⟩] ∧ t.regs = (s 3 p).regs) ∧
    (let p : Posted := ⟨0x1000FFFFF, [7, 8], false⟩
     let t := stepped (s 3 p)
     drained 3 p t = true ∧ t.mem = [] ∧ t.b (FLT_SRC_LATCHED 20) = true ∧ t.rn (FLT_INFO 20) = 0x30FFFFF) ∧
    (let p : Posted := ⟨MOT_VMAX 2, leBytes 4 9, false⟩
     let t := stepped (s 3 p)
     drained 3 p t = true ∧ t.rn (MOT_VMAX 2) = 9) ∧
    (let p : Posted := ⟨5, leBytes 8 9, true⟩
     let t := stepped (s 3 p)
     drained 3 p t = true ∧ t.nozzle 5 = 9) := by decide +kernel

theorem test_tick_in_parked :
    let s := { (ddr.setB SYS_PWR_CTRL_PARKED true).setEng 14 { x0 with storeBuf := [⟨0x100000010, [7], false⟩] } with tb := 8 }
    (let t := stepped s
     t.mem = [] ∧ t.rn (FLT_INFO 20) = 0xE000010) ∧
    (let t := stepped (s.setEng 14 { x0 with storeBuf := [⟨0x1000000, [7], false⟩] })
     t.b (FLT_SRC_LATCHED 20) = true ∧ t.rn (FLT_INFO 20) = 0xE000000) := by decide +kernel

theorem test_tick_corrects :
    let z := put [(FB_CTRL_EN 3, 1), (FB_LIVE_DETECTED 3, 1), (FB_LIVE_DET_MODE 3, 1), (⟨FB_POS_LO 3, 31, 0⟩, 250)]
    let s := { z.setChan 3 { corr := some (7, 2) } with
      tb := 10 }
    (stepped s).rd64 (FB_POS_LO 3) = 243 ∧ ((stepped s).chan 3).corr = none ∧ (stepped { s with tb := 9 }).rd64 (FB_POS_LO 3) = 250 := by
  decide +kernel

theorem witness_reset_canonical : State.reset.memWf ∧ State.reset.regsWf := by decide +kernel

theorem witness_stop_wins :
    let s := ul 0x20 (on 3 x0)
    s.granted 16 (ENG_CTRL 3) ∧ s.rd (ENG_CTRL 3) = 0 ∧ (s.eng 3).running = true := by unfold State.granted; decide +kernel

theorem test_stop_wins :
    let t := after (.registerWrite 16 (ENG_CTRL 3) 3 15) (ul 0x20 (on 3 x0))
    (t.eng 3).running = false ∧ (t.eng 3).haltCause = 2 := by decide +kernel

theorem test_stop_wins_stopped :
    let s := ul 0x20 (put [(SYS_ENG_STAT_VERIFIED, 8)])
    let t := after (.registerWrite 16 (ENG_CTRL 3) 3 15) s
    ((after (.engStart 16 3) s).eng 3).running = true ∧ t.engines = s.engines ∧ t.mem = s.mem ∧ t.regs = s.regs ∧ t = after (.engStop 16 3) s ∧
    (let u := on 14 x0 s
     (after (.registerWrite 16 (ENG_CTRL 14) 3 15) u).engines = u.engines) := by decide +kernel

/-! Line code, requests and errors of the memory -/

/-- The bits of words, oldest first, bit 0 of each first. -/
def wireBits (ws : List (BitVec 66)) : List Bool := ws.flatMap fun w => (List.range 66).map w.getLsbD

/-- A RELEASED frame from ECU 0, as it goes through a scrambler at 0. -/
def released : List (BitVec 66) := (sendBlocks 0 (frameBlocks (crcPoly false) 3 0 ([0x83] ++ zeros 7))).1

theorem test_line_code :
    (crc32 ("123456789".toList.map fun c => BitVec.ofNat 8 c.toNat) = 0xCBF43926 ∧ released.length = 3) ∧
    (let s := { (sUp [(HL_LEASE_STATE 9, 3)]) with lineRx := [(9, { locked := true })] }
     let t := after (.badFrameRx 9 (some (wireBits released))) s
     t.f (HL_LEASE_STATE 9) = 0 ∧ t.f (HL_ERRCNT_FRAME_BAD 9) = 0 ∧ (t.rx 9).header = none ∧
     let u := after (.badFrameRx 9 (some ((wireBits released).set 80 true))) s
     u.f (HL_ERRCNT_FRAME_BAD 9) = 1 ∧ u.b (FLT_SRC_LATCHED 50) = true) := by decide +kernel

theorem test_upset_beats :
    (let s := (put [(BAR2_PAGE_EN 2, 1)] ddr).writeMem 0x10 [7]
     let t := after (.bar2Read 0x2000010 2 [(4, false)]) s
     t.soft = [] ∧ t.poison = [] ∧ t.out = [.completion 0 [7, 0]] ∧ t.b (FLT_SRC_LATCHED 13) = true ∧
     let t := after (.bar2Read 0x2000010 2 [(4, true), (5, false)]) s
     t.soft = [5] ∧ t.poison = [4] ∧ t.out.head? = some (.completion 8 [7, 0]) ∧ t.b (FLT_SRC_LATCHED 14) = true) := by decide +kernel

theorem test_window_byte_enables :
    (let t := after (.registerWrite 16 0x800030 0 3) {}
     t.mem = [] ∧ t.b (FLT_SRC_LATCHED 20) = true ∧ t.f (FLT_CNT_COUNT 20) = 1) ∧
    (let t := after (.registerWrite 16 (0x400000 + 0x40000 * 3 + 4) 0xAABBCCDD 5) {}
     t.readMem (imemBase 3 + 4) 4 = [0xDD, 0, 0xBB, 0]) := by decide +kernel

theorem test_planning_tick_due :
    (after .planningTick { fw with tb := 3200 }).planAt = some 3200 ∧
    after .planningTick { fw with tb := 3201 } = { fw with tb := 3201 } := by decide +kernel

theorem test_refused_write_back_and_attributes :
    (let x : Dma := { active := true, next := 0x80 }
     let d : Desc :=
       { addr := 0x80, begun := true
         bytes := leBytes 8 0x2FF0 ++ leBytes 8 0x40 ++ leBytes 8 0x10 ++ leBytes 4 0x60000030 ++ leBytes 4 0 }
     let t := after (.descComplete 5 true) (chn { x with descs := [{ d with asked := 48, moved := 48 }] })
     t.rn (CH_DONECNT 5) = 1 ∧ t.f (CH_ERRCNT_WB 5) = 1 ∧ t.b (FLT_SRC_LATCHED 28) = true ∧
     (after (.dmaRequestIssue 5) (chn { x with descs := [d], fetching := true })).out =
       [.hostRead 0x2FF0 16 { tag := 8, ro := true, ns := true }]) := by decide +kernel

theorem test_illegal_word :
    (let t := after (.snop 3 0xFFFFFFFF) (on 3 x0)
     (t.eng 3).pc = 0x40 ∧ (t.eng 3).tpc = 0x100 ∧ (t.eng 3).tval = 0xFFFFFFFF) := by decide +kernel

theorem test_frame_in_progress :
    (let c := { slice0 0x10007 with handed := true, decisions := [9] }
     let s := sUp [(HL_NOZ_COUNT 9, 1), (⟨DCD_LINE 0, 31, 0⟩, 0x10008)] { slices := [c, slice0 0x10008] }
     let t := after (.fireTx 9 1) s
     t.wire.length = (after (.fireTx 9) s).wire.length - 1 ∧ (t.tx 9).rest.length = 1 ∧
     (after (.syncTx 9) t).wire.length = t.wire.length + 2 ∧ ((after (.syncTx 9) t).tx 9).rest = []) := by decide +kernel

end Sys2Proof.Tests
end

section
/-!
PROOFS. The idle step (01_architecture.md R20, R21; 05_xaone_isa.md R151, R159; 14_position_feedback.md R565): a tick makes the corrections that are
due and drains one posted store of each engine, and does nothing else.
-/

namespace Sys2Proof.Machine
open Reg Fld

/-! Walks over units, of which one acts or none -/

theorem State.forEach_unchanged (l : List Nat) (g : State → Nat → State) (s : State) (h : ∀ i ∈ l, g s i = s) :
    s.forEach l g = s := by
  induction l with
  | nil => rfl
  | cons a l ih =>
    rw [State.forEach, List.foldl_cons, h a List.mem_cons_self]
    exact ih fun i hi => h i (List.mem_cons_of_mem _ hi)

theorem State.forEach_once (l : List Nat) (g : State → Nat → State) (s : State) (e : Nat) (hn : l.Nodup) (he : e ∈ l)
    (before : ∀ i, i ≠ e → g s i = s) (after : ∀ i, i ≠ e → g (g s e) i = g s e) : s.forEach l g = g s e := by
  induction l with
  | nil => simp at he
  | cons a l ih =>
    obtain ⟨ha, hl⟩ := List.nodup_cons.1 hn
    rw [State.forEach, List.foldl_cons]
    by_cases hae : a = e
    · subst hae
      exact State.forEach_unchanged l g _ fun i hi => after i (by rintro rfl; exact ha hi)
    · rw [before a hae]
      exact ih hl (by simpa [Ne.symm hae] using he)

/-! The parts of a tick, where nothing is due -/

theorem State.correctDue_of_none (s : State) (c : Nat) (h : (s.chan c).corr = none) : s.correctDue c = s := by
  simp [State.correctDue, h]

theorem State.inputsSettle_of_none (s : State) (a : Nat)
    (h : (s.axis a).limNAt = none ∧ (s.axis a).limPAt = none ∧ (s.axis a).homeAt = none) : s.inputsSettle a = s := by
  obtain ⟨hn, hp, hh⟩ := h
  simp [State.inputsSettle, State.limitSettle, State.homeSettle, State.settled, hn, hp, hh]

theorem State.samplesDue_of_quiet (s : State) (h : s.inputsQuiet []) : s.samplesDue = s := by
  obtain ⟨hc, ha⟩ := h
  rw [State.samplesDue, State.forEach_unchanged _ _ s fun c _ => s.correctDue_of_none c (hc c (by simp))]
  exact State.forEach_unchanged _ _ s fun a _ => s.inputsSettle_of_none a (ha a)

theorem State.drainOne_of_nil (s : State) (e : Nat) (h : (s.eng e).storeBuf = []) : s.drainOne e = s := by
  simp [State.drainOne, h]

theorem State.drainOne_of_cons (s : State) (e : Nat) (p : Posted) (rest : List Posted) (h : (s.eng e).storeBuf = p :: rest) :
    s.drainOne e = (s.modEng e fun x => { x with storeBuf := rest }).storeTakes e p := by
  simp [State.drainOne, h]

/-- One posted store of each engine drains. -/
def State.drains (s : State) : State := s.forEach (List.range 15) fun s e => s.drainOne e

theorem State.drains_of_quiet (s : State) (h : s.storesQuiet []) : s.drains = s :=
  State.forEach_unchanged _ _ s fun e _ => s.drainOne_of_nil e (h e (by simp))

/-- TIMEBASE has counted (R20). -/
def State.counted (s : State) : State := { s with tb := s.tb + 1 }

theorem State.step_ticking (s : State) (h : s.ticking) :
    step s = .next (if s.asleep then s.counted else s.counted.begin.samplesDue.drains) := by
  obtain ⟨hp, hpor, haon⟩ := h
  unfold step
  rw [hp]
  unfold State.idle
  rw [hpor, haon]
  rfl

theorem State.step_asleep (s : State) (h : s.ticking) (ha : s.asleep = true) : step s = .next s.counted := by
  rw [s.step_ticking h, if_pos ha]

theorem State.step_awake (s : State) (h : s.ticking) (ha : s.asleep = false) :
    step s = .next s.counted.begin.samplesDue.drains := by
  rw [s.step_ticking h, ha]
  rfl

theorem State.onlyTime_of_asleep (s : State) (h : s.ticking) (ha : s.asleep = true) : s.onlyTime :=
  ⟨_, s.step_asleep h ha, rfl, rfl⟩

theorem State.onlyTime_of_quiet (s : State) (h : s.ticking) (hi : s.inputsQuiet []) (hq : s.storesQuiet []) : s.onlyTime := by
  cases ha : s.asleep
  · refine ⟨s.counted.begin, ?_, rfl, rfl⟩
    rw [s.step_awake h ha, s.counted.begin.samplesDue_of_quiet hi, s.counted.begin.drains_of_quiet hq]
  · exact s.onlyTime_of_asleep h ha

/-! What waits in the store buffers -/

/-- The state in which the oldest store of engine e takes effect: it has left the store buffer. -/
def State.popped (s : State) (e : Nat) (rest : List Posted) : State := s.counted.begin.modEng e fun x => { x with storeBuf := rest }

theorem State.popped_eng (s : State) (e : Nat) (rest : List Posted) (i : Nat) :
    (s.popped e rest).eng i = if e = i then { s.eng e with storeBuf := rest } else s.eng i := State.modEng_eng _ _ _ _

/-- What waits in the store buffers, by engine. -/
def State.storeBufs (s : State) (i : Nat) : List Posted := (s.eng i).storeBuf

theorem State.storeBufs_of_engines {s t : State} (h : t.engines = s.engines) : t.storeBufs = s.storeBufs := by
  funext i
  rw [State.storeBufs, State.eng_congr h, State.storeBufs]

theorem State.raise_storeBufs (s : State) (src info : Nat) : (s.raise src info).storeBufs = s.storeBufs := by
  refine State.raise_keeps State.storeBufs s src info (funext fun i => ?_)
  rw [State.storeBufs, State.raiseWith_eng]
  split <;> rfl

/-! To DDR (R113, R292) -/

theorem State.eccRead_of_clean (s : State) (a n : Nat) (hs : s.soft = []) (hp : s.poison = []) : s.eccRead a n = s := by
  have hb : ∀ a n, beatsIn [] a n = [] := by simp [beatsIn]
  simp [State.eccRead, State.badBeats, hs, hp, hb, State.forEach]

theorem State.ddrWrite_of_clean (s : State) (a : Nat) (bs : List Byte) (hs : s.soft = []) (hp : s.poison = []) :
    s.ddrWrite a bs = s.writeMem a bs := by
  obtain ⟨⟩ := s
  subst hs hp
  simp only [State.ddrWrite, List.filter_nil]
  rw [State.eccRead_of_clean _ a _ rfl rfl]

/-- No byte of the write lies beyond the 32 GiB that DDR addresses span: at their end it writes none. -/
theorem State.deviceWrite_of_clean (s : State) (a : Nat) (bs : List Byte) (h : a + bs.length ≤ barBase) (hs : s.soft = [])
    (hp : s.poison = []) : s.deviceWrite a bs = s.writeMem a bs := by
  by_cases ha : a < barBase
  · rw [State.deviceWrite, if_pos ha, s.ddrWrite_of_clean a bs hs hp]
  · obtain ⟨rfl, hb⟩ : a = barBase ∧ bs.length = 0 := by omega
    obtain rfl := List.eq_nil_of_length_eq_zero hb
    simp [State.deviceWrite, State.winStore, pairOffset]

/-! Where a posted store goes -/

section
variable (s : State) (e : Nat) (p : Posted)

theorem State.storeTakes_nozzle (h : p.nozzle = true) : s.storeTakes e p = s.writeNozzle p.addr (ofLe p.bytes) := by
  simp only [State.storeTakes, h, if_true]

theorem State.storeTakes_bar (hn : p.nozzle = false) (h : p.addr < 0x1000000) :
    s.storeTakes e p = s.busStore e p.addr p.bytes := by
  simp only [State.storeTakes, hn, h, Bool.false_eq_true, if_false, if_true]

theorem State.storeTakes_ddr (hn : p.nozzle = false) (h : 0x100000000 ≤ p.addr)
    (hi : p.addr - 0x100000000 + p.bytes.length ≤ s.installed) (hu : s.ddrUp e = true) :
    s.storeTakes e p = s.deviceWrite (p.addr - 0x100000000) p.bytes := by
  have hb : ¬ p.addr < 0x1000000 := by omega
  simp only [State.storeTakes, hn, hb, h, hi, hu, decide_true, Bool.and_self, Bool.false_eq_true, if_false, if_true]

theorem State.storeTakes_noDdr (hn : p.nozzle = false) (h : 0x100000000 ≤ p.addr)
    (hi : s.installed < p.addr - 0x100000000 + p.bytes.length ∨ s.ddrUp e = false) :
    s.storeTakes e p = s.raise 20 (xInfo e (0x80000000 + (p.addr - 0x100000000) - (s.eng e).apBase)) := by
  have hb : ¬ p.addr < 0x1000000 := by omega
  have hd : (decide (p.addr - 0x100000000 + p.bytes.length ≤ s.installed) && s.ddrUp e) = false := by
    rcases hi with hi | hi
    · simp only [Nat.not_le.2 hi, decide_false, Bool.false_and]
    · simp only [hi, Bool.and_false]
  simp only [State.storeTakes, hn, hb, h, hd, Bool.false_eq_true, if_false, if_true]

theorem State.storeTakes_gap (hn : p.nozzle = false) (hb : 0x1000000 ≤ p.addr) (hd : ¬ 0x100000000 ≤ p.addr) :
    s.storeTakes e p = s.raise 20 (xInfo e p.addr) := by
  simp only [State.storeTakes, hn, Nat.not_lt.2 hb, hd, Bool.false_eq_true, if_false]

theorem State.ddrUp_iff : s.ddrUp e = true ↔ ¬ (14 ≤ e ∧ s.b SYS_PWR_CTRL_PARKED = true) := by
  simp [State.ddrUp, imp_iff_not_or]

end

/-! Dropped with source 20 (R64, R113, R159, R634) -/

/-- The state with other unlocks. -/
def State.withUnlocks (s : State) (l : List (Nat × Nat × Nat)) : State := { s with unlocks := l }

theorem xInfo_lt (e : Fin 15) (a : Nat) : xInfo e a < 2 ^ 32 := by
  simp only [xInfo]
  omega

theorem State.consume_unlocks (s : State) (req a : Nat) : ∃ l, (s.consume req a).2 = s.withUnlocks l := by
  simp only [State.consume]
  split
  · exact ⟨_, rfl⟩
  · exact ⟨s.unlocks, rfl⟩

theorem requester_engine (e : Fin 15) : requester e = e := by
  rw [requester, if_neg (by omega)]

theorem accessInfo_engine (e : Fin 15) (a : Nat) : accessInfo e a = xInfo e a := by
  rw [accessInfo, requester_engine, xInfo]

/-- A store of at most a word that meets no window and no register cancels unlocks and raises source 20 (R106). -/
theorem State.busStore_unmapped (s : State) (e : Fin 15) (a : Nat) (bs : List Byte) (hu : s.busUp e a = true)
    (hw : windowRange a = false) (hr : rowOf a = none) (hl : bs.length ≤ 4) :
    s.busStore e a bs = (s.consume e a).2.raise 20 (xInfo e a) := by
  have h8 : (decide (a % 8 = 0) && decide (bs.length = 8)) = false := by simp; omega
  have h16 : longHost e bs.length = false := by simp [longHost]; omega
  rw [← accessInfo_engine]
  simp only [State.busStore, hu, hw, h8, h16, State.regWrite, hr, Bool.not_true, Bool.false_eq_true, if_false]
  split <;> rfl

/-! To a register whose fields are all RW and whose write has no other effect (R105) -/

/-- A word after a write of fields of it. -/
def writeFields (fs : List (Nat × Nat × Acc)) (held w : Word) : Word :=
  fs.foldl (fun u x => putBits u x.1 x.2.1 (bits w.toNat x.1 x.2.1)) held

theorem Merge.foldl_rw (held w : Word) (granted locked : Bool) (fs : List (Nat × Nat × Acc)) (h : ∀ x ∈ fs, x.2.2 = .rw) (m : Merge) :
    fs.foldl (Merge.field held w granted locked) m = { m with word := writeFields fs m.word w } := by
  induction fs generalizing m with
  | nil => rfl
  | cons x fs ih =>
    have hx : Merge.field held w granted locked m x = { m with word := putBits m.word x.1 x.2.1 (bits w.toNat x.1 x.2.1) } := by
      simp only [Merge.field, h x List.mem_cons_self]
    rw [List.foldl_cons, hx, ih fun y hy => h y (List.mem_cons_of_mem _ hy)]
    rfl

theorem getLsbD_putBits_bits (u w : Word) (hi lo i : Nat) (h : lo ≤ hi) (hi32 : i < 32) :
    (putBits u hi lo (bits w.toNat hi lo)).getLsbD i = if lo ≤ i ∧ i ≤ hi then w.getLsbD i else u.getLsbD i := by
  rw [getLsbD_putBits u hi lo _ i h hi32, testBit_bits]
  by_cases h1 : i < lo
  · rw [if_pos h1, if_neg (by omega)]
  · rw [if_neg h1]
    by_cases h2 : i ≤ hi
    · have h3 : i - lo < hi + 1 - lo := by omega
      have h4 : lo + (i - lo) = i := by omega
      rw [if_pos h2, if_pos (by omega), h4, BitVec.testBit_toNat]
      simp [h3]
    · rw [if_neg h2, if_neg (by omega)]

theorem getLsbD_writeFields (fs : List (Nat × Nat × Acc)) (h : ∀ x ∈ fs, x.2.1 ≤ x.1) (held w : Word) (i : Nat) (hi : i < 32) :
    (writeFields fs held w).getLsbD i =
      if fs.any (fun x => decide (x.2.1 ≤ i ∧ i ≤ x.1)) then w.getLsbD i else held.getLsbD i := by
  induction fs generalizing held with
  | nil => rfl
  | cons x fs ih =>
    have hw : writeFields (x :: fs) held w = writeFields fs (putBits held x.1 x.2.1 (bits w.toNat x.1 x.2.1)) w := rfl
    rw [hw, ih (fun y hy => h y (List.mem_cons_of_mem _ hy)), getLsbD_putBits_bits _ _ _ _ _ (h x List.mem_cons_self) hi, List.any_cons]
    by_cases hx : x.2.1 ≤ i ∧ i ≤ x.1
    · rw [if_pos hx, decide_eq_true hx, Bool.true_or, if_pos rfl, ite_self]
    · rw [if_neg hx, decide_eq_false hx, Bool.false_or]

/-- Do the fields take up the bits of a mask? -/
def fieldsMask (fs : List (Nat × Nat × Acc)) (mask : Word) : Bool :=
  fs.all (fun x => decide (x.2.1 ≤ x.1)) &&
    (List.range 32).all fun i => mask.getLsbD i == fs.any fun x => decide (x.2.1 ≤ i ∧ i ≤ x.1)

theorem writeFields_mask (fs : List (Nat × Nat × Acc)) (mask held w : Word) (h : fieldsMask fs mask = true) :
    writeFields fs held w = (held &&& ~~~mask) ||| (w &&& mask) := by
  simp only [fieldsMask, Bool.and_eq_true, List.all_eq_true, decide_eq_true_eq, List.mem_range, beq_iff_eq] at h
  obtain ⟨hle, hmask⟩ := h
  refine BitVec.eq_of_getLsbD_eq fun i hi => ?_
  rw [getLsbD_writeFields fs hle held w i hi, ← hmask i hi, BitVec.getLsbD_or, BitVec.getLsbD_and, BitVec.getLsbD_and,
    BitVec.getLsbD_not]
  cases mask.getLsbD i <;> simp [hi]

/-- Is a register one of RW fields that take up a mask, not half of a pair, in BAR0 outside the memory windows, and neither GUARD_UNLOCK nor a
word of TWIN_PSK? -/
def rwRegister (a : Nat) (mask : Word) : Bool :=
  (rowOf a).any (fun r => fieldsMask r.fields mask && r.fields.all (fun x => decide (x.2.2 = .rw)) && !r.fields.isEmpty &&
    !loBases.contains r.base && !hiBases.contains r.base) &&
  decide (a < 0x1000000 ∧ a % 4 = 0 ∧ windowRange a = false ∧ a ≠ GUARD_UNLOCK ∧ ¬ (TWIN_PSK 0 ≤ a ∧ a < TWIN_PSK 8))

theorem State.regWrite_rw (s : State) (req a : Nat) (v mask : Word) (hr : rwRegister a mask = true) :
    ∃ l, s.regWrite req a v = (s.withUnlocks l).hook (requester req) a ((s.rd a &&& ~~~mask) ||| (v &&& mask)) := by
  obtain ⟨hr, hplace⟩ := (Bool.and_eq_true _ _).mp hr
  obtain ⟨-, -, -, hg, hp⟩ := of_decide_eq_true hplace
  obtain ⟨r, hrow, hr⟩ := (Option.any_eq_true _ _).1 hr
  simp only [Bool.and_eq_true, Bool.not_eq_true', List.all_eq_true, decide_eq_true_eq] at hr
  obtain ⟨⟨⟨⟨hmask, hrw⟩, hne⟩, hlo⟩, hhi⟩ := hr
  obtain ⟨x, hx⟩ := List.exists_mem_of_ne_nil r.fields (by simpa using hne)
  have hsq : r.isSq = false := List.any_eq_false.2 fun y hy => by simp [hrw y hy]
  have hw : r.writable = true := List.any_eq_true.2 ⟨x, hx, by simp [hrw x hx]⟩
  have ho : r.writeOnce = false := List.any_eq_false.2 fun y hy => by simp [hrw y hy]
  have hag : r.allGuarded = false := List.all_eq_false.2 ⟨x, hx, by simp [hrw x hx]⟩
  obtain ⟨l, hc⟩ := s.consume_unlocks req a
  rcases hcons : s.consume req a with ⟨granted, u⟩
  obtain rfl : u = s.withUnlocks l := by rw [← hc, hcons]
  have hheld : (s.withUnlocks l).heldWord a = s.rd a := by
    simp only [State.heldWord, Bool.and_eq_true, decide_eq_true_eq, hp, if_false]
    rfl
  have hm : ∀ locked, r.merge (s.rd a) v granted locked = { word := (s.rd a &&& ~~~mask) ||| (v &&& mask) } := fun locked => by
    rw [RegRow.merge, Merge.foldl_rw _ _ _ _ _ hrw, writeFields_mask _ mask _ _ hmask]
  refine ⟨l, ?_⟩
  simp only [State.regWrite, hrow, hg, hlo, hcons, hsq, hhi, hw, ho, hag, hheld, hm, State.when_false, Bool.not_true, Bool.false_and,
    Bool.false_eq_true, if_false]

theorem ofLe_leBytes (n v : Nat) : ofLe (leBytes n v) = v % 256 ^ n := by
  induction n generalizing v with
  | zero => rw [Nat.pow_zero, Nat.mod_one]; rfl
  | succ n ih =>
    rw [leBytes, ofLe, ih, BitVec.toNat_ofNat, show 256 ^ (n + 1) = 256 * 256 ^ n from Nat.pow_succ', Nat.mod_mul]

theorem leBytes_length (n v : Nat) : (leBytes n v).length = n := by
  induction n generalizing v with
  | zero => rfl
  | succ n ih => rw [leBytes, List.length_cons, ih]

theorem motVmax_rw : ∀ x : Fin 16, rwRegister (MOT_VMAX x) 0xFFFFFFFF = true := by decide
theorem fltIrq_rw : rwRegister FLT_IRQ 0x7BF = true := by decide
theorem supTiming_rw : rwRegister SUP_TIMING 0x3FFF = true := by decide

theorem State.hook_fltIrq (s : State) (req : Nat) (w : Word) : s.hook req FLT_IRQ w = s.wr FLT_IRQ w := rfl
theorem State.hook_supTiming (s : State) (req : Nat) (w : Word) : s.hook req SUP_TIMING w = s.wr SUP_TIMING w := rfl
theorem State.hook_motVmax (s : State) (req : Nat) (x : Fin 16) (w : Word) : s.hook req (MOT_VMAX x) w = s.wr (MOT_VMAX x) w := by
  have hblock : MOT_VMAX x / 0x10000 = 0x0A := by simp only [MOT_VMAX]; omega
  have haxis : MOT_VMAX x < 0xA8000 := by simp only [MOT_VMAX]; omega
  have hoff : MOT_VMAX x % 0x200 = 0x20 := by simp only [MOT_VMAX]; omega
  simp only [State.hook, hblock, State.hookMotion, haxis, if_true, State.hookAxis, hoff]

/-! To a nozzle-table entry (R171, R173, R380, R667) -/

section
variable {α : Type} (π : State → α) (hout : ∀ (s : State) o w t, π { s with out := o, wire := w, lineTx := t } = π s)
  (htwin : ∀ (s : State) o, π { s with twin := o } = π s)
include hout

theorem State.emit_keeps (s : State) (o : Out) : π (s.emit o) = π s := by
  simp only [State.emit, State.emitHeld]
  split
  · rfl
  · exact hout _ _ _ _

include htwin

theorem State.sendEnc_keeps (s : State) (i kind : Nat) (payload : List Byte) : π (s.sendEnc i kind payload) = π s := by
  simp only [State.sendEnc]
  split
  · rfl
  · exact (htwin _ _).trans (State.emit_keeps π hout _ _)

theorem State.mirror_keeps (s : State) (entry : List Byte) : π (s.mirror entry) = π s := by
  simp only [State.mirror]
  split
  · exact (State.forEach_keeps π _ _ (fun s i _ => State.when_keeps π _ _
      (fun s => State.sendEnc_keeps π hout htwin s _ _ _) s) _).trans (htwin _ _)
  · rfl

/-- Beyond the entry a write of the nozzle table reaches what is sent, the twin's mirror and the marks for the event log. -/
theorem State.writeNozzle_keeps (hdirty : ∀ (s : State) o, π { s with nzDirty := o } = π s) (s : State) (n v : Nat) :
    π (s.writeNozzle n v) = π (s.writeMem (nozzleAddr n) (leBytes 8 (withParity v))) := by
  simp only [State.writeNozzle]
  split
  · rfl
  · exact (State.mirror_keeps π hout htwin _ _).trans (hdirty _ _)

end

theorem State.writeNozzle_mem (s : State) (n v : Nat) :
    (s.writeNozzle n v).mem = (s.writeMem (nozzleAddr n) (leBytes 8 (withParity v))).mem :=
  State.writeNozzle_keeps State.mem (fun _ _ _ _ => rfl) (fun _ _ => rfl) (fun _ _ => rfl) s n v

theorem State.writeNozzle_tb (s : State) (n v : Nat) : (s.writeNozzle n v).tb = s.tb :=
  State.writeNozzle_keeps State.tb (fun _ _ _ _ => rfl) (fun _ _ => rfl) (fun _ _ => rfl) s n v

theorem State.writeNozzle_engines (s : State) (n v : Nat) : (s.writeNozzle n v).engines = s.engines :=
  State.writeNozzle_keeps State.engines (fun _ _ _ _ => rfl) (fun _ _ => rfl) (fun _ _ => rfl) s n v

theorem State.readMem_writeMem_same (s : State) (a : Nat) (bs : List Byte) : (s.writeMem a bs).readMem a bs.length = bs := by
  refine List.ext_getElem (by simp [State.readMem_eq]) fun i hi hb => ?_
  simp [State.readMem_eq, State.byte_writeMem, hb]

theorem onesBelow_mod (n k w : Nat) (h : w ≤ k) : onesBelow (n % 2 ^ k) w = onesBelow n w := by
  induction w with
  | zero => rfl
  | succ w ih =>
    have hw : w < k := h
    rw [onesBelow, onesBelow, ih (by omega), ← Nat.toNat_testBit, ← Nat.toNat_testBit, Nat.testBit_mod_two_pow]
    simp [hw]

theorem withParity_eq (v : Nat) : withParity v = v % 2 ^ 63 + onesBelow (v % 2 ^ 63) 63 % 2 * 2 ^ 63 := rfl

theorem withParity_mod (v : Nat) : withParity v % 2 ^ 63 = v % 2 ^ 63 := by
  rw [withParity_eq, Nat.add_mul_mod_self_right, Nat.mod_mod]

theorem withParity_lt (v : Nat) : withParity v < 2 ^ 64 := by
  rw [withParity_eq]
  generalize onesBelow (v % 2 ^ 63) 63 = k
  omega

theorem withParity_even (v : Nat) : onesBelow (withParity v) 64 % 2 = 0 := by
  have hlow : onesBelow (withParity v) 63 = onesBelow (v % 2 ^ 63) 63 := by
    rw [← onesBelow_mod _ 63 63 (Nat.le_refl _), withParity_mod]
  have htop : withParity v / 2 ^ 63 = onesBelow (v % 2 ^ 63) 63 % 2 := by
    rw [withParity_eq]
    generalize onesBelow (v % 2 ^ 63) 63 = k
    omega
  rw [onesBelow, hlow, htop]
  omega

theorem State.writeNozzle_nozzle (s : State) (n v : Nat) : (s.writeNozzle n v).nozzle n = withParity v := by
  have hr := (s.readMem_writeMem_same (nozzleAddr n) (leBytes 8 (withParity v)))
  rw [leBytes_length] at hr
  rw [State.nozzle, State.readMem, State.writeNozzle_mem, ← State.readMem, hr, ofLe_leBytes]
  exact Nat.mod_eq_of_lt (withParity_lt v)

theorem State.writeNozzle_byte (s : State) (n v b : Nat) (h : b < nozzleAddr n ∨ nozzleAddr n + 8 ≤ b) :
    (s.writeNozzle n v).byte b = s.byte b := by
  rw [State.byte, State.writeNozzle_mem]
  exact State.byte_writeMem_out s _ b _ (by rwa [leBytes_length])

/-! The oldest posted store of one engine drains (R151) -/

/-- Posted stores wait at engine e alone, its oldest is p, and the clocks run. -/
structure State.DrainsStore (s : State) (e : Fin 15) (p : Posted) (rest : List Posted) : Prop where
  ticking : s.ticking
  awake : s.asleep = false
  inputs : s.inputsQuiet []
  stores : s.storesQuiet [e]
  front : (s.eng e).storeBuf = p :: rest

/-- The tick has drained the oldest store of engine e, the others keeping their order. -/
def State.Drained (s : State) (e : Fin 15) (rest : List Posted) (t : State) : Prop :=
  step s = .next t ∧ t.tb = s.tb + 1 ∧ (t.eng e).storeBuf = rest

namespace State.DrainsStore
variable {s : State} {e : Fin 15} {p : Posted} {rest : List Posted} (h : s.DrainsStore e p rest)
include h

theorem drained {t : State} (ht : (s.popped e rest).storeTakes e p = t) (htb : t.tb = s.tb + 1)
    (hb : t.storeBufs = (s.popped e rest).storeBufs) : s.Drained e rest t := by
  have hd : s.counted.begin.drainOne e = t := (s.counted.begin.drainOne_of_cons e p rest h.front).trans ht
  have hone : s.counted.begin.drains = s.counted.begin.drainOne e := by
    refine State.forEach_once _ _ _ e List.nodup_range (by simp) (fun i hi => ?_) fun i hi => ?_
    · exact State.drainOne_of_nil _ i (h.stores i (by simpa using hi))
    · rw [hd]
      refine State.drainOne_of_nil _ i ?_
      refine (congrFun hb i).trans ?_
      rw [State.storeBufs, s.popped_eng, if_neg (Ne.symm hi)]
      exact h.stores i (by simpa using hi)
  refine ⟨?_, htb, ?_⟩
  · rw [s.step_awake h.ticking h.awake, s.counted.begin.samplesDue_of_quiet h.inputs, hone, hd]
  · refine (congrFun hb e).trans ?_
    rw [State.storeBufs, s.popped_eng, if_pos rfl]

theorem toDdr (hn : p.nozzle = false) (hd : 0x100000000 ≤ p.addr) (hi : p.addr - 0x100000000 + p.bytes.length ≤ s.installed)
    (hr : p.addr - 0x100000000 + p.bytes.length ≤ 0x800000000) (hu : ¬ (e.val = 14 ∧ s.b SYS_PWR_CTRL_PARKED = true))
    (hs : s.soft = []) (hp : s.poison = []) :
    ∃ t, s.Drained e rest t ∧ t.regs = s.regs ∧ ∀ b, t.byte b =
      if p.addr - 0x100000000 ≤ b then (p.bytes[b - (p.addr - 0x100000000)]?).getD (s.byte b) else s.byte b := by
  have hup : (s.popped e rest).ddrUp e = true :=
    (State.ddrUp_iff _ _).2 fun ⟨h14, hpark⟩ => hu ⟨by omega, hpark⟩
  have ht := (State.storeTakes_ddr (s.popped e rest) e p hn hd hi hup).trans (State.deviceWrite_of_clean _ _ _ hr hs hp)
  refine ⟨_, h.drained ht rfl (State.storeBufs_of_engines rfl), rfl, fun b => ?_⟩
  rw [State.byte_writeMem]
  by_cases hin : p.addr - 0x100000000 ≤ b ∧ b < p.addr - 0x100000000 + p.bytes.length
  · have hlt : b - (p.addr - 0x100000000) < p.bytes.length := by omega
    rw [if_pos hin, if_pos hin.1, List.getElem?_eq_getElem hlt]
    rfl
  · rw [if_neg hin]
    split
    · rw [List.getElem?_eq_none (by omega)]
      rfl
    · rfl

/-- A store that does no more than cancel unlocks and raise source 20 is dropped. -/
theorem dropped (l : List (Nat × Nat × Nat)) (info : Nat) (hi : info < 2 ^ 32)
    (ht : (s.popped e rest).storeTakes e p = ((s.popped e rest).withUnlocks l).raise 20 info) :
    ∃ t, s.Drained e rest t ∧ t.mem = s.mem ∧ t.b (FLT_SRC_LATCHED 20) = true ∧ t.rn (FLT_INFO 20) = info := by
  have hf : ((s.popped e rest).withUnlocks l).b DBG_STAT_FROZEN = false := by
    have := h.awake
    simp only [State.asleep, Bool.or_eq_false_iff] at this
    exact this.1
  refine ⟨_, h.drained ht (State.raise_tb _ _ _) (State.raise_storeBufs _ _ _), State.raise_mem _ _ _,
    State.raise_latched _ 20 info (by decide) hf, ?_⟩
  rw [State.rn, State.raise_info _ 20 info (by decide) hf, BitVec.toNat_ofNat, Nat.mod_eq_of_lt hi]

theorem noDdr (hn : p.nozzle = false) (hd : 0x100000000 ≤ p.addr)
    (hi : s.installed < p.addr - 0x100000000 + p.bytes.length ∨ (e.val = 14 ∧ s.b SYS_PWR_CTRL_PARKED = true)) :
    ∃ t, s.Drained e rest t ∧ t.mem = s.mem ∧ t.b (FLT_SRC_LATCHED 20) = true ∧
      t.rn (FLT_INFO 20) = xInfo e (0x80000000 + (p.addr - 0x100000000) - (s.eng e).apBase) := by
  have hu : (s.popped e rest).installed < p.addr - 0x100000000 + p.bytes.length ∨ (s.popped e rest).ddrUp e = false :=
    hi.imp id fun ⟨h14, hpark⟩ => Bool.eq_false_iff.2 fun hup => (State.ddrUp_iff _ _).1 hup ⟨by omega, hpark⟩
  have ht := State.storeTakes_noDdr (s.popped e rest) e p hn hd hu
  rw [s.popped_eng, if_pos rfl] at ht
  exact h.dropped _ _ (xInfo_lt e _) ht

theorem noBlock (hn : p.nozzle = false) (hd : ¬ 0x100000000 ≤ p.addr)
    (hb : 0x1000000 ≤ p.addr ∨
      (windowRange p.addr = false ∧ rowOf p.addr = none ∧ p.bytes.length ≤ 4 ∧ s.busUp e p.addr = true)) :
    ∃ t, s.Drained e rest t ∧ t.mem = s.mem ∧ t.b (FLT_SRC_LATCHED 20) = true ∧ t.rn (FLT_INFO 20) = xInfo e p.addr := by
  by_cases hgap : 0x1000000 ≤ p.addr
  · exact h.dropped _ _ (xInfo_lt e _) (State.storeTakes_gap (s.popped e rest) e p hn hgap hd)
  · obtain ⟨hw, hr, hl, hu⟩ := hb.resolve_left hgap
    obtain ⟨l, hc⟩ := (s.popped e rest).consume_unlocks e p.addr
    have ht := (State.storeTakes_bar (s.popped e rest) e p hn (by omega)).trans
      (State.busStore_unmapped (s.popped e rest) e p.addr p.bytes hu hw hr hl)
    exact h.dropped l _ (xInfo_lt e _) (hc ▸ ht)

/-- A word posted for such a register, where writing it does no more than put the word there, writes the register. -/
theorem toRegister (hn : p.nozzle = false) (v mask : Word) (hb : p.bytes = leBytes 4 v.toNat) (hu : s.busUp e p.addr = true)
    (hr : rwRegister p.addr mask = true) (hh : ∀ (u : State) req w, u.hook req p.addr w = u.wr p.addr w) :
    ∃ t, s.Drained e rest t ∧ s.regsBut t [p.addr] ∧ t.rd p.addr = (s.rd p.addr &&& ~~~mask) ||| (v &&& mask) := by
  obtain ⟨hlow, h4, hw, -, -⟩ := of_decide_eq_true ((Bool.and_eq_true _ _).mp hr).2
  obtain ⟨l, hreg⟩ := (s.popped e rest).regWrite_rw e p.addr v mask hr
  have hbus : (s.popped e rest).busStore e p.addr p.bytes = (s.popped e rest).regWrite e p.addr v := by
    have hup : (s.popped e rest).busUp e p.addr = true := hu
    have hv : BitVec.ofNat 32 (ofLe p.bytes) = v := by
      rw [hb, ofLe_leBytes]
      exact BitVec.eq_of_toNat_eq (by rw [BitVec.toNat_ofNat]; omega)
    have hl : p.bytes.length = 4 := by rw [hb, leBytes_length]
    simp only [State.busStore, hup, hw, h4, hl, hv, decide_true, Bool.and_self, Bool.not_true, Bool.false_eq_true, if_false, if_true]
  have ht := (State.storeTakes_bar (s.popped e rest) e p hn hlow).trans (hbus.trans (hreg.trans (hh _ _ _)))
  refine ⟨_, h.drained ht rfl (State.storeBufs_of_engines rfl), ⟨rfl, fun b hb => ?_⟩, State.rd_wr_same _ _ _⟩
  rw [State.rd_wr_ne _ _ _ _ (by simpa [eq_comm] using hb)]
  rfl

theorem toNozzle (hn : p.nozzle = true) :
    ∃ t, step s = .next t ∧ t.tb = s.tb + 1 ∧ t.nozzle p.addr % 2 ^ 63 = ofLe p.bytes % 2 ^ 63 ∧
      onesBelow (t.nozzle p.addr) 64 % 2 = 0 ∧
      ∀ b, (b < nozzleAddr p.addr ∨ nozzleAddr p.addr + 8 ≤ b) → t.byte b = s.byte b := by
  obtain ⟨hstep, htb, -⟩ := h.drained (State.storeTakes_nozzle (s.popped e rest) e p hn) (State.writeNozzle_tb _ _ _)
    (State.storeBufs_of_engines (State.writeNozzle_engines _ _ _))
  refine ⟨_, hstep, htb, ?_, ?_, fun b hb => State.writeNozzle_byte _ _ _ b hb⟩
  · rw [State.writeNozzle_nozzle, withParity_mod]
  · rw [State.writeNozzle_nozzle, withParity_even]

end State.DrainsStore

/-! What a change of a channel's position reaches (R546, R565 to R570, R572, R535, R530) -/

/-- The edges of an axis's balls that wait for their DEB. -/
def Axis.waits (x : Axis) : Option Nat × Option Nat × Option Nat := (x.limNAt, x.limPAt, x.homeAt)

/-- The edges that wait, by axis. -/
def State.inputWaits (s : State) (a : Nat) : Option Nat × Option Nat × Option Nat := (s.axis a).waits

theorem State.setAxis_inputWaits (s : State) (a : Nat) (x : Axis) (h : x.waits = (s.axis a).waits) :
    (s.setAxis a x).inputWaits = s.inputWaits := by
  funext b
  simp only [State.inputWaits, State.setAxis_axis]
  split
  · next hab => rw [h, hab]
  · rfl

theorem State.inputWaits_of_axes {s t : State} (h : t.axes = s.axes) : t.inputWaits = s.inputWaits := by
  funext a
  simp only [State.inputWaits, State.axis, h]

@[simp] theorem State.setF_axes (s : State) (x : Field) (v : Nat) : (s.setF x v).axes = s.axes := State.wr_axes _ _ _
@[simp] theorem State.setB_axes (s : State) (x : Field) (v : Bool) : (s.setB x v).axes = s.axes := State.wr_axes _ _ _
@[simp] theorem State.wn_axes (s : State) (a v : Nat) : (s.wn a v).axes = s.axes := State.wr_axes _ _ _
@[simp] theorem State.ev_axes (s : State) (x : Field) : (s.ev x).axes = s.axes := State.wr_axes _ _ _
@[simp] theorem State.incSat_axes (s : State) (x : Field) (n : Nat) : (s.incSat x n).axes = s.axes := State.setF_axes _ _ _

theorem State.forceLoop_axes (s : State) (l : Nat) : (s.forceLoop l).axes = s.axes := by
  simp only [State.forceLoop]
  split
  · simp only [State.ev_axes, State.setB_axes]
  · rfl

theorem Axis.stopOn_waits (r : Ramp) (x : Axis) : (x.stopOn r).waits = x.waits := by
  simp only [Axis.stopOn]
  split <;> rfl

theorem State.stopAxis_inputWaits (s : State) (r : Ramp) (a : Nat) : (s.stopAxis r a).inputWaits = s.inputWaits := by
  have hloops : ∀ (s : State) l, (s.forEach l State.forceLoop).inputWaits = s.inputWaits := fun s l =>
    State.forEach_keeps State.inputWaits l _ (fun s l _ => State.inputWaits_of_axes (s.forceLoop_axes l)) s
  have hset := s.setAxis_inputWaits a _ (Axis.stopOn_waits r (s.axis a))
  simp only [State.stopAxis]
  split
  · exact hloops _ _
  · split
    · exact (hloops _ _).trans hset
    · exact hset

theorem State.safeOutputs_inputWaits (s : State) (s4 : Bool) : (s.safeOutputs s4).inputWaits = s.inputWaits := by
  simp only [State.safeOutputs]
  rw [State.forEach_keeps State.inputWaits _ _ fun s a _ => ?_, State.forEach_keeps State.inputWaits _ _ fun s p _ => ?_,
    State.forEach_keeps State.inputWaits _ _ fun s l _ => ?_]
  · exact State.when_keeps State.inputWaits _ _ (fun s => State.inputWaits_of_axes (s.forceLoop_axes _)) s
  · exact State.inputWaits_of_axes (State.when_keeps State.axes _ (·.setB (PWM_CFG_EN p) false) (fun s => s.setB_axes _ _) s)
  · exact (State.inputWaits_of_axes (State.when_keeps State.axes _ (·.setB (MOT_CTRL_ENABLE a) false) (fun s => s.setB_axes _ _) _)).trans
      (s.stopAxis_inputWaits _ _)

theorem State.abortLane_axes (s : State) (l reason : Nat) : (s.abortLane l reason).axes = s.axes :=
  State.when_keeps State.axes _ _ (fun s => State.emit_keeps State.axes (fun _ _ _ _ => rfl) s _) s

theorem State.inhibitTests_axes (s : State) (l : Nat) : (s.inhibitTests l).axes = s.axes := rfl

theorem State.spoilWhere_axes (s : State) (code : Nat) (q : Item → Bool) : (s.spoilWhere code q).axes = s.axes := rfl

theorem State.react_inputWaits (s : State) (src sev : Nat) : (s.react src sev).inputWaits = s.inputWaits := by
  have hlanes : ∀ s : State, (s.forEach allLanes fun s l =>
      ((s.abortLane l 0x10).inhibitTests l).modLane l fun x => { x with heldFirst := true }).axes = s.axes := fun s =>
    State.forEach_keeps State.axes _ _ (fun s l _ => by
      rw [State.modLane, State.setLane_axes, State.inhibitTests_axes, State.abortLane_axes]) s
  simp only [State.react]
  split
  · split
    · rfl
    · exact State.inputWaits_of_axes (s.spoilWhere_axes _ _)
  · split
    · rw [State.safeOutputs_inputWaits]
      refine State.inputWaits_of_axes ?_
      rw [hlanes, State.spoilWhere_axes, State.setF_axes]
    · rfl

theorem State.msix_axes (s : State) (v : Nat) : (s.msix v).axes = s.axes := by
  simp only [State.msix]
  split
  · rfl
  · split
    · exact State.wr_axes _ _ _
    · exact State.emit_keeps State.axes (fun _ _ _ _ => rfl) s _

/-- The first-fault rules write registers and the collector's mark of the cycle. -/
theorem State.firstFault_keeps {α : Type} (π : State → α) (hwr : ∀ (s : State) a v, π (s.wr a v) = π s)
    (hfirst : ∀ (s : State) o, π { s with firstThis := o } = π s) (s : State) (src sev : Nat) (injected : Bool) :
    π (s.firstFault src sev injected) = π s := by
  have hclear : π ((List.range 4).foldl (fun s k => s.wn (FLT_FIRST_SET k) 0) s) = π s :=
    State.foldl_keeps π _ _ (fun s k _ => hwr _ _ _) s
  simp only [State.firstFault, State.ev, State.setB, State.setF, State.wr64, State.wn, hwr]
  split
  · rw [hfirst]
    simp only [hwr]
    exact hclear
  · split
    · split <;> simp only [hwr]
    · rfl

theorem State.latchSrc_axes (s : State) (injected : Bool) (src sev : Nat) : (s.latchSrc injected src sev).axes = s.axes := by
  have hread : ∀ (s : State) o, ({ s with fltRead := o } : State).axes = s.axes := fun _ _ => rfl
  unfold State.latchSrc
  by_cases h : s.b (FLT_SRC_LATCHED src) = true
  · rw [if_pos h, State.wr_axes]
  · rw [if_neg h, hread, State.wr_axes]

theorem State.latchWrites_axes (s : State) (injected : Bool) (src info sev : Nat) :
    (s.latchWrites injected src info sev).axes = s.axes := by
  rw [State.latchWrites, State.incSat_axes, State.wn_axes, State.wr_axes, State.latchSrc_axes]

/-- A latch stops axes, and leaves what waits at their inputs. -/
theorem State.raise_inputWaits (s : State) (src info : Nat) : (s.raise src info).inputWaits = s.inputWaits := by
  refine State.raise_keeps State.inputWaits s src info ?_
  cases hd : sourceDefined src
  · simp [State.raiseWith, hd]
  · have hpulse : ∀ (s : State) (c : Prop) [Decidable c],
        (if c then { s with errPulseEnd := some (s.tb + s.errPulseTicks) } else s).inputWaits = s.inputWaits := by
      intro s c _; split <;> rfl
    have hmsix : ∀ (s : State) c, (s.when c fun s => s.msix (s.f FLT_IRQ_VECTOR)).inputWaits = s.inputWaits := fun s c =>
      State.when_keeps State.inputWaits c _ (fun s => State.inputWaits_of_axes (s.msix_axes _)) s
    have hhold : ∀ (s : State) c, (s.when c (·.setB FLT_CTRL_ERR_HOLD true)).inputWaits = s.inputWaits := fun s c =>
      State.when_keeps State.inputWaits c _ (fun s => State.inputWaits_of_axes (s.setB_axes _ _)) s
    have hev : ∀ s : State, (s.engEvents 3 allEngines).inputWaits = s.inputWaits := fun s => State.inputWaits_of_axes
      (State.forEach_keeps State.axes allEngines (fun s e => s.engEvent 3 e) (fun s e _ => s.setEng_axes e _) s)
    simp only [State.raiseWith, hd, Bool.not_true, Bool.false_eq_true, if_false]
    rw [State.errDrive, State.inputWaits_of_axes (State.setB_axes _ _ _), hhold, hpulse, hmsix, State.react_inputWaits, hev,
      State.inputWaits_of_axes (State.firstFault_keeps State.axes State.wr_axes (fun _ _ => rfl) _ _ _ _),
      State.inputWaits_of_axes (State.latchWrites_axes _ _ _ _ _)]

theorem State.inputs_none_of_inputWaits {s t : State} (h : t.inputWaits = s.inputWaits)
    (hs : ∀ a, (s.axis a).limNAt = none ∧ (s.axis a).limPAt = none ∧ (s.axis a).homeAt = none) (a : Nat) :
    (t.axis a).limNAt = none ∧ (t.axis a).limPAt = none ∧ (t.axis a).homeAt = none := by
  have ha : (t.axis a).waits = (s.axis a).waits := congrFun h a
  simp only [Axis.waits, hs a, Prod.mk.injEq] at ha
  exact ha

/-- A register other than the two of a channel's position. -/
def offPosition (c : Fin 12) (a : Nat) : Prop := a ≠ FB_POS_LO c ∧ a ≠ FB_POS_LO c + 4

/-- A part of the state that what follows a channel's position does not reach: compare units, emulation outputs and reject stations write
registers other than the position's, raise sources and set events, and a gear notes that its master has met GAT. -/
structure State.MoveApart {α : Type} (c : Fin 12) (π : State → α) : Prop where
  wr : ∀ (s : State) a v, offPosition c a → π (s.wr a v) = π s
  raise : ∀ (s : State) src info, π (s.raise src info) = π s
  event : ∀ (s : State) ev e, π (s.engEvent ev e) = π s
  cmp : ∀ (s : State) i x, π (s.setCmp i x) = π s
  emu : ∀ (s : State) i x, π (s.setEmu i x) = π s
  rej : ∀ (s : State) i x, π (s.setRej i x) = π s
  items : ∀ (s : State) o, π { s with items := o } = π s
  gear : ∀ (s : State) a, π (s.modAxis a fun y => { y with gearMet := true }) = π s

section
variable (c : Fin 12)

theorem offPosition_stat : offPosition c (FB_STAT c) := by
  simp only [offPosition, FB_STAT, FB_POS_LO]; omega

theorem offPosition_hits (k : Nat) : offPosition c (CMP_HITS c k) := by
  simp only [offPosition, CMP_HITS, FB_POS_LO]; omega

theorem offPosition_shctl (k : Nat) : offPosition c (CMP_SHCTL c k) := by
  simp only [offPosition, CMP_SHCTL, FB_POS_LO]; omega

theorem offPosition_emuLag (n : Nat) : offPosition c (EMU_LAG n) := by
  simp only [offPosition, EMU_LAG, FB_POS_LO]; omega

theorem offPosition_emuStat (n : Nat) : offPosition c (EMU_STAT n) := by
  simp only [offPosition, EMU_STAT, FB_POS_LO]; omega

theorem offPosition_rejStat (r : Nat) (hr : r < 4) : offPosition c (REJ_STAT r) := by
  simp only [offPosition, REJ_STAT, FB_POS_LO]; omega

theorem offPosition_rejCnt (r : Nat) : offPosition c (REJ_CNT r) := by
  simp only [offPosition, REJ_CNT, FB_POS_LO]; omega

end

namespace State.MoveApart
variable {α : Type} {c : Fin 12} {π : State → α} (h : State.MoveApart c π)
include h

theorem ev (s : State) (x : Field) (hx : offPosition c x.addr) : π (s.ev x) = π s := h.wr _ _ _ hx

theorem setF (s : State) (x : Field) (v : Nat) (hx : offPosition c x.addr) : π (s.setF x v) = π s := h.wr _ _ _ hx

theorem setB (s : State) (x : Field) (v : Bool) (hx : offPosition c x.addr) : π (s.setB x v) = π s := h.wr _ _ _ hx

theorem wn (s : State) (a v : Nat) (ha : offPosition c a) : π (s.wn a v) = π s := h.wr _ _ _ ha

theorem incSat (s : State) (x : Field) (n : Nat) (hx : offPosition c x.addr) : π (s.incSat x n) = π s := h.setF _ _ _ hx

theorem modRej (s : State) (r : Nat) (g : Reject → Reject) : π (s.modRej r g) = π s := h.rej _ _ _

theorem modItem (s : State) (id : Nat) (g : Item → Item) : π (s.modItem id g) = π s := h.items _ _

theorem dropItem (s : State) (id : Nat) : π (s.dropItem id) = π s := h.items _ _

/-- An event of a status register as one step with the source it raises. -/
theorem evRaise (s : State) (x : Field) (src info : Nat) (hx : offPosition c x.addr) : π ((s.ev x).raise src info) = π s :=
  (h.raise _ _ _).trans (h.ev _ _ hx)

theorem cmpCommit (s : State) (k : Nat) : π (s.cmpCommit c k) = π s := by
  have hctl := offPosition_shctl c k
  simp only [State.cmpCommit]
  split
  · rfl
  · split
    · exact (h.evRaise _ _ _ _ (offPosition_stat c)).trans (h.setB _ _ _ hctl)
    · exact (h.wn _ _ _ hctl).trans (h.cmp _ _ _)

theorem cmpHit (s : State) (k n : Nat) : π (s.cmpHit c k n) = π s := by
  have hskip : ∀ (s : State) b, π (s.when b fun s => (s.ev (FB_STAT_CMP_SKIP c)).raise 94 c) = π s := fun s b =>
    State.when_keeps π b _ (fun s => h.evRaise _ _ _ _ (offPosition_stat c)) s
  have hevents : ∀ (s : State) ev, π (s.engEvents ev mcEngines) = π s := fun s ev =>
    State.forEach_keeps π _ _ (fun s e _ => h.event s ev e) s
  simp only [State.cmpHit, State.modCmp]
  rw [h.cmpCommit, hskip, h.cmp, h.wn _ _ _ (offPosition_hits c k), hevents]

theorem cmpMoved (s : State) (k : Nat) (old new : Int) : π (s.cmpMoved c k old new) = π s := by
  unfold State.cmpMoved
  extract_lets
  split
  · exact h.cmpHit s k _
  · rfl

theorem gearWatch (s : State) (d : Nat) (old new : Int) : π (s.gearWatch d old new) = π s :=
  State.forEach_keeps π _ _ (fun s a _ => State.when_keeps π _ _ (fun s => h.gear s a) s) s

theorem emuLag (s : State) (n : Nat) : π (s.emuLag n) = π s := by
  have hrate : ∀ (s : State) b, π (s.when b fun s => (s.ev (EMU_STAT_RATE n)).raise 95 n) = π s := fun s b =>
    State.when_keeps π b _ (fun s => h.evRaise _ _ _ _ (offPosition_emuStat c n)) s
  simp only [State.emuLag]
  split
  · rfl
  · rw [hrate, State.modEmu, h.emu, h.wn _ _ _ (offPosition_emuLag c n)]

theorem emuFollow (s : State) (d : Nat) : π (s.emuFollow d) = π s :=
  State.forEach_keeps π _ _ (fun s n _ => State.when_keeps π _ _ (fun s => h.emuLag s n) s) s

theorem rejShow (s : State) (r : Nat) (hr : r < 4) : π (s.rejShow r) = π s := by
  have hstat := offPosition_rejStat c r hr
  simp only [State.rejShow]
  rw [h.modRej, h.setB _ _ _ hstat, h.setF _ _ _ hstat]

theorem rejDivert (s : State) (r item : Nat) (hr : r < 4) : π (s.rejDivert r item) = π s := by
  simp only [State.rejDivert]
  split
  · rw [h.rejShow _ r hr, h.incSat _ _ _ (offPosition_rejCnt c r), h.ev _ _ (offPosition_rejStat c r hr), h.modRej]
  · rfl

theorem decisionLate (s : State) (r item : Nat) (hr : r < 4) : π (s.decisionLate r item) = π s := by
  simp only [State.decisionLate]
  rw [h.modItem, h.raise, h.incSat _ _ _ (offPosition_rejCnt c r), h.ev _ _ (offPosition_rejStat c r hr), State.spoil, h.modItem]

theorem rejStart (s : State) (r : Nat) (e : RejEntry) (hr : r < 4) : π (s.rejStart r e) = π s := by
  have hlate : ∀ (s : State) b id, π (s.when b (·.decisionLate r id)) = π s := fun s b id =>
    State.when_keeps π b _ (fun s => h.decisionLate s r id hr) s
  have hdivert : ∀ (s : State) b id, π (s.when b (·.rejDivert r id)) = π s := fun s b id =>
    State.when_keeps π b _ (fun s => h.rejDivert s r id hr) s
  have hdrop : ∀ (s : State) b id, π (s.when b (·.dropItem id)) = π s := fun s b id =>
    State.when_keeps π b _ (fun s => h.dropItem s id) s
  simp only [State.rejStart]
  split
  · exact h.modRej _ _ _
  · rw [hdrop, hdivert, h.modRej, h.modItem, hlate]

theorem rejAdvance (s : State) (r : Nat) (hr : r < 4) : π (s.rejAdvance r) = π s := by
  simp only [State.rejAdvance]
  rw [h.rejShow _ r hr, h.modRej, State.foldl_keeps π _ _ fun s e _ => h.rejStart s r e hr]

theorem rejMoved (s : State) (d : Nat) : π (s.rejMoved d) = π s := by
  refine State.forEach_keeps π _ _ (fun s r hr => ?_) s
  split
  · exact h.rejAdvance s r (List.mem_range.1 hr)
  · rfl

/-- Everything that reads a channel's position sees it move, and leaves what is apart. -/
theorem fbMoved (s : State) (old new : Int) : π (s.fbMoved c old new) = π s := by
  simp only [State.fbMoved]
  rw [h.rejMoved, h.emuFollow, h.gearWatch]
  exact State.forEach_keeps π _ _ (fun s k _ => h.cmpMoved s k old new) s

end State.MoveApart

/-! A correction on index (R565) -/

section
variable (c : Fin 12)

theorem State.moveApart_mem : State.MoveApart c State.mem := by
  constructor
  case raise => exact State.raise_mem
  all_goals intros; rfl

theorem State.moveApart_tb : State.MoveApart c State.tb := by
  constructor
  case raise => exact State.raise_tb
  all_goals intros; rfl

theorem State.apart_channels : State.Apart (fun _ => True) State.channels := by constructor <;> intros <;> rfl

/-- The corrections on index that wait, by channel. -/
def State.corrs (s : State) (i : Nat) : Option (Int × Nat) := (s.chan i).corr

theorem State.corrs_of_channels {s t : State} (h : t.channels = s.channels) : t.corrs = s.corrs := by
  funext i
  simp only [State.corrs, State.chan, h]

theorem State.modChan_corrs (s : State) (i : Nat) (g : Channel → Channel) (j : Nat) :
    (s.modChan i g).corrs j = if i = j then (g (s.chan i)).corr else s.corrs j := by
  simp only [State.corrs, State.modChan, State.setChan_chan]
  split <;> rfl

theorem State.moveApart_corrs : State.MoveApart c State.corrs := by
  constructor
  case raise => exact fun s src info => State.corrs_of_channels <| State.raise_keeps _ s src info <|
    State.apart_channels.raiseWith_keeps .all s false src info (fun _ _ _ => rfl) fun _ _ => trivial
  all_goals intros; rfl

theorem State.moveApart_inputWaits : State.MoveApart c State.inputWaits := by
  constructor
  case raise => exact State.raise_inputWaits
  case gear => exact fun s a => s.setAxis_inputWaits a _ rfl
  all_goals intros; rfl

theorem State.moveApart_storeBufs : State.MoveApart c State.storeBufs := by
  constructor
  case raise => exact State.raise_storeBufs
  case event =>
    intro s ev e
    funext i
    simp only [State.storeBufs, State.engEvent, State.modEng_eng]
    split
    · next hi => rw [hi]
    · rfl
  all_goals intros; rfl

theorem State.moveApart_rd64 : State.MoveApart c fun s => s.rd64 (FB_POS_LO c) := by
  have hreach : raiseReach (FB_POS_LO c) = false ∧ raiseReach (FB_POS_LO c + 4) = false := by
    revert c
    decide
  constructor
  case wr =>
    intro s a v ha
    simp only [State.rd64, State.rn, State.rd_wr_ne _ _ _ _ ha.1, State.rd_wr_ne _ _ _ _ ha.2]
  case raise =>
    intro s src info
    simp only [State.rd64, State.rn, State.raise_rd _ _ _ _ hreach.1, State.raise_rd _ _ _ _ hreach.2]
  all_goals intros; rfl

theorem State.fbCorrect_owned (s : State) (diff : Int) (h : s.unitOwned c = true) : s.fbCorrect c diff = s.ev (FB_STAT_IGN_CORR c) := by
  rw [State.fbCorrect, if_pos h]

theorem State.fbCorrect_free (s : State) (diff : Int) (h : s.unitOwned c = false) :
    s.fbCorrect c diff = ((s.setPos64 c (s.pos64 c - diff * one)).modChan c fun x => { x with off := x.off - diff * one }).fbMoved c
      (s.pos64 c) (s.pos64 c - diff * one) := by
  rw [State.fbCorrect, h]
  rfl

/-- A correction on index leaves what neither its channel's part nor what follows a position reaches. -/
theorem State.MoveApart.fbCorrect {α : Type} {c : Fin 12} {π : State → α} (h : State.MoveApart c π)
    (hpos : ∀ (s : State) x, π (s.setPos64 c x) = π s)
    (hoff : ∀ (s : State) d, π (s.modChan c fun x => { x with off := x.off - d }) = π s) (s : State) (diff : Int) :
    π (s.fbCorrect c diff) = π s := by
  cases ho : s.unitOwned c
  · rw [s.fbCorrect_free c diff ho, h.fbMoved, hoff, hpos]
  · rw [s.fbCorrect_owned c diff ho, h.ev _ _ (offPosition_stat c)]

theorem State.setPos64_rd64 (s : State) (x : Int) :
    ((s.setPos64 c x).rd64 (FB_POS_LO c) : Int) = x / one % 0x10000000000000000 := by
  have hlo : FB_POS_FRAC c ≠ FB_POS_LO c := by simp only [FB_POS_FRAC, FB_POS_LO]; omega
  have hhi : FB_POS_FRAC c ≠ FB_POS_LO c + 4 := by simp only [FB_POS_FRAC, FB_POS_LO]; omega
  have hpos : (s.setPos64 c x).rd64 (FB_POS_LO c) = (s.wr64 (FB_POS_LO c) (ofSigned 64 (x / one))).rd64 (FB_POS_LO c) := by
    simp only [State.setPos64, State.wrS64, State.wn, State.rd64, State.rn, State.rd_wr_ne _ _ _ _ hlo, State.rd_wr_ne _ _ _ _ hhi]
  rw [hpos, State.rd64_wr64]
  simp only [ofSigned]
  omega

/-- The fraction of a count keeps its value where whole counts are taken off. -/
theorem State.pos64_sub (s : State) (diff : Int) : (s.pos64 c - diff * one) / one = s.rdS64 (FB_POS_LO c) - diff := by
  have hf : (s.rn (FB_POS_FRAC c) : Int) < one := by
    have := (s.rd (FB_POS_FRAC c)).isLt
    simp only [State.rn, one]
    omega
  simp only [State.pos64, one] at hf ⊢
  omega

theorem State.fbCorrect_position (s : State) (diff : Int) (h : s.unitOwned c = false) :
    ((s.fbCorrect c diff).rd64 (FB_POS_LO c) : Int) = (s.rdS64 (FB_POS_LO c) - diff) % 0x10000000000000000 := by
  rw [s.fbCorrect_free c diff h, (State.moveApart_rd64 c).fbMoved, State.modChan, State.setChan_rd64, State.setPos64_rd64, State.pos64_sub]

theorem sqEvent_bit (w : Word) (m : Nat) (h : m < 24) : bits (sqEvent w [m]).toNat m m = 1 := by
  simp only [sqEvent, List.foldl_cons, List.foldl_nil]
  rw [bits_putBits_apart _ _ _ _ _ _ (by omega) (by omega) (by omega), bits_putBits_same _ _ _ _ (by omega) (by omega)]
  simp

theorem State.ev_b (s : State) (x : Field) (h : x.lo = x.hi) (hlo : x.lo < 24) : (s.ev x).b x = true := by
  simp only [State.b, State.f, State.ev, State.rd_wr_same, ← h, sqEvent_bit _ _ hlo, decide_true]

end

/-- The correction of a digital channel is made once the sample after its index has passed (log 63). -/
theorem State.correctDue_eq (s : State) (c : Nat) (diff : Int) (at_ : Nat) (hc : (s.chan c).corr = some (diff, at_))
    (hd : s.f (FB_LIVE_DET_MODE c) ≠ 2) : s.correctDue c = if at_ + 8 < s.tb then s.correctNow c else s := by
  have hs : s.sincos c = false := by simp [State.sincos, hd]
  simp only [State.correctDue, hs, hc, Option.any_some, Bool.not_false, Bool.true_and, State.when, decide_eq_true_eq]

theorem State.correctNow_eq (s : State) (c : Nat) (diff : Int) (at_ : Nat) (hc : (s.chan c).corr = some (diff, at_)) :
    s.correctNow c = (s.modChan c fun x => { x with corr := none }).fbCorrect c diff := by
  simp only [State.correctNow, hc]

/-- A tick in which no input and no posted store waits but for the correction of one channel. -/
theorem State.step_corrects (s t : State) (c : Fin 12) (h : s.ticking) (ha : s.asleep = false) (hi : s.inputsQuiet [c])
    (hq : s.storesQuiet []) (ht : s.counted.begin.correctDue c = t) (hw : t.inputWaits = s.inputWaits) (hb : t.storeBufs = s.storeBufs)
    (hc : ∀ i : Nat, i ≠ c → t.corrs i = s.corrs i) : step s = .next t := by
  obtain ⟨hcorr, hwait⟩ := hi
  have hone : s.counted.begin.forEach (List.range 12) State.correctDue = t := by
    rw [State.forEach_once _ _ _ c List.nodup_range (by simp) (fun i hi => ?_) fun i hi => ?_, ht]
    · exact State.correctDue_of_none _ i (hcorr i (by simpa using hi))
    · rw [ht]
      exact State.correctDue_of_none _ i ((hc i hi).trans (hcorr i (by simpa using hi)))
  have hsettle : t.forEach (List.range 16) State.inputsSettle = t :=
    State.forEach_unchanged _ _ _ fun a _ => t.inputsSettle_of_none a (State.inputs_none_of_inputWaits hw hwait a)
  have hdrain : t.drains = t := t.drains_of_quiet fun i hi => (congrFun hb i).trans (hq i hi)
  rw [s.step_awake h ha, State.samplesDue, hone, hsettle, hdrain]

/-- What a correction leaves as it is, and that it is made once. -/
theorem State.correctNow_keeps (s : State) (c : Fin 12) (diff : Int) (at_ : Nat) (hc : (s.chan c).corr = some (diff, at_)) :
    (s.correctNow c).mem = s.mem ∧ (s.correctNow c).tb = s.tb ∧ (s.correctNow c).inputWaits = s.inputWaits ∧
      (s.correctNow c).storeBufs = s.storeBufs ∧
      ∀ i, (s.correctNow c).corrs i = if c = i then none else s.corrs i := by
  rw [s.correctNow_eq c diff at_ hc]
  have hoff : ∀ (s : State) d, (s.modChan c fun x => { x with off := x.off - d }).corrs = s.corrs := by
    intro s d
    funext i
    rw [State.modChan_corrs]
    split
    · next hi => rw [← hi]; rfl
    · rfl
  refine ⟨(State.moveApart_mem c).fbCorrect (fun _ _ => rfl) (fun _ _ => rfl) _ _,
    (State.moveApart_tb c).fbCorrect (fun _ _ => rfl) (fun _ _ => rfl) _ _,
    (State.moveApart_inputWaits c).fbCorrect (fun _ _ => rfl) (fun _ _ => rfl) _ _,
    (State.moveApart_storeBufs c).fbCorrect (fun _ _ => rfl) (fun _ _ => rfl) _ _, fun i => ?_⟩
  rw [(State.moveApart_corrs c).fbCorrect (fun _ _ => rfl) hoff, State.modChan_corrs]

/-- A correction of digital channel c waits alone, its index taken at at_, and the clocks run. -/
structure State.CorrectionWaits (s : State) (c : Fin 12) (diff : Int) (at_ : Nat) : Prop where
  ticking : s.ticking
  awake : s.asleep = false
  inputs : s.inputsQuiet [c]
  stores : s.storesQuiet []
  corr : (s.chan c).corr = some (diff, at_)
  digital : s.f (FB_LIVE_DET_MODE c) ≠ 2

namespace State.CorrectionWaits
variable {s : State} {c : Fin 12} {diff : Int} {at_ : Nat} (h : s.CorrectionWaits c diff at_)
include h

/-- A tick before the end of the sample after the index makes no correction. -/
theorem onlyTime_of_lt (hlate : s.tb < at_ + 8) : s.onlyTime := by
  have hdue := s.counted.begin.correctDue_eq c diff at_ h.corr h.digital
  rw [if_neg (by simp only [State.begin_tb, State.counted]; omega)] at hdue
  exact ⟨_, s.step_corrects _ c h.ticking h.awake h.inputs h.stores hdue rfl rfl fun _ _ => rfl, rfl, rfl⟩

/-- A tick from the end of that sample on makes the correction (R565). -/
theorem step_corrected (hdue : at_ + 8 ≤ s.tb) :
    ∃ t, step s = .next t ∧ t.tb = s.tb + 1 ∧ t.mem = s.mem ∧ (t.chan c).corr = none ∧
      (s.unitOwned c = false → (t.rd64 (FB_POS_LO c) : Int) = (s.rdS64 (FB_POS_LO c) - diff) % 0x10000000000000000) ∧
      (s.unitOwned c = true → t.b (FB_STAT_IGN_CORR c) = true ∧ t.rd64 (FB_POS_LO c) = s.rd64 (FB_POS_LO c)) := by
  have hnow := s.counted.begin.correctDue_eq c diff at_ h.corr h.digital
  rw [if_pos (by simp only [State.begin_tb, State.counted]; omega)] at hnow
  obtain ⟨hmem, htb, hw, hb, hcorr⟩ := s.counted.begin.correctNow_keeps c diff at_ h.corr
  have hstep := s.step_corrects _ c h.ticking h.awake h.inputs h.stores hnow hw hb fun i hi => by rw [hcorr i, if_neg (Ne.symm hi)]; rfl
  refine ⟨_, hstep, htb, hmem, (hcorr c).trans (if_pos rfl), fun ho => ?_, fun ho => ?_⟩
  · rw [s.counted.begin.correctNow_eq c diff at_ h.corr, State.fbCorrect_position _ _ diff (by exact ho)]
    rfl
  · rw [s.counted.begin.correctNow_eq c diff at_ h.corr, State.fbCorrect_owned _ _ diff (by exact ho)]
    exact ⟨State.ev_b _ _ rfl (show 8 < 24 by decide), (State.moveApart_rd64 c).ev _ _ (offPosition_stat c)⟩

end State.CorrectionWaits

end Sys2Proof.Machine

open Sys2Proof Sys2Proof.Machine
open Sys2Proof.Machine.Reg Sys2Proof.Machine.Fld

/-- Settles O2: a tick makes the corrections that are due and drains one posted store of each engine, and does nothing else. -/
theorem idleStepIsATick : Obligations.IdleStepIsATick := by
  unfold Obligations.IdleStepIsATick
  intro s hs
  refine ⟨?_, fun ha => ⟨fun e p rest hi hq hp => ?_, fun c diff at_ hi hq hc hd => ?_⟩⟩
  · rintro (ha | ⟨hi, hq⟩)
    · exact s.onlyTime_of_asleep hs ha
    · exact s.onlyTime_of_quiet hs hi hq
  · have h : s.DrainsStore e p rest := ⟨hs, ha, hi, hq, hp⟩
    refine ⟨fun hn => ⟨h.toDdr hn, h.noDdr hn, fun hb hd => h.noBlock hn hd hb, fun x v r hr hra hv hu => ?_⟩,
      fun hn _ _ => h.toNozzle hn⟩
    rw [← hra] at hu ⊢
    simp only [List.mem_cons, List.not_mem_nil, or_false] at hr
    rcases hr with rfl | rfl | rfl
    · exact h.toRegister hn v _ hv hu (hra ▸ fltIrq_rw) (hra ▸ State.hook_fltIrq)
    · exact h.toRegister hn v _ hv hu (hra ▸ motVmax_rw x) (hra ▸ fun u req => u.hook_motVmax req x)
    · exact h.toRegister hn v _ hv hu (hra ▸ supTiming_rw) (hra ▸ State.hook_supTiming)
  · have h : s.CorrectionWaits c diff at_ := ⟨hs, ha, hi, hq, hc, hd⟩
    exact ⟨h.onlyTime_of_lt, h.step_corrected⟩
end

section
/-!
PROOFS. Device loads and stalls (05_xaone_isa.md R150, R151, R159, R178; 02_package_power.md R64; 04_register_model.md R113): a load from nowhere
traps, one in the aperture stalls until LOAD_RETURN or LOAD_TIMEOUT, and STALL_RELEASE ends the stall of an EMIT or of a store.
-/

namespace Sys2Proof.Machine
open Reg Fld

/-! The copies of an engine -/

theorem xReq_mem_xCopies (e : Nat) : xReq e ∈ xCopies e := by
  rcases xCopies_cases e with ⟨-, hcopies, hreq⟩ | ⟨-, hcopies, hreq⟩ <;> simp [hcopies, hreq]

/-- The copies of engine e are one engine, but for posted stores. -/
def State.oneEngine (s : State) (e : Nat) : Prop := 14 ≤ e → ∃ b, s.eng 15 = (s.eng 14).posting b

theorem State.ready.oneEngine {s : State} {e : Nat} (h : s.ready e) : s.oneEngine e := fun h14 => (h.2 h14).1

namespace State.oneEngine
variable {s : State} {e : Nat} (hp : s.oneEngine e)
include hp

/-- What posted stores do not touch is the same in every copy. -/
theorem copy {α : Type} (π : Engine → α) (hπ : ∀ b x, π (Engine.posting b x) = π x) : ∀ c ∈ xCopies e, π (s.eng c) = π (s.eng (xReq e)) := by
  intro c hc
  rcases xCopies_cases e with ⟨-, hcopies, hreq⟩ | ⟨he, hcopies, hreq⟩ <;> rw [hcopies] at hc <;> rw [hreq]
  · rw [List.mem_singleton.1 hc]
  · obtain ⟨b, hb⟩ := hp he
    rcases List.mem_pair.1 hc with rfl | rfl
    · rfl
    · rw [hb, hπ]

theorem g (c : Nat) (hc : c ∈ xCopies e) (r : Nat) : s.g c r = s.g (xReq e) r := hp.copy (·.g r) (fun _ _ => rfl) c hc

end State.oneEngine

/-- Copies that come to one plan plan alike. -/
theorem State.plansAlike_of_copies (s : State) (e : Nat) (p : State → Nat → XPlan) (q : XPlan) (h : ∀ c ∈ xCopies e, p s c = q) :
    s.plansAlike e p := by
  intro h14
  have hcopies : xCopies e = [14, 15] := by simp [xCopies, h14]
  rw [h 15 (by simp [hcopies]), h 14 (by simp [hcopies])]

theorem State.engineOnly.eng_xReq {s t : State} {e : Nat} {g : Engine → Engine} (h : s.engineOnly t e g) :
    t.eng (xReq e) = Engine.wdogSync s.tb (g (s.eng (xReq e))) := by
  rw [h.1, if_pos (xReq_mem_xCopies e)]

/-! An engine that stands stalled -/

namespace State.stalledIn
variable {s : State} {e : Nat} {i : Instr} (h : s.stalledIn e i)
include h

theorem xUp : s.xUp e = true := by
  obtain ⟨hawake, hrun, hsusp, -, -, -⟩ := h
  simp [State.xUp, hawake, hrun, hsusp]

theorem stall : (s.eng (xReq e)).stall = some i := by
  obtain ⟨-, -, -, hstall, -, -⟩ := h
  exact hstall

theorem inPage : s.inPage e := by
  obtain ⟨-, -, -, -, hpage, hpair⟩ := h
  exact ⟨hpage, fun h14 => (hpair h14).1⟩

theorem oneEngine : s.oneEngine e := h.inPage.2

end State.stalledIn

theorem State.retry_stalled (back : Bool) (s : State) (e : Nat) (i : Instr) (h : (s.eng (xReq e)).stall = some i) :
    s.retry back e = s.perform back e i (planOf i) := by
  simp [State.retry, h]

theorem State.drainAll_nil (s : State) (e : Nat) (h : (s.eng e).storeBuf = []) : s.drainAll e = s := by
  simp [State.drainAll, h, State.drainStores]

theorem State.stopDue_of_not_asked (s : State) (e : Nat) (h : (s.eng e).stopAsked = false) : s.stopDue e = s := by
  simp [State.stopDue, h]

theorem Engine.setG_stopAsked (x : Engine) (r : Nat) (v : Word) : (x.setG r v).stopAsked = x.stopAsked := by
  simp only [Engine.setG]
  split <;> rfl

/-- LOAD_RETURN of an engine with no store posted and no STOP waiting serves the load it stalls in. -/
theorem State.loadReturns_eq (s : State) (e : Nat) (i : Instr) (hs : s.stalledIn e i) (hl : (s.eng (xReq e)).loading = true)
    (hb : (s.eng (xReq e)).storeBuf = []) : s.loadReturns e = (s.perform true e i (planOf i)).stopDue (xReq e) := by
  simp only [State.loadReturns, hs.xUp, hl, Bool.and_self, State.when_true]
  rw [s.drainAll_nil _ hb, s.retry_stalled true e i hs.stall]

/-- STALL_RELEASE drains a store and tries the instruction again. -/
theorem State.stallEnds_eq (s : State) (e : Nat) (i : Instr) (hs : s.stalledIn e i) (hb : (s.eng (xReq e)).blocked = true) :
    s.stallEnds e = State.retry false e (s.drainOne (xReq e)) := by
  simp only [State.stallEnds, hs.xUp, hb, Bool.and_self, State.when_true]

/-! Traps, stalls and retiring of every copy -/

theorem State.xTrapAll_xReq (s : State) (e cause : Nat) (tval : Word) : s.xTrapAll (xReq e) cause tval = s.xTrapAll e cause tval := by
  simp only [State.xTrapAll, xCopies_xReq]

/-- A device bus error outside a trap changes the copies of the engine alone. -/
theorem State.xTrapAll_busError (s : State) (e : Nat) (tval : Word) (hp : s.oneEngine e) (hn : (s.eng (xReq e)).inTrap = false) :
    s.engineOnly (s.begin.xTrapAll e 3 tval) e (Engine.trapEntered s.tb 3 tval) := by
  have hcopies : ∀ c ∈ xCopies e, (s.begin.eng c).inTrap = false := fun c hc => (hp.copy Engine.inTrap (fun _ _ => rfl) c hc).trans hn
  obtain ⟨heng, hrest⟩ := s.begin.xTrapAll_effect e 3 tval hcopies (by decide) (by decide)
  exact ⟨heng, s.begin.withEngines_of _ hrest⟩

theorem State.xStallAll_stallsIn (s : State) (e : Nat) (i : Instr) (h : s.ready e) : s.stallsIn (s.begin.xStallAll e i) e i := by
  obtain ⟨heng, hrest⟩ := s.begin.xStallAll_effect e i
  refine ⟨fun c => (heng c).trans ?_, s.begin.withEngines_of _ hrest⟩
  by_cases hc : c ∈ xCopies e
  · have hstall : (s.eng c).stall = none := (h.oneEngine.copy Engine.stall (fun _ _ => rfl) c hc).trans h.1.2.2.2.1
    have hstalled : (s.begin.eng c).stalled i s.begin.tb s.begin.issueSeq =
        { s.eng c with stall := some i, stallAt := s.tb, fenceMark := s.issueSeq } := by
      simp [Engine.stalled, hstall]
    rw [if_pos hc, if_pos hc, hstalled]
    rfl
  · rw [if_neg hc, if_neg hc]
    rfl

/-- An instruction that does nothing more to its engine retires on every copy. -/
theorem State.retireAll_nil (s : State) (e : Nat) :
    (∀ j, (s.forEach (xCopies e) fun s c => s.xRetire c []).eng j =
      if j ∈ xCopies e then Engine.wdogSync s.tb (s.eng j).ahead else s.eng j) ∧
    (s.forEach (xCopies e) fun s c => s.xRetire c []).withEngines [] = s.withEngines [] := by
  refine State.eachCopy s e _ (fun x => Engine.wdogSync s.tb x.ahead) fun s' c _ he hw => ⟨fun j => ?_, ?_⟩
  · have htb : s'.tb = s.tb := congrArg (·.tb) hw
    rw [State.xRetire_eng, he c rfl, htb]
    rfl
  · rw [State.xRetire_rest c [] s' rfl, hw]

/-! The request of a device load -/

theorem State.loadOk_aperture (s : State) (e a n : Nat) (ha : 0x80000000 ≤ a) :
    State.loadOk e a n s = (decide ((s.eng e).apBase + (a - 0x80000000) + n ≤ s.installed) && s.ddrUp e) := by
  have hb : ¬ a < 0x1000000 := by omega
  simp [State.loadOk, hb, ha]

theorem State.serve_load_nowhere (s : State) (back : Bool) (e a n : Nat) (h : State.loadOk e a n s = false) :
    State.serve back e (.load a n) s = (s, .err 3 (BitVec.ofNat 32 a)) := by
  simp [State.serve, h]

theorem State.serve_load_waits (s : State) (e a n : Nat) (h : State.loadOk e a n s = true) :
    State.serve false e (.load a n) s = (s, .stall) := by
  simp [State.serve, h]

theorem beatsIn_apart (bs : List Nat) (a n : Nat) (h : ∀ b ∈ bs, b < a / 4 ∨ (a + n - 1) / 4 < b) : beatsIn bs a n = [] := by
  simp only [beatsIn]
  split
  · rfl
  · refine List.filter_eq_nil_iff.2 fun b hb => ?_
    have := h b hb
    simp only [Bool.and_eq_true, decide_eq_true_eq]
    omega

/-- A load of the aperture that meets no beat in error reads memory. -/
theorem State.serve_load_back (s : State) (e a n d : Nat) (ha : 0x80000000 ≤ a) (hd : (s.eng e).apBase + (a - 0x80000000) = d)
    (h : State.loadOk e a n s = true) (hc : ∀ b ∈ s.poison ++ s.soft, b < d / 4 ∨ (d + n - 1) / 4 < b) :
    State.serve true e (.load a n) s = (s, .data [BitVec.ofNat 32 (s.valueAt d n)]) := by
  have hb : ¬ a < 0x1000000 := by omega
  have hpoison : s.badBeats d n = [] := beatsIn_apart _ _ _ fun b hb => hc b (List.mem_append_left _ hb)
  have hsoft : beatsIn s.soft d n = [] := beatsIn_apart _ _ _ fun b hb => hc b (List.mem_append_right _ hb)
  have hecc : s.eccRead d n = s := by simp [State.eccRead, hsoft, hpoison, State.forEach]
  simp [State.serve, h, State.loadTakes, hb, hd, hpoison, hecc, State.valueAt]

/-- Where loads of Table 5.5 meet no device: in BAR0 no register word or memory window, no block, no DDR that the engine reaches. -/
theorem State.loadOk_nowhere (s : State) (e a n : Nat)
    (h : (a < 0x1000000 ∧ (a < 0x400000 ∨ 0xC00000 ≤ a) ∧ rowOf (a / 4 * 4) = none) ∨
      (0x400000 ≤ a ∧ a < 0xC00000 ∧ windowAll a n = false) ∨ (0x1000000 ≤ a ∧ a < 0x10000000) ∨ (0x10020000 ≤ a ∧ a < 0x80000000) ∨
      (0x80000000 ≤ a ∧ (s.installed < (s.eng e).apBase + (a - 0x80000000) + n ∨ s.ddrUp e = false))) :
    State.loadOk e a n s = false := by
  have hfar : 0x1000000 ≤ a → a < 0x80000000 → State.loadOk e a n s = false := fun h1 h2 => by
    simp [State.loadOk, Nat.not_lt.2 h1, Nat.not_le.2 h2]
  have hnear : a < 0x1000000 → barMapped a n = false → State.loadOk e a n s = false := fun h1 h2 => by
    have h3 : ¬ 0x80000000 ≤ a := by omega
    simp [State.loadOk, h2, h3]
  rcases h with ⟨hbar, hout, hrow⟩ | ⟨hlo, hhi, hwin⟩ | ⟨hlo, hhi⟩ | ⟨hlo, hhi⟩ | ⟨hap, hbad⟩
  · have hrange : windowRange a = false := by
      simp only [windowRange, Bool.and_eq_false_iff, decide_eq_false_iff_not]
      omega
    exact hnear hbar (by simp [barMapped, hrange, hrow])
  · have hrange : windowRange a = true := by simp [windowRange, hlo, hhi]
    exact hnear (by omega) (by simp [barMapped, hrange, hwin])
  · exact hfar hlo (by omega)
  · exact hfar (by omega) hhi
  · rw [s.loadOk_aperture e a n hap]
    rcases hbad with hbad | hbad
    · rw [decide_eq_false (Nat.not_le.2 hbad), Bool.false_and]
    · rw [hbad, Bool.and_false]

theorem xReq_pair_iff (e : Nat) : 14 ≤ xReq e ↔ 14 ≤ e := by
  simp [xReq]

theorem State.ddrUp_xReq (s : State) (e : Nat) : s.ddrUp (xReq e) = s.ddrUp e := by
  simp only [State.ddrUp, xReq_pair_iff]

theorem State.ddrUp_of_not_parked (s : State) (e : Nat) (h : 14 ≤ e → s.b SYS_PWR_CTRL_PARKED = false) : s.ddrUp e = true :=
  (s.ddrUp_iff e).2 fun ⟨h14, hparked⟩ => by simp [h h14] at hparked

theorem State.ddrUp_eq_false_iff (s : State) (e : Nat) : s.ddrUp e = false ↔ 14 ≤ e ∧ s.b SYS_PWR_CTRL_PARKED = true := by
  simp [State.ddrUp]

/-! Accesses of devices -/

/-- An access of n bytes, aligned and outside its engine's own DMEM, by copies that stand alike. -/
structure State.DeviceAccess (s : State) (e : Fin 16) (rs1 : Fin 32) (imm : BitVec 16) (n : Nat) : Prop where
  aligned : s.accessAddr e rs1 imm % n = 0
  device : s.accessAddr e rs1 imm < 0x10000000 ∨ 0x10020000 ≤ s.accessAddr e rs1 imm
  one : s.oneEngine e

namespace State.DeviceAccess
variable {s : State} {e : Fin 16} {rs1 : Fin 32} {imm : BitVec 16} {n : Nat} (h : s.DeviceAccess e rs1 imm n)
include h

theorem not_ownDmem : ownDmem (s.accessAddr e rs1 imm) = false := by
  have := h.device
  simp only [ownDmem, Bool.and_eq_false_iff, decide_eq_false_iff_not]
  omega

theorem xAddr (c : Nat) (hc : c ∈ xCopies e) : s.xAddr c rs1 imm = s.accessAddr e rs1 imm := by
  rw [State.xAddr, h.one.g c hc]
  rfl

theorem planLoad (rd : Fin 32) (f : Word → Word) (c : Nat) (hc : c ∈ xCopies e) : planLoad n f rd rs1 imm s c =
    .act (.load (s.accessAddr e rs1 imm) n) fun ws => [.reg rd (f (XGot.word ws 0))] := by
  simp [Machine.planLoad, h.xAddr c hc, h.aligned, h.not_ownDmem]

theorem planStore (rd : Fin 32) (c : Nat) (hc : c ∈ xCopies e) : planStore n rd rs1 imm s c =
    .act (.store (s.accessAddr e rs1 imm) (leBytes n (s.g (xReq e) rd).toNat)) fun _ => [] := by
  simp [Machine.planStore, h.xAddr c hc, h.aligned, h.not_ownDmem, h.one.g c hc]

end State.DeviceAccess

theorem ofLe_lt (bs : List Byte) : ofLe bs < 256 ^ bs.length := by
  induction bs with
  | nil => simp [ofLe]
  | cons b bs ih =>
    have := b.isLt
    rw [List.length_cons, Nat.pow_succ', ofLe]
    omega

theorem State.valueAt_lt (s : State) (a n : Nat) : s.valueAt a n < 256 ^ n := by
  have hlen : (s.readMem a n).length = n := by simp [State.readMem, Map.run]
  have := ofLe_lt (s.readMem a n)
  rwa [hlen] at this

/-! The five loads of Table 5.5 -/

/-- Instruction i of engine e is a load of n bytes, which `f` extends; of n bytes of value v it makes `ext v`. -/
structure LoadForm (i : Instr) (e : Fin 16) (rd rs1 : Fin 32) (imm : BitVec 16) (n : Nat) (ext : Nat → Word) (f : Word → Word) : Prop where
  exec_eq : ∀ s, exec i s = .next (s.begin.issue e i (planLoad n f rd rs1 imm))
  plan : planOf i = planLoad n f rd rs1 imm
  loading : ∀ x : Engine, x.stall = some i → x.loading = true
  value : ∀ v < 256 ^ n, f (BitVec.ofNat 32 v) = ext v

theorem extractLsb'_ofNat (w v : Nat) (hw : w ≤ 32) : (BitVec.ofNat 32 v).extractLsb' 0 w = BitVec.ofNat w v := by
  apply BitVec.eq_of_toNat_eq
  simp [BitVec.extractLsb'_toNat, Nat.mod_mod_of_dvd _ (Nat.pow_dvd_pow 2 hw)]

theorem zeroExtend_extractLsb'_ofNat (w v : Nat) (hw : w ≤ 32) (hv : v < 2 ^ w) :
    ((BitVec.ofNat 32 v).extractLsb' 0 w).zeroExtend 32 = BitVec.ofNat 32 v := by
  rw [extractLsb'_ofNat w v hw]
  apply BitVec.eq_of_toNat_eq
  simp [Nat.mod_eq_of_lt hv]

theorem loadForm_of_mem (e : Fin 16) (rd rs1 : Fin 32) (imm : BitVec 16) :
    ∀ p ∈ ([(Instr.lw, 4, fun v => BitVec.ofNat 32 v),
            (Instr.lh, 2, fun v => (BitVec.ofNat 16 v).signExtend 32),
            (Instr.lhu, 2, fun v => BitVec.ofNat 32 v),
            (Instr.lb, 1, fun v => (BitVec.ofNat 8 v).signExtend 32),
            (Instr.lbu, 1, fun v => BitVec.ofNat 32 v)] :
          List ((Fin 16 → Fin 32 → Fin 32 → BitVec 16 → Instr) × Nat × (Nat → Word))),
      ∃ f, LoadForm (p.1 e rd rs1 imm) e rd rs1 imm p.2.1 p.2.2 f := by
  intro p hp
  simp only [List.mem_cons, List.not_mem_nil, or_false] at hp
  rcases hp with rfl | rfl | rfl | rfl | rfl
  · exact ⟨id, fun _ => rfl, rfl, fun x hx => by simp [Engine.loading, hx], fun v _ => rfl⟩
  · exact ⟨extH, fun _ => rfl, rfl, fun x hx => by simp [Engine.loading, hx], fun v _ => by rw [extH, sext16, extractLsb'_ofNat 16 v (by decide)]⟩
  · exact ⟨extHU, fun _ => rfl, rfl, fun x hx => by simp [Engine.loading, hx], fun v hv => zeroExtend_extractLsb'_ofNat 16 v (by decide) hv⟩
  · exact ⟨extB, fun _ => rfl, rfl, fun x hx => by simp [Engine.loading, hx], fun v _ => by rw [extB, extractLsb'_ofNat 8 v (by decide)]⟩
  · exact ⟨extBU, fun _ => rfl, rfl, fun x hx => by simp [Engine.loading, hx], fun v hv => zeroExtend_extractLsb'_ofNat 8 v (by decide) hv⟩

namespace LoadForm
variable {i : Instr} {e : Fin 16} {rd rs1 : Fin 32} {imm : BitVec 16} {n : Nat} {ext : Nat → Word} {f : Word → Word}
  (h : LoadForm i e rd rs1 imm n ext f) {s : State} (hl : s.begin.DeviceAccess e rs1 imm n)
include h hl

/-- A load that no device answers traps with device bus error as it issues (R113, R159). -/
theorem traps (hr : s.ready e) (hn : (s.eng (xReq e)).inTrap = false)
    (hw : State.loadOk (xReq e) (s.accessAddr e rs1 imm) n s = false) :
    ∃ t, exec i s = .next t ∧ s.engineOnly t e (Engine.trapEntered s.tb 3 (BitVec.ofNat 32 (s.accessAddr e rs1 imm))) := by
  have hserve := s.begin.serve_load_nowhere false (xReq e) (s.accessAddr e rs1 imm) n hw
  have hperform := State.perform_errs false s.begin s.begin e i _ _ _ 3 _ (s.begin.ready_inPage e hr)
    (s.begin.plansAlike_of_copies e _ _ (hl.planLoad rd f)) (hl.planLoad rd f _ (xReq_mem_xCopies e)) hserve
  refine ⟨_, h.exec_eq s, ?_⟩
  rw [State.issue_ready s.begin e i _ hr, hperform]
  exact s.xTrapAll_busError e _ hr.oneEngine hn

/-- A load that a device answers stalls until its data returns (R150). -/
theorem stalls (hr : s.ready e) (hw : State.loadOk (xReq e) (s.accessAddr e rs1 imm) n s = true) :
    ∃ t, exec i s = .next t ∧ s.stallsIn t e i := by
  have hserve := s.begin.serve_load_waits (xReq e) (s.accessAddr e rs1 imm) n hw
  have hperform := State.perform_stalls false s.begin s.begin e i _ _ _ (s.begin.ready_inPage e hr)
    (s.begin.plansAlike_of_copies e _ _ (hl.planLoad rd f)) (hl.planLoad rd f _ (xReq_mem_xCopies e)) hserve
  refine ⟨_, h.exec_eq s, ?_⟩
  rw [State.issue_ready s.begin e i _ hr, hperform]
  exact s.xStallAll_stallsIn e i hr

/-- LOAD_RETURN of a load in the aperture that meets no beat in error retires it with its bytes extended (R150, R151). -/
theorem returns (hs : s.begin.stalledIn e i) (hb : (s.eng (xReq e)).storeBuf = []) (hstop : (s.eng (xReq e)).stopAsked = false)
    (d : Nat) (ha : 0x80000000 ≤ s.accessAddr e rs1 imm) (hd : (s.eng (xReq e)).apBase + (s.accessAddr e rs1 imm - 0x80000000) = d)
    (hw : State.loadOk (xReq e) (s.accessAddr e rs1 imm) n s = true)
    (hc : ∀ b ∈ s.poison ++ s.soft, b < d / 4 ∨ (d + n - 1) / 4 < b) :
    ∃ t, exec (.loadReturn e) s = .next t ∧ s.retired t e fun x => x.setG rd (ext (s.valueAt d n)) := by
  have hserve := s.begin.serve_load_back (xReq e) (s.accessAddr e rs1 imm) n d ha hd hw hc
  have hperform := State.perform_served true s.begin s.begin e i _ _ _ _ hs.inPage
    (s.begin.plansAlike_of_copies e _ _ (hl.planLoad rd f)) (hl.planLoad rd f _ (xReq_mem_xCopies e)) hserve
  have hretire : s.retired (s.begin.perform true e i (planOf i)) e fun x => x.setG rd (ext (s.valueAt d n)) := by
    rw [h.plan, hperform, ← h.value _ (s.valueAt_lt d n)]
    refine State.retireAll_engineOnly s.begin e _ (fun x => x.ahead.setG rd _) rfl rfl fun c _ => ?_
    rfl
  have hasked : ((s.begin.perform true e i (planOf i)).eng (xReq e)).stopAsked = false := by
    rw [hretire.eng_xReq]
    exact (Engine.setG_stopAsked _ _ _).trans hstop
  have hexec : exec (.loadReturn e) s = .next (s.begin.loadReturns e) := rfl
  rw [s.begin.loadReturns_eq e i hs (h.loading _ hs.stall) hb, State.stopDue_of_not_asked _ _ hasked] at hexec
  exact ⟨_, hexec, hretire⟩

/-- LOAD_TIMEOUT: 4,096 engine cycles after its issue a load traps with device bus error (R150). -/
theorem late (hs : s.begin.stalledIn e i) (hn : (s.eng (xReq e)).inTrap = false) (hstop : (s.eng (xReq e)).stopAsked = false)
    (ht : (s.eng (xReq e)).stallAt + 4096 * (if e.val < 8 then 1 else 2) ≤ s.tb) :
    ∃ t, exec (.loadTimeout e) s = .next t ∧ s.engineOnly t e (Engine.trapEntered s.tb 3 (BitVec.ofNat 32 (s.accessAddr e rs1 imm))) := by
  have htrap := s.xTrapAll_busError e (BitVec.ofNat 32 (s.accessAddr e rs1 imm)) hs.oneEngine hn
  have hasked : ((s.begin.xTrapAll e 3 (BitVec.ofNat 32 (s.accessAddr e rs1 imm))).eng (xReq e)).stopAsked = false := by
    rw [htrap.eng_xReq]
    exact hstop
  have hcycle : xCycle (xReq e) = if e.val < 8 then 1 else 2 := by
    have hfse : xReq e < 8 ↔ e.val < 8 := by simp [xReq]
    simp only [xCycle, hfse]
  have haddr : s.begin.loadAddr (xReq e) = s.accessAddr e rs1 imm := by
    simp only [State.loadAddr, hs.stall, h.plan, hl.planLoad rd f _ (xReq_mem_xCopies e)]
    rfl
  have hdue : (s.begin.eng (xReq e)).stallAt + 4096 * xCycle (xReq e) ≤ s.begin.tb := hcycle ▸ ht
  have hexec : exec (.loadTimeout e) s = .next (s.begin.loadLate e) := rfl
  simp only [State.loadLate, hs.xUp, h.loading _ hs.stall, hdue, decide_true, Bool.and_self, State.when_true, haddr] at hexec
  rw [State.xTrapAll_xReq, State.stopDue_of_not_asked _ _ hasked] at hexec
  exact ⟨_, hexec, htrap⟩

end LoadForm

/-! A stalled EMIT (R178) -/

/-- A word is pushed into the mailbox of engine q, of both copies for the pair. -/
def State.mailed (s : State) (q : Nat) (v : DWord) : State :=
  s.forEach (xCopies q) fun s c => s.modEng c fun x => { x with mailbox := x.mailbox ++ [v] }

theorem State.mailed_effect (s : State) (q : Nat) (v : DWord) :
    (∀ j, (s.mailed q v).eng j = if j ∈ xCopies q then { s.eng j with mailbox := (s.eng j).mailbox ++ [v] } else s.eng j) ∧
    (s.mailed q v).withEngines [] = s.withEngines [] :=
  State.eachCopy s q _ (fun x => { x with mailbox := x.mailbox ++ [v] }) fun s' c _ he hw =>
    ⟨fun j => by rw [State.modEng_eng, he c rfl], hw⟩

theorem State.serve_emit (s : State) (back : Bool) (e q : Nat) (v : DWord) (h : (s.eng q).mailbox.length < 16) :
    State.serve back e (.emit q v) s = (s.mailed q v, .data []) := by
  simp only [State.serve, State.mail, h, if_true]
  rfl

theorem Engine.blocked_emit (x : Engine) (e : Fin 16) (rd rs1 rs2 q : Fin 32) (h : x.stall = some (.emit e rd rs1 rs2 q)) : x.blocked = true := by
  simp [Engine.blocked, Engine.loading, Engine.fencing, Engine.waiting, h]

theorem planEmit_of_copies (s : State) (e : Fin 16) (rs1 rs2 q : Fin 32) (hq : q.val < 15) (hp : s.oneEngine e) :
    ∀ c ∈ xCopies e, planEmit 0 rs1 rs2 q s c = .act (.emit q (s.g (xReq e) rs2 ++ s.g (xReq e) rs1)) fun _ => [] := by
  intro c hc
  simp [planEmit, XPlan.legal, hq, hp.g c hc]

/-- STALL_RELEASE of an EMIT whose mailbox has room: the word is pushed and the EMIT retires. -/
theorem State.stallRelease_emit (s : State) (e : Fin 16) (rs1 rs2 q : Fin 32) (hq : q.val < 15) (hs : s.begin.stalledIn e (.emit e 0 rs1 rs2 q))
    (hb : (s.eng (xReq e)).storeBuf = []) (hroom : (s.eng q).mailbox.length < 16) :
    exec (.stallRelease e) s =
      .next ((s.begin.mailed q (s.g (xReq e) rs2 ++ s.g (xReq e) rs1)).forEach (xCopies e) fun s c => s.xRetire c []) := by
  have hexec : exec (.stallRelease e) s = .next (s.begin.stallEnds e) := rfl
  have hplan := planEmit_of_copies s.begin e rs1 rs2 q hq hs.oneEngine
  have hserve := s.begin.serve_emit false (xReq e) q (s.g (xReq e) rs2 ++ s.g (xReq e) rs1) hroom
  have hperform := State.perform_served false s.begin _ e (.emit e 0 rs1 rs2 q) _ _ _ _ hs.inPage
    (s.begin.plansAlike_of_copies e _ _ hplan) (hplan _ (xReq_mem_xCopies e)) hserve
  rw [hexec, s.begin.stallEnds_eq e _ hs (Engine.blocked_emit _ _ _ _ _ _ hs.stall), s.begin.drainOne_of_nil _ hb,
    s.begin.retry_stalled false e _ hs.stall]
  exact congrArg Host.Outcome.next hperform

/-- What an EMIT of engine e to engine q leaves once it has retired. -/
theorem State.mailed_retired (s : State) (e q : Nat) (v : DWord) (hq : q < 15) :
    let t := (s.mailed q v).forEach (xCopies e) fun s c => s.xRetire c []
    t.withEngines [] = s.withEngines [] ∧ (t.eng (xReq e)).stall = none ∧ (t.eng (xReq e)).pc = (s.eng (xReq e)).ahead.pc ∧
      (t.eng q).mailbox = (s.eng q).mailbox ++ [v] := by
  obtain ⟨hmail, hrest⟩ := s.mailed_effect q v
  obtain ⟨heng, hkeep⟩ := (s.mailed q v).retireAll_nil e
  have hself : q ∈ xCopies q := by
    have hreq : xReq q = q := by simp only [xReq]; omega
    have := xReq_mem_xCopies q
    rwa [hreq] at this
  refine ⟨hkeep.trans hrest, ?_, ?_, ?_⟩
  · rw [heng, if_pos (xReq_mem_xCopies e)]
    rfl
  · rw [heng, if_pos (xReq_mem_xCopies e), hmail]
    split <;> rfl
  · have hpushed : ((s.mailed q v).eng q).mailbox = (s.eng q).mailbox ++ [v] := by
      rw [hmail, if_pos hself]
    rw [heng, ← hpushed]
    split <;> rfl

/-! A stalled store (R151) -/

theorem State.byte_writeMem_getD (s : State) (a b : Nat) (bs : List Byte) :
    (s.writeMem a bs).byte b = if a ≤ b then (bs[b - a]?).getD (s.byte b) else s.byte b := by
  rw [State.byte_writeMem]
  by_cases ha : a ≤ b
  · rw [if_pos ha]
    by_cases hb : b < a + bs.length
    · have hlt : b - a < bs.length := by omega
      rw [if_pos ⟨ha, hb⟩, List.getElem?_eq_getElem hlt]
      rfl
    · rw [if_neg (fun h => hb h.2), List.getElem?_eq_none (by omega)]
      rfl
  · rw [if_neg (fun h => ha h.1), if_neg ha]

/-- The oldest posted store of engine e, bound for DDR address a, has drained into memory. -/
def State.drained (s : State) (e a : Nat) (bytes : List Byte) (rest : List Posted) : State :=
  (s.modEng e (Engine.posting rest)).writeMem a bytes

theorem State.drained_eng (s : State) (e a : Nat) (bytes : List Byte) (rest : List Posted) (j : Nat) :
    (s.drained e a bytes rest).eng j = if e = j then (s.eng e).posting rest else s.eng j := by
  rw [State.drained, State.writeMem_eng, State.modEng_eng]

/-- Engine e has posted a store. -/
def State.posted (s : State) (e : Nat) (p : Posted) : State := s.modEng e fun x => { x with storeBuf := x.storeBuf ++ [p] }

/-- What a store of bytes at engine address a posts (R151). -/
def State.storeOf (s : State) (e a : Nat) (bytes : List Byte) : Posted :=
  { addr := if 0x80000000 ≤ a then 0x100000000 + (s.eng e).apBase + (a - 0x80000000) else a, bytes := bytes }

theorem State.serve_store (s : State) (back : Bool) (e a : Nat) (bytes : List Byte) (h : (s.eng e).storeBuf.length < 16) :
    State.serve back e (.store a bytes) s = (s.posted e (s.storeOf e a bytes), .data []) := by
  simp only [State.serve, State.post, h, if_true]
  rfl

theorem Engine.blocked_sw (x : Engine) (e : Fin 16) (rd rs1 : Fin 32) (imm : BitVec 16) (h : x.stall = some (.sw e rd rs1 imm)) :
    x.blocked = true := by
  simp [Engine.blocked, Engine.loading, Engine.fencing, Engine.waiting, h]

/-- SW of engine e to a device stands stalled behind 16 posted stores, the oldest of which is bound for installed DDR free of errors. -/
structure State.StoreBlocked (s : State) (e : Fin 16) (rd rs1 : Fin 32) (imm : BitVec 16) (p : Posted) (rest : List Posted) : Prop where
  aligned : s.accessAddr e rs1 imm % 4 = 0
  device : s.accessAddr e rs1 imm < 0x10000000 ∨ 0x10020000 ≤ s.accessAddr e rs1 imm
  stalled : s.begin.stalledIn e (.sw e rd rs1 imm)
  buffer : (s.eng (xReq e)).storeBuf = p :: rest
  full : rest.length = 15
  noNozzle : p.nozzle = false
  toDdr : 0x100000000 ≤ p.addr
  installed : p.addr - 0x100000000 + p.bytes.length ≤ s.installed
  capacity : s.installed ≤ 0x800000000
  up : s.ddrUp e = true
  noPoison : s.poison = []
  noSoft : s.soft = []

namespace State.StoreBlocked
variable {s : State} {e : Fin 16} {rd rs1 : Fin 32} {imm : BitVec 16} {p : Posted} {rest : List Posted} (h : s.StoreBlocked e rd rs1 imm p rest)

/-- The state in which the oldest store has drained and the SW is tried again. -/
def after (_ : s.StoreBlocked e rd rs1 imm p rest) : State := s.begin.drained (xReq e) (p.addr - 0x100000000) p.bytes rest

theorem drainOne : s.begin.drainOne (xReq e) = h.after := by
  have htakes := (s.begin.modEng (xReq e) (Engine.posting rest)).storeTakes_ddr (xReq e) p h.noNozzle h.toDdr h.installed
    ((s.ddrUp_xReq e).trans h.up)
  have hwrite := (s.begin.modEng (xReq e) (Engine.posting rest)).deviceWrite_of_clean (p.addr - 0x100000000) p.bytes
    (h.installed.trans h.capacity) h.noSoft h.noPoison
  rw [s.begin.drainOne_of_cons (xReq e) p rest h.buffer]
  exact htakes.trans hwrite

theorem after_eng : h.after.eng (xReq e) = (s.eng (xReq e)).posting rest := by
  rw [after, State.drained_eng, if_pos rfl]
  rfl

theorem after_g (r : Nat) : h.after.g (xReq e) r = s.g (xReq e) r := by
  rw [State.g, h.after_eng]
  rfl

/-- The engine stands as it stood, with room in its store buffer. -/
theorem after_inPage : h.after.inPage e := by
  refine ⟨?_, fun h14 => ?_⟩
  · rw [h.after_eng]
    exact h.stalled.inPage.1
  · obtain ⟨b, hb⟩ := h.stalled.oneEngine h14
    have hreq : xReq e = 14 := by simp [xReq, h14]
    rw [after, hreq, State.drained_eng, State.drained_eng, if_neg (by decide), if_pos rfl, hb]
    exact ⟨b, rfl⟩

theorem after_access : h.after.DeviceAccess e rs1 imm 4 := by
  have haddr : h.after.accessAddr e rs1 imm = s.accessAddr e rs1 imm := by rw [State.accessAddr, h.after_g, State.accessAddr]
  exact ⟨haddr ▸ h.aligned, haddr ▸ h.device, h.after_inPage.2⟩

/-- STALL_RELEASE: the SW is posted and retires. -/
theorem released : ∃ q, q.bytes = leBytes 4 (s.g (xReq e) rd).toNat ∧
    exec (.stallRelease e) s = .next ((h.after.posted (xReq e) q).forEach (xCopies e) fun s c => s.xRetire c []) := by
  have hexec : exec (.stallRelease e) s = .next (s.begin.stallEnds e) := rfl
  have hplan := h.after_access.planStore rd
  have hroom : (h.after.eng (xReq e)).storeBuf.length < 16 := by
    have hfull : rest.length < 16 := by have := h.full; omega
    rw [h.after_eng]
    exact hfull
  have hstall : (h.after.eng (xReq e)).stall = some (.sw e rd rs1 imm) := by
    rw [h.after_eng]
    exact h.stalled.stall
  have hserve := h.after.serve_store false (xReq e) (h.after.accessAddr e rs1 imm) (leBytes 4 (h.after.g (xReq e) rd).toNat) hroom
  have hperform := State.perform_served false h.after _ e (.sw e rd rs1 imm) _ _ _ _ h.after_inPage
    (h.after.plansAlike_of_copies e _ _ hplan) (hplan _ (xReq_mem_xCopies e)) hserve
  rw [h.after_g] at hperform
  refine ⟨h.after.storeOf (xReq e) (h.after.accessAddr e rs1 imm) (leBytes 4 (s.g (xReq e) rd).toNat), rfl, ?_⟩
  rw [hexec, s.begin.stallEnds_eq e _ h.stalled (Engine.blocked_sw _ _ _ _ _ h.stalled.stall), h.drainOne,
    h.after.retry_stalled false e _ hstall]
  exact congrArg Host.Outcome.next hperform

/-- What the SW leaves once it is posted and has retired. -/
theorem retired (q : Posted) :
    let t := (h.after.posted (xReq e) q).forEach (xCopies e) fun s c => s.xRetire c []
    (t.eng (xReq e)).stall = none ∧ (t.eng (xReq e)).pc = (s.eng (xReq e)).ahead.pc ∧ (t.eng (xReq e)).storeBuf = rest ++ [q] ∧
      t.regs = s.regs ∧ ∀ b, t.byte b = if p.addr - 0x100000000 ≤ b then (p.bytes[b - (p.addr - 0x100000000)]?).getD (s.byte b) else s.byte b := by
  obtain ⟨heng, hkeep⟩ := (h.after.posted (xReq e) q).retireAll_nil e
  have hposted : (h.after.posted (xReq e) q).eng (xReq e) = (s.eng (xReq e)).posting (rest ++ [q]) := by
    rw [State.posted, State.modEng_eng, if_pos rfl, h.after_eng]
    rfl
  have hengine := (heng (xReq e)).trans (if_pos (xReq_mem_xCopies e))
  rw [hposted] at hengine
  have hmem : _ = h.after.mem := congrArg (·.mem) hkeep
  refine ⟨?_, ?_, ?_, congrArg (·.regs) hkeep, fun b => ?_⟩
  · rw [hengine]
    rfl
  · rw [hengine]
    rfl
  · rw [hengine]
    rfl
  · exact (congrArg (Map.get memDefault · b) hmem).trans (State.byte_writeMem_getD _ _ b _)

end State.StoreBlocked
end Sys2Proof.Machine

open Sys2Proof Sys2Proof.Machine
open Sys2Proof.Machine.Reg Sys2Proof.Machine.Fld

/-- Settles O19: a load from nowhere traps, one in the aperture stalls until it returns or is late, and STALL_RELEASE lets a stalled EMIT push
and a stalled store post. -/
theorem deviceLoadsAndStallsEnd : Obligations.DeviceLoadsAndStallsEnd := by
  unfold Obligations.DeviceLoadsAndStallsEnd
  refine ⟨fun e rd rs1 imm s p hp => ?_, fun e s => ⟨fun rs1 rs2 q hq hs hb hroom => ?_,
    fun rd rs1 imm p rest ha hd hs hb hrest hn hp hi hcap hpark hpoison hsoft => ?_⟩⟩
  · obtain ⟨f, h⟩ := loadForm_of_mem e rd rs1 imm p hp
    refine ⟨fun hr hin ha hw => ?_, fun ha hap hd hpark => ?_⟩
    · have hdev : s.accessAddr e rs1 imm < 0x10000000 ∨ 0x10020000 ≤ s.accessAddr e rs1 imm := by omega
      refine h.traps ⟨ha, hdev, hr.oneEngine⟩ hr hin (s.loadOk_nowhere _ _ _ ?_)
      rwa [s.ddrUp_xReq, s.ddrUp_eq_false_iff]
    · have hdev : s.accessAddr e rs1 imm < 0x10000000 ∨ 0x10020000 ≤ s.accessAddr e rs1 imm := by omega
      have hok : State.loadOk (xReq e) (s.accessAddr e rs1 imm) p.2.1 s = true := by
        rw [s.loadOk_aperture _ _ _ hap, s.ddrUp_xReq, s.ddrUp_of_not_parked e hpark, Bool.and_true]
        exact decide_eq_true hd
      exact ⟨fun hr => h.stalls ⟨ha, hdev, hr.oneEngine⟩ hr hok,
        fun hs hb hstop hc => h.returns ⟨ha, hdev, hs.oneEngine⟩ hs hb hstop _ hap rfl hok hc,
        fun hs hin hstop ht => h.late ⟨ha, hdev, hs.oneEngine⟩ hs hin hstop ht⟩
  · obtain ⟨hkeep, hstall, hpc, hmail⟩ := s.begin.mailed_retired e q (s.g (xReq e) rs2 ++ s.g (xReq e) rs1) hq
    exact ⟨_, s.stallRelease_emit e rs1 rs2 q hq hs hb hroom, s.begin.withEngines_of _ hkeep, hstall, hpc, hmail⟩
  · have h : s.StoreBlocked e rd rs1 imm p rest := ⟨ha, hd, hs, hb, hrest, hn, hp, hi, hcap, s.ddrUp_of_not_parked e hpark, hpoison, hsoft⟩
    obtain ⟨q, hq, hexec⟩ := h.released
    obtain ⟨hstall, hpc, hbuf, hregs, hbyte⟩ := h.retired q
    exact ⟨_, hexec, hstall, hpc, ⟨q, hbuf, hq⟩, hregs, hbyte⟩
end

section
/-!
PROOFS. Park.lean (O23): a granted write of a register whose only field software writes is a guarded bit, what lanes that power down leave as it is,
and PARK, PARK_DONE, UNPARK and UNPARK_DONE.
-/

namespace Sys2Proof.Machine
open Reg Fld

/-! A granted write of a guarded bit (R124, R742) -/

/-- Is bit 0, guarded, the only field of a register that software writes, and is the register in BAR0 with no staged half? -/
def guardedBit (a : Nat) : Bool :=
  (rowOf a).any (fun r => r.fields.all (fun x => decide (x.2.2 = .gd ∨ x.2.2 = .ro)) &&
    decide (r.fields.filter (fun x => decide (x.2.2 = .gd)) = [(0, 0, .gd)]) && !loBases.contains r.base && !hiBases.contains r.base) &&
  decide (a ≠ GUARD_UNLOCK ∧ ¬ (TWIN_PSK 0 ≤ a ∧ a < TWIN_PSK 8))

theorem guardedBit_pwrCtrl : guardedBit SYS_PWR_CTRL = true := by decide

theorem guardedBit_rstCtrl : guardedBit SYS_RST_CTRL = true := by decide

theorem Merge.foldl_granted (held w : Word) (locked : Bool) (fs : List (Nat × Nat × Acc)) (h : ∀ x ∈ fs, x.2.2 = .gd ∨ x.2.2 = .ro)
    (m : Merge) : fs.foldl (Merge.field held w true locked) m =
      { m with word := writeFields (fs.filter fun x => decide (x.2.2 = .gd)) m.word w } := by
  induction fs generalizing m with
  | nil => rfl
  | cons x fs ih =>
    rw [List.foldl_cons, ih fun y hy => h y (List.mem_cons_of_mem _ hy)]
    rcases h x List.mem_cons_self with hx | hx
    · rw [List.filter_cons_of_pos (by simp [hx])]
      simp only [Merge.field, hx, Bool.true_or, if_true]
      rfl
    · rw [List.filter_cons_of_neg (by simp [hx])]
      simp only [Merge.field, hx]

theorem State.regWrite_guardedBit (s : State) (req a : Nat) (v : Word) (hr : guardedBit a = true) (hg : (s.consume req a).1 = true) :
    ∃ l, s.regWrite req a v = (s.withUnlocks l).hook (requester req) a (putBits (s.rd a) 0 0 (bits v.toNat 0 0)) := by
  obtain ⟨hr, hplace⟩ := (Bool.and_eq_true _ _).mp hr
  obtain ⟨hguard, hp⟩ := of_decide_eq_true hplace
  obtain ⟨r, hrow, hr⟩ := (Option.any_eq_true _ _).1 hr
  simp only [Bool.and_eq_true, Bool.not_eq_true', List.all_eq_true, decide_eq_true_eq] at hr
  obtain ⟨⟨⟨hacc, hbit⟩, hlo⟩, hhi⟩ := hr
  have hmem : (0, 0, Acc.gd) ∈ r.fields := (List.mem_filter.1 (hbit ▸ List.mem_singleton_self _)).1
  have hne : ∀ x ∈ r.fields, x.2.2 ≠ .sq ∧ x.2.2 ≠ .w1 := fun x hx => by rcases hacc x hx with h | h <;> simp [h]
  have hsq : r.isSq = false := List.any_eq_false.2 fun x hx => by simp [(hne x hx).1]
  have hw : r.writable = true := List.any_eq_true.2 ⟨_, hmem, rfl⟩
  have ho : r.writeOnce = false := List.any_eq_false.2 fun x hx => by simp [(hne x hx).2]
  obtain ⟨l, hc⟩ := s.consume_unlocks req a
  rcases hcons : s.consume req a with ⟨granted, u⟩
  obtain rfl : u = s.withUnlocks l := by rw [← hc, hcons]
  obtain rfl : granted = true := by rw [← hg, hcons]
  have hheld : (s.withUnlocks l).heldWord a = s.rd a := by
    simp only [State.heldWord, Bool.and_eq_true, decide_eq_true_eq, hp, if_false]
    rfl
  have hm : ∀ locked, r.merge (s.rd a) v true locked = { word := putBits (s.rd a) 0 0 (bits v.toNat 0 0) } := fun locked => by
    rw [RegRow.merge, Merge.foldl_granted _ _ _ _ hacc, hbit]
    rfl
  refine ⟨l, ?_⟩
  simp only [State.regWrite, hrow, hguard, hlo, hcons, hsq, hhi, hw, ho, hheld, hm, State.when_false, Bool.not_true, Bool.and_false,
    Bool.false_eq_true, if_false]

theorem State.begin_consume (s : State) (req a : Nat) : (s.begin.consume req a).1 = (s.consume req a).1 := by
  simp only [State.consume, State.begin]
  cases s.unlocks.find? fun u => u.1 = requester req && u.2.1 = a / 0x10000 <;> rfl

/-- A granted command that writes a guarded bit reaches the register's hook with that bit and the rest as held. -/
theorem State.busField_guardedBit (s : State) (req : Req) (x : Field) (v : Nat) (hx : x.hi = 0 ∧ x.lo = 0) (hr : guardedBit x.addr = true)
    (hg : s.granted req x.addr) :
    ∃ l w, s.begin.busField req x v = (s.begin.withUnlocks l).hook (requester req) x.addr w ∧ bitAt w.toNat 0 = v.testBit 0 := by
  obtain ⟨hup, hgr⟩ := hg
  obtain ⟨l, hl⟩ := s.begin.regWrite_guardedBit req x.addr (putBits (s.rd x.addr) x.hi x.lo v) hr
    ((s.begin_consume _ _).trans hgr)
  refine ⟨l, _, (if_pos (show s.begin.busUp req x.addr = true from hup)).trans hl, ?_⟩
  rw [hx.1, hx.2, bits_putBits_same _ _ _ _ (by omega) (by omega), bitAt_eq, testBit_putBits _ _ _ _ _ (by omega)]
  simp

/-! A write of PARK (R61, R62) -/

/-- Is every domain stopped and no DMA descriptor in progress? -/
def State.parkFree (s : State) : Prop := (∀ d < 4, s.f (DCD_CTRL_STATE d) = 0) ∧ ∀ c < 32, (s.dma c).descs = []

theorem State.parkFree_iff (s : State) : s.parkFree ↔ (s.allStopped && !s.dmaBusy) = true := by
  simp [State.parkFree, State.allStopped, State.stopped, State.dmaBusy]

section
variable (s : State)

theorem State.parkWrite_regsBut (on : Bool) : s.regsBut (s.parkWrite on) [SYS_PWR_CTRL] := by
  have h1 : ∀ (u : State) (x : Field) v, x.addr = SYS_PWR_CTRL → u.regsBut (u.setB x v) [SYS_PWR_CTRL] := fun u x v hx =>
    ⟨rfl, fun a ha => State.rd_setF_other u x _ a (by rw [hx]; exact fun h => ha (h ▸ List.mem_singleton_self _))⟩
  cases on
  · exact h1 s _ _ rfl
  · rw [State.parkWrite, if_pos rfl]
    split
    · exact ⟨rfl, fun _ _ => rfl⟩
    · split
      · refine ⟨rfl, fun a ha => ?_⟩
        exact ((h1 _ SYS_PWR_CTRL_PARK_REFUSED false rfl).2 a ha).trans ((h1 _ SYS_PWR_CTRL_PARK true rfl).2 a ha)
      · exact h1 s _ _ rfl

theorem State.parkWrite_parked (on : Bool) : (s.parkWrite on).b SYS_PWR_CTRL_PARKED = s.b SYS_PWR_CTRL_PARKED := by
  have h1 : ∀ u : State, ∀ v, (u.setB SYS_PWR_CTRL_PARK v).b SYS_PWR_CTRL_PARKED = u.b SYS_PWR_CTRL_PARKED := fun u v =>
    u.b_setB_apart _ _ v (by decide) (by decide) (by decide)
  have h2 : ∀ u : State, ∀ v, (u.setB SYS_PWR_CTRL_PARK_REFUSED v).b SYS_PWR_CTRL_PARKED = u.b SYS_PWR_CTRL_PARKED := fun u v =>
    u.b_setB_apart _ _ v (by decide) (by decide) (by decide)
  cases on
  · exact h1 s false
  · rw [State.parkWrite, if_pos rfl]
    split
    · rfl
    · split
      · exact (h2 _ _).trans (h1 _ _)
      · exact h2 _ _

theorem State.parkWrite_off : (s.parkWrite false).b SYS_PWR_CTRL_PARK = false :=
  s.b_setB_same SYS_PWR_CTRL_PARK false rfl (by decide)

variable (hp : s.b SYS_PWR_CTRL_PARK = false)
include hp

theorem State.parkWrite_taken (hf : s.parkFree) :
    (s.parkWrite true).b SYS_PWR_CTRL_PARK = true ∧ (s.parkWrite true).b SYS_PWR_CTRL_PARK_REFUSED = false := by
  rw [State.parkWrite, if_pos rfl, if_neg (by simp [hp]), if_pos (s.parkFree_iff.1 hf)]
  exact ⟨(State.b_setB_apart _ _ _ _ (by decide) (by decide) (by decide)).trans (State.b_setB_same _ _ _ rfl (by decide)),
    State.b_setB_same _ _ _ rfl (by decide)⟩

theorem State.parkWrite_refused (hf : ¬ s.parkFree) :
    (s.parkWrite true).b SYS_PWR_CTRL_PARK = false ∧ (s.parkWrite true).b SYS_PWR_CTRL_PARK_REFUSED = true := by
  rw [State.parkWrite, if_pos rfl, if_neg (by simp [hp]), if_neg (mt s.parkFree_iff.2 hf)]
  exact ⟨(State.b_setB_apart _ _ _ _ (by decide) (by decide) (by decide)).trans hp, State.b_setB_same _ _ _ rfl (by decide)⟩

end

/-- A granted PARK or UNPARK is a write of PARK, after the unlock is used up. -/
theorem State.busField_park (s : State) (req : Req) (v : Nat) (hg : s.granted req SYS_PWR_CTRL) :
    ∃ l, s.begin.busField req SYS_PWR_CTRL_PARK v = (s.begin.withUnlocks l).parkWrite (v.testBit 0) := by
  obtain ⟨l, w, hl, hw⟩ := s.busField_guardedBit req SYS_PWR_CTRL_PARK v ⟨rfl, rfl⟩ guardedBit_pwrCtrl hg
  exact ⟨l, hl.trans (by rw [← hw]; rfl)⟩

/-! Fields of a register that is as before -/

theorem State.f_congr {s t : State} (x : Field) (h : t.rd x.addr = s.rd x.addr) : t.f x = s.f x := by rw [State.f, h, State.f]

theorem State.b_congr {s t : State} (x : Field) (h : t.rd x.addr = s.rd x.addr) : t.b x = s.b x := by
  rw [State.b, State.f_congr x h, State.b]

/-! Walks over units -/

/-- A walk that changes each unit once, and no other, relates each to what it was. -/
theorem State.forEach_each {α : Type} (π : State → Nat → α) (R : α → α → Prop) (l : List Nat) (hl : l.Nodup) (g : State → Nat → State)
    (hone : ∀ s, ∀ i ∈ l, R (π s i) (π (g s i) i)) (hother : ∀ s, ∀ i ∈ l, ∀ j ∈ l, j ≠ i → π (g s i) j = π s j)
    (s : State) :
    ∀ i ∈ l, R (π s i) (π (s.forEach l g) i) := by
  induction l generalizing s with
  | nil => simp
  | cons a l ih =>
    obtain ⟨ha, hl⟩ := List.nodup_cons.1 hl
    have hrest := ih hl (fun s i hi => hone s i (List.mem_cons_of_mem _ hi)) 
      (fun s i hi j hj => hother s i (List.mem_cons_of_mem _ hi) j (List.mem_cons_of_mem _ hj)) (g s a)
    rw [State.forEach, List.foldl_cons]
    intro i hi
    rcases List.mem_cons.1 hi with rfl | hi
    · have hkept := State.forEach_keeps (fun s => π s i) l g
        (fun s j hj => hother s j (List.mem_cons_of_mem _ hj) i List.mem_cons_self (fun h => ha (h ▸ hj))) (g s i)
      rw [State.forEach] at hkept
      rw [hkept]
      exact hone s i List.mem_cons_self
    · have h := hrest i hi
      rwa [hother s a List.mem_cons_self i (List.mem_cons_of_mem _ hi) (fun h => ha (h ▸ hi))] at h

/-! What lanes that power down or negotiate leave as it is -/

/-- A register other than SYS_PWR_CTRL and the links of the lanes. -/
def offLink (a : Nat) : Prop := a ≠ SYS_PWR_CTRL ∧ ∀ l < 64, a ≠ HL_LINK l

/-- A part of the state that the loss of leases and lanes does not reach: it writes registers other than SYS_PWR_CTRL and the links, raises sources,
sends frames, spoils items and changes lanes. -/
structure State.LinkApart {α : Type} (π : State → α) : Prop where
  wr : ∀ (s : State) a v, offLink a → π (s.wr a v) = π s
  raise : ∀ (s : State) src info, π (s.raise src info) = π s
  out : ∀ (s : State) o w t, π { s with out := o, wire := w, lineTx := t } = π s
  rx : ∀ (s : State) o, π { s with lineRx := o } = π s
  free : ∀ (s : State) o, π { s with free := o } = π s
  items : ∀ (s : State) o, π { s with items := o } = π s
  lanes : ∀ (s : State) o, π { s with lanes := o } = π s
  twin : ∀ (s : State) o, π { s with twin := o } = π s

theorem offLink_of (a : Nat) (h : (0x30000 ≤ a ∧ a < 0x40000) ∨ 0x90000 ≤ a ∨ (0x80000 ≤ a ∧ a % 0x400 ≠ 0x10)) : offLink a := by
  refine ⟨?_, fun l hl => ?_⟩
  · simp only [SYS_PWR_CTRL]; omega
  · simp only [HL_LINK]; omega

section
variable (l : Nat)

theorem offLink_lease : offLink (HL_LEASE l) := offLink_of _ (by simp only [HL_LEASE]; omega)
theorem offLink_ctrl : offLink (HL_CTRL l) := offLink_of _ (by simp only [HL_CTRL]; omega)
theorem offLink_stat : offLink (HL_STAT l) := offLink_of _ (by simp only [HL_STAT]; omega)
theorem offLink_vfy : offLink (VFY_LANE l) := offLink_of _ (by simp only [VFY_LANE]; omega)
theorem offLink_live (src : Nat) (hs : src < 128) (a : Nat) (ha : a = FLT_SRC src ∨ a = FLT_LIVE_SUM (src / 32)) : offLink a :=
  offLink_of _ (by simp only [FLT_SRC, FLT_LIVE_SUM] at ha; omega)

end

theorem offLink_twinState : offLink TWIN_STATE := offLink_of _ (by decide)
theorem offLink_twinStat : offLink TWIN_STAT := offLink_of _ (by decide)

/-- LIVE of a source is written in its own register and in the sum. -/
theorem State.setLive_keeps {α : Type} (π : State → α) (src : Nat)
    (hw : ∀ (s : State) a v, a = FLT_SRC src ∨ a = FLT_LIVE_SUM (src / 32) → π (s.wr a v) = π s) (s : State) (on : Bool) :
    π (s.setLive src on) = π s := by
  simp only [State.setLive]
  split
  · exact (hw _ _ _ (.inl rfl)).trans ((hw _ _ _ (.inr rfl)).trans (hw _ _ _ (.inl rfl)))
  · exact (hw _ _ _ (.inr rfl)).trans (hw _ _ _ (.inl rfl))

theorem State.raiseLive_keeps {α : Type} (π : State → α) (src info : Nat)
    (hw : ∀ (s : State) a v, a = FLT_SRC src ∨ a = FLT_LIVE_SUM (src / 32) → π (s.wr a v) = π s)
    (hr : ∀ s : State, π (s.raise src info) = π s) (s : State) : π (s.raiseLive src info) = π s := by
  simp only [State.raiseLive]
  split
  · rfl
  · rw [hr, State.setLive_keeps π src hw]

namespace State.LinkApart
variable {α : Type} {π : State → α} (h : State.LinkApart π)
include h

theorem setF (s : State) (x : Field) (v : Nat) (hx : offLink x.addr) : π (s.setF x v) = π s := h.wr _ _ _ hx

theorem setB (s : State) (x : Field) (v : Bool) (hx : offLink x.addr) : π (s.setB x v) = π s := h.wr _ _ _ hx

theorem ev (s : State) (x : Field) (hx : offLink x.addr) : π (s.ev x) = π s := h.wr _ _ _ hx

theorem emitHeld (s : State) (hold : Nat) (o : Out) : π (s.emitHeld hold o) = π s := by
  simp only [State.emitHeld]
  split
  · rfl
  · exact h.out _ _ _ _

theorem emit (s : State) (o : Out) : π (s.emit o) = π s := h.emitHeld s 0 o

theorem emitFree (s : State) (o : Out) : π (s.emitFree o) = π s := (h.emitHeld _ _ _).trans (h.free _ _)

theorem modLane (s : State) (l : Nat) (g : Lane → Lane) : π (s.modLane l g) = π s := h.lanes _ _

theorem modBasalt (s : State) (i : Nat) (g : BasaltLane → BasaltLane) : π (s.modBasalt i g) = π s := h.twin _ _

theorem setLive (s : State) (src : Nat) (on : Bool) (hs : src < 128) : π (s.setLive src on) = π s :=
  State.setLive_keeps π src (fun s a v ha => h.wr s a v (offLink_live src hs a ha)) s on

theorem raiseLive (s : State) (src info : Nat) (hs : src < 128) : π (s.raiseLive src info) = π s :=
  State.raiseLive_keeps π src info (fun s a v ha => h.wr s a v (offLink_live src hs a ha)) (fun s => h.raise s src info) s

theorem abortLane (s : State) (l reason : Nat) : π (s.abortLane l reason) = π s := by
  simp only [State.abortLane]
  rw [h.modLane, State.when_keeps π _ _ fun s => h.emit s _]

theorem leaseSpoils (s : State) (l : Nat) : π (s.leaseSpoils l) = π s :=
  State.when_keeps π _ _ (fun s => State.forEach_keeps π _ _ (fun s _ _ => h.items s _) s) s

theorem leaseSpoilsAll (s : State) (bar : List Nat) : π (s.forEach bar fun s m => s.leaseSpoils m) = π s :=
  State.forEach_keeps π _ _ (fun s m _ => h.leaseSpoils s m) s

theorem unleased (s : State) (l : Nat) : π (s.unleased l) = π s := by
  simp only [State.unleased]
  rw [h.modLane, h.leaseSpoils]

theorem unleasedAll (s : State) (bar : List Nat) : π (s.forEach bar fun s m => s.unleased m) = π s :=
  State.forEach_keeps π _ _ (fun s m _ => h.unleased s m) s

theorem releaseLane (s : State) (l : Nat) : π (s.releaseLane l) = π s := by
  simp only [State.releaseLane]
  rw [h.unleasedAll, h.modLane, h.setF _ _ _ (offLink_lease l), State.when_keeps π _ _ fun s => h.emitFree s _, h.abortLane, h.leaseSpoilsAll]

theorem setRole (s : State) (r : Nat) : π (s.setRole r) = π s := by
  simp only [State.setRole]
  split
  · exact h.setF _ _ _ offLink_twinState
  · exact (h.emit _ _).trans ((h.twin _ _).trans (h.setF _ _ _ offLink_twinState))

theorem isolate (s : State) : π s.isolate = π s := by
  simp only [State.isolate]
  split
  · rfl
  · rw [h.raiseLive _ _ _ (by decide), h.ev _ _ offLink_twinStat, h.setRole, State.releaseAll, State.forEach_keeps π _ _ fun s l _ => ?_]
    exact State.when_keeps π _ _ (fun s => h.releaseLane s l) s

theorem loseLease (s : State) (l : Nat) (abort peer : Bool) : π (s.loseLease l abort peer) = π s := by
  simp only [State.loseLease]
  split
  · rfl
  · rw [State.when_keeps π _ _ h.isolate, h.raise, h.ev _ _ (offLink_stat l), h.unleasedAll, h.modLane, h.setB _ _ _ (offLink_ctrl l),
      h.setF _ _ _ (offLink_lease l), State.when_keeps π _ _ fun s => h.abortLane s _ _, h.leaseSpoilsAll]

theorem showLanes (s : State) : π s.showLanes = π s := by
  simp only [State.showLanes, State.basaltLive]
  rw [State.when_keeps π _ _ fun s => h.setLive s _ _ (by decide), h.setF _ _ _ offLink_twinState]

theorem basaltDown (s : State) : π s.basaltDown = π s := by
  refine State.forEach_keeps π _ _ (fun s i _ => ?_) s
  rw [State.when_keeps π _ _ fun s => h.raiseLive s _ _ (by decide), h.showLanes, h.modBasalt]

theorem basaltStart (s : State) (i : Nat) : π (s.basaltStart i) = π s := by
  simp only [State.basaltStart]
  split
  · rfl
  · rw [h.showLanes, h.modBasalt]
    exact h.out _ _ _ _

/-- A lane that powers down reaches its own link besides. -/
theorem laneDown (s : State) (l : Nat) (hl : ∀ (s : State) v, π (s.wr (HL_LINK l) v) = π s) :
    π (((s.when (s.held l) (·.loseLease l true false)).setF (HL_LINK_STATE l) 0).modLane l fun x => { x with phase := .off }) = π s := by
  rw [h.modLane]
  exact (hl _ _).trans (State.when_keeps π _ _ (fun s => h.loseLease s _ _ _) s)

/-- A lane that negotiates reaches its own link besides. -/
theorem negStart (s : State) (l : Nat) (hl : ∀ (s : State) v, π (s.wr (HL_LINK l) v) = π s) : π (s.negStart l) = π s := by
  have hthr : π (s.thrClear l) = π s := h.setB _ _ _ (offLink_vfy l)
  simp only [State.negStart]
  split
  · exact hthr
  · rw [h.modLane, State.lineStop]
    exact (h.rx _ _).trans ((h.out _ _ _ _).trans ((hl _ _).trans hthr))

end State.LinkApart

theorem State.linkApart_mem : State.LinkApart State.mem := by
  constructor
  case raise => exact State.raise_mem
  all_goals intros; rfl

theorem State.linkApart_rd (b : Nat) (hb : raiseReach b = false) (ho : ¬ offLink b) : State.LinkApart fun s => s.rd b := by
  constructor
  case wr => exact fun s a v ha => State.rd_wr_ne _ _ _ _ fun hab => ho (hab ▸ ha)
  case raise => exact fun s src info => State.raise_rd s src info b hb
  all_goals intros; rfl

theorem State.linkApart_pwrCtrl : State.LinkApart fun s => s.rd SYS_PWR_CTRL :=
  State.linkApart_rd _ (by decide) fun h => h.1 rfl

theorem State.linkApart_link (l : Fin 64) : State.LinkApart fun s => s.rd (HL_LINK l) :=
  State.linkApart_rd _ (by revert l; decide) fun h => h.2 l l.isLt rfl

/-- What of each engine an event leaves as it is. -/
theorem State.linkApart_eng {β : Type} (κ : Engine → β) (hκ : ∀ ev x, κ (Engine.withEvent ev x) = κ x) (j : Nat) :
    State.LinkApart fun s => κ (s.eng j) := by
  constructor
  case raise =>
    refine fun s src info => State.raise_keeps (fun s => κ (s.eng j)) s src info ?_
    simp only [State.raiseWith_eng]
    split
    · exact hκ _ _
    · rfl
  all_goals intros; rfl

/-! PARK_DONE and UNPARK_DONE (R63) -/

/-- An engine's suspension, registers and pc. -/
def Engine.stand (x : Engine) : Bool × List (Nat × Word) × BitVec 16 := (x.suspended, x.gpr, x.pc)

/-- PARKED suspends a running engine. -/
def State.suspend (s : State) (e : Nat) : State :=
  s.when (s.eng e).running (·.modEng e fun x => Engine.wdogSync s.tb { x with suspended := true, parkTb := s.tb })

/-- The return from PARKED continues a suspended engine. -/
def State.resume (s : State) (e : Nat) : State :=
  s.when (s.eng e).suspended (·.modEng e fun x =>
    Engine.wdogSync s.tb { x with suspended := false, wdogFrom := s.tb, startTb := x.startTb + (s.tb - x.parkTb) })

theorem State.when_modEng_eng (s : State) (c : Bool) (e j : Nat) (g : Engine → Engine) :
    (s.when c (·.modEng e g)).eng j = if c = true ∧ e = j then g (s.eng e) else s.eng j := by
  cases c
  · simp
  · simp [State.modEng_eng]

section
variable {α : Type} (π : State → α) (he : ∀ (s : State) i v, π (s.setEng i v) = π s) (s : State)
include he

theorem State.suspendAll_keeps : π (s.forEach (List.range 14) State.suspend) = π s :=
  State.forEach_keeps π _ _ (fun s _ _ => State.when_keeps π _ _ (fun s => he s _ _) s) s

theorem State.resumeAll_keeps : π (s.forEach (List.range 14) State.resume) = π s :=
  State.forEach_keeps π _ _ (fun s _ _ => State.when_keeps π _ _ (fun s => he s _ _) s) s

end

theorem State.suspend_eng (s : State) (e : Nat) : ((s.suspend e).eng e).stand =
    ((s.eng e).suspended || (s.eng e).running, (s.eng e).gpr, (s.eng e).pc) := by
  rw [State.suspend, State.when_modEng_eng]
  split
  · next h => simp [h.1, Engine.stand, Engine.wdogSync]
  · next h => simp_all [Engine.stand]

theorem State.resume_eng (s : State) (e : Nat) : ((s.resume e).eng e).stand = (false, (s.eng e).gpr, (s.eng e).pc) := by
  rw [State.resume, State.when_modEng_eng]
  split
  · rfl
  · next h => simp_all [Engine.stand]

theorem State.suspendAll_eng (s : State) : ∀ e ∈ List.range 14, ((s.forEach (List.range 14) State.suspend).eng e).stand =
    ((s.eng e).suspended || (s.eng e).running, (s.eng e).gpr, (s.eng e).pc) :=
  State.forEach_each State.eng (fun x y => y.stand = (x.suspended || x.running, x.gpr, x.pc)) _ List.nodup_range _
    (fun s e _ => s.suspend_eng e) (fun s e _ j _ hj => (s.when_modEng_eng _ e j _).trans (if_neg fun h => hj h.2.symm)) s

theorem State.resumeAll_eng (s : State) : ∀ e ∈ List.range 14, ((s.forEach (List.range 14) State.resume).eng e).stand =
    (false, (s.eng e).gpr, (s.eng e).pc) :=
  State.forEach_each State.eng (fun x y => y.stand = (false, x.gpr, x.pc)) _ List.nodup_range _
    (fun s e _ => s.resume_eng e) (fun s e _ j _ hj => (s.when_modEng_eng _ e j _).trans (if_neg fun h => hj h.2.symm)) s

theorem State.linkApart_stand (e : Nat) : State.LinkApart fun s => (s.eng e).stand :=
  State.linkApart_eng Engine.stand (fun _ _ => rfl) e

/-- Power off a lane. -/
def State.laneOff (s : State) (l : Nat) : State :=
  if s.f (HL_LINK_STATE l) = 0 then s
  else ((s.when (s.held l) (·.loseLease l true false)).setF (HL_LINK_STATE l) 0).modLane l fun x => { x with phase := .off }

theorem State.lanesDown_eq (s : State) : s.lanesDown = s.forEach allLanes State.laneOff := rfl

theorem State.LinkApart.laneOff {α : Type} {π : State → α} (h : State.LinkApart π) (s : State) (l : Nat)
    (hl : ∀ (s : State) v, π (s.wr (HL_LINK l) v) = π s) : π (s.laneOff l) = π s := by
  rw [State.laneOff]
  split
  · rfl
  · exact h.laneDown s l hl

theorem State.laneOff_state (s : State) (l : Nat) : (s.laneOff l).f (HL_LINK_STATE l) = 0 := by
  rw [State.laneOff]
  split
  · assumption
  · exact State.f_setF_same _ (HL_LINK_STATE l) 0 (by simp [HL_LINK_STATE]) (by simp [HL_LINK_STATE])

theorem HL_LINK_ne (l m : Nat) (h : m ≠ l) : HL_LINK l ≠ HL_LINK m := by
  simp only [HL_LINK]
  omega

theorem State.lanesDown_state (s : State) : ∀ l ∈ allLanes, s.lanesDown.f (HL_LINK_STATE l) = 0 := by
  rw [State.lanesDown_eq]
  refine State.forEach_each (fun s l => s.f (HL_LINK_STATE l)) (fun _ y => y = 0) _ List.nodup_range _ (fun s l _ => s.laneOff_state l)
    (fun s l _ m hm hne => ?_) s
  have hapart := State.linkApart_link ⟨m, List.mem_range.1 hm⟩
  exact State.f_congr (HL_LINK_STATE m) (hapart.laneOff s l fun s v => State.rd_wr_ne _ _ _ _ (HL_LINK_ne l m hne))

section
variable {α : Type} {π : State → α} (h : State.LinkApart π) (hl : ∀ (s : State) l v, π (s.wr (HL_LINK l) v) = π s)
include h hl

theorem State.LinkApart.lanesDown (s : State) : π s.lanesDown = π s := by
  rw [State.lanesDown_eq]
  exact State.forEach_keeps π _ _ (fun s l _ => h.laneOff s l fun s v => hl s l v) s

/-- Lanes and twin negotiate again where they are enabled. -/
theorem State.LinkApart.negotiateAll (s : State) :
    π (let u := s.forEach allLanes fun s l => s.when (s.b (HL_CTRL_ENABLE l)) (·.negStart l)
       if u.b TWIN_CFG_EN then u.forEach [0, 1] fun s i => s.basaltStart i else u) = π s := by
  have hneg : ∀ s : State, π (s.forEach allLanes fun s l => s.when (s.b (HL_CTRL_ENABLE l)) (·.negStart l)) = π s := fun s =>
    State.forEach_keeps π _ _ (fun s l _ => State.when_keeps π _ _ (fun s => h.negStart s l fun s v => hl s l v) s) s
  dsimp only
  split
  · exact (State.forEach_keeps π _ _ (fun s i _ => h.basaltStart s i) _).trans (hneg s)
  · exact hneg s

end

/-- The part with its engines suspended and its lanes powered down, PARKED not set yet. -/
def State.quieted (s : State) : State := (s.forEach (List.range 14) State.suspend).lanesDown.basaltDown

theorem State.parked_eq (s : State) : s.parked = s.quieted.setB SYS_PWR_CTRL_PARKED true := rfl

theorem State.LinkApart.quieted {α : Type} {π : State → α} (h : State.LinkApart π)
    (hl : ∀ (s : State) l v, π (s.wr (HL_LINK l) v) = π s) (s : State) : π s.quieted = π (s.forEach (List.range 14) State.suspend) := by
  rw [State.quieted, h.basaltDown, h.lanesDown hl]

theorem State.parked_mem (s : State) : s.parked.mem = s.mem := by
  rw [State.parked_eq, State.setB, State.setF, State.wr_mem, State.linkApart_mem.quieted (fun _ _ _ => rfl),
    State.suspendAll_keeps State.mem (fun _ _ _ => rfl)]

theorem State.parked_set (s : State) : s.parked.b SYS_PWR_CTRL_PARKED = true := by
  rw [State.parked_eq]
  exact State.b_setB_same _ _ _ rfl (by decide)

theorem State.parked_eng (s : State) (e : Nat) (he : e < 14) : (s.parked.eng e).stand =
    ((s.eng e).suspended || (s.eng e).running, (s.eng e).gpr, (s.eng e).pc) := by
  rw [State.parked_eq, State.setB, State.setF, State.wr_eng, (State.linkApart_stand e).quieted (fun _ _ _ => rfl)]
  exact s.suspendAll_eng e (List.mem_range.2 he)

theorem State.parked_link (s : State) (l : Nat) (hl : l < 64) : s.parked.f (HL_LINK_STATE l) = 0 := by
  have hpwr : SYS_PWR_CTRL ≠ HL_LINK l := by simp only [SYS_PWR_CTRL, HL_LINK]; omega
  have hkept := (State.linkApart_link ⟨l, hl⟩).basaltDown (s.forEach (List.range 14) State.suspend).lanesDown
  rw [State.parked_eq, State.setB, State.f_setF_other _ _ _ _ hpwr, State.quieted, State.f_congr (HL_LINK_STATE l) hkept]
  exact State.lanesDown_state _ l (List.mem_range.2 hl)

theorem State.parkDone_eq (s : State) (hp : s.b SYS_PWR_CTRL_PARK = true) (hd : s.b SYS_PWR_CTRL_PARKED = false)
    (hq : ∀ e < 14, (s.eng e).storeBuf = [] ∧ (s.eng e).loading = false) : s.parkDone = s.parked := by
  have hreq : ∀ e < 14, xReq e = e := fun e he => Nat.min_eq_left (by omega)
  have hdrain : s.forEach (List.range 14) State.drainAll = s :=
    State.forEach_unchanged _ _ s fun e he => s.drainAll_nil e (hq e (List.mem_range.1 he)).1
  have hload : s.forEach (List.range 14) State.loadReturns = s := by
    refine State.forEach_unchanged _ _ s fun e he => ?_
    have he := List.mem_range.1 he
    rw [State.loadReturns, hreq e he, (hq e he).2, Bool.and_false, State.when_false]
  rw [State.parkDone, hp, hd, Bool.not_false, Bool.and_self, State.when_true, hdrain, hload]

section
variable (s : State) (hp : s.b SYS_PWR_CTRL_PARK = false) (hd : s.b SYS_PWR_CTRL_PARKED = true)
include hp hd

theorem State.unparked_keeps {α : Type} {π : State → α} (h : State.LinkApart π) (hl : ∀ (s : State) l v, π (s.wr (HL_LINK l) v) = π s) :
    π s.unparked = π ((s.setB SYS_PWR_CTRL_PARKED false).forEach (List.range 14) State.resume) := by
  rw [State.unparked, if_pos (by simp [hp, hd])]
  exact h.negotiateAll hl _

theorem State.unparked_mem : s.unparked.mem = s.mem :=
  (s.unparked_keeps hp hd State.linkApart_mem fun _ _ _ => rfl).trans (State.resumeAll_keeps State.mem (fun _ _ _ => rfl) _)

theorem State.unparked_clear : s.unparked.b SYS_PWR_CTRL_PARKED = false := by
  have hlink : ∀ (s : State) l v, (s.wr (HL_LINK l) v).rd SYS_PWR_CTRL = s.rd SYS_PWR_CTRL := fun s l v =>
    State.rd_wr_ne _ _ _ _ (by simp only [HL_LINK, SYS_PWR_CTRL]; omega)
  have hresume := State.resumeAll_keeps (·.rd SYS_PWR_CTRL) (fun _ _ _ => rfl) (s.setB SYS_PWR_CTRL_PARKED false)
  have hkept := (s.unparked_keeps hp hd State.linkApart_pwrCtrl hlink).trans hresume
  rw [State.b_congr SYS_PWR_CTRL_PARKED hkept]
  exact State.b_setB_same s SYS_PWR_CTRL_PARKED false rfl (by decide)

theorem State.unparked_eng (e : Nat) (he : e < 14) : (s.unparked.eng e).stand = (false, (s.eng e).gpr, (s.eng e).pc) := by
  have hkept := s.unparked_keeps hp hd (State.linkApart_stand e) fun _ _ _ => rfl
  have hresume := State.resumeAll_eng (s.setB SYS_PWR_CTRL_PARKED false) e (List.mem_range.2 he)
  exact hkept.trans hresume

end

end Sys2Proof.Machine

open Sys2Proof Sys2Proof.Machine
open Sys2Proof.Machine.Reg Sys2Proof.Machine.Fld

/-- Settles O23: PARK and UNPARK are writes of one guarded bit; at PARK_DONE each engine from 0 to 13 and each lane is changed once, and the losses of
leases that go with it reach neither another lane's link nor what an engine stands at. -/
theorem parkCommands : Obligations.ParkCommands := by
  unfold Obligations.ParkCommands
  intro req s
  refine ⟨fun hg hp => ?_, fun hg => ?_, fun ha hp hd hq => ?_, fun ha hp hd => ?_⟩
  · obtain ⟨l, hl⟩ := s.busField_park req 1 hg
    exact ⟨_, congrArg Host.Outcome.next hl, State.parkWrite_regsBut _ _, State.parkWrite_parked _ _,
      State.parkWrite_taken (s.begin.withUnlocks l) hp, State.parkWrite_refused (s.begin.withUnlocks l) hp⟩
  · obtain ⟨l, hl⟩ := s.busField_park req 0 hg
    exact ⟨_, congrArg Host.Outcome.next hl, State.parkWrite_regsBut _ _, State.parkWrite_off _, State.parkWrite_parked _ _⟩
  · have he : exec .parkDone s = .next s.begin.parked   :=
      congrArg Host.Outcome.next ((s.awake_of _ ha).trans (s.begin.parkDone_eq hp hd hq))
    refine ⟨_, he, State.parked_mem _, State.parked_set _, fun e h14 => ?_, State.parked_link _⟩
    have hstand := State.parked_eng s.begin e h14
    simp only [Engine.stand, Prod.mk.injEq] at hstand
    exact hstand
  · have he : exec .unparkDone s = .next s.begin.unparked := congrArg Host.Outcome.next (s.awake_of _ ha)
    refine ⟨_, he, State.unparked_mem s.begin hp hd, State.unparked_clear s.begin hp hd, fun e h14 => ?_⟩
    have hstand := State.unparked_eng s.begin hp hd e h14
    simp only [Engine.stand, Prod.mk.injEq] at hstand
    exact hstand
end

section
/-!
PROOFS. Resets.lean (O21): what a reset leaves, whatever made it, the causes it records, and what the release of reset shows.
-/

namespace Sys2Proof.Machine
open Reg Fld

/-! The state at power-up (Table 3.1) -/

/-- A fuse cut by a reset changes the fuses alone, and what is drawn for them. -/
theorem State.fuseCut_keeps {α : Type} (π : State → α) (hfree : ∀ (s : State) n, π { s with free := n } = π s)
    (hfuse : ∀ (s : State) x, π { s with fuses := x } = π s) (s : State) : π s.fuseCut = π s :=
  State.foldl_keeps π _ _ (fun s _ _ => (State.when_keeps π _ _ (fun s => hfuse s _) _).trans (hfree s _)) s

/-- The state as at power-up, but for what a reset keeps beside registers. -/
def State.powerUp (s : State) (por : Bool) : State :=
  { tb := if por then 0 else s.tb, pending := s.pending, out := s.out, wire := s.wire, free := s.free, firstThis := s.firstThis,
    geode := { s.vaultSync.geode with lost := s.geode.lost && !s.geode.told, told := false, countAt := if por then 0 else s.tb }
    fuses := s.fuses, ledger := { keyDue := s.ledger.keyDue }
    quartz := { s.quartz with prog := none },
    power := { s.power with resetLow := true, perstAt := none, parkAt := none, por := por || s.power.por,
                            porHeld := por || s.power.porHeld } }

/-- The rail monitors stay, and ERR_N is released where the AON island does not run. -/
def State.railsKept (s : State) (por : Bool) : State :=
  ((s.powerUp por).wr SYS_RAIL_STAT (s.rd SYS_RAIL_STAT)).when (!s.power.aonRuns) (·.setB FLT_STAT_ERR_N_LOW false)

theorem State.cleared_eq (s : State) (por : Bool) : s.cleared por =
    if por then s.fuseCut.railsKept por else (s.fuseCut.railsKept por).wr SYS_RST_CAUSE (s.fuseCut.rd SYS_RST_CAUSE) := rfl

theorem State.railsKept_keeps {α : Type} (π : State → α) (hw : ∀ (s : State) a v, π (s.wr a v) = π s) (s : State) (por : Bool) :
    π (s.railsKept por) = π (s.powerUp por) :=
  (State.when_keeps π _ _ (fun s => hw s _ _) _).trans (hw _ _ _)

theorem State.cleared_keeps {α : Type} (π : State → α) (hw : ∀ (s : State) a v, π (s.wr a v) = π s) (s : State) (por : Bool) :
    π (s.cleared por) = π (s.fuseCut.powerUp por) := by
  rw [State.cleared_eq]
  cases por
  · exact (hw _ _ _).trans (State.railsKept_keeps π hw _ _)
  · exact State.railsKept_keeps π hw _ _

theorem State.railsKept_rd (s : State) (por : Bool) (a : Nat) (ha : a ≠ FLT_STAT) :
    (s.railsKept por).rd a = if a = SYS_RAIL_STAT then s.rd SYS_RAIL_STAT else resetOf a := by
  have herr : (s.railsKept por).rd a = ((s.powerUp por).wr SYS_RAIL_STAT (s.rd SYS_RAIL_STAT)).rd a :=
    State.when_keeps (·.rd a) _ _ (fun s => State.rd_setF_other s FLT_STAT_ERR_N_LOW _ a (Ne.symm ha)) _
  rw [herr, State.rd_wr]
  simp only [eq_comm]
  rfl

theorem State.railsKept_errN (s : State) (por : Bool) : (s.railsKept por).b FLT_STAT_ERR_N_LOW = s.power.aonRuns := by
  rw [State.railsKept]
  cases s.power.aonRuns
  · exact State.b_setB_same _ FLT_STAT_ERR_N_LOW false rfl (by decide)
  · have hf : ((s.powerUp por).wr SYS_RAIL_STAT (s.rd SYS_RAIL_STAT)).rd FLT_STAT = resetOf FLT_STAT := State.rd_wr_ne _ _ _ _ (by decide)
    simp only [Bool.not_true, State.when_false, State.b, State.f]
    rw [show FLT_STAT_ERR_N_LOW.addr = FLT_STAT from rfl, hf]
    decide

/-- The TAP drives no pin while BYPASS is selected. -/
theorem State.boundaryPin_bypass (s : State) (h : s.jtagIr = 0x02) (p : Pin) : s.boundaryPin p = none := by
  simp only [State.boundaryPin, h]
  split
  · rfl
  · simp

/-- A state as a reset leaves it, of registers all but those kept. -/
structure State.Reset (s t : State) (keep : List Nat) : Prop where
  mem : t.mem = []
  engines : t.engines = []
  items : t.items = []
  jobs : t.jobs = []
  lanes : t.lanes = []
  low : t.power.resetLow = true
  tap : t.jtagIr = 0x02
  kek : t.geode.kek = s.geode.kek
  next : t.geode.next = s.geode.next
  supply : t.geode.onVbat = s.geode.onVbat
  ledger : t.ledger = { keyDue := s.ledger.keyDue }
  fuses : s.sec.fprog = [] → t.fuses = s.fuses
  rails : t.rd SYS_RAIL_STAT = s.rd SYS_RAIL_STAT
  errN : t.b FLT_STAT_ERR_N_LOW = t.power.aonRuns
  regs : ∀ a, a ≠ SYS_RAIL_STAT → a ≠ FLT_STAT → a ∉ keep → t.rd a = resetOf a

namespace State.Reset
variable {s t : State} {keep : List Nat} (h : s.Reset t keep)
include h

theorem asleep : t.asleep = true := by simp [State.asleep, State.inReset, h.low]

theorem pin (ha : t.power.aonRuns = true) (p : Pin) : t.pin p = p.reset := by
  have hphase : t.bootPhase = .held := by simp [State.bootPhase, ha, h.low]
  rw [State.pin, t.boundaryPin_bypass h.tap, Option.getD_none, State.blockPin, hphase]

/-- The supplies and straps of the part may change, if reset stays and the AON island does. -/
theorem withPower (p : Power) (hl : p.resetLow = true) (ha : p.aonRuns = t.power.aonRuns) : s.Reset { t with power := p } keep :=
  { h with low := hl, errN := h.errN.trans ha.symm }

/-- The AON island starts, and ERR_N goes low (R80). -/
theorem aonRuns : s.Reset (({ t with power := { t.power with aonRuns := true } } : State).setB FLT_STAT_ERR_N_LOW true) keep :=
  { h with
    errN := State.b_setB_same _ FLT_STAT_ERR_N_LOW true rfl (by decide)
    rails := (State.rd_setF_other _ _ _ _ (by decide)).trans h.rails
    regs := fun a h1 h2 h3 => (State.rd_setF_other _ _ _ _ (Ne.symm h2)).trans (h.regs a h1 h2 h3) }

theorem wr (a : Nat) (v : Word) (hk : a ∈ keep) (ha : a ≠ SYS_RAIL_STAT ∧ a ≠ FLT_STAT) : s.Reset (t.wr a v) keep :=
  { h with
    rails := (State.rd_wr_ne _ _ _ _ ha.1).trans h.rails
    errN := by rw [State.b, State.f, State.rd_wr_ne t a FLT_STAT_ERR_N_LOW.addr v ha.2]; exact h.errN
    regs := fun b h1 h2 h3 => (State.rd_wr_ne _ _ _ _ (by rintro rfl; exact h3 hk)).trans (h.regs b h1 h2 h3) }

end State.Reset

theorem State.reset_railsKept (s : State) (por : Bool) : s.Reset (s.fuseCut.railsKept por) [] := by
  have keeps : ∀ {α : Type} (π : State → α), (∀ (s : State) n, π { s with free := n } = π s) →
      (∀ (s : State) x, π { s with fuses := x } = π s) → π s.fuseCut = π s := fun π h1 h2 => State.fuseCut_keeps π h1 h2 s
  have shown : ∀ {α : Type} (π : State → α), (∀ (s : State) a v, π (s.wr a v) = π s) →
      π (s.fuseCut.railsKept por) = π (s.fuseCut.powerUp por) := fun π hw => State.railsKept_keeps π hw _ _
  refine ⟨shown State.mem fun _ _ _ => rfl, shown State.engines fun _ _ _ => rfl, shown State.items fun _ _ _ => rfl,
    shown State.jobs fun _ _ _ => rfl, shown State.lanes fun _ _ _ => rfl, shown (·.power.resetLow) fun _ _ _ => rfl,
    shown State.jtagIr fun _ _ _ => rfl, ?_, ?_, ?_, ?_, fun hf => ?_, ?_, ?_, fun a h1 h2 _ => ?_⟩
  · exact (shown (·.geode.kek) fun _ _ _ => rfl).trans (keeps (·.geode.kek) (fun _ _ => rfl) fun _ _ => rfl)
  · exact (shown (·.geode.next) fun _ _ _ => rfl).trans (keeps (·.geode.next) (fun _ _ => rfl) fun _ _ => rfl)
  · exact (shown (·.geode.onVbat) fun _ _ _ => rfl).trans (keeps (·.geode.onVbat) (fun _ _ => rfl) fun _ _ => rfl)
  · refine (shown State.ledger fun _ _ _ => rfl).trans ?_
    exact congrArg (fun d => ({ keyDue := d } : Ledger)) (keeps (·.ledger.keyDue) (fun _ _ => rfl) fun _ _ => rfl)
  · refine (shown State.fuses fun _ _ _ => rfl).trans ?_
    rw [State.fuseCut, hf]
    rfl
  · rw [State.railsKept_rd _ _ _ (by decide), if_pos rfl]
    exact keeps (·.rd SYS_RAIL_STAT) (fun _ _ => rfl) fun _ _ => rfl
  · exact (State.railsKept_errN _ _).trans (shown (·.power.aonRuns) fun _ _ _ => rfl).symm
  · rw [State.railsKept_rd _ _ _ h2, if_neg h1]

/-- The registers a reset keeps beside SYS_RAIL_STAT. -/
def resetKeeps (por : Bool) : List Nat := if por then [] else [SYS_RST_CAUSE]

theorem State.reset_cleared (s : State) (por : Bool) : s.Reset (s.cleared por) (resetKeeps por) := by
  have h := s.reset_railsKept por
  rw [State.cleared_eq]
  cases por
  · exact { h with regs := fun a h1 h2 _ => h.regs a h1 h2 List.not_mem_nil : s.Reset _ (resetKeeps false) }.wr _ _
      (List.mem_singleton_self _) (by decide)
  · exact h

theorem State.cleared_tb (s : State) (por : Bool) : (s.cleared por).tb = if por then 0 else s.tb := by
  rw [State.cleared_keeps State.tb fun _ _ _ => rfl]
  have h : s.fuseCut.tb = s.tb := State.fuseCut_keeps State.tb (fun _ _ => rfl) (fun _ _ => rfl) s
  simp only [State.powerUp, h]

theorem State.cleared_power (s : State) (por : Bool) : (s.cleared por).power =
    { s.power with resetLow := true, perstAt := none, parkAt := none, por := por || s.power.por, porHeld := por || s.power.porHeld } := by
  rw [State.cleared_keeps State.power fun _ _ _ => rfl]
  have h : s.fuseCut.power = s.power := State.fuseCut_keeps State.power (fun _ _ => rfl) (fun _ _ => rfl) s
  simp only [State.powerUp, h]

theorem State.cleared_rstCause (s : State) : (s.cleared false).rd SYS_RST_CAUSE = s.rd SYS_RST_CAUSE :=
  (State.rd_wr_same _ _ _).trans (State.fuseCut_keeps (·.rd SYS_RST_CAUSE) (fun _ _ => rfl) (fun _ _ => rfl) s)

/-! The causes of a reset (R77) -/

/-- An event shows the bits it sets beside those set before. -/
theorem testBit_sqEvent (w : Word) (ms : List Nat) (hms : ∀ m ∈ ms, m < 24) (k : Nat) (hk : k < 24) :
    (sqEvent w ms).toNat.testBit k = (decide (k ∈ ms) || w.toNat.testBit k) := by
  have hfold : ∀ (ms : List Nat), (∀ m ∈ ms, m < 24) → ∀ w : Word,
      (ms.foldl (fun w m => putBits w m m 1) w).toNat.testBit k = (decide (k ∈ ms) || w.toNat.testBit k) := by
    intro ms
    induction ms with
    | nil => simp
    | cons m ms ih =>
      intro hms w
      rw [List.foldl_cons, ih fun m hm => hms m (List.mem_cons_of_mem _ hm)]
      rw [testBit_putBits _ _ _ _ _ (le_refl m)]
      rcases lt_trichotomy k m with h | rfl | h
      · simp [h, show k < 32 by omega, show k ≠ m by omega]
      · simp [show k < 32 by omega]
      · simp [show ¬ k < m by omega, show ¬ k ≤ m by omega, show k < 32 by omega, show k ≠ m by omega]
  rw [sqEvent, testBit_putBits _ _ _ _ _ (by omega), if_pos hk, decide_eq_true (show k < 32 by omega), Bool.true_and, hfold ms hms]

theorem bits_sqEvent_seq (w : Word) (ms : List Nat) : bits (sqEvent w ms).toNat 31 24 = (bits w.toNat 31 24 + 1) % 256 := by
  rw [sqEvent, bits_putBits_same _ _ _ _ (by omega) (by omega)]
  rfl

theorem bits_one (n k : Nat) : decide (bits n k k = 1) = n.testBit k := by
  rw [← bitAt_eq, bitAt, bits, Nat.add_sub_cancel_left]
  rfl

/-- What a warm reset leaves, with the causes it adds. -/
def State.warmOf (s : State) (cause : Nat) : State :=
  (s.cleared false).wr SYS_RST_CAUSE (sqEvent (s.rd SYS_RST_CAUSE) (if s.itemsOpen then [cause, 8] else [cause]))

theorem State.warmReset_eq (s : State) (cause : Nat) (h : s.power.resetLow = false) : s.warmReset cause = s.warmOf cause := by
  rw [State.warmReset, if_neg (by simp [h]), State.warmOf, ← s.cleared_rstCause]

theorem State.reset_warmOf (s : State) (cause : Nat) : s.Reset (s.warmOf cause) [SYS_RST_CAUSE] :=
  (s.reset_cleared false).wr _ _ (List.mem_singleton_self _) (by decide)

theorem State.warmOf_seq (s : State) (cause : Nat) : (s.warmOf cause).f SYS_RST_CAUSE_SEQ = (s.f SYS_RST_CAUSE_SEQ + 1) % 256 := by
  rw [State.f, State.warmOf, show SYS_RST_CAUSE_SEQ.addr = SYS_RST_CAUSE from rfl, State.rd_wr_same]
  exact bits_sqEvent_seq _ _

theorem State.warmOf_bit (s : State) (cause k : Nat) (hc : cause < 24) (hk : k < 24) :
    (s.warmOf cause).b ⟨SYS_RST_CAUSE, k, k⟩ = (s.b ⟨SYS_RST_CAUSE, k, k⟩ || decide (k = cause) || (decide (k = 8) && s.itemsOpen)) := by
  rw [State.b, State.f, State.warmOf, State.rd_wr_same, bits_one, testBit_sqEvent _ _ (by split <;> simp [hc]) _ hk, State.b, State.f, bits_one]
  cases s.itemsOpen <;> simp [Bool.or_comm, Bool.or_left_comm, Bool.or_assoc]

/-! The resets -/

theorem State.powerReset_eq (s : State) :
    s.powerReset = { s.cleared true with power := { (s.cleared true).power with strapsDue := true } } := rfl

theorem State.reset_powerReset (s : State) : s.Reset s.powerReset [] :=
  (s.reset_cleared true).withPower _ (s.reset_cleared true).low rfl

theorem State.powerReset_power (s : State) : s.powerReset.power =
    { s.power with resetLow := true, perstAt := none, parkAt := none, por := true, porHeld := true, strapsDue := true } := by
  rw [State.powerReset_eq, s.cleared_power]
  rfl

theorem State.powerReset_porHeld (s : State) : s.powerReset.power.porHeld = true := by rw [s.powerReset_power]

theorem State.powerReset_tb (s : State) : s.powerReset.tb = 0 := s.cleared_tb true

theorem State.reset_resetNLow {s t : State} {keep : List Nat} (h : s.Reset t keep) : s.Reset t.resetNLow keep :=
  h.withPower _ h.low rfl

theorem State.reset_testReset (s : State) : s.Reset s.testReset [SYS_RST_CAUSE] :=
  (s.reset_cleared false).withPower _ (s.reset_cleared false).low rfl

/-- A reset with TEST_EN high. -/
def State.testHeld (t : State) : State := { t with power := { t.power with testEn := true } }

theorem State.testReset_eq (s : State) : s.testReset = (s.cleared false).testHeld := rfl

theorem State.testHeld_shows (t : State) : t.testHeld.tb = t.tb ∧ t.testHeld.rd SYS_RST_CAUSE = t.rd SYS_RST_CAUSE ∧
    t.testHeld.power.porHeld = t.power.porHeld := ⟨rfl, rfl, rfl⟩

theorem State.testReset_shows (s : State) : s.testReset.tb = s.tb ∧ s.testReset.rd SYS_RST_CAUSE = s.rd SYS_RST_CAUSE ∧
    s.testReset.power.porHeld = s.power.porHeld := by
  obtain ⟨htb, hcause, hheld⟩ := (s.cleared false).testHeld_shows
  rw [s.testReset_eq, htb, hcause, hheld, s.cleared_tb, s.cleared_rstCause, s.cleared_power]
  exact ⟨rfl, rfl, Bool.false_or _⟩

/-- ERR_N is low in reset once the AON island runs (R80). -/
theorem State.aonStart_eq (s : State) (ha : s.power.aonRuns = false) (hr : bitAt (s.rn SYS_RAIL_STAT) 6 = true) :
    s.aonStart = { s.powerReset with power := { s.powerReset.power with aonRuns := true } }.setB FLT_STAT_ERR_N_LOW true := by
  have hstage : s.powerReset.rd SYS_BOOT_STAT = resetOf SYS_BOOT_STAT := s.reset_powerReset.regs _ (by decide) (by decide) List.not_mem_nil
  have hfirm : s.powerReset.firmware = false := by
    rw [State.firmware, State.f, show SYS_BOOT_STAT_STAGE.addr = SYS_BOOT_STAT from rfl, hstage]
    decide
  have hfirm' : ({ s.powerReset with power := { s.powerReset.power with aonRuns := true } } : State).firmware = false := hfirm
  rw [State.aonStart, if_pos (by simp [ha, hr])]
  simp only [State.errDrive, hfirm', Bool.not_false, Bool.true_or, Bool.and_self]

theorem State.reset_aonStart (s : State) (ha : s.power.aonRuns = false) (hr : bitAt (s.rn SYS_RAIL_STAT) 6 = true) :
    s.Reset s.aonStart [] ∧ s.aonStart.power.aonRuns = true := by
  rw [s.aonStart_eq ha hr]
  exact ⟨s.reset_powerReset.aonRuns, rfl⟩

/-- What a reset leaves, in the terms of O21. -/
theorem State.Reset.shows {s t : State} {keep : List Nat} (h : s.Reset t keep) :
    t.mem = [] ∧ t.engines = [] ∧ t.items = [] ∧ t.jobs = [] ∧ t.lanes = [] ∧ t.asleep = true ∧ t.geode.kek = s.geode.kek ∧
      t.geode.next = s.geode.next ∧ t.ledger = { keyDue := s.ledger.keyDue } ∧ (s.sec.fprog = [] → t.fuses = s.fuses) ∧
      t.rd SYS_RAIL_STAT = s.rd SYS_RAIL_STAT ∧ t.errPin = t.power.aonRuns ∧
      (∀ a, a ≠ SYS_RAIL_STAT → a ≠ FLT_STAT → a ∉ keep → t.rd a = resetOf a) ∧ (t.power.aonRuns = true → ∀ p, t.pin p = p.reset) :=
  ⟨h.mem, h.engines, h.items, h.jobs, h.lanes, h.asleep, h.kek, h.next, h.ledger, h.fuses, h.rails, h.errN, h.regs, h.pin⟩

/-- What a warm reset with a cause shows of SYS_RST_CAUSE. -/
theorem State.warmOf_shows (s : State) (cause : Nat) (hc : cause < 24) :
    (s.warmOf cause).tb = s.tb ∧ (s.warmOf cause).f SYS_RST_CAUSE_SEQ = (s.f SYS_RST_CAUSE_SEQ + 1) % 256 ∧
      (s.warmOf cause).b SYS_RST_CAUSE_PIN = (s.b SYS_RST_CAUSE_PIN || decide (1 = cause)) ∧
      (s.warmOf cause).b SYS_RST_CAUSE_SOFT = (s.b SYS_RST_CAUSE_SOFT || decide (2 = cause)) ∧
      (s.warmOf cause).b SYS_RST_CAUSE_ITEMS_OPEN = (s.b SYS_RST_CAUSE_ITEMS_OPEN || decide (8 = cause) || s.itemsOpen) := by
  have h1 := s.warmOf_bit cause 1 hc (by decide)
  have h2 := s.warmOf_bit cause 2 hc (by decide)
  have h8 := s.warmOf_bit cause 8 hc (by decide)
  simp only [decide_true, Bool.true_and, Bool.false_and, Bool.or_false, show decide (1 = 8) = false from rfl,
    show decide (2 = 8) = false from rfl] at h1 h2 h8
  exact ⟨s.cleared_tb false, s.warmOf_seq cause, h1, h2, h8⟩

theorem State.resetNLow_tb (t : State) : t.resetNLow.tb = t.tb := rfl
theorem State.resetNLow_f (t : State) (x : Field) : t.resetNLow.f x = t.f x := rfl
theorem State.resetNLow_b (t : State) (x : Field) : t.resetNLow.b x = t.b x := rfl

theorem State.pinReset_eq (s : State) (h : s.power.resetLow = false) : s.pinReset = (s.warmOf 1).resetNLow := by
  rw [State.pinReset, s.warmReset_eq 1 h]

theorem State.pinReset_shows (s : State) (h : s.power.resetLow = false) :
    s.pinReset.tb = s.tb ∧ s.pinReset.f SYS_RST_CAUSE_SEQ = (s.f SYS_RST_CAUSE_SEQ + 1) % 256 ∧
      s.pinReset.b SYS_RST_CAUSE_PIN = (s.b SYS_RST_CAUSE_PIN || true) ∧ s.pinReset.b SYS_RST_CAUSE_SOFT = (s.b SYS_RST_CAUSE_SOFT || false) ∧
      s.pinReset.b SYS_RST_CAUSE_ITEMS_OPEN = (s.b SYS_RST_CAUSE_ITEMS_OPEN || s.itemsOpen) := by
  rw [s.pinReset_eq h, State.resetNLow_tb, State.resetNLow_f, State.resetNLow_b, State.resetNLow_b, State.resetNLow_b]
  simpa using s.warmOf_shows 1 (by decide)

theorem State.reset_pinReset (s : State) (h : s.power.resetLow = false) : s.Reset s.pinReset [SYS_RST_CAUSE] := by
  rw [s.pinReset_eq h]
  exact State.reset_resetNLow (s.reset_warmOf 1)

theorem State.warmOf_soft (s : State) :
    (s.warmOf 2).tb = s.tb ∧ (s.warmOf 2).f SYS_RST_CAUSE_SEQ = (s.f SYS_RST_CAUSE_SEQ + 1) % 256 ∧
      (s.warmOf 2).b SYS_RST_CAUSE_PIN = (s.b SYS_RST_CAUSE_PIN || false) ∧
      (s.warmOf 2).b SYS_RST_CAUSE_SOFT = (s.b SYS_RST_CAUSE_SOFT || true) ∧
      (s.warmOf 2).b SYS_RST_CAUSE_ITEMS_OPEN = (s.b SYS_RST_CAUSE_ITEMS_OPEN || s.itemsOpen) := by
  simpa using s.warmOf_shows 2 (by decide)

/-- A granted SOFT_RESET is a warm reset, after the unlock is used up. -/
theorem State.busField_softReset (s : State) (req : Req) (hg : s.granted req SYS_RST_CTRL) :
    ∃ l, s.begin.busField req SYS_RST_CTRL_SOFT_RESET 1 = (s.begin.withUnlocks l).warmOf 2 := by
  have hlow : s.power.resetLow = false := by
    have hup := hg.1
    simp only [State.busUp, Bool.and_eq_true, Bool.not_eq_true'] at hup
    exact hup.1.1.1.1
  obtain ⟨l, w, hl, hw⟩ := s.busField_guardedBit req SYS_RST_CTRL_SOFT_RESET 1 ⟨rfl, rfl⟩ guardedBit_rstCtrl hg
  have hhook : (s.begin.withUnlocks l).hook (requester req) SYS_RST_CTRL_SOFT_RESET.addr w = (s.begin.withUnlocks l).warmReset 2 := if_pos hw
  exact ⟨l, (hl.trans hhook).trans ((s.begin.withUnlocks l).warmReset_eq 2 hlow)⟩

/-! What the release of reset leaves as it is -/

/-- A part of the state that the release of reset does not reach after the straps and debug: it writes registers other than SYS_BOOT_STAT and
DBG_STAT, raises sources, sends, draws, stamps the channels and changes the vault. -/
structure State.WakeApart {α : Type} (π : State → α) : Prop where
  wr : ∀ (s : State) a v, a ≠ SYS_BOOT_STAT → a ≠ DBG_STAT → π (s.wr a v) = π s
  raise : ∀ (s : State) src info, π (s.raise src info) = π s
  geode : ∀ (s : State) g, π { s with geode := g } = π s
  out : ∀ (s : State) o w t, π { s with out := o, wire := w, lineTx := t } = π s
  free : ∀ (s : State) o, π { s with free := o } = π s
  channels : ∀ (s : State) o, π { s with channels := o } = π s

theorem State.putBytes_keeps {α : Type} (π : State → α) (a : Nat) (bs : List Byte)
    (hw : ∀ (s : State) i v, i < (bs.length + 3) / 4 → π (s.wr (a + 4 * i) v) = π s) (s : State) : π (s.putBytes a bs) = π s :=
  State.foldl_keeps π _ _ (fun s i hi => hw s i _ (List.mem_range.1 hi)) s

/-- The Geode's view is in the registers of the SECURITY block alone. -/
theorem State.showGeode_keeps {α : Type} (π : State → α) (hw : ∀ (s : State) a v, 0xE2000 ≤ a → a < 0xE3000 → π (s.wr a v) = π s)
    (s : State) : π s.showGeode = π s := by
  have hset : ∀ (s : State) (x : Field) v, (0xE2000 ≤ x.addr ∧ x.addr < 0xE3000) → π (s.setF x v) = π s := fun s x v hx =>
    hw s _ _ hx.1 hx.2
  have hent : ∀ (s : State), ∀ e ∈ List.range 8, ∀ v, π (s.wr64 (GEO_LOGENT (2 * e)) v) = π s := by
    intro s e he v
    have he := List.mem_range.1 he
    have hlo : 0xE2000 ≤ GEO_LOGENT (2 * e) ∧ GEO_LOGENT (2 * e) + 4 < 0xE3000 := by simp only [GEO_LOGENT]; omega
    exact (hw _ _ _ (by omega) (by omega)).trans (hw _ _ _ (by omega) (by omega))
  simp only [State.showGeode, State.setB]
  rw [State.forEach_keeps π _ _ fun s e he => hent s e he _, hset _ _ _ (by decide), hset _ _ _ (by decide), hset _ _ _ (by decide),
    hset _ _ _ (by decide), hset _ _ _ (by decide), hset _ _ _ (by decide), hset _ _ _ (by decide)]

/-- A condition that a LEVEL source follows is in the FAULT block and what a latch reaches. -/
theorem State.liveFollows_keeps {α : Type} (π : State → α) (src : Nat)
    (hw : ∀ (s : State) a v, a = FLT_SRC src ∨ a = FLT_LIVE_SUM (src / 32) → π (s.wr a v) = π s)
    (hr : ∀ s : State, π (s.raise src 0) = π s) (s : State) (on : Bool) : π (s.liveFollows src on) = π s := by
  rw [State.liveFollows]
  split
  · rfl
  · split
    · exact State.raiseLive_keeps π src 0 hw hr s
    · exact State.setLive_keeps π src hw s false

namespace State.WakeApart
variable {α : Type} {π : State → α} (h : State.WakeApart π)
include h

theorem live (s : State) (src : Nat) (a : Nat) (v : Word) (ha : a = FLT_SRC src ∨ a = FLT_LIVE_SUM (src / 32)) (hs : src < 128) :
    π (s.wr a v) = π s := by
  simp only [FLT_SRC, FLT_LIVE_SUM] at ha
  exact h.wr s a v (by simp only [SYS_BOOT_STAT]; omega) (by simp only [DBG_STAT]; omega)

theorem liveFollows (s : State) (src : Nat) (on : Bool) (hs : src < 128) : π (s.liveFollows src on) = π s :=
  State.liveFollows_keeps π src (fun s a v ha => h.live s src a v ha hs) (fun s => h.raise s src 0) s on

theorem raiseLive (s : State) (src info : Nat) (hs : src < 128) : π (s.raiseLive src info) = π s :=
  State.raiseLive_keeps π src info (fun s a v ha => h.live s src a v ha hs) (fun s => h.raise s src info) s

theorem vaultWake (s : State) : π s.vaultWake = π s := by
  refine (State.forEach_keeps π _ _ (fun s src _ => ?_) _).trans (h.geode s _)
  split
  · exact h.raiseLive s _ _ (by decide)
  · exact h.raise s _ _

theorem collectorWake (s : State) : π s.collectorWake = π s := by
  have hwake : ∀ s : State, π (((s.liveFollows 0 (s.rn SYS_RAIL_STAT % 256 ≠ 255)).liveFollows 5
      (s.liveFollows 0 (s.rn SYS_RAIL_STAT % 256 ≠ 255)).power.clockOut).vaultWake) = π s := fun s => by
    rw [h.vaultWake, h.liveFollows _ _ _ (by decide), h.liveFollows _ _ _ (by decide)]
  simp only [State.collectorWake]
  split
  · exact (State.when_keeps π _ _ (fun s => h.liveFollows s _ _ (by decide)) _).trans (hwake s)
  · exact (h.liveFollows _ _ _ (by decide)).trans (hwake s)

theorem newNonce (s : State) : π s.newNonce = π s := by
  have hlen : (freeBytes s.free 32).length ≤ 32 := by simp only [freeBytes, List.length_take]; omega
  refine (State.putBytes_keeps π (SEC_TOK_NONCE 0) (freeBytes s.free 32) (fun u i v hi => ?_) _).trans (h.free s _)
  exact h.wr u _ v (by simp only [SEC_TOK_NONCE, SYS_BOOT_STAT]; omega) (by simp only [SEC_TOK_NONCE, DBG_STAT]; omega)

theorem emit (s : State) (o : Out) : π (s.emit o) = π s := State.emit_keeps π h.out s o

theorem errDrive (s : State) : π s.errDrive = π s := h.wr s _ _ (by decide) (by decide)

end State.WakeApart

theorem State.wakeApart_tb : State.WakeApart State.tb := by
  constructor
  case raise => exact State.raise_tb
  all_goals intros; rfl

theorem State.wakeApart_power : State.WakeApart State.power := by
  constructor
  case raise => exact State.raise_power
  all_goals intros; rfl

theorem State.apart_boot : State.Apart (fun _ => True) State.boot := by constructor <;> intros <;> rfl

theorem State.wakeApart_boot : State.WakeApart State.boot := by
  constructor
  case raise =>
    exact fun s src info => State.raise_keeps State.boot s src info <|
      State.apart_boot.raiseWith_keeps .all s false src info (fun _ _ _ => rfl) fun _ _ => trivial
  all_goals intros; rfl

theorem State.wakeApart_rd (b : Nat) (hb : b = SYS_BOOT_STAT ∨ b = DBG_STAT) : State.WakeApart fun s => s.rd b := by
  constructor
  case wr => exact fun s a v h1 h2 => State.rd_wr_ne _ _ _ _ (by rcases hb with rfl | rfl <;> assumption)
  case raise => exact fun s src info => State.raise_rd s src info b (by rcases hb with rfl | rfl <;> rfl)
  all_goals intros; rfl

/-! The release of reset (R49, R82) -/

/-- The part as what held it in reset has ended. -/
def State.freed (s : State) : State :=
  { s with power := { s.power with resetLow := false, testEn := false, porHeld := false }, boot := { started := true } }

/-- The part with its straps sampled, its link training where PERST_N is high. -/
def State.strapped (s : State) (sel : Nat) (twin : Bool) : State :=
  (s.sampleStraps sel twin).when (!s.power.perstLow) (·.emit (.link false))

/-- The part as it comes out of reset, its straps sampled and debug as it starts. -/
def State.restarted (s : State) (sel : Nat) (twin : Bool) : State :=
  (s.freed.strapped sel twin).setB DBG_STAT_UNLOCKED (!(s.freed.strapped sel twin).fuses.regulated)

/-- What the Geode, the collector and the pins show once the part has restarted. -/
def State.shown (s : State) : State :=
  let s := s.newNonce
  let s := s.forEach (List.range 12) fun s c => s.modChan c fun x => { x with stamp := s.tb }
  s.showGeode.collectorWake.errDrive

theorem State.resetRelease_eq (s : State) (sel : Fin 4) (twin : Bool) (ha : s.power.aonRuns = true)
    (hr : s.power.resetLow = true ∨ s.boot.started = false) : s.resetRelease sel twin = (s.restarted sel twin).shown := by
  rw [State.resetRelease, if_pos (by rcases hr with h | h <;> simp [ha, h])]
  rfl

theorem State.WakeApart.shown {α : Type} {π : State → α} (h : State.WakeApart π) (s : State) : π s.shown = π s := by
  have hstamp : ∀ s : State, π (s.forEach (List.range 12) fun s c => s.modChan c fun x => { x with stamp := s.tb }) = π s := fun s =>
    State.forEach_keeps π _ _ (fun s _ _ => h.channels s _) s
  have hgeo : ∀ s : State, π s.showGeode = π s := State.showGeode_keeps π fun s a v h1 h2 =>
    h.wr s a v (by simp only [SYS_BOOT_STAT]; omega) (by simp only [DBG_STAT]; omega)
  simp only [State.shown]
  rw [h.errDrive, h.collectorWake, hgeo, hstamp, h.newNonce]

section
variable (s : State) (sel : Nat) (twin : Bool)

/-- The straps, sampled or as they were (R49). -/
def Power.straps (p : Power) (sel : Nat) (twin : Bool) : Nat × Bool := if p.strapsDue then (sel, twin) else (p.bootSel, p.twinSel)

theorem State.strapped_keeps {α : Type} (π : State → α) (hout : ∀ (s : State) o w t, π { s with out := o, wire := w, lineTx := t } = π s) :
    π (s.strapped sel twin) = π (s.sampleStraps sel twin) :=
  State.when_keeps π _ _ (fun s => State.emit_keeps π hout s _) _

/-- The restart sends the link's training, which reaches neither registers nor supplies, and locks or unlocks debug. -/
theorem State.restarted_keeps {α : Type} (π : State → α) (hout : ∀ (s : State) o w t, π { s with out := o, wire := w, lineTx := t } = π s)
    (hdbg : ∀ (s : State) v, π (s.wr DBG_STAT v) = π s) : π (s.restarted sel twin) =
      π (s.freed.sampleStraps sel twin) :=
  (hdbg _ _).trans (s.freed.strapped_keeps sel twin π hout)

theorem State.sampleStraps_bootSel : (s.sampleStraps sel twin).f SYS_BOOT_STAT_BOOT_SEL = (s.power.straps sel twin).1 % 4 := by
  simp only [State.sampleStraps, State.setB, Power.straps]
  rw [State.f_setF_apart _ _ _ _ (by decide) (by decide) (by decide), State.f_setF_same _ _ _ (by decide) (by decide)]
  split <;> rfl

theorem State.sampleStraps_twinSel : (s.sampleStraps sel twin).b SYS_BOOT_STAT_TWIN_SEL = (s.power.straps sel twin).2 := by
  simp only [State.sampleStraps, Power.straps]
  rw [State.b_setB_same _ _ _ rfl (by decide)]
  split <;> rfl

theorem State.sampleStraps_keeps {α : Type} (π : State → α) (hw : ∀ (s : State) a v, π (s.wr a v) = π s)
    (hp : ∀ (s : State) p, π { s with power := p } = π s) : π (s.sampleStraps sel twin) = π s :=
  (hw _ _ _).trans ((hw _ _ _).trans (hp s _))

theorem State.restarted_unlocked : (s.restarted sel twin).b DBG_STAT_UNLOCKED = !s.fuses.regulated := by
  have hfuses : (s.freed.strapped sel twin).fuses = s.fuses :=
    (s.freed.strapped_keeps sel twin State.fuses fun _ _ _ _ => rfl).trans
      (s.freed.sampleStraps_keeps sel twin State.fuses (fun _ _ _ => rfl) fun _ _ => rfl)
  rw [State.restarted, State.b_setB_same _ _ _ rfl (by decide), hfuses]

theorem State.sampleStraps_power : (s.sampleStraps sel twin).power =
    if s.power.strapsDue then { s.power with bootSel := sel, twinSel := twin, strapsDue := false } else s.power := rfl

/-- What the release of reset shows in a part that it does not reach after the straps. -/
theorem State.WakeApart.release {α : Type} {π : State → α} (h : State.WakeApart π) (hdbg : ∀ (s : State) v, π (s.wr DBG_STAT v) = π s) :
    π (s.restarted sel twin).shown = π (s.freed.sampleStraps sel twin) :=
  (h.shown _).trans (s.restarted_keeps sel twin π h.out hdbg)

theorem State.release_power : (s.restarted sel twin).shown.power.resetLow = false ∧ (s.restarted sel twin).shown.power.testEn = false := by
  have hlow : s.freed.power.resetLow = false ∧ s.freed.power.testEn = false := ⟨rfl, rfl⟩
  rw [State.wakeApart_power.release s sel twin fun _ _ => rfl, State.sampleStraps_power]
  split
  · exact hlow
  · exact hlow

theorem State.release_boot : (s.restarted sel twin).shown.boot = { started := true } := by
  rw [State.wakeApart_boot.release s sel twin fun _ _ => rfl, State.sampleStraps_keeps _ sel twin State.boot (fun _ _ _ => rfl) fun _ _ => rfl]
  rfl

theorem State.release_tb : (s.restarted sel twin).shown.tb = s.tb := by
  rw [State.wakeApart_tb.release s sel twin fun _ _ => rfl, State.sampleStraps_keeps _ sel twin State.tb (fun _ _ _ => rfl) fun _ _ => rfl]
  rfl

theorem State.release_straps : (s.restarted sel twin).shown.f SYS_BOOT_STAT_BOOT_SEL = (s.power.straps sel twin).1 % 4 ∧
    (s.restarted sel twin).shown.b SYS_BOOT_STAT_TWIN_SEL = (s.power.straps sel twin).2 := by
  have hboot := (State.wakeApart_rd SYS_BOOT_STAT (.inl rfl)).release s sel twin fun s v => State.rd_wr_ne _ _ _ _ (by decide)
  have hstraps : s.freed.power.straps sel twin = s.power.straps sel twin := rfl
  rw [State.f_congr SYS_BOOT_STAT_BOOT_SEL hboot, State.b_congr SYS_BOOT_STAT_TWIN_SEL hboot, State.sampleStraps_bootSel,
    State.sampleStraps_twinSel, hstraps]
  exact ⟨rfl, rfl⟩

theorem State.release_unlocked : (s.restarted sel twin).shown.b DBG_STAT_UNLOCKED = !s.fuses.regulated := by
  rw [State.b_congr DBG_STAT_UNLOCKED ((State.wakeApart_rd DBG_STAT (.inr rfl)).shown _), State.restarted_unlocked]

end

end Sys2Proof.Machine

open Sys2Proof Sys2Proof.Machine
open Sys2Proof.Machine.Reg Sys2Proof.Machine.Fld

/-- Settles O21: every reset leaves the state as at power-up but for what it keeps, a warm one records its causes as one event, and the release of
reset reaches neither the straps' register nor DBG_STAT after they are set. -/
theorem resetCommands : Obligations.ResetCommands := by
  unfold Obligations.ResetCommands
  intro req sel twin s
  dsimp only
  refine ⟨?_, fun hl => ?_, fun hg => ?_, ?_, fun ha hr => ?_, fun ha hr => ?_⟩
  · exact ⟨_, rfl, s.begin.reset_powerReset.shows, s.begin.powerReset_tb, s.begin.powerReset_porHeld⟩
  · exact ⟨_, rfl, (s.begin.reset_pinReset hl).shows, s.begin.pinReset_shows hl⟩
  · obtain ⟨l, he⟩ := s.busField_softReset req hg
    exact ⟨_, congrArg Host.Outcome.next he, ((s.begin.withUnlocks l).reset_warmOf 2).shows, (s.begin.withUnlocks l).warmOf_soft⟩
  · exact ⟨_, rfl, s.begin.reset_testReset.shows, s.begin.testReset_shows⟩
  · have he : exec (.resetRelease sel twin) s = .next (s.begin.restarted sel twin).shown :=
      congrArg Host.Outcome.next (s.begin.resetRelease_eq sel twin ha hr)
    obtain ⟨hsel, htwin⟩ := s.begin.release_straps sel twin
    obtain ⟨hlow, htest⟩ := s.begin.release_power sel twin
    refine ⟨_, he, hlow, htest, s.begin.release_boot sel twin, fun hd => ?_, fun hd => ?_, s.begin.release_tb sel twin,
      s.begin.release_unlocked sel twin⟩
    · rw [hsel, htwin, Power.straps, if_pos (show s.begin.power.strapsDue = true from hd)]
      exact ⟨Nat.mod_eq_of_lt sel.isLt, rfl⟩
    · rw [hsel, htwin, Power.straps, if_neg (by rw [show s.begin.power.strapsDue = false from hd]; decide)]
      exact ⟨rfl, rfl⟩
  · obtain ⟨hreset, hruns⟩ := s.begin.reset_aonStart ha hr
    exact ⟨_, rfl, hruns, hreset.shows⟩
end

section
/-!
PROOFS. Supply.lean (O22): what the Geode shows, what an event of a class B or C monitor leaves as it is, and rails, clocks and the vault's supply.
-/

namespace Sys2Proof.Machine
open Reg Fld

/-! What the Geode shows (R654) -/

theorem State.showGeode_geode (s : State) : s.showGeode.geode = s.geode := State.showGeode_keeps State.geode (fun _ _ _ _ _ => rfl) s

/-- The log's entries are in registers of their own. -/
theorem State.logEntries_rd (s : State) (g : Nat → Nat) (b : Nat) (hb : b < 0xE2020) :
    (s.forEach (List.range 8) fun s e => s.wr64 (GEO_LOGENT (2 * e)) (g e)).rd b = s.rd b :=
  State.forEach_keeps (·.rd b) _ _ (fun s e _ => (State.rd_wr_ne _ _ _ _ (by simp only [GEO_LOGENT]; omega)).trans
    (State.rd_wr_ne _ _ _ _ (by simp only [GEO_LOGENT]; omega))) s

/-- GEO_STAT and GEO_MON as they follow the Geode. -/
def State.geoStat (s : State) : State :=
  (((s.setB GEO_STAT_KEK_VALID s.geode.kek.isSome).setB GEO_STAT_REG_LOCK s.geode.regLock).setB GEO_STAT_VAULT_LOST s.geode.lost).setB
    GEO_STAT_ON_VBAT s.geode.onVbat

theorem State.showGeode_stat (s : State) : s.showGeode.rd GEO_STAT = s.geoStat.rd GEO_STAT := by
  rw [State.showGeode, State.logEntries_rd _ _ _ (by decide), State.rd_setF_other _ _ _ _ (by decide), State.rd_setF_other _ _ _ _ (by decide),
    State.rd_setF_other _ _ _ _ (by decide)]
  rfl

theorem State.showGeode_kekValid (s : State) : s.showGeode.b GEO_STAT_KEK_VALID = s.geode.kek.isSome := by
  rw [State.b_congr GEO_STAT_KEK_VALID s.showGeode_stat, State.geoStat, State.b_setB_apart _ _ _ _ (by decide) (by decide) (by decide),
    State.b_setB_apart _ _ _ _ (by decide) (by decide) (by decide), State.b_setB_apart _ _ _ _ (by decide) (by decide) (by decide),
    State.b_setB_same _ _ _ rfl (by decide)]

theorem State.showGeode_vaultLost (s : State) : s.showGeode.b GEO_STAT_VAULT_LOST = s.geode.lost := by
  rw [State.b_congr GEO_STAT_VAULT_LOST s.showGeode_stat, State.geoStat, State.b_setB_apart _ _ _ _ (by decide) (by decide) (by decide),
    State.b_setB_same _ _ _ rfl (by decide)]

theorem State.showGeode_onVbat (s : State) : s.showGeode.b GEO_STAT_ON_VBAT = s.geode.onVbat := by
  rw [State.b_congr GEO_STAT_ON_VBAT s.showGeode_stat, State.geoStat, State.b_setB_same _ _ _ rfl (by decide)]

theorem State.showGeode_active (s : State) : s.showGeode.f GEO_MON_ACTIVE = s.geode.active.toNat := by
  rw [State.showGeode, State.f, State.logEntries_rd _ _ _ (by decide), State.rd_setF_other _ _ _ _ (by decide),
    State.rd_setF_other _ _ _ _ (by decide), ← State.f, State.f_setF_same _ _ _ (by decide) (by decide)]
  exact Nat.mod_eq_of_lt s.geode.active.isLt

theorem State.setActive_shown (s : State) (m : Nat) (hm : m < 12) : bitAt (s.setActive m true).geode.active.toNat m = true := by
  rw [bitAt_eq, BitVec.testBit_toNat]
  simp [State.setActive, hm]

/-! Events of class B and C monitors (R655, R656) -/

/-- A part of the state that an event of a class B or C monitor does not reach: it writes registers of the SECURITY block, raises sources 97 to 99
and changes the ledger and, but for the active monitors and the supply, the vault. -/
structure State.VaultApart {α : Type} (π : State → α) : Prop where
  wr : ∀ (s : State) a v, 0xE0000 ≤ a → a < 0xF0000 → π (s.wr a v) = π s
  raise : ∀ (s : State) src info, 97 ≤ src → src < 100 → π (s.raise src info) = π s
  vault : ∀ (s : State) g l, g.active = s.geode.active → g.onVbat = s.geode.onVbat → π { s with geode := g, ledger := l } = π s

namespace State.VaultApart
variable {α : Type} {π : State → α} (h : State.VaultApart π)
include h

theorem showGeode (s : State) : π s.showGeode = π s :=
  State.showGeode_keeps π (fun s a v h1 h2 => h.wr s a v (by omega) (by omega)) s

theorem vaultFault (s : State) (src : Nat) (h1 : 97 ≤ src) (h2 : src < 100) : π (s.vaultFault src) = π s := by
  rw [State.vaultFault]
  split
  · exact h.vault s _ s.ledger rfl rfl
  · rw [if_neg (by omega)]
    exact h.raise s src 0 h1 h2

theorem erase (s : State) : π s.erase = π s := by
  have hpub : ∀ s : State, π (s.putBytes (LG_DEVPUB 0) (zeros 100)) = π s := State.putBytes_keeps π _ _ fun s i v hi => by
    have hi : i < 25 := hi
    exact h.wr s _ v (by simp only [LG_DEVPUB]; omega) (by simp only [LG_DEVPUB]; omega)
  rw [State.erase, h.vaultFault _ 99 (by decide) (by decide), hpub]
  exact (h.wr _ _ _ (by decide) (by decide)).trans (h.vault s _ s.ledger rfl rfl)

theorem tamperLog (s : State) (m acts : Nat) : π (s.tamperLog m acts) = π s := by
  simp only [State.tamperLog, List.splitAt_eq]
  exact (State.when_keeps π _ _ (fun s => h.vault s s.geode _ rfl rfl) _).trans (h.vault s _ _ rfl rfl)

/-- The actions of an event, before the Geode shows them. -/
theorem tamperActions (s : State) (m acts : Nat) (hm : 8 ≤ m) :
    π (((((s.when (bitAt acts 0) State.erase).when (bitAt acts 1) (·.tamperLog m acts)).when (bitAt acts 2)
      fun s => { s with geode := { s.geode with regLock := true } }).when (bitAt acts 3) (·.vaultFault (96 + tamperClass m)))) = π s := by
  have hc : 1 ≤ tamperClass m ∧ tamperClass m < 3 := by
    simp only [tamperClass]
    split
    · omega
    · split <;> omega
  refine (State.when_keeps π _ _ (fun s => h.vaultFault s _ (by omega) (by omega)) _).trans ?_
  refine (State.when_keeps π _ _ (fun s => h.vault s { s.geode with regLock := true } s.ledger rfl rfl) _).trans ?_
  exact (State.when_keeps π _ _ (fun s => h.tamperLog s m acts) _).trans (State.when_keeps π _ _ (fun s => h.erase s) s)

end State.VaultApart

/-- An event of a class B or C monitor, as the actions and then what the Geode shows. -/
theorem State.tamperEvent_eq (s : State) (m : Nat) (hm : 8 ≤ m) : ∃ u : State, s.tamperEvent m = u.showGeode ∧
    ∀ {α : Type} {π : State → α}, State.VaultApart π → π u = π s := by
  have h6 : decide (m < 6) = false := decide_eq_false (by omega)
  have hc : decide (tamperClass m = 0) = false := decide_eq_false (by
    simp only [tamperClass, show ¬ m < 8 by omega, if_false]
    split <;> omega)
  refine ⟨_, ?_, fun h => h.tamperActions s m (s.tamperActions (tamperClass m)) hm⟩
  simp only [State.tamperEvent, h6, hc, Bool.false_and, State.when_false, Bool.false_eq_true, if_false]

theorem State.VaultApart.tamperEvent {α : Type} {π : State → α} (h : State.VaultApart π) (s : State) (m : Nat) (hm : 8 ≤ m) :
    π (s.tamperEvent m) = π s := by
  obtain ⟨u, he, hu⟩ := s.tamperEvent_eq m hm
  rw [he, h.showGeode, hu h]

/-! Parts that those events do not reach -/

theorem State.apart_geode : State.Apart (fun _ => True) State.geode := by constructor <;> intros <;> rfl

theorem State.raise_geode (s : State) (src info : Nat) : (s.raise src info).geode = s.geode :=
  State.raise_keeps _ s src info <| State.apart_geode.raiseWith_keeps .all s false src info (fun _ _ _ => rfl) fun _ _ => trivial

theorem State.vaultApart_mem : State.VaultApart State.mem := by
  constructor
  case raise => exact fun s src info _ _ => s.raise_mem src info
  all_goals intros; rfl

theorem State.vaultApart_power : State.VaultApart State.power := by
  constructor
  case raise => exact fun s src info _ _ => s.raise_power src info
  all_goals intros; rfl

/-- The active monitors and the supply of the vault. -/
def Geode.held (g : Geode) : BitVec 12 × Bool := (g.active, g.onVbat)

theorem State.vaultApart_held : State.VaultApart fun s => s.geode.held := by
  constructor
  case raise => exact fun s src info _ _ => congrArg Geode.held (s.raise_geode src info)
  case vault => exact fun s g l ha hv => by simp only [Geode.held, ha, hv]
  all_goals intros; rfl

theorem State.vaultApart_rd (b : Nat) (hr : raiseReach b = false) (hb : b < 0xE0000 ∨ 0xF0000 ≤ b) : State.VaultApart fun s => s.rd b := by
  constructor
  case wr => exact fun s a v h1 h2 => State.rd_wr_ne _ _ _ _ (by omega)
  case raise => exact fun s src info _ _ => s.raise_rd src info b hr
  all_goals intros; rfl

/-- A source other than those of the vault keeps its own register. -/
theorem State.vaultApart_src (src : Nat) (hs : src < 97) : State.VaultApart fun s => s.rd (FLT_SRC src) := by
  constructor
  case wr => exact fun s a v h1 h2 => State.rd_wr_ne _ _ _ _ (by simp only [FLT_SRC]; omega)
  case raise =>
    refine fun s k info h1 h2 => State.raise_keeps (·.rd (FLT_SRC src)) s k info ?_
    refine (State.apart_rd (FLT_SRC src)).raiseWith_keeps (srcWrites _ (by simp only [FLT_SRC]; omega)) s false k info (fun _ _ _ => rfl)
      fun b hb => ?_
    simp only [FLT_SRC, FLT_LATCH_SUM, FLT_INFO, FLT_CNT] at hb ⊢
    omega
  all_goals intros; rfl

theorem State.tamperEvent_active (s : State) (m : Nat) (hm : 8 ≤ m) : (s.tamperEvent m).f GEO_MON_ACTIVE = s.geode.active.toNat := by
  obtain ⟨u, he, hu⟩ := s.tamperEvent_eq m hm
  rw [he, u.showGeode_active]
  exact congrArg (fun x : BitVec 12 × Bool => x.1.toNat) (hu State.vaultApart_held)

/-- A monitor that becomes active shows in GEO_MON after its event. -/
theorem State.tamperEvent_setActive (s : State) (m : Nat) (h8 : 8 ≤ m) (h12 : m < 12) :
    bitAt (((s.setActive m true).tamperEvent m).f GEO_MON_ACTIVE) m = true := by
  rw [State.tamperEvent_active _ m h8]
  exact s.setActive_shown m h12

/-! LIVE of a source (R630) -/

section
variable (s : State) (src : Nat) (hs : src < 128)
include hs

theorem FLT_LIVE_SUM_ne (k : Nat) (hk : k < 4) : FLT_LIVE_SUM k ≠ FLT_SRC src := by
  simp only [FLT_LIVE_SUM, FLT_SRC]
  omega

theorem State.setLive_live (on : Bool) : (s.setLive src on).b (FLT_SRC_LIVE src) = on := by
  have hsum : FLT_LIVE_SUM (src / 32) ≠ FLT_SRC src := FLT_LIVE_SUM_ne src hs _ (by omega)
  have hset := s.b_setB_same (FLT_SRC_LIVE src) on rfl (show 3 < 32 by decide)
  have hkept : ∀ v, ((s.setB (FLT_SRC_LIVE src) on).wr (FLT_LIVE_SUM (src / 32)) v).b (FLT_SRC_LIVE src) = on := fun v =>
    (State.b_congr (FLT_SRC_LIVE src) (State.rd_wr_ne _ _ _ v hsum)).trans hset
  simp only [State.setLive]
  split
  · rw [State.b, State.f, State.ev, show (FLT_SRC_LIVE src).addr = (FLT_SRC_TRANSIENT src).addr from rfl, State.rd_wr_same]
    refine (bits_one _ 3).trans ((testBit_sqEvent _ _ (show ∀ m ∈ [1], m < 24 by decide) 3 (by decide)).trans ?_)
    exact (bits_one _ 3).symm.trans (hkept _)
  · exact hkept _

theorem State.raiseWith_src (inj : Bool) (info : Nat) (hd : sourceDefined src = true) :
    (s.raiseWith inj src info).rd (FLT_SRC src) = latchWord (s.rd (FLT_SRC src)) inj (s.severity src) := by
  have hsum : FLT_LATCH_SUM (src / 32) ≠ FLT_SRC src := by simp only [FLT_LATCH_SUM, FLT_SRC]; omega
  have hinfo : FLT_INFO src ≠ FLT_SRC src := by simp only [FLT_INFO, FLT_SRC]; omega
  have hcnt : FLT_CNT src ≠ FLT_SRC src := by simp only [FLT_CNT, FLT_SRC]; omega
  rw [State.raiseWith_own s inj src info _ hd (by simp only [FLT_SRC]; omega)]
  exact (State.rd_chain _ _ _ _ _ _ _ _ hsum hinfo hcnt).trans (s.latchSrc_rd inj src _)

/-- A latch leaves LIVE as it is. -/
theorem State.raiseWith_live (inj : Bool) (info : Nat) (hd : sourceDefined src = true) :
    (s.raiseWith inj src info).b (FLT_SRC_LIVE src) = s.b (FLT_SRC_LIVE src) := by
  have hbit : ∀ w : Word, ∀ sev, (latchWord w inj sev).toNat.testBit 3 = w.toNat.testBit 3 := fun w sev => by
    rw [latchWord, testBit_putBits _ _ _ _ _ (by omega), testBit_sqEvent _ _ (by cases inj <;> decide) _ (by decide)]
    cases inj <;> rfl
  rw [State.b, State.f, show (FLT_SRC_LIVE src).addr = FLT_SRC src from rfl, s.raiseWith_src src hs inj info hd]
  exact (bits_one _ 3).trans ((hbit _ _).trans (bits_one _ 3).symm)

theorem State.raiseLive_eq (info : Nat) (hf : s.b DBG_STAT_FROZEN = false) :
    s.raiseLive src info = (s.setLive src true).raiseWith false src info := by
  have hkept : (s.setLive src true).b DBG_STAT_FROZEN = s.b DBG_STAT_FROZEN :=
    State.setLive_keeps (·.b DBG_STAT_FROZEN) src (fun s a v ha => State.b_congr DBG_STAT_FROZEN (State.rd_wr_ne _ _ _ _ (by
      show a ≠ 0x100004
      simp only [FLT_SRC, FLT_LIVE_SUM] at ha
      omega))) s true
  rw [State.raiseLive, if_neg (by simp [hf]), State.raise, if_neg (by simp [hkept, hf])]

theorem State.raiseLive_live (info : Nat) (hd : sourceDefined src = true) (hf : s.b DBG_STAT_FROZEN = false) :
    (s.raiseLive src info).b (FLT_SRC_LIVE src) = true ∧ (s.raiseLive src info).b (FLT_SRC_LATCHED src) = true := by
  rw [s.raiseLive_eq src hs info hf, State.raiseWith_live _ src hs false info hd]
  exact ⟨s.setLive_live src hs true, State.raiseWith_latched _ false src info hd⟩

end

theorem State.frozen_of_asleep (s : State) (h : s.asleep = false) : s.b DBG_STAT_FROZEN = false := by
  rw [State.asleep, Bool.or_eq_false_iff] at h
  exact h.1

theorem State.liveFollows_asleep (s : State) (src : Nat) (on : Bool) (h : s.asleep = true) : s.liveFollows src on = s := by
  rw [State.liveFollows, if_pos (by simp [h])]

/-- LIVE follows the condition while the collector runs, and a condition that comes about is latched. -/
theorem State.liveFollows_live (s : State) (src : Nat) (on : Bool) (hs : src < 128) (hd : sourceDefined src = true) (ha : s.asleep = false) :
    (s.liveFollows src on).b (FLT_SRC_LIVE src) = on ∧
      (on = true → s.b (FLT_SRC_LIVE src) = false → (s.liveFollows src on).b (FLT_SRC_LATCHED src) = true) := by
  rw [State.liveFollows]
  by_cases hl : s.b (FLT_SRC_LIVE src) = on
  · rw [if_pos (by simp [hl])]
    exact ⟨hl, fun h1 h2 => by simp [h1, h2] at hl⟩
  · rw [if_neg (by simp [hl, ha])]
    cases on
    · exact ⟨s.setLive_live src hs false, fun h => by cases h⟩
    · obtain ⟨hlive, hlatched⟩ := s.raiseLive_live src hs 0 hd (s.frozen_of_asleep ha)
      exact ⟨hlive, fun _ _ => hlatched⟩

/-! Rails and the vault's supply (R56, R58) -/

theorem State.railBit_bit (s : State) (r k : Nat) (ok : Bool) (hk : k < 32) :
    bitAt ((s.railBit r ok).rn SYS_RAIL_STAT) k = if k = r then ok else bitAt (s.rn SYS_RAIL_STAT) k := by
  rw [State.rn, State.railBit, State.rd_wr_same, bitAt_eq, testBit_putBits _ _ _ _ _ (le_refl r), bitAt_eq, State.rn]
  rcases lt_trichotomy k r with h | rfl | h
  · simp [hk, h, show k ≠ r by omega]
  · cases ok <;> simp [hk, b2n]
  · simp [hk, show ¬ k < r by omega, show ¬ k ≤ r by omega, show k ≠ r by omega]

theorem rails_ne_zero (n r : Nat) (hr : r < 8) (h : bitAt n r = true) : n % 256 ≠ 0 := by
  intro h0
  rw [bitAt_eq] at h
  have hbit := Nat.testBit_mod_two_pow n 8 r
  rw [show 2 ^ 8 = 256 from rfl, h0, h] at hbit
  simp [hr] at hbit

theorem rails_all (n : Nat) (h : ∀ r < 8, bitAt n r = true) : n % 256 = 255 := by
  refine Nat.eq_of_testBit_eq fun i => ?_
  rw [show 255 = 2 ^ 8 - 1 from rfl, Nat.testBit_two_pow_sub_one, show 256 = 2 ^ 8 from rfl, Nat.testBit_mod_two_pow]
  by_cases hi : i < 8
  · rw [← bitAt_eq, h i hi, Bool.and_true]
  · simp [hi]

theorem State.vaultOn_keeps {α : Type} (π : State → α) (hw : ∀ (s : State) a v, 0xE2000 ≤ a → a < 0xE3000 → π (s.wr a v) = π s)
    (hg : ∀ (s : State) g, π { s with geode := g } = π s) (s : State) (vbat : Bool) : π (s.vaultOn vbat) = π s := by
  rw [State.vaultOn, State.showGeode_keeps π hw]
  exact (State.when_keeps π _ _ (fun s => hg s _) _).trans (hg s _)

/-- The vault on a supply: VBAT_LOW holds only on VBAT, where its monitor may be active. -/
def Geode.on (g : Geode) (vbat : Bool) : Geode :=
  { g with onVbat := vbat, vbatLow := g.vbatLow && vbat, active := if vbat then g.active else g.active &&& ~~~(1#12 <<< 8) }

theorem State.vaultOn_geode (s : State) (vbat : Bool) : (s.vaultOn vbat).geode = s.geode.on vbat := by
  rw [State.vaultOn, State.showGeode_geode]
  cases vbat <;> rfl

theorem State.vaultOn_onVbat (s : State) (vbat : Bool) : (s.vaultOn vbat).b GEO_STAT_ON_VBAT = vbat := by
  have hgeode := s.vaultOn_geode vbat
  rw [State.vaultOn] at hgeode ⊢
  rw [State.showGeode_geode] at hgeode
  rw [State.showGeode_onVbat, hgeode]
  rfl

/-- The clocks stand still as the resets and the freeze say. -/
theorem State.asleep_congr {s t : State} (hp : t.power = s.power) (hd : t.rd DBG_STAT = s.rd DBG_STAT) : t.asleep = s.asleep := by
  rw [State.asleep, State.inReset, State.b_congr DBG_STAT_FROZEN hd, hp, State.asleep, State.inReset]

/-- A rail's status, and with VDD_IO18 the vault's supply. -/
def State.railSet (s : State) (r : Nat) (ok : Bool) : State := (s.railBit r ok).when (r = 5) (·.vaultOn (!ok))

theorem State.railSet_keeps {α : Type} (π : State → α) (hr : ∀ (s : State) v, π (s.wr SYS_RAIL_STAT v) = π s)
    (hw : ∀ (s : State) a v, 0xE2000 ≤ a → a < 0xE3000 → π (s.wr a v) = π s) (hg : ∀ (s : State) g, π { s with geode := g } = π s)
    (s : State) (r : Nat) (ok : Bool) : π (s.railSet r ok) = π s :=
  (State.when_keeps π _ _ (fun s => State.vaultOn_keeps π hw hg s _) _).trans (hr s _)

theorem State.railSet_rd (s : State) (r : Nat) (ok : Bool) (b : Nat) (hr : b ≠ SYS_RAIL_STAT) (hb : b < 0xE2000 ∨ 0xE3000 ≤ b) :
    (s.railSet r ok).rd b = s.rd b :=
  State.railSet_keeps (·.rd b) (fun _ _ => State.rd_wr_ne _ _ _ _ (Ne.symm hr)) (fun _ _ _ _ _ => State.rd_wr_ne _ _ _ _ (by omega))
    (fun _ _ => rfl) s r ok

theorem State.railSet_rails (s : State) (r : Nat) (ok : Bool) : (s.railSet r ok).rd SYS_RAIL_STAT = (s.railBit r ok).rd SYS_RAIL_STAT :=
  State.when_keeps (·.rd SYS_RAIL_STAT) _ _ (fun s => State.vaultOn_keeps (·.rd SYS_RAIL_STAT)
    (fun _ _ _ h _ => State.rd_wr_ne _ _ _ _ (by simp only [SYS_RAIL_STAT]; omega)) (fun _ _ => rfl) s _) _

theorem State.railSet_bit (s : State) (r k : Nat) (ok : Bool) (hk : k < 32) :
    bitAt ((s.railSet r ok).rn SYS_RAIL_STAT) k = if k = r then ok else bitAt (s.rn SYS_RAIL_STAT) k := by
  rw [State.rn, State.railSet_rails]
  exact s.railBit_bit r k ok hk

theorem State.railSet_mem (s : State) (r : Nat) (ok : Bool) : (s.railSet r ok).mem = s.mem :=
  State.railSet_keeps State.mem (fun _ _ => rfl) (fun _ _ _ _ _ => rfl) (fun _ _ => rfl) s r ok

theorem State.railSet_power (s : State) (r : Nat) (ok : Bool) : (s.railSet r ok).power = s.power :=
  State.railSet_keeps State.power (fun _ _ => rfl) (fun _ _ _ _ _ => rfl) (fun _ _ => rfl) s r ok

theorem State.railSet_asleep (s : State) (r : Nat) (ok : Bool) : (s.railSet r ok).asleep = s.asleep :=
  State.asleep_congr (s.railSet_power r ok) (s.railSet_rd r ok _ (by decide) (by decide))

theorem State.railSet_supply (s : State) (ok : Bool) : (s.railSet 5 ok).geode.onVbat = !ok := by
  rw [State.railSet, decide_eq_true rfl, State.when_true, State.vaultOn_geode]
  rfl

/-! A rail leaves its window (R55 to R57) -/

/-- A main rail out of its window reaches, beside the vault's event, LIVE of source 0 and the active monitors. -/
theorem State.VaultApart.railGlitch {α : Type} {π : State → α} (h : State.VaultApart π) (hlive : ∀ s : State, π (s.raiseLive 0 0) = π s)
    (hact : ∀ (s : State) m on, π (s.setActive m on) = π s) (s : State) : π s.railGlitch = π s := by
  rw [State.railGlitch, h.tamperEvent _ 9 (by decide), hact, State.when_keeps π _ _ hlive]

theorem State.vaultApart_supply : State.VaultApart fun s => s.geode.onVbat := by
  constructor
  case raise => exact fun s src info _ _ => congrArg Geode.onVbat (s.raise_geode src info)
  case vault => exact fun s g l _ hv => hv
  all_goals intros; rfl

theorem State.raiseLive_mem (s : State) (src info : Nat) : (s.raiseLive src info).mem = s.mem :=
  State.raiseLive_keeps State.mem src info (fun _ _ _ _ => rfl) (fun s => s.raise_mem src info) s

theorem State.railGlitch_mem (s : State) : s.railGlitch.mem = s.mem :=
  State.vaultApart_mem.railGlitch (fun s => s.raiseLive_mem 0 0) (fun _ _ _ => rfl) s

theorem State.railGlitch_power (s : State) : s.railGlitch.power = s.power :=
  State.vaultApart_power.railGlitch
    (State.raiseLive_keeps State.power 0 0 (fun _ _ _ _ => rfl) fun s => s.raise_power 0 0) (fun _ _ _ => rfl) s

theorem State.railGlitch_supply (s : State) : s.railGlitch.geode.onVbat = s.geode.onVbat :=
  State.vaultApart_supply.railGlitch (State.raiseLive_keeps (·.geode.onVbat) 0 0 (fun _ _ _ _ => rfl)
    fun s => congrArg Geode.onVbat (s.raise_geode 0 0)) (fun _ _ _ => rfl) s

theorem State.railGlitch_rails (s : State) : s.railGlitch.rd SYS_RAIL_STAT = s.rd SYS_RAIL_STAT :=
  (State.vaultApart_rd SYS_RAIL_STAT (by decide) (.inl (by decide))).railGlitch
    (State.raiseLive_keeps (·.rd SYS_RAIL_STAT) 0 0
      (fun s a v ha => State.rd_wr_ne _ _ _ _ (by simp only [FLT_SRC, FLT_LIVE_SUM, SYS_RAIL_STAT] at ha ⊢; omega))
      fun s => s.raise_rd 0 0 _ (by decide))
    (fun _ _ _ => rfl) s

/-- While the collector runs, the glitch latches source 0 and shows its monitor. -/
theorem State.railGlitch_shows (s : State) (ha : s.asleep = false) : s.railGlitch.b (FLT_SRC_LIVE 0) = true ∧
    s.railGlitch.b (FLT_SRC_LATCHED 0) = true ∧ bitAt (s.railGlitch.f GEO_MON_ACTIVE) 9 = true := by
  have hrun : s.when (!s.asleep) (·.raiseLive 0 0) = s.raiseLive 0 0 := by rw [ha]; rfl
  have hkept := (State.vaultApart_src 0 (by decide)).tamperEvent ((s.raiseLive 0 0).setActive 9 true) 9 (by decide)
  obtain ⟨hlive, hlatched⟩ := s.raiseLive_live 0 (by decide) 0 (by decide) (s.frozen_of_asleep ha)
  rw [State.railGlitch, hrun]
  refine ⟨(State.b_congr (FLT_SRC_LIVE 0) hkept).trans hlive, (State.b_congr (FLT_SRC_LATCHED 0) hkept).trans hlatched, ?_⟩
  exact State.tamperEvent_setActive _ 9 (by decide) (by decide)

/-- The main rails off, after the power-on reset (R57). -/
def State.off (t : State) : State := ({ t with power := { t.power with aonRuns := false } } : State).setB FLT_STAT_ERR_N_LOW false

theorem State.standby_eq (s : State) : s.standby = s.powerReset.off := rfl

section
variable {s t : State} (h : s.Reset t [])
include h

theorem State.Reset.off_rails : t.off.rd SYS_RAIL_STAT = s.rd SYS_RAIL_STAT :=
  (State.rd_setF_other _ _ _ _ (by decide)).trans h.rails

theorem State.Reset.off_pin (p : Pin) : t.off.pin p = p.ramp := by
  have hphase : t.off.bootPhase = .ramp := rfl
  rw [State.pin, t.off.boundaryPin_bypass h.tap, Option.getD_none, State.blockPin, hphase]

/-- What STANDBY shows, of a reset state whose rails go. -/
theorem State.Reset.off_shows : t.off.mem = [] ∧ t.off.power.aonRuns = false ∧ t.off.errPin = false ∧
    t.off.rd (FLT_SRC 0) = resetOf (FLT_SRC 0) ∧ t.off.geode.kek = s.geode.kek ∧ t.off.geode.next = s.geode.next ∧
    ∀ p, t.off.pin p = p.ramp :=
  ⟨h.mem, rfl, State.b_setB_same _ FLT_STAT_ERR_N_LOW false rfl (by decide),
    (State.rd_setF_other _ _ _ _ (by decide)).trans (h.regs _ (by decide) (by decide) List.not_mem_nil), h.kek, h.next, h.off_pin⟩

end

/-- A main rail out of its window, its status shown. -/
def State.railLost (u : State) : State :=
  (u.when (!u.power.porHeld) State.railGlitch).when (u.when (!u.power.porHeld) State.railGlitch).mainsOff State.standby

theorem State.railLost_glitch (u : State) (hp : u.power.porHeld = false) (hon : u.railGlitch.mainsOff = false) : u.railLost = u.railGlitch := by
  rw [State.railLost, hp, Bool.not_false, State.when_true, hon, State.when_false]

theorem State.railLost_held (u : State) (hp : u.power.porHeld = true) : u.railLost = u.when u.mainsOff State.standby := by
  rw [State.railLost, hp, Bool.not_true, State.when_false]

section
variable (s : State) (r : Nat)

theorem State.railOut_eq : s.railOut r = if r < 8 then (s.railSet r false).railLost else s.railSet r false := rfl

theorem State.railOut_keeps {α : Type} (π : State → α) (hglitch : ∀ s : State, π s.railGlitch = π s) (hoff : ∀ s : State, π s.standby = π s) :
    π (s.railOut r) = π (s.railSet r false) := by
  rw [State.railOut_eq]
  split
  · exact (State.when_keeps π _ _ hoff _).trans (State.when_keeps π _ _ hglitch _)
  · rfl

theorem State.railOut_rails : (s.railOut r).rd SYS_RAIL_STAT = (s.railSet r false).rd SYS_RAIL_STAT :=
  s.railOut_keeps r (·.rd SYS_RAIL_STAT) (fun s => s.railGlitch_rails) fun s => s.reset_powerReset.off_rails

theorem State.railOut_supply : (s.railOut r).geode.onVbat = (s.railSet r false).geode.onVbat :=
  s.railOut_keeps r (·.geode.onVbat) (fun s => s.railGlitch_supply) fun s => s.reset_powerReset.supply

theorem State.railOut_bit (k : Nat) (hk : k < 32) :
    bitAt ((s.railOut r).rn SYS_RAIL_STAT) k = if k = r then false else bitAt (s.rn SYS_RAIL_STAT) k := by
  rw [State.rn, State.railOut_rails]
  exact s.railSet_bit r k false hk

/-- With another rail in its window and PG_IN high, the part stays up. -/
theorem State.railOut_glitch (hr : r < 8) (hp : s.power.porHeld = false) (k : Nat) (hk : k < 8) (hne : k ≠ r)
    (hbit : bitAt (s.rn SYS_RAIL_STAT) k = true) : s.railOut r = (s.railSet r false).railGlitch := by
  have hpor : (s.railSet r false).power.porHeld = false := by rw [State.railSet_power]; exact hp
  have hother : bitAt ((s.railSet r false).rn SYS_RAIL_STAT) k = true := by rw [s.railSet_bit r k false (by omega), if_neg hne]; exact hbit
  have hon : (s.railSet r false).railGlitch.mainsOff = false := by
    rw [State.mainsOff, State.railGlitch_power, hpor, Bool.false_and, Bool.false_or, State.rn, State.railGlitch_rails]
    exact decide_eq_false (rails_ne_zero _ k hk hother)
  rw [State.railOut_eq, if_pos hr, State.railLost_glitch _ hpor hon]

section
variable (hp : s.power.porHeld = true)
include hp

/-- At power-down, with VDD_CORE in its window, a main rail has a status bit only. -/
theorem State.railOut_quiet (hr : r < 8) (h0 : r ≠ 0) (hbit : bitAt (s.rn SYS_RAIL_STAT) 0 = true) : s.railOut r = s.railSet r false := by
  have hpor : (s.railSet r false).power.porHeld = true := by rw [State.railSet_power]; exact hp
  have hcore : bitAt ((s.railSet r false).rn SYS_RAIL_STAT) 0 = true := by
    rw [s.railSet_bit r 0 false (by decide), if_neg (Ne.symm h0)]
    exact hbit
  have hon : (s.railSet r false).mainsOff = false := by
    rw [State.mainsOff, hcore, Bool.not_true, Bool.and_false, Bool.false_or]
    exact decide_eq_false (rails_ne_zero _ 0 (by decide) hcore)
  rw [State.railOut_eq, if_pos hr, State.railLost_held _ hpor, hon, State.when_false]

/-- At power-down VDD_CORE takes the main rails' state with it. -/
theorem State.railOut_core : s.railOut 0 = (s.railSet 0 false).standby := by
  have hpor : (s.railSet 0 false).power.porHeld = true := by rw [State.railSet_power]; exact hp
  have hcore : bitAt ((s.railSet 0 false).rn SYS_RAIL_STAT) 0 = false := by rw [s.railSet_bit 0 0 false (by decide), if_pos rfl]
  have hoff : (s.railSet 0 false).mainsOff = true := by
    rw [State.mainsOff, hpor, hcore]
    rfl
  rw [State.railOut_eq, if_pos (by decide), State.railLost_held _ hpor, hoff, State.when_true]

end

end

/-! A rail returns (R56) -/

/-- Every main rail is back: source 0 and its monitor follow. -/
def State.railsWell (s : State) : State := ((s.liveFollows 0 false).setActive 9 false).showGeode

section
variable (s : State) (r : Nat)

theorem State.railBack_eq : s.railBack r =
    if (s.railSet r true).rn SYS_RAIL_STAT % 256 = 255 then (s.railSet r true).railsWell else s.railSet r true := rfl

/-- LIVE of a source whose condition ends is in the source's register and the sum. -/
theorem State.liveFollows_off_keeps {α : Type} (π : State → α) (src : Nat)
    (hw : ∀ (s : State) a v, a = FLT_SRC src ∨ a = FLT_LIVE_SUM (src / 32) → π (s.wr a v) = π s) : π (s.liveFollows src false) = π s := by
  rw [State.liveFollows]
  split
  · rfl
  · exact State.setLive_keeps π src hw s false

theorem State.railsWell_keeps {α : Type} (π : State → α)
    (hw : ∀ (s : State) a v, a = FLT_SRC 0 ∨ a = FLT_LIVE_SUM 0 ∨ (0xE2000 ≤ a ∧ a < 0xE3000) → π (s.wr a v) = π s)
    (hact : ∀ (s : State) m on, π (s.setActive m on) = π s) : π s.railsWell = π s := by
  rw [State.railsWell, State.showGeode_keeps π fun s a v h1 h2 => hw s a v (.inr (.inr ⟨h1, h2⟩)), hact]
  exact s.liveFollows_off_keeps π 0 fun s a v ha => hw s a v (ha.imp_right .inl)

theorem State.railBack_keeps {α : Type} (π : State → α) (hwell : ∀ s : State, π s.railsWell = π s) :
    π (s.railBack r) = π (s.railSet r true) := by
  rw [State.railBack_eq]
  split
  · exact hwell _
  · rfl

theorem State.railBack_mem : (s.railBack r).mem = s.mem :=
  (s.railBack_keeps r State.mem fun s => s.railsWell_keeps State.mem (fun _ _ _ _ => rfl) fun _ _ _ => rfl).trans (s.railSet_mem r true)

theorem State.railBack_supply : (s.railBack r).geode.onVbat = (s.railSet r true).geode.onVbat :=
  s.railBack_keeps r (·.geode.onVbat) fun s => s.railsWell_keeps (·.geode.onVbat) (fun _ _ _ _ => rfl) fun _ _ _ => rfl

theorem State.railBack_bit (k : Nat) (hk : k < 32) :
    bitAt ((s.railBack r).rn SYS_RAIL_STAT) k = if k = r then true else bitAt (s.rn SYS_RAIL_STAT) k := by
  have hrails : (s.railBack r).rd SYS_RAIL_STAT = (s.railSet r true).rd SYS_RAIL_STAT :=
    s.railBack_keeps r (·.rd SYS_RAIL_STAT) fun s => s.railsWell_keeps (·.rd SYS_RAIL_STAT)
      (fun _ a _ ha => State.rd_wr_ne _ _ _ _ (by simp only [FLT_SRC, FLT_LIVE_SUM, SYS_RAIL_STAT] at ha ⊢; omega)) fun _ _ _ => rfl
  rw [State.rn, hrails]
  exact s.railSet_bit r k true hk

/-- With every main rail back source 0 is not LIVE. -/
theorem State.railBack_live (ha : s.asleep = false) (h : ∀ k < 8, k = r ∨ bitAt (s.rn SYS_RAIL_STAT) k = true) :
    (s.railBack r).b (FLT_SRC_LIVE 0) = false := by
  have hall : (s.railSet r true).rn SYS_RAIL_STAT % 256 = 255 := rails_all _ fun k hk => by
    rw [s.railSet_bit r k true (by omega)]
    rcases h k hk with rfl | hk
    · exact if_pos rfl
    · rw [hk, ite_self]
  have hlive := ((s.railSet r true).liveFollows_live 0 false (by decide) (by decide) ((s.railSet_asleep r true).trans ha)).1
  have hkept : ∀ u : State, (u.setActive 9 false).showGeode.rd (FLT_SRC 0) = u.rd (FLT_SRC 0) := fun u =>
    State.showGeode_keeps (·.rd (FLT_SRC 0)) (fun _ _ _ h _ => State.rd_wr_ne _ _ _ _ (by simp only [FLT_SRC]; omega)) _
  rw [State.railBack_eq, if_pos hall, State.railsWell, State.b_congr (FLT_SRC_LIVE 0) (hkept _)]
  exact hlive

end

/-! Clocks (R617) -/

/-- SYSCLK failed or back. -/
def State.withClock (s : State) (out : Bool) : State := { s with power := { s.power with clockOut := out } }

theorem State.clockFails_eq (s : State) (out : Bool) : s.clockFails out = (s.withClock out).liveFollows 5 out := rfl

section
variable (s : State) (out : Bool)

theorem State.clockFails_mem : (s.clockFails out).mem = s.mem := by
  rw [State.clockFails_eq, State.liveFollows_keeps State.mem 5 (fun _ _ _ _ => rfl) fun s => s.raise_mem 5 0]
  rfl

theorem State.clockFails_clockOut : (s.clockFails out).power.clockOut = out := by
  rw [State.clockFails_eq, State.liveFollows_keeps State.power 5 (fun _ _ _ _ => rfl) fun s => s.raise_power 5 0]
  rfl

theorem State.clockFails_asleep (ha : s.asleep = true) : (s.clockFails out).regs = s.regs := by
  rw [State.clockFails_eq, State.liveFollows_asleep _ _ _ (show (s.withClock out).asleep = true from ha)]
  rfl

theorem State.clockFails_live (ha : s.asleep = false) : (s.clockFails out).b (FLT_SRC_LIVE 5) = out ∧
    (out = true → s.b (FLT_SRC_LIVE 5) = false → (s.clockFails out).b (FLT_SRC_LATCHED 5) = true) :=
  (s.withClock out).liveFollows_live 5 out (by decide) (by decide) ha

theorem State.clockReturns_regsBut : s.regsBut (s.clockFails false) [FLT_SRC 5, FLT_LIVE_SUM 0] := by
  refine ⟨s.clockFails_mem false, fun a ha => ?_⟩
  simp only [List.mem_cons, List.not_mem_nil, or_false, not_or] at ha
  rw [State.clockFails_eq, State.liveFollows_off_keeps _ (·.rd a) 5]
  · rfl
  · rintro u b v (rfl | rfl)
    · exact State.rd_wr_ne _ _ _ _ (Ne.symm ha.1)
    · exact State.rd_wr_ne _ _ _ _ (Ne.symm ha.2)

end

/-! The vault's supply and its monitors (R58, R60, Table 18.4) -/

section
variable (s : State) (vbat : Bool)

theorem State.vaultSupplySwitch_taken (h : bitAt (s.rn SYS_RAIL_STAT) 5 = !vbat) :
    exec (.vaultSupplySwitch vbat) s = .next (s.begin.vaultOn vbat) := by
  have hswitch : (vbat != bitAt (s.rn SYS_RAIL_STAT) 5) = true := by rw [h]; cases vbat <;> rfl
  exact congrArg (fun c => Host.Outcome.next (s.begin.when c (·.vaultOn vbat))) hswitch

theorem State.vaultSupplySwitch_ignored (h : bitAt (s.rn SYS_RAIL_STAT) 5 = vbat) :
    exec (.vaultSupplySwitch vbat) s = .next s.begin := by
  have hswitch : (vbat != bitAt (s.rn SYS_RAIL_STAT) 5) = false := by rw [h]; cases vbat <;> rfl
  exact congrArg (fun c => Host.Outcome.next (s.begin.when c (·.vaultOn vbat))) hswitch

theorem State.vaultOn_mem : (s.vaultOn vbat).mem = s.mem :=
  State.vaultOn_keeps State.mem (fun _ _ _ _ _ => rfl) (fun _ _ => rfl) s vbat

/-- A switch loses no vault state. -/
theorem Geode.on_keeps (g : Geode) : (g.on vbat).kek = g.kek ∧ (g.on vbat).next = g.next ∧ (g.on vbat).hSent = g.hSent ∧
    (g.on vbat).log = g.log ∧ (g.on vbat).psk = g.psk ∧ (g.on vbat).lastSerial = g.lastSerial := ⟨rfl, rfl, rfl, rfl, rfl, rfl⟩

end

/-- The vault's state once its supply is lost. -/
def Geode.dry (g : Geode) (tb : Nat) : Geode :=
  { next := 0, kekLost := true, lost := true, onVbat := true, vbatLow := g.vbatLow, countAt := tb, active := g.active, waiting := g.waiting }

theorem State.vaultDry_onVbat (s : State) (h : s.geode.onVbat = true) :
    s.vaultDry = ({ s with geode := s.geode.dry s.tb } : State).showGeode := if_pos h

/-- The vault run dry shows VAULT_LOST and no KEK, and holds no key and no log (R60). -/
theorem State.vaultDry_shows (s : State) (h : s.geode.onVbat = true) : s.vaultDry.mem = s.mem ∧ s.vaultDry.b GEO_STAT_VAULT_LOST = true ∧
    s.vaultDry.b GEO_STAT_KEK_VALID = false ∧ s.vaultDry.geode = s.geode.dry s.tb := by
  rw [s.vaultDry_onVbat h]
  exact ⟨State.showGeode_keeps State.mem (fun _ _ _ _ _ => rfl) _, State.showGeode_vaultLost _, State.showGeode_kekValid _,
    State.showGeode_geode _⟩

/-- VBAT low with the vault on it. -/
def State.batteryLow (s : State) : State := { s.railBit 8 false with geode := { (s.railBit 8 false).geode with vbatLow := true } }

theorem State.vbatLow_onVbat (s : State) (h : s.geode.onVbat = true) :
    exec .vbatLow s = .next ((s.begin.batteryLow.setActive 8 true).tamperEvent 8) := if_pos h

theorem State.vbatLow_off (s : State) (h : s.geode.onVbat = false) : exec .vbatLow s = .next (s.begin.railBit 8 false) :=
  if_neg (show ¬ s.geode.onVbat = true by simp [h])

theorem State.batteryLow_shows (s : State) : ((s.batteryLow.setActive 8 true).tamperEvent 8).mem = s.mem ∧
    bitAt (((s.batteryLow.setActive 8 true).tamperEvent 8).rn SYS_RAIL_STAT) 8 = false ∧
    bitAt (((s.batteryLow.setActive 8 true).tamperEvent 8).f GEO_MON_ACTIVE) 8 = true := by
  have hrails := (State.vaultApart_rd SYS_RAIL_STAT (by decide) (.inl (by decide))).tamperEvent (s.batteryLow.setActive 8 true) 8 (by decide)
  refine ⟨State.vaultApart_mem.tamperEvent _ 8 (by decide), ?_, State.tamperEvent_setActive _ 8 (by decide) (by decide)⟩
  rw [State.rn, show ((s.batteryLow.setActive 8 true).tamperEvent 8).rd SYS_RAIL_STAT = (s.railBit 8 false).rd SYS_RAIL_STAT from hrails]
  exact (s.railBit_bit 8 8 false (by decide)).trans (if_pos rfl)

/-- What a rail out of its window shows while the collector runs, with another one still in. -/
theorem State.railOut_running (s : State) (r : Nat) (hr : r < 8) (ha : s.asleep = false) (hp : s.power.porHeld = false)
    (ho : ∃ k < 8, k ≠ r ∧ bitAt (s.rn SYS_RAIL_STAT) k = true) : (s.railOut r).mem = s.mem ∧ (s.railOut r).b (FLT_SRC_LIVE 0) = true ∧
    (s.railOut r).b (FLT_SRC_LATCHED 0) = true ∧ bitAt ((s.railOut r).f GEO_MON_ACTIVE) 9 = true := by
  obtain ⟨k, hk, hne, hbit⟩ := ho
  rw [s.railOut_glitch r hr hp k hk hne hbit, State.railGlitch_mem, State.railSet_mem]
  exact ⟨rfl, (s.railSet r false).railGlitch_shows ((s.railSet_asleep r false).trans ha)⟩

theorem State.railSet_active (s : State) (r : Nat) : (s.railSet r false).geode.active = s.geode.active := by
  rw [State.railSet]
  cases decide (r = 5)
  · rfl
  · rw [State.when_true, State.vaultOn_geode]
    rfl

theorem State.railOut_powerDown (s : State) (r : Nat) (hr : r < 8) (h0 : r ≠ 0) (hp : s.power.porHeld = true)
    (hbit : bitAt (s.rn SYS_RAIL_STAT) 0 = true) : (s.railOut r).mem = s.mem ∧ (s.railOut r).rd (FLT_SRC 0) = s.rd (FLT_SRC 0) ∧
    (s.railOut r).geode.active = s.geode.active := by
  rw [s.railOut_quiet r hp hr h0 hbit]
  exact ⟨s.railSet_mem r false, s.railSet_rd r false _ (by decide) (by decide), s.railSet_active r⟩

theorem State.railOut_standby (s : State) (hp : s.power.porHeld = true) : (s.railOut 0).mem = [] ∧ (s.railOut 0).power.aonRuns = false ∧
    (s.railOut 0).errPin = false ∧ (s.railOut 0).rd (FLT_SRC 0) = resetOf (FLT_SRC 0) ∧ (s.railOut 0).geode.kek = s.geode.kek ∧
    (s.railOut 0).geode.next = s.geode.next ∧ ∀ p, (s.railOut 0).pin p = p.ramp := by
  rw [s.railOut_core hp, State.standby_eq]
  exact (s.railSet 0 false).reset_powerReset.off_shows

theorem State.railOut_vbat (s : State) : s.regsBut (s.railOut 8) [SYS_RAIL_STAT] := by
  have he : s.railOut 8 = s.railBit 8 false := rfl
  rw [he]
  exact ⟨rfl, fun a ha => State.rd_wr_ne _ _ _ _ fun h => ha (h ▸ List.mem_singleton_self _)⟩

end Sys2Proof.Machine

open Sys2Proof Sys2Proof.Machine
open Sys2Proof.Machine.Reg Sys2Proof.Machine.Fld

/-- Settles O22: a rail changes its own status bit, and what follows it, the glitch, the power-on reset of STANDBY and the vault's supply, are
told apart by PG_IN, VDD_CORE and the collector's state; the events of the vault's monitors reach neither the rails nor source 0 nor the active
monitors. -/
theorem supplyEvents : Obligations.SupplyEvents := by
  unfold Obligations.SupplyEvents
  intro rail vbat s
  dsimp only
  refine ⟨?railOut, ?railBack, ?clockFails, ?clockReturns, fun hv => ?taken, fun hv => ?ignored, fun hv => ?dry, fun hv => ?notDry, ?vbatLow, ?xtal⟩
  case railOut =>
    refine ⟨_, rfl, ?_, fun k hk hne => ?_, fun h5 => ?_, fun hr ha hp ho => ?_, fun hr h0 hp hbit => ?_, fun h0 hp => ?_, fun h8 => ?_⟩
    · exact (s.begin.railOut_bit rail rail (by omega)).trans (if_pos rfl)
    · exact (s.begin.railOut_bit rail k hk).trans (if_neg hne)
    · subst h5
      exact (s.begin.railOut_supply 5).trans (s.begin.railSet_supply false)
    · exact s.begin.railOut_running rail hr ha hp ho
    · exact s.begin.railOut_powerDown rail hr (fun h => h0 (Fin.ext h)) hp hbit
    · subst h0
      exact s.begin.railOut_standby hp
    · subst h8
      exact s.begin.railOut_vbat
  case railBack =>
    refine ⟨_, rfl, s.begin.railBack_mem rail, ?_, fun k hk hne => ?_, fun h5 => ?_, fun ha hall => ?_⟩
    · exact (s.begin.railBack_bit rail rail (by omega)).trans (if_pos rfl)
    · exact (s.begin.railBack_bit rail k hk).trans (if_neg hne)
    · subst h5
      exact (s.begin.railBack_supply 5).trans (s.begin.railSet_supply true)
    · exact s.begin.railBack_live rail ha fun k hk => hall k (List.mem_range.2 hk)
  case clockFails =>
    refine ⟨_, rfl, s.begin.clockFails_mem true, s.begin.clockFails_clockOut true, s.begin.clockFails_asleep true, fun ha => ?_⟩
    obtain ⟨hlive, hlatched⟩ := s.begin.clockFails_live true ha
    exact ⟨hlive, hlatched rfl⟩
  case clockReturns =>
    exact ⟨_, rfl, s.begin.clockReturns_regsBut, s.begin.clockFails_clockOut false, fun ha => (s.begin.clockFails_live false ha).1⟩
  case taken =>
    have hkeeps := s.begin.geode.on_keeps vbat
    rw [← s.begin.vaultOn_geode vbat] at hkeeps
    exact ⟨_, s.vaultSupplySwitch_taken vbat hv, s.begin.vaultOn_mem vbat, s.begin.vaultOn_onVbat vbat, hkeeps⟩
  case ignored => exact ⟨_, s.vaultSupplySwitch_ignored vbat hv, rfl, rfl, rfl⟩
  case dry =>
    obtain ⟨hmem, hlost, hkek, hdry⟩ := s.begin.vaultDry_shows hv
    refine ⟨_, rfl, hmem, hlost, hkek, ?_⟩
    rw [hdry]
    exact ⟨rfl, rfl, rfl, rfl⟩
  case notDry => exact ⟨s.begin, congrArg Host.Outcome.next (if_neg (show ¬ s.geode.onVbat = true by simp [hv])), rfl, rfl, rfl⟩
  case vbatLow =>
    obtain ⟨hmem, hrail, hactive⟩ := s.begin.batteryLow_shows
    cases hv : s.geode.onVbat
    · exact ⟨_, s.vbatLow_off hv, rfl, (s.begin.railBit_bit 8 8 false (by decide)).trans (if_pos rfl), fun h => by cases h⟩
    · exact ⟨_, s.vbatLow_onVbat hv, hmem, hrail, fun _ => hactive⟩
  case xtal =>
    exact ⟨_, rfl, State.vaultApart_mem.tamperEvent _ 11 (by decide), State.tamperEvent_setActive _ 11 (by decide) (by decide)⟩
end

section
/-!
PROOFS. Engines.lean (O20, O59): a write of a register whose fields take the word as written, ENG_START, ENG_STOP and ENG_EVSET, and the canonical
form at reset.
-/

namespace Sys2Proof.Machine
open Reg Fld

/-! A write whose fields take the word as written (R105, R124) -/

/-- Does a field of this access code take what is written, with or without an unlock in force? -/
def Acc.takes (granted : Bool) : Acc → Bool
  | .rw | .wo => true
  | .gd | .gw => granted
  | .ro | .w1 | .sq => false

/-- Is a register one whose fields, but for those software does not write, take up a mask and take what is written, and is it neither half of a pair
nor GUARD_UNLOCK nor a word of TWIN_PSK? -/
def plainRegister (granted : Bool) (a : Nat) (mask : Word) : Bool :=
  (rowOf a).any (fun r => r.fields.all (fun x => x.2.2.takes granted || decide (x.2.2 = .ro)) &&
    fieldsMask (r.fields.filter fun x => x.2.2.takes granted) mask && !(r.fields.filter fun x => x.2.2.takes granted).isEmpty &&
    !loBases.contains r.base && !hiBases.contains r.base) &&
  decide (a ≠ GUARD_UNLOCK ∧ ¬ (TWIN_PSK 0 ≤ a ∧ a < TWIN_PSK 8))

theorem Merge.field_takes (held w : Word) (granted locked : Bool) (m : Merge) (x : Nat × Nat × Acc) (h : x.2.2.takes granted = true) :
    Merge.field held w granted locked m x = { m with word := putBits m.word x.1 x.2.1 (bits w.toNat x.1 x.2.1) } := by
  rcases x with ⟨hi, lo, acc⟩
  cases acc <;> simp_all [Acc.takes, Merge.field]

theorem Merge.foldl_takes (held w : Word) (granted locked : Bool) (fs : List (Nat × Nat × Acc))
    (h : ∀ x ∈ fs, x.2.2.takes granted = true ∨ x.2.2 = .ro) (m : Merge) : fs.foldl (Merge.field held w granted locked) m =
      { m with word := writeFields (fs.filter fun x => x.2.2.takes granted) m.word w } := by
  induction fs generalizing m with
  | nil => rfl
  | cons x fs ih =>
    rw [List.foldl_cons, ih fun y hy => h y (List.mem_cons_of_mem _ hy)]
    by_cases hx : x.2.2.takes granted = true
    · rw [Merge.field_takes _ _ _ _ _ _ hx, List.filter_cons_of_pos (p := fun x : Nat × Nat × Acc => x.2.2.takes granted) hx]
      rfl
    · have hro := (h x List.mem_cons_self).resolve_left hx
      rw [List.filter_cons_of_neg (p := fun x : Nat × Nat × Acc => x.2.2.takes granted) hx]
      simp only [Merge.field, hro]

/-- A write of such a register, under its unlock where it needs one, reaches the register's hook with the bits of the mask as written. -/
theorem State.regWrite_plain (s : State) (req a : Nat) (v mask : Word) (hr : plainRegister (s.consume req a).1 a mask = true) :
    ∃ l, s.regWrite req a v = (s.withUnlocks l).hook (requester req) a ((s.rd a &&& ~~~mask) ||| (v &&& mask)) := by
  obtain ⟨l, hc⟩ := s.consume_unlocks req a
  rcases hcons : s.consume req a with ⟨granted, u⟩
  obtain rfl : u = s.withUnlocks l := by rw [← hc, hcons]
  rw [hcons] at hr
  obtain ⟨hr, hplace⟩ := (Bool.and_eq_true _ _).mp hr
  obtain ⟨hguard, hp⟩ := of_decide_eq_true hplace
  obtain ⟨r, hrow, hr⟩ := (Option.any_eq_true _ _).1 hr
  simp only [Bool.and_eq_true, Bool.not_eq_true', List.all_eq_true, Bool.or_eq_true, decide_eq_true_eq] at hr
  obtain ⟨⟨⟨⟨hacc, hmask⟩, hne⟩, hlo⟩, hhi⟩ := hr
  obtain ⟨x, hx⟩ := List.exists_mem_of_ne_nil (r.fields.filter fun x => x.2.2.takes granted) (by rw [← List.isEmpty_eq_false_iff]; exact hne)
  obtain ⟨hmem, htakes⟩ := List.mem_filter.1 hx
  have hplain : ∀ y ∈ r.fields, y.2.2 ≠ .sq ∧ y.2.2 ≠ .w1 := fun y hy => by
    rcases hacc y hy with h | h
    · constructor <;> rintro h' <;> simp [h', Acc.takes] at h
    · simp [h]
  have hsq : r.isSq = false := List.any_eq_false.2 fun y hy => by simp [(hplain y hy).1]
  have ho : r.writeOnce = false := List.any_eq_false.2 fun y hy => by simp [(hplain y hy).2]
  have hw : r.writable = true := List.any_eq_true.2 ⟨x, hmem, by
    have hro : x.2.2 ≠ .ro := by rintro h'; simp [h', Acc.takes] at htakes
    simp [hro, (hplain x hmem).1]⟩
  have hag : (r.allGuarded && !granted) = false := by
    cases granted
    · refine Bool.and_eq_false_iff.2 (.inl (List.all_eq_false.2 ⟨x, hmem, ?_⟩))
      revert htakes
      cases x.2.2 <;> simp [Acc.takes]
    · simp
  have hheld : (s.withUnlocks l).heldWord a = s.rd a := by
    simp only [State.heldWord, Bool.and_eq_true, decide_eq_true_eq, hp, if_false]
    rfl
  have hm : ∀ locked, r.merge (s.rd a) v granted locked = { word := (s.rd a &&& ~~~mask) ||| (v &&& mask) } := fun locked => by
    rw [RegRow.merge, Merge.foldl_takes _ _ _ _ _ hacc, writeFields_mask _ mask _ _ hmask]
  refine ⟨l, ?_⟩
  simp only [State.regWrite, hrow, hguard, hlo, hcons, hsq, hhi, hw, ho, hag, hheld, hm, State.when_false, Bool.not_true,
    Bool.false_eq_true, if_false]

/-- A command that writes a guarded register under its unlock. -/
theorem State.busReg_granted (s : State) (req : Req) (a : Nat) (v mask : Word) (hr : plainRegister true a mask = true) (hg : s.granted req a) :
    ∃ l, s.begin.busReg req a v = (s.begin.withUnlocks l).hook (requester req) a ((s.rd a &&& ~~~mask) ||| (v &&& mask)) := by
  obtain ⟨hup, hgr⟩ := hg
  obtain ⟨l, hl⟩ := s.begin.regWrite_plain req a v mask (by rw [State.begin_consume, hgr]; exact hr)
  exact ⟨l, (if_pos (show s.begin.busUp req a = true from hup)).trans hl⟩

/-- A command that writes a register without a guard. -/
theorem State.busReg_reaches (s : State) (req : Req) (a : Nat) (v mask : Word) (hr : ∀ g, plainRegister g a mask = true)
    (hup : s.reaches req a) :
    ∃ l, s.begin.busReg req a v = (s.begin.withUnlocks l).hook (requester req) a ((s.rd a &&& ~~~mask) ||| (v &&& mask)) := by
  obtain ⟨l, hl⟩ := s.begin.regWrite_plain req a v mask (hr _)
  exact ⟨l, (if_pos (show s.begin.busUp req a = true from hup)).trans hl⟩

/-- A field within the mask reads as written. -/
theorem bits_masked (held v mask : Word) (hi lo : Nat) (h32 : hi < 32) (h : ∀ i : Fin 32, lo ≤ i → i ≤ hi → mask.getLsbD i = true) :
    bits ((held &&& ~~~mask) ||| (v &&& mask)).toNat hi lo = bits v.toNat hi lo := by
  refine Nat.eq_of_testBit_eq fun i => ?_
  rw [testBit_bits, testBit_bits]
  by_cases hi' : i < hi + 1 - lo
  · have hm := h ⟨lo + i, by omega⟩ (by simp) (show lo + i ≤ hi by omega)
    rw [BitVec.testBit_toNat, BitVec.testBit_toNat, BitVec.getLsbD_or, BitVec.getLsbD_and, BitVec.getLsbD_and, BitVec.getLsbD_not, hm]
    simp
  · simp [hi']

/-- Clocks of the main rails run where an access reaches a block other than DEBUG. -/
theorem State.awake_of_reaches (s : State) (req : Req) (a : Nat) (hup : s.reaches req a) (ha : a / 0x10000 ≠ 0x10) : s.asleep = false := by
  simp only [State.reaches, State.busUp, Bool.and_eq_true, Bool.not_eq_true', Bool.or_eq_true, decide_eq_true_eq] at hup
  obtain ⟨⟨⟨⟨hlow, htest⟩, haon⟩, -⟩, hfrozen⟩ := hup
  have hf : s.b DBG_STAT_FROZEN = false := hfrozen.resolve_right fun h => ha h.2
  simp [State.asleep, State.inReset, hf, hlow, htest, haon]

/-! ENG_START, ENG_STOP and ENG_EVSET (R155 to R158, R179) -/

theorem engCtrl_plain : ∀ e : Fin 16, plainRegister true (ENG_CTRL e) 3 = true := by decide

theorem engEvset_plain : ∀ (e : Fin 16) (g : Bool), plainRegister g (ENG_EVSET e) 0xFF = true := by decide

theorem State.hook_engine (s : State) (req a : Nat) (new : Word) (h : a / 0x10000 = 0x20) : s.hook req a new = s.hookEngine a new := by
  simp only [State.hook, h]

theorem State.hookEngine_ctrl (s : State) (e : Nat) (new : Word) : s.hookEngine (ENG_CTRL e) new =
    if bitAt new.toNat 1 then s.engStop e else s.when (bitAt new.toNat 0) (·.engStart e) := by
  have hoff : ENG_CTRL e % 0x1000 = 0 := by simp only [ENG_CTRL]; omega
  have hidx : (ENG_CTRL e - 0x200000) / 0x1000 = e := by simp only [ENG_CTRL]; omega
  simp only [State.hookEngine, hoff, hidx]

theorem State.hookEngine_start (s : State) (e : Nat) : s.hookEngine (ENG_CTRL e) (putBits 0 0 0 1 &&& 3) = s.engStart e := by
  rw [s.hookEngine_ctrl, show (putBits 0 0 0 1 &&& 3 : Word) = 1 by decide]
  rfl

theorem State.hookEngine_stop (s : State) (e : Nat) : s.hookEngine (ENG_CTRL e) (putBits 0 1 1 1 &&& 3) = s.engStop e := by
  rw [s.hookEngine_ctrl, show (putBits 0 1 1 1 &&& 3 : Word) = 2 by decide]
  rfl

theorem State.hookEngine_evset (s : State) (e : Nat) (new : Word) : s.hookEngine (ENG_EVSET e) new = s.engEvset e (bits new.toNat 7 0) := by
  have hoff : ENG_EVSET e % 0x1000 = 0x18 := by simp only [ENG_EVSET]; omega
  have hidx : (ENG_EVSET e - 0x200000) / 0x1000 = e := by simp only [ENG_EVSET]; omega
  simp only [State.hookEngine, hoff, hidx]

section
variable (s : State) (req : Req) (e : Fin 16)

section
variable (hg : s.granted req (ENG_CTRL e)) (h0 : s.rd (ENG_CTRL e) = 0)
include hg h0

theorem State.engCtrl_write (x : Field) (hx : x.addr = ENG_CTRL e) (v : Nat) : ∃ l, s.begin.busField req x v =
    (s.begin.withUnlocks l).hookEngine (ENG_CTRL e) (putBits 0 x.hi x.lo v &&& 3) := by
  obtain ⟨l, hl⟩ := s.busReg_granted req (ENG_CTRL e) (putBits 0 x.hi x.lo v) 3 (engCtrl_plain e) hg
  refine ⟨l, ?_⟩
  have hblock : ENG_CTRL e / 0x10000 = 0x20 := by simp only [ENG_CTRL]; omega
  rw [State.hook_engine _ _ _ _ hblock, h0] at hl
  rw [State.busField, hx, show s.begin.rd (ENG_CTRL e) = 0 from h0, hl]
  exact congrArg _ ((congrArg (· ||| _) (BitVec.zero_and)).trans BitVec.zero_or)

theorem State.exec_engStart : ∃ l, exec (.engStart req e) s = .next ((s.begin.withUnlocks l).engStart e) := by
  obtain ⟨l, hl⟩ := s.engCtrl_write req e hg h0 (ENG_CTRL_START e) rfl 1
  exact ⟨l, congrArg Host.Outcome.next (hl.trans (State.hookEngine_start _ e))⟩

theorem State.exec_engStop : ∃ l, exec (.engStop req e) s = .next ((s.begin.withUnlocks l).engStop e) := by
  obtain ⟨l, hl⟩ := s.engCtrl_write req e hg h0 (ENG_CTRL_STOP e) rfl 1
  exact ⟨l, congrArg Host.Outcome.next (hl.trans (State.hookEngine_stop _ e))⟩

end

theorem State.exec_engEvset (v : Word) (hup : s.reaches req (ENG_EVSET e)) :
    ∃ l, exec (.engEvset req e v) s = .next ((s.begin.withUnlocks l).engEvset e (v.toNat % 256)) := by
  obtain ⟨l, hl⟩ := s.busReg_reaches req (ENG_EVSET e) v 0xFF (engEvset_plain e) hup
  have hblock : ENG_EVSET e / 0x10000 = 0x20 := by simp only [ENG_EVSET]; omega
  rw [State.hook_engine _ _ _ _ hblock, State.hookEngine_evset, bits_masked _ v 0xFF 7 0 (by decide) (by decide)] at hl
  have hbits : bits v.toNat 7 0 = v.toNat % 256 := by simp [bits]
  rw [hbits] at hl
  exact ⟨l, congrArg Host.Outcome.next hl⟩

end

/-- A started engine, suspended in PARKED. -/
def Engine.started (x : Engine) (tb : Nat) (entry : BitVec 16) (ap : Nat) (park : Bool) : Engine :=
  { x.start tb entry ap with suspended := park, parkTb := if park then tb else 0 }

section
variable (s : State) (e : Nat)

theorem State.engStart_ignored (h : (s.eng e).running = true ∨ 14 ≤ e) : s.engStart e = s := by
  rw [State.engStart, if_pos (by rcases h with h | h <;> simp [h])]

theorem State.engStop_ignored (h : 14 ≤ e ∨ (s.eng e).running = false) : s.engStop e = s := by
  rw [State.engStop, if_pos (by rcases h with h | h <;> simp [h])]

section
variable (he : e < 14)
include he

theorem State.engStart_runs (hr : (s.eng e).running = false) (hm : s.mayStart e = true) : s.engStart e =
    s.modEng e (·.started s.tb (BitVec.ofNat 16 (4 * s.f (ENG_ENTRY_ENTRY e))) (s.rd64 (ENG_AP_LO e)) (s.b SYS_PWR_CTRL_PARKED)) := by
  rw [State.engStart, if_neg (by simp [hr]; omega), if_pos hm, State.engRun, decide_eq_true he, Bool.and_true]
  rfl

theorem State.engStart_refused (hr : (s.eng e).running = false) (hm : s.mayStart e = false) : s.engStart e = s.raise 4 e := by
  rw [State.engStart, if_neg (by simp [hr]; omega), if_neg (by simp [hm])]

theorem State.engStop_runs (hr : (s.eng e).running = true) : s.engStop e = s.modEng e fun x =>
    if x.loading || x.lining then { x with stopAsked := true } else x.halt s.tb 2 := by
  rw [State.engStop, if_neg (by simp [hr]; omega)]
  by_cases h : ((s.eng e).loading || (s.eng e).lining) = true
  · rw [if_pos h, State.modEng, State.modEng, if_pos h]
  · rw [if_neg h, State.modEng, State.modEng, if_neg h]

end

/-- A change of engine e reaches no other. -/
theorem State.modEng_other (c : Nat) (g : Engine → Engine) (h : c ≠ e) : (s.modEng e g).eng c = s.eng c := by
  rw [State.modEng_eng, if_neg (Ne.symm h)]

theorem State.modEng_same (g : Engine → Engine) : (s.modEng e g).eng e = g (s.eng e) := by rw [State.modEng_eng, if_pos rfl]

theorem State.mayStart_iff : s.mayStart e = true ↔
    bitAt (s.f SYS_ENG_STAT_VERIFIED) e = true ∧ (s.fuses.regulated = true → (s.eng e).checked = true) := by
  simp [State.mayStart, imp_iff_not_or]

/-- A refused START latches source 4 for the engine and starts nothing. -/
theorem State.raise4_shows (he : e < 16) (hf : s.b DBG_STAT_FROZEN = false) : ((s.raise 4 e).eng e).running = (s.eng e).running ∧
    (s.raise 4 e).b (FLT_SRC_LATCHED 4) = true ∧ (s.raise 4 e).rn (FLT_INFO 4) = e := by
  refine ⟨?_, s.raise_latched 4 e (by decide) hf, ?_⟩
  · rw [s.raise_eng 4 e e hf]
    split <;> rfl
  · rw [State.rn, s.raise_info 4 e (by decide) hf]
    exact Nat.mod_eq_of_lt (by omega)

theorem State.engEvset_taken (ev : Nat) (h1 : 128 ≤ ev) (h2 : ev ≤ 191) : s.engEvset e ev = s.engEvents ev (xCopies e) := by
  rw [State.engEvset, if_pos (by simp [h1, h2])]

theorem xCopies_nodup : (xCopies e).Nodup := by
  rcases xCopies_cases e with ⟨-, h, -⟩ | ⟨-, h, -⟩ <;> simp [h]

/-- Events reach the engines alone. -/
theorem State.engEvents_keeps {α : Type} (π : State → α) (h : ∀ (s : State) i v, π (s.setEng i v) = π s) (ev : Nat) (es : List Nat) :
    π (s.engEvents ev es) = π s :=
  State.forEach_keeps π es _ (fun s _ _ => h s _ _) s

end

end Sys2Proof.Machine

open Sys2Proof Sys2Proof.Machine
open Sys2Proof.Machine.Reg Sys2Proof.Machine.Fld

/-- Settles O59: nothing is listed at reset, so that every register reads its reset value. -/
theorem resetIsCanonical : Obligations.ResetIsCanonical := by
  unfold Obligations.ResetIsCanonical
  exact ⟨rfl, rfl, fun _ => rfl⟩

/-- Settles O20: a granted write of START or STOP is the engine's own start or stop, which changes that engine alone or, where START is turned away,
latches source 4; EVSET is an event of each copy. -/
theorem engineCommands : Obligations.EngineCommands := by
  unfold Obligations.EngineCommands
  intro req e v s
  dsimp only
  refine ⟨fun hg h0 => ?ctrl, fun hup h1 h2 => ?evset⟩
  case ctrl =>
    obtain ⟨l, hstart⟩ := s.exec_engStart req e hg h0
    obtain ⟨k, hstop⟩ := s.exec_engStop req e hg h0
    have hblock : ENG_CTRL e / 0x10000 ≠ 0x10 := by simp only [ENG_CTRL]; omega
    have hf : s.b DBG_STAT_FROZEN = false := s.frozen_of_asleep (s.awake_of_reaches req _ hg.1 hblock)
    refine ⟨fun he hr hm => ?starts, fun he hr hm => ?refuses, fun h => ?startIgnored, fun h => ?stopIgnored, fun he hr => ?stops⟩
    case starts =>
      rw [(s.begin.withUnlocks l).engStart_runs e he hr ((s.mayStart_iff e).2 hm)] at hstart
      exact ⟨_, hstart, rfl, rfl, fun c hc => State.modEng_other _ e c _ hc, State.modEng_same _ e _⟩
    case refuses =>
      rw [(s.begin.withUnlocks l).engStart_refused e he hr (Bool.eq_false_iff.2 fun h => hm ((s.mayStart_iff e).1 h))] at hstart
      obtain ⟨hrun, hlatched, hinfo⟩ := (s.begin.withUnlocks l).raise4_shows e e.isLt hf
      exact ⟨_, hstart, hrun.trans hr, hlatched, hinfo⟩
    case startIgnored =>
      rw [(s.begin.withUnlocks l).engStart_ignored e h] at hstart
      exact ⟨_, hstart, rfl, rfl, rfl⟩
    case stopIgnored =>
      rw [(s.begin.withUnlocks k).engStop_ignored e h] at hstop
      exact ⟨_, hstop, rfl, rfl, rfl⟩
    case stops =>
      rw [(s.begin.withUnlocks k).engStop_runs e he hr] at hstop
      refine ⟨_, hstop, rfl, rfl, fun c hc => State.modEng_other _ e c _ hc, ?_⟩
      rw [State.modEng_same]
      show _ ∧ _ ∧ _ ∧ if ((s.eng e).loading || (s.eng e).lining) = true then _ else _
      have heng : (s.begin.withUnlocks k).eng e = s.eng e := rfl
      rw [heng]
      by_cases hs : ((s.eng e).loading || (s.eng e).lining) = true
      · rw [if_pos hs, if_pos hs]
        exact ⟨rfl, rfl, rfl, rfl⟩
      · rw [if_neg hs, if_neg hs]
        exact ⟨rfl, rfl, rfl, rfl, rfl, rfl⟩
  case evset =>
    obtain ⟨l, hl⟩ := s.exec_engEvset req e v hup
    rw [(s.begin.withUnlocks l).engEvset_taken e _ h1 h2] at hl
    exact ⟨_, hl, State.engEvents_keeps _ State.mem (fun _ _ _ => rfl) _ _, State.engEvents_keeps _ State.regs (fun _ _ _ => rfl) _ _,
      fun c => State.engEvents_eng _ _ _ (xCopies_nodup e) c⟩
end

section
/-!
PROOFS. BootRom.lean (O24): the steps of the boot ROM, the checks of Table 3.4, HOST_GO, CFG_READY and configuration requests.
-/

namespace Sys2Proof.Machine
open Reg Fld

/-! A failed boot (R89) -/

/-- What a boot that failed with a code shows. -/
def State.failedWith (t : State) (code : Nat) : Prop :=
  t.f SYS_BOOT_STAT_STAGE = 4 ∧ t.f SYS_BOOT_STAT_FAIL_CODE = code ∧ t.b SYS_BOOT_STAT_CFG_READY = true ∧ t.errPin = true ∧
  ∀ e < 16, (t.eng e).running = false

theorem State.haltAll_keeps {α : Type} (π : State → α) (h : ∀ (s : State) i v, π (s.setEng i v) = π s) (s : State) : π s.haltAll = π s :=
  State.forEach_keeps π _ _ (fun s _ _ => State.when_keeps π _ _ (fun s => h s _ _) s) s

theorem State.haltAll_halts (s : State) : ∀ e ∈ allEngines, (s.haltAll.eng e).running = false := by
  refine State.forEach_each State.eng (fun _ y => y.running = false) _ List.nodup_range _ (fun s e _ => ?_)
    (fun s e _ j _ hj => (s.when_modEng_eng _ e j _).trans (if_neg fun h => hj h.2.symm)) s
  rw [s.when_modEng_eng _ e e]
  by_cases h : (s.eng e).running = true
  · rw [if_pos ⟨h, rfl⟩]
    rfl
  · rw [if_neg fun hh => h hh.1]
    exact Bool.eq_false_iff.2 h

theorem State.cfgReadySet_f (s : State) (x : Field) (hx : x.addr ≠ SYS_BOOT_STAT ∨ (16 < x.lo ∨ x.hi < 16) ∧ x.hi < 32) :
    s.cfgReadySet.f x = s.f x := by
  rcases hx with h | ⟨h, h32⟩
  · exact State.f_setF_other _ _ _ _ (Ne.symm h)
  · exact State.f_setF_apart _ _ _ _ (by decide) h32 h

theorem State.cfgReadySet_set (s : State) : s.cfgReadySet.b SYS_BOOT_STAT_CFG_READY = true := State.b_setB_same _ _ _ rfl (by decide)

/-- The boot status as a failed boot leaves it, before the engines halt. -/
def State.failing (s : State) (code : Nat) : State := (s.setF SYS_BOOT_STAT_FAIL_CODE code).setF SYS_BOOT_STAT_STAGE 4

theorem State.bootFail_eq (s : State) (code : Nat) : s.bootFail code = (s.failing code).errDrive.cfgReadySet.haltAll := rfl

theorem State.failing_stage (s : State) (code : Nat) : (s.failing code).f SYS_BOOT_STAT_STAGE = 4 :=
  State.f_setF_same _ _ _ (by decide) (by decide)

theorem State.failing_code (s : State) (code : Nat) (hc : code < 16) : (s.failing code).f SYS_BOOT_STAT_FAIL_CODE = code := by
  rw [State.failing, State.f_setF_apart _ _ _ _ (by decide) (by decide) (by decide), State.f_setF_same _ _ _ (by decide) (by decide)]
  exact Nat.mod_eq_of_lt hc

/-- ERR_N is low where no first stage runs. -/
theorem State.errDrive_low (s : State) (ha : s.power.aonRuns = true) (hf : s.firmware = false) : s.errDrive.errPin = true := by
  rw [State.errPin, State.errDrive, State.b_setB_same _ _ _ rfl (by decide), ha, hf]
  rfl

/-- A failed boot shows its code. -/
theorem State.bootFail_code (s : State) (code : Nat) (hc : code < 16) : (s.bootFail code).f SYS_BOOT_STAT_FAIL_CODE = code := by
  have hrd := State.haltAll_keeps (·.rd SYS_BOOT_STAT) (fun _ _ _ => rfl) (s.failing code).errDrive.cfgReadySet
  rw [State.bootFail_eq, State.f_congr SYS_BOOT_STAT_FAIL_CODE hrd, State.cfgReadySet_f _ _ (.inr (by decide)), State.errDrive, State.setB,
    State.f_setF_other _ _ _ _ (by decide), State.failing_code s code hc]

theorem State.bootFail_failed (s : State) (code : Nat) (hc : code < 16) (ha : s.power.aonRuns = true) : (s.bootFail code).failedWith code := by
  have hrd := fun a => State.haltAll_keeps (·.rd a) (fun _ _ _ => rfl) (s.failing code).errDrive.cfgReadySet
  have hf : ∀ x, (s.bootFail code).f x = (s.failing code).errDrive.cfgReadySet.f x := fun x => State.f_congr x (hrd x.addr)
  have hb : ∀ x, (s.bootFail code).b x = (s.failing code).errDrive.cfgReadySet.b x := fun x => State.b_congr x (hrd x.addr)
  have hfirm : (s.failing code).firmware = false := by rw [State.firmware, State.failing_stage]; rfl
  refine ⟨?stage, s.bootFail_code code hc, ?ready, ?err, fun e he => State.haltAll_halts _ e (List.mem_range.2 he)⟩
  case stage =>
    rw [hf, State.cfgReadySet_f _ _ (.inr (by decide)), State.errDrive, State.setB, State.f_setF_other _ _ _ _ (by decide), State.failing_stage]
  case ready => rw [hb, State.cfgReadySet_set]
  case err =>
    rw [State.errPin, hb, State.b, State.cfgReadySet_f _ _ (.inl (by decide)), ← State.b]
    exact State.errDrive_low _ ha hfirm

theorem State.bootFail_mem (s : State) (code : Nat) : (s.bootFail code).mem = s.mem := by
  rw [s.bootFail_eq, State.haltAll_keeps State.mem fun _ _ _ => rfl]
  rfl

theorem State.aonRuns_of_awake (s : State) (h : s.asleep = false) : s.power.aonRuns = true := by
  simp only [State.asleep, State.inReset, Bool.or_eq_false_iff, Bool.not_eq_false'] at h
  exact h.2.2

/-! The fuses are read (Table 3.5 step 2) -/

theorem slice_length (bs : List Byte) (off len : Nat) : (slice bs off len).length = len := by
  simp only [slice, List.length_append, List.length_replicate, List.length_take]
  omega

/-- The mirror of the fuses is in the SEC_FUSE registers, SEC_STAT.REGULATED and SYS_BOOT_STAT.REGULATED. -/
theorem State.showFuses_keeps {α : Type} (π : State → α) (hw : ∀ (s : State) i v, i < 64 → π (s.wr (SEC_FUSE i) v) = π s)
    (hs : ∀ (s : State) v, π (s.setB SEC_STAT_REGULATED v) = π s) (hb : ∀ (s : State) v, π (s.setB SYS_BOOT_STAT_REGULATED v) = π s)
    (s : State) : π s.showFuses = π s := by
  have hkey : ∀ (s : State), ∀ n ∈ List.range 4, ∀ k, π (s.putBytes (SEC_FUSE (8 + 12 * n)) (slice k 0 48)) = π s := fun s n hn k =>
    State.putBytes_keeps π _ _ (fun s i v hi => by
      rw [slice_length] at hi
      have hn := List.mem_range.1 hn
      rw [show SEC_FUSE (8 + 12 * n) + 4 * i = SEC_FUSE (8 + 12 * n + i) by simp only [SEC_FUSE]; omega]
      exact hw s _ v (by omega)) s
  have hroot : ∀ (s : State) k, π (s.putBytes (SEC_FUSE 56) (slice k 0 32)) = π s := fun s k =>
    State.putBytes_keeps π _ _ (fun s i v hi => by
      rw [slice_length] at hi
      rw [show SEC_FUSE 56 + 4 * i = SEC_FUSE (56 + i) by simp only [SEC_FUSE]; omega]
      exact hw s _ v (by omega)) s
  refine (hb _ _).trans <| (hs _ _).trans <| (hroot _ _).trans <| (State.forEach_keeps π _ _ (fun s n hn => hkey s n hn _) _).trans ?_
  exact (hw _ 7 _ (by decide)).trans <| (hw _ 6 _ (by decide)).trans <| (hw _ 5 _ (by decide)).trans <| (hw _ 4 _ (by decide)).trans <|
    (hw _ 3 _ (by decide)).trans <| (hw _ 2 _ (by decide)).trans <| (hw _ 1 _ (by decide)).trans <| hw _ 0 _ (by decide)

theorem State.showFuses_fuses (s : State) : s.showFuses.fuses = s.fuses :=
  State.showFuses_keeps State.fuses (fun _ _ _ _ => rfl) (fun _ _ => rfl) (fun _ _ => rfl) s

/-- The registers of the mirror, before the two REGULATED bits follow the fuses. -/
def State.fuseWords (s : State) : State :=
  let w0 := b2n s.fuses.regulated + s.fuses.revoke.toNat * 16 + s.fuses.tamperUnused.toNat * 256
  let w1 := (s.policyOf 0).toNat + (s.policyOf 1).toNat * 16 + (s.policyOf 2).toNat * 256
  let s := (s.wn (SEC_FUSE 0) w0).wn (SEC_FUSE 1) w1
  let s := (s.wn (SEC_FUSE 2) s.fuses.rollback).wn (SEC_FUSE 3) s.fuses.hwm
  let s := (s.wn (SEC_FUSE 4) s.fuses.devkeyUsed.toNat).wr (SEC_FUSE 5) s.fuses.subsys
  let s := s.wr64 (SEC_FUSE 6) s.fuses.dsn.toNat
  let s := s.forEach (List.range 4) fun s n => s.putBytes (SEC_FUSE (8 + 12 * n)) (s.keyHash n)
  s.putBytes (SEC_FUSE 56) s.supplyRoot

theorem State.showFuses_eq (s : State) : s.showFuses =
    (s.fuseWords.setB SEC_STAT_REGULATED s.fuseWords.fuses.regulated).setB SYS_BOOT_STAT_REGULATED s.fuseWords.fuses.regulated := rfl

theorem State.showFuses_regulated (s : State) : s.showFuses.b SEC_STAT_REGULATED = s.fuses.regulated := by
  have hkept : s.fuseWords.fuses = s.fuses := s.showFuses_fuses
  rw [s.showFuses_eq, State.b_setB_other _ _ _ _ (by decide), State.b_setB_same _ _ _ rfl (by decide), hkept]

/-- A part of the state that the Quartz store's and the Geode's first steps after a reset do not reach. -/
structure State.BootApart {α : Type} (π : State → α) : Prop where
  wr : ∀ (s : State) a v, 0xD0000 ≤ a → a < 0xF0000 → a ≠ SEC_STAT → π (s.wr a v) = π s
  raise : ∀ (s : State) src info, π (s.raise src info) = π s
  raiseLive : ∀ (s : State), π (s.raiseLive 101 0) = π s
  quartz : ∀ (s : State) q, π { s with quartz := q } = π s
  ledger : ∀ (s : State) l, π { s with ledger := l } = π s
  mark : ∀ (s : State) n g, π { s with fuses := { s.fuses with hwm := n }, geode := g } = π s

namespace State.BootApart
variable {α : Type} {π : State → α} (h : State.BootApart π)
include h

theorem putBytes (s : State) (a : Nat) (bs : List Byte) (h1 : 0xD0000 ≤ a) (h2 : a + bs.length + 4 ≤ 0xE0000 ∨ 0xE0000 < a ∧ a + bs.length + 4 ≤ 0xF0000) :
    π (s.putBytes a bs) = π s :=
  State.putBytes_keeps π a bs (fun s i v hi => h.wr s _ v (by omega) (by omega) (by simp only [SEC_STAT]; omega)) s

theorem qzLoad (s : State) : π s.qzLoad = π s := by
  have hofs : ∀ (s : State) i v, i < 12 → π (s.wn (CAL_ADCOFS i) v) = π s := fun s i v hi =>
    h.wr s _ _ (by simp only [CAL_ADCOFS]; omega) (by simp only [CAL_ADCOFS]; omega) (by simp only [CAL_ADCOFS, SEC_STAT]; omega)
  simp only [State.qzLoad]
  split
  · rw [State.forEach_keeps π _ _ fun s k hk => hofs s _ _ (by have := List.mem_range.1 hk; omega),
      State.forEach_keeps π _ _ fun s k hk => hofs s _ _ (by have := List.mem_range.1 hk; omega)]
    refine (h.wr _ _ _ (by decide) (by decide) (by decide)).trans ((h.wr _ _ _ (by decide) (by decide) (by decide)).trans ?_)
    refine h.putBytes _ _ _ (by decide) (.inl ?_)
    rw [State.qzSlot, List.length_map, List.length_range]
    decide
  · refine (h.wr _ _ _ (by decide) (by decide) (by decide)).trans ((h.wr _ _ _ (by decide) (by decide) (by decide)).trans ?_)
    exact h.putBytes _ _ _ (by decide) (.inl (by simp only [zeros, List.length_replicate]; decide))

theorem qzSelect (s : State) : π s.qzSelect = π s := by
  have hshown : ∀ s : State, π s.qzLoad.qzShow = π s := fun s => (h.wr _ _ _ (by decide) (by decide) (by decide)).trans (h.qzLoad s)
  simp only [State.qzSelect]
  rw [State.when_keeps π _ _ fun s => h.raise s _ _, hshown]
  split
  · exact h.quartz _ _
  · rfl

theorem unwrap (s : State) : π s.unwrap = π s := by
  have hlost : ∀ s : State, π s.keyLost = π s := fun s => (h.raise _ _ _).trans (h.wr _ _ _ (by decide) (by decide) (by decide))
  have huse : ∀ (s : State) k, π (s.useKey k) = π s := fun s k => by
    refine (h.wr _ _ _ (by decide) (by decide) (by decide)).trans (h.putBytes _ _ _ (by decide) (.inr ?_))
    rw [slice_length]
    decide
  simp only [State.unwrap]
  split
  · split
    · split
      · exact huse _ _
      · exact hlost _
    · rfl
  · exact State.when_keeps π _ _ hlost s

theorem resumeNext (s : State) (hshow : ∀ s : State, π s.showFuses = π s) : π s.resumeNext = π s := by
  simp only [State.resumeNext]
  split
  · split
    · exact (hshow _).trans (h.mark s _ _)
    · exact (h.raiseLive _).trans ((h.wr _ _ _ (by decide) (by decide) (by decide)).trans (h.ledger s _))
  · rfl

end State.BootApart

/-- The part as the fuses come. -/
def State.fusesGot (s : State) : State := { s with boot := { s.boot with fusesRead := true } }

/-- The part once the fuses, the Quartz store and the vault have been read. -/
def State.storesRead (s : State) : State :=
  let t := s.fusesGot.showFuses.qzSelect.unwrap.resumeNext
  { t with power := { t.power with por := false } }

/-- The steps of the read keep a part that neither they nor the mirror of the fuses reach. -/
theorem State.BootApart.storesRead {α : Type} {π : State → α} (h : State.BootApart π) (hshow : ∀ s : State, π s.showFuses = π s)
    (hboot : ∀ (s : State) b, π { s with boot := b } = π s) (hpor : ∀ s : State, π { s with power := { s.power with por := false } } = π s)
    (s : State) : π s.storesRead = π s := by
  rw [State.storesRead, hpor, h.resumeNext _ hshow, h.unwrap, h.qzSelect, hshow]
  exact hboot s _

theorem State.raise_fuses (s : State) (src info : Nat) : (s.raise src info).fuses = s.fuses :=
  State.raise_keeps State.fuses s src info <|
    State.Apart.raiseWith_keeps (W := fun _ => True) (by constructor <;> intros <;> rfl) .all s false src info (fun _ _ _ => rfl) fun _ _ => trivial

/-- A part of the state apart from registers that a latch leaves is apart. -/
theorem State.bootApart_of {α : Type} (π : State → α) (hw : ∀ (s : State) a v, π (s.wr a v) = π s)
    (hr : ∀ (s : State) src info, π (s.raise src info) = π s) (hq : ∀ (s : State) q, π { s with quartz := q } = π s)
    (hl : ∀ (s : State) l, π { s with ledger := l } = π s)
    (hm : ∀ (s : State) n g, π { s with fuses := { s.fuses with hwm := n }, geode := g } = π s) : State.BootApart π where
  wr s a v _ _ _ := hw s a v
  raise := hr
  raiseLive := State.raiseLive_keeps π 101 0 (fun s a v _ => hw s a v) (fun s => hr s 101 0)
  quartz := hq
  ledger := hl
  mark := hm

theorem State.bootApart_mem : State.BootApart State.mem :=
  State.bootApart_of _ (fun _ _ _ => rfl) State.raise_mem (fun _ _ => rfl) (fun _ _ => rfl) (fun _ _ _ => rfl)

theorem State.bootApart_aonRuns : State.BootApart fun s => s.power.aonRuns :=
  State.bootApart_of _ (fun _ _ _ => rfl) (fun s src info => congrArg Power.aonRuns (s.raise_power src info)) (fun _ _ => rfl)
    (fun _ _ => rfl) (fun _ _ _ => rfl)

theorem State.bootApart_regulated : State.BootApart fun s => s.fuses.regulated :=
  State.bootApart_of _ (fun _ _ _ => rfl) (fun s src info => congrArg Fuses.regulated (s.raise_fuses src info)) (fun _ _ => rfl) (fun _ _ => rfl)
    (fun _ _ _ => rfl)

theorem State.bootApart_rd (b : Nat) (hb : b < 0x30000 ∨ b = SEC_STAT) : State.BootApart fun s => s.rd b := by
  have hreach : raiseReach b = false := by
    rcases hb with h | rfl
    · simp only [raiseReach]
      simp
      omega
    · rfl
  have hraise : ∀ (s : State) src info, (s.raise src info).rd b = s.rd b := fun s src info => s.raise_rd src info b hreach
  refine ⟨fun s a v h1 h2 h3 => State.rd_wr_ne _ _ _ _ ?_, hraise, State.raiseLive_keeps (fun s => s.rd b) 101 0
    (fun s a v ha => State.rd_wr_ne _ _ _ _ ?_) (fun s => hraise s 101 0), fun _ _ => rfl, fun _ _ => rfl, fun _ _ _ => rfl⟩
  · rcases hb with h | rfl
    · omega
    · exact h3
  · simp only [FLT_SRC, FLT_LIVE_SUM] at ha
    simp only [SEC_STAT] at hb
    omega

theorem State.storesRead_mem (s : State) : s.storesRead.mem = s.mem :=
  State.bootApart_mem.storesRead (State.showFuses_keeps State.mem (fun _ _ _ _ => rfl) (fun _ _ => rfl) (fun _ _ => rfl)) (fun _ _ => rfl)
    (fun _ => rfl) s

theorem State.storesRead_aonRuns (s : State) : s.storesRead.power.aonRuns = s.power.aonRuns :=
  State.bootApart_aonRuns.storesRead (State.showFuses_keeps (fun s => s.power.aonRuns) (fun _ _ _ _ => rfl) (fun _ _ => rfl) (fun _ _ => rfl))
    (fun _ _ => rfl) (fun _ => rfl) s

theorem State.bootApart_bootSel : State.BootApart fun s => s.f SYS_BOOT_STAT_BOOT_SEL := by
  have hrd := State.bootApart_rd SYS_BOOT_STAT (.inl (by decide))
  exact ⟨fun s a v h1 h2 h3 => State.f_congr _ (hrd.wr s a v h1 h2 h3), fun s src info => State.f_congr _ (hrd.raise s src info),
    fun s => State.f_congr _ (hrd.raiseLive s), fun _ _ => rfl, fun _ _ => rfl, fun _ _ _ => rfl⟩

theorem State.showFuses_bootSel (s : State) : s.showFuses.f SYS_BOOT_STAT_BOOT_SEL = s.f SYS_BOOT_STAT_BOOT_SEL := by
  refine State.showFuses_keeps (fun s => s.f SYS_BOOT_STAT_BOOT_SEL) (fun s i v hi => ?_) (fun s v => ?_) (fun s v => ?_) s
  · exact State.f_congr _ (State.rd_wr_ne _ _ _ _ (by simp only [SEC_FUSE, SYS_BOOT_STAT_BOOT_SEL, SYS_BOOT_STAT]; omega))
  · exact State.f_setF_other _ _ _ _ (by decide)
  · exact State.f_setF_apart _ _ _ _ (by decide) (by decide) (by decide)

theorem State.storesRead_bootSel (s : State) : s.storesRead.f SYS_BOOT_STAT_BOOT_SEL = s.f SYS_BOOT_STAT_BOOT_SEL :=
  State.bootApart_bootSel.storesRead State.showFuses_bootSel (fun _ _ => rfl) (fun _ => rfl) s

theorem State.storesRead_regulated (s : State) : s.storesRead.b SEC_STAT_REGULATED = s.fuses.regulated := by
  have hb := State.bootApart_rd SEC_STAT (.inr rfl)
  have hr := State.bootApart_regulated
  have hfuses : s.fusesGot.showFuses.qzSelect.unwrap.fuses.regulated = s.fuses.regulated := by
    rw [hr.unwrap, hr.qzSelect, State.showFuses_fuses]
    rfl
  have hshown : s.fusesGot.showFuses.qzSelect.unwrap.b SEC_STAT_REGULATED = s.fuses.regulated :=
    (State.b_congr SEC_STAT_REGULATED ((hb.unwrap _).trans (hb.qzSelect _))).trans s.fusesGot.showFuses_regulated
  show s.fusesGot.showFuses.qzSelect.unwrap.resumeNext.b SEC_STAT_REGULATED = s.fuses.regulated
  rw [State.resumeNext]
  split
  · split
    · exact (State.showFuses_regulated _).trans hfuses
    · exact (State.b_congr _ ((hb.raiseLive _).trans (hb.wr _ _ _ (by decide) (by decide) (by decide)))).trans hshown
  · exact hshown

/-! The steps of the boot ROM (Table 3.5) -/

/-- A read of the flash goes out where the boot has not failed. -/
theorem State.flashRead_out (s : State) (a : Nat) (h : s.f SYS_BOOT_STAT_STAGE = 1) : (s.flashRead a).out = .qspi 0x6C a 4 8 131072 :: s.out := by
  have hf : s.bootFailed = false := by rw [State.bootFailed, h]; rfl
  rw [State.flashRead, State.emit, State.emitHeld, if_neg (by simp [Out.still, Out.fires, hf])]

theorem State.flashRead_keeps {α : Type} (π : State → α) (hout : ∀ (s : State) o w t, π { s with out := o, wire := w, lineTx := t } = π s)
    (s : State) (a : Nat) : π (s.flashRead a) = π s := State.emit_keeps π hout s _

/-- Where the boot ROM goes for an image, as BOOT_SEL names it (Table 3.3). -/
def State.bootSource (s : State) : State :=
  match s.f SYS_BOOT_STAT_BOOT_SEL with
  | 2 => s.cfgReadySet.setF SYS_BOOT_STAT_STAGE 5
  | 3 => s.bootFail 9
  | _ => (s.setF SYS_BOOT_STAT_STAGE 1).flashRead 0

section
variable (s : State)

theorem State.setStage_stage (n : Nat) (hn : n < 16) : (s.setF SYS_BOOT_STAT_STAGE n).f SYS_BOOT_STAT_STAGE = n :=
  (State.f_setF_same _ _ _ (by decide) (by decide)).trans (Nat.mod_eq_of_lt hn)

section
variable (hs : s.boot.started = true) (hr : s.boot.fusesRead = false) (h0 : s.f SYS_BOOT_STAT_STAGE = 0)
include hs hr h0

theorem State.fusesIn_error : s.fusesIn true = s.bootFail 10 := by
  rw [State.fusesIn, if_neg (by simp [hs, hr, h0]), if_pos rfl]

/-- The fuses come without an error: the boot ROM goes to its source. -/
theorem State.fusesIn_read : s.fusesIn false = s.storesRead.bootSource := by
  rw [State.fusesIn, if_neg (by simp [hs, hr, h0]), if_neg Bool.false_ne_true]
  rfl

end

theorem State.bootSource_flash (h : s.f SYS_BOOT_STAT_BOOT_SEL < 2) : s.bootSource = (s.setF SYS_BOOT_STAT_STAGE 1).flashRead 0 := by
  rw [State.bootSource]
  split
  · omega
  · omega
  · rfl

theorem State.bootSource_host (h : s.f SYS_BOOT_STAT_BOOT_SEL = 2) : s.bootSource = s.cfgReadySet.setF SYS_BOOT_STAT_STAGE 5 := by
  rw [State.bootSource, h]
  rfl

theorem State.bootSource_reserved (h : s.f SYS_BOOT_STAT_BOOT_SEL = 3) : s.bootSource = s.bootFail 9 := by
  rw [State.bootSource, h]
  rfl

/-- To a source the boot ROM leaves memory and SEC_STAT. -/
theorem State.bootSource_keeps {α : Type} (π : State → α) (hout : ∀ (s : State) o w t, π { s with out := o, wire := w, lineTx := t } = π s)
    (hw : ∀ (s : State) a v, a = SYS_BOOT_STAT ∨ a = FLT_STAT → π (s.wr a v) = π s) (hlock : ∀ (s : State) o, π { s with w1Locked := o } = π s)
    (heng : ∀ (s : State) i v, π (s.setEng i v) = π s) : π s.bootSource = π s := by
  rw [State.bootSource]
  split
  · exact (hw _ _ _ (.inl rfl)).trans ((hw _ _ _ (.inl rfl)).trans (hlock s _))
  · rw [State.bootFail_eq, State.haltAll_keeps π heng]
    exact (hw _ _ _ (.inl rfl)).trans ((hlock _ _).trans ((hw _ _ _ (.inr rfl)).trans ((hw _ _ _ (.inl rfl)).trans (hw _ _ _ (.inl rfl)))))
  · exact (State.flashRead_keeps π hout _ _).trans (hw _ _ _ (.inl rfl))

end

/-! The image in SPE DMEM (R83 to R88) -/

theorem dmemBase_15 : dmemBase 15 = dmemBase 14 + 0x40000 := by decide

/-- An image that fits stands in both copies of SPE DMEM. -/
theorem State.qspiIn_bytes (s : State) (im : List Byte) (hl : im.length ≤ 131072) (h1 : s.f SYS_BOOT_STAT_STAGE = 1) :
    s.qspiIn im = ((s.writeMem (dmemBase 14) im).writeMem (dmemBase 15) im).setF SYS_BOOT_STAT_STAGE 2 := by
  simp only [State.qspiIn, h1, if_true, List.take_of_length_le hl]

theorem State.bothCopies_byte (s : State) (im : List Byte) (hl : im.length ≤ 131072) (i : Nat) (hi : i < im.length) :
    ((s.writeMem (dmemBase 14) im).writeMem (dmemBase 15) im).byte (dmemBase 14 + i) = im.getD i 0 ∧
    ((s.writeMem (dmemBase 14) im).writeMem (dmemBase 15) im).byte (dmemBase 15 + i) = im.getD i 0 := by
  constructor
  · rw [State.byte_writeMem_out _ _ _ _ (.inl (by rw [dmemBase_15]; omega)), State.byte_writeMem, if_pos (by omega), Nat.add_sub_cancel_left]
    simp [hi]
  · rw [State.byte_writeMem, if_pos (by omega), Nat.add_sub_cancel_left]
    simp [hi]

/-- An image copied into engine e changes memory, the engine, and its ENTRY and SIGPAGES. -/
theorem State.putImage_keeps {α : Type} (π : State → α) (e : Nat) (hm : ∀ (s : State) m, π { s with mem := m } = π s)
    (hw : ∀ (s : State) a v, a = ENG_SIGPAGES e ∨ a = ENG_ENTRY e → π (s.wr a v) = π s) (he : ∀ (s : State) v, π (s.setEng e v) = π s)
    (s : State) (wipe : Bool) (im : List Byte) : π (s.putImage e wipe im) = π s :=
  (he _ _).trans <| (hm _ _).trans <| (State.when_keeps π _ _ (fun s => hm s _) _).trans <| (hw _ _ _ (.inr rfl)).trans <|
    (hw _ _ _ (.inl rfl)).trans (hm _ _)

/-- A measurement is the ledger's or kept, and counted in SEC_LD_STAT. -/
theorem State.measured_keeps {α : Type} (π : State → α) (hw : ∀ (s : State) v, π (s.wr SEC_LD_STAT v) = π s)
    (hl : ∀ (s : State) l, π { s with ledger := l } = π s) (hs : ∀ (s : State) x, π { s with sec := x } = π s)
    (s : State) (e : Nat) (body : List Byte) : π (s.measured e body) = π s := by
  rw [State.measured]
  split
  · exact hl _ _
  · exact (hw _ _).trans (hs _ _)

/-- The boot status as an accepted first stage shows it. -/
def State.stageShown (s : State) (im : List Byte) : State :=
  let noSig := s.unsigned
  let s := (s.setF SYS_BOOT_STAT_FAIL_CODE 0).setB SYS_BOOT_STAT_FALLBACK_USED s.boot.fallback
  let s := s.when (!noSig) (·.setF SYS_BOOT_STAT_KEY_SLOT (leAt im 9 1))
  (s.setB SYS_BOOT_STAT_UNSIGNED noSig).setF SYS_BOOT_STAT_STAGE 3

/-- The first stage measured, and loaded into both copies of the pair. -/
def State.stageLoaded (s : State) (im : List Byte) : State :=
  (((s.stageShown im).errDrive.measured 14 (imageBody im s.unsigned (s.stageShown im).errDrive.boot.fallback)).putImage 14 true im).putImage 15 true im

theorem State.stageRun_eq (s : State) (im : List Byte) : s.stageRun im =
    (((s.stageLoaded im).setF SYS_ENG_STAT_VERIFIED ((s.stageLoaded im).f SYS_ENG_STAT_VERIFIED ||| 0xC000)).engRun 14).engRun 15 := rfl

theorem State.stageShown_stage (s : State) (im : List Byte) : (s.stageShown im).f SYS_BOOT_STAT_STAGE = 3 :=
  State.setStage_stage _ 3 (by decide)

theorem State.stageShown_code (s : State) (im : List Byte) : (s.stageShown im).f SYS_BOOT_STAT_FAIL_CODE = 0 := by
  have hslot : ∀ t : State, (t.when (!s.unsigned) (·.setF SYS_BOOT_STAT_KEY_SLOT (leAt im 9 1))).f SYS_BOOT_STAT_FAIL_CODE =
      t.f SYS_BOOT_STAT_FAIL_CODE :=
    State.when_keeps (fun t => t.f SYS_BOOT_STAT_FAIL_CODE) _ _ fun t => State.f_setF_apart _ _ _ _ (by decide) (by decide) (by decide)
  rw [State.stageShown, State.f_setF_apart _ _ _ _ (by decide) (by decide) (by decide), State.setB,
    State.f_setF_apart _ _ _ _ (by decide) (by decide) (by decide), hslot, State.setB,
    State.f_setF_apart _ _ _ _ (by decide) (by decide) (by decide), State.f_setF_same _ _ _ (by decide) (by decide), Nat.zero_mod]

theorem State.engRun_rd (s : State) (e a : Nat) : (s.engRun e).rd a = s.rd a := rfl

theorem State.stageLoaded_rd (s : State) (im : List Byte) : (s.stageLoaded im).rd SYS_BOOT_STAT = (s.stageShown im).rd SYS_BOOT_STAT := by
  have hput : ∀ (s : State) (e : Nat), (s.putImage e true im).rd SYS_BOOT_STAT = s.rd SYS_BOOT_STAT := fun s e =>
    State.putImage_keeps (fun s => s.rd SYS_BOOT_STAT) e (fun _ _ => rfl)
      (fun s a v ha => State.rd_wr_ne _ _ _ _ (by simp only [ENG_SIGPAGES, ENG_ENTRY] at ha; simp only [SYS_BOOT_STAT]; omega))
      (fun _ _ => rfl) s true im
  rw [State.stageLoaded, hput, hput, State.measured_keeps (fun s => s.rd SYS_BOOT_STAT) (fun s v => State.rd_wr_ne _ _ _ _ (by decide))
    (fun _ _ => rfl) (fun _ _ => rfl)]
  exact State.rd_setF_other _ _ _ _ (by decide)

theorem State.stageRun_f (s : State) (im : List Byte) (x : Field) (hx : x.addr = SYS_BOOT_STAT) :
    (s.stageRun im).f x = (s.stageShown im).f x := by
  refine State.f_congr x ?_
  rw [hx, ← s.stageLoaded_rd im, State.stageRun_eq, State.engRun_rd, State.engRun_rd, State.rd_setF_other _ _ _ _ (by decide)]

theorem State.engRun_running (s : State) (e : Nat) : ((s.engRun e).eng e).running = true := by
  rw [State.engRun, State.modEng_same]
  rfl

theorem State.stageRun_engines (s : State) (im : List Byte) :
    ∀ e ∈ [14, 15], ((s.stageRun im).eng e).running = true ∧ bitAt ((s.stageRun im).f SYS_ENG_STAT_VERIFIED) e = true := by
  have hver : (s.stageRun im).f SYS_ENG_STAT_VERIFIED = ((s.stageLoaded im).f SYS_ENG_STAT_VERIFIED ||| 0xC000) % 2 ^ 16 := by
    rw [State.stageRun_eq, State.f, State.engRun_rd, State.engRun_rd, ← State.f, State.f_setF_same _ _ _ (by decide) (by decide)]
    rfl
  have hbit : ∀ e ∈ [14, 15], bitAt ((s.stageRun im).f SYS_ENG_STAT_VERIFIED) e = true := fun e he => by
    rw [hver, bitAt_eq, Nat.testBit_mod_two_pow, Nat.testBit_or, show (0xC000 : Nat).testBit e = true by revert e; decide, Bool.or_true,
      Bool.and_true]
    exact decide_eq_true ((show ∀ e ∈ [14, 15], e < 16 by decide) e he)
  refine fun e he => ⟨?_, hbit e he⟩
  rw [State.stageRun_eq]
  rcases List.mem_pair.1 he with rfl | rfl
  · rw [State.engRun, State.modEng_other _ _ _ _ (by decide)]
    exact State.engRun_running _ _
  · exact State.engRun_running _ _

section
variable (s : State) (code : Nat)

theorem State.stageFail_fallback (h0 : s.f SYS_BOOT_STAT_BOOT_SEL = 0) (hf : s.boot.fallback = false) : s.stageFail code =
    ((({ s with boot := { s.boot with fallback := true } } : State).setF SYS_BOOT_STAT_FAIL_CODE code).setF SYS_BOOT_STAT_STAGE 1).flashRead
      0x1000000 := by
  simp only [State.stageFail, h0, hf, decide_true, Bool.not_false, Bool.and_self, if_true]

theorem State.stageFail_host (h2 : s.f SYS_BOOT_STAT_BOOT_SEL = 2) :
    s.stageFail code = (s.setF SYS_BOOT_STAT_FAIL_CODE code).setF SYS_BOOT_STAT_STAGE 5 := by
  simp [State.stageFail, h2]

theorem State.stageFail_fails (h2 : s.f SYS_BOOT_STAT_BOOT_SEL ≠ 2) (h0 : s.f SYS_BOOT_STAT_BOOT_SEL = 0 → s.boot.fallback = true) :
    s.stageFail code = s.bootFail code := by
  simp only [State.stageFail, h2, if_false]
  rw [if_neg]
  rintro h
  simp only [Bool.and_eq_true, decide_eq_true_eq, Bool.not_eq_true'] at h
  exact absurd (h0 h.1) (by simp [h.2])

end

theorem State.stageCheck_runs (s : State) (h2 : s.f SYS_BOOT_STAT_STAGE = 2)
    (hc : s.imageCode true (s.readMem (dmemBase 14) 131072) = 0) : s.stageCheck = s.stageRun (s.readMem (dmemBase 14) 131072) :=
  (if_pos h2).trans (if_pos hc)

theorem State.stageCheck_fails (s : State) (h2 : s.f SYS_BOOT_STAT_STAGE = 2)
    (hc : s.imageCode true (s.readMem (dmemBase 14) 131072) ≠ 0) :
    s.stageCheck = s.stageFail (s.imageCode true (s.readMem (dmemBase 14) 131072)) := (if_pos h2).trans (if_neg hc)

theorem State.begin_imageCode (s : State) (first : Bool) (im : List Byte) : s.begin.imageCode first im = s.imageCode first im := rfl

/-- The checks of Table 3.4 answer 0 to 6, or 8. -/
theorem State.imageCode_le (s : State) (first : Bool) (im : List Byte) : s.imageCode first im ≤ 8 := by
  simp only [State.imageCode]
  repeat' split
  all_goals decide

/-! HOST_GO and CFG_READY (R88, R92, R132) -/

/-- The row of SYS_BOOT_STAT. -/
def bootRow : RegRow :=
  ⟨0x4c, 0x4, 1, 0x4, 1, 0x0, [(3, 0, .ro), (7, 4, .ro), (8, 8, .ro), (10, 9, .ro), (11, 11, .ro), (12, 12, .ro), (14, 13, .ro), (15, 15, .ro),
    (16, 16, .w1), (17, 17, .wo)]⟩

theorem rowOf_bootStat : rowOf SYS_BOOT_STAT = some bootRow := rfl

/-- A write that keeps a locked CFG_READY puts CFG_READY and HOST_GO as written. -/
theorem bootRow_merge (held v : Word) (granted locked : Bool) (h : locked = true → bits v.toNat 16 16 = bits held.toNat 16 16) :
    ∃ new, bootRow.merge held v granted locked = { word := new } ∧ bits new.toNat 16 16 = bits v.toNat 16 16 ∧
      bits new.toNat 17 17 = bits v.toNat 17 17 := by
  have hsame : ∀ w n, n < 32 → bits (putBits w n n (bits v.toNat n n)).toNat n n = bits v.toNat n n := fun w n hn =>
    (bits_putBits_same _ _ _ _ le_rfl hn).trans (Nat.mod_eq_of_lt (bits_lt _ _ _))
  have hapart : ∀ w n, bits (putBits w 17 17 n).toNat 16 16 = bits w.toNat 16 16 := fun w n =>
    bits_putBits_apart _ _ _ _ _ _ le_rfl (by decide) (by decide)
  cases locked
  · exact ⟨putBits (putBits held 16 16 (bits v.toNat 16 16)) 17 17 (bits v.toNat 17 17), rfl, (hapart _ _).trans (hsame _ 16 (by decide)),
      hsame _ 17 (by decide)⟩
  · refine ⟨putBits held 17 17 (bits v.toNat 17 17), ?_, (hapart _ _).trans (h rfl).symm, hsame _ 17 (by decide)⟩
    simp [RegRow.merge, bootRow, Merge.field, h rfl]

/-- A write of SYS_BOOT_STAT that keeps a locked CFG_READY reaches its hook with CFG_READY and HOST_GO as written, and locks CFG_READY. -/
theorem State.regWrite_bootStat (s : State) (req : Nat) (v : Word)
    (h : SYS_BOOT_STAT ∈ s.w1Locked → bits v.toNat 16 16 = bits (s.rd SYS_BOOT_STAT).toNat 16 16) :
    ∃ l new, s.regWrite req SYS_BOOT_STAT v = ((s.withUnlocks l).lockW1 SYS_BOOT_STAT).bootWrite new ∧
      bits new.toNat 16 16 = bits v.toNat 16 16 ∧ bits new.toNat 17 17 = bits v.toNat 17 17 := by
  obtain ⟨l, hc⟩ := s.consume_unlocks req SYS_BOOT_STAT
  rcases hcons : s.consume req SYS_BOOT_STAT with ⟨granted, u⟩
  obtain rfl : u = s.withUnlocks l := by rw [← hc, hcons]
  obtain ⟨new, hm, hready, hgo⟩ := bootRow_merge (s.rd SYS_BOOT_STAT) v granted (s.w1Locked.contains SYS_BOOT_STAT) fun hl => h (by simpa using hl)
  have hheld : (s.withUnlocks l).heldWord SYS_BOOT_STAT = s.rd SYS_BOOT_STAT := rfl
  have hlocked : (s.withUnlocks l).w1Locked = s.w1Locked := rfl
  have hne : SYS_BOOT_STAT ≠ GUARD_UNLOCK := by decide
  have hlo : loBases.contains bootRow.base = false := by decide
  have hhi : hiBases.contains bootRow.base = false := by decide
  have hsq : bootRow.isSq = false := by decide
  have hw : bootRow.writable = true := by decide
  have ho : bootRow.writeOnce = true := by decide
  have hg : bootRow.allGuarded = false := by decide
  refine ⟨l, new, ?_, hready, hgo⟩
  simp only [State.regWrite, rowOf_bootStat, hne, hlo, hhi, hcons, hsq, hheld, hlocked, hw, ho, hg, hm, if_false, if_true, Bool.false_eq_true,
    State.when_false, Bool.not_true, Bool.false_and]
  rfl

/-- A command that writes a field of SYS_BOOT_STAT. -/
theorem State.busField_bootStat (s : State) (req : Req) (x : Field) (hx : x.addr = SYS_BOOT_STAT) (v : Nat) (hup : s.reaches req SYS_BOOT_STAT)
    (h : SYS_BOOT_STAT ∈ s.w1Locked → x.lo ≤ x.hi ∧ (x.hi < 16 ∨ 16 < x.lo)) :
    ∃ l new, s.begin.busField req x v = ((s.begin.withUnlocks l).lockW1 SYS_BOOT_STAT).bootWrite new ∧
      bits new.toNat 16 16 = bits (putBits (s.rd SYS_BOOT_STAT) x.hi x.lo v).toNat 16 16 ∧
      bits new.toNat 17 17 = bits (putBits (s.rd SYS_BOOT_STAT) x.hi x.lo v).toNat 17 17 := by
  obtain ⟨l, new, hw, hbits⟩ := s.begin.regWrite_bootStat req (putBits (s.rd SYS_BOOT_STAT) x.hi x.lo v)
    fun hl => bits_putBits_apart _ _ _ _ _ _ (h hl).1 (by decide) (h hl).2
  refine ⟨l, new, Eq.trans ?_ hw, hbits⟩
  rw [State.busField, hx]
  exact if_pos (show s.begin.busUp req SYS_BOOT_STAT = true from hup)

section
variable (s : State) (new : Word)

theorem State.bootWrite_keeps {α : Type} (π : State → α) (hw : ∀ (s : State) v, π (s.wr SYS_BOOT_STAT v) = π s) :
    π (s.bootWrite new) = π s := by
  simp only [State.bootWrite]
  split
  · exact (hw _ _).trans (hw _ _)
  · exact hw _ _

theorem State.bootWrite_regsBut (l : List (Nat × Nat × Nat)) :
    s.regsBut (((s.begin.withUnlocks l).lockW1 SYS_BOOT_STAT).bootWrite new) [SYS_BOOT_STAT] := by
  refine ⟨State.bootWrite_keeps _ _ State.mem fun _ _ => rfl, fun a ha => ?_⟩
  exact State.bootWrite_keeps _ _ (fun s => s.rd a) fun s v => State.rd_wr_ne _ _ _ _ fun h => ha (by simp [h])

theorem State.bootWrite_ready : (s.bootWrite new).b SYS_BOOT_STAT_CFG_READY = bitAt new.toNat 16 := by
  simp only [State.bootWrite]
  split
  · rw [State.b, State.f_setF_apart _ _ _ _ (by decide) (by decide) (by decide), ← State.b, State.b_setB_same _ _ _ rfl (by decide)]
  · rw [State.b_setB_same _ _ _ rfl (by decide)]

theorem State.bootWrite_go (h5 : s.f SYS_BOOT_STAT_STAGE = 5) (hgo : bitAt new.toNat 17 = true) :
    (s.bootWrite new).f SYS_BOOT_STAT_STAGE = 2 := by
  have hstage : (s.setB SYS_BOOT_STAT_CFG_READY (bitAt new.toNat 16)).f SYS_BOOT_STAT_STAGE = 5 :=
    (State.f_setF_apart _ _ _ _ (by decide) (by decide) (by decide)).trans h5
  simp only [State.bootWrite, hstage, hgo, decide_true, Bool.and_self, if_true]
  exact State.setStage_stage _ 2 (by decide)

end

theorem bitAt_of_bits (n i : Nat) (h : bits n i i = 1) : bitAt n i = true := by
  rw [bitAt_eq, ← bits_one]
  exact decide_eq_true h

theorem State.exec_hostGo (s : State) (req : Req) (hup : s.reaches req SYS_BOOT_STAT) (h5 : s.f SYS_BOOT_STAT_STAGE = 5) :
    ∃ t, exec (.hostGo req) s = .next t ∧ s.regsBut t [SYS_BOOT_STAT] ∧ t.f SYS_BOOT_STAT_STAGE = 2 := by
  obtain ⟨l, new, hl, -, hgo⟩ := s.busField_bootStat req SYS_BOOT_STAT_HOST_GO rfl 1 hup fun _ => by decide
  have hset : bitAt new.toNat 17 = true := bitAt_of_bits _ _ (hgo.trans (bits_putBits_same _ _ _ _ (by decide) (by decide)))
  exact ⟨_, congrArg Host.Outcome.next hl, State.bootWrite_regsBut _ _ _, State.bootWrite_go _ _ h5 hset⟩

theorem State.exec_cfgReady (s : State) (req : Req) (hup : s.reaches req SYS_BOOT_STAT) (hl : SYS_BOOT_STAT ∉ s.w1Locked) :
    ∃ t, exec (.cfgReady req) s = .next t ∧ s.regsBut t [SYS_BOOT_STAT] ∧ t.b SYS_BOOT_STAT_CFG_READY = true ∧ SYS_BOOT_STAT ∈ t.w1Locked := by
  obtain ⟨l, new, hl, hready, -⟩ := s.busField_bootStat req SYS_BOOT_STAT_CFG_READY rfl 1 hup fun h => absurd h hl
  have hset : bitAt new.toNat 16 = true := bitAt_of_bits _ _ (hready.trans (bits_putBits_same _ _ _ _ (by decide) (by decide)))
  refine ⟨_, congrArg Host.Outcome.next hl, State.bootWrite_regsBut _ _ _, (State.bootWrite_ready _ _).trans hset, ?_⟩
  rw [State.bootWrite_keeps _ _ State.w1Locked fun _ _ => rfl, State.lockW1]
  split
  · next h => simpa using h
  · exact List.mem_cons_self

/-! Configuration requests (R91, R721) -/

theorem State.exec_configRequest (s : State) (write : Bool) (off : Nat) (v : Word) (h : s.inReset = false) :
    exec (.configRequest write off v) s = .next (s.begin.cfgRequest write off v) := by
  show Host.Outcome.next (s.hostAsks _) = _
  rw [State.hostAsks, if_neg (by simp [h])]

/-- A completion always goes out. -/
theorem State.emit_completion (s : State) (st : Nat) (bs : List Byte) :
    s.emit (.completion st bs) = { s with out := .completion st bs :: s.out } := by
  rw [State.emit, State.emitHeld, if_neg (by simp [Out.still, Out.boots, Out.fires])]
  rfl

theorem State.cfgRequest_retried (s : State) (write : Bool) (off : Nat) (v : Word)
    (h : s.b SYS_BOOT_STAT_CFG_READY = false ∨ s.b DBG_STAT_FROZEN = true) :
    s.cfgRequest write off v = { s with out := .completion 2 [] :: s.out } := by
  rw [State.cfgRequest, State.cfgAsked, if_pos (by rcases h with h | h <;> simp [h]), State.emit_completion]

theorem State.cfgRequest_answered (s : State) (write : Bool) (off : Nat) (v : Word) (h : s.b SYS_BOOT_STAT_CFG_READY = true)
    (hf : s.b DBG_STAT_FROZEN = false) : s.cfgRequest write off v = if write then s.cfgWrite off v else s.cfgRead off := by
  rw [State.cfgRequest, State.cfgAsked, if_neg (by simp [h, hf])]

/-- Offset 0 reads as vendor and device. -/
theorem State.cfgRead_ids (s : State) : s.cfgRead 0 = { s with out := .completion 0 [0x7C, 0x1F, 0x48, 0x64] :: s.out } := by
  have hword : cfgFixed 0 + (s.pcie.cfgAt 0 &&& cfgMask 0) + s.cfgLive 0 = 0x64481F7C := by
    rw [show cfgMask 0 = 0 by decide, Nat.and_zero]
    rfl
  rw [State.cfgRead, if_neg (by decide), hword, State.emit_completion]
  rfl

/-- A write of Device Control 2 holds its bits and sets 10-bit tags. -/
theorem State.cfgWrite_control2 (s : State) (v : Word) : s.cfgWrite 0x98 v =
    { s with out := .completion 0 [] :: s.out,
             pcie := { s.pcie with cfg := Map.set cfgReset s.pcie.cfg 0x98 (v &&& BitVec.ofNat 32 (cfgMask 0x98)), tag10 := bitAt v.toNat 12 } } := by
  rw [State.cfgWrite, State.emit_completion]
  rfl

/-! A failed first stage (Table 3.3, R88, R89) -/

theorem State.stageFail_mem (s : State) (code : Nat) : (s.stageFail code).mem = s.mem := by
  simp only [State.stageFail]
  split
  · exact State.flashRead_keeps State.mem (fun _ _ _ _ => rfl) _ _
  · split
    · rfl
    · exact s.bootFail_mem code

/-- The code of a failed first stage is shown wherever the boot ROM goes. -/
theorem State.stageFail_code (s : State) (code : Nat) (hc : code < 16) : (s.stageFail code).f SYS_BOOT_STAT_FAIL_CODE = code := by
  have hset : ∀ (s : State) n, ((s.setF SYS_BOOT_STAT_FAIL_CODE code).setF SYS_BOOT_STAT_STAGE n).f SYS_BOOT_STAT_FAIL_CODE = code := fun s n => by
    rw [State.f_setF_apart _ _ _ _ (by decide) (by decide) (by decide), State.f_setF_same _ _ _ (by decide) (by decide)]
    exact Nat.mod_eq_of_lt hc
  simp only [State.stageFail]
  split
  · exact (State.flashRead_keeps (fun s => s.f SYS_BOOT_STAT_FAIL_CODE) (fun _ _ _ _ => rfl) _ _).trans (hset _ _)
  · split
    · exact hset _ _
    · exact s.bootFail_code code hc

/-- CFG_READY is late 1,000 ms after PERST_N's release (R92). -/
theorem State.firstStageLate_fails (s : State) {at_ : Nat} (hat : s.power.perstAt = some at_) (hready : s.b SYS_BOOT_STAT_CFG_READY = false)
    (hle : at_ + 800000000 ≤ s.tb) : s.firstStageLate = s.bootFail 11 := by
  simp only [State.firstStageLate, hat, hready, hle, decide_true, Bool.not_false, Bool.and_self, if_true]

/-! What the checks of Table 3.4 answer (R84 to R86, R188, R189) -/

section
variable (s : State) (first : Bool) (im : List Byte)

/-- Check 1: MAGIC and TYPE. -/
def imageNamed : Prop := im.take 4 = [0x58, 0x49, 0x4D, 0x47] ∧ (leAt im 8 1 = 1 ∨ first = false ∧ leAt im 8 1 = 2)

/-- Is the image signed by the key of its slot? -/
def State.imageKeyed : Prop := s.keySlot (leAt im 9 1) = true ∧ sha384 (slice im 0x60 97) = s.keyHash (leAt im 9 1)

theorem State.imageCode_unnamed (h : ¬ imageNamed first im) : s.imageCode first im = 1 := by
  simp only [State.imageCode]
  refine if_pos ?_
  by_cases hm : im.take 4 = [0x58, 0x49, 0x4D, 0x47]
  · have ht : ¬ (leAt im 8 1 = 1 ∨ first = false ∧ leAt im 8 1 = 2) := fun ht => h ⟨hm, ht⟩
    simp only [not_or, not_and] at ht
    cases first <;> simp_all
  · exact Bool.or_eq_true_iff.2 (.inl (decide_eq_true hm))

section
variable (h1 : imageNamed first im)
include h1

/-- The answer past check 1. -/
theorem State.imageCode_named : s.imageCode first im =
    if !imageLengths im first then 2
    else if s.unsigned then 0
    else if first && s.fuses.regulated && !(List.range 4).any s.keySlot then 8
    else if !s.keySlot (leAt im 9 1) || sha384 (slice im 0x60 97) ≠ s.keyHash (leAt im 9 1) then 3
    else if s.fuses.revoke.getLsbD (leAt im 9 1) then 4
    else if !Config.verify384 (slice im 0x60 97) (measurement im) (slice im (imageLen im - 96) 96) then 5
    else if leAt im 0x0C 4 < s.fuses.rollback then 6
    else 0 := by
  obtain ⟨hm, ht⟩ := h1
  simp only [State.imageCode]
  refine if_neg ?_
  rcases ht with ht | ⟨hf, ht⟩ <;> simp [*]

theorem State.imageCode_lengths (h2 : imageLengths im first = false) : s.imageCode first im = 2 := by
  rw [s.imageCode_named first im h1, h2]
  rfl

section
variable (h2 : imageLengths im first = true)
include h2

theorem State.imageCode_unsigned (hu : s.unsigned = true) : s.imageCode first im = 0 := by
  rw [s.imageCode_named first im h1, h2, hu]
  rfl

/-- A regulated part without a key takes no image. -/
theorem State.imageCode_keyless (hr : s.fuses.regulated = true) (hk : ∀ n, s.keySlot n = false) :
    s.imageCode first im = if first = true then 8 else 3 := by
  have hu : s.unsigned = false := by simp [State.unsigned, hr]
  have hany : (List.range 4).any s.keySlot = false := List.any_eq_false.2 fun n _ => by simp [hk n]
  rw [s.imageCode_named first im h1, h2, hu, hr, hany, hk]
  cases first <;> rfl

section
variable (hk : ∃ n < 4, s.keySlot n = true)
include hk

/-- The answer of checks 3 to 6. -/
theorem State.imageCode_signed : s.imageCode first im =
    if !s.keySlot (leAt im 9 1) || sha384 (slice im 0x60 97) ≠ s.keyHash (leAt im 9 1) then 3
    else if s.fuses.revoke.getLsbD (leAt im 9 1) then 4
    else if !Config.verify384 (slice im 0x60 97) (measurement im) (slice im (imageLen im - 96) 96) then 5
    else if leAt im 0x0C 4 < s.fuses.rollback then 6
    else 0 := by
  obtain ⟨n, hn, hkn⟩ := hk
  have hany : (List.range 4).any s.keySlot = true := List.any_eq_true.2 ⟨n, List.mem_range.2 hn, hkn⟩
  have hu : s.unsigned = false := by simp [State.unsigned, hany]
  rw [s.imageCode_named first im h1, h2, hu, hany]
  simp only [Bool.not_true, Bool.and_false, Bool.false_eq_true, if_false]

theorem State.imageCode_notKeyed (hn : ¬ s.imageKeyed im) : s.imageCode first im = 3 := by
  rw [s.imageCode_signed first im h1 h2 hk, if_pos]
  by_cases hs : s.keySlot (leAt im 9 1) = true
  · exact Bool.or_eq_true_iff.2 (.inr (decide_eq_true fun h => hn ⟨hs, h⟩))
  · exact Bool.or_eq_true_iff.2 (.inl (by simpa using hs))

section
variable (hkey : s.imageKeyed im)
include hkey

/-- The answer past check 3. -/
theorem State.imageCode_keyed : s.imageCode first im =
    if s.fuses.revoke.getLsbD (leAt im 9 1) then 4
    else if !Config.verify384 (slice im 0x60 97) (measurement im) (slice im (imageLen im - 96) 96) then 5
    else if leAt im 0x0C 4 < s.fuses.rollback then 6
    else 0 := by
  obtain ⟨hs, hh⟩ := hkey
  rw [s.imageCode_signed first im h1 h2 hk, if_neg (by simp [hs, hh])]

theorem State.imageCode_revoked (hr : s.fuses.revoke.getLsbD (leAt im 9 1) = true) : s.imageCode first im = 4 := by
  rw [s.imageCode_keyed first im h1 h2 hk hkey, if_pos hr]

theorem State.imageCode_badSignature (hr : ¬ s.fuses.revoke.getLsbD (leAt im 9 1) = true)
    (hv : ¬ Config.verify384 (slice im 0x60 97) (measurement im) (slice im (imageLen im - 96) 96) = true) : s.imageCode first im = 5 := by
  rw [s.imageCode_keyed first im h1 h2 hk hkey, if_neg hr, if_pos (by simpa using hv)]

theorem State.imageCode_rollback (hr : ¬ s.fuses.revoke.getLsbD (leAt im 9 1) = true)
    (hv : Config.verify384 (slice im 0x60 97) (measurement im) (slice im (imageLen im - 96) 96) = true) :
    s.imageCode first im = if leAt im 0x0C 4 < s.fuses.rollback then 6 else 0 := by
  rw [s.imageCode_keyed first im h1 h2 hk hkey, if_neg hr, if_neg (by simp [hv])]

end
end
end
end

/-- Check 2, condition by condition. -/
theorem imageLengths_iff : imageLengths im first = true ↔
    leAt im 6 2 = 0x100 ∧ 4 ≤ leAt im 0x18 4 ∧ leAt im 0x18 4 ≤ 65536 ∧ leAt im 0x18 4 % 4 = 0 ∧ leAt im 0x1C 4 ≤ 131072 ∧
      leAt im 0x10 4 % 4 = 0 ∧ leAt im 0x10 4 < leAt im 0x18 4 ∧ leAt im 0x14 4 % 4 = 0 ∧ leAt im 0x14 4 < leAt im 0x18 4 ∧
      leAt im 0x20 4 % 4 = 0 ∧ leAt im 0x20 4 + leAt im 0x1C 4 + leAt im 0x24 4 ≤ 131072 ∧ imageLen im ≤ im.length ∧
      (first = true → imageLen im ≤ 131072) ∧ sha384 (imagePayload im) = slice im 0x30 48 := by
  cases first <;> simp [imageLengths, and_assoc]

end

theorem State.keySlot_iff (s : State) (n : Nat) : s.keySlot n = true ↔ ¬ (4 ≤ n ∨ allZero (s.keyHash n) = true) := by
  simp [State.keySlot]

theorem State.unsigned_of_blank (s : State) (hr : s.fuses.regulated = false) (hk : ∀ n, s.keySlot n = false) : s.unsigned = true := by
  have hany : (List.range 4).any s.keySlot = false := List.any_eq_false.2 fun n _ => by simp [hk n]
  rw [State.unsigned, hr, hany]
  rfl

end Sys2Proof.Machine

open Sys2Proof Sys2Proof.Machine
open Sys2Proof.Machine.Reg Sys2Proof.Machine.Fld

/-- Settles O24: each step of the boot ROM sets the stage after whatever it reads or writes, and a failed boot shows its code; a configuration
request is retried until CFG_READY; the checks of Table 3.4 are taken in their order. -/
theorem bootSteps : Obligations.BootSteps := by
  unfold Obligations.BootSteps
  intro req image off v s
  dsimp only
  refine ⟨fun ha => ?steps, fun hup => ⟨s.exec_hostGo req hup, s.exec_cfgReady req hup⟩, fun hr h w => ?retried, fun ha h => ?answered,
    fun first im => ?table⟩
  case retried =>
    rw [s.exec_configRequest w off v hr, State.cfgRequest_retried s.begin w off v h]
    exact ⟨_, rfl, rfl, rfl, rfl⟩
  case answered =>
    have hr : s.inReset = false := (Bool.or_eq_false_iff.1 ha).2
    have hf := s.frozen_of_asleep ha
    rw [s.exec_configRequest _ _ v hr, s.exec_configRequest _ _ v hr, State.cfgRequest_answered s.begin _ _ v h hf,
      State.cfgRequest_answered s.begin _ _ v h hf, if_neg Bool.false_ne_true, if_pos rfl, State.cfgRead_ids, State.cfgWrite_control2]
    exact ⟨⟨_, rfl, rfl, rfl, rfl⟩, _, rfl, rfl, rfl, rfl, rfl⟩
  case table =>
    refine ⟨s.imageCode_unnamed first im, fun h1 h2 => ?lengths, fun h1 h2 => ?signatures⟩
    case lengths => exact s.imageCode_lengths first im h1 (Bool.eq_false_iff.2 fun h => h2 ((imageLengths_iff first im).1 h))
    case signatures =>
      have h2 := (imageLengths_iff first im).2 h2
      have hblank : (∀ k < 4, 4 ≤ k ∨ allZero (s.keyHash k) = true) → ∀ n, s.keySlot n = false := fun h n => by
        refine Bool.eq_false_iff.2 fun hk => (s.keySlot_iff n).1 hk ?_
        by_cases hn : n < 4
        · exact h n hn
        · exact .inl (by omega)
      refine ⟨fun hr hb => ?_, fun hr hb => ?_, fun hb => ?_⟩
      · exact s.imageCode_unsigned first im h1 h2 (s.unsigned_of_blank hr (hblank hb))
      · exact s.imageCode_keyless first im h1 h2 hr (hblank hb)
      · have hk : ∃ n < 4, s.keySlot n = true := by
          by_contra hno
          exact hb fun k hk => by_contra fun h => hno ⟨k, hk, (s.keySlot_iff k).2 h⟩
        have hkeyed : ∀ h : ¬ (4 ≤ leAt im 9 1 ∨ allZero (s.keyHash (leAt im 9 1)) = true) ∧
            sha384 (slice im 0x60 97) = s.keyHash (leAt im 9 1), s.imageKeyed im := fun h => ⟨(s.keySlot_iff _).2 h.1, h.2⟩
        exact ⟨fun h => s.imageCode_notKeyed first im h1 h2 hk fun hh => h ⟨(s.keySlot_iff _).1 hh.1, hh.2⟩,
          fun h => s.imageCode_revoked first im h1 h2 hk (hkeyed h), fun h => s.imageCode_badSignature first im h1 h2 hk (hkeyed h),
          fun h => s.imageCode_rollback first im h1 h2 hk (hkeyed h)⟩
  case steps =>
    have haon := s.aonRuns_of_awake ha
    refine ⟨fun hs hr h0 => ⟨?error, ?read⟩, fun h1 hl => ?image, fun h1 => ?timeout, fun h2 hc => ?runs, fun h2 hc => ?fails, fun hlate hready => ?late⟩
    case error =>
      have he : exec (.fusesRead true) s = .next (s.begin.bootFail 10) :=
        congrArg Host.Outcome.next ((s.awake_of _ ha).trans (s.begin.fusesIn_error hs hr h0))
      exact ⟨_, he, State.bootFail_mem _ _, State.bootFail_failed _ _ (by decide) haon⟩
    case read =>
      have he : exec (.fusesRead false) s = .next s.begin.storesRead.bootSource :=
        congrArg Host.Outcome.next ((s.awake_of _ ha).trans (s.begin.fusesIn_read hs hr h0))
      have hsel : s.begin.storesRead.f SYS_BOOT_STAT_BOOT_SEL = s.f SYS_BOOT_STAT_BOOT_SEL := s.begin.storesRead_bootSel
      refine ⟨_, he, ?mem, ?regulated, fun h => ?flash, fun h => ?host, fun h => ?reserved⟩
      case mem =>
        rw [State.bootSource_keeps _ State.mem (fun _ _ _ _ => rfl) (fun _ _ _ _ => rfl) (fun _ _ => rfl) (fun _ _ _ => rfl),
          State.storesRead_mem]
        rfl
      case regulated =>
        have hkeep := State.bootSource_keeps s.begin.storesRead (fun s => s.rd SEC_STAT) (fun _ _ _ _ => rfl)
          (fun s a v ha => State.rd_wr_ne _ _ _ _ (by rcases ha with rfl | rfl <;> decide)) (fun _ _ => rfl) (fun _ _ _ => rfl)
        exact (State.b_congr SEC_STAT_REGULATED hkeep).trans (State.storesRead_regulated _)
      case flash =>
        rw [State.bootSource_flash _ (by rwa [hsel])]
        have hstage := s.begin.storesRead.setStage_stage 1 (by decide)
        refine ⟨?_, by rw [State.flashRead_out _ _ hstage]; rfl⟩
        rw [State.flashRead_keeps (fun s => s.f SYS_BOOT_STAT_STAGE) (fun _ _ _ _ => rfl), hstage]
      case host =>
        rw [State.bootSource_host _ (hsel.trans h)]
        refine ⟨State.setStage_stage _ _ (by decide), ?_⟩
        rw [State.b, State.f_setF_apart _ _ _ _ (by decide) (by decide) (by decide)]
        exact State.cfgReadySet_set _
      case reserved =>
        rw [State.bootSource_reserved _ (hsel.trans h)]
        exact State.bootFail_failed _ _ (by decide) ((State.storesRead_aonRuns _).trans haon)
    case image =>
      have he := (s.awake_of (·.qspiIn image) ha).trans (s.begin.qspiIn_bytes image hl h1)
      refine ⟨_, congrArg Host.Outcome.next he, fun a hne => State.rd_setF_other _ _ _ _ (Ne.symm hne), State.setStage_stage _ _ (by decide),
        s.begin.bothCopies_byte image hl⟩
    case timeout =>
      have he : exec .qspiTimeout s = .next (s.begin.bootFail 7) :=
        congrArg Host.Outcome.next ((s.awake_of _ ha).trans (if_pos (show s.begin.f SYS_BOOT_STAT_STAGE = 1 from h1)))
      exact ⟨_, he, State.bootFail_mem _ _, State.bootFail_failed _ _ (by decide) haon⟩
    case runs =>
      have he := (s.awake_of (·.stageCheck) ha).trans (s.begin.stageCheck_runs h2 (by rwa [s.begin_imageCode, s.begin_readMem]))
      exact ⟨_, congrArg Host.Outcome.next he, (State.stageRun_f _ _ _ rfl).trans (State.stageShown_stage _ _), (State.stageRun_f _ _ _ rfl).trans (State.stageShown_code _ _),
        State.stageRun_engines _ _⟩
    case fails =>
      have he := s.begin.stageCheck_fails h2 (by rwa [s.begin_imageCode, s.begin_readMem])
      rw [s.begin_imageCode, s.begin_readMem] at he
      have he := (s.awake_of (·.stageCheck) ha).trans he
      refine ⟨_, congrArg Host.Outcome.next he, ?_⟩
      generalize hcode : s.imageCode true (s.readMem (dmemBase 14) 131072) = code
      have hlt : code < 16 := by rw [← hcode]; exact Nat.lt_of_le_of_lt (s.imageCode_le _ _) (by decide)
      refine ⟨State.stageFail_mem _ _, State.stageFail_code _ _ hlt, fun h0 hf => ?fallback, fun h => ?host, fun h => ?fails⟩
      case fallback =>
        rw [s.begin.stageFail_fallback code h0 hf]
        have hstage := State.setStage_stage (({ s.begin with boot := { s.begin.boot with fallback := true } } : State).setF
          SYS_BOOT_STAT_FAIL_CODE code) 1 (by decide)
        refine ⟨?_, State.flashRead_keeps (fun s => s.boot.fallback) (fun _ _ _ _ => rfl) _ _, State.flashRead_out _ _ hstage⟩
        rw [State.flashRead_keeps (fun s => s.f SYS_BOOT_STAT_STAGE) (fun _ _ _ _ => rfl), hstage]
      case host =>
        rw [s.begin.stageFail_host code h]
        exact State.setStage_stage _ _ (by decide)
      case fails =>
        have h2 : s.begin.f SYS_BOOT_STAT_BOOT_SEL ≠ 2 := fun h' => by
          rcases h with h | h | h
          · exact absurd (h'.symm.trans h) (by decide)
          · exact absurd (h'.symm.trans h) (by decide)
          · exact absurd (h'.symm.trans h.1) (by decide)
        rw [State.stageFail_fails _ _ h2 fun h0 => ?_]
        · exact State.bootFail_failed _ _ hlt haon
        · rcases h with h | h | h
          · exact absurd (h0.symm.trans h) (by decide)
          · exact absurd (h0.symm.trans h) (by decide)
          · exact h.2
    case late =>
      obtain ⟨at_, hat, hle⟩ := hlate
      have hlate := s.begin.firstStageLate_fails hat hready hle
      exact ⟨_, congrArg Host.Outcome.next ((s.awake_of _ ha).trans hlate), State.bootFail_mem _ _, State.bootFail_failed _ _ (by decide) haon⟩
end

section
/-!
PROOFS. DeviceMemory.lean (O32): training and scrub of the DDR, and the streams' enables.
-/

namespace Sys2Proof.Machine
open Reg Fld

/-! Training (R98, R290) -/

theorem memcCfg_plain : ∀ m : Fin 2, plainRegister true (MEMC_CH_CFG m) 0x17F = true := by decide

theorem raiseReach_memc (b : Nat) (h : 0x50000 ≤ b ∧ b < 0x51000) : raiseReach b = false := by
  simp only [raiseReach, Bool.or_eq_false_iff, Bool.and_eq_false_iff, decide_eq_false_iff_not]
  omega

theorem State.hook_memc (s : State) (req a : Nat) (new : Word) (h : a / 0x10000 = 5) : s.hook req a new = s.hookMemc a new := by
  simp only [State.hook, h]

theorem State.hook_memcCfg (s : State) (req : Nat) (m : Fin 2) (new : Word) (h : bitAt new.toNat 8 = true) :
    s.hook req (MEMC_CH_CFG m) new = (s.wr (MEMC_CH_CFG m) (putBits new 8 8 0)).ddrTrain m := by
  have hplace : ∀ m : Fin 2, MEMC_CH_CFG m / 0x10000 = 5 ∧ (MEMC_CH_CFG m - 0x50000) / 0x100 = m ∧
      (decide (MEMC_CH_CFG m = MEMC_CH_CFG 0) || decide (MEMC_CH_CFG m = MEMC_CH_CFG 1)) = true := by decide
  obtain ⟨hblock, hidx, hcfg⟩ := hplace m
  rw [State.hook_memc _ _ _ _ hblock, State.hookMemc, if_pos hcfg, h, hidx, State.when_true]

/-- TRAIN is taken with the other fields as written, and is not held. -/
theorem State.exec_ddrTrain (s : State) (req : Req) (m : Fin 2) (v : Word) (hg : s.granted req (MEMC_CH_CFG m)) :
    ∃ l w, exec (.ddrTrain req m v) s = .next (((s.begin.withUnlocks l).wr (MEMC_CH_CFG m) w).ddrTrain m) ∧
      bits w.toNat 8 8 = 0 ∧ bits w.toNat 2 0 = v.toNat % 8 := by
  obtain ⟨l, hl⟩ := s.busReg_granted req (MEMC_CH_CFG m) (putBits v 8 8 1) 0x17F (memcCfg_plain m) hg
  have hset := bits_putBits_same v 8 8 1 le_rfl (by decide)
  have hbit := bits_masked (s.rd (MEMC_CH_CFG m)) (putBits v 8 8 1) 0x17F 8 8 (by decide) (by decide)
  have hrate := bits_masked (s.rd (MEMC_CH_CFG m)) (putBits v 8 8 1) 0x17F 2 0 (by decide) (by decide)
  rw [State.hook_memcCfg _ _ m _ (bitAt_of_bits _ _ (hbit.trans hset))] at hl
  refine ⟨l, _, congrArg Host.Outcome.next hl, bits_putBits_same _ _ _ _ le_rfl (by decide), ?_⟩
  rw [bits_putBits_apart _ _ _ _ _ _ le_rfl (by decide) (by decide), hrate, bits_putBits_apart _ _ _ _ _ _ le_rfl (by decide) (by decide)]
  simp [bits]

/-- A register of a DDR channel's own is not its configuration. -/
theorem State.setMemc_cfg (s : State) (m : Nat) (x : Field) (v : Nat) (hx : x.addr = MEMC_CH_STAT m) :
    (s.setF x v).rd (MEMC_CH_CFG m) = s.rd (MEMC_CH_CFG m) :=
  State.rd_setF_other _ _ _ _ (by rw [hx]; simp only [MEMC_CH_STAT, MEMC_CH_CFG]; omega)

/-- A channel in training. -/
def State.training (s : State) (m : Nat) : State :=
  ((s.setF (MEMC_CH_STAT_TRAIN_STATE m) 1).setF (MEMC_CH_STAT_FAIL_STEP m) 0).setF (MEMC_CH_STAT_CAPACITY m) 0

theorem State.ddrTrain_starts (s : State) (m : Nat) (h1 : s.f (MEMC_CH_STAT_TRAIN_STATE m) ≠ 1) (hb : s.bootFailed = false) :
    s.ddrTrain m = s.training m := by
  rw [State.ddrTrain, if_neg (by simp [h1, hb])]
  rfl

theorem State.ddrTrain_failedBoot (s : State) (m : Nat) (hb : s.bootFailed = true) : s.ddrTrain m = s := by
  rw [State.ddrTrain, if_pos (by simp [hb])]

theorem State.training_shows (s : State) (m : Nat) : (s.training m).f (MEMC_CH_STAT_TRAIN_STATE m) = 1 ∧
    (s.training m).f (MEMC_CH_STAT_FAIL_STEP m) = 0 ∧ (s.training m).f (MEMC_CH_STAT_CAPACITY m) = 0 := by
  refine ⟨?_, ?_, State.f_setF_same _ _ _ (by simp [MEMC_CH_STAT_CAPACITY]) (by simp [MEMC_CH_STAT_CAPACITY])⟩
  · rw [State.training, State.f_setF_apart _ _ _ _ (by simp [MEMC_CH_STAT_CAPACITY]) (by simp [MEMC_CH_STAT_TRAIN_STATE])
      (by simp [MEMC_CH_STAT_TRAIN_STATE, MEMC_CH_STAT_CAPACITY]), State.f_setF_apart _ _ _ _ (by simp [MEMC_CH_STAT_FAIL_STEP])
      (by simp [MEMC_CH_STAT_TRAIN_STATE]) (by simp [MEMC_CH_STAT_TRAIN_STATE, MEMC_CH_STAT_FAIL_STEP]),
      State.f_setF_same _ _ _ (by simp [MEMC_CH_STAT_TRAIN_STATE]) (by simp [MEMC_CH_STAT_TRAIN_STATE])]
    rfl
  · rw [State.training, State.f_setF_apart _ _ _ _ (by simp [MEMC_CH_STAT_CAPACITY]) (by simp [MEMC_CH_STAT_FAIL_STEP])
      (by simp [MEMC_CH_STAT_FAIL_STEP, MEMC_CH_STAT_CAPACITY]),
      State.f_setF_same _ _ _ (by simp [MEMC_CH_STAT_FAIL_STEP]) (by simp [MEMC_CH_STAT_FAIL_STEP])]
    rfl

/-- Training ends with its capacity. -/
theorem State.trainDone_passes (s : State) (m step cap : Nat) (h1 : s.f (MEMC_CH_STAT_TRAIN_STATE m) = 1) (hc : cap ≤ 16384) :
    s.trainDone m true step cap = (s.setF (MEMC_CH_STAT_TRAIN_STATE m) 2).setF (MEMC_CH_STAT_CAPACITY m) cap := by
  rw [State.trainDone, if_neg (by simp [h1]), if_pos (by simp [hc])]

theorem State.trained_shows (s : State) (m cap : Nat) (hc : cap ≤ 16384) :
    ((s.setF (MEMC_CH_STAT_TRAIN_STATE m) 2).setF (MEMC_CH_STAT_CAPACITY m) cap).f (MEMC_CH_STAT_TRAIN_STATE m) = 2 ∧
    ((s.setF (MEMC_CH_STAT_TRAIN_STATE m) 2).setF (MEMC_CH_STAT_CAPACITY m) cap).f (MEMC_CH_STAT_CAPACITY m) = cap := by
  constructor
  · rw [State.f_setF_apart _ _ _ _ (by simp [MEMC_CH_STAT_CAPACITY]) (by simp [MEMC_CH_STAT_TRAIN_STATE])
      (by simp [MEMC_CH_STAT_TRAIN_STATE, MEMC_CH_STAT_CAPACITY]),
      State.f_setF_same _ _ _ (by simp [MEMC_CH_STAT_TRAIN_STATE]) (by simp [MEMC_CH_STAT_TRAIN_STATE])]
    rfl
  · rw [State.f_setF_same _ _ _ (by simp [MEMC_CH_STAT_CAPACITY]) (by simp [MEMC_CH_STAT_CAPACITY])]
    refine Nat.mod_eq_of_lt ?_
    have hw : (MEMC_CH_STAT_CAPACITY m).hi + 1 - (MEMC_CH_STAT_CAPACITY m).lo = 16 := rfl
    rw [hw]
    omega

/-- Training ends at a step that fails. -/
theorem State.trainDone_fails (s : State) (m step cap : Nat) (h1 : s.f (MEMC_CH_STAT_TRAIN_STATE m) = 1) :
    s.trainDone m false step cap = ((s.setF (MEMC_CH_STAT_TRAIN_STATE m) 3).setF (MEMC_CH_STAT_FAIL_STEP m) step).raise 12 m := by
  rw [State.trainDone, if_neg (by simp [h1]), if_neg (by simp)]
  rfl

theorem State.trainFailed_shows (s : State) (m : Fin 2) (step : BitVec 8) (src info : Nat) :
    (((s.setF (MEMC_CH_STAT_TRAIN_STATE m) 3).setF (MEMC_CH_STAT_FAIL_STEP m) step.toNat).raise src info).f (MEMC_CH_STAT_TRAIN_STATE m) = 3 ∧
    (((s.setF (MEMC_CH_STAT_TRAIN_STATE m) 3).setF (MEMC_CH_STAT_FAIL_STEP m) step.toNat).raise src info).f (MEMC_CH_STAT_FAIL_STEP m) =
      step.toNat := by
  have hreach : raiseReach (MEMC_CH_STAT m) = false := raiseReach_memc _ (by simp only [MEMC_CH_STAT]; omega)
  constructor
  · rw [State.raise_f _ _ _ (MEMC_CH_STAT_TRAIN_STATE m) hreach, State.f_setF_apart _ _ _ _ (by simp [MEMC_CH_STAT_FAIL_STEP]) (by simp [MEMC_CH_STAT_TRAIN_STATE])
      (by simp [MEMC_CH_STAT_TRAIN_STATE, MEMC_CH_STAT_FAIL_STEP]),
      State.f_setF_same _ _ _ (by simp [MEMC_CH_STAT_TRAIN_STATE]) (by simp [MEMC_CH_STAT_TRAIN_STATE])]
    rfl
  · rw [State.raise_f _ _ _ (MEMC_CH_STAT_FAIL_STEP m) hreach, State.f_setF_same _ _ _ (by simp [MEMC_CH_STAT_FAIL_STEP]) (by simp [MEMC_CH_STAT_FAIL_STEP])]
    have hw : (MEMC_CH_STAT_FAIL_STEP m).hi + 1 - (MEMC_CH_STAT_FAIL_STEP m).lo = 8 := rfl
    have hlt : step.toNat < 2 ^ 8 := step.isLt
    rw [hw, Nat.mod_eq_of_lt hlt]

/-! Errors of the DDR (R292 to R294) -/

theorem State.ddrChan_lt (s : State) (a : Nat) : s.ddrChan a < 2 := by
  rw [State.ddrChan]
  split
  · omega
  · split <;> omega

/-- The bits of ECC_STAT that an error sets. -/
def eccBits (uncorrectable byScrub : Bool) : List Nat := (if uncorrectable then [1] else [0]) ++ (if byScrub then [2] else [])

/-- The counter of ECC_CNT that an error counts in. -/
def eccCount (uncorrectable : Bool) (m : Nat) : Field := if uncorrectable then MEMC_ECC_CNT_UE m else MEMC_ECC_CNT_CE m

/-- The registers of a DDR channel with an error recorded. -/
def State.eccNoted (s : State) (uncorrectable byScrub : Bool) (m a : Nat) : State :=
  ((s.wr (MEMC_ECC_STAT m) (sqEvent (s.rd (MEMC_ECC_STAT m)) (eccBits uncorrectable byScrub))).wr64 (MEMC_ECC_ADDR_LO m) a).incSat
    (eccCount uncorrectable m) 1

theorem State.eccError_eq (s : State) (u b : Bool) (a : Nat) : s.eccError u b a =
    (s.eccNoted u b (s.ddrChan a) a).raise (if u then 14 else 13) (s.ddrChan a) := rfl

section
variable (s : State) (u b : Bool) (m a : Nat)

/-- An error is recorded in the block's own registers. -/
theorem State.eccNoted_rd (hm : m < 2) (k : Nat) (hk : 0x51000 ≤ k) : (s.eccNoted u b m a).rd k = s.rd k := by
  have hcnt : (eccCount u m).addr = MEMC_ECC_CNT m := by cases u <;> rfl
  rw [State.eccNoted, State.incSat, State.rd_setF_other _ _ _ _ (by rw [hcnt]; simp only [MEMC_ECC_CNT]; omega), State.wr64, State.wn, State.wn,
    State.rd_wr_ne _ _ _ _ (by simp only [MEMC_ECC_ADDR_LO]; omega), State.rd_wr_ne _ _ _ _ (by simp only [MEMC_ECC_ADDR_LO]; omega),
    State.rd_wr_ne _ _ _ _ (by simp only [MEMC_ECC_STAT]; omega)]

theorem State.eccNoted_stat : (s.eccNoted u b m a).rd (MEMC_ECC_STAT m) = sqEvent (s.rd (MEMC_ECC_STAT m)) (eccBits u b) := by
  have hcnt : (eccCount u m).addr ≠ MEMC_ECC_STAT m := by cases u <;> simp [eccCount, MEMC_ECC_CNT_UE, MEMC_ECC_CNT_CE, MEMC_ECC_CNT, MEMC_ECC_STAT]
  rw [State.eccNoted, State.incSat, State.rd_setF_other _ _ _ _ hcnt, State.wr64, State.wn, State.wn,
    State.rd_wr_ne _ _ _ _ (by simp only [MEMC_ECC_ADDR_LO, MEMC_ECC_STAT]; omega),
    State.rd_wr_ne _ _ _ _ (by simp [MEMC_ECC_ADDR_LO, MEMC_ECC_STAT]), State.rd_wr_same]

theorem State.eccNoted_addr : (s.eccNoted u b m a).rd64 (MEMC_ECC_ADDR_LO m) = a % 2 ^ 64 := by
  have hcnt : (eccCount u m).addr = MEMC_ECC_CNT m := by cases u <;> rfl
  have hlo : MEMC_ECC_CNT m ≠ MEMC_ECC_ADDR_LO m := by simp [MEMC_ECC_CNT, MEMC_ECC_ADDR_LO]
  have hhi : MEMC_ECC_CNT m ≠ MEMC_ECC_ADDR_LO m + 4 := by simp only [MEMC_ECC_CNT, MEMC_ECC_ADDR_LO]; omega
  have h := (s.wr (MEMC_ECC_STAT m) (sqEvent (s.rd (MEMC_ECC_STAT m)) (eccBits u b))).rd64_wr64 (MEMC_ECC_ADDR_LO m) a
  simp only [State.rd64, State.rn] at h ⊢
  rwa [State.eccNoted, State.incSat, State.rd_setF_other _ _ _ _ (by rw [hcnt]; exact hlo),
    State.rd_setF_other _ _ _ _ (by rw [hcnt]; exact hhi)]

theorem State.eccNoted_count : (s.eccNoted u b m a).f (eccCount u m) = min (s.f (eccCount u m) + 1) 65535 := by
  have hw : (eccCount u m).lo ≤ (eccCount u m).hi ∧ (eccCount u m).hi < 32 ∧ (eccCount u m).hi + 1 - (eccCount u m).lo = 16 := by
    cases u <;> simp [eccCount, MEMC_ECC_CNT_UE, MEMC_ECC_CNT_CE]
  have hcnt : (eccCount u m).addr = MEMC_ECC_CNT m := by cases u <;> rfl
  have hf : ((s.wr (MEMC_ECC_STAT m) (sqEvent (s.rd (MEMC_ECC_STAT m)) (eccBits u b))).wr64 (MEMC_ECC_ADDR_LO m) a).f (eccCount u m) =
      s.f (eccCount u m) := by
    refine State.f_congr _ ?_
    rw [hcnt, State.wr64, State.wn, State.wn, State.rd_wr_ne _ _ _ _ (by simp only [MEMC_ECC_CNT, MEMC_ECC_ADDR_LO]; omega),
      State.rd_wr_ne _ _ _ _ (by simp [MEMC_ECC_CNT, MEMC_ECC_ADDR_LO]), State.rd_wr_ne _ _ _ _ (by simp [MEMC_ECC_CNT, MEMC_ECC_STAT])]
  rw [State.eccNoted, State.incSat, State.f_setF_same _ _ _ hw.1 hw.2.1, hf, hw.2.2]
  omega

end

/-- What an error of the DDR shows (R292, R293). -/
theorem State.eccError_shows (s : State) (u b : Bool) (a : Nat) (hf : s.b DBG_STAT_FROZEN = false) :
    (s.eccError u b a).rd (MEMC_ECC_STAT (s.ddrChan a)) = sqEvent (s.rd (MEMC_ECC_STAT (s.ddrChan a))) (eccBits u b) ∧
    (s.eccError u b a).rd64 (MEMC_ECC_ADDR_LO (s.ddrChan a)) = a % 2 ^ 64 ∧
    (s.eccError u b a).f (eccCount u (s.ddrChan a)) = min (s.f (eccCount u (s.ddrChan a)) + 1) 65535 ∧
    (s.eccError u b a).b (FLT_SRC_LATCHED (if u then 14 else 13)) = true := by
  have hm := s.ddrChan_lt a
  rw [State.eccError_eq]
  generalize s.ddrChan a = m at hm ⊢
  have hcnt : (eccCount u m).addr = MEMC_ECC_CNT m := by cases u <;> rfl
  have hfrozen : (s.eccNoted u b m a).b DBG_STAT_FROZEN = false := by
    refine (State.b_congr DBG_STAT_FROZEN ?_).trans hf
    exact s.eccNoted_rd u b m a hm _ (by decide)
  have hrd : ∀ k, 0x50000 ≤ k → k < 0x51000 → ∀ src info, ((s.eccNoted u b m a).raise src info).rd k = (s.eccNoted u b m a).rd k :=
    fun k h1 h2 src info => State.raise_rd _ _ _ _ (raiseReach_memc k ⟨h1, h2⟩)
  refine ⟨?_, ?_, ?_, State.raise_latched _ _ _ (by cases u <;> rfl) hfrozen⟩
  · rw [hrd _ (by simp only [MEMC_ECC_STAT]; omega) (by simp only [MEMC_ECC_STAT]; omega), State.eccNoted_stat]
  · rw [State.rd64, State.rn, State.rn, hrd _ (by simp only [MEMC_ECC_ADDR_LO]; omega) (by simp only [MEMC_ECC_ADDR_LO]; omega),
      hrd _ (by simp only [MEMC_ECC_ADDR_LO]; omega) (by simp only [MEMC_ECC_ADDR_LO]; omega)]
    exact State.eccNoted_addr s u b m a
  · rw [State.f, hcnt, hrd _ (by simp only [MEMC_ECC_CNT]; omega) (by simp only [MEMC_ECC_CNT]; omega), ← hcnt]
    exact State.eccNoted_count s u b m a

/-- An error of the DDR changes registers, what a latch reaches, and no more. -/
theorem State.eccError_keeps {α : Type} (π : State → α) (hw : ∀ (s : State) a v, π (s.wr a v) = π s)
    (hr : ∀ (s : State) src info, π (s.raise src info) = π s) (s : State) (u b : Bool) (a : Nat) : π (s.eccError u b a) = π s := by
  rw [State.eccError_eq, hr]
  exact (hw _ _ _).trans ((hw _ _ _).trans ((hw _ _ _).trans (hw _ _ _)))

/-! The lanes of a stream (R296, R297) -/

theorem State.mem_streamLanes (x : State) (n l : Nat) :
    l ∈ x.streamLanes n ↔ l / 8 = x.f (RAS_STREAM_PIPE n) ∧ bitAt (x.f (RAS_STREAM_LANES n)) (l % 8) = true := by
  simp only [State.streamLanes, bitsSet, List.mem_map, List.mem_filter, List.mem_range]
  constructor
  · rintro ⟨k, ⟨hk, hb⟩, rfl⟩
    rw [show (8 * x.f (RAS_STREAM_PIPE n) + k) / 8 = x.f (RAS_STREAM_PIPE n) by omega,
      show (8 * x.f (RAS_STREAM_PIPE n) + k) % 8 = k by omega]
    exact ⟨rfl, hb⟩
  · rintro ⟨hp, hb⟩
    exact ⟨l % 8, ⟨by omega, hb⟩, by omega⟩

theorem sum_filter_map (p : Nat → Bool) (g : Nat → Nat) (ks : List Nat) :
    ((ks.filter p).map g).sum = (ks.map fun k => if p k = true then g k else 0).sum := by
  induction ks with
  | nil => rfl
  | cons k ks ih =>
    by_cases h : p k = true
    · rw [List.filter_cons_of_pos h, List.map_cons, List.map_cons, List.sum_cons, List.sum_cons, ih, if_pos h]
    · rw [List.filter_cons_of_neg h, List.map_cons, List.sum_cons, ih, if_neg h, Nat.zero_add]

theorem State.bpp_eq (x : State) (n : Nat) : x.bpp n = if x.b (RAS_STREAM_BPP n) = true then 2 else 1 := by
  have hlt : x.f (RAS_STREAM_BPP n) < 2 := bits_lt _ _ _
  simp only [State.bpp, State.b, decide_eq_true_eq]
  split <;> omega

/-- The slices of the lanes of a stream line, added up. -/
def State.streamBytes (x : State) (n : Nat) : Nat := ((List.range 8).map fun k =>
    if bitAt (x.f (RAS_STREAM_LANES n)) k = true then
      32 * ((x.f (HL_NOZ_COUNT (8 * x.f (RAS_STREAM_PIPE n) + k)) / 2 ^ x.f (RAS_GEOM_ROWS (8 * x.f (RAS_STREAM_PIPE n) + k)) *
        (if x.b (RAS_STREAM_BPP n) = true then 2 else 1) + 255) / 256) else 0).sum

theorem State.lineBytes_eq (x : State) (n : Nat) : x.lineBytes n = x.streamBytes n := by
  rw [State.lineBytes, State.streamLanes, List.map_map, ← List.sum_eq_foldl, bitsSet, sum_filter_map, State.streamBytes, ← x.bpp_eq n]
  rfl

/-! Greatest and least of a list -/

theorem foldl_max_spec (a : Nat) (xs : List Nat) : xs.foldl max a ∈ a :: xs ∧ ∀ y ∈ a :: xs, y ≤ xs.foldl max a := by
  induction xs generalizing a with
  | nil => simp
  | cons b xs ih =>
    obtain ⟨hmem, hle⟩ := ih (max a b)
    rw [List.foldl_cons]
    have hab := hle _ List.mem_cons_self
    refine ⟨?_, fun y hy => ?_⟩
    · rcases List.mem_cons.1 hmem with h | h
      · rw [h]
        rcases max_choice a b with h' | h' <;> simp [h']
      · simp [h]
    · rcases List.mem_cons.1 hy with rfl | hy
      · omega
      · rcases List.mem_cons.1 hy with rfl | hy
        · omega
        · exact hle y (List.mem_cons_of_mem _ hy)

theorem foldl_min_spec (a : Nat) (xs : List Nat) : xs.foldl min a ∈ a :: xs ∧ ∀ y ∈ a :: xs, xs.foldl min a ≤ y := by
  induction xs generalizing a with
  | nil => simp
  | cons b xs ih =>
    obtain ⟨hmem, hle⟩ := ih (min a b)
    rw [List.foldl_cons]
    have hab := hle _ List.mem_cons_self
    refine ⟨?_, fun y hy => ?_⟩
    · rcases List.mem_cons.1 hmem with h | h
      · rw [h]
        rcases min_choice a b with h' | h' <;> simp [h']
      · simp [h]
    · rcases List.mem_cons.1 hy with rfl | hy
      · omega
      · rcases List.mem_cons.1 hy with rfl | hy
        · omega
        · exact hle y (List.mem_cons_of_mem _ hy)

theorem maxOf_spec (xs : List Nat) (h : xs ≠ []) : maxOf xs ∈ xs ∧ ∀ y ∈ xs, y ≤ maxOf xs := by
  obtain ⟨hmem, hle⟩ := foldl_max_spec 0 xs
  refine ⟨?_, fun y hy => hle y (List.mem_cons_of_mem _ hy)⟩
  rcases List.mem_cons.1 hmem with h0 | hmem
  · obtain ⟨y, hy⟩ := List.exists_mem_of_ne_nil xs h
    have hy0 := hle y (List.mem_cons_of_mem _ hy)
    rw [maxOf, h0]
    rwa [show y = 0 by omega] at hy
  · exact hmem

theorem minOf_spec (xs : List Nat) (h : xs ≠ []) : minOf xs ∈ xs ∧ ∀ y ∈ xs, minOf xs ≤ y := by
  obtain ⟨y, ys, rfl⟩ := List.exists_cons_of_ne_nil h
  obtain ⟨hmem, hle⟩ := foldl_min_spec y (y :: ys)
  refine ⟨?_, fun z hz => hle z (List.mem_cons_of_mem _ hz)⟩
  rcases List.mem_cons.1 hmem with h0 | hmem
  · rw [show minOf (y :: ys) = y from h0]
    exact List.mem_cons_self
  · exact hmem

/-! The conditions of R301 -/

/-- Lane l may take part in stream n of a domain d. -/
def State.streamLaneOk (x : State) (n d l : Nat) : Prop :=
  x.f (HL_CFG_DCD l) = d ∧
  (∀ m < 32, m ≠ n → x.b (RAS_STREAM_ENABLE m) = true →
    ¬ (l / 8 = x.f (RAS_STREAM_PIPE m) ∧ bitAt (x.f (RAS_STREAM_LANES m)) (l % 8) = true)) ∧
  x.f (RAS_GEOM_ROWS l) ≠ 3 ∧ x.f (HL_NOZ_COUNT l) % 2 ^ x.f (RAS_GEOM_ROWS l) = 0 ∧
  x.f (RAS_STITCH_WIDTH_L l) + x.f (RAS_STITCH_WIDTH_R l) ≤ x.f (HL_NOZ_COUNT l) / 2 ^ x.f (RAS_GEOM_ROWS l) ∧
  (x.b (RAS_SCAN_SCAN_EN d) = true → x.f (RAS_GEOM_ROWS l) = 0 ∧ x.f (RAS_SKEW_DELAY l) = 0)

/-- The ring of a stream holds its lines, and eight more, for a span of delays. -/
def State.streamFits (x : State) (n span : Nat) : Prop :=
  x.streamBytes n * (span + 8) ≤ x.chSize (x.f (RAS_STREAM_CHANNEL n)) ∧
  x.streamBytes n * (span + 8) ≤ x.f (CH_WM_HIGH_WM (x.f (RAS_STREAM_CHANNEL n))) * x.chSize (x.f (RAS_STREAM_CHANNEL n)) / 256

section
variable (x : State) (n : Nat)

theorem State.streamLaneOk_iff (d l : Nat) : x.streamLaneOk n d l ↔
    (decide (x.f (HL_CFG_DCD l) = d) && !((List.range 32).any fun m =>
      m ≠ n && x.b (RAS_STREAM_ENABLE m) && (x.streamLanes m).contains l) &&
    x.f (RAS_GEOM_ROWS l) ≠ 3 && x.f (HL_NOZ_COUNT l) % x.rows l = 0 &&
    x.f (RAS_STITCH_WIDTH_L l) + x.f (RAS_STITCH_WIDTH_R l) ≤ x.cols l &&
    (!x.scanning d || (x.f (RAS_GEOM_ROWS l) = 0 && x.f (RAS_SKEW_DELAY l) = 0))) = true := by
  have hfree : (!((List.range 32).any fun m => m ≠ n && x.b (RAS_STREAM_ENABLE m) && (x.streamLanes m).contains l)) = true ↔
      ∀ m < 32, m ≠ n → x.b (RAS_STREAM_ENABLE m) = true →
        ¬ (l / 8 = x.f (RAS_STREAM_PIPE m) ∧ bitAt (x.f (RAS_STREAM_LANES m)) (l % 8) = true) := by
    simp only [Bool.not_eq_true', List.any_eq_false, List.mem_range, Bool.and_eq_true, decide_eq_true_eq, List.contains_iff_mem,
      x.mem_streamLanes, not_and, and_imp]
  have hscan : (!x.scanning d || (x.f (RAS_GEOM_ROWS l) = 0 && x.f (RAS_SKEW_DELAY l) = 0)) = true ↔
      (x.b (RAS_SCAN_SCAN_EN d) = true → x.f (RAS_GEOM_ROWS l) = 0 ∧ x.f (RAS_SKEW_DELAY l) = 0) := by
    rw [State.scanning]
    cases x.b (RAS_SCAN_SCAN_EN d) <;> simp
  simp only [Bool.and_eq_true, hfree, hscan, decide_eq_true_eq, and_assoc]
  rfl

/-- R301 condition by condition, with the lanes of the greatest and the least delay. -/
theorem State.streamOk_iff : x.streamOk n = true ↔
    x.f (DCD_CTRL_STATE (x.f (RAS_STREAM_DCD n))) = 0 ∧ x.b (CH_CFG_DIR (x.f (RAS_STREAM_CHANNEL n))) = false ∧
      x.b (CH_CFG_RING_EN (x.f (RAS_STREAM_CHANNEL n))) = true ∧ (∃ l, l ∈ x.streamLanes n) ∧
      (∀ l ∈ x.streamLanes n, x.streamLaneOk n (x.f (RAS_STREAM_DCD n)) l) ∧
      (x.b (RAS_STREAM_BPP n) = false → x.f (RAS_STREAM_ONE_LEVEL n) ≠ 0) ∧
      (x.b (RAS_SCAN_SCAN_EN (x.f (RAS_STREAM_DCD n))) = true → x.f (RAS_SCAN_PASS_LINES (x.f (RAS_STREAM_DCD n))) ≠ 0) ∧
      x.streamFits n (maxOf (x.delays n) - minOf (x.delays n)) := by
  have hlanes : (decide (x.streamLanes n ≠ [])) = true ↔ ∃ l, l ∈ x.streamLanes n := by
    rw [decide_eq_true_eq]
    exact ⟨List.exists_mem_of_ne_nil _, fun ⟨l, hl⟩ h => by simp [h] at hl⟩
  have hscan : (!x.scanning (x.f (RAS_STREAM_DCD n)) || x.f (RAS_SCAN_PASS_LINES (x.f (RAS_STREAM_DCD n))) ≠ 0 : Bool) = true ↔
      (x.b (RAS_SCAN_SCAN_EN (x.f (RAS_STREAM_DCD n))) = true → x.f (RAS_SCAN_PASS_LINES (x.f (RAS_STREAM_DCD n))) ≠ 0) := by
    rw [State.scanning]
    cases x.b (RAS_SCAN_SCAN_EN (x.f (RAS_STREAM_DCD n))) <;> simp
  have hlevel : (x.b (RAS_STREAM_BPP n) || x.f (RAS_STREAM_ONE_LEVEL n) ≠ 0 : Bool) = true ↔
      (x.b (RAS_STREAM_BPP n) = false → x.f (RAS_STREAM_ONE_LEVEL n) ≠ 0) := by
    cases x.b (RAS_STREAM_BPP n) <;> simp
  have hall : ∀ d, (x.streamLanes n).all (fun l => decide (x.f (HL_CFG_DCD l) = d) && !((List.range 32).any fun m =>
      m ≠ n && x.b (RAS_STREAM_ENABLE m) && (x.streamLanes m).contains l) &&
      x.f (RAS_GEOM_ROWS l) ≠ 3 && x.f (HL_NOZ_COUNT l) % x.rows l = 0 &&
      x.f (RAS_STITCH_WIDTH_L l) + x.f (RAS_STITCH_WIDTH_R l) ≤ x.cols l &&
      (!x.scanning d || (x.f (RAS_GEOM_ROWS l) = 0 && x.f (RAS_SKEW_DELAY l) = 0))) = true ↔
      ∀ l ∈ x.streamLanes n, x.streamLaneOk n d l := fun d => by
    rw [List.all_eq_true]
    exact forall₂_congr fun l _ => (x.streamLaneOk_iff n d l).symm
  simp only [State.streamOk, Bool.and_eq_true, hlanes, hscan, hlevel, hall, State.stopped, decide_eq_true_eq, Bool.not_eq_true',
    State.streamFits, x.lineBytes_eq]
  constructor
  · rintro ⟨⟨⟨⟨⟨⟨⟨⟨hd, hdir⟩, hring⟩, hne⟩, hok⟩, hlevel⟩, hsize⟩, hwm⟩, hscan⟩
    exact ⟨hd, hdir, hring, hne, hok, hlevel, hscan, hsize, hwm⟩
  · rintro ⟨hd, hdir, hring, hne, hok, hlevel, hscan, hsize, hwm⟩
    exact ⟨⟨⟨⟨⟨⟨⟨⟨hd, hdir⟩, hring⟩, hne⟩, hok⟩, hlevel⟩, hsize⟩, hwm⟩, hscan⟩

/-- The greatest and the least delay are those of two lanes. -/
theorem State.streamFits_iff (hne : ∃ l, l ∈ x.streamLanes n) : x.streamFits n (maxOf (x.delays n) - minOf (x.delays n)) ↔
    ∃ a b, a ∈ x.streamLanes n ∧ b ∈ x.streamLanes n ∧ (∀ l ∈ x.streamLanes n, x.f (RAS_SKEW_DELAY b) ≤ x.f (RAS_SKEW_DELAY l) ∧
      x.f (RAS_SKEW_DELAY l) ≤ x.f (RAS_SKEW_DELAY a)) ∧ x.streamFits n (x.f (RAS_SKEW_DELAY a) - x.f (RAS_SKEW_DELAY b)) := by
  have hd : ∀ l ∈ x.streamLanes n, x.f (RAS_SKEW_DELAY l) ∈ x.delays n := fun l hl => List.mem_map.2 ⟨l, hl, rfl⟩
  have hdne : x.delays n ≠ [] := by
    obtain ⟨l, hl⟩ := hne
    exact List.ne_nil_of_mem (hd l hl)
  obtain ⟨hmax, hle⟩ := maxOf_spec _ hdne
  obtain ⟨hmin, hge⟩ := minOf_spec _ hdne
  obtain ⟨a, ha, hamax⟩ := List.mem_map.1 hmax
  obtain ⟨b, hb, hbmin⟩ := List.mem_map.1 hmin
  constructor
  · intro h
    refine ⟨a, b, ha, hb, fun l hl => ?_, by rwa [hamax, hbmin]⟩
    rw [hamax, hbmin]
    exact ⟨hge _ (hd l hl), hle _ (hd l hl)⟩
  · rintro ⟨a', b', ha', hb', hall, hfits⟩
    have e1 : maxOf (x.delays n) = x.f (RAS_SKEW_DELAY a') := le_antisymm (hamax ▸ (hall a ha).2) (hle _ (hd a' ha'))
    have e2 : minOf (x.delays n) = x.f (RAS_SKEW_DELAY b') := le_antisymm (hge _ (hd b' hb')) (hbmin ▸ (hall b hb).1)
    rwa [e1, e2]

end

/-! A write of RAS_STREAM (R301, R303) -/

theorem rasStream_plain : ∀ n : Fin 32, plainRegister true (RAS_STREAM n) 0xFF1F01FF = true := by decide

theorem State.hook_rasStream (s : State) (req : Nat) (n : Fin 32) (new : Word) : s.hook req (RAS_STREAM n) new = s.streamWrite n new := by
  have hblock : RAS_STREAM n / 0x10000 = 6 := by simp only [RAS_STREAM]; omega
  have hidx : (RAS_STREAM n - 0x61000) / 0x20 = n := by simp only [RAS_STREAM]; omega
  have h8 : ¬ 0x68000 ≤ RAS_STREAM n := by simp only [RAS_STREAM]; omega
  have h2 : ¬ 0x62000 ≤ RAS_STREAM n := by simp only [RAS_STREAM]; omega
  have h1 : 0x61000 ≤ RAS_STREAM n := by simp only [RAS_STREAM]; omega
  have hras : s.hook req (RAS_STREAM n) new = s.hookRaster (RAS_STREAM n) new := by simp only [State.hook, hblock]
  rw [hras, State.hookRaster, if_neg h8, if_neg h2, if_pos h1, hidx]

/-- A granted write of RAS_STREAM puts the fields as written where no other bit is held. -/
theorem State.busReg_stream (s : State) (req : Req) (n : Fin 32) (v : Word) (hg : s.granted req (RAS_STREAM n))
    (h0 : s.rd (RAS_STREAM n) &&& 0x00E0FE00#32 = 0) :
    ∃ l, s.begin.busReg req (RAS_STREAM n) v = (s.begin.withUnlocks l).streamWrite n (v &&& 0xFF1F01FF#32) := by
  obtain ⟨l, hl⟩ := s.busReg_granted req (RAS_STREAM n) v 0xFF1F01FF (rasStream_plain n) hg
  refine ⟨l, ?_⟩
  rw [hl, State.hook_rasStream, show (~~~0xFF1F01FF : Word) = 0x00E0FE00#32 by decide, h0]
  exact congrArg _ BitVec.zero_or

theorem putBits_enable (v : Word) : putBits v 0 0 1 &&& 0xFF1F01FF#32 = (v &&& 0xFF1F01FF#32) ||| 1#32 := by
  refine BitVec.eq_of_getLsbD_eq fun i hi => ?_
  rw [BitVec.getLsbD_and, BitVec.getLsbD_or, BitVec.getLsbD_and, getLsbD_putBits _ _ _ _ _ le_rfl hi, if_neg (Nat.not_lt_zero i)]
  by_cases h : i ≤ 0
  · obtain rfl : i = 0 := by omega
    simp
  · have hone : (1#32).getLsbD i = false := by simp; omega
    rw [if_neg h, hone, Bool.or_false]

theorem putBits_disable (v : Word) : putBits v 0 0 0 &&& 0xFF1F01FF#32 = v &&& 0xFF1F01FE#32 := by
  have hmask : (0xFF1F01FE#32 : Word) = 0xFF1F01FF#32 &&& ~~~1#32 := by decide
  rw [hmask]
  refine BitVec.eq_of_getLsbD_eq fun i hi => ?_
  rw [BitVec.getLsbD_and, BitVec.getLsbD_and, BitVec.getLsbD_and, BitVec.getLsbD_not, getLsbD_putBits _ _ _ _ _ le_rfl hi,
    if_neg (Nat.not_lt_zero i)]
  by_cases h : i ≤ 0
  · obtain rfl : i = 0 := by omega
    simp
  · have hone : (1#32).getLsbD i = false := by simp; omega
    rw [if_neg h, hone, decide_eq_true hi]
    simp

section
variable (s : State) (n : Nat) (new : Word)

/-- A stream enabled with its line length. -/
def State.streamOn (s : State) (n : Nat) (new : Word) : State :=
  (((s.wr (RAS_STREAM n) new).setF (RAS_LINE_BYTES_BYTES n) ((s.wr (RAS_STREAM n) new).lineBytes n)).setStrm n
    { base := ((s.wr (RAS_STREAM n) new).setF (RAS_LINE_BYTES_BYTES n) ((s.wr (RAS_STREAM n) new).lineBytes n)).f
        (CH_CONS_COUNT (((s.wr (RAS_STREAM n) new).setF (RAS_LINE_BYTES_BYTES n) ((s.wr (RAS_STREAM n) new).lineBytes n)).f
          (RAS_STREAM_CHANNEL n))),
      passed := 0 }).setB (RAS_STREAM_STAT_ACTIVE n) true

/-- A stream disabled. -/
def State.streamOff (s : State) (n : Nat) (new : Word) : State := (s.wr (RAS_STREAM n) new).setB (RAS_STREAM_STAT_ACTIVE n) false

theorem State.streamWrite_enables (hn : new ≠ s.rd (RAS_STREAM n)) (h1 : bitAt new.toNat 0 = true)
    (he : s.b (RAS_STREAM_ENABLE n) = false) (hok : (s.wr (RAS_STREAM n) new).streamOk n = true) :
    s.streamWrite n new = s.streamOn n new := by
  simp only [State.streamWrite, hn, h1, he, hok, if_true, if_false, Bool.not_false, Bool.true_or, Bool.true_and]
  rfl

theorem State.streamWrite_refused (hn : new ≠ s.rd (RAS_STREAM n)) (h1 : bitAt new.toNat 0 = true)
    (hok : ¬ (s.wr (RAS_STREAM n) new).streamOk n = true) : s.streamWrite n new = s.rasCfgError [n] n := by
  simp only [State.streamWrite, hn, h1, if_true, if_false, hok, Bool.and_false, Bool.false_eq_true]

theorem State.streamWrite_disables (hn : new ≠ s.rd (RAS_STREAM n)) (h1 : bitAt new.toNat 0 = false)
    (hs : s.f (DCD_CTRL_STATE (s.f (RAS_STREAM_DCD n))) = 0) (hd : s.f (DCD_CTRL_STATE (bits new.toNat 5 4)) = 0) :
    s.streamWrite n new = s.streamOff n new := by
  simp only [State.streamWrite, hn, h1, State.stopped, hs, hd, if_true, if_false, Bool.or_true, Bool.and_self, Bool.false_eq_true, decide_true]
  rfl

theorem State.streamWrite_running (hn : new ≠ s.rd (RAS_STREAM n)) (h1 : bitAt new.toNat 0 = false) (he : s.b (RAS_STREAM_ENABLE n) = true)
    (hs : s.f (DCD_CTRL_STATE (s.f (RAS_STREAM_DCD n))) ≠ 0) : s.streamWrite n new = s.rasCfgError [n] n := by
  simp only [State.streamWrite, hn, h1, he, State.stopped, hs, if_false, Bool.not_true, Bool.or_self, Bool.false_and, Bool.false_eq_true,
    decide_false]

end

theorem raiseReach_raster (b : Nat) (h : 0x60000 ≤ b ∧ b < 0x70000) : raiseReach b = false := by
  simp only [raiseReach, Bool.or_eq_false_iff, Bool.and_eq_false_iff, decide_eq_false_iff_not]
  omega

theorem State.raise_streams (s : State) (src info : Nat) : (s.raise src info).streams = s.streams :=
  State.raise_keeps State.streams s src info <|
    State.Apart.raiseWith_keeps (W := fun _ => True) (by constructor <;> intros <;> rfl) .all s false src info (fun _ _ _ => rfl) fun _ _ => trivial

theorem State.raise_strm (s : State) (src info n : Nat) : (s.raise src info).strm n = s.strm n := by
  rw [State.strm, State.raise_streams, State.strm]

section
variable (s : State) (n : Fin 32) (new : Word)

theorem State.streamOn_rd (a : Nat) (ha : a ≠ RAS_STREAM_STAT n) (hl : a ≠ RAS_LINE_BYTES n) :
    (s.streamOn n new).rd a = (s.wr (RAS_STREAM n) new).rd a :=
  (State.rd_setF_other _ _ _ _ (Ne.symm ha)).trans (State.rd_setF_other _ _ _ _ (Ne.symm hl))

theorem State.streamOn_stream : (s.streamOn n new).rd (RAS_STREAM n) = new := by
  rw [State.streamOn_rd _ _ _ _ (by simp [RAS_STREAM, RAS_STREAM_STAT]) (by simp [RAS_STREAM, RAS_LINE_BYTES]), State.rd_wr_same]

theorem State.streamOn_active : (s.streamOn n new).b (RAS_STREAM_STAT_ACTIVE n) = true :=
  State.b_setB_same _ _ _ rfl (by simp [RAS_STREAM_STAT_ACTIVE])

theorem State.streamOn_lineBytes : (s.streamOn n new).f (RAS_LINE_BYTES_BYTES n) = (s.wr (RAS_STREAM n) new).lineBytes n % 65536 := by
  have hstat : (RAS_STREAM_STAT_ACTIVE n).addr ≠ (RAS_LINE_BYTES_BYTES n).addr := by
    simp [RAS_STREAM_STAT_ACTIVE, RAS_LINE_BYTES_BYTES, RAS_STREAM_STAT, RAS_LINE_BYTES]
  refine (State.f_setF_other _ _ _ _ hstat).trans ?_
  exact State.f_setF_same _ _ _ (by simp [RAS_LINE_BYTES_BYTES]) (by simp [RAS_LINE_BYTES_BYTES])

/-- Lines count from CH_CONS of the stream's channel. -/
theorem State.streamOn_strm : (s.streamOn n new).strm n =
    { base := s.f (CH_CONS_COUNT ((s.wr (RAS_STREAM n) new).f (RAS_STREAM_CHANNEL n))), passed := 0 } := by
  have hchan : ∀ w v, ((s.wr (RAS_STREAM n) w).setF (RAS_LINE_BYTES_BYTES n) v).f (RAS_STREAM_CHANNEL n) =
      (s.wr (RAS_STREAM n) w).f (RAS_STREAM_CHANNEL n) := fun w v =>
    State.f_setF_other _ _ _ _ (by simp [RAS_LINE_BYTES_BYTES, RAS_STREAM_CHANNEL, RAS_LINE_BYTES, RAS_STREAM])
  have hlt : ∀ w, (s.wr (RAS_STREAM n) w).f (RAS_STREAM_CHANNEL n) < 32 := fun w => bits_lt _ _ _
  have hcons : ∀ w v c, c < 32 → ((s.wr (RAS_STREAM n) w).setF (RAS_LINE_BYTES_BYTES n) v).f (CH_CONS_COUNT c) = s.f (CH_CONS_COUNT c) :=
    fun w v c hc => by
      refine (State.f_setF_other _ _ _ _ ?_).trans (State.f_congr _ (State.rd_wr_ne _ _ _ _ ?_))
      · simp only [RAS_LINE_BYTES_BYTES, CH_CONS_COUNT, RAS_LINE_BYTES, CH_CONS]; omega
      · simp only [CH_CONS_COUNT, RAS_STREAM, CH_CONS]; omega
  have hset : ∀ (t : State) x b, (t.setB x b).strm n = t.strm n := fun _ _ _ => rfl
  rw [State.streamOn, hset, State.setStrm_strm_same, hchan, hcons _ _ _ (hlt _)]

theorem State.rasCfgError_one (k info : Nat) : s.rasCfgError [k] info = (s.ev (RAS_STREAM_STAT_CFG_ERROR k)).raise 35 info := by
  rw [State.rasCfgError, State.forEach, List.foldl_cons, List.foldl_nil]

theorem State.cfgError_frozen : (s.ev (RAS_STREAM_STAT_CFG_ERROR n)).b DBG_STAT_FROZEN = s.b DBG_STAT_FROZEN := by
  refine State.b_congr DBG_STAT_FROZEN (State.rd_wr_ne _ _ _ _ ?_)
  simp only [RAS_STREAM_STAT_CFG_ERROR, RAS_STREAM_STAT, DBG_STAT_FROZEN, DBG_STAT]
  omega

theorem State.cfgError_stream : ((s.ev (RAS_STREAM_STAT_CFG_ERROR n)).raise 35 n).rd (RAS_STREAM n) = s.rd (RAS_STREAM n) := by
  rw [State.raise_rd _ _ _ _ (raiseReach_raster _ (by simp only [RAS_STREAM]; omega))]
  exact State.rd_wr_ne _ _ _ _ (by simp [RAS_STREAM_STAT_CFG_ERROR, RAS_STREAM_STAT, RAS_STREAM])

theorem State.cfgError_set : ((s.ev (RAS_STREAM_STAT_CFG_ERROR n)).raise 35 n).b (RAS_STREAM_STAT_CFG_ERROR n) = true := by
  have hreach : raiseReach (RAS_STREAM_STAT_CFG_ERROR n).addr = false :=
    raiseReach_raster _ (by simp only [RAS_STREAM_STAT_CFG_ERROR, RAS_STREAM_STAT]; omega)
  rw [State.raise_b _ _ _ _ hreach, State.ev_b _ _ rfl (by simp [RAS_STREAM_STAT_CFG_ERROR])]

/-- What a refused write of RAS_STREAM shows. -/
theorem State.cfgError_shows (hf : s.b DBG_STAT_FROZEN = false) :
    (s.rasCfgError [n.val] n).mem = s.mem ∧ (s.rasCfgError [n.val] n).rd (RAS_STREAM n) = s.rd (RAS_STREAM n) ∧
    (s.rasCfgError [n.val] n).strm n = s.strm n ∧ (s.rasCfgError [n.val] n).b (RAS_STREAM_STAT_CFG_ERROR n) = true ∧
    (s.rasCfgError [n.val] n).b (FLT_SRC_LATCHED 35) = true ∧ (s.rasCfgError [n.val] n).rn (FLT_INFO 35) = n := by
  have hfrozen := (s.cfgError_frozen n).trans hf
  have hinfo : (BitVec.ofNat 32 n.val).toNat = n.val := by
    rw [BitVec.toNat_ofNat]
    omega
  rw [State.rasCfgError_one]
  exact ⟨(State.raise_mem _ _ _).trans (State.wr_mem _ _ _), s.cfgError_stream n, (State.raise_strm _ _ _ _).trans (State.wr_strm _ _ _ _), s.cfgError_set n, State.raise_latched _ _ _ (by decide) hfrozen,
    (congrArg BitVec.toNat (State.raise_info _ _ _ (by decide) hfrozen)).trans hinfo⟩

end

/-! A scrub step (R294) -/

/-- The state with other marks of beats in error. -/
def State.withBeats (s : State) (po so : List Nat) : State := { s with poison := po, soft := so }

section
variable (s : State) (a : Nat)

/-- What a scrub step reads once errors have come about in the beat. -/
def State.scrubbed (s : State) (a : Nat) : State :=
  if s.poison.contains (a / 4) then s.eccError true true (4 * (a / 4))
  else if s.soft.contains (a / 4) then s.eccCorrect true (a / 4)
  else s

section
variable (he : s.b MEMC_SCRUB_EN = true) (hi : a < s.installed)
include he hi

theorem State.scrubStep_zero : s.scrubStep a 0 = s.scrubbed a := by
  have hno : ¬ (!s.b MEMC_SCRUB_EN || s.installed ≤ a : Bool) = true := by simp [he]; omega
  simp only [State.scrubStep, hno, if_false, ne_eq, not_true_eq_false, decide_false, State.when_false, State.scrubbed, Bool.false_eq_true]

theorem State.scrubStep_upset (err : Nat) (h : err ≠ 0) : s.scrubStep a err = (s.upset [(a / 4, decide (err = 2))]).scrubbed a := by
  have hno : ¬ (!s.b MEMC_SCRUB_EN || s.installed ≤ a : Bool) = true := by simp [he]; omega
  simp only [State.scrubStep, hno, if_false, ne_eq, h, not_false_eq_true, decide_true, State.when_true, State.scrubbed, Bool.false_eq_true]

end

/-- A single-bit error comes about in an installed beat that is not poisoned. -/
theorem State.upset_single (hi : a < s.installed) (hp : s.poison.contains (a / 4) = false) :
    s.upset [(a / 4, false)] = s.withBeats s.poison (if s.soft.contains (a / 4) then s.soft else a / 4 :: s.soft) := by
  have hin : 4 * (a / 4) < s.installed := by omega
  simp only [State.upset, List.filter_cons, hin, decide_true, if_true, List.filter_nil, List.foldl_cons, List.foldl_nil, hp, Bool.false_eq_true,
    if_false]
  split <;> rfl

theorem State.upset_double (hi : a < s.installed) (hp : s.poison.contains (a / 4) = false) :
    s.upset [(a / 4, true)] = s.withBeats (a / 4 :: s.poison) (s.soft.filter (· ≠ a / 4)) := by
  have hin : 4 * (a / 4) < s.installed := by omega
  simp only [State.upset, List.filter_cons, hin, decide_true, if_true, List.filter_nil, List.foldl_cons, List.foldl_nil, hp, Bool.false_eq_true,
    if_false]
  rfl

end

/-! Registers and memory but for those listed -/

section
variable {s t : State} {l : List Nat}

theorem State.regsBut.wr (h : s.regsBut t l) (a : Nat) (v : Word) (ha : a ∈ l) : s.regsBut (t.wr a v) l :=
  ⟨(t.wr_mem a v).trans h.1, fun b hb => (State.rd_wr_ne t a b v fun e => hb (e ▸ ha)).trans (h.2 b hb)⟩

theorem State.regsBut.setF (h : s.regsBut t l) (x : Field) (v : Nat) (hx : x.addr ∈ l) : s.regsBut (t.setF x v) l := h.wr _ _ hx

theorem State.regsBut.setB (h : s.regsBut t l) (x : Field) (v : Bool) (hx : x.addr ∈ l) : s.regsBut (t.setB x v) l := h.wr _ _ hx

/-- A change of neither registers nor memory. -/
theorem State.regsBut.of_regs (hm : t.mem = s.mem) (hr : t.regs = s.regs) : s.regsBut t l := ⟨hm, fun a _ => State.rd_congr hr a⟩

end

/-! The scrub's errors -/

section
variable (s : State) (a : Nat)

theorem State.scrubbed_single (hp : s.poison.contains (a / 4) = false) (hs : s.soft.contains (a / 4) = true) :
    s.scrubbed a = (s.withBeats s.poison (s.soft.filter (· ≠ a / 4))).eccError false true (4 * (a / 4)) := by
  rw [State.scrubbed, if_neg (by simpa using hp), if_pos hs, State.eccCorrect]
  rfl

theorem State.scrubbed_double (hp : s.poison.contains (a / 4) = true) : s.scrubbed a = s.eccError true true (4 * (a / 4)) := by
  rw [State.scrubbed, if_pos hp]

theorem State.raise_poison (src info : Nat) : (s.raise src info).poison = s.poison :=
  State.raise_keeps State.poison s src info <|
    State.Apart.raiseWith_keeps (W := fun _ => True) (by constructor <;> intros <;> rfl) .all s false src info (fun _ _ _ => rfl) fun _ _ => trivial

theorem State.raise_soft (src info : Nat) : (s.raise src info).soft = s.soft :=
  State.raise_keeps State.soft s src info <|
    State.Apart.raiseWith_keeps (W := fun _ => True) (by constructor <;> intros <;> rfl) .all s false src info (fun _ _ _ => rfl) fun _ _ => trivial

theorem State.eccError_mem (u b : Bool) : (s.eccError u b a).mem = s.mem := State.eccError_keeps State.mem (fun _ _ _ => rfl) State.raise_mem s u b a
theorem State.eccError_poison (u b : Bool) : (s.eccError u b a).poison = s.poison :=
  State.eccError_keeps State.poison (fun _ _ _ => rfl) State.raise_poison s u b a
theorem State.eccError_soft (u b : Bool) : (s.eccError u b a).soft = s.soft :=
  State.eccError_keeps State.soft (fun _ _ _ => rfl) State.raise_soft s u b a

end

/-- A bit of ECC_STAT after an error. -/
theorem State.eccStat_bit {s t : State} {m : Nat} {ms : List Nat} (h : t.rd (MEMC_ECC_STAT m) = sqEvent (s.rd (MEMC_ECC_STAT m)) ms)
    (hms : ∀ k ∈ ms, k < 24) (x : Field) (hx : x.addr = MEMC_ECC_STAT m) (hlo : x.lo = x.hi) (h24 : x.lo < 24) :
    t.b x = (decide (x.lo ∈ ms) || s.b x) := by
  rw [State.b, State.b, State.f, State.f, hx, h, ← hlo, bits_one, bits_one, testBit_sqEvent _ _ hms _ h24]

/-- What a scrub step shows that corrects a single-bit error. -/
theorem State.scrub_corrects (s : State) (a : Nat) (hf : s.b DBG_STAT_FROZEN = false) (hp : s.poison.contains (a / 4) = false)
    (hs : s.soft.contains (a / 4) = true) :
    let t := s.scrubbed a
    let ch := s.ddrChan (4 * (a / 4))
    t.mem = s.mem ∧ t.poison = s.poison ∧ t.soft.contains (a / 4) = false ∧ t.b (MEMC_ECC_STAT_CE ch) = true ∧
      t.b (MEMC_ECC_STAT_BY_SCRUB ch) = true ∧ t.b (MEMC_ECC_STAT_UE ch) = s.b (MEMC_ECC_STAT_UE ch) ∧
      t.f (MEMC_ECC_STAT_SEQ ch) = (s.f (MEMC_ECC_STAT_SEQ ch) + 1) % 256 ∧
      t.f (MEMC_ECC_CNT_CE ch) = min (s.f (MEMC_ECC_CNT_CE ch) + 1) 65535 ∧
      t.rd64 (MEMC_ECC_ADDR_LO ch) = 4 * (a / 4) % 2 ^ 64 ∧ t.b (FLT_SRC_LATCHED 13) = true := by
  intro t ch
  have ht : t = _ := s.scrubbed_single a hp hs
  obtain ⟨hstat, haddr, hcnt, hlatched⟩ := (s.withBeats s.poison (s.soft.filter (· ≠ a / 4))).eccError_shows false true (4 * (a / 4)) hf
  have hbits : ∀ k ∈ eccBits false true, k < 24 := by decide
  rw [← ht] at hstat haddr hcnt hlatched
  refine ⟨?_, ?_, ?_, ?_, ?_, ?_, ?_, hcnt, haddr, hlatched⟩
  · rw [ht]; exact State.eccError_mem _ _ _ _
  · rw [ht]; exact State.eccError_poison _ _ _ _
  · rw [ht, State.eccError_soft]
    simp [State.withBeats]
  · rw [State.eccStat_bit (s := s) hstat hbits _ rfl rfl (by simp [MEMC_ECC_STAT_CE])]
    rfl
  · rw [State.eccStat_bit (s := s) hstat hbits _ rfl rfl (by simp [MEMC_ECC_STAT_BY_SCRUB])]
    rfl
  · rw [State.eccStat_bit (s := s) hstat hbits _ rfl rfl (by simp [MEMC_ECC_STAT_UE])]
    rfl
  · exact (congrArg (fun w => bits w.toNat 31 24) hstat).trans (bits_sqEvent_seq _ _)

/-- What a scrub step shows that records an uncorrectable error. -/
theorem State.scrub_records (s : State) (a : Nat) (hf : s.b DBG_STAT_FROZEN = false) (hp : s.poison.contains (a / 4) = true) :
    let t := s.scrubbed a
    let ch := s.ddrChan (4 * (a / 4))
    t.mem = s.mem ∧ t.poison = s.poison ∧ t.b (MEMC_ECC_STAT_UE ch) = true ∧
      t.f (MEMC_ECC_CNT_UE ch) = min (s.f (MEMC_ECC_CNT_UE ch) + 1) 65535 ∧ t.b (FLT_SRC_LATCHED 14) = true := by
  intro t ch
  have ht : t = _ := s.scrubbed_double a hp
  obtain ⟨hstat, -, hcnt, hlatched⟩ := s.eccError_shows true true (4 * (a / 4)) hf
  have hbits : ∀ k ∈ eccBits true true, k < 24 := by decide
  rw [← ht] at hstat hcnt hlatched
  refine ⟨?_, ?_, ?_, hcnt, hlatched⟩
  · rw [ht]; exact State.eccError_mem _ _ _ _
  · rw [ht]; exact State.eccError_poison _ _ _ _
  · rw [State.eccStat_bit (s := s) hstat hbits _ rfl rfl (by simp [MEMC_ECC_STAT_UE])]
    rfl

section
variable (s : State) (m : Fin 2)

/-- A channel's configuration is apart from its status, the boot status and the freeze. -/
theorem State.memcCfg_state (w : Word) : (s.wr (MEMC_CH_CFG m) w).f (MEMC_CH_STAT_TRAIN_STATE m) = s.f (MEMC_CH_STAT_TRAIN_STATE m) :=
  State.f_congr _ (State.rd_wr_ne _ _ _ _ (by simp [MEMC_CH_CFG, MEMC_CH_STAT_TRAIN_STATE, MEMC_CH_STAT]))

theorem State.memcCfg_bootFailed (w : Word) : (s.wr (MEMC_CH_CFG m) w).bootFailed = s.bootFailed := by
  have hne : MEMC_CH_CFG m ≠ SYS_BOOT_STAT_STAGE.addr := by simp only [MEMC_CH_CFG, SYS_BOOT_STAT_STAGE, SYS_BOOT_STAT]; omega
  rw [State.bootFailed, State.bootFailed, State.f_congr SYS_BOOT_STAT_STAGE (State.rd_wr_ne s _ _ w hne)]

/-- Training leaves the configuration as written. -/
theorem State.training_cfg (w : Word) (x : Field) (hx : x.addr = MEMC_CH_CFG m) :
    ((s.wr (MEMC_CH_CFG m) w).training m).f x = bits w.toNat x.hi x.lo := by
  rw [State.f, hx, State.training, State.setMemc_cfg _ _ _ _ rfl, State.setMemc_cfg _ _ _ _ rfl, State.setMemc_cfg _ _ _ _ rfl,
    State.rd_wr_same]

theorem State.trainFailed_mem (step src info : Nat) :
    (((s.setF (MEMC_CH_STAT_TRAIN_STATE m) 3).setF (MEMC_CH_STAT_FAIL_STEP m) step).raise src info).mem = s.mem :=
  (State.raise_mem _ _ _).trans ((State.wr_mem _ _ _).trans (State.wr_mem _ _ _))

theorem State.trainFailed_frozen (step : Nat) :
    ((s.setF (MEMC_CH_STAT_TRAIN_STATE m) 3).setF (MEMC_CH_STAT_FAIL_STEP m) step).b DBG_STAT_FROZEN = s.b DBG_STAT_FROZEN := by
  have hne : MEMC_CH_STAT m ≠ DBG_STAT_FROZEN.addr := by simp only [MEMC_CH_STAT, DBG_STAT_FROZEN, DBG_STAT]; omega
  exact State.b_congr DBG_STAT_FROZEN ((State.rd_wr_ne _ _ _ _ hne).trans (State.rd_wr_ne _ _ _ _ hne))

end

/-- A beat is in the channel of its bytes. -/
theorem State.ddrChan_beat (s : State) (a : Nat) : s.ddrChan (4 * (a / 4)) = s.ddrChan a := by
  have hcap : ∃ k, s.ddrCap 0 = 4 * k := by
    rw [State.ddrCap]
    split
    · exact ⟨s.f (MEMC_CH_STAT_CAPACITY 0) * 0x40000, by omega⟩
    · exact ⟨0, rfl⟩
  obtain ⟨k, hk⟩ := hcap
  have hpage : 4 * (a / 4) / 4096 % 2 = a / 4096 % 2 := by omega
  have hin : 4 * (a / 4) < 4 * k ↔ a < 4 * k := by omega
  simp only [State.ddrChan, hpage, hk, hin]

/-- The channel of an address is in the registers. -/
theorem State.ddrChan_withBeats (s : State) (po so : List Nat) (a : Nat) : (s.withBeats po so).ddrChan a = s.ddrChan a := rfl

/-- A scrub step that meets a single-bit error, be it old or new. -/
theorem State.scrubStep_single (s : State) (a : Nat) (he : s.b MEMC_SCRUB_EN = true) (hi : a < s.installed)
    (hp : s.poison.contains (a / 4) = false) (err : Nat) (h : err = 1 ∨ err = 0 ∧ s.soft.contains (a / 4) = true) :
    ∃ so, s.scrubStep a err = (s.withBeats s.poison so).scrubbed a ∧ so.contains (a / 4) = true := by
  rcases h with rfl | ⟨rfl, hs⟩
  · refine ⟨_, (s.scrubStep_upset a he hi 1 (by decide)).trans (congrArg (·.scrubbed a) (s.upset_single a hi hp)), ?_⟩
    split
    · assumption
    · simp
  · exact ⟨s.soft, s.scrubStep_zero a he hi, hs⟩

/-! The streams -/

theorem streamBit (w : Word) : bits (w &&& 0xFF1F01FF#32).toNat 0 0 = bits w.toNat 0 0 := by
  have h := bits_masked 0#32 w 0xFF1F01FF#32 0 0 (by decide) (by decide)
  rwa [BitVec.zero_and, BitVec.zero_or] at h

/-- R301 as it is read: of lanes and fields, and with the line length written out. -/
def State.streamMeets (x : State) (n : Nat) : Prop :=
  let d := x.f (RAS_STREAM_DCD n)
  let c := x.f (RAS_STREAM_CHANNEL n)
  let lane (l : Nat) : Prop := l / 8 = x.f (RAS_STREAM_PIPE n) ∧ bitAt (x.f (RAS_STREAM_LANES n)) (l % 8) = true
  x.f (DCD_CTRL_STATE d) = 0 ∧ x.b (CH_CFG_DIR c) = false ∧ x.b (CH_CFG_RING_EN c) = true ∧ (∃ l, lane l) ∧
    (∀ l, lane l → x.streamLaneOk n d l) ∧ (x.b (RAS_STREAM_BPP n) = false → x.f (RAS_STREAM_ONE_LEVEL n) ≠ 0) ∧
    (x.b (RAS_SCAN_SCAN_EN d) = true → x.f (RAS_SCAN_PASS_LINES d) ≠ 0) ∧
    ∃ a b, lane a ∧ lane b ∧
      (∀ l, lane l → x.f (RAS_SKEW_DELAY b) ≤ x.f (RAS_SKEW_DELAY l) ∧ x.f (RAS_SKEW_DELAY l) ≤ x.f (RAS_SKEW_DELAY a)) ∧
      x.streamFits n (x.f (RAS_SKEW_DELAY a) - x.f (RAS_SKEW_DELAY b))

theorem State.streamOk_meets (x : State) (n : Nat) : x.streamOk n = true ↔ x.streamMeets n := by
  have hfits := x.streamFits_iff n
  rw [x.streamOk_iff n]
  simp only [x.mem_streamLanes] at hfits ⊢
  constructor
  · rintro ⟨hd, hdir, hring, hne, hrest⟩
    rw [hfits hne] at hrest
    exact ⟨hd, hdir, hring, hne, hrest⟩
  · rintro ⟨hd, hdir, hring, hne, hrest⟩
    refine ⟨hd, hdir, hring, hne, ?_⟩
    rw [hfits hne]
    exact hrest

/-- An unlock is no part of R301, nor of a stream's line length. -/
theorem State.streamOk_withUnlocks (s : State) (l : List (Nat × Nat × Nat)) (a n : Nat) (w : Word) :
    ((s.begin.withUnlocks l).wr a w).streamOk n = (s.wr a w).streamOk n := rfl

theorem State.lineBytes_withUnlocks (s : State) (l : List (Nat × Nat × Nat)) (a n : Nat) (w : Word) :
    ((s.begin.withUnlocks l).wr a w).lineBytes n = (s.wr a w).lineBytes n := rfl

theorem State.stream_ne_off (s : State) (n : Nat) (w : Word) (he : s.b (RAS_STREAM_ENABLE n) = false) (hw : bits w.toNat 0 0 = 1) :
    w ≠ s.rd (RAS_STREAM n) := by
  rintro rfl
  exact absurd (decide_eq_true hw) (ne_true_of_eq_false he)

theorem State.stream_ne_on (s : State) (n : Nat) (w : Word) (he : s.b (RAS_STREAM_ENABLE n) = true) (hw : bits w.toNat 0 0 = 0) :
    w ≠ s.rd (RAS_STREAM n) := by
  rintro rfl
  exact absurd (hw.symm.trans (of_decide_eq_true he)) (by decide)

theorem bitAt_of_bits_zero (n i : Nat) (h : bits n i i = 0) : bitAt n i = false := by
  rw [bitAt_eq, ← bits_one, h]
  rfl

section
variable {r : State} (s : State) (n : Fin 32) (w : Word)

theorem State.streamOn_regsBut (h : r.regsBut s [RAS_STREAM n, RAS_STREAM_STAT n, RAS_LINE_BYTES n]) :
    r.regsBut (s.streamOn n w) [RAS_STREAM n, RAS_STREAM_STAT n, RAS_LINE_BYTES n] := by
  have hset : ∀ t : State, ∀ x, r.regsBut t [RAS_STREAM n, RAS_STREAM_STAT n, RAS_LINE_BYTES n] →
      r.regsBut (t.setStrm n x) [RAS_STREAM n, RAS_STREAM_STAT n, RAS_LINE_BYTES n] := fun _ _ h => h
  exact (hset _ _ ((h.wr _ w (by simp)).setF (RAS_LINE_BYTES_BYTES n) _ (by simp [RAS_LINE_BYTES_BYTES]))).setB (RAS_STREAM_STAT_ACTIVE n) _
    (by simp [RAS_STREAM_STAT_ACTIVE])

theorem State.streamOff_regsBut (h : r.regsBut s [RAS_STREAM n, RAS_STREAM_STAT n]) :
    r.regsBut (s.streamOff n w) [RAS_STREAM n, RAS_STREAM_STAT n] :=
  (h.wr _ w (by simp)).setB (RAS_STREAM_STAT_ACTIVE n) _ (by simp [RAS_STREAM_STAT_ACTIVE])

theorem State.streamOff_stream : (s.streamOff n w).rd (RAS_STREAM n) = w := by
  rw [State.streamOff, State.setB, State.rd_setF_other _ _ _ _ (by simp [RAS_STREAM_STAT_ACTIVE, RAS_STREAM_STAT, RAS_STREAM]), State.rd_wr_same]

theorem State.streamOff_active : (s.streamOff n w).b (RAS_STREAM_STAT_ACTIVE n) = false :=
  State.b_setB_same _ _ _ rfl (by simp [RAS_STREAM_STAT_ACTIVE])

end

end Sys2Proof.Machine

open Sys2Proof Sys2Proof.Machine
open Sys2Proof.Machine.Reg Sys2Proof.Machine.Fld

/-- Settles O32: training and scrub each come to one change of their channel's registers and the source that goes with it; a write of RAS_STREAM
is taken where R301, read condition by condition, or the stopped domain of R303 allows it, and is otherwise refused whole. -/
theorem deviceMemoryAndStreams : Obligations.DeviceMemoryAndStreams := by
  unfold Obligations.DeviceMemoryAndStreams
  refine ⟨fun req m v step cap a s => ?memory, fun req n v s => ?streams⟩
  case memory =>
    dsimp only
    refine ⟨fun hg hb => ?failedBoot, fun hg hb h1 => ?starts, fun ha h1 hc => ?passes, fun ha h1 => ?fails, fun ha he hi hp => ?scrub⟩
    case failedBoot =>
      obtain ⟨l, w, ht, -, -⟩ := s.exec_ddrTrain req m v hg
      rw [State.ddrTrain_failedBoot _ _ (((s.begin.withUnlocks l).memcCfg_bootFailed m w).trans hb)] at ht
      exact ⟨_, ht, (s.begin.withUnlocks l).memcCfg_state m w⟩
    case starts =>
      obtain ⟨l, w, ht, htrain, hrate⟩ := s.exec_ddrTrain req m v hg
      have h1' : ((s.begin.withUnlocks l).wr (MEMC_CH_CFG m) w).f (MEMC_CH_STAT_TRAIN_STATE m) ≠ 1 := by
        rwa [State.memcCfg_state]
      rw [State.ddrTrain_starts _ _ h1' (((s.begin.withUnlocks l).memcCfg_bootFailed m w).trans hb)] at ht
      obtain ⟨hstate, hstep, hcap⟩ := ((s.begin.withUnlocks l).wr (MEMC_CH_CFG m) w).training_shows m
      refine ⟨_, ht, ?_, hstate, hstep, hcap, ?_, ?_⟩
      · have h0 : s.regsBut (s.begin.withUnlocks l) [MEMC_CH_CFG m, MEMC_CH_STAT m] := .of_regs rfl rfl
        have hstat : MEMC_CH_STAT m ∈ [MEMC_CH_CFG m, MEMC_CH_STAT m] := by simp
        exact (((h0.wr _ w (by simp)).setF _ _ hstat).setF _ _ hstat).setF _ _ hstat
      · exact decide_eq_false (ne_of_eq_of_ne (((s.begin.withUnlocks l).training_cfg m w _ rfl).trans htrain) (by decide))
      · exact ((s.begin.withUnlocks l).training_cfg m w _ rfl).trans hrate
    case passes =>
      have he := (s.awake_of (·.trainDone m true step.toNat cap.toNat) ha).trans (s.begin.trainDone_passes m step.toNat cap.toNat h1 hc)
      have h0 : s.regsBut s.begin [MEMC_CH_STAT m] := .of_regs rfl rfl
      have hstat : MEMC_CH_STAT m ∈ [MEMC_CH_STAT m] := by simp
      exact ⟨_, congrArg Host.Outcome.next he, (h0.setF _ _ hstat).setF _ _ hstat, s.begin.trained_shows m cap.toNat hc⟩
    case fails =>
      have he := (s.awake_of (·.trainDone m false step.toNat cap.toNat) ha).trans (s.begin.trainDone_fails m step.toNat cap.toNat h1)
      obtain ⟨hstate, hstep⟩ := s.begin.trainFailed_shows m step 12 m
      exact ⟨_, congrArg Host.Outcome.next he, s.begin.trainFailed_mem m _ 12 m, hstate, hstep,
        State.raise_latched _ _ _ (by decide) (((s.begin.trainFailed_frozen m _).trans (s.frozen_of_asleep ha)))⟩
    case scrub =>
      have hf := s.frozen_of_asleep ha
      have hstep : ∀ err : Fin 3, exec (.scrubStep a err) s = .next (s.begin.scrubStep a err) := fun err =>
        congrArg Host.Outcome.next (s.awake_of (·.scrubStep a err) ha)
      refine ⟨fun hs => ?clean, fun err h => ?single, ?double⟩
      case clean =>
        refine ⟨s.begin, (hstep 0).trans (congrArg _ ((s.begin.scrubStep_zero a he hi).trans ?_)), rfl, rfl, rfl, rfl⟩
        rw [State.scrubbed, if_neg (by simpa using hp), if_neg (by simpa using hs)]
      case single =>
        obtain ⟨so, hso, hin⟩ := s.begin.scrubStep_single a he hi hp err.val (h.imp (fun h => by rw [h]; rfl) fun h => ⟨by rw [h.1]; rfl, h.2⟩)
        have hshow := (s.begin.withBeats s.poison so).scrub_corrects a hf hp hin
        dsimp only at hshow
        rw [s.begin.ddrChan_withBeats, s.begin.ddrChan_beat] at hshow
        obtain ⟨hmem, hpoison, hsoft, hce, hby, hue, hseq, hcnt, haddr, hlatched⟩ := hshow
        exact ⟨_, (hstep err).trans (congrArg _ hso), hmem, hpoison, hsoft, hce, hby, hue, hseq, hcnt,
          haddr.trans (by omega), hlatched⟩
      case double =>
        have hu := s.begin.upset_double a hi hp
        have hshow := (s.begin.withBeats (a / 4 :: s.poison) (s.soft.filter (· ≠ a / 4))).scrub_records a hf
          (by simp [State.withBeats])
        dsimp only at hshow
        rw [s.begin.ddrChan_withBeats, s.begin.ddrChan_beat] at hshow
        have hso := (s.begin.scrubStep_upset a he hi 2 (by decide)).trans (congrArg (·.scrubbed a) hu)
        exact ⟨_, (hstep 2).trans (congrArg _ hso), hshow⟩
  case streams =>
    dsimp only
    intro hg h0
    have hf : s.b DBG_STAT_FROZEN = false := s.frozen_of_asleep (s.awake_of_reaches req _ hg.1 (by simp only [RAS_STREAM]; omega))
    obtain ⟨l, hon⟩ := s.busReg_stream req n (putBits v 0 0 1) hg h0
    obtain ⟨k, hoff⟩ := s.busReg_stream req n (putBits v 0 0 0) hg h0
    rw [putBits_enable] at hon
    rw [putBits_disable] at hoff
    have hbitOn : bits ((v &&& 0xFF1F01FF#32) ||| 1#32).toNat 0 0 = 1 := by
      rw [← putBits_enable, streamBit, bits_putBits_same _ _ _ _ le_rfl (by decide)]
      rfl
    have hbitOff : bits (v &&& 0xFF1F01FE#32).toNat 0 0 = 0 := by
      rw [← putBits_disable, streamBit, bits_putBits_same _ _ _ _ le_rfl (by decide)]
      rfl
    refine ⟨fun he => ⟨fun hok => ?enabled, fun hok => ?refused⟩, fun he => ⟨fun hs hd => ?disabled, fun hs => ?running⟩⟩
    case enabled =>
      have hok : (s.wr (RAS_STREAM n) ((v &&& 0xFF1F01FF#32) ||| 1#32)).streamOk n = true := (State.streamOk_meets _ _).2 hok
      rw [State.streamWrite_enables (s.begin.withUnlocks l) n _ (s.stream_ne_off n _ he hbitOn) (bitAt_of_bits _ _ hbitOn) he
        ((s.streamOk_withUnlocks _ _ _ _).trans hok)] at hon
      refine ⟨_, congrArg Host.Outcome.next hon, State.streamOn_regsBut _ n _ (.of_regs rfl rfl), State.streamOn_stream _ n _,
        State.streamOn_active _ n _, ?_, State.streamOn_strm _ n _⟩
      rw [State.streamOn_lineBytes, State.lineBytes_withUnlocks, State.lineBytes_eq]
      rfl
    case refused =>
      have hok : ¬ (s.wr (RAS_STREAM n) ((v &&& 0xFF1F01FF#32) ||| 1#32)).streamOk n = true := fun h => hok ((State.streamOk_meets _ _).1 h)
      rw [← s.streamOk_withUnlocks l] at hok
      rw [State.streamWrite_refused (s.begin.withUnlocks l) n _ (s.stream_ne_off n _ he hbitOn) (bitAt_of_bits _ _ hbitOn) hok] at hon
      exact ⟨_, congrArg Host.Outcome.next hon, (s.begin.withUnlocks l).cfgError_shows n hf⟩
    case disabled =>
      have hdcd : bits (v &&& 0xFF1F01FE#32).toNat 5 4 = v.toNat / 16 % 4 := by
        have h := bits_masked 0#32 v 0xFF1F01FE#32 5 4 (by decide) (by decide)
        rwa [BitVec.zero_and, BitVec.zero_or] at h
      rw [State.streamWrite_disables (s.begin.withUnlocks k) n _ (s.stream_ne_on n _ he hbitOff) (bitAt_of_bits_zero _ _ hbitOff) hs
        (by rw [hdcd]; exact hd)] at hoff
      refine ⟨_, congrArg Host.Outcome.next hoff, State.streamOff_regsBut _ n _ (.of_regs rfl rfl), State.streamOff_stream _ n _,
        State.streamOff_active _ n _⟩
    case running =>
      rw [State.streamWrite_running (s.begin.withUnlocks k) n _ (s.stream_ne_on n _ he hbitOff) (bitAt_of_bits_zero _ _ hbitOff) he hs] at hoff
      exact ⟨_, congrArg Host.Outcome.next hoff, (s.begin.withUnlocks k).cfgError_shows n hf⟩
end

section
/-!
PROOFS. Security.lean (O50): fuses, tokens and the image loader.
-/

namespace Sys2Proof.Machine
open Reg Fld

theorem State.hook_security (s : State) (req a : Nat) (new : Word) (h : a / 0x10000 = 0x0E) : s.hook req a new = s.hookSecurity a new := by
  simp only [State.hook, h]

/-! Bytes of registers, put and read back -/

theorem leBytes_ofLe (n : Nat) (bs : List Byte) (h : bs.length ≤ n) : leBytes n (ofLe bs) = bs ++ zeros (n - bs.length) := by
  induction n generalizing bs with
  | zero =>
    obtain rfl : bs = [] := List.eq_nil_of_length_eq_zero (by omega)
    rfl
  | succ n ih =>
    cases bs with
    | nil =>
      have hz := ih [] (by simp)
      simp only [ofLe, List.nil_append, List.length_nil, Nat.sub_zero] at hz ⊢
      rw [leBytes, Nat.zero_div, hz]
      rfl
    | cons b bs =>
      have hlt := b.isLt
      rw [List.length_cons] at h
      have hrest : ofLe (b :: bs) / 256 = ofLe bs := by rw [ofLe]; omega
      have hbyte : BitVec.ofNat 8 (ofLe (b :: bs)) = b := by
        refine BitVec.eq_of_toNat_eq ?_
        rw [BitVec.toNat_ofNat, ofLe]
        omega
      rw [leBytes, hrest, hbyte, ih bs (by omega), List.length_cons, Nat.add_sub_add_right, List.cons_append]

/-- Bytes cut into words are those bytes. -/
theorem words_flatten (n : Nat) (bs : List Byte) (h : bs.length ≤ 4 * n) :
    (((List.range n).map fun i => leBytes 4 (leAt bs (4 * i) 4)).flatten).take bs.length = bs := by
  induction n generalizing bs with
  | zero =>
    obtain rfl : bs = [] := List.eq_nil_of_length_eq_zero (by omega)
    rfl
  | succ n ih =>
    have htail : (List.range n).map ((fun i => leBytes 4 (leAt bs (4 * i) 4)) ∘ Nat.succ) =
        (List.range n).map fun i => leBytes 4 (leAt (bs.drop 4) (4 * i) 4) := by
      refine List.map_congr_left fun i _ => ?_
      rw [Function.comp_apply, leAt, leAt, List.drop_drop, show 4 * i.succ = 4 + 4 * i by omega]
    have hih := ih (bs.drop 4) (by rw [List.length_drop]; omega)
    rw [List.length_drop] at hih
    rw [List.range_succ_eq_map, List.map_cons, List.flatten_cons, List.map_map, htail, List.take_append, leBytes_length, hih, Nat.mul_zero,
      leAt, List.drop_zero, leBytes_ofLe _ _ (List.length_take_le _ _)]
    by_cases h4 : bs.length ≤ 4
    · rw [List.take_of_length_le h4, List.drop_eq_nil_of_le h4, List.append_nil, List.take_left]
    · rw [List.length_take, Nat.min_eq_left (by omega), Nat.sub_self, List.take_of_length_le (by simp [zeros])]
      simp [zeros]

theorem leAt_lt (bs : List Byte) (off : Nat) : leAt bs off 4 < 2 ^ 32 :=
  Nat.lt_of_lt_of_le (ofLe_lt _) (Nat.pow_le_pow_right (by decide) (List.length_take_le 4 _) : 256 ^ _ ≤ 256 ^ 4)

theorem State.putBytes_rn (s : State) (a : Nat) (bs : List Byte) (i : Nat) (hi : i < (bs.length + 3) / 4) :
    (s.putBytes a bs).rn (a + 4 * i) = leAt bs (4 * i) 4 := by
  have h : ∀ n, i < n → ((List.range n).foldl (fun s i => s.wn (a + 4 * i) (leAt bs (4 * i) 4)) s).rn (a + 4 * i) = leAt bs (4 * i) 4 := by
    intro n hn
    induction n with
    | zero => omega
    | succ n ih =>
      rw [List.range_succ, List.foldl_append, List.foldl_cons, List.foldl_nil, State.rn, State.wn]
      by_cases hin : i = n
      · rw [hin, State.rd_wr_same, BitVec.toNat_ofNat, Nat.mod_eq_of_lt (leAt_lt _ _)]
      · rw [State.rd_wr_ne _ _ _ _ (by omega), ← State.rn, ih (by omega)]
  exact h _ hi

theorem State.regBytes_putBytes (s : State) (a : Nat) (bs : List Byte) : (s.putBytes a bs).regBytes a bs.length = bs := by
  have hmap : ((List.range ((bs.length + 3) / 4)).map fun i => leBytes 4 ((s.putBytes a bs).rn (a + 4 * i))) =
      (List.range ((bs.length + 3) / 4)).map fun i => leBytes 4 (leAt bs (4 * i) 4) :=
    List.map_congr_left fun i hi => by rw [s.putBytes_rn a bs i (List.mem_range.1 hi)]
  rw [State.regBytes, hmap, words_flatten _ _ (by omega)]

/-- Bytes of registers follow their words. -/
theorem State.regBytes_congr {s t : State} {a len : Nat} (h : ∀ i < (len + 3) / 4, t.rd (a + 4 * i) = s.rd (a + 4 * i)) :
    t.regBytes a len = s.regBytes a len := by
  rw [State.regBytes, State.regBytes, List.map_congr_left fun i hi => by rw [State.rn, h i (List.mem_range.1 hi), ← State.rn]]

theorem flatten_length_const {α β : Type} (f : α → List β) (n : Nat) (h : ∀ x, (f x).length = n) (xs : List α) :
    (xs.map f).flatten.length = n * xs.length := by
  induction xs with
  | nil => rfl
  | cons x xs ih => rw [List.map_cons, List.flatten_cons, List.length_append, h, ih, List.length_cons, Nat.mul_succ, Nat.add_comm]

theorem freeBytes_length (k n : Nat) : (freeBytes k n).length = n := by
  rw [freeBytes, List.length_take, flatten_length_const _ 4 fun _ => leBytes_length 4 _, List.length_range]
  omega

/-! Tokens of an operation (R650) -/

section
variable (s : State) (op : Nat)

/-- A token of an operation that is still valid. -/
def State.tokenHeld : Prop := ∃ y ∈ s.sec.tokens, y.1 = op ∧ s.tb < y.2 + 800000000

theorem State.tokenHeld_congr {s t : State} (op : Nat) (hs : t.sec.tokens = s.sec.tokens) (ht : t.tb = s.tb) :
    t.tokenHeld op ↔ s.tokenHeld op := by rw [State.tokenHeld, State.tokenHeld, hs, ht]

/-- The state without a token. -/
def State.dropToken (y : Nat × Nat) : State := { s with sec := { s.sec with tokens := s.sec.tokens.erase y } }

theorem State.useToken_eq : s.useToken op =
    (s.sec.tokens.find? fun t => t.1 = op && s.tb < t.2 + 800000000).map s.dropToken := by
  rw [State.useToken]
  split
  · next h => rw [h]; rfl
  · next h => rw [h]; rfl

theorem State.hasToken_iff : s.hasToken op = true ↔ s.tokenHeld op := by
  rw [State.hasToken, State.useToken_eq, Option.isSome_map, List.find?_isSome]
  simp only [Bool.and_eq_true, decide_eq_true_eq]
  rfl

theorem State.takeToken_drops (h : s.tokenHeld op) : ∃ y ∈ s.sec.tokens, y.1 = op ∧ s.takeToken op = s.dropToken y := by
  rw [← s.hasToken_iff op, State.hasToken, s.useToken_eq op, Option.isSome_map, Option.isSome_iff_exists] at h
  obtain ⟨y, hy⟩ := h
  have hop : y.1 = op := by
    have := List.find?_some hy
    simp only [Bool.and_eq_true, decide_eq_true_eq] at this
    exact this.1
  refine ⟨y, List.mem_of_find?_eq_some hy, hop, ?_⟩
  rw [State.takeToken, s.useToken_eq op, hy]
  rfl

/-- A token of one operation is gone, and those of the others stand. -/
theorem State.dropToken_tokens (y : Nat × Nat) (hy : y ∈ s.sec.tokens) (hop : y.1 = op) :
    (s.dropToken y).sec.tokens.length + 1 = s.sec.tokens.length ∧ ∀ x : Nat × Nat, x.1 ≠ op → (x ∈ (s.dropToken y).sec.tokens ↔ x ∈ s.sec.tokens) := by
  have hpos := List.length_pos_of_mem hy
  constructor
  · rw [State.dropToken, List.length_erase_of_mem hy]
    omega
  · rintro x hx
    exact List.mem_erase_of_ne fun h => hx (h ▸ hop)

end

/-! Fuse programming (R646 to R648) -/

theorem fprog_plain : plainRegister true SEC_FPROG 0x1030F = true := by decide

/-- A key slot that holds no key. -/
def State.keyBlank (u : State) (m : Nat) : Prop := 4 ≤ m ∨ allZero (u.keyHash m) = true

/-- A key slot that holds a key which is not revoked. -/
def State.keyInForce (u : State) (m : Nat) : Prop := ¬ u.keyBlank m ∧ u.fuses.revoke.getLsbD m = false

/-- Table 18.2 for a field, an index and data. -/
def State.fuseMeets (u : State) (field index : Nat) (data : List Byte) : Prop :=
  (field = 1 ∧ u.keyBlank index) ∨ (field = 2 ∧ ¬ u.keyBlank index ∧ ∃ m, m ≠ index ∧ u.keyInForce m) ∨
  (field = 3 ∧ 1 ≤ ofLe data ∧ ofLe data ≤ 64 ∧ u.fuses.rollback ≤ ofLe data) ∨ (field = 4 ∧ index ≤ 2 ∧ u.policyOf index = 0) ∨
  (field = 5 ∧ u.fuses.regulated = false) ∨ (field = 6 ∧ allZero u.supplyRoot = true) ∨ (field = 7 ∧ u.fuses.subsys = 0) ∨
  (field = 8 ∧ (∃ m, u.keyInForce m) ∧ u.policyOf 0 ≠ 0)

section
variable (u : State)

theorem State.keyUsable_iff (m : Nat) : u.keyUsable m = true ↔ u.keyInForce m := by
  rw [State.keyUsable, Bool.and_eq_true, u.keySlot_iff, Bool.not_eq_true']
  rfl

theorem State.any_keyUsable (p : Nat → Prop) [DecidablePred p] :
    ((List.range 4).any fun m => decide (p m) && u.keyUsable m) = true ↔ ∃ m, p m ∧ u.keyInForce m := by
  simp only [List.any_eq_true, List.mem_range, Bool.and_eq_true, decide_eq_true_eq, u.keyUsable_iff]
  refine ⟨fun ⟨m, _, h⟩ => ⟨m, h⟩, fun ⟨m, h⟩ => ⟨m, ?_, h⟩⟩
  by_contra hm
  exact h.2.1 (.inl (by omega))

theorem State.fuseReads_iff (field index : Nat) (data : List Byte) : u.fuseReads field index data = true ↔ u.fuseMeets field index data := by
  have hslot : (!u.keySlot index) = true ↔ u.keyBlank index := by
    rw [State.keyBlank, ← not_iff_not, ← u.keySlot_iff]
    simp
  have hother := u.any_keyUsable fun m => m ≠ index
  have hany : (List.range 4).any u.keyUsable = true ↔ ∃ m, u.keyInForce m := by simpa using u.any_keyUsable fun _ => True
  unfold State.fuseReads
  split <;> simp only [State.fuseMeets]
  case h_1 => simp [hslot]
  case h_2 => rw [Bool.and_eq_true, hother, u.keySlot_iff]; simp [State.keyBlank]
  case h_3 => simp [and_assoc]
  case h_4 => simp
  case h_5 => simp
  case h_6 => simp
  case h_7 => simp
  case h_8 => rw [Bool.and_eq_true, hany]; simp
  case h_9 h1 h2 h3 h4 h5 h6 h7 h8 =>
    simp only [Bool.false_eq_true, false_iff, not_or, not_and_or]
    exact ⟨.inl h1, .inl h2, .inl h3, .inl h4, .inl h5, .inl h6, .inl h7, .inl h8⟩

/-- The part once the programmings in progress have ended. -/
def State.laterFuses (s : State) : State :=
  { s with fuses := s.sec.fprog.foldl (fun (x : Fuses) (p : Nat × Nat × List Byte) => x.blow p.1 p.2.1 p.2.2) s.fuses }

theorem State.fuseOk_iff (field index : Nat) (data : List Byte) : u.fuseOk field index data = true ↔
    u.fuseMeets field index data ∧ u.laterFuses.fuseMeets field index data := by
  rw [← u.fuseReads_iff, ← u.laterFuses.fuseReads_iff, ← Bool.and_eq_true]
  rfl

/-- A field that waits to be blown. -/
def State.fuseQueued (s : State) (field index : Nat) (data : List Byte) : State :=
  { s with sec := { s.sec with fprog := s.sec.fprog ++ [(field, index, data)] } }

section
variable (field index : Nat)

theorem State.fuseGo_plain (hok : u.fuseOk field index (u.regBytes (SEC_FDATA 0) 48) = true) (hn : ¬ (u.fuses.regulated = true ∧ field ≠ 3)) :
    u.fuseGo field index = u.fuseQueued field index (u.regBytes (SEC_FDATA 0) 48) := by
  have hneed : (u.fuses.regulated && decide (field ≠ 3)) = false := Bool.eq_false_iff.2 fun h => hn (by simpa using h)
  simp only [State.fuseGo, hok, hneed, Bool.not_false, Bool.true_or, Bool.and_self, if_true, State.when_false]
  rfl

theorem State.fuseGo_token (hok : u.fuseOk field index (u.regBytes (SEC_FDATA 0) 48) = true) (hn : u.fuses.regulated = true ∧ field ≠ 3)
    (ht : u.tokenHeld 1) : u.fuseGo field index = (u.takeToken 1).fuseQueued field index (u.regBytes (SEC_FDATA 0) 48) := by
  have hneed : (u.fuses.regulated && decide (field ≠ 3)) = true := by simpa using hn
  simp only [State.fuseGo, hok, hneed, (u.hasToken_iff 1).2 ht, Bool.or_true, Bool.and_self, if_true, State.when_true]
  rfl

theorem State.fuseGo_refused (h : ¬ u.fuseOk field index (u.regBytes (SEC_FDATA 0) 48) = true ∨
    (u.fuses.regulated = true ∧ field ≠ 3) ∧ ¬ u.tokenHeld 1) : u.fuseGo field index = u.ev SEC_STAT_FPROG_REFUSED := by
  rw [← u.hasToken_iff] at h
  simp only [State.fuseGo]
  refine if_neg fun hh => ?_
  simp only [Bool.and_eq_true, Bool.or_eq_true, Bool.not_eq_true', Bool.and_eq_false_iff, decide_eq_false_iff_not, not_not] at hh
  rcases h with h | ⟨⟨hr, h3⟩, ht⟩
  · exact h hh.1
  · rcases hh.2 with (h' | h') | h'
    · simp [hr] at h'
    · exact h3 h'
    · exact ht h'

end
end

/-- A granted write of SEC_FPROG with GO programs its field. -/
theorem State.exec_fuseProgram (s : State) (req : Req) (v : Word) (hg : s.granted req SEC_FPROG) : ∃ l w,
    exec (.fuseProgram req v) s = .next (((s.begin.withUnlocks l).wr SEC_FPROG w).fuseGo (v.toNat % 16) (v.toNat / 256 % 4)) := by
  obtain ⟨l, hl⟩ := s.busReg_granted req SEC_FPROG (putBits v 16 16 1) 0x1030F fprog_plain hg
  rw [State.hook_security _ _ _ _ rfl, State.hookSecurity, if_pos rfl, State.fprogWrite,
    bits_masked _ _ 0x1030F 3 0 (by decide) (by decide), bits_masked _ _ 0x1030F 9 8 (by decide) (by decide),
    bits_putBits_apart _ _ _ _ _ _ le_rfl (by decide) (by decide), bits_putBits_apart _ _ _ _ _ _ le_rfl (by decide) (by decide)] at hl
  have hgo := (bits_masked (s.rd SEC_FPROG) (putBits v 16 16 1) 0x1030F 16 16 (by decide) (by decide)).trans
    (bits_putBits_same v 16 16 1 le_rfl (by decide))
  rw [bitAt_of_bits _ _ hgo, State.when_true] at hl
  have hfield : bits v.toNat 3 0 = v.toNat % 16 := by simp [bits]
  have hindex : bits v.toNat 9 8 = v.toNat / 256 % 4 := by simp [bits]
  rw [hfield, hindex] at hl
  exact ⟨l, _, congrArg Host.Outcome.next hl⟩

/-- Where a programming starts, the data and the conditions are those of the state before. -/
theorem State.fprog_data (s : State) (l : List (Nat × Nat × Nat)) (w : Word) :
    ((s.begin.withUnlocks l).wr SEC_FPROG w).regBytes (SEC_FDATA 0) 48 = s.regBytes (SEC_FDATA 0) 48 :=
  State.regBytes_congr fun i hi => State.rd_wr_ne _ _ _ _ (by simp only [SEC_FPROG, SEC_FDATA]; omega)

theorem State.fprog_ok (s : State) (l : List (Nat × Nat × Nat)) (w : Word) (field index : Nat) (data : List Byte) :
    ((s.begin.withUnlocks l).wr SEC_FPROG w).fuseOk field index data = s.fuseOk field index data := rfl

section
variable (s : State) (req : Req) (v : Word) (hg : s.granted req SEC_FPROG)
include hg

theorem State.fuseProgram_plain (hok : s.fuseOk (v.toNat % 16) (v.toNat / 256 % 4) (s.regBytes (SEC_FDATA 0) 48) = true)
    (hn : ¬ (s.fuses.regulated = true ∧ v.toNat % 16 ≠ 3)) : ∃ t, exec (.fuseProgram req v) s = .next t ∧ s.regsBut t [SEC_FPROG] ∧
      t.fuses = s.fuses ∧ t.sec = { s.sec with fprog := s.sec.fprog ++ [(v.toNat % 16, v.toNat / 256 % 4, s.regBytes (SEC_FDATA 0) 48)] } := by
  obtain ⟨l, w, ht⟩ := s.exec_fuseProgram req v hg
  have hr : s.regsBut ((s.begin.withUnlocks l).wr SEC_FPROG w) [SEC_FPROG] := (State.regsBut.of_regs rfl rfl).wr _ _ (by simp)
  rw [State.fuseGo_plain ((s.begin.withUnlocks l).wr SEC_FPROG w) _ _ (by rw [s.fprog_data, s.fprog_ok]; exact hok) hn, s.fprog_data] at ht
  exact ⟨_, ht, hr, rfl, rfl⟩

theorem State.fuseProgram_token (hok : s.fuseOk (v.toNat % 16) (v.toNat / 256 % 4) (s.regBytes (SEC_FDATA 0) 48) = true)
    (hn : s.fuses.regulated = true ∧ v.toNat % 16 ≠ 3) (htok : s.tokenHeld 1) : ∃ t, exec (.fuseProgram req v) s = .next t ∧
      s.regsBut t [SEC_FPROG] ∧ t.fuses = s.fuses ∧
      t.sec.fprog = s.sec.fprog ++ [(v.toNat % 16, v.toNat / 256 % 4, s.regBytes (SEC_FDATA 0) 48)] ∧
      t.sec.tokens.length + 1 = s.sec.tokens.length ∧ ∀ y : Nat × Nat, y.1 ≠ 1 → (y ∈ t.sec.tokens ↔ y ∈ s.sec.tokens) := by
  obtain ⟨l, w, ht⟩ := s.exec_fuseProgram req v hg
  have hr : s.regsBut ((s.begin.withUnlocks l).wr SEC_FPROG w) [SEC_FPROG] := (State.regsBut.of_regs rfl rfl).wr _ _ (by simp)
  have htok' := (State.tokenHeld_congr (t := (s.begin.withUnlocks l).wr SEC_FPROG w) 1 rfl rfl).2 htok
  obtain ⟨y, hy, hop, htake⟩ := ((s.begin.withUnlocks l).wr SEC_FPROG w).takeToken_drops 1 htok'
  rw [State.fuseGo_token ((s.begin.withUnlocks l).wr SEC_FPROG w) _ _ (by rw [s.fprog_data, s.fprog_ok]; exact hok) hn htok', s.fprog_data, htake] at ht
  exact ⟨_, ht, hr, rfl, rfl, ((s.begin.withUnlocks l).wr SEC_FPROG w).dropToken_tokens 1 y hy hop⟩

theorem State.fuseProgram_refused (h : ¬ s.fuseOk (v.toNat % 16) (v.toNat / 256 % 4) (s.regBytes (SEC_FDATA 0) 48) = true ∨
    (s.fuses.regulated = true ∧ v.toNat % 16 ≠ 3) ∧ ¬ s.tokenHeld 1) : ∃ t, exec (.fuseProgram req v) s = .next t ∧
      s.regsBut t [SEC_FPROG, SEC_STAT] ∧ t.b SEC_STAT_FPROG_REFUSED = true ∧ t.fuses = s.fuses ∧ t.sec = s.sec := by
  obtain ⟨l, w, ht⟩ := s.exec_fuseProgram req v hg
  have hr : s.regsBut ((s.begin.withUnlocks l).wr SEC_FPROG w) [SEC_FPROG, SEC_STAT] := (State.regsBut.of_regs rfl rfl).wr _ _ (by simp)
  rw [State.fuseGo_refused ((s.begin.withUnlocks l).wr SEC_FPROG w) _ _
    (by rw [s.fprog_data, s.fprog_ok, State.tokenHeld_congr (s := s) (t := (s.begin.withUnlocks l).wr SEC_FPROG w) 1 rfl rfl]; exact h)] at ht
  exact ⟨_, ht, hr.wr _ _ (by simp [SEC_STAT_FPROG_REFUSED]), State.ev_b _ _ rfl (by decide), (State.wr_fuses _ _ _).trans (State.wr_fuses _ _ _),
    (State.wr_sec _ _ _).trans (State.wr_sec _ _ _)⟩

end

/-! Tokens (R649 to R651) -/

theorem tokCtrl_plain : ∀ g, plainRegister g SEC_TOK_CTRL 0x11F = true := by decide

/-- A write of SEC_TOK_CTRL with GO checks the token. -/
theorem State.exec_tokenCheck (s : State) (req : Req) (op : BitVec 5) (hup : s.reaches req SEC_TOK_CTRL) : ∃ l w,
    exec (.tokenCheck req op) s = .next (((s.begin.withUnlocks l).wr SEC_TOK_CTRL w).tokenGo op.toNat) := by
  obtain ⟨l, hl⟩ := s.busReg_reaches req SEC_TOK_CTRL (BitVec.ofNat 32 (op.toNat + 256)) 0x11F tokCtrl_plain hup
  have hlt := op.isLt
  have hval : (BitVec.ofNat 32 (op.toNat + 256)).toNat = op.toNat + 256 := by rw [BitVec.toNat_ofNat]; omega
  have hop : bits (op.toNat + 256) 4 0 = op.toNat := by simp only [bits]; omega
  have hgo : bits (op.toNat + 256) 8 8 = 1 := by simp only [bits]; omega
  rw [State.hook_security _ _ _ _ rfl, State.hookSecurity, if_neg (by decide), if_pos rfl, State.tokenWrite,
    bits_masked _ _ 0x11F 4 0 (by decide) (by decide), hval, hop,
    bitAt_of_bits _ _ ((bits_masked _ _ 0x11F 8 8 (by decide) (by decide)).trans ((congrArg (bits · 8 8) hval).trans hgo)), State.when_true] at hl
  exact ⟨l, _, congrArg Host.Outcome.next hl⟩

section
variable (s : State)

/-- The bytes a token signs, as bytes of the registers. -/
theorem State.tokenValid_iff (op : Nat) : s.tokenValid op = true ↔ op ∈ [1, 2, 3, 4, 16, 17] ∧
    (∃ m, s.keyInForce m ∧ s.keyHash m = sha384 (s.regBytes (SEC_TOK_PUB 0) 97)) ∧
    Config.verify384 (s.regBytes (SEC_TOK_PUB 0) 97) (sha384 (s.tokenText op)) (s.regBytes (SEC_TOK_SIG 0) 96) = true := by
  have hop : tokenOp op = true ↔ op ∈ [1, 2, 3, 4, 16, 17] := by
    simp only [tokenOp, Bool.or_eq_true, Bool.and_eq_true, decide_eq_true_eq, List.mem_cons, List.not_mem_nil, or_false]
    omega
  have hkey := s.any_keyUsable fun m => s.keyHash m = sha384 (s.regBytes (SEC_TOK_PUB 0) 97)
  simp only [Bool.and_comm (decide _)] at hkey
  simp only [State.tokenValid, Bool.and_eq_true, hop, hkey, and_comm (b := s.keyInForce _), and_assoc]

theorem State.tokenValid_write (l : List (Nat × Nat × Nat)) (w : Word) (op : Nat) :
    ((s.begin.withUnlocks l).wr SEC_TOK_CTRL w).tokenValid op = s.tokenValid op := by
  have hrd : ∀ a, a ≠ SEC_TOK_CTRL → ((s.begin.withUnlocks l).wr SEC_TOK_CTRL w).rd a = s.rd a := fun a ha => State.rd_wr_ne _ _ _ _ ha.symm
  have hpub : ((s.begin.withUnlocks l).wr SEC_TOK_CTRL w).regBytes (SEC_TOK_PUB 0) 97 = s.regBytes (SEC_TOK_PUB 0) 97 :=
    State.regBytes_congr fun i _ => hrd _ (by simp only [SEC_TOK_CTRL, SEC_TOK_PUB]; omega)
  have hsig : ((s.begin.withUnlocks l).wr SEC_TOK_CTRL w).regBytes (SEC_TOK_SIG 0) 96 = s.regBytes (SEC_TOK_SIG 0) 96 :=
    State.regBytes_congr fun i _ => hrd _ (by simp only [SEC_TOK_CTRL, SEC_TOK_SIG]; omega)
  have hnonce : ((s.begin.withUnlocks l).wr SEC_TOK_CTRL w).regBytes (SEC_TOK_NONCE 0) 32 = s.regBytes (SEC_TOK_NONCE 0) 32 :=
    State.regBytes_congr fun i _ => hrd _ (by simp only [SEC_TOK_CTRL, SEC_TOK_NONCE]; omega)
  simp only [State.tokenValid, State.tokenText, hpub, hsig, hnonce]
  rfl

/-! A fresh nonce -/

theorem State.newNonce_keeps {α : Type} (π : State → α) (hw : ∀ (s : State) i v, i < 8 → π (s.wr (SEC_TOK_NONCE 0 + 4 * i) v) = π s)
    (hf : ∀ s : State, π { s with free := s.free + 1 } = π s) : π s.newNonce = π s :=
  (State.putBytes_keeps π (SEC_TOK_NONCE 0) (freeBytes s.free 32) (fun s i v hi => hw s i v (by rw [freeBytes_length] at hi; omega)) _).trans (hf s)

theorem State.newNonce_free : s.newNonce.free = s.free + 1 :=
  State.putBytes_keeps State.free (SEC_TOK_NONCE 0) (freeBytes s.free 32) (fun _ _ _ _ => rfl) _

theorem State.newNonce_shows : s.newNonce.regBytes (SEC_TOK_NONCE 0) 32 = freeBytes s.free 32 := by
  have h := ({ s with free := s.free + 1 } : State).regBytes_putBytes (SEC_TOK_NONCE 0) (freeBytes s.free 32)
  rwa [freeBytes_length] at h

theorem State.newNonce_rd (a : Nat) (ha : a < 0xE0220 ∨ 0xE0240 ≤ a) : s.newNonce.rd a = s.rd a :=
  s.newNonce_keeps (·.rd a) (fun s i v hi => State.rd_wr_ne _ _ _ _ (by simp only [SEC_TOK_NONCE]; omega)) fun _ => rfl

/-- The outcome of a token's check, in SEC_TOK_STAT. -/
def State.tokenShown (s : State) (x y : Field) (n : Nat) : State := ((s.ev x).setB y false).setF SEC_TOK_STAT_CONSEC n

theorem State.tokenShown_keeps {α : Type} (π : State → α) (hw : ∀ (s : State) v, π (s.wr SEC_TOK_STAT v) = π s) (x y : Field) (n : Nat)
    (hx : x.addr = SEC_TOK_STAT) (hy : y.addr = SEC_TOK_STAT) : π (s.tokenShown x y n) = π s := by
  have hset : ∀ (s : State) (x : Field) n, x.addr = SEC_TOK_STAT → π (s.setF x n) = π s := fun s x n hx => by
    rw [State.setF, hx]
    exact hw _ _
  have hev : π (s.ev x) = π s := by
    rw [State.ev, hx]
    exact hw _ _
  exact (hset _ _ _ rfl).trans ((hset _ y _ hy).trans hev)

theorem State.tokenShown_valid : (s.tokenShown SEC_TOK_STAT_VALID SEC_TOK_STAT_INVALID 0).b SEC_TOK_STAT_VALID = true ∧
    (s.tokenShown SEC_TOK_STAT_VALID SEC_TOK_STAT_INVALID 0).b SEC_TOK_STAT_INVALID = false := by
  constructor
  · rw [State.tokenShown, State.b, State.f_setF_apart _ _ _ _ (by decide) (by decide) (by decide), ← State.b,
      State.b_setB_apart _ _ _ _ (by decide) (by decide) (by decide), State.ev_b _ _ rfl (by decide)]
  · rw [State.tokenShown, State.b, State.f_setF_apart _ _ _ _ (by decide) (by decide) (by decide), ← State.b,
      State.b_setB_same _ _ _ rfl (by decide)]

theorem State.tokenShown_invalid (n : Nat) : (s.tokenShown SEC_TOK_STAT_INVALID SEC_TOK_STAT_VALID n).b SEC_TOK_STAT_INVALID = true ∧
    (s.tokenShown SEC_TOK_STAT_INVALID SEC_TOK_STAT_VALID n).b SEC_TOK_STAT_VALID = false := by
  constructor
  · rw [State.tokenShown, State.b, State.f_setF_apart _ _ _ _ (by decide) (by decide) (by decide), ← State.b,
      State.b_setB_apart _ _ _ _ (by decide) (by decide) (by decide), State.ev_b _ _ rfl (by decide)]
  · rw [State.tokenShown, State.b, State.f_setF_apart _ _ _ _ (by decide) (by decide) (by decide), ← State.b,
      State.b_setB_same _ _ _ rfl (by decide)]

theorem State.tokenShown_consec (x y : Field) (n : Nat) (hn : n < 4) : (s.tokenShown x y n).f SEC_TOK_STAT_CONSEC = n :=
  (State.f_setF_same _ _ _ (by decide) (by decide)).trans (Nat.mod_eq_of_lt hn)

/-! A class C event -/

section
variable (b : Nat) (hb : b < 0xE1000) (hr : raiseReach b = false)
include hb hr

omit hb in
theorem State.vaultFault_rd (src : Nat) (hs : src ≠ 96) : (s.vaultFault src).rd b = s.rd b := by
  rw [State.vaultFault, if_neg hs]
  split
  · rfl
  · exact s.raise_rd src 0 b hr

theorem State.erase_rd : s.erase.rd b = s.rd b := by
  have hpub : ∀ s : State, (s.putBytes (LG_DEVPUB 0) (zeros 100)).rd b = s.rd b :=
    State.putBytes_keeps (·.rd b) _ _ fun s i v _ => State.rd_wr_ne _ _ _ _ (by simp only [LG_DEVPUB]; omega)
  have hvalid : GEO_STAT ≠ b := by simp only [GEO_STAT]; omega
  rw [State.erase, State.vaultFault_rd _ b hr 99 (by decide), hpub]
  exact State.rd_setF_other _ _ _ _ hvalid

/-- An event of a class B or C monitor leaves the registers below the ledger's that no latch reaches. -/
theorem State.tamperEvent_rd (m : Nat) (hm : 8 ≤ m) : (s.tamperEvent m).rd b = s.rd b := by
  have h6 : decide (m < 6) = false := decide_eq_false (by omega)
  have hc : tamperClass m ≠ 0 := by
    simp only [tamperClass, show ¬ m < 8 by omega, if_false]
    split <;> omega
  have hlog : ∀ (s : State) acts, (s.tamperLog m acts).rd b = s.rd b := fun s acts => by
    simp only [State.tamperLog]
    exact State.when_keeps (·.rd b) _ _ (by exact fun _ => rfl) _
  simp only [State.tamperEvent, h6, decide_eq_false hc, Bool.false_and, State.when_false, Bool.false_eq_true, if_false]
  refine (State.showGeode_keeps (·.rd b) (fun s a v h1 h2 => State.rd_wr_ne _ _ _ _ (by omega)) _).trans ?_
  refine (State.when_keeps (·.rd b) _ _ (fun s => s.vaultFault_rd b hr _ (by omega)) _).trans ?_
  refine (State.when_keeps (·.rd b) _ _ (by exact fun _ => rfl) _).trans ?_
  exact (State.when_keeps (·.rd b) _ _ (fun s => hlog s _) _).trans (State.when_keeps (·.rd b) _ _ (fun s => s.erase_rd b hb hr) s)

end

theorem State.vaultFault_log (src : Nat) (hs : src ≠ 96) : (s.vaultFault src).geode.log = s.geode.log := by
  rw [State.vaultFault, if_neg hs]
  split
  · rfl
  · rw [State.raise_geode]

/-- An event of a class B or C monitor that logs has its entry last. -/
theorem State.tamperEvent_logged (m : Nat) (hm : 8 ≤ m) (h : bitAt (s.tamperActions (tamperClass m)) 1 = true) :
    ((s.tamperEvent m).geode.log.getLast?.map (·.monitor)) = some m := by
  have h6 : decide (m < 6) = false := decide_eq_false (by omega)
  have hc : tamperClass m ≠ 0 := by
    simp only [tamperClass, show ¬ m < 8 by omega, if_false]
    split <;> omega
  have hlog : ∀ (s : State) acts, ((s.tamperLog m acts).geode.log.getLast?.map (·.monitor)) = some m := fun s acts => by
    simp only [State.tamperLog]
    refine Eq.trans (congrArg (fun l : List TamperEntry => l.getLast?.map (·.monitor))
      (State.when_keeps (·.geode.log) _ _ (by exact fun _ => rfl) _)) ?_
    simp
  simp only [State.tamperEvent, h6, decide_eq_false hc, h, Bool.false_and, State.when_false, State.when_true, Bool.false_eq_true, if_false]
  rw [State.showGeode_keeps (·.geode.log) (fun _ _ _ _ _ => rfl), State.when_keeps (·.geode.log) _ _ (fun s => s.vaultFault_log _ (by omega))]
  refine Eq.trans (congrArg (fun l : List TamperEntry => l.getLast?.map (·.monitor))
    (State.when_keeps (·.geode.log) _ _ (by exact fun _ => rfl) _)) ?_
  exact hlog _ _

end

theorem State.raise_sec (s : State) (src info : Nat) : (s.raise src info).sec = s.sec :=
  State.raise_keeps State.sec s src info <|
    State.Apart.raiseWith_keeps (W := fun _ => True) (by constructor <;> intros <;> rfl) .all s false src info (fun _ _ _ => rfl) fun _ _ => trivial

theorem State.raise_free (s : State) (src info : Nat) : (s.raise src info).free = s.free :=
  State.raise_keeps State.free s src info <|
    State.Apart.raiseWith_keeps (W := fun _ => True) (by constructor <;> intros <;> rfl) .all s false src info (fun _ _ _ => rfl) fun _ _ => trivial

theorem State.vaultApart_sec : State.VaultApart State.sec := by
  constructor
  case raise => exact fun s src info _ _ => s.raise_sec src info
  all_goals intros; rfl

theorem State.vaultApart_free : State.VaultApart State.free := by
  constructor
  case raise => exact fun s src info _ _ => s.raise_free src info
  all_goals intros; rfl

/-! What a check of a token leaves -/

/-- SEC_TOK_STAT and the nonce. -/
def tokenRegs : List Nat := SEC_TOK_STAT :: (List.range 8).map SEC_TOK_NONCE

theorem not_mem_tokenRegs (a : Nat) (h : a ∉ tokenRegs) : a ≠ SEC_TOK_STAT ∧ ∀ i < 8, SEC_TOK_NONCE 0 + 4 * i ≠ a := by
  simp only [tokenRegs, List.mem_cons, List.mem_map, List.mem_range, not_or, not_exists, not_and] at h
  exact ⟨h.1, fun i hi => h.2 i hi⟩

section
variable (s : State) (op : Nat)

/-- A valid token more. -/
def State.withToken (s : State) (y : Nat × Nat) : State := { s with sec := { s.sec with tokens := s.sec.tokens ++ [y] } }

/-- A nonce drawn and an outcome shown. -/
def State.tokenDone (s : State) (x y : Field) (n : Nat) : State := s.newNonce.tokenShown x y n

section
variable (x y : Field) (n : Nat) (hx : x.addr = SEC_TOK_STAT) (hy : y.addr = SEC_TOK_STAT)
include hx hy

theorem State.tokenDone_keeps {α : Type} (π : State → α) (hw : ∀ (s : State) a v, a ∈ tokenRegs → π (s.wr a v) = π s)
    (hf : ∀ s : State, π { s with free := s.free + 1 } = π s) : π (s.tokenDone x y n) = π s := by
  refine (State.tokenShown_keeps _ π (fun s v => hw s _ v List.mem_cons_self) x y n hx hy).trans (s.newNonce_keeps π (fun s i v hi => ?_) hf)
  exact hw s _ v (List.mem_cons_of_mem _ (List.mem_map.2 ⟨i, List.mem_range.2 hi, rfl⟩))

theorem State.tokenDone_regsBut : s.regsBut (s.tokenDone x y n) tokenRegs :=
  ⟨s.tokenDone_keeps x y n hx hy State.mem (fun _ _ _ _ => rfl) fun _ => rfl, fun a ha =>
    s.tokenDone_keeps x y n hx hy (·.rd a) (fun _ _ _ hb => State.rd_wr_ne _ _ _ _ fun h => ha (h ▸ hb)) fun _ => rfl⟩

theorem State.tokenDone_free : (s.tokenDone x y n).free = s.free + 1 :=
  (State.tokenShown_keeps _ State.free (fun _ _ => rfl) x y n hx hy).trans s.newNonce_free

theorem State.tokenDone_nonce : (s.tokenDone x y n).regBytes (SEC_TOK_NONCE 0) 32 = freeBytes s.free 32 := by
  refine Eq.trans (State.regBytes_congr fun i hi => ?_) s.newNonce_shows
  exact State.tokenShown_keeps _ (·.rd (SEC_TOK_NONCE 0 + 4 * i))
    (fun s v => State.rd_wr_ne _ _ _ _ (by simp only [SEC_TOK_STAT, SEC_TOK_NONCE]; omega)) x y n hx hy

end

theorem State.tokenGo_valid (h : s.tokenValid op = true) : s.tokenGo op =
    (s.tokenDone SEC_TOK_STAT_VALID SEC_TOK_STAT_INVALID 0).withToken
      (op, (s.tokenDone SEC_TOK_STAT_VALID SEC_TOK_STAT_INVALID 0).tb) := by
  simp only [State.tokenGo, h, if_true]
  rfl

theorem State.tokenGo_invalid (h : s.tokenValid op = false) : s.tokenGo op =
    (s.tokenDone SEC_TOK_STAT_INVALID SEC_TOK_STAT_VALID (s.f SEC_TOK_STAT_CONSEC % 3 + 1)).when (decide (s.f SEC_TOK_STAT_CONSEC = 2))
      (·.tamperEvent 17) := by
  have hlt : s.f SEC_TOK_STAT_CONSEC < 4 := bits_lt _ _ _
  have hold : s.newNonce.f SEC_TOK_STAT_CONSEC = s.f SEC_TOK_STAT_CONSEC := State.f_congr _ (s.newNonce_rd _ (by decide))
  have hn : (if s.f SEC_TOK_STAT_CONSEC = 3 then 1 else s.f SEC_TOK_STAT_CONSEC + 1) = s.f SEC_TOK_STAT_CONSEC % 3 + 1 := by
    split <;> omega
  have h3 : decide (s.f SEC_TOK_STAT_CONSEC % 3 + 1 = 3) = decide (s.f SEC_TOK_STAT_CONSEC = 2) := decide_eq_decide.2 (by omega)
  simp only [State.tokenGo, h, hold, hn, h3, Bool.false_eq_true, if_false]
  rfl

end

section
variable (s : State) (op n : Nat)

theorem State.tokenDone_valid : (s.tokenDone SEC_TOK_STAT_VALID SEC_TOK_STAT_INVALID 0).b SEC_TOK_STAT_VALID = true ∧
    (s.tokenDone SEC_TOK_STAT_VALID SEC_TOK_STAT_INVALID 0).b SEC_TOK_STAT_INVALID = false ∧
    (s.tokenDone SEC_TOK_STAT_VALID SEC_TOK_STAT_INVALID 0).f SEC_TOK_STAT_CONSEC = 0 := by
  rw [State.tokenDone]
  exact ⟨(s.newNonce.tokenShown_valid).1, (s.newNonce.tokenShown_valid).2, State.tokenShown_consec _ _ _ 0 (by decide)⟩

theorem State.tokenDone_invalid (hn : n < 4) : (s.tokenDone SEC_TOK_STAT_INVALID SEC_TOK_STAT_VALID n).b SEC_TOK_STAT_INVALID = true ∧
    (s.tokenDone SEC_TOK_STAT_INVALID SEC_TOK_STAT_VALID n).b SEC_TOK_STAT_VALID = false ∧
    (s.tokenDone SEC_TOK_STAT_INVALID SEC_TOK_STAT_VALID n).f SEC_TOK_STAT_CONSEC = n := by
  rw [State.tokenDone]
  exact ⟨(s.newNonce.tokenShown_invalid n).1, (s.newNonce.tokenShown_invalid n).2, State.tokenShown_consec _ _ _ n hn⟩

/-- What a check shows, for a valid token and for one that is not. -/
structure State.TokenShows (s t : State) (ok : Bool) (n : Nat) : Prop where
  valid : t.b SEC_TOK_STAT_VALID = ok
  invalid : t.b SEC_TOK_STAT_INVALID = !ok
  consec : t.f SEC_TOK_STAT_CONSEC = n
  nonce : t.regBytes (SEC_TOK_NONCE 0) 32 = freeBytes s.free 32
  free : t.free = s.free + 1

theorem State.TokenShows.withToken {s t : State} {ok : Bool} {n : Nat} (h : s.TokenShows t ok n) (y : Nat × Nat) :
    s.TokenShows (t.withToken y) ok n := ⟨h.valid, h.invalid, h.consec, h.nonce, h.free⟩

theorem State.withToken_sec (s t : State) (y : Nat × Nat) (h : t.sec = s.sec) :
    (t.withToken y).sec = { s.sec with tokens := s.sec.tokens ++ [y] } := by rw [State.withToken, h]

theorem State.regsBut_withToken {s t : State} {l : List Nat} (h : s.regsBut t l) (y : Nat × Nat) : s.regsBut (t.withToken y) l := h

theorem State.tokenDone_shows : s.TokenShows (s.tokenDone SEC_TOK_STAT_VALID SEC_TOK_STAT_INVALID 0) true 0 := by
  obtain ⟨hvalid, hinvalid, hconsec⟩ := s.tokenDone_valid
  exact ⟨hvalid, hinvalid, hconsec, s.tokenDone_nonce _ _ _ rfl rfl, s.tokenDone_free _ _ _ rfl rfl⟩

theorem State.tokenGo_valid_shows (h : s.tokenValid op = true) : s.TokenShows (s.tokenGo op) true 0 ∧ s.regsBut (s.tokenGo op) tokenRegs ∧
    (s.tokenGo op).sec = { s.sec with tokens := s.sec.tokens ++ [(op, s.tb)] } := by
  have hsec := s.tokenDone_keeps SEC_TOK_STAT_VALID SEC_TOK_STAT_INVALID 0 rfl rfl State.sec (fun s a v _ => s.wr_sec a v) (fun _ => rfl)
  have htb := s.tokenDone_keeps SEC_TOK_STAT_VALID SEC_TOK_STAT_INVALID 0 rfl rfl State.tb (fun s a v _ => s.wr_tb a v) (fun _ => rfl)
  rw [State.tokenGo_valid _ _ h, htb]
  exact ⟨s.tokenDone_shows.withToken _, State.regsBut_withToken (s.tokenDone_regsBut _ _ _ rfl rfl) _, State.withToken_sec s _ _ hsec⟩

theorem raiseReach_nonce (i : Nat) (hi : i < 8) : raiseReach (SEC_TOK_NONCE 0 + 4 * i) = false := by
  have h : ∀ i : Fin 8, raiseReach (SEC_TOK_NONCE 0 + 4 * i) = false := by decide
  exact h ⟨i, hi⟩

/-- A class C event after a check leaves what the check shows. -/
theorem State.TokenShows.tamperEvent {s t : State} {ok : Bool} (h : s.TokenShows t ok n) : s.TokenShows (t.tamperEvent 17) ok n := by
  have hstat : (t.tamperEvent 17).rd SEC_TOK_STAT = t.rd SEC_TOK_STAT := t.tamperEvent_rd SEC_TOK_STAT (by decide) (by decide) 17 (by decide)
  exact {
    valid := (State.b_congr SEC_TOK_STAT_VALID hstat).trans h.valid
    invalid := (State.b_congr SEC_TOK_STAT_INVALID hstat).trans h.invalid
    consec := (State.f_congr SEC_TOK_STAT_CONSEC hstat).trans h.consec
    nonce := (State.regBytes_congr fun i hi => t.tamperEvent_rd _ (by simp only [SEC_TOK_NONCE]; omega) (raiseReach_nonce i hi) 17
      (by decide)).trans h.nonce
    free := (State.vaultApart_free.tamperEvent t 17 (by decide)).trans h.free }

theorem State.tokenGo_invalid_shows (h : s.tokenValid op = false) :
    s.TokenShows (s.tokenGo op) false (s.f SEC_TOK_STAT_CONSEC % 3 + 1) ∧ (s.tokenGo op).mem = s.mem ∧ (s.tokenGo op).sec = s.sec ∧
    (s.f SEC_TOK_STAT_CONSEC ≠ 2 → s.regsBut (s.tokenGo op) tokenRegs) ∧
    (s.f SEC_TOK_STAT_CONSEC = 2 → bitAt (s.tamperActions 2) 1 = true → ((s.tokenGo op).geode.log.getLast?.map (·.monitor)) = some 17) := by
  rw [s.tokenGo_invalid op h]
  generalize s.f SEC_TOK_STAT_CONSEC = c
  obtain ⟨hinvalid, hvalid, hconsec⟩ := s.tokenDone_invalid (c % 3 + 1) (by omega)
  have hshows : s.TokenShows (s.tokenDone SEC_TOK_STAT_INVALID SEC_TOK_STAT_VALID (c % 3 + 1)) false (c % 3 + 1) :=
    ⟨hvalid, hinvalid, hconsec, s.tokenDone_nonce _ _ _ rfl rfl, s.tokenDone_free _ _ _ rfl rfl⟩
  have hsec := s.tokenDone_keeps SEC_TOK_STAT_INVALID SEC_TOK_STAT_VALID (c % 3 + 1) rfl rfl State.sec (fun s a v _ => s.wr_sec a v) (fun _ => rfl)
  have hfuses := s.tokenDone_keeps SEC_TOK_STAT_INVALID SEC_TOK_STAT_VALID (c % 3 + 1) rfl rfl State.fuses (fun s a v _ => s.wr_fuses a v)
    (fun _ => rfl)
  have hregs := s.tokenDone_regsBut SEC_TOK_STAT_INVALID SEC_TOK_STAT_VALID (c % 3 + 1) rfl rfl
  generalize s.tokenDone SEC_TOK_STAT_INVALID SEC_TOK_STAT_VALID (c % 3 + 1) = u at hshows hsec hfuses hregs ⊢
  by_cases h2 : c = 2
  · rw [decide_eq_true h2, State.when_true]
    refine ⟨hshows.tamperEvent, (State.vaultApart_mem.tamperEvent u 17 (by decide)).trans hregs.1,
      (State.vaultApart_sec.tamperEvent u 17 (by decide)).trans hsec, fun h => absurd h2 h, fun _ hlog => ?_⟩
    refine u.tamperEvent_logged 17 (by decide) ?_
    have hacts : u.tamperActions 2 = s.tamperActions 2 := by
      rw [State.tamperActions, State.tamperActions, State.policyOf, State.policyOf, hfuses]
    rw [← hlog, ← hacts]
    rfl
  · rw [decide_eq_false h2, State.when_false]
    exact ⟨hshows, hregs.1, hsec, fun _ => hregs, fun h => absurd h h2⟩

end

/-- Registers that a check of a token writes, with SEC_TOK_CTRL. -/
theorem State.tokenCtrl_regsBut {s t : State} {l : List (Nat × Nat × Nat)} {w : Word}
    (h : ((s.begin.withUnlocks l).wr SEC_TOK_CTRL w).regsBut t tokenRegs) : s.regsBut t (SEC_TOK_CTRL :: tokenRegs) := by
  obtain ⟨hm, hr⟩ := h
  refine ⟨hm.trans (State.wr_mem _ _ _), fun a ha => ?_⟩
  obtain ⟨hne, hin⟩ := not_or.1 (List.mem_cons.not.1 ha)
  exact (hr a hin).trans (State.rd_wr_ne _ _ _ _ (Ne.symm hne))

theorem State.tokenCtrl_consec (s : State) (w : Word) : (s.wr SEC_TOK_CTRL w).f SEC_TOK_STAT_CONSEC = s.f SEC_TOK_STAT_CONSEC :=
  State.f_congr _ (State.rd_wr_ne _ _ _ _ (by decide))

/-- What TOKEN_CHECK leaves. -/
theorem State.tokenCheck_shows (s : State) (req : Req) (op : BitVec 5) (hup : s.reaches req SEC_TOK_CTRL) :
    ∃ t, exec (.tokenCheck req op) s = .next t ∧ t.mem = s.mem ∧
      (s.tokenValid op.toNat = true ∨ s.f SEC_TOK_STAT_CONSEC ≠ 2 → s.regsBut t (SEC_TOK_CTRL :: tokenRegs)) ∧
      (s.tokenValid op.toNat = true → s.TokenShows t true 0 ∧ t.sec = { s.sec with tokens := s.sec.tokens ++ [(op.toNat, s.tb)] }) ∧
      (¬ s.tokenValid op.toNat = true → s.TokenShows t false (s.f SEC_TOK_STAT_CONSEC % 3 + 1) ∧ t.sec = s.sec ∧
        (s.f SEC_TOK_STAT_CONSEC = 2 → bitAt (s.tamperActions 2) 1 = true → (t.geode.log.getLast?.map (·.monitor)) = some 17)) := by
  obtain ⟨l, w, ht⟩ := s.exec_tokenCheck req op hup
  have hwrite := s.tokenValid_write l w op.toNat
  by_cases h : s.tokenValid op.toNat = true
  · obtain ⟨hshows, hregs, hsec⟩ := ((s.begin.withUnlocks l).wr SEC_TOK_CTRL w).tokenGo_valid_shows op.toNat (hwrite.trans h)
    have hregs := State.tokenCtrl_regsBut hregs
    exact ⟨_, ht, hregs.1, fun _ => hregs, fun _ => ⟨⟨hshows.1, hshows.2, hshows.3, hshows.4, hshows.5⟩, hsec⟩, fun h' => absurd h h'⟩
  · obtain ⟨hshows, hmem, hsec, hregs, hlog⟩ := ((s.begin.withUnlocks l).wr SEC_TOK_CTRL w).tokenGo_invalid_shows op.toNat
      (hwrite.trans (Bool.eq_false_iff.2 h))
    rw [State.tokenCtrl_consec] at hshows hregs hlog
    exact ⟨_, ht, hmem, fun h' => State.tokenCtrl_regsBut (hregs (h'.resolve_left h)), fun h' => absurd h' h,
      fun _ => ⟨⟨hshows.1, hshows.2, hshows.3, hshows.4, hshows.5⟩, hsec, hlog⟩⟩

/-! Fuses blown (R646, R647) -/

/-- The oldest field being programmed is blown; the mirror is still to follow. -/
def State.fuseBlown (s : State) (field index : Nat) (data : List Byte) (rest : List (Nat × Nat × List Byte)) : State :=
  { s with sec := { s.sec with fprog := rest }, fuses := s.fuses.blow field index data }

theorem State.fuseDone_blows (s : State) {field index : Nat} {data : List Byte} {rest : List (Nat × Nat × List Byte)}
    (h : s.sec.fprog = (field, index, data) :: rest) : s.fuseDone = (s.fuseBlown field index data rest).showFuses := by
  rw [State.fuseDone, h]
  rfl

theorem State.fuseDone_none (s : State) (h : s.sec.fprog = []) : s.fuseDone = s := by rw [State.fuseDone, h]

/-- The registers of the mirror. -/
def fuseRegs : List Nat := SEC_STAT :: SYS_BOOT_STAT :: (List.range 64).map SEC_FUSE

theorem State.showFuses_regsBut (s : State) : s.regsBut s.showFuses fuseRegs := by
  refine ⟨s.showFuses_keeps State.mem (fun _ _ _ _ => rfl) (fun _ _ => rfl) fun _ _ => rfl, fun a ha => ?_⟩
  simp only [fuseRegs, List.mem_cons, List.mem_map, List.mem_range, not_or, not_exists, not_and] at ha
  obtain ⟨hstat, hboot, hfuse⟩ := ha
  exact s.showFuses_keeps (·.rd a) (fun s i v hi => State.rd_wr_ne _ _ _ _ (hfuse i hi)) (fun s v => State.rd_setF_other _ _ _ _ (Ne.symm hstat))
    fun s v => State.rd_setF_other _ _ _ _ (Ne.symm hboot)

theorem State.showFuses_sec (s : State) : s.showFuses.sec = s.sec :=
  s.showFuses_keeps State.sec (fun _ _ _ _ => rfl) (fun _ _ => rfl) fun _ _ => rfl

theorem State.showFuses_rollback (s : State) : s.showFuses.rn (SEC_FUSE 2) = s.fuses.rollback % 0x100000000 := by
  have hword : ∀ (s : State) i v, i ≠ 2 → (s.wr (SEC_FUSE i) v).rd (SEC_FUSE 2) = s.rd (SEC_FUSE 2) := fun s i v hi =>
    State.rd_wr_ne _ _ _ _ (by simp only [SEC_FUSE]; omega)
  have hbytes : ∀ (s : State) i bs, 2 < i → (s.putBytes (SEC_FUSE i) bs).rd (SEC_FUSE 2) = s.rd (SEC_FUSE 2) := fun s i bs hi =>
    State.putBytes_keeps (·.rd (SEC_FUSE 2)) _ _ (fun s k v _ => State.rd_wr_ne _ _ _ _ (by simp only [SEC_FUSE]; omega)) s
  have hkeys : ∀ s : State, (s.forEach (List.range 4) fun s n => s.putBytes (SEC_FUSE (8 + 12 * n)) (s.keyHash n)).rd (SEC_FUSE 2) =
      s.rd (SEC_FUSE 2) := State.forEach_keeps (·.rd (SEC_FUSE 2)) _ _ fun s n _ => hbytes s _ _ (by omega)
  rw [State.rn, State.showFuses_eq, State.setB, State.rd_setF_other _ _ _ _ (by decide), State.setB, State.rd_setF_other _ _ _ _ (by decide),
    State.fuseWords, hbytes _ _ _ (by decide), hkeys, State.wr64, show SEC_FUSE 6 + 4 = SEC_FUSE 7 from rfl, State.wn, hword _ 7 _ (by decide),
    State.wn, hword _ 6 _ (by decide), hword _ 5 _ (by decide), State.wn, hword _ 4 _ (by decide), State.wn, hword _ 3 _ (by decide), State.wn,
    State.rd_wr_same, BitVec.toNat_ofNat, State.wn, State.wr_fuses, State.wn, State.wr_fuses]

/-- Data or-ed into zeros is the data. -/
theorem zip_zeros_or (n : Nat) (d : List Byte) : ((zeros n).zip d).map (fun p => p.1 ||| p.2) = d.take n := by
  induction n generalizing d with
  | zero => rfl
  | succ n ih =>
    cases d with
    | nil => rfl
    | cons b d =>
      rw [show zeros (n + 1) = 0 :: zeros n from rfl, List.zip_cons_cons, List.map_cons, ih, List.take_succ_cons]
      exact congrArg (· :: _) BitVec.zero_or

theorem slice_zero_of_le (d : List Byte) (n : Nat) (h : n ≤ d.length) : slice d 0 n = d.take n := by
  simp [slice, h]

section
variable (x : Fuses) (index : Nat) (data : List Byte)

/-- A blank key slot takes its data. -/
theorem Fuses.blow_key (h0 : slice (Map.get (fun _ => zeros 48) x.keyHash index) 0 48 = zeros 48) (hl : data.length = 48) :
    slice (Map.get (fun _ => zeros 48) (x.blow 1 index data).keyHash index) 0 48 = data := by
  have hslice : slice data 0 48 = data := by rw [slice_zero_of_le _ _ (by omega), List.take_of_length_le (by omega)]
  simp only [Fuses.blow, Map.get_insert, if_true, h0, hslice, zip_zeros_or]
  rw [List.take_of_length_le (by omega), hslice]

theorem Fuses.blow_otherKey (m : Nat) (hm : m ≠ index) :
    Map.get (fun _ => zeros 48) (x.blow 1 index data).keyHash m = Map.get (fun _ => zeros 48) x.keyHash m := by
  simp only [Fuses.blow, Map.get_insert, if_neg (Ne.symm hm)]

theorem Fuses.blow_policy : Map.get (fun _ => 0#4) (x.blow 4 index data).policy index =
    Map.get (fun _ => 0#4) x.policy index ||| BitVec.ofNat 4 (ofLe data) := by
  simp only [Fuses.blow, Map.get_insert, if_true]

theorem Fuses.blow_root (h0 : slice x.supplyRoot 0 32 = zeros 32) (hl : 32 ≤ data.length) :
    slice (x.blow 6 index data).supplyRoot 0 32 = data.take 32 := by
  have hlen : (data.take 32).length = 32 := by rw [List.length_take]; omega
  simp only [Fuses.blow, h0, slice_zero_of_le _ _ hl, zip_zeros_or, List.take_take, Nat.min_self]
  rw [slice_zero_of_le _ _ (by omega), List.take_take, Nat.min_self]

end

theorem State.tokenExpire_mem (s : State) (y : Nat × Nat) :
    y ∈ s.tokenExpire.sec.tokens ↔ y ∈ s.sec.tokens ∧ s.tb < y.2 + 800000000 := by
  rw [State.tokenExpire, List.mem_filter, decide_eq_true_eq]

/-! SHA-384 is 48 bytes -/

theorem shaRound_length {w : Nat} (b0 b1 : BitVec w → BitVec w) (v : List (BitVec w)) (km : BitVec w) (h : v.length = 8) :
    (shaRound b0 b1 v km).length = 8 := by
  simp [shaRound, h]

theorem shaBlock_length {w : Nat} (n rounds : Nat) (ks : List (BitVec w)) (b0 b1 s0 s1 : BitVec w → BitVec w) (hs : List (BitVec w))
    (block : List Byte) (h : hs.length = 8) : (shaBlock n rounds ks b0 b1 s0 s1 hs block).length = 8 := by
  have hfold : ∀ (ms : List (BitVec w)) (v : List (BitVec w)), v.length = 8 → (ms.foldl (shaRound b0 b1) v).length = 8 := by
    intro ms
    induction ms with
    | nil => exact fun v hv => hv
    | cons m ms ih => exact fun v hv => ih _ (shaRound_length b0 b1 v m hv)
  rw [shaBlock, List.length_map, List.length_zip, hfold _ _ h, h, Nat.min_self]

theorem shaBlocks_length {w : Nat} (f : List (BitVec w) → List Byte → List (BitVec w)) (hf : ∀ h m, h.length = 8 → (f h m).length = 8)
    (len k : Nat) (m : List Byte) (h : List (BitVec w)) (hh : h.length = 8) : (shaBlocks f len k m h).length = 8 := by
  induction k generalizing m h with
  | zero => exact hh
  | succ k ih => exact ih _ _ (hf _ _ hh)

theorem sha384H_length : sha384H.length = 8 := by
  rw [sha384H, List.length_map]
  rfl

theorem sha384_length (m : List Byte) : (sha384 m).length = 48 := by
  have hwords := shaBlocks_length _ (fun h m hh => shaBlock_length 8 80 sha512K
    (fun x => x.rotateRight 28 ^^^ x.rotateRight 34 ^^^ x.rotateRight 39) (fun x => x.rotateRight 14 ^^^ x.rotateRight 18 ^^^ x.rotateRight 41)
    (fun x => x.rotateRight 1 ^^^ x.rotateRight 8 ^^^ x >>> 7) (fun x => x.rotateRight 19 ^^^ x.rotateRight 61 ^^^ x >>> 6) h m hh) 128
    ((shaPad 128 16 m).length / 128) (shaPad 128 16 m) sha384H sha384H_length
  have hbytes : ∀ x : BitVec 64, (beBytes 8 x.toNat).length = 8 := fun x => by rw [beBytes, List.length_reverse, leBytes_length]
  rw [sha384, List.length_take, flatten_length_const _ 8 hbytes, hwords]
  rfl

/-! The image loader (R652, R653) -/

theorem ldCtrl_plain : plainRegister true SEC_LD_CTRL 0x10F = true := by decide

/-- A granted write of SEC_LD_CTRL with GO loads its engine. -/
theorem State.exec_imageLoad (s : State) (req : Req) (e : Fin 16) (hg : s.granted req SEC_LD_CTRL) : ∃ l w,
    exec (.imageLoad req e) s = .next (((s.begin.withUnlocks l).wr SEC_LD_CTRL w).loadGo e) := by
  obtain ⟨l, hl⟩ := s.busReg_granted req SEC_LD_CTRL (BitVec.ofNat 32 (e + 256)) 0x10F ldCtrl_plain hg
  have hlt := e.isLt
  have hval : (BitVec.ofNat 32 (e + 256)).toNat = e + 256 := by rw [BitVec.toNat_ofNat]; omega
  have he : bits (e + 256) 3 0 = e := by simp only [bits]; omega
  have hgo : bits (e + 256) 8 8 = 1 := by simp only [bits]; omega
  rw [State.hook_security _ _ _ _ rfl, State.hookSecurity, if_neg (by decide), if_neg (by decide), if_pos rfl, State.loadWrite,
    bits_masked _ _ 0x10F 3 0 (by decide) (by decide), hval, he,
    bitAt_of_bits _ _ ((bits_masked _ _ 0x10F 8 8 (by decide) (by decide)).trans ((congrArg (bits · 8 8) hval).trans hgo)), State.when_true] at hl
  exact ⟨l, _, congrArg Host.Outcome.next hl⟩

/-- A load in progress. -/
def State.loading (s : State) (l : Load) : State := ({ s with sec := { s.sec with load := some l } }).setB SEC_LD_STAT_BUSY true

theorem State.loadGo_begins (s : State) (e : Nat) (h : s.sec.load = none) :
    s.loadGo e = s.loading { engine := e, src := s.rd64 SEC_LD_SRC_LO, len := s.f SEC_LD_LEN_BYTES } := by
  rw [State.loadGo, h]
  rfl

theorem State.loadGo_busy (s : State) (e : Nat) {l : Load} (h : s.sec.load = some l) : s.loadGo e = s := by
  rw [State.loadGo, h]
  rfl

theorem State.ldCtrl_rd (s : State) (l : List (Nat × Nat × Nat)) (w : Word) (a : Nat) (ha : a ≠ SEC_LD_CTRL) :
    ((s.begin.withUnlocks l).wr SEC_LD_CTRL w).rd a = s.rd a := State.rd_wr_ne _ _ _ _ ha.symm

theorem State.imageLoad_begins (s : State) (req : Req) (e : Fin 16) (hg : s.granted req SEC_LD_CTRL) (h : s.sec.load = none) :
    ∃ t, exec (.imageLoad req e) s = .next t ∧ s.regsBut t [SEC_LD_CTRL, SEC_LD_STAT] ∧ t.b SEC_LD_STAT_BUSY = true ∧
      t.sec = { s.sec with load := some { engine := e, src := s.rd64 SEC_LD_SRC_LO, len := s.f SEC_LD_LEN_BYTES } } := by
  obtain ⟨l, w, ht⟩ := s.exec_imageLoad req e hg
  have hsrc : ((s.begin.withUnlocks l).wr SEC_LD_CTRL w).rd64 SEC_LD_SRC_LO = s.rd64 SEC_LD_SRC_LO := by
    rw [State.rd64, State.rn, State.rn, s.ldCtrl_rd _ _ _ (by decide), s.ldCtrl_rd _ _ _ (by decide)]
    rfl
  have hlen : ((s.begin.withUnlocks l).wr SEC_LD_CTRL w).f SEC_LD_LEN_BYTES = s.f SEC_LD_LEN_BYTES :=
    State.f_congr _ (s.ldCtrl_rd _ _ _ (by decide))
  have hr : s.regsBut ((s.begin.withUnlocks l).wr SEC_LD_CTRL w) [SEC_LD_CTRL, SEC_LD_STAT] := (State.regsBut.of_regs rfl rfl).wr _ _ (by simp)
  rw [State.loadGo_begins ((s.begin.withUnlocks l).wr SEC_LD_CTRL w) e h, hsrc, hlen] at ht
  exact ⟨_, ht, State.regsBut.setB hr SEC_LD_STAT_BUSY true (by simp [SEC_LD_STAT_BUSY]), State.b_setB_same _ _ _ rfl (by decide),
    State.wr_sec _ _ _⟩

theorem State.imageLoad_busy (s : State) (req : Req) (e : Fin 16) (hg : s.granted req SEC_LD_CTRL) {x : Load} (h : s.sec.load = some x) :
    ∃ t, exec (.imageLoad req e) s = .next t ∧ s.regsBut t [SEC_LD_CTRL] ∧ t.sec = s.sec := by
  obtain ⟨l, w, ht⟩ := s.exec_imageLoad req e hg
  have hr : s.regsBut ((s.begin.withUnlocks l).wr SEC_LD_CTRL w) [SEC_LD_CTRL] := (State.regsBut.of_regs rfl rfl).wr _ _ (by simp)
  rw [State.loadGo_busy ((s.begin.withUnlocks l).wr SEC_LD_CTRL w) e h] at ht
  exact ⟨_, ht, hr, State.wr_sec _ _ _⟩

/-- A field of a register apart from an event of it. -/
theorem State.f_ev_apart (s : State) (x y : Field) (hy : y.hi < 24) (h : x.lo < y.lo ∨ y.hi < x.lo) :
    (s.ev x).f y = s.f y := by
  by_cases ha : x.addr = y.addr
  · rw [State.f, State.ev, ha, State.rd_wr_same, sqEvent, List.foldl_cons, List.foldl_nil,
      bits_putBits_apart _ _ _ _ _ _ (by omega) (by omega) (by omega), bits_putBits_apart _ _ _ _ _ _ (by omega) (by omega) (by omega), State.f]
  · exact State.f_congr _ (State.rd_wr_ne _ _ _ _ ha)

theorem State.eccRead_of_noBeats (s : State) (a n : Nat) (hs : beatsIn s.soft a n = []) (hp : s.badBeats a n = []) : s.eccRead a n = s := by
  simp only [State.eccRead, hs, State.forEach, List.foldl_nil]
  rw [hp, List.foldl_nil]

/-! The end of a load -/

/-- A load ended with a code, 0 for success. -/
def State.loadEnded (s : State) (code : Nat) : State :=
  (({ s with sec := { s.sec with load := none } } : State).setB SEC_LD_STAT_BUSY false).setF SEC_LD_STAT_FAIL_CODE code

/-- A load that failed. -/
def State.loadFailed (s : State) (code : Nat) : State := ((s.loadEnded code).ev SEC_LD_STAT_FAIL).raise 100 0

/-- An image in place, its engine verified and its measurement shown. -/
def State.imagePlaced (s : State) (e : Nat) (im : List Byte) : State :=
  let t := (s.putImage e false im).modEng e fun x => { x with checked := !s.unsigned }
  (t.setF SYS_ENG_STAT_VERIFIED (t.f SYS_ENG_STAT_VERIFIED ||| 2 ^ e)).putBytes (SEC_LD_MEAS 0) (measurement im)

/-- A load that succeeded. -/
def State.loadSucceeded (s : State) (e : Nat) (im : List Byte) : State :=
  (((s.loadEnded 0).imagePlaced e im).measured e (imageBody im ((s.loadEnded 0).imagePlaced e im).unsigned false)).ev SEC_LD_STAT_DONE

section
variable (s : State) (err : Bool) {l : Load} (h : s.sec.load = some l)
include h

/-- A source that does not lie in DDR (R652). -/
theorem State.loadDone_outside (ho : s.installed < l.src + l.len) :
    s.loadDone err = s.loadFailed (if (s.eng l.engine).running = true ∨ 14 ≤ l.engine then 13 else 14) := by
  have hno : ¬ l.src + l.len ≤ s.installed := by omega
  have hcode : ∀ im e, s.loadCode l im e = if (s.eng l.engine).running = true ∨ 14 ≤ l.engine then 13 else 14 := fun im e => by
    rw [State.loadCode, if_pos ho]
    exact if_congr (by simp) rfl rfl
  have hne : (if (s.eng l.engine).running = true ∨ 14 ≤ l.engine then 13 else 14) ≠ 0 := by split <;> decide
  simp only [State.loadDone, h, decide_eq_false hno, State.when_false, hcode]
  exact if_pos hne

/-- A source in DDR without beats in error. -/
theorem State.loadDone_inside (hi : l.src + l.len ≤ s.installed) (hp : s.badBeats l.src l.len = []) (hs : beatsIn s.soft l.src l.len = []) :
    s.loadDone err = if s.loadCode l (s.readMem l.src l.len) err ≠ 0 then s.loadFailed (s.loadCode l (s.readMem l.src l.len) err)
      else s.loadSucceeded l.engine (s.readMem l.src l.len) := by
  have hread := s.eccRead_of_noBeats _ _ hs hp
  simp only [State.loadDone, h, decide_eq_true hi, State.when_true, hread, if_pos hi, hp, ne_eq, not_true_eq_false, decide_false, Bool.not_true,
    Bool.or_false]
  by_cases hc : s.loadCode l (s.readMem l.src l.len) err = 0
  · rw [if_neg (not_not.2 hc), if_neg (not_not.2 hc), hc]
    rfl
  · rw [if_pos hc, if_pos hc]
    rfl

end

theorem State.ledgerTakes_iff (s : State) : s.ledgerTakes = true ↔
    s.ledger.isOpen = true ∧ s.ledger.closing = false ∧ ∀ y ∈ s.ledger.own, y.kind ≠ 12 := by
  simp only [State.ledgerTakes, Bool.and_eq_true, Bool.not_eq_true', List.any_eq_false, decide_eq_true_eq, and_assoc]

/-! A load that fails -/

section
variable (s : State) (code : Nat)

theorem State.loadEnded_keeps {α : Type} (π : State → α) (hs : ∀ s : State, π { s with sec := { s.sec with load := none } } = π s)
    (hw : ∀ (s : State) v, π (s.wr SEC_LD_STAT v) = π s) : π (s.loadEnded code) = π s :=
  (hw _ _).trans ((hw _ _).trans (hs s))

theorem State.loadEnded_sec : (s.loadEnded code).sec = { s.sec with load := none } := (State.wr_sec _ _ _).trans (State.wr_sec _ _ _)

theorem State.loadEnded_rd (a : Nat) (ha : a ≠ SEC_LD_STAT) : (s.loadEnded code).rd a = s.rd a :=
  s.loadEnded_keeps code (·.rd a) (fun _ => rfl) fun _ _ => State.rd_wr_ne _ _ _ _ ha.symm

theorem State.loadEnded_busy : (s.loadEnded code).b SEC_LD_STAT_BUSY = false := by
  rw [State.loadEnded, State.b, State.f_setF_apart _ _ _ _ (by decide) (by decide) (by decide), ← State.b, State.b_setB_same _ _ _ rfl (by decide)]

theorem State.loadEnded_code (hc : code < 16) : (s.loadEnded code).f SEC_LD_STAT_FAIL_CODE = code :=
  (State.f_setF_same _ _ _ (by decide) (by decide)).trans (Nat.mod_eq_of_lt hc)

/-- What a load that failed shows. -/
theorem State.loadFailed_shows (hc : code < 16) (hf : s.b DBG_STAT_FROZEN = false) :
    (s.loadFailed code).mem = s.mem ∧ (s.loadFailed code).sec = { s.sec with load := none } ∧
    (s.loadFailed code).b SEC_LD_STAT_BUSY = false ∧ (s.loadFailed code).b SEC_LD_STAT_FAIL = true ∧
    (s.loadFailed code).f SEC_LD_STAT_FAIL_CODE = code ∧ (s.loadFailed code).b (FLT_SRC_LATCHED 100) = true ∧
    (s.loadFailed code).f SYS_ENG_STAT_VERIFIED = s.f SYS_ENG_STAT_VERIFIED := by
  have hev : ∀ a, a ≠ SEC_LD_STAT → ((s.loadEnded code).ev SEC_LD_STAT_FAIL).rd a = s.rd a := fun a ha =>
    (State.rd_wr_ne _ _ _ _ ha.symm).trans (s.loadEnded_rd code a ha)
  have hstat : (s.loadFailed code).rd SEC_LD_STAT = ((s.loadEnded code).ev SEC_LD_STAT_FAIL).rd SEC_LD_STAT := State.raise_rd _ _ _ _ (by decide)
  refine ⟨?_, ?_, ?_, ?_, ?_, ?_, ?_⟩
  · rw [State.loadFailed, State.raise_mem, State.ev, State.wr_mem]
    exact s.loadEnded_keeps code State.mem (fun _ => rfl) fun s v => State.wr_mem _ _ _
  · rw [State.loadFailed, State.raise_sec, State.ev, State.wr_sec, State.loadEnded_sec]
  · rw [State.b_congr SEC_LD_STAT_BUSY hstat, State.b, State.f_ev_apart _ _ _ (by decide) (by decide), ← State.b, State.loadEnded_busy]
  · rw [State.b_congr SEC_LD_STAT_FAIL hstat, State.ev_b _ _ rfl (by decide)]
  · rw [State.f_congr SEC_LD_STAT_FAIL_CODE hstat, State.f_ev_apart _ _ _ (by decide) (by decide), State.loadEnded_code _ _ hc]
  · exact State.raise_latched _ _ _ (by decide) ((State.b_congr DBG_STAT_FROZEN (hev _ (by decide))).trans hf)
  · exact State.f_congr _ ((State.raise_rd _ _ _ _ (by decide)).trans (hev SYS_ENG_STAT (by decide)))

end

/-! A load that succeeds -/

section
variable (s : State) (e : Nat) (im : List Byte)

theorem State.putImage_mem : (s.putImage e false im).mem =
    ((s.writeMem (imemBase e) (slice im 256 (leAt im 0x18 4) ++ trapFill ((65536 - leAt im 0x18 4) / 4))).writeMem (dmemBase e + leAt im 0x20 4)
      (slice im (256 + leAt im 0x18 4) (leAt im 0x1C 4) ++ zeros (leAt im 0x24 4))).mem := rfl

/-- An image placed changes memory, its engine, and the registers of its pages, entry and measurement. -/
theorem State.imagePlaced_keeps {α : Type} (π : State → α) (hm : ∀ (s : State) m, π { s with mem := m } = π s)
    (hw : ∀ (s : State) a v, a = ENG_SIGPAGES e ∨ a = ENG_ENTRY e ∨ a = SYS_ENG_STAT ∨ (∃ i < 12, SEC_LD_MEAS i = a) → π (s.wr a v) = π s)
    (he : ∀ (s : State) v, π (s.setEng e v) = π s) : π (s.imagePlaced e im) = π s := by
  refine (State.putBytes_keeps π _ _ (fun s i v hi => hw s _ v (.inr (.inr (.inr ⟨i, ?_, rfl⟩)))) _).trans ?_
  · rw [measurement, sha384_length] at hi
    omega
  · refine (hw _ _ _ (.inr (.inr (.inl rfl)))).trans ((he _ _).trans ?_)
    exact State.putImage_keeps π e hm (fun s a v ha => hw s a v (ha.imp_right .inl)) he s false im

theorem State.imagePlaced_mem : (s.imagePlaced e im).mem = (s.putImage e false im).mem := by
  refine (State.putBytes_keeps State.mem _ _ (fun s i v _ => State.wr_mem _ _ _) _).trans ?_
  exact State.wr_mem _ _ _

end

section
variable (s : State) (e : Nat) (im : List Byte)

/-! What an image in place shows -/

theorem State.putImage_rd (a : Nat) : (s.putImage e false im).rd a =
    ((s.setF (ENG_SIGPAGES_LOCKED e) (s.f (ENG_SIGPAGES_LOCKED e) ||| (2 ^ ((leAt im 0x18 4 + 4095) / 4096) - 1))).setF (ENG_ENTRY_ENTRY e)
      (leAt im 0x10 4 / 4)).rd a := rfl

theorem State.imagePlaced_engineRd (a : Nat) (ha : 0x200000 ≤ a) : (s.imagePlaced e im).rd a = (s.putImage e false im).rd a := by
  refine (State.putBytes_keeps (·.rd a) _ _ (fun s i v hi => State.rd_wr_ne _ _ _ _ ?_) _).trans ?_
  · rw [measurement, sha384_length] at hi
    simp only [SEC_LD_MEAS]
    omega
  · exact State.rd_setF_other _ _ _ _ (by simp only [SYS_ENG_STAT_VERIFIED, SYS_ENG_STAT]; omega)

theorem State.imagePlaced_entry (hlt : leAt im 0x10 4 < 65536) : (s.imagePlaced e im).f (ENG_ENTRY_ENTRY e) = leAt im 0x10 4 / 4 := by
  have haddr : 0x200000 ≤ (ENG_ENTRY_ENTRY e).addr := by simp only [ENG_ENTRY_ENTRY, ENG_ENTRY]; omega
  have hw : (ENG_ENTRY_ENTRY e).hi + 1 - (ENG_ENTRY_ENTRY e).lo = 14 := rfl
  rw [State.f_congr (ENG_ENTRY_ENTRY e) ((s.imagePlaced_engineRd e im _ haddr).trans (s.putImage_rd e im _)),
    State.f_setF_same _ _ _ (by simp [ENG_ENTRY_ENTRY]) (by simp [ENG_ENTRY_ENTRY]), hw, Nat.mod_eq_of_lt (by omega)]

theorem State.imagePlaced_pages : (s.imagePlaced e im).f (ENG_SIGPAGES_LOCKED e) =
    (s.f (ENG_SIGPAGES_LOCKED e) ||| (2 ^ ((leAt im 0x18 4 + 4095) / 4096) - 1)) % 2 ^ 16 := by
  have haddr : 0x200000 ≤ (ENG_SIGPAGES_LOCKED e).addr := by simp only [ENG_SIGPAGES_LOCKED, ENG_SIGPAGES]; omega
  have hne : (ENG_ENTRY_ENTRY e).addr ≠ (ENG_SIGPAGES_LOCKED e).addr := by simp [ENG_ENTRY_ENTRY, ENG_SIGPAGES_LOCKED, ENG_ENTRY, ENG_SIGPAGES]
  have hw : (ENG_SIGPAGES_LOCKED e).hi + 1 - (ENG_SIGPAGES_LOCKED e).lo = 16 := rfl
  rw [State.f_congr (ENG_SIGPAGES_LOCKED e) ((s.imagePlaced_engineRd e im _ haddr).trans (s.putImage_rd e im _)), State.f_setF_other _ _ _ _ hne,
    State.f_setF_same _ _ _ (by simp [ENG_SIGPAGES_LOCKED]) (by simp [ENG_SIGPAGES_LOCKED]), hw]

theorem State.imagePlaced_verified (he : e < 16) : bitAt ((s.imagePlaced e im).f SYS_ENG_STAT_VERIFIED) e = true := by
  have hmeas : ∀ (s : State), (s.putBytes (SEC_LD_MEAS 0) (measurement im)).rd SYS_ENG_STAT = s.rd SYS_ENG_STAT :=
    State.putBytes_keeps (·.rd SYS_ENG_STAT) _ _ fun s i v _ => State.rd_wr_ne _ _ _ _ (by simp only [SEC_LD_MEAS, SYS_ENG_STAT]; omega)
  rw [State.imagePlaced, State.f_congr SYS_ENG_STAT_VERIFIED (hmeas _), State.f_setF_same _ _ _ (by decide) (by decide), bitAt_eq,
    show SYS_ENG_STAT_VERIFIED.hi + 1 - SYS_ENG_STAT_VERIFIED.lo = 16 from rfl, Nat.testBit_mod_two_pow, Nat.testBit_or, Nat.testBit_two_pow_self,
    Bool.or_true, Bool.and_true]
  exact decide_eq_true he

theorem State.imagePlaced_eng : (s.imagePlaced e im).eng e =
    { s.eng e with trapVector := BitVec.ofNat 32 (leAt im 0x14 4), checked := !s.unsigned } := by
  have hmeas : ∀ (s : State), (s.putBytes (SEC_LD_MEAS 0) (measurement im)).eng e = s.eng e :=
    State.putBytes_keeps (·.eng e) _ _ fun s i v _ => rfl
  have hset : ∀ (s : State) x v, (s.setF x v).eng e = s.eng e := fun _ _ _ => rfl
  rw [State.imagePlaced, hmeas, hset, State.modEng_same, State.putImage, State.modEng_same]
  rfl

theorem State.imagePlaced_measurement : (s.imagePlaced e im).regBytes (SEC_LD_MEAS 0) 48 = measurement im := by
  have h := (((s.putImage e false im).modEng e fun x => { x with checked := !s.unsigned }).setF SYS_ENG_STAT_VERIFIED
    (((s.putImage e false im).modEng e fun x => { x with checked := !s.unsigned }).f SYS_ENG_STAT_VERIFIED ||| 2 ^ e)).regBytes_putBytes
    (SEC_LD_MEAS 0) (measurement im)
  rwa [show (measurement im).length = 48 from sha384_length _] at h

/-! The bytes of an image in place -/

theorem flatten_replicate_getElem? {α : Type} (xs : List α) (n k : Nat) (hk : k < n * xs.length) :
    (List.replicate n xs).flatten[k]? = xs[k % xs.length]? := by
  induction n generalizing k with
  | zero => omega
  | succ n ih =>
    rw [List.replicate_succ, List.flatten_cons]
    by_cases hx : k < xs.length
    · rw [List.getElem?_append_left hx, Nat.mod_eq_of_lt hx]
    · rw [List.getElem?_append_right (by omega), ih _ (by rw [Nat.succ_mul] at hk; omega), ← Nat.mod_eq_sub_mod (by omega)]

theorem trapFill_length (n : Nat) : (trapFill n).length = 4 * n := by
  simp [trapFill, Nat.mul_comm]

theorem trapFill_getElem? (n k : Nat) (hk : k < 4 * n) : (trapFill n)[k]? = some ([0xFF#8, 0xFF#8, 0x20#8, 0xFC#8].getD (k % 4) 0) := by
  have hcase : k % 4 = 0 ∨ k % 4 = 1 ∨ k % 4 = 2 ∨ k % 4 = 3 := by omega
  rw [trapFill, flatten_replicate_getElem? _ _ _ (by simpa [Nat.mul_comm] using hk)]
  show [0xFF#8, 0xFF#8, 0x20#8, 0xFC#8][k % 4]? = _
  rcases hcase with h | h | h | h <;> rw [h] <;> rfl

theorem slice_of_le (bs : List Byte) (off len : Nat) (h : off + len ≤ bs.length) : slice bs off len = (bs.drop off).take len := by
  have : ((bs.drop off).take len).length = len := by rw [List.length_take, List.length_drop]; omega
  simp [slice, this]

theorem slice_getElem? (bs : List Byte) (off len k : Nat) (h : off + len ≤ bs.length) (hk : k < len) : (slice bs off len)[k]? = bs[off + k]? := by
  rw [slice_of_le _ _ _ h, List.getElem?_take_of_lt hk, List.getElem?_drop]

/-- The bytes that fill IMEM. -/
def imemBytes (im : List Byte) : List Byte := slice im 256 (leAt im 0x18 4) ++ trapFill ((65536 - leAt im 0x18 4) / 4)

/-- The bytes put into DMEM at DATA_LOAD. -/
def dmemBytes (im : List Byte) : List Byte := slice im (256 + leAt im 0x18 4) (leAt im 0x1C 4) ++ zeros (leAt im 0x24 4)

section
variable (hlen : 256 + leAt im 0x18 4 + leAt im 0x1C 4 ≤ im.length)

theorem dmemBytes_length : (dmemBytes im).length = leAt im 0x1C 4 + leAt im 0x24 4 := by
  rw [dmemBytes, List.length_append, slice_length, zeros, List.length_replicate]

section
variable (hc : leAt im 0x18 4 ≤ 65536) (h4 : leAt im 0x18 4 % 4 = 0)
include hc h4

theorem imemBytes_length : (imemBytes im).length = 65536 := by
  rw [imemBytes, List.length_append, slice_length, trapFill_length]
  omega

include hlen in
theorem imemBytes_getElem? (k : Nat) (hk : k < 65536) : (imemBytes im)[k]? =
    if k < leAt im 0x18 4 then im[256 + k]? else some ([0xFF#8, 0xFF#8, 0x20#8, 0xFC#8].getD (k % 4) 0) := by
  by_cases hcode : k < leAt im 0x18 4
  · rw [imemBytes, List.getElem?_append_left (by rwa [slice_length]), if_pos hcode, slice_getElem? _ _ _ _ (by omega) hcode]
  · rw [imemBytes, List.getElem?_append_right (by rw [slice_length]; omega), slice_length, if_neg hcode, trapFill_getElem? _ _ (by omega),
      show (k - leAt im 0x18 4) % 4 = k % 4 by omega]

end

include hlen in
theorem dmemBytes_getElem? (k : Nat) (hk : k < leAt im 0x1C 4 + leAt im 0x24 4) : (dmemBytes im)[k]? =
    if k < leAt im 0x1C 4 then im[256 + leAt im 0x18 4 + k]? else some 0 := by
  by_cases hdata : k < leAt im 0x1C 4
  · rw [dmemBytes, List.getElem?_append_left (by rwa [slice_length]), if_pos hdata, slice_getElem? _ _ _ _ (by omega) hdata]
  · rw [dmemBytes, List.getElem?_append_right (by rw [slice_length]; omega), slice_length, if_neg hdata, zeros,
      List.getElem?_replicate_of_lt (by omega)]

end

theorem State.imagePlaced_byte (a : Nat) : (s.imagePlaced e im).byte a =
    ((s.writeMem (imemBase e) (imemBytes im)).writeMem (dmemBase e + leAt im 0x20 4) (dmemBytes im)).byte a := by
  rw [State.byte, s.imagePlaced_mem, s.putImage_mem]
  rfl

theorem dmemBase_eq : dmemBase e = imemBase e + 65536 := rfl

end

/-- The bytes an image leaves in its engine's memories (R190). -/
theorem State.imagePlaced_bytes (s : State) (e src len : Nat) (hlen : imageLen (s.readMem src len) = len)
    (him : imageLengths (s.readMem src len) false = true) :
    let im := s.readMem src len
    let code := leAt im 0x18 4
    let data := leAt im 0x1C 4
    let dat := leAt im 0x20 4
    ∀ u : State, u.mem = s.mem →
      (∀ k < 65536, (u.imagePlaced e im).byte (imemBase e + k) =
        if k < code then s.byte (src + 256 + k) else [0xFF#8, 0xFF#8, 0x20#8, 0xFC#8].getD (k % 4) 0) ∧
      (∀ k < 131072, (u.imagePlaced e im).byte (dmemBase e + k) =
        if dat ≤ k ∧ k < dat + data then s.byte (src + 256 + code + (k - dat))
        else if dat + data ≤ k ∧ k < dat + data + leAt im 0x24 4 then 0 else s.byte (dmemBase e + k)) ∧
      ∀ a, a < imemBase e ∨ imemBase e + 196608 ≤ a → (u.imagePlaced e im).byte a = s.byte a := by
  intro im code data dat u hu
  have hread : ∀ k < len, im[k]? = some (s.byte (src + k)) := fun k hk => by
    simp [im, State.readMem_eq, hk]
  have hlength : im.length = len := by simp [im, State.readMem_eq]
  have hbyte : ∀ a, u.byte a = s.byte a := fun a => by rw [State.byte, hu, ← State.byte]
  obtain ⟨-, -, hc, hc4, -, -, -, -, -, -, hd, -, -, -⟩ := (imageLengths_iff false im).1 him
  have hfit : 256 + leAt im 0x18 4 + leAt im 0x1C 4 ≤ im.length := by
    have : 352 + leAt im 0x18 4 + leAt im 0x1C 4 = len := hlen
    omega
  have hlenI := imemBytes_length im hc hc4
  have hlenD := dmemBytes_length im
  refine ⟨fun k hk => ?_, fun k hk => ?_, fun a ha => ?_⟩
  · rw [State.imagePlaced_byte, State.byte_writeMem_out _ _ _ _ (.inl (by rw [dmemBase_eq]; omega)), State.byte_writeMem_getD, if_pos (by omega),
      Nat.add_sub_cancel_left, imemBytes_getElem? im hfit hc hc4 k hk]
    split
    · rw [hread _ (by omega), Nat.add_assoc]
      rfl
    · rfl
  · rw [State.imagePlaced_byte, State.byte_writeMem_getD]
    by_cases hin : dat ≤ k ∧ k < dat + data + leAt im 0x24 4
    · rw [if_pos (by omega), show dmemBase e + k - (dmemBase e + leAt im 0x20 4) = k - dat by omega,
        dmemBytes_getElem? im hfit _ (by omega)]
      by_cases hk' : k < dat + data
      · rw [if_pos (by omega), if_pos ⟨hin.1, hk'⟩, hread _ (by omega)]
        exact congrArg s.byte (by omega)
      · rw [if_neg (by omega), if_neg (fun h => hk' h.2), if_pos ⟨by omega, hin.2⟩]
        rfl
    · have hdata : ¬ (dat ≤ k ∧ k < dat + data) := fun ⟨h1, h2⟩ => hin ⟨h1, by omega⟩
      have hzero : ¬ (dat + data ≤ k ∧ k < dat + data + leAt im 0x24 4) := fun ⟨h1, h2⟩ => hin ⟨by omega, h2⟩
      rw [if_neg hdata, if_neg hzero]
      have hout : ((u.writeMem (imemBase e) (imemBytes im)).byte (dmemBase e + k)) = s.byte (dmemBase e + k) := by
        rw [State.byte_writeMem_out _ _ _ _ (.inr (by rw [dmemBase_eq]; omega)), hbyte]
      split
      · rw [List.getElem?_eq_none (by omega)]
        exact hout
      · exact hout
  · rw [State.imagePlaced_byte, State.byte_writeMem_out _ _ _ _ (by rw [dmemBase_eq]; omega), State.byte_writeMem_out _ _ _ _ (by omega), hbyte]

/-! What a load that succeeded shows -/

section
variable (s : State) (e : Nat) (im body : List Byte)

theorem State.measured_f (x : Field) (hx : x.hi < 12) : (s.measured e body).f x = s.f x := by
  rw [State.measured]
  split
  · rfl
  · rw [State.showPending]
    by_cases ha : SEC_LD_STAT = x.addr
    · exact (State.f_setF_apart _ _ _ _ (by decide) (by omega) (.inr hx)).trans rfl
    · exact (State.f_setF_other _ _ _ _ ha).trans rfl

theorem State.measured_taken (h : s.ledgerTakes = true) : s.measured e body = s.ownRecord 2 e body := by rw [State.measured, if_pos h]

theorem State.measured_kept (h : ¬ s.ledgerTakes = true) :
    (s.measured e body).sec = { s.sec with measured := s.sec.measured ++ [Measured.mk e body] } ∧ (s.measured e body).ledger = s.ledger := by
  rw [State.measured, if_neg h, State.showPending]
  exact ⟨State.wr_sec _ _ _, State.wr_ledger _ _ _⟩

/-- An image placed leaves the parts that are neither memory, registers nor engines. -/
theorem State.imagePlaced_ledger : (s.imagePlaced e im).ledger = s.ledger :=
  s.imagePlaced_keeps e im State.ledger (fun _ _ => rfl) (fun _ _ _ _ => rfl) fun _ _ => rfl

theorem State.imagePlaced_sec : (s.imagePlaced e im).sec = s.sec :=
  s.imagePlaced_keeps e im State.sec (fun _ _ => rfl) (fun _ _ _ _ => rfl) fun _ _ => rfl

/-- The registers of a load that succeeds. -/
def loadRegs (e : Nat) : List Nat := [SEC_LD_STAT, SYS_ENG_STAT, ENG_ENTRY e, ENG_SIGPAGES e] ++ (List.range 12).map SEC_LD_MEAS

theorem State.imagePlaced_rd (a : Nat) (ha : a ∉ loadRegs e ∨ a = SEC_LD_STAT) : (s.imagePlaced e im).rd a = s.rd a := by
  refine s.imagePlaced_keeps e im (·.rd a) (fun _ _ => rfl) (fun s b v hb => State.rd_wr_ne _ _ _ _ ?_) fun _ _ => rfl
  rcases ha with ha | rfl
  · rintro rfl
    refine ha ?_
    simp only [loadRegs, List.mem_append, List.mem_cons, List.mem_map, List.mem_range]
    rcases hb with rfl | rfl | rfl | ⟨i, hi, rfl⟩
    · exact .inl (.inr (.inr (.inr (.inl rfl))))
    · exact .inl (.inr (.inr (.inl rfl)))
    · exact .inl (.inr (.inl rfl))
    · exact .inr ⟨i, hi, rfl⟩
  · rcases hb with rfl | rfl | rfl | ⟨i, hi, rfl⟩
    · simp only [ENG_SIGPAGES, SEC_LD_STAT]; omega
    · simp only [ENG_ENTRY, SEC_LD_STAT]; omega
    · decide
    · simp only [SEC_LD_MEAS, SEC_LD_STAT]; omega

/-- A measurement, and DONE shown. -/
def State.loadMeasured (s : State) (e : Nat) (body : List Byte) : State := (s.measured e body).ev SEC_LD_STAT_DONE

theorem State.loadSucceeded_eq : s.loadSucceeded e im = ((s.loadEnded 0).imagePlaced e im).loadMeasured e
    (imageBody im ((s.loadEnded 0).imagePlaced e im).unsigned false) := rfl

theorem State.loadMeasured_keeps {α : Type} (π : State → α) (hw : ∀ (s : State) v, π (s.wr SEC_LD_STAT v) = π s)
    (hl : ∀ (s : State) l, π { s with ledger := l } = π s) (hs : ∀ (s : State) x, π { s with sec := x } = π s) :
    π (s.loadMeasured e body) = π s := (hw _ _).trans (s.measured_keeps π hw hl hs e body)

theorem State.loadMeasured_rd (a : Nat) (ha : a ≠ SEC_LD_STAT) : (s.loadMeasured e body).rd a = s.rd a :=
  s.loadMeasured_keeps e body (·.rd a) (fun _ _ => State.rd_wr_ne _ _ _ _ ha.symm) (fun _ _ => rfl) fun _ _ => rfl

theorem State.loadMeasured_f (x : Field) (h0 : 0 < x.lo) (hx : x.hi < 12) : (s.loadMeasured e body).f x = s.f x := by
  rw [State.loadMeasured, State.f_ev_apart _ _ _ (by omega) (.inl h0), State.measured_f _ _ _ _ hx]

theorem State.loadMeasured_sec : (s.loadMeasured e body).sec = (s.measured e body).sec := State.wr_sec _ _ _

theorem State.loadMeasured_ledger : (s.loadMeasured e body).ledger = (s.measured e body).ledger := State.wr_ledger _ _ _

theorem State.loadMeasured_byte (a : Nat) : (s.loadMeasured e body).byte a = s.byte a :=
  s.loadMeasured_keeps e body (·.byte a) (fun _ _ => rfl) (fun _ _ => rfl) fun _ _ => rfl

theorem State.loadMeasured_eng (i : Nat) : (s.loadMeasured e body).eng i = s.eng i :=
  s.loadMeasured_keeps e body (·.eng i) (fun _ _ => rfl) (fun _ _ => rfl) fun _ _ => rfl

theorem State.loadEnded_eng (code i : Nat) : (s.loadEnded code).eng i = s.eng i :=
  s.loadEnded_keeps code (·.eng i) (fun _ => rfl) fun _ _ => rfl

theorem State.loadEnded_mem (code : Nat) : (s.loadEnded code).mem = s.mem :=
  s.loadEnded_keeps code State.mem (fun _ => rfl) fun _ _ => rfl

theorem State.loadEnded_ledger (code : Nat) : (s.loadEnded code).ledger = s.ledger :=
  s.loadEnded_keeps code State.ledger (fun _ => rfl) fun _ _ => rfl

theorem State.loadEnded_unsigned (code : Nat) : (s.loadEnded code).unsigned = s.unsigned :=
  s.loadEnded_keeps code State.unsigned (fun _ => rfl) fun _ _ => rfl

/-- The registers of a load that succeeded. -/
theorem State.loadSucceeded_regs : s.regsBut { s.loadSucceeded e im with mem := s.mem } (loadRegs e) := by
  refine ⟨rfl, fun a ha => ?_⟩
  have hstat : a ≠ SEC_LD_STAT := fun h => ha (by simp [h, loadRegs])
  show (s.loadSucceeded e im).rd a = s.rd a
  rw [State.loadSucceeded_eq, State.loadMeasured_rd _ _ _ _ hstat, State.imagePlaced_rd _ _ _ _ (.inl ha), State.loadEnded_rd _ _ _ hstat]

theorem State.loadSucceeded_stat : (s.loadSucceeded e im).b SEC_LD_STAT_BUSY = false ∧ (s.loadSucceeded e im).b SEC_LD_STAT_DONE = true ∧
    (s.loadSucceeded e im).f SEC_LD_STAT_FAIL_CODE = 0 := by
  have hplaced := (s.loadEnded 0).imagePlaced_rd e im SEC_LD_STAT (.inr rfl)
  rw [State.loadSucceeded_eq]
  refine ⟨?_, State.ev_b _ _ rfl (by decide), ?_⟩
  · rw [State.b, State.loadMeasured_f _ _ _ _ (by decide) (by decide), ← State.b, State.b_congr SEC_LD_STAT_BUSY hplaced,
      State.loadEnded_busy]
  · rw [State.loadMeasured_f _ _ _ _ (by decide) (by decide), State.f_congr SEC_LD_STAT_FAIL_CODE hplaced,
      State.loadEnded_code _ _ (by decide)]

theorem State.loadSucceeded_engine (he : e < 16) (hlt : leAt im 0x10 4 < 65536) : bitAt ((s.loadSucceeded e im).f SYS_ENG_STAT_VERIFIED) e = true ∧
    (s.loadSucceeded e im).f (ENG_ENTRY_ENTRY e) = leAt im 0x10 4 / 4 ∧
    ((s.loadSucceeded e im).eng e).trapVector = BitVec.ofNat 32 (leAt im 0x14 4) ∧ ((s.loadSucceeded e im).eng e).checked = !s.unsigned ∧
    (s.loadSucceeded e im).regBytes (SEC_LD_MEAS 0) 48 = measurement im := by
  have hentry : (ENG_ENTRY_ENTRY e).addr ≠ SEC_LD_STAT := by simp only [ENG_ENTRY_ENTRY, ENG_ENTRY, SEC_LD_STAT]; omega
  rw [State.loadSucceeded_eq, State.loadMeasured_eng, State.imagePlaced_eng]
  refine ⟨?_, ?_, rfl, congrArg (!·) (s.loadEnded_unsigned 0), ?_⟩
  · rw [State.f_congr SYS_ENG_STAT_VERIFIED (State.loadMeasured_rd _ _ _ _ (by decide)), State.imagePlaced_verified _ _ _ he]
  · rw [State.f_congr (ENG_ENTRY_ENTRY e) (State.loadMeasured_rd _ _ _ _ hentry), State.imagePlaced_entry _ _ _ hlt]
  · refine (State.regBytes_congr fun i hi => State.loadMeasured_rd _ _ _ _ ?_).trans (State.imagePlaced_measurement _ _ _)
    simp only [SEC_LD_MEAS, SEC_LD_STAT]
    omega

theorem State.loadSucceeded_pages : ∀ k < 16, bitAt ((s.loadSucceeded e im).f (ENG_SIGPAGES_LOCKED e)) k = true ↔
    bitAt (s.f (ENG_SIGPAGES_LOCKED e)) k = true ∨ k * 4096 < leAt im 0x18 4 := by
  have haddr : (ENG_SIGPAGES_LOCKED e).addr ≠ SEC_LD_STAT := by simp only [ENG_SIGPAGES_LOCKED, ENG_SIGPAGES, SEC_LD_STAT]; omega
  intro k hk
  rw [State.loadSucceeded_eq, State.f_congr (ENG_SIGPAGES_LOCKED e) (State.loadMeasured_rd _ _ _ _ haddr), State.imagePlaced_pages,
    State.f_congr (ENG_SIGPAGES_LOCKED e) (s.loadEnded_rd 0 _ haddr), bitAt_eq, bitAt_eq, Nat.testBit_mod_two_pow, Nat.testBit_or,
    Nat.testBit_two_pow_sub_one, decide_eq_true hk, Bool.true_and, Bool.or_eq_true, decide_eq_true_eq]
  exact or_congr_right (by omega)

theorem State.loadSucceeded_ledger :
    (s.loadSucceeded e im).sec.load = none ∧
    (s.ledgerTakes = true → (s.loadSucceeded e im).sec.measured = s.sec.measured ∧
      ((s.loadSucceeded e im).ledger.own.getLast?.map (·.kind)) = some 2) ∧
    (¬ s.ledgerTakes = true → (s.loadSucceeded e im).sec.measured.length = s.sec.measured.length + 1 ∧
      (s.loadSucceeded e im).ledger = s.ledger) := by
  have hsec : ((s.loadEnded 0).imagePlaced e im).sec = { s.sec with load := none } := (State.imagePlaced_sec _ _ _).trans (s.loadEnded_sec 0)
  have hledger : ((s.loadEnded 0).imagePlaced e im).ledger = s.ledger := (State.imagePlaced_ledger _ _ _).trans (s.loadEnded_ledger 0)
  rw [State.loadSucceeded_eq, State.loadMeasured_sec, State.loadMeasured_ledger]
  generalize imageBody im ((s.loadEnded 0).imagePlaced e im).unsigned false = body
  generalize (s.loadEnded 0).imagePlaced e im = u at hsec hledger ⊢
  have htakes : u.ledgerTakes = s.ledgerTakes := by rw [State.ledgerTakes, hledger, ← State.ledgerTakes]
  rw [← htakes]
  by_cases h : u.ledgerTakes = true
  · rw [State.measured_taken _ _ _ h]
    have hload : u.sec.load = none := by rw [hsec]
    have hmeas : u.sec.measured = s.sec.measured := by rw [hsec]
    exact ⟨hload, fun _ => ⟨hmeas, by simp [State.ownRecord]⟩, fun h' => absurd h h'⟩
  · obtain ⟨hs, hl⟩ := u.measured_kept e body h
    rw [hs, hl, hsec]
    exact ⟨rfl, fun h' => absurd h' h, fun _ => ⟨by simp, hledger⟩⟩

end

/-! The order of the checks (R652) -/

theorem imageLengths_of_code (s : State) (im : List Byte) (h : s.imageCode false im = 0) : imageLengths im false = true := by
  by_contra h2
  by_cases h1 : imageNamed false im
  · rw [s.imageCode_lengths false im h1 (Bool.eq_false_iff.2 h2)] at h
    cases h
  · rw [s.imageCode_unnamed false im h1] at h
    cases h

/-- The code a load from DDR ends with, condition by condition. -/
theorem State.loadCode_inside (s : State) (l : Load) (im : List Byte) (err : Bool) (hi : l.src + l.len ≤ s.installed) :
    s.loadCode l im err =
      if s.imageCode false im ≠ 1 ∧ imageLen im ≠ l.len then 2
      else if s.imageCode false im ≠ 0 then s.imageCode false im
      else if leAt im 8 1 ≠ 2 ∨ bitAt (leAt im 0x0A 2) l.engine = false then 12
      else if (s.eng l.engine).running = true ∨ 14 ≤ l.engine then 13
      else if err = true then 14
      else if ¬ s.ledgerTakes = true ∧ 16 ≤ s.sec.measured.length then 15
      else 0 := by
  have hno : ¬ s.installed < l.src + l.len := by omega
  simp only [State.loadCode, if_neg hno]
  exact if_congr (by simp) rfl <| if_congr (by simp) rfl <| if_congr (by simp) rfl <| if_congr (by simp) rfl <| if_congr (by simp) rfl <|
    if_congr (by simp) rfl rfl

/-- A load is taken only where each check has passed. -/
theorem State.loadCode_zero (s : State) (l : Load) (im : List Byte) (err : Bool) (hi : l.src + l.len ≤ s.installed)
    (h : s.loadCode l im err = 0) : s.imageCode false im = 0 ∧ imageLen im = l.len ∧ l.engine < 14 := by
  rw [s.loadCode_inside l im err hi] at h
  split at h
  · cases h
  next h2 =>
    split at h
    next hne => exact absurd h hne
    next h0 =>
      have h0 : s.imageCode false im = 0 := not_not.1 h0
      split at h
      · cases h
      · split at h
        · cases h
        next he =>
          refine ⟨h0, ?_, by omega⟩
          by_contra hlen
          exact h2 ⟨by rw [h0]; decide, hlen⟩

theorem State.loadCode_le (s : State) (l : Load) (im : List Byte) (err : Bool) : s.loadCode l im err < 16 := by
  have hle := s.imageCode_le false im
  simp only [State.loadCode]
  repeat' split
  all_goals omega

end Sys2Proof.Machine

open Sys2Proof Sys2Proof.Machine
open Sys2Proof.Machine.Reg Sys2Proof.Machine.Fld

/-- Settles O50: a fuse write, a token and a load each come to their condition, read as Table 18.2, R649 and R652 give it, and to one change of the
SECURITY block; an image taken is its bytes in the engine's memories. -/
theorem fusesTokensAndImages : Obligations.FusesTokensAndImages := by
  unfold Obligations.FusesTokensAndImages
  intro req v op e err field index data rest l s
  dsimp only
  refine ⟨fun hg => ?fuse, fun hup => ?token, fun hg => ⟨s.imageLoad_begins req e hg, s.imageLoad_busy req e hg⟩, fun ha => ?ends⟩
  case fuse =>
    have hok := s.fuseOk_iff (v.toNat % 16) (v.toNat / 256 % 4) (s.regBytes (SEC_FDATA 0) 48)
    exact ⟨fun hm hn => s.fuseProgram_plain req v hg (hok.2 hm) hn, fun hm hn ht => s.fuseProgram_token req v hg (hok.2 hm) hn ht,
      fun h => s.fuseProgram_refused req v hg (h.imp_left fun hm h' => hm (hok.1 h'))⟩
  case token =>
    have hvalid := s.tokenValid_iff op.toNat
    obtain ⟨t, ht, hmem, hregs, hgood, hbad⟩ := s.tokenCheck_shows req op hup
    refine ⟨t, ht, hmem, fun h => hregs (h.imp_left hvalid.2), fun h => ?_, fun h => ?_, fun h => ?_, ?_⟩
    · obtain ⟨hshows, hsec⟩ := hgood (hvalid.2 h)
      exact ⟨hshows.valid, hshows.invalid, hshows.consec, hsec⟩
    · obtain ⟨hshows, hsec, -⟩ := hbad fun h' => h (hvalid.1 h')
      exact ⟨hshows.valid, hshows.invalid, hshows.consec, hsec⟩
    · exact (hbad fun h' => h (hvalid.1 h')).2.2
    · by_cases h : s.tokenValid op.toNat = true
      · exact ⟨(hgood h).1.nonce, (hgood h).1.free⟩
      · exact ⟨(hbad h).1.nonce, (hbad h).1.free⟩
  case ends =>
    have hf := s.frozen_of_asleep ha
    refine ⟨fun h => ?noFuse, fun h => ?blown, ?expire, fun h => ?noLoad, fun h ho => ?outside, fun h hi hp hs => ?inside⟩
    case noFuse =>
      have he := (s.awake_of (·.fuseDone) ha).trans (s.begin.fuseDone_none h)
      exact ⟨_, congrArg Host.Outcome.next he, .of_regs rfl rfl, rfl, rfl⟩
    case noLoad =>
      have hnone : s.begin.loadDone err = s.begin := by rw [State.loadDone, show s.begin.sec.load = none from h]
      have he := (s.awake_of (·.loadDone err) ha).trans hnone
      exact ⟨_, congrArg Host.Outcome.next he, .of_regs rfl rfl, rfl, rfl⟩
    case blown =>
      have he := (s.awake_of (·.fuseDone) ha).trans (s.begin.fuseDone_blows h)
      generalize hu : s.begin.fuseBlown field index data rest = u at he
      have hfuses : u.showFuses.fuses = s.fuses.blow field index data := (u.showFuses_fuses).trans (by rw [← hu]; rfl)
      have hsec : u.showFuses.sec = { s.sec with fprog := rest } := (u.showFuses_sec).trans (by rw [← hu]; rfl)
      have hregs : s.regsBut u.showFuses fuseRegs := by
        have h0 : u.mem = s.mem ∧ ∀ a, u.rd a = s.rd a := by rw [← hu]; exact ⟨rfl, fun _ => rfl⟩
        obtain ⟨hm, hr⟩ := u.showFuses_regsBut
        exact ⟨hm.trans h0.1, fun a ha => (hr a ha).trans (h0.2 a)⟩
      refine ⟨_, congrArg Host.Outcome.next he, hregs, hsec, ?_, ?_, ?_⟩
      · rw [u.showFuses_rollback, u.showFuses_fuses]
      · rw [u.showFuses_regulated, u.showFuses_fuses]
      · simp only [State.keyHash, State.policyOf, State.supplyRoot, hfuses]
        refine ⟨?_, ?_, ?_, ?_, ?_, ?_, ?_, ?_⟩
        · rintro rfl h0 hl
          exact ⟨Fuses.blow_key _ _ _ h0 hl, fun m hm => by rw [Fuses.blow_otherKey _ _ _ _ hm]⟩
        · rintro rfl
          rfl
        · rintro rfl
          rfl
        · rintro rfl
          exact Fuses.blow_policy _ _ _
        · rintro rfl
          rfl
        · rintro rfl h0 hl
          exact Fuses.blow_root _ _ _ h0 hl
        · rintro rfl
          rfl
        · rintro rfl
          rfl
    case expire =>
      have he := s.awake_of (·.tokenExpire) ha
      exact ⟨_, congrArg Host.Outcome.next he, .of_regs rfl rfl, rfl, rfl, s.begin.tokenExpire_mem⟩
    case outside =>
      have he := (s.awake_of (·.loadDone err) ha).trans (s.begin.loadDone_outside err h ho)
      exact ⟨_, congrArg Host.Outcome.next he, s.begin.loadFailed_shows _ (by split <;> decide) hf⟩
    case inside =>
      have he := (s.awake_of (·.loadDone err) ha).trans (s.begin.loadDone_inside err h hi hp hs)
      have hcode := s.loadCode_inside l (s.readMem l.src l.len) err hi
      simp only [s.ledgerTakes_iff] at hcode
      have htakes := s.ledgerTakes_iff
      rw [← hcode]
      refine ⟨fun hne => ?fails, fun hz => ?succeeds⟩
      case fails =>
        exact ⟨_, congrArg Host.Outcome.next (he.trans (if_pos hne)), s.begin.loadFailed_shows _ (s.loadCode_le _ _ _) hf⟩
      case succeeds =>
        obtain ⟨h0, hlen, he14⟩ := s.loadCode_zero l _ err hi hz
        have him := imageLengths_of_code s _ h0
        obtain ⟨-, -, hc, -, -, -, hentry, -, -, -, -, -, -, -⟩ := (imageLengths_iff false _).1 him
        obtain ⟨hbusy, hdone, hfail⟩ := s.begin.loadSucceeded_stat l.engine (s.readMem l.src l.len)
        obtain ⟨hver, hent, htrap, hchk, hmeas⟩ := s.begin.loadSucceeded_engine l.engine (s.readMem l.src l.len) (by omega) (by omega)
        obtain ⟨hload, htaken, hkept⟩ := s.begin.loadSucceeded_ledger l.engine (s.readMem l.src l.len)
        obtain ⟨himem, hdmem, hother⟩ := s.imagePlaced_bytes l.engine l.src l.len hlen him (s.begin.loadEnded 0) (s.begin.loadEnded_mem 0)
        have hbyte := ((s.begin.loadEnded 0).imagePlaced l.engine (s.readMem l.src l.len)).loadMeasured_byte l.engine
          (imageBody (s.readMem l.src l.len) ((s.begin.loadEnded 0).imagePlaced l.engine (s.readMem l.src l.len)).unsigned false)
        exact ⟨_, congrArg Host.Outcome.next (he.trans (if_neg (not_not.2 hz))), hload, s.begin.loadSucceeded_regs _ _, hbusy, hdone, hfail, hver, hent,
          htrap, hmeas, fun k hk => (hbyte _).trans (himem k hk), fun k hk => (hbyte _).trans (hdmem k hk), fun a ha => (hbyte _).trans (hother a ha),
          s.begin.loadSucceeded_pages _ _, hchk, fun h => htaken (htakes.2 h), fun h => hkept fun h' => h (htakes.1 h')⟩
end

section
/-!
PROOFS. HostLink.lean (O29): what the DMA channels, the job queues and MSI-X reach, and what the events of the link and of the function leave.
-/

namespace Sys2Proof.Machine
open Reg Fld

/-! What completion records reach (R207 to R214) -/

/-- A part of the state made of registers, channels, intakes and power that the writing of completion records does not reach. -/
structure State.RecordApart {α : Type} (π : State → α) : Prop where
  only : ∀ s t : State, t.regs = s.regs → t.dmas = s.dmas → t.intake = s.intake → t.power = s.power → π t = π s
  tail : ∀ (s : State) k v, k < 8 → π (s.setF (JQ_CQ_TAIL_CQ_TAIL k) v) = π s
  ctrl : ∀ (s : State) k v, k < 8 → π (s.setB (JQ_CTRL_DRAINED k) v) = π s
  stall : ∀ (s : State) k, k < 8 → π (s.ev (JQ_STAT_CQ_STALL k)) = π s
  pba : ∀ (s : State) i v, i < 2 → π (s.wr (MSIX_PBA i) v) = π s

namespace State.RecordApart
variable {α : Type} {π : State → α} (h : State.RecordApart π)
include h

theorem emit (s : State) (o : Out) : π (s.emit o) = π s := State.emit_keeps π (fun _ _ _ _ => h.only _ _ rfl rfl rfl rfl) s o

theorem hostWrite (s : State) (a : Nat) (bs : List Byte) (x : Attr) : π (s.hostWrite a bs x) = π s :=
  State.foldl_keeps π _ _ (fun s _ _ => h.emit s _) s

theorem hostRead (s : State) (a n : Nat) (x : Attr) : π (s.hostRead a n x) = π s :=
  State.foldl_keeps π _ _ (fun s _ _ => h.emit s _) s

theorem msix (s : State) (v : Nat) : π (s.msix v) = π s := by
  simp only [State.msix]
  split
  · rfl
  · split
    · exact h.pba _ _ _ (by omega)
    · exact h.emit _ _

theorem drain (s : State) (k : Nat) (hk : k < 8) : π (s.drain k) = π s := h.ctrl _ _ _ hk

theorem keepTail (s : State) (j : Job) : π (s.keepTail j) = π s :=
  State.when_keeps π _ _ (by exact fun _ => h.only _ _ rfl rfl rfl rfl) s

theorem modJob (s : State) (k slot : Nat) (g : Job → Job) : π (s.modJob k slot g) = π s := h.only s _ rfl rfl rfl rfl

theorem jobs (s : State) (l : List Job) : π { s with jobs := l } = π s := h.only s _ rfl rfl rfl rfl

theorem waitingCpl (s : State) (l : List (Nat × Nat × Nat)) : π { s with waitingCpl := l } = π s := h.only s _ rfl rfl rfl rfl

theorem freeSlot (s : State) (k slot : Nat) (hk : k < 8) : π (s.freeSlot k slot) = π s := by
  unfold State.freeSlot
  split
  · split
    · rw [h.drain _ _ hk, h.jobs, h.keepTail]
    · rfl
  · rfl

/-- One record goes out to its place in the ring. -/
theorem writeCpl (k n : Nat) (hk : k < 8) (s : State) : π (State.writeCpl k n s) = π s := by
  induction n generalizing s with
  | zero => rfl
  | succ n ih =>
    unfold State.writeCpl
    split
    · rfl
    · split
      · rfl
      · split
        · exact h.waitingCpl _ _
        · rw [ih, h.freeSlot _ _ _ hk, h.modJob, h.waitingCpl, h.msix, h.tail _ _ _ hk, h.hostWrite]

theorem cqStall (s : State) (k : Nat) (hk : k < 8) : π (s.cqStall k) = π s := by
  unfold State.cqStall
  split
  · rfl
  · refine State.forEach_keeps π _ _ (fun s slot _ => ?_) s
    split
    · exact State.when_keeps π _ (fun s => State.ev _ _) (fun s => (h.stall _ _ hk).trans (h.modJob _ _ _ _)) s
    · rfl

theorem writeWaiting (s : State) (k : Nat) (hk : k < 8) : π (s.writeWaiting k) = π s :=
  (h.cqStall _ _ hk).trans (h.writeCpl _ _ hk s)

theorem release (s : State) (k slot : Nat) (hk : k < 8) : π (s.release k slot) = π s :=
  (h.writeWaiting _ _ hk).trans (h.only _ _ rfl rfl rfl rfl)

theorem releaseDone (s : State) (k : Nat) (hk : k < 8) : π (s.releaseDone k) = π s :=
  State.foldl_keeps π _ _ (fun s _ _ => h.release s _ _ hk) s

theorem noteDone (s : State) (k slot : Nat) : π (s.noteDone k slot) = π s := by
  unfold State.noteDone
  split
  · rfl
  · split
    · rfl
    · exact h.only _ _ rfl rfl rfl rfl

theorem sendReplay (s : State) : π s.sendReplay = π s := by
  unfold State.sendReplay
  split
  · rfl
  · exact (State.foldl_keeps π _ _ (fun s _ _ => h.noteDone s _ _) _).trans
      ((State.foldl_keeps π _ _ (fun s _ _ => h.hostWrite s _ _ _) _).trans (h.only _ _ rfl rfl rfl rfl))

theorem msixFlush (s : State) : π s.msixFlush = π s := by
  unfold State.msixFlush
  split
  · rfl
  · refine State.forEach_keeps π _ _ (fun s v hv => ?_) s
    have hv := List.mem_range.1 hv
    split
    · exact (h.emit _ _).trans (h.pba _ _ _ (by omega))
    · rfl

end State.RecordApart

/-! What a DMA channel reaches (R253 to R288) -/

/-- What of a channel decides whether its chain has ended. -/
def Dma.core (m : Dma) : Bool × DmaStop × Bool × List Desc := (m.active, m.stop, m.fetching, m.descs)

/-- A running ring channel as its pacing leaves it (R270, R271). -/
def State.paced (s : State) (c lo hi : Nat) : Dma :=
  let m := s.dma c
  let fill := s.chFill c
  if s.chD2h c then
    let idle := if m.flush then decide (fill = 0) else decide (fill ≤ lo)
    { m with paused := if idle then true else if hi ≤ fill then false else m.paused, flush := m.flush && fill ≠ 0 }
  else { m with paused := if hi ≤ s.chReserved c then true else if fill ≤ lo then false else m.paused }

theorem State.paced_core (s : State) (c lo hi : Nat) : (s.paced c lo hi).core = (s.dma c).core := by
  unfold State.paced
  split <;> rfl

theorem State.paceChannel_eq (s : State) (c : Nat) : s.paceChannel c = if !((s.dma c).active && s.chRingEn c) then s.showChannel c
    else ((s.chMarks c).1.setDma c ((s.chMarks c).1.paced c (s.chMarks c).2.1 (s.chMarks c).2.2)).showChannel c := rfl

/-- The count before which everything of a channel's ring is written (R269). -/
def State.written (s : State) (c : Nat) : Nat :=
  match (s.dma c).descs.find? fun d => d.span.isSome && d.filled < d.len with
  | some d => (d.span.getD 0 + d.filled) % countMod
  | none => (s.dma c).tail % countMod

theorem State.showProd_eq (s : State) (c : Nat) : s.showProd c =
    if !s.fillsRing c then s
    else if s.written c = s.f (CH_PROD_COUNT c) then s
    else (s.setF (CH_PROD_COUNT c) (s.written c)).forEach ((List.range 32).filter fun n =>
      (s.setF (CH_PROD_COUNT c) (s.written c)).b (RAS_STREAM_ENABLE n) &&
        (s.setF (CH_PROD_COUNT c) (s.written c)).f (RAS_STREAM_CHANNEL n) = c) fun s n => s.rasConsume n := rfl

/-- A part of the state made of registers, channels and power that the channels of C do not reach, nor what another channel's watermarks,
pauses and spans are. -/
structure State.HostApart {α : Type} (C : Nat → Prop) (π : State → α) : Prop where
  only : ∀ s t : State, t.regs = s.regs → t.dmas = s.dmas → t.power = s.power → π t = π s
  wr : ∀ (s : State) a v, 0x41000 ≤ a → a < 0x60000 → π (s.wr a v) = π s
  raise : ∀ (s : State) src info, src ≠ 16 → π (s.raise src info) = π s
  dma : ∀ (s : State) c m, C c → π (s.setDma c m) = π s
  core : ∀ (s : State) c m, m.core = (s.dma c).core → π (s.setDma c m) = π s

namespace State.HostApart
variable {α : Type} {C : Nat → Prop} {π : State → α} (h : State.HostApart C π)
include h

theorem records : State.RecordApart π where
  only s t hr hd _ hp := h.only s t hr hd hp
  tail s k v hk := h.wr _ _ _ (by simp only [JQ_CQ_TAIL_CQ_TAIL, JQ_CQ_TAIL]; omega) (by simp only [JQ_CQ_TAIL_CQ_TAIL, JQ_CQ_TAIL]; omega)
  ctrl s k v hk := h.wr _ _ _ (by simp only [JQ_CTRL_DRAINED, JQ_CTRL]; omega) (by simp only [JQ_CTRL_DRAINED, JQ_CTRL]; omega)
  stall s k hk := h.wr _ _ _ (by simp only [JQ_STAT_CQ_STALL, JQ_STAT]; omega) (by simp only [JQ_STAT_CQ_STALL, JQ_STAT]; omega)
  pba s i v hi := h.wr _ _ _ (by simp only [MSIX_PBA]; omega) (by simp only [MSIX_PBA]; omega)

theorem hostWrite (s : State) (a : Nat) (bs : List Byte) (x : Attr) : π (s.hostWrite a bs x) = π s := h.records.hostWrite s a bs x

theorem writeMem (s : State) (a : Nat) (bs : List Byte) : π (s.writeMem a bs) = π s := h.only s _ rfl rfl rfl

/-- A register of a channel. -/
theorem ch (s : State) (c : Nat) (hc : c < 32) (a : Nat) (v : Word) (ha : 0x41000 + 0x40 * c ≤ a) (ha' : a < 0x41040 + 0x40 * c) :
    π (s.wr a v) = π s := h.wr _ _ _ (by omega) (by omega)

/-! To the DDR and the memory windows -/

theorem memc (s : State) (m : Nat) (hm : m < 2) (a : Nat) (v : Word) (ha : 0x50000 + 0x100 * m ≤ a) (ha' : a < 0x50100 + 0x100 * m) :
    π (s.wr a v) = π s := h.wr _ _ _ (by omega) (by omega)

theorem eccError (s : State) (u b : Bool) (a : Nat) : π (s.eccError u b a) = π s := by
  have hm := s.ddrChan_lt a
  rw [State.eccError_eq, h.raise _ _ _ (by split <;> decide), State.eccNoted, State.incSat, State.setF,
    h.memc _ _ hm _ _ (by cases u <;> simp [eccCount, MEMC_ECC_CNT_UE, MEMC_ECC_CNT_CE, MEMC_ECC_CNT])
      (by cases u <;> simp [eccCount, MEMC_ECC_CNT_UE, MEMC_ECC_CNT_CE, MEMC_ECC_CNT]), State.wr64, State.wn, State.wn,
    h.memc _ _ hm _ _ (by simp only [MEMC_ECC_ADDR_LO]; omega) (by simp only [MEMC_ECC_ADDR_LO]; omega),
    h.memc _ _ hm _ _ (by simp [MEMC_ECC_ADDR_LO]) (by simp [MEMC_ECC_ADDR_LO]),
    h.memc _ _ hm _ _ (by simp [MEMC_ECC_STAT]) (by simp [MEMC_ECC_STAT])]

theorem eccCorrect (s : State) (u : Bool) (b : Nat) : π (s.eccCorrect u b) = π s := by
  rw [State.eccCorrect, h.eccError]
  exact h.only s _ rfl rfl rfl

theorem eccRead (s : State) (a n : Nat) : π (s.eccRead a n) = π s := by
  unfold State.eccRead
  simp only []
  rw [State.forEach_keeps π _ _ fun s _ _ => h.eccError s _ _ _, State.forEach_keeps π _ _ fun s _ _ => h.eccCorrect s _ _]

theorem ddrWrite (s : State) (a : Nat) (bs : List Byte) : π (s.ddrWrite a bs) = π s := by
  unfold State.ddrWrite
  rw [h.writeMem, h.eccRead]
  exact h.only s _ rfl rfl rfl

theorem ringWrite (s : State) (c count : Nat) (bs : List Byte) : π (s.ringWrite c count bs) = π s :=
  (h.ddrWrite _ _ _).trans (h.ddrWrite _ _ _)

theorem winStore (s : State) (o : Nat) (bs : List Byte) : π (s.winStore o bs) = π s := by
  unfold State.winStore
  simp only []
  split
  · exact (h.writeMem _ _ _).trans (h.writeMem _ _ _)
  · exact h.writeMem _ _ _

theorem nozzleWrites (s : State) (o : Nat) (bs : List Byte) : π (s.nozzleWrites o bs) = π s := by
  induction s, o, bs using State.nozzleWrites.induct with
  | case1 s o b0 b1 b2 b3 b4 b5 b6 b7 rest ih =>
    rw [State.nozzleWrites, ih]
    exact (State.writeNozzle_keeps π (fun s _ _ _ => h.only s _ rfl rfl rfl) (fun s _ => h.only s _ rfl rfl rfl)
      (fun s _ => h.only s _ rfl rfl rfl) s _ _).trans (h.writeMem _ _ _)
  | case2 s o bs hbs => rw [State.nozzleWrites.eq_2 _ _ _ hbs]

theorem deviceWrite (s : State) (a : Nat) (bs : List Byte) : π (s.deviceWrite a bs) = π s := by
  unfold State.deviceWrite
  split
  · exact h.ddrWrite _ _ _
  · simp only []
    split
    · exact (h.winStore _ _ _).trans (h.nozzleWrites _ _ _)
    · exact h.winStore _ _ _

/-! To what a channel shows -/

theorem showChannel (s : State) (c : Nat) (hc : c < 32) : π (s.showChannel c) = π s := by
  unfold State.showChannel State.setF
  rw [h.ch _ c hc _ _ (by simp [CH_INFLIGHT_RB_KIB, CH_INFLIGHT]) (by simp [CH_INFLIGHT_RB_KIB, CH_INFLIGHT]),
    h.ch _ c hc _ _ (by simp [CH_INFLIGHT_DESC, CH_INFLIGHT]) (by simp [CH_INFLIGHT_DESC, CH_INFLIGHT]),
    h.ch _ c hc _ _ (by simp [CH_STAT_STATE, CH_STAT]) (by simp [CH_STAT_STATE, CH_STAT])]

theorem pair (s : State) (ok : Bool) (off : Nat) : π (s.pair ok off) = π s := by
  unfold State.pair
  split
  · rfl
  · exact h.raise _ _ _ (by decide)

theorem modCore (s : State) (c : Nat) (g : Dma → Dma) (hg : ∀ m, (g m).core = m.core) : π (s.modDma c g) = π s := h.core _ _ _ (hg _)

theorem chMarks (s : State) (c : Nat) : π (s.chMarks c).1 = π s := by
  unfold State.chMarks
  simp only []
  rw [h.modCore _ _ _ (by exact fun _ => rfl), h.pair]

theorem paceChannel (s : State) (c : Nat) (hc : c < 32) : π (s.paceChannel c) = π s := by
  rw [State.paceChannel_eq]
  split
  · exact h.showChannel s c hc
  · rw [h.showChannel _ c hc, h.core _ _ _ (State.paced_core _ _ _ _), h.chMarks]

theorem setStrm (s : State) (n : Nat) (x : Stream) : π (s.setStrm n x) = π s := h.only s _ rfl rfl rfl

theorem rasConsume (s : State) (n : Nat) : π (s.rasConsume n) = π s := by
  have hc : s.f (RAS_STREAM_CHANNEL n) < 32 := bits_lt _ 20 16
  unfold State.rasConsume State.setF
  simp only []
  split
  · rw [h.paceChannel _ _ hc, h.modCore _ _ _ (by exact fun _ => rfl), h.setStrm,
      h.ch s _ hc _ _ (by simp [CH_CONS_COUNT, CH_CONS]) (by simp [CH_CONS_COUNT, CH_CONS])]
  · rfl

theorem showProd (s : State) (c : Nat) (hc : c < 32) : π (s.showProd c) = π s := by
  rw [State.showProd_eq]
  split
  · rfl
  · split
    · rfl
    · exact (State.forEach_keeps π _ _ (fun s n _ => h.rasConsume s n) _).trans
        (h.ch s c hc _ _ (by simp [CH_PROD_COUNT, CH_PROD]) (by simp [CH_PROD_COUNT, CH_PROD]))

theorem showCons (s : State) (c : Nat) (hc : c < 32) : π (s.showCons c) = π s := by
  unfold State.showCons State.setF
  split
  · rfl
  · exact h.ch s c hc _ _ (by simp [CH_CONS_COUNT, CH_CONS]) (by simp [CH_CONS_COUNT, CH_CONS])

end State.HostApart

/-- A channel without its descriptor `i`, which ends. -/
def State.dmaWithout (s : State) (c i : Nat) (d : Desc) : Dma :=
  let m := s.dma c
  { m with descs := m.descs.eraseIdx i
           spans := match d.span with
             | some start => if d.err = 0 || !s.fillsRing c || m.spans.contains (start, d.len) then m.spans else m.spans ++ [(start, d.len)]
             | none => m.spans }

/-- What the end of a BAD descriptor shows (R280). -/
def State.badShown (s : State) (c : Nat) (d : Desc) : State :=
  ((s.incSat (CH_ERRCNT_BAD c) 1).wr64 (CH_LASTBAD_LO c) d.addr).ev (CH_STAT_BAD_SEEN c)

/-- A STATUS that cannot be sent or is refused is counted (R282). -/
def State.statusLost (s : State) (c : Nat) : State := ((s.incSat (CH_ERRCNT_WB c) 1).ev (CH_STAT_WB_ERROR c)).raise 28 c

/-- What the end of a descriptor reaches beyond the channel's list: the counts, the faults, STATUS and the event. -/
def State.descReported (s : State) (c : Nat) (d : Desc) (refused : Bool) : State :=
  let word := 1 + 2 * b2n (d.err ≠ 0) + 4 * d.err + 256 * (d.moved - d.carry.length)
  let s := s.when (d.err ≠ 0) (·.badShown c d)
  let s := s.when (d.err = 1 || d.err = 2 || d.err = 3 || d.err = 8) (·.raise 18 c)
  let sent := s.canSend
  let s := s.when sent (·.hostWrite (d.addr + 0x1C) (leBytes 4 word))
  let s := s.when (!sent || refused) (·.statusLost c)
  let s := s.wn (CH_DONECNT c) (s.rn (CH_DONECNT c) + 1)
  s.when d.irq (·.msix (s.f (CH_CFG_VECTOR c)))

theorem State.endDesc_eq (s : State) (c i : Nat) (d : Desc) (refused : Bool) :
    s.endDesc c i d refused = (s.setDma c (s.dmaWithout c i d)).descReported c d refused := rfl

/-- A channel whose chain is at an end (R283, R285). -/
def Dma.finished (m : Dma) : Dma :=
  { m with active := false, paused := false, waitDesc := false, flush := false, failed := m.stop = .fetchError || m.stop = .reset }

/-- How the end of a chain is reported (R261, R279). -/
def State.chainReported (s : State) (c : Nat) : DmaStop → State
  | .last => s.ev (CH_STAT_CHAIN_DONE c)
  | .fetchError => (s.ev (CH_STAT_FETCH_ERROR c)).raise 19 c
  | _ => s

theorem State.endChain_eq (s : State) (c : Nat) : s.endChain c =
    if (s.dma c).active && (s.dma c).stop ≠ .none && !(s.dma c).fetching && (s.dma c).descs.isEmpty then
      (s.setDma c (s.dma c).finished).chainReported c (s.dma c).stop
    else s := rfl

/-- A channel as a reset or link loss leaves it before its descriptors end (R285). -/
def State.dmaReset (s : State) (c : Nat) : Dma :=
  let m := s.dma c
  { m with stop := .reset, waitDesc := false, fetching := false
           tail := if s.chRingEn c && s.chD2h c then s.f (CH_CONS_COUNT c) else m.tail
           descs := m.descs.map fun d => { d with reqs := [], err := if d.err = 0 || d.err = 6 then 7 else d.err } }

theorem State.endChannel_eq (s : State) (c : Nat) : s.endChannel c =
    if !(s.dma c).active then s else ((s.setDma c (s.dmaReset c)).ev (CH_STAT_RESET_ENDED c)).settle c := rfl

namespace State.HostApart
variable {α : Type} {C : Nat → Prop} {π : State → α} (h : State.HostApart C π)
include h

/-! To the channel itself -/

section
variable (s : State) (c : Nat) (hC : C c)
include hC

theorem modDma (g : Dma → Dma) : π (s.modDma c g) = π s := h.dma _ _ _ hC

theorem modDesc (i : Nat) (g : Desc → Desc) : π (s.modDesc c i g) = π s := h.modDma s c hC _

theorem beginDesc (i : Nat) (d : Desc) : π (s.beginDesc c i d) = π s := by
  unfold State.beginDesc
  simp only []
  split
  · split
    · rw [h.raise _ _ _ (by decide), h.modDesc _ _ hC]
    · exact h.modDesc _ _ hC _ _
  · exact h.modDesc _ _ hC _ _

theorem landBytes (i : Nat) (d : Desc) (bs : List Byte) : π (s.landBytes c i d bs) = π s := by
  unfold State.landBytes
  simp only []
  split
  · rw [h.modDesc _ _ hC, h.ringWrite]
  · split
    · rw [h.modDesc _ _ hC, h.raise _ _ _ (by decide)]
    · rw [h.modDesc _ _ hC, h.deviceWrite]

theorem passData (i n : Nat) : π (State.passData c i n s) = π s := by
  induction n generalizing s with
  | zero => rfl
  | succ n ih =>
    unfold State.passData
    split
    · rfl
    · simp only []
      split
      · rfl
      · split
        · rfl
        · rw [ih, h.modDesc _ _ hC]
        · split
          · rw [ih, h.modDesc _ _ hC]
          · split
            · split
              · rfl
              · rw [ih, h.modDesc _ _ hC, h.modDesc _ _ hC, h.hostWrite]
            · rw [ih, h.modDesc _ _ hC, h.landBytes _ _ hC]

theorem passAll : π (s.passAll c) = π s := State.forEach_keeps π _ _ (fun s _ _ => h.passData s c hC _ _) s

theorem fillSpan (i : Nat) (d : Desc) : π (s.fillSpan c i d) = π s := by
  unfold State.fillSpan
  simp only []
  split
  · rfl
  · rw [h.modDesc _ _ hC, h.modDma _ _ hC, h.ringWrite]

theorem runTurns (n : Nat) : π (State.runTurns c n s) = π s := by
  induction n generalizing s with
  | zero => rfl
  | succ n ih =>
    unfold State.runTurns
    split
    · rfl
    · simp only []
      split
      · split
        · rfl
        · rw [ih, h.beginDesc _ _ hC]
      · split
        · exact h.fillSpan _ _ hC _ _
        · rw [ih, h.fillSpan _ _ hC]

end

section
variable (s : State) (c : Nat) (hc : c < 32)
include hc

theorem ev (x : Field) (hx : x.addr = CH_STAT c) : π (s.ev x) = π s :=
  h.ch s c hc _ _ (by simp [hx, CH_STAT]) (by simp [hx, CH_STAT])

theorem badShown (d : Desc) : π (s.badShown c d) = π s := by
  rw [State.badShown, h.ev _ c hc _ rfl, State.wr64, State.wn, State.wn,
    h.ch _ c hc _ _ (by simp only [CH_LASTBAD_LO]; omega) (by simp only [CH_LASTBAD_LO]; omega),
    h.ch _ c hc _ _ (by simp [CH_LASTBAD_LO]) (by simp [CH_LASTBAD_LO]), State.incSat, State.setF,
    h.ch _ c hc _ _ (by simp [CH_ERRCNT_BAD, CH_ERRCNT]) (by simp [CH_ERRCNT_BAD, CH_ERRCNT])]

theorem statusLost : π (s.statusLost c) = π s := by
  rw [State.statusLost, h.raise _ _ _ (by decide), h.ev _ c hc _ rfl, State.incSat, State.setF,
    h.ch _ c hc _ _ (by simp [CH_ERRCNT_WB, CH_ERRCNT]) (by simp [CH_ERRCNT_WB, CH_ERRCNT])]

theorem descReported (d : Desc) (refused : Bool) : π (s.descReported c d refused) = π s := by
  unfold State.descReported
  simp only []
  rw [State.when_keeps π _ _ fun s => h.records.msix s _, State.wn,
    h.ch _ c hc _ _ (by simp [CH_DONECNT]) (by simp [CH_DONECNT]), State.when_keeps π _ _ fun s => h.statusLost s c hc,
    State.when_keeps π _ _ fun s => h.hostWrite s _ _ _, State.when_keeps π _ _ fun s => h.raise s _ _ (by decide),
    State.when_keeps π _ _ fun s => h.badShown s c hc d]

theorem chainReported (stop : DmaStop) : π (s.chainReported c stop) = π s := by
  unfold State.chainReported
  split
  · exact h.ev s c hc _ rfl
  · rw [h.raise _ _ _ (by decide), h.ev s c hc _ rfl]
  · rfl

variable (hC : C c)
include hC

theorem endDesc (i : Nat) (d : Desc) (refused : Bool) : π (s.endDesc c i d refused) = π s := by
  rw [State.endDesc_eq, h.descReported _ c hc, h.dma _ _ _ hC]

theorem endAll (n : Nat) : π (State.endAll c n s) = π s := by
  induction n generalizing s with
  | zero => rfl
  | succ n ih =>
    unfold State.endAll
    split
    · rw [ih, h.endDesc _ c hc hC]
    · rfl

theorem endChain : π (s.endChain c) = π s := by
  rw [State.endChain_eq]
  split
  · rw [h.chainReported _ c hc, h.dma _ _ _ hC]
  · rfl

theorem settle : π (s.settle c) = π s := by
  unfold State.settle
  simp only []
  rw [h.paceChannel _ c hc, h.endChain _ c hc hC, State.when_keeps π _ _ fun s => h.endAll s c hc hC _, h.showCons _ c hc,
    h.showProd _ c hc, h.runTurns _ c hC, h.passAll _ c hC]

theorem endChannel : π (s.endChannel c) = π s := by
  rw [State.endChannel_eq]
  split
  · rfl
  · rw [h.settle _ c hc hC, h.ev _ c hc _ rfl, h.dma _ _ _ hC]

end

/-! To the requests that wait for the link, where no channel is out of reach -/

theorem served (s : State) (p : Nat) : π (s.served p) = π s := h.only s _ rfl rfl rfl

theorem abandonIntakes (hi : ∀ (s : State) k v, π (s.setIntake k v) = π s) (s : State) : π s.abandonIntakes = π s :=
  State.forEach_keeps π _ _ (fun s k hk => (h.records.drain _ _ (List.mem_range.1 hk)).trans (hi s k _)) s

theorem endChannels (hC : ∀ c, C c) (s : State) : π (s.forEach (List.range 32) fun s c => s.endChannel c) = π s :=
  State.forEach_keeps π _ _ (fun s c hc => h.endChannel s c (List.mem_range.1 hc) (hC c)) s

section
variable (hC : ∀ c, C c) (hi : ∀ (s : State) k v, π (s.setIntake k v) = π s)
include hC hi

theorem arbitrate (n : Nat) (s : State) : π (State.arbitrate n s) = π s := by
  induction n generalizing s with
  | zero => rfl
  | succ n ih =>
    unfold State.arbitrate
    simp only []
    split
    · next c hf =>
      have hc : c < 32 := by
        have := List.find?_some hf
        simp at this
        exact this.1
      rw [ih, h.showChannel _ c hc, h.served, h.records.hostRead, h.modDma _ _ (hC c)]
    · split
      · split
        · split
          · rw [ih, h.served, h.records.hostRead, hi]
          · rfl
        · rfl
      · rfl

theorem hostBack (s : State) : π s.hostBack = π s := by
  unfold State.hostBack
  simp only []
  have hs : π (s.forEach (List.range 32) fun s c => s.settle c) = π s :=
    State.forEach_keeps π _ _ (fun s c hc => h.settle s c (List.mem_range.1 hc) (hC c)) s
  split
  · exact hs
  · rw [h.arbitrate hC hi, h.records.msixFlush,
      State.forEach_keeps π _ _ fun s k hk => h.records.writeWaiting s k (List.mem_range.1 hk), h.records.sendReplay, hs]

end

end State.HostApart

/-! The parts and registers that the host's link leaves to others -/

theorem State.raise_dmas (s : State) (src info : Nat) : (s.raise src info).dmas = s.dmas :=
  State.raise_keeps State.dmas s src info <|
    State.Apart.raiseWith_keeps (W := fun _ => True) (by constructor <;> intros <;> rfl) .all s false src info (fun _ _ _ => rfl) fun _ _ => trivial

/-- A register of the link is neither a channel's nor the collector's. -/
theorem State.hostApart_rd (b : Nat) (hb : b < 0x41000) (hr : raiseReach b = false) : State.HostApart (fun _ => True) fun s => s.rd b where
  only _ _ hregs _ _ := State.rd_congr hregs b
  wr _ _ _ h1 _ := State.rd_wr_ne _ _ _ _ (by omega)
  raise s src info _ := s.raise_rd src info b hr
  dma _ _ _ _ := rfl
  core _ _ _ _ := rfl

/-- A source keeps its own register while others are raised. -/
theorem State.raise_otherSource (s : State) (src k info : Nat) (hs : src < 128) (h : k ≠ src) :
    (s.raise k info).rd (FLT_SRC src) = s.rd (FLT_SRC src) := by
  refine State.raise_keeps (·.rd (FLT_SRC src)) s k info ?_
  by_cases hd : sourceDefined k = true
  case neg => simp [State.raiseWith, hd]
  have hk := sourceDefined_lt k hd
  refine (State.apart_rd (FLT_SRC src)).raiseWith_keeps (srcWrites _ (by simp only [FLT_SRC]; omega)) s false k info (fun _ _ _ => rfl)
    fun b hb => ?_
  simp only [FLT_SRC, FLT_LATCH_SUM, FLT_INFO, FLT_CNT] at hb ⊢
  omega

theorem State.hostApart_linkSource : State.HostApart (fun _ => True) fun s => s.rd (FLT_SRC 16) where
  only _ _ hregs _ _ := State.rd_congr hregs _
  wr _ _ _ h1 _ := State.rd_wr_ne _ _ _ _ (by simp only [FLT_SRC]; omega)
  raise s src info h := s.raise_otherSource 16 src info (by decide) h
  dma _ _ _ _ := rfl
  core _ _ _ _ := rfl

theorem State.hostApart_power : State.HostApart (fun _ => True) State.power where
  only _ _ _ _ hp := hp
  wr _ _ _ _ _ := rfl
  raise s src info _ := s.raise_power src info
  dma _ _ _ _ := rfl
  core _ _ _ _ := rfl

/-- Whether a channel's chain has ended is its own. -/
theorem State.hostApart_core (C : Nat → Prop) (j : Nat) (hC : ∀ c, C c → c ≠ j) : State.HostApart C fun s => (s.dma j).core where
  only s t _ hd _ := by rw [State.dma, State.dma, hd]
  wr _ _ _ _ _ := rfl
  raise s src info _ := by rw [State.dma, State.raise_dmas, State.dma]
  dma s c m hc := by rw [State.setDma_dma, if_neg (hC c hc)]
  core s c m hm := by
    rw [State.setDma_dma]
    split
    · next h => rw [hm, h]
    · rfl

/-! Channels that a reset or link loss ends (R75, R239, R281, R285) -/

/-- A channel that a reset has ended fetches nothing more, and every descriptor it still holds is BAD. -/
def Dma.ending (m : Dma) : Prop := m.stop = .reset ∧ m.fetching = false ∧ ∀ d ∈ m.descs, d.err ≠ 0

/-- A channel that still runs holds a BAD descriptor, whose span waits for room. -/
def Dma.ended (m : Dma) : Prop := m.active = true → ∃ d, d ∈ m.descs ∧ d.err ≠ 0

theorem Dma.ending_congr {m n : Dma} (h : n.core = m.core) (hm : m.ending) : n.ending := by
  simp only [Dma.core, Prod.mk.injEq] at h
  obtain ⟨-, hstop, hfetching, hdescs⟩ := h
  exact ⟨hstop.trans hm.1, hfetching.trans hm.2.1, hdescs ▸ hm.2.2⟩

theorem Dma.ended_eq {m n : Dma} (h : n.core = m.core) : n.ended = m.ended := by
  simp only [Dma.core, Prod.mk.injEq] at h
  obtain ⟨hactive, -, -, hdescs⟩ := h
  rw [Dma.ended, hactive, hdescs, Dma.ended]

theorem Dma.ended_congr {m n : Dma} (h : n.core = m.core) (hm : m.ended) : n.ended := Dma.ended_eq h ▸ hm

theorem turnOf_mem (ring : Bool) (i : Nat) (ds : List Desc) {j : Nat} {d : Desc} (h : turnOf ring i ds = some (j, d)) : d ∈ ds := by
  induction ds generalizing i with
  | nil => simp [turnOf] at h
  | cons e ds ih =>
    unfold turnOf at h
    split at h
    · simp at h
    · split at h
      · simp at h
        simp [h]
      · split at h
        · simp at h
        · exact List.mem_cons_of_mem _ (ih _ h)

section
variable (s : State) (c : Nat)

theorem State.passAll_idle (h : ∀ d ∈ (s.dma c).descs, d.reqs = []) : s.passAll c = s := by
  refine State.forEach_unchanged _ _ s fun i hi => ?_
  cases hd : (s.dma c).descs[i]? with
  | none => rfl
  | some d =>
    simp only [Option.map_some, Option.getD_some, h d (List.mem_of_getElem? hd), List.length_nil]
    rfl

theorem Dma.ending_modify {m : Dma} (hm : m.ending) (i : Nat) (g : Desc → Desc) (hg : ∀ d, (g d).err = d.err) :
    Dma.ending { m with descs := m.descs.modify i g } := by
  obtain ⟨hstop, hfetching, hbad⟩ := hm
  refine ⟨hstop, hfetching, fun d hd => ?_⟩
  obtain ⟨n, hn, rfl⟩ := List.mem_iff_getElem.1 hd
  simp only [List.getElem_modify]
  split
  · rw [hg]
    exact hbad _ (List.getElem_mem _)
  · exact hbad _ (List.getElem_mem _)

theorem State.fillSpan_ending (i : Nat) (d : Desc) (h : (s.dma c).ending) : ((s.fillSpan c i d).dma c).ending := by
  have hring : ∀ (u : State) n bs, ((u.ringWrite c n bs).dma c).core = (u.dma c).core :=
    fun u n bs => (State.hostApart_core (fun _ => False) c (by simp)).ringWrite u c n bs
  unfold State.fillSpan
  simp only []
  split
  · exact h
  · rw [State.modDesc, State.modDma, State.setDma_dma_same, State.modDma, State.setDma_dma_same]
    refine Dma.ending_modify ?_ _ _ fun _ => rfl
    exact Dma.ending_congr (hring _ _ _) h

theorem State.runTurns_ending (n : Nat) (h : (s.dma c).ending) : ((State.runTurns c n s).dma c).ending := by
  induction n generalizing s with
  | zero => exact h
  | succ n ih =>
    unfold State.runTurns
    split
    · exact h
    · next i d ht =>
      rw [if_neg (h.2.2 d (turnOf_mem _ _ _ ht))]
      simp only []
      split
      · exact s.fillSpan_ending c i d h
      · exact ih _ (s.fillSpan_ending c i d h)

end

/-- What reports of a channel's end leave to it. -/
theorem State.hostApart_own (c : Nat) : State.HostApart (fun _ => False) fun s => (s.dma c).core := State.hostApart_core _ c (by simp)

section
variable (s : State) (c : Nat) (hc : c < 32)
include hc

theorem State.endDesc_ending (i : Nat) (d : Desc) (h : (s.dma c).ending) : ((s.endDesc c i d).dma c).ending := by
  rw [State.endDesc_eq]
  refine Dma.ending_congr ((State.hostApart_own c).descReported _ c hc d false) ?_
  rw [State.setDma_dma_same]
  obtain ⟨hstop, hfetching, hbad⟩ := h
  exact ⟨hstop, hfetching, fun e he => hbad e (List.mem_of_mem_eraseIdx he)⟩

theorem State.endAll_ending (n : Nat) (h : (s.dma c).ending) : ((State.endAll c n s).dma c).ending := by
  induction n generalizing s with
  | zero => exact h
  | succ n ih =>
    unfold State.endAll
    split
    · exact ih _ (s.endDesc_ending c hc _ _ h)
    · exact h

theorem State.endChain_ended (h : (s.dma c).ending) : ((s.endChain c).dma c).ended := by
  obtain ⟨hstop, hfetching, hbad⟩ := h
  rw [State.endChain_eq]
  split
  · refine Dma.ended_congr ((State.hostApart_own c).chainReported _ c hc _) ?_
    rw [State.setDma_dma_same]
    intro ha
    simp [Dma.finished] at ha
  · next hend =>
    intro ha
    cases hd : (s.dma c).descs with
    | nil => simp [ha, hstop, hfetching, hd] at hend
    | cons d ds => exact ⟨d, List.mem_cons_self, hbad d (hd ▸ List.mem_cons_self)⟩

theorem State.settle_ended (hreqs : ∀ d ∈ (s.dma c).descs, d.reqs = []) (h : (s.dma c).ending) : ((s.settle c).dma c).ended := by
  unfold State.settle
  simp only [s.passAll_idle c hreqs]
  have hrun := s.runTurns_ending c 16 h
  have hshown : (((State.runTurns c 16 s).showProd c |>.showCons c).dma c).ending :=
    Dma.ending_congr (((State.hostApart_own c).showCons _ c hc).trans ((State.hostApart_own c).showProd _ c hc)) hrun
  refine Dma.ended_congr ((State.hostApart_own c).paceChannel _ c hc) (State.endChain_ended _ c hc ?_)
  rw [State.when]
  split
  · exact State.endAll_ending _ c hc 8 hshown
  · exact hshown

/-- A reset ends a channel, but for BAD descriptors whose spans wait for room. -/
theorem State.endChannel_ended : ((s.endChannel c).dma c).ended := by
  rw [State.endChannel_eq]
  split
  · next ha =>
    intro hb
    simp [hb] at ha
  · refine State.settle_ended _ c hc (fun d hd => ?_) ?_ <;> rw [State.ev, State.wr_dma, State.setDma_dma_same] at *
    · obtain ⟨e, -, rfl⟩ := List.mem_map.1 hd
      rfl
    · refine ⟨rfl, rfl, fun d hd => ?_⟩
      obtain ⟨e, -, rfl⟩ := List.mem_map.1 hd
      simp only
      split
      · decide
      · next h => exact fun h0 => h (by simp [h0])

end

/-- Every channel as a reset or link loss leaves it. -/
def State.channelsEnded (s : State) : State := s.forEach (List.range 32) fun s c => s.endChannel c

theorem State.channelsEnded_ended (s : State) (c : Nat) (hc : c < 32) : (s.channelsEnded.dma c).ended :=
  State.forEach_each (fun s c => (s.dma c).ended) (fun _ y => y) _ List.nodup_range _
    (fun s c hc => s.endChannel_ended c (List.mem_range.1 hc))
    (fun s c hc j _ hj => Dma.ended_eq ((State.hostApart_core (· ≠ j) j fun _ h => h).endChannel s c (List.mem_range.1 hc) (Ne.symm hj)))
    s c (List.mem_range.2 hc)

/-- With no chain running there is none to end. -/
theorem State.channelsEnded_idle (s : State) (h : ∀ c < 32, (s.dma c).active = false) : s.channelsEnded = s :=
  State.forEach_unchanged _ _ s fun c hc => by rw [State.endChannel_eq, if_pos (by simp [h c (List.mem_range.1 hc)])]

/-! Intakes that are abandoned (R748) -/

theorem State.setIntake_intakeOf (s : State) (k j : Nat) (v : Intake) : (s.setIntake k v).intakeOf j = if k = j then v else s.intakeOf j :=
  Map.get_set _ _ _ _ _

theorem State.wr_intakeOf (s : State) (a : Nat) (v : Word) (j : Nat) : (s.wr a v).intakeOf j = s.intakeOf j := rfl

theorem State.abandonIntake_intakeOf (s : State) (k j : Nat) : (s.abandonIntake k).intakeOf j = if k = j then .idle else s.intakeOf j := by
  rw [State.abandonIntake, State.drain, State.setB, State.setF, State.wr_intakeOf, State.setIntake_intakeOf]

theorem State.abandonIntakes_idle (s : State) (k : Nat) (hk : k < 8) : s.abandonIntakes.intakeOf k = .idle :=
  State.forEach_each State.intakeOf (fun _ y => y = .idle) _ List.nodup_range State.abandonIntake
    (fun s k _ => by rw [State.abandonIntake_intakeOf, if_pos rfl])
    (fun s k _ j _ hj => by rw [State.abandonIntake_intakeOf, if_neg (Ne.symm hj)]) s k (List.mem_range.2 hk)

theorem State.abandonIntakes_keeps {α : Type} (π : State → α) (hw : ∀ (s : State) a v, π (s.wr a v) = π s)
    (hi : ∀ (s : State) k v, π (s.setIntake k v) = π s) (s : State) : π s.abandonIntakes = π s :=
  State.forEach_keeps π _ _ (fun s k _ => (hw _ _ _).trans (hi s k _)) s

/-! The registers of the function (R75) -/

theorem State.functionRegs_keeps {α : Type} (π : State → α) (hw : ∀ (s : State) a v, 0x40100 ≤ a → a < 0x60000 → π (s.wr a v) = π s)
    (hd : ∀ (s : State) c m, m.core = (s.dma c).core → π (s.setDma c m) = π s) (s : State) : π s.functionRegs = π s := by
  have hch : ∀ (s : State) c a v, c < 32 → 0x41000 + 0x40 * c ≤ a → a < 0x41040 + 0x40 * c → π (s.wr a v) = π s :=
    fun s c a v hc h1 h2 => hw s a v (by omega) (by omega)
  unfold State.functionRegs
  simp only []
  rw [State.wn, hw _ _ _ (by simp [MSIX_PBA]) (by simp [MSIX_PBA]), State.wn, hw _ _ _ (by simp [MSIX_PBA]) (by simp [MSIX_PBA]),
    State.forEach_keeps π _ _ fun s i hi => ?_, State.forEach_keeps π _ _ fun s p hp => ?_, State.forEach_keeps π _ _ fun s c hc => ?_,
    State.forEach_keeps π _ _ fun s c hc => ?_, State.forEach_keeps π _ _ fun s c _ => ?_]
  · exact State.when_keeps π _ _ (by exact fun s => hd _ _ _ rfl) s
  · have hc := List.mem_range.1 hc
    refine State.foldl_keeps π _ _ (fun s a ha => hch s c a _ hc ?_ ?_) s <;>
    · simp only [List.mem_cons, List.not_mem_nil, or_false, CH_CFG, CH_CTRL, CH_HEAD_LO, CH_HEAD_HI, CH_RING_LO, CH_RING_HI, CH_WM] at ha
      omega
  · have hc := List.mem_range.1 hc
    unfold State.showChannel State.setF
    rw [hch _ c _ _ hc (by simp [CH_INFLIGHT_RB_KIB, CH_INFLIGHT]) (by simp [CH_INFLIGHT_RB_KIB, CH_INFLIGHT]),
      hch _ c _ _ hc (by simp [CH_INFLIGHT_DESC, CH_INFLIGHT]) (by simp [CH_INFLIGHT_DESC, CH_INFLIGHT]),
      hch _ c _ _ hc (by simp [CH_STAT_STATE, CH_STAT]) (by simp [CH_STAT_STATE, CH_STAT])]
    exact hd _ _ _ rfl
  · have hp := List.mem_range.1 hp
    exact hw _ _ _ (by simp [BAR2_PAGE]) (by simp only [BAR2_PAGE]; omega)
  · have hi := List.mem_range.1 hi
    exact hw _ _ _ (by simp only [MSIX_TABLE]; omega) (by simp only [MSIX_TABLE]; omega)

/-! A reset of the function (R75) -/

/-- The channels ended and the intakes abandoned, as a reset or link loss leaves them. -/
def State.hostEnded (s : State) : State := s.channelsEnded.abandonIntakes

/-- With another PCI Express state. -/
def State.withPcie (s : State) (p : Pcie) : State := { s with pcie := p }

theorem State.withPcie_rd (s : State) (p : Pcie) (b : Nat) : (s.withPcie p).rd b = s.rd b := rfl
theorem State.withPcie_power (s : State) (p : Pcie) : (s.withPcie p).power = s.power := rfl
theorem State.setB_power (s : State) (x : Field) (v : Bool) : (s.setB x v).power = s.power := rfl
theorem State.withPcie_dma (s : State) (p : Pcie) (c : Nat) : (s.withPcie p).dma c = s.dma c := rfl
theorem State.withPcie_intakeOf (s : State) (p : Pcie) (k : Nat) : (s.withPcie p).intakeOf k = s.intakeOf k := rfl
theorem State.wr_dmaCore (s : State) (x : Field) (v : Bool) (c : Nat) : ((s.setB x v).dma c).core = (s.dma c).core := rfl
theorem State.setB_intakeOf (s : State) (x : Field) (v : Bool) (k : Nat) : (s.setB x v).intakeOf k = s.intakeOf k := rfl

/-- A reset of the function that leaves it a PCI Express state. -/
def State.functionGone (s : State) (p : Pcie) : State :=
  (((s.hostEnded.setB PCIE_LINK_STAT_BME false).setB PCIE_LINK_STAT_D3HOT false).withPcie p).functionRegs

theorem State.functionReset_eq (s : State) : ∃ p : Pcie, p.msixEnable = false ∧ s.functionReset = (s.ev PCIE_ERR_STAT_FLR).functionGone p :=
  ⟨_, rfl, rfl⟩

/-- PERST_N low. -/
def State.perstLowered (s : State) : State := { s with power := { s.power with perstLow := true } }

theorem State.fundamental_eq (s : State) : s.fundamental =
    if s.perstLowered.inReset then s.perstLowered else (s.perstLowered.linkZero.ev PCIE_ERR_STAT_PERST).functionGone {} := rfl

theorem State.hostEnded_rd (s : State) (b : Nat) (hb : b < 0x41000) (hr : raiseReach b = false) : s.hostEnded.rd b = s.rd b :=
  ((State.hostApart_rd b hb hr).abandonIntakes (fun _ _ _ => rfl) _).trans ((State.hostApart_rd b hb hr).endChannels (fun _ => trivial) s)

theorem State.hostEnded_linkSource (s : State) : s.hostEnded.rd (FLT_SRC 16) = s.rd (FLT_SRC 16) :=
  (State.hostApart_linkSource.abandonIntakes (fun _ _ _ => rfl) _).trans (State.hostApart_linkSource.endChannels (fun _ => trivial) s)

section
variable (s : State) (p : Pcie)

theorem State.functionGone_rd (b : Nat) (hb : b < 0x40100) : (s.functionGone p).rd b =
    ((s.hostEnded.setB PCIE_LINK_STAT_BME false).setB PCIE_LINK_STAT_D3HOT false).rd b := by
  rw [State.functionGone, State.functionRegs_keeps (fun s => s.rd b) (fun s a v h1 _ => State.rd_wr_ne _ _ _ _ (by omega))
    (fun _ _ _ _ => rfl), State.withPcie_rd]

theorem State.functionGone_errStat : (s.functionGone p).rd PCIE_ERR_STAT = s.rd PCIE_ERR_STAT := by
  rw [s.functionGone_rd p _ (by decide), State.setB, State.setB, State.rd_setF_other _ _ _ _ (by decide), State.rd_setF_other _ _ _ _ (by decide),
    s.hostEnded_rd _ (by decide) (by decide)]

theorem State.functionGone_linkStat (x : Field) (hx : x.addr = PCIE_LINK_STAT) : (s.functionGone p).b x =
    ((s.hostEnded.setB PCIE_LINK_STAT_BME false).setB PCIE_LINK_STAT_D3HOT false).b x :=
  State.b_congr x (by rw [hx]; exact s.functionGone_rd p _ (by decide))

theorem State.functionGone_linkUp : (s.functionGone p).b PCIE_LINK_STAT_LINK_UP = s.b PCIE_LINK_STAT_LINK_UP := by
  rw [s.functionGone_linkStat p _ rfl, State.b_setB_apart _ _ _ _ (by decide) (by decide) (by decide),
    State.b_setB_apart _ _ _ _ (by decide) (by decide) (by decide)]
  exact State.b_congr _ (s.hostEnded_rd _ (by decide) (by decide))

theorem State.functionGone_d3hot : (s.functionGone p).b PCIE_LINK_STAT_D3HOT = false := by
  rw [s.functionGone_linkStat p _ rfl, State.b_setB_same _ _ _ rfl (by decide)]

theorem State.functionGone_bme : (s.functionGone p).b PCIE_LINK_STAT_BME = false := by
  rw [s.functionGone_linkStat p _ rfl, State.b_setB_apart _ _ _ _ (by decide) (by decide) (by decide),
    State.b_setB_same _ _ _ rfl (by decide)]

theorem State.functionGone_pcie : (s.functionGone p).pcie = p :=
  State.functionRegs_keeps State.pcie (fun _ _ _ _ _ => rfl) (fun _ _ _ _ => rfl) _

theorem State.functionGone_power : (s.functionGone p).power = s.power := by
  have hended : s.hostEnded.power = s.power := (State.hostApart_power.abandonIntakes (fun _ _ _ => rfl) _).trans
    (State.hostApart_power.endChannels (fun _ => trivial) s)
  rw [State.functionGone, State.functionRegs_keeps State.power (fun _ _ _ _ _ => rfl) (fun _ _ _ _ => rfl), State.withPcie_power,
    State.setB_power, State.setB_power, hended]

theorem State.functionGone_intakeOf (q : Nat) (hq : q < 8) : (s.functionGone p).intakeOf q = .idle := by
  rw [State.functionGone, State.functionRegs_keeps (fun s => s.intakeOf q) (fun _ _ _ _ _ => rfl) (fun _ _ _ _ => rfl),
    State.withPcie_intakeOf, State.setB_intakeOf, State.setB_intakeOf]
  exact s.channelsEnded.abandonIntakes_idle q hq

theorem State.functionGone_ended (c : Nat) (hc : c < 32) : ((s.functionGone p).dma c).ended := by
  have hregs : ((s.functionGone p).dma c).core = (s.hostEnded.dma c).core := by
    rw [State.functionGone, State.functionRegs_keeps (fun s => (s.dma c).core) (fun _ _ _ _ _ => rfl) (State.hostApart_own c).core,
      State.withPcie_dma, State.wr_dmaCore, State.wr_dmaCore]
  have hintakes : (s.hostEnded.dma c).core = (s.channelsEnded.dma c).core := (State.hostApart_own c).abandonIntakes (fun _ _ _ => rfl) _
  exact Dma.ended_congr (hregs.trans hintakes) (s.channelsEnded_ended c hc)

/-- Printing goes on where no chain runs. -/
theorem State.functionGone_keeps {α : Type} (π : State → α) (hw : ∀ (s : State) a v, π (s.wr a v) = π s)
    (hd : ∀ (s : State) c m, π (s.setDma c m) = π s) (hi : ∀ (s : State) k v, π (s.setIntake k v) = π s)
    (hp : ∀ (s : State) p, π (s.withPcie p) = π s) (h : ∀ c < 32, (s.dma c).active = false) : π (s.functionGone p) = π s := by
  rw [State.functionGone, State.functionRegs_keeps π (fun s a v _ _ => hw s a v) (fun s c m _ => hd s c m), hp, State.setB, State.setF, hw,
    State.setB, State.setF, hw, State.hostEnded, State.abandonIntakes_keeps π hw hi, s.channelsEnded_idle h]

end

/-- What a reset of the function leaves: the function may send nothing, no chain runs but for BAD spans, no intake. -/
def State.noFunction (t : State) : Prop := t.b PCIE_LINK_STAT_BME = false ∧ t.b PCIE_LINK_STAT_D3HOT = false ∧ t.pcie.msixEnable = false ∧
  (∀ c < 32, (t.dma c).active = true → ∃ d, d ∈ (t.dma c).descs ∧ d.err ≠ 0) ∧ ∀ q < 8, t.intakeOf q = .idle

theorem State.functionGone_noFunction (s : State) (p : Pcie) (hp : p.msixEnable = false) : (s.functionGone p).noFunction :=
  ⟨s.functionGone_bme p, s.functionGone_d3hot p, (congrArg Pcie.msixEnable (s.functionGone_pcie p)).trans hp,
    s.functionGone_ended p, s.functionGone_intakeOf p⟩

/-- The items, lanes, domains and queues of issue, which print. -/
def State.printing (s t : State) : Prop := t.items = s.items ∧ t.lanes = s.lanes ∧ t.domains = s.domains ∧ t.issueQ = s.issueQ

theorem State.functionGone_printing (s : State) (p : Pcie) (h : ∀ c < 32, (s.dma c).active = false) : s.printing (s.functionGone p) :=
  ⟨s.functionGone_keeps p State.items (fun _ _ _ => rfl) (fun _ _ _ => rfl) (fun _ _ _ => rfl) (fun _ _ => rfl) h,
    s.functionGone_keeps p State.lanes (fun _ _ _ => rfl) (fun _ _ _ => rfl) (fun _ _ _ => rfl) (fun _ _ => rfl) h,
    s.functionGone_keeps p State.domains (fun _ _ _ => rfl) (fun _ _ _ => rfl) (fun _ _ _ => rfl) (fun _ _ => rfl) h,
    s.functionGone_keeps p State.issueQ (fun _ _ _ => rfl) (fun _ _ _ => rfl) (fun _ _ _ => rfl) (fun _ _ => rfl) h⟩

/-! The link enters and leaves L0 (R238, R239) -/

section
variable (s : State) (speed width : Nat)

/-- What the link's registers show of L0. -/
def State.linkShown : State :=
  (((s.setF PCIE_LINK_STAT_SPEED (s.linkRate speed)).setF PCIE_LINK_STAT_WIDTH (linkWidth width)).setB PCIE_LINK_STAT_LINK_UP true).setB
    PCIE_LINK_STAT_L1 false

theorem State.linkEnters_eq : s.linkEnters speed width = if s.power.perstLow || s.inReset then s
    else if (s.linkShown speed width).b DBG_STAT_FROZEN then
      (s.linkShown speed width).withPcie { (s.linkShown speed width).pcie with backDue := true }
    else (s.linkShown speed width).hostBack := by
  unfold State.linkEnters
  split <;> rfl

theorem State.hostBack_linkStat (x : Field) (hx : x.addr = PCIE_LINK_STAT) : s.hostBack.f x = s.f x :=
  State.f_congr x (by
    rw [hx]
    exact (State.hostApart_rd PCIE_LINK_STAT (by decide) (by decide)).hostBack (fun _ => trivial) (fun _ _ _ => rfl) s)

theorem State.linkEnters_shows (h : s.power.perstLow = false) (hr : s.inReset = false) (x : Field) (hx : x.addr = PCIE_LINK_STAT) :
    (s.linkEnters speed width).f x = (s.linkShown speed width).f x := by
  rw [State.linkEnters_eq, if_neg (by simp [h, hr])]
  split
  · exact State.f_congr x (State.withPcie_rd _ _ _)
  · exact State.hostBack_linkStat _ x hx

theorem State.linkRate_lt : s.linkRate speed < 16 := by
  unfold State.linkRate
  split <;> omega

theorem linkWidth_lt : linkWidth width < 16 := by
  unfold linkWidth
  split
  · decide
  · split
    · decide
    · split <;> decide

theorem State.linkShown_speed : (s.linkShown speed width).f PCIE_LINK_STAT_SPEED = s.linkRate speed := by
  rw [State.linkShown, State.setB, State.setB, State.f_setF_apart _ _ _ _ (by decide) (by decide) (by decide),
    State.f_setF_apart _ _ _ _ (by decide) (by decide) (by decide), State.f_setF_apart _ _ _ _ (by decide) (by decide) (by decide),
    State.f_setF_same _ _ _ (by decide) (by decide)]
  exact Nat.mod_eq_of_lt (s.linkRate_lt speed)

theorem State.linkShown_width : (s.linkShown speed width).f PCIE_LINK_STAT_WIDTH = linkWidth width := by
  rw [State.linkShown, State.setB, State.setB, State.f_setF_apart _ _ _ _ (by decide) (by decide) (by decide),
    State.f_setF_apart _ _ _ _ (by decide) (by decide) (by decide), State.f_setF_same _ _ _ (by decide) (by decide)]
  exact Nat.mod_eq_of_lt (linkWidth_lt width)

theorem State.linkShown_up : (s.linkShown speed width).b PCIE_LINK_STAT_LINK_UP = true := by
  rw [State.linkShown, State.b_setB_apart _ _ _ _ (by decide) (by decide) (by decide), State.b_setB_same _ _ _ rfl (by decide)]

theorem State.linkShown_l1 : (s.linkShown speed width).b PCIE_LINK_STAT_L1 = false := State.b_setB_same _ _ _ rfl (by decide)

theorem State.linkZero_shows : s.linkZero.b PCIE_LINK_STAT_LINK_UP = false ∧ s.linkZero.f PCIE_LINK_STAT_SPEED = 0 ∧
    s.linkZero.f PCIE_LINK_STAT_WIDTH = 0 := by
  unfold State.linkZero State.setB
  refine ⟨?_, ?_, ?_⟩
  · rw [State.b, State.f_setF_apart _ _ _ _ (by decide) (by decide) (by decide), State.f_setF_same _ _ _ (by decide) (by decide)]
    rfl
  · rw [State.f_setF_apart _ _ _ _ (by decide) (by decide) (by decide), State.f_setF_apart _ _ _ _ (by decide) (by decide) (by decide),
      State.f_setF_apart _ _ _ _ (by decide) (by decide) (by decide), State.f_setF_same _ _ _ (by decide) (by decide)]
    rfl
  · rw [State.f_setF_apart _ _ _ _ (by decide) (by decide) (by decide), State.f_setF_apart _ _ _ _ (by decide) (by decide) (by decide),
      State.f_setF_same _ _ _ (by decide) (by decide)]
    rfl

theorem State.linkZero_rd (b : Nat) (hb : PCIE_LINK_STAT ≠ b) : s.linkZero.rd b = s.rd b := by
  unfold State.linkZero State.setB
  rw [State.rd_setF_other _ _ _ _ hb, State.rd_setF_other _ _ _ _ hb, State.rd_setF_other _ _ _ _ hb, State.rd_setF_other _ _ _ _ hb]

theorem State.linkZero_power : s.linkZero.power = s.power := by
  simp only [State.linkZero, State.setB_power, State.setF, State.wr_power]

theorem State.linkZero_mem : s.linkZero.mem = s.mem := by
  simp only [State.linkZero, State.setB, State.setF, State.wr_mem]

theorem State.linkZero_b (x : Field) (hx : PCIE_LINK_STAT ≠ x.addr) : s.linkZero.b x = s.b x := State.b_congr x (s.linkZero_rd _ hx)

/-- The loss of the link, latched. -/
def State.linkLatched : State := (s.ev PCIE_ERR_STAT_LINK_DOWN).raise 16 0

theorem State.linkGone_eq : s.linkGone = s.linkLatched.hostEnded := rfl

theorem State.linkLatched_linkStat : s.linkLatched.rd PCIE_LINK_STAT = s.rd PCIE_LINK_STAT := by
  rw [State.linkLatched, State.raise_rd _ _ _ _ (by decide), State.ev, State.rd_wr_ne _ _ _ _ (by decide)]

theorem State.linkGone_linkStat : s.linkGone.rd PCIE_LINK_STAT = s.rd PCIE_LINK_STAT := by
  rw [State.linkGone_eq, State.hostEnded_rd _ _ (by decide) (by decide), State.linkLatched_linkStat]

theorem State.linkGone_down : s.linkGone.b PCIE_ERR_STAT_LINK_DOWN = true := by
  rw [State.linkGone_eq, State.b_congr _ (State.hostEnded_rd _ _ (by decide) (by decide)), State.linkLatched,
    State.b_congr _ (State.raise_rd _ _ _ _ (by decide)), State.ev_b _ _ rfl (by decide)]

theorem State.linkGone_latched (hf : s.b DBG_STAT_FROZEN = false) : s.linkGone.b (FLT_SRC_LATCHED 16) = true := by
  rw [State.linkGone_eq, State.b_congr (FLT_SRC_LATCHED 16) (State.hostEnded_linkSource _)]
  refine State.raise_latched _ 16 0 (by decide) ?_
  rw [State.ev, State.b_congr (s := s) _ (State.rd_wr_ne _ _ _ _ (by decide)), hf]

theorem State.linkLost_frozen (hup : s.b PCIE_LINK_STAT_LINK_UP = true) (hf : s.b DBG_STAT_FROZEN = true) :
    s.linkLost = s.linkZero.withPcie { s.pcie with lostDue := true } := by
  rw [State.linkLost, if_neg (by simp [hup]), if_pos hf]
  rfl

theorem State.linkLost_gone (hup : s.b PCIE_LINK_STAT_LINK_UP = true) (hf : s.b DBG_STAT_FROZEN = false) :
    s.linkLost = s.linkZero.linkGone := by
  rw [State.linkLost, if_neg (by simp [hup]), if_neg (by simp [hf])]

theorem State.linkLost_shows (hup : s.b PCIE_LINK_STAT_LINK_UP = true) (x : Field) (hx : x.addr = PCIE_LINK_STAT) :
    s.linkLost.f x = s.linkZero.f x := by
  refine State.f_congr x ?_
  rw [hx]
  cases hf : s.b DBG_STAT_FROZEN with
  | true => rw [s.linkLost_frozen hup hf, State.withPcie_rd]
  | false => rw [s.linkLost_gone hup hf, State.linkGone_linkStat]

theorem State.linkZero_regsBut : s.regsBut s.linkZero [PCIE_LINK_STAT] := ⟨s.linkZero_mem, fun a ha => s.linkZero_rd a fun h => ha (by simp [h])⟩

theorem State.linkGone_intakeOf (q : Nat) (hq : q < 8) : s.linkGone.intakeOf q = .idle := by
  rw [State.linkGone_eq, State.hostEnded]
  exact State.abandonIntakes_idle _ q hq

end

/-! What always goes out -/

/-- An output that no phase of the boot and no role of the twin holds still. -/
def Out.goes (o : Out) : Bool := !o.still && !o.boots && !o.fires

theorem State.emit_goes (s : State) (o : Out) (h : o.goes = true) : (s.emit o).out = o :: s.out := by
  simp only [Out.goes, Bool.and_eq_true, Bool.not_eq_true'] at h
  obtain ⟨⟨hs, hb⟩, hf⟩ := h
  rw [State.emit, State.emitHeld, if_neg (by simp [hs, hb, hf])]

theorem State.emit_mem (s : State) (o : Out) : (s.emit o).mem = s.mem := State.emit_keeps State.mem (fun _ _ _ _ => rfl) s o
theorem State.emit_regs (s : State) (o : Out) : (s.emit o).regs = s.regs := State.emit_keeps State.regs (fun _ _ _ _ => rfl) s o
theorem State.emit_power (s : State) (o : Out) : (s.emit o).power = s.power := State.emit_keeps State.power (fun _ _ _ _ => rfl) s o
theorem State.emit_pcie (s : State) (o : Out) : (s.emit o).pcie = s.pcie := State.emit_keeps State.pcie (fun _ _ _ _ => rfl) s o

/-! The pin of the fundamental reset (R75, R92) -/

section
variable (s : State)

theorem State.fundamental_inReset (h : s.inReset = true) : s.fundamental = s.perstLowered := by
  rw [State.fundamental_eq, if_pos (by exact h)]

theorem State.fundamental_gone (h : s.inReset = false) :
    s.fundamental = (s.perstLowered.linkZero.ev PCIE_ERR_STAT_PERST).functionGone {} := by
  rw [State.fundamental_eq, if_neg (by exact fun hr => Bool.false_ne_true (h.symm.trans hr))]

theorem State.fundamental_perstLow : s.fundamental.power.perstLow = true := by
  cases h : s.inReset with
  | true => rw [s.fundamental_inReset h]; rfl
  | false =>
    rw [s.fundamental_gone h, State.functionGone_power, State.ev, State.wr_power, State.linkZero_power]
    rfl

theorem State.fundamental_shows (h : s.inReset = false) : s.fundamental.b PCIE_ERR_STAT_PERST = true ∧
    s.fundamental.b PCIE_LINK_STAT_LINK_UP = false := by
  rw [s.fundamental_gone h, State.functionGone_linkUp, State.b_congr PCIE_ERR_STAT_PERST (State.functionGone_errStat _ _),
    State.ev_b _ _ rfl (by decide)]
  refine ⟨rfl, ?_⟩
  rw [State.ev, State.b_congr (s := s.perstLowered.linkZero) _ (State.rd_wr_ne _ _ _ _ (by decide))]
  exact s.perstLowered.linkZero_shows.1

/-- PERST_N high. -/
def State.perstRaised : State := { s with power := { s.power with perstLow := false } }

/-- The first release since reset ended is noted. -/
def State.perstNoted : State := { s with power := { s.power with perstAt := s.power.perstAt.orElse fun _ => some s.tb } }

theorem State.perstRelease_eq : s.perstRelease = if s.perstRaised.inReset then s.perstRaised else s.perstRaised.perstNoted.emit (.link false) := rfl

theorem State.perstRelease_inReset (h : s.inReset = true) : s.perstRelease = s.perstRaised := by
  rw [State.perstRelease_eq, if_pos (by exact h)]

theorem State.perstRelease_trains (h : s.inReset = false) : s.perstRelease = s.perstRaised.perstNoted.emit (.link false) := by
  rw [State.perstRelease_eq, if_neg (by exact fun hr => Bool.false_ne_true (h.symm.trans hr))]

theorem State.perstRelease_keeps : s.perstRelease.mem = s.mem ∧ s.perstRelease.regs = s.regs ∧ s.perstRelease.power.perstLow = false := by
  cases h : s.inReset with
  | true => rw [s.perstRelease_inReset h]; exact ⟨rfl, rfl, rfl⟩
  | false => rw [s.perstRelease_trains h, State.emit_mem, State.emit_regs, State.emit_power]; exact ⟨rfl, rfl, rfl⟩

theorem State.perstRelease_shows (h : s.inReset = false) : s.perstRelease.power.perstAt = some (s.power.perstAt.getD s.tb) ∧
    s.perstRelease.out = .link false :: s.out := by
  rw [s.perstRelease_trains h, State.emit_goes _ _ rfl, State.emit_power]
  refine ⟨?_, rfl⟩
  show (s.power.perstAt.orElse fun _ => some s.tb) = _
  cases s.power.perstAt <;> rfl

end

/-! A function level reset, and a request that is not supported (R75, R237) -/

section
variable (s : State)

theorem State.hostAsks_of (g : State → State) (h : s.inReset = false) : s.hostAsks g = g s.begin := by
  rw [State.hostAsks, if_neg (by simp [h])]

/-- The request for it is answered, and the reset shown. -/
def State.flrShown : State := ({ s with out := .completion 0 [] :: s.out } : State).ev PCIE_ERR_STAT_FLR

theorem State.flrRequest_gone (hf : s.b DBG_STAT_FROZEN = false) (hc : s.b SYS_BOOT_STAT_CFG_READY = true) :
    ∃ p : Pcie, p.msixEnable = false ∧ s.flrRequest = s.flrShown.functionGone p := by
  obtain ⟨p, hp, heq⟩ := State.functionReset_eq { s with out := .completion 0 [] :: s.out }
  refine ⟨p, hp, ?_⟩
  rw [State.flrRequest, State.cfgAsked, if_neg (by simp [hf, hc]), State.emit_completion, heq]
  rfl

theorem State.flrRequest_retried (h : s.b DBG_STAT_FROZEN = true ∨ s.b SYS_BOOT_STAT_CFG_READY = false) :
    s.flrRequest = { s with out := .completion 2 [] :: s.out } := by
  rw [State.flrRequest, State.cfgAsked, if_pos (by rcases h with h | h <;> simp [h]), State.emit_completion]

theorem State.flrShown_linkUp : s.flrShown.b PCIE_LINK_STAT_LINK_UP = s.b PCIE_LINK_STAT_LINK_UP :=
  State.b_congr _ (State.rd_wr_ne _ _ _ _ (by decide))

/-- AER's status after an error of severity `sev`. -/
def State.aerNoted (b sev : Nat) : State :=
  s.withPcie ((s.pcie.setAer 0x104 (s.pcie.aerAt 0x104 ||| 2 ^ b)).setAer 0x78 (s.pcie.aerAt 0x78 ||| 2 ^ (16 + sev)))

theorem State.aerError_eq (b : Nat) : ∃ sev on, s.aerError b = (s.aerNoted b sev).when on (·.emit (.pcieError sev)) := ⟨_, _, rfl⟩

theorem State.aerError_keeps {α : Type} (π : State → α) (hout : ∀ (s : State) o w t, π { s with out := o, wire := w, lineTx := t } = π s)
    (hp : ∀ (s : State) p, π (s.withPcie p) = π s) (b : Nat) : π (s.aerError b) = π s := by
  obtain ⟨sev, on, h⟩ := s.aerError_eq b
  rw [h, State.when_keeps π _ _ fun s => State.emit_keeps π hout s _]
  exact hp s _

theorem Pcie.setAer_same (p : Pcie) (off v : Nat) (hv : v < 2 ^ 32) : (p.setAer off v).aerAt off = v := by
  rw [Pcie.aerAt, Pcie.setAer, Map.get_set_same, BitVec.toNat_ofNat, Nat.mod_eq_of_lt hv]

theorem Pcie.setAer_other (p : Pcie) (off v k : Nat) (h : off ≠ k) : (p.setAer off v).aerAt k = p.aerAt k := by
  rw [Pcie.aerAt, Pcie.setAer, Map.get_set, if_neg h, Pcie.aerAt]

theorem State.aerNoted_shown (b sev : Nat) (hb : b < 32) : bitAt ((s.aerNoted b sev).pcie.aerAt 0x104) b = true := by
  have h : s.pcie.aerAt 0x104 < 2 ^ 32 := BitVec.isLt _
  show bitAt (((s.pcie.setAer 0x104 (s.pcie.aerAt 0x104 ||| 2 ^ b)).setAer 0x78 _).aerAt 0x104) b = true
  rw [Pcie.setAer_other _ _ _ _ (by decide), Pcie.setAer_same _ _ _ (Nat.or_lt_two_pow h (Nat.pow_lt_pow_right (by decide) hb)), bitAt_eq,
    Nat.testBit_or, Nat.testBit_two_pow_self, Bool.or_true]

theorem State.aerError_shows (b : Nat) (hb : b < 32) : bitAt ((s.aerError b).pcie.aerAt 0x104) b = true ∧
    ((s.aerError b).out = s.out ∨ ∃ sev, (s.aerError b).out = .pcieError sev :: s.out) := by
  obtain ⟨sev, on, h⟩ := s.aerError_eq b
  rw [h]
  cases on with
  | false => exact ⟨s.aerNoted_shown b sev hb, .inl rfl⟩
  | true =>
    rw [State.when_true, State.emit_pcie, State.emit_goes _ _ rfl]
    exact ⟨s.aerNoted_shown b sev hb, .inr ⟨sev, rfl⟩⟩

end

/-! Errors of the link (R242) -/

section
variable (s : State) (bit : Nat)

/-- An event of PCIE_ERR_STAT. -/
def State.errNoted : State := s.wr PCIE_ERR_STAT (sqEvent (s.rd PCIE_ERR_STAT) [bit])

/-- What AER notes of it. -/
def State.aerEvent : State :=
  match aerBit bit with
  | some b => s.aerError b
  | none => s

theorem State.pcieEvent_eq : s.pcieEvent bit = ((s.errNoted bit).aerEvent bit).when (bit = 2 || bit = 3 || bit = 5) (·.raise 17 0) := rfl

theorem State.aerEvent_keeps {α : Type} (π : State → α) (hout : ∀ (s : State) o w t, π { s with out := o, wire := w, lineTx := t } = π s)
    (hp : ∀ (s : State) p, π (s.withPcie p) = π s) : π (s.aerEvent bit) = π s := by
  unfold State.aerEvent
  split
  · exact s.aerError_keeps π hout hp _
  · rfl

theorem State.aerEvent_rd (a : Nat) : (s.aerEvent bit).rd a = s.rd a :=
  s.aerEvent_keeps bit (fun s => s.rd a) (fun _ _ _ _ => rfl) (fun _ _ => rfl)

theorem State.pcieEvent_keeps {α : Type} (π : State → α) (hw : ∀ (s : State) v, π (s.wr PCIE_ERR_STAT v) = π s)
    (hout : ∀ (s : State) o w t, π { s with out := o, wire := w, lineTx := t } = π s) (hp : ∀ (s : State) p, π (s.withPcie p) = π s)
    (hr : ∀ (s : State) src info, π (s.raise src info) = π s) : π (s.pcieEvent bit) = π s := by
  rw [State.pcieEvent_eq, State.when_keeps π _ _ (fun s => hr s _ _), State.aerEvent_keeps _ _ π hout hp]
  exact hw s _

theorem State.pcieEvent_errStat : (s.pcieEvent bit).rd PCIE_ERR_STAT = sqEvent (s.rd PCIE_ERR_STAT) [bit] := by
  rw [State.pcieEvent_eq, State.when_keeps (fun s => s.rd PCIE_ERR_STAT) _ _ (fun s => s.raise_rd _ _ _ (by decide)), State.aerEvent_rd]
  exact State.rd_wr_same _ _ _

/-- Besides the event the bits of PCIE_ERR_STAT stay. -/
theorem State.pcieEvent_b (x : Field) (hx : x.addr = PCIE_ERR_STAT) (h1 : x.lo = x.hi) (h24 : x.lo < 24) (hb : bit < 24) :
    (s.pcieEvent bit).b x = (decide (x.lo = bit) || s.b x) := by
  rw [State.b, State.b, State.f, State.f, hx, State.pcieEvent_errStat, ← h1, bits_one, bits_one,
    testBit_sqEvent _ _ (by simpa using hb) _ h24]
  simp only [List.mem_singleton]

theorem State.pcieEvent_latched (hf : s.b DBG_STAT_FROZEN = false) (h : (bit = 2 || bit = 3 || bit = 5) = true) :
    (s.pcieEvent bit).b (FLT_SRC_LATCHED 17) = true := by
  rw [State.pcieEvent_eq, h, State.when_true]
  refine State.raise_latched _ 17 0 (by decide) ?_
  rw [State.b_congr _ (State.aerEvent_rd _ _ _), State.errNoted, State.b_congr (s := s) _ (State.rd_wr_ne _ _ _ _ (by decide)), hf]

/-- An event that raises no source changes PCIE_ERR_STAT alone. -/
theorem State.pcieEvent_quiet (h : (bit = 2 || bit = 3 || bit = 5) = false) : s.pcieEvent bit = (s.errNoted bit).aerEvent bit := by
  rw [State.pcieEvent_eq, h]
  rfl

theorem State.pcieEvent_rd (h : (bit = 2 || bit = 3 || bit = 5) = false) (a : Nat) (ha : PCIE_ERR_STAT ≠ a) :
    (s.pcieEvent bit).rd a = s.rd a := by
  rw [s.pcieEvent_quiet bit h, State.aerEvent_rd, State.errNoted, State.rd_wr_ne _ _ _ _ ha]

theorem State.pcieEvent_mem : (s.pcieEvent bit).mem = s.mem :=
  s.pcieEvent_keeps bit State.mem (fun s v => s.wr_mem _ v) (fun _ _ _ _ => rfl) (fun _ _ => rfl) State.raise_mem

end

/-- The event of PCIE_ERR_STAT that a kind of error is. -/
def rxEvent (kind : Fin 4) : Nat := if kind.val = 0 then 2 else if kind.val = 1 then 3 else if kind.val = 2 then 5 else 4

theorem exec_pcieErrorRx (s : State) (kind : Fin 4) (h : s.asleep = false) :
    exec (.pcieErrorRx kind) s = .next (s.begin.pcieEvent (rxEvent kind)) := congrArg Host.Outcome.next (s.awake_of _ h)

theorem rxEvent_lt : ∀ kind : Fin 4, rxEvent kind < 24 := by decide

theorem rxEvent_raises : ∀ kind : Fin 4, kind ≠ 3 → (rxEvent kind = 2 || rxEvent kind = 3 || rxEvent kind = 5) = true := by decide

theorem rxEvent_bits : ∀ kind : Fin 4, decide (4 = rxEvent kind) = decide (kind = 3) ∧ decide (2 = rxEvent kind) = decide (kind = 0) ∧
    decide (3 = rxEvent kind) = decide (kind = 1) ∧ decide (5 = rxEvent kind) = decide (kind = 2) := by decide

/-! A completion timeout of an intake's descriptor (R202, R280) -/

section
variable (s : State) (k : Nat)

theorem State.requestTimeout_disabled (what : Nat) (h : bitAt (s.pcie.cfgAt 0x98) 4 = true) : s.requestTimeout what = s := by
  rw [State.requestTimeout, if_pos h]

theorem State.requestTimeout_readDesc (hk : k < 8) (h : bitAt (s.pcie.cfgAt 0x98) 4 = false) (hi : s.intakeOf k = .readDesc) :
    s.requestTimeout (32 + k) = (s.pcieEvent 1).refuseUnread k := by
  rw [State.requestTimeout, if_neg (by simp [h]), if_neg (by omega), if_pos (by omega)]
  simp only [Nat.add_sub_cancel_left, hi]

/-- A refused job in its slot, its refusal shown and raised (R200, R202). -/
def State.refusalShown (j : Job) (d : List Byte) : State :=
  (((s.enterJob k j d).ev (JQ_STAT_REFUSED k)).setF (JQ_STAT_LAST_REFUSE k) j.refuse).raise 24 k

theorem State.refuse_eq (j : Job) (d : List Byte) : s.refuse k j d = ((s.refusalShown k j d).noteDone k j.slot).releaseDone k := rfl

theorem State.engEvent_rd (ev e a : Nat) : (s.engEvent ev e).rd a = s.rd a := rfl

theorem State.enterJob_rd (j : Job) (d : List Byte) (a : Nat) (h1 : JQ_CTRL k ≠ a) (h2 : JQ_HEAD k ≠ a) : (s.enterJob k j d).rd a = s.rd a := by
  unfold State.enterJob State.drain
  simp only []
  rw [State.setB, State.rd_setF_other _ _ _ _ h1, State.engEvent_rd, State.rd_setF_other _ _ _ _ h2]
  rfl

theorem State.engEvent_intakeOf (ev e q : Nat) : (s.engEvent ev e).intakeOf q = s.intakeOf q := rfl
theorem State.setF_intakeOf (x : Field) (v q : Nat) : (s.setF x v).intakeOf q = s.intakeOf q := rfl

theorem State.enterJob_intakeOf (j : Job) (d : List Byte) : (s.enterJob k j d).intakeOf k = .idle := by
  unfold State.enterJob State.drain
  simp only []
  rw [State.setB_intakeOf, State.engEvent_intakeOf, State.setF_intakeOf, State.setIntake_intakeOf, if_pos rfl]

theorem State.raise_intake (src info : Nat) : (s.raise src info).intake = s.intake :=
  State.raise_keeps State.intake s src info <|
    State.Apart.raiseWith_keeps (W := fun _ => True) (by constructor <;> intros <;> rfl) .all s false src info (fun _ _ _ => rfl) fun _ _ => trivial

theorem State.raise_intakeOf (src info q : Nat) : (s.raise src info).intakeOf q = s.intakeOf q := by
  rw [State.intakeOf, State.raise_intake, State.intakeOf]

end

theorem State.recordApart_intakeOf (q : Nat) : State.RecordApart fun s => s.intakeOf q where
  only s t _ _ hi _ := by rw [State.intakeOf, State.intakeOf, hi]
  tail s _ _ _ := s.setF_intakeOf _ _ _
  ctrl s _ _ _ := s.setB_intakeOf _ _ _
  stall s _ _ := s.wr_intakeOf _ _ _
  pba s _ _ _ := s.wr_intakeOf _ _ _

theorem State.recordApart_rd (b : Nat) (hb : b < 0x48000) : State.RecordApart fun s => s.rd b where
  only s t hr _ _ _ := State.rd_congr hr b
  tail s k v _ := State.rd_setF_other _ _ _ _ (by simp only [JQ_CQ_TAIL_CQ_TAIL, JQ_CQ_TAIL]; omega)
  ctrl s k v _ := State.rd_setF_other _ _ _ _ (by simp only [JQ_CTRL_DRAINED, JQ_CTRL]; omega)
  stall s k _ := State.rd_wr_ne _ _ _ _ (by simp only [JQ_STAT_CQ_STALL, JQ_STAT]; omega)
  pba s i v _ := State.rd_wr_ne _ _ _ _ (by simp only [MSIX_PBA]; omega)

/-- A queue's last refusal stays while records go out. -/
theorem State.recordApart_lastRefuse (q : Nat) : State.RecordApart fun s => s.f (JQ_STAT_LAST_REFUSE q) where
  only s t hr _ _ _ := State.f_congr _ (State.rd_congr hr _)
  tail s k v _ := State.f_setF_other _ _ _ _ (by simp only [JQ_CQ_TAIL_CQ_TAIL, JQ_CQ_TAIL, JQ_STAT_LAST_REFUSE, JQ_STAT]; omega)
  ctrl s k v _ := State.f_setF_other _ _ _ _ (by simp only [JQ_CTRL_DRAINED, JQ_CTRL, JQ_STAT_LAST_REFUSE, JQ_STAT]; omega)
  stall s k _ := State.f_ev_apart _ _ _ (by simp [JQ_STAT_LAST_REFUSE]) (by simp [JQ_STAT_CQ_STALL, JQ_STAT_LAST_REFUSE])
  pba s i v hi := State.f_congr _ (State.rd_wr_ne _ _ _ _ (by simp only [MSIX_PBA, JQ_STAT_LAST_REFUSE, JQ_STAT]; omega))

theorem raiseReach_queue (b : Nat) (h : 0x48000 ≤ b ∧ b < 0x4C000) : raiseReach b = false := by
  simp only [raiseReach, Bool.or_eq_false_iff, Bool.and_eq_false_iff, decide_eq_false_iff_not]
  omega

section
variable (s : State) (k : Nat) (hk : k < 8)
include hk

theorem raiseReach_jqStat : raiseReach (JQ_STAT k) = false := raiseReach_queue _ (by simp only [JQ_STAT]; omega)

/-- What a refusal leaves to be read once its record has gone out. -/
theorem State.refuse_keeps {α : Type} {π : State → α} (h : State.RecordApart π) (j : Job) (d : List Byte) :
    π (s.refuse k j d) = π (s.refusalShown k j d) := by
  rw [State.refuse_eq, h.releaseDone _ k hk, h.noteDone]

theorem State.refuse_intakeOf (j : Job) (d : List Byte) : (s.refuse k j d).intakeOf k = .idle := by
  rw [s.refuse_keeps k hk (State.recordApart_intakeOf k), State.refusalShown, State.raise_intakeOf, State.setF_intakeOf, State.ev,
    State.wr_intakeOf, State.enterJob_intakeOf]

theorem State.refuse_rd (j : Job) (d : List Byte) (b : Nat) (hb : b < 0x48000) (hr : raiseReach b = false) : (s.refuse k j d).rd b = s.rd b := by
  rw [s.refuse_keeps k hk (State.recordApart_rd b hb), State.refusalShown, State.raise_rd _ _ _ _ hr,
    State.rd_setF_other _ _ _ _ (by simp only [JQ_STAT_LAST_REFUSE, JQ_STAT]; omega), State.ev,
    State.rd_wr_ne _ _ _ _ (by simp only [JQ_STAT_REFUSED, JQ_STAT]; omega), State.enterJob_rd _ _ _ _ _ (by simp only [JQ_CTRL]; omega)
    (by simp only [JQ_HEAD]; omega)]

theorem State.refuse_lastRefuse (j : Job) (d : List Byte) (hj : j.refuse < 256) :
    (s.refuse k j d).f (JQ_STAT_LAST_REFUSE k) = j.refuse := by
  rw [s.refuse_keeps k hk (State.recordApart_lastRefuse k), State.refusalShown,
    State.f_congr (JQ_STAT_LAST_REFUSE k) (State.raise_rd _ _ _ _ (raiseReach_jqStat k hk)),
    State.f_setF_same _ _ _ (by simp [JQ_STAT_LAST_REFUSE]) (by simp [JQ_STAT_LAST_REFUSE])]
  exact Nat.mod_eq_of_lt hj

theorem State.refuse_latched (j : Job) (d : List Byte) (hf : s.b DBG_STAT_FROZEN = false) :
    (s.refuse k j d).b (FLT_SRC_LATCHED 24) = true := by
  rw [State.b_congr (FLT_SRC_LATCHED 24) (s.refuse_keeps k hk (State.recordApart_rd (FLT_SRC 24) (by decide)) j d)]
  refine State.raise_latched _ 24 k (by decide) ?_
  rw [State.b_setF_other _ _ _ _ (by simp only [JQ_STAT_LAST_REFUSE, JQ_STAT, DBG_STAT_FROZEN, DBG_STAT]; omega), State.ev,
    State.b_congr _ (State.rd_wr_ne _ _ _ _ (by simp only [JQ_STAT_REFUSED, JQ_STAT, DBG_STAT_FROZEN, DBG_STAT]; omega)),
    State.b_congr _ (State.enterJob_rd _ _ _ _ _ (by simp only [JQ_CTRL, DBG_STAT_FROZEN, DBG_STAT]; omega)
      (by simp only [JQ_HEAD, DBG_STAT_FROZEN, DBG_STAT]; omega)), hf]

end

theorem exec_cplTimeout (s : State) (w : Fin 64) (h : s.asleep = false) : exec (.cplTimeout w) s = .next (s.begin.requestTimeout w) :=
  congrArg Host.Outcome.next (s.awake_of _ h)

/-- A completion timeout of an intake's descriptor refuses the job with code 5. -/
theorem State.descTimeout_shows (s : State) (k : Fin 8) (hf : s.b DBG_STAT_FROZEN = false) :
    let t := (s.pcieEvent 1).refuseUnread k
    t.b PCIE_ERR_STAT_CPL_TIMEOUT = true ∧ t.intakeOf k = .idle ∧ t.f (JQ_STAT_LAST_REFUSE k) = 5 ∧ t.b (FLT_SRC_LATCHED 24) = true := by
  refine ⟨?_, State.refuse_intakeOf _ k k.isLt _ _, State.refuse_lastRefuse _ k k.isLt _ _ (show 5 < 256 by decide),
    State.refuse_latched _ k k.isLt _ _ ?_⟩
  · rw [State.refuseUnread, State.b_congr PCIE_ERR_STAT_CPL_TIMEOUT (State.refuse_rd _ k k.isLt _ _ _ (by decide) (by decide)),
      State.pcieEvent_b _ _ _ rfl rfl (by decide) (by decide)]
    rfl
  · rw [State.b_congr _ (s.pcieEvent_rd 1 rfl _ (by decide)), hf]

/-! Bus Master Enable, L1, and a vector that is unmasked (R240, R241, R251, R286) -/

section
variable (s : State)

theorem State.setBme_shows (on : Bool) : (s.setBme on).b PCIE_LINK_STAT_BME = on ∧
    (s.setBme on).b PCIE_LINK_STAT_LINK_UP = s.b PCIE_LINK_STAT_LINK_UP := by
  have hback : ∀ x : Field, x.addr = PCIE_LINK_STAT → (s.setBme on).b x = (s.setB PCIE_LINK_STAT_BME on).b x := fun x hx =>
    congrArg (fun n => decide (n = 1)) (State.hostBack_linkStat _ x hx)
  rw [hback _ rfl, hback _ rfl, State.b_setB_same _ _ _ rfl (by decide), State.b_setB_apart _ _ _ _ (by decide) (by decide) (by decide)]
  exact ⟨rfl, rfl⟩

theorem State.l1Entry_enters (hp : s.b SYS_PWR_CTRL_PARKED = true) (ha : s.pcie.aspmL1 = true) (hup : s.b PCIE_LINK_STAT_LINK_UP = true)
    (h1 : s.b PCIE_LINK_STAT_L1 = false) : s.l1Entry = (s.setB PCIE_LINK_STAT_L1 true).emit (.link true) := by
  rw [State.l1Entry, if_pos (by simp [hp, ha, hup, h1])]

theorem State.l1Entry_shows (hp : s.b SYS_PWR_CTRL_PARKED = true) (ha : s.pcie.aspmL1 = true) (hup : s.b PCIE_LINK_STAT_LINK_UP = true)
    (h1 : s.b PCIE_LINK_STAT_L1 = false) :
    s.regsBut s.l1Entry [PCIE_LINK_STAT] ∧ s.l1Entry.b PCIE_LINK_STAT_L1 = true ∧ s.l1Entry.out = .link true :: s.out := by
  rw [s.l1Entry_enters hp ha hup h1, State.b_congr _ (State.rd_congr (State.emit_regs _ _) _), State.emit_goes _ _ rfl]
  refine ⟨⟨?_, fun a h => ?_⟩, State.b_setB_same _ _ _ rfl (by decide), rfl⟩
  · rw [State.emit_mem, State.setB, State.setF, State.wr_mem]
  · rw [State.rd_congr (State.emit_regs _ _), State.setB, State.rd_setF_other _ _ _ _ fun e => h (by simp [← e, PCIE_LINK_STAT_L1])]

/-- A walk in which one unit alone acts. -/
theorem State.forEach_one (l : List Nat) (g : State → Nat → State) (e : Nat) (hn : l.Nodup) (he : e ∈ l)
    (before : ∀ i ∈ l, i ≠ e → g s i = s) (after : ∀ i ∈ l, i ≠ e → g (g s e) i = g s e) : s.forEach l g = g s e := by
  induction l with
  | nil => simp at he
  | cons a l ih =>
    obtain ⟨ha, hl⟩ := List.nodup_cons.1 hn
    rw [State.forEach, List.foldl_cons]
    by_cases hae : a = e
    · subst hae
      exact State.forEach_unchanged l g _ fun i hi => after i (List.mem_cons_of_mem _ hi) (by rintro rfl; exact ha hi)
    · rw [before a List.mem_cons_self hae]
      exact ih hl (by simpa [Ne.symm hae] using he) (fun i hi => before i (List.mem_cons_of_mem _ hi))
        fun i hi => after i (List.mem_cons_of_mem _ hi)

/-- A vector no longer masked. -/
def State.vectorUnmasked (v : Nat) : State := s.wr (MSIX_TABLE (4 * v + 3)) (putBits (s.rd (MSIX_TABLE (4 * v + 3))) 0 0 0)

/-- What a vector's turn in the walk over pending messages does. -/
def State.flushOne (v : Nat) : State :=
  if bitAt (s.rn (MSIX_PBA (v / 32))) (v % 32) && !s.vectorMasked v then
    (s.wr (MSIX_PBA (v / 32)) (putBits (s.rd (MSIX_PBA (v / 32))) (v % 32) (v % 32) 0)).sendMsix v
  else s

theorem State.msixFlush_eq : s.msixFlush = if !s.pcie.msixEnable || !s.canSend then s else s.forEach (List.range 64) State.flushOne := rfl

theorem State.flushOne_idle (v : Nat) (h : bitAt (s.rn (MSIX_PBA (v / 32))) (v % 32) = false) : s.flushOne v = s := by
  rw [State.flushOne, if_neg (by simp [h])]

/-- A pending message goes out, and its pending bit clears. -/
def State.messageSent (v : Nat) : State :=
  (s.wr (MSIX_PBA (v / 32)) (putBits (s.rd (MSIX_PBA (v / 32))) (v % 32) (v % 32) 0)).sendMsix v

theorem State.flushOne_sends (v : Nat) (h : bitAt (s.rn (MSIX_PBA (v / 32))) (v % 32) = true) (hm : s.vectorMasked v = false) :
    s.flushOne v = s.messageSent v := by
  rw [State.flushOne, if_pos (by simp [h, hm])]
  rfl

theorem State.canSend_congr {s t : State} (h : t.rd PCIE_LINK_STAT = s.rd PCIE_LINK_STAT) : t.canSend = s.canSend := by
  rw [State.canSend, State.b_congr PCIE_LINK_STAT_LINK_UP h, State.b_congr PCIE_LINK_STAT_BME h, State.b_congr PCIE_LINK_STAT_D3HOT h, State.canSend]

theorem State.sendMsix_rd (v a : Nat) : (s.sendMsix v).rd a = s.rd a := State.rd_congr (State.emit_regs _ _) a

theorem State.messageSent_rd (v a : Nat) (h : MSIX_PBA (v / 32) ≠ a) : (s.messageSent v).rd a = s.rd a := by
  rw [State.messageSent, State.sendMsix_rd, State.rd_wr_ne _ _ _ _ h]

/-- The bit of a one-bit word. -/
theorem bitAt_shifted (i j : Nat) (hj : j < 32) : bitAt (1#32 <<< i).toNat j = decide (i = j) := by
  rw [bitAt_eq, BitVec.testBit_toNat, BitVec.getLsbD_shiftLeft, BitVec.getLsbD_one]
  simp only [hj, decide_true, Bool.true_and]
  rw [Bool.eq_iff_iff]
  simp
  omega

theorem putBits_shifted_zero : ∀ i : Fin 32, putBits (1#32 <<< i.val) i i 0 = 0#32 := by decide

section
variable (v : Nat) (hv : v < 64) (hpend : s.rd (MSIX_PBA (v / 32)) = 1#32 <<< (v % 32)) (hother : s.rd (MSIX_PBA (1 - v / 32)) = 0)
include hv hpend hother

/-- Where one vector alone is pending, no other's bit is set. -/
theorem State.pending_alone (w : Nat) (hw : w < 64) : bitAt (s.rn (MSIX_PBA (w / 32))) (w % 32) = decide (v = w) := by
  by_cases hd : w / 32 = v / 32
  · rw [State.rn, hd, hpend, bitAt_shifted _ _ (Nat.mod_lt _ (by decide)), decide_eq_decide]
    omega
  · have hne : v ≠ w := by rintro rfl; exact hd rfl
    rw [State.rn, show w / 32 = 1 - v / 32 by omega, hother, decide_eq_false hne]
    simp [bitAt]

theorem State.messageSent_pending (w : Nat) (hw : w < 64) : bitAt ((s.messageSent v).rn (MSIX_PBA (w / 32))) (w % 32) = false := by
  have hzero : (s.messageSent v).rd (MSIX_PBA (w / 32)) = 0#32 := by
    by_cases hd : w / 32 = v / 32
    · rw [hd, State.messageSent, State.sendMsix_rd, State.rd_wr_same, hpend]
      exact putBits_shifted_zero ⟨v % 32, Nat.mod_lt _ (by decide)⟩
    · rw [s.messageSent_rd v _ (by simp only [MSIX_PBA]; omega), show w / 32 = 1 - v / 32 by omega, hother]
      rfl
  rw [State.rn, hzero]
  simp [bitAt]

/-- The only pending message goes out. -/
theorem State.msixFlush_alone (he : s.pcie.msixEnable = true) (hs : s.canSend = true) (hm : s.vectorMasked v = false) :
    s.msixFlush = s.messageSent v := by
  have hsends : s.flushOne v = s.messageSent v := s.flushOne_sends v (by rw [s.pending_alone v hv hpend hother v hv]; simp) hm
  rw [State.msixFlush_eq, if_neg (by simp [he, hs]),
    s.forEach_one _ _ v List.nodup_range (List.mem_range.2 hv) (fun w hw hne => ?_) fun w hw hne => ?_, hsends]
  · exact s.flushOne_idle w (by rw [s.pending_alone v hv hpend hother w (List.mem_range.1 hw)]; simpa using Ne.symm hne)
  · rw [hsends]
    exact State.flushOne_idle _ w (s.messageSent_pending v hv hpend hother w (List.mem_range.1 hw))

end

theorem State.unmask_eq (v : Nat) : s.unmask v = (s.vectorUnmasked v).msixFlush := rfl

theorem State.vectorUnmasked_rd (v a : Nat) (h : MSIX_TABLE (4 * v + 3) ≠ a) : (s.vectorUnmasked v).rd a = s.rd a := State.rd_wr_ne _ _ _ _ h

theorem State.vectorUnmasked_bit (v : Nat) : bitAt ((s.vectorUnmasked v).rn (MSIX_TABLE (4 * v + 3))) 0 = false := by
  have hbit := bits_putBits_same (s.rd (MSIX_TABLE (4 * v + 3))) 0 0 0 le_rfl (by decide)
  rw [State.rn, State.vectorUnmasked, State.rd_wr_same, bitAt_eq, ← bits_one, hbit]
  rfl

/-- The address a vector's entry holds. -/
theorem State.vectorUnmasked_address (v : Nat) : (s.vectorUnmasked v).rd64 (MSIX_TABLE (4 * v)) = s.rd64 (MSIX_TABLE (4 * v)) := by
  rw [State.rd64, State.rn, State.rn, s.vectorUnmasked_rd v _ (by simp only [MSIX_TABLE]; omega),
    s.vectorUnmasked_rd v _ (by simp only [MSIX_TABLE]; omega)]
  rfl

/-- A vector that is unmasked sends the one message that is pending. -/
theorem State.unmask_shows (v : Nat) (hv : v < 64) (he : s.pcie.msixEnable = true) (hm : s.pcie.functionMask = false) (hs : s.canSend = true)
    (hpend : s.rd (MSIX_PBA (v / 32)) = 1#32 <<< (v % 32)) (hother : s.rd (MSIX_PBA (1 - v / 32)) = 0) :
    s.regsBut (s.unmask v) [MSIX_TABLE (4 * v + 3), MSIX_PBA (v / 32)] ∧ bitAt ((s.unmask v).rn (MSIX_TABLE (4 * v + 3))) 0 = false ∧
      (s.unmask v).rd (MSIX_PBA (v / 32)) = 0 ∧ (s.unmask v).out = .msix v (Attr.to {} (s.rd64 (MSIX_TABLE (4 * v)))) :: s.out := by
  have hpba : ∀ i, MSIX_TABLE (4 * v + 3) ≠ MSIX_PBA i := fun i => by simp only [MSIX_TABLE, MSIX_PBA]; omega
  have hunmask : s.unmask v = (s.vectorUnmasked v).messageSent v := by
    rw [State.unmask_eq]
    refine State.msixFlush_alone _ v hv ?_ ?_ he ?_ ?_
    · rw [s.vectorUnmasked_rd v _ (hpba _), hpend]
    · rw [s.vectorUnmasked_rd v _ (hpba _), hother]
    · rw [State.canSend_congr (s.vectorUnmasked_rd v _ (by simp only [MSIX_TABLE, PCIE_LINK_STAT]; omega)), hs]
    · rw [State.vectorMasked, s.vectorUnmasked_bit v, Bool.or_false]
      exact hm
  rw [hunmask]
  refine ⟨⟨?_, fun a ha => ?_⟩, ?_, ?_, ?_⟩
  · rw [State.messageSent, State.sendMsix, State.emit_mem, State.wr_mem, State.vectorUnmasked, State.wr_mem]
  · simp only [List.mem_cons, List.not_mem_nil, or_false, not_or] at ha
    obtain ⟨htable, hbit⟩ := ha
    rw [State.messageSent_rd _ _ _ (Ne.symm hbit), State.vectorUnmasked_rd _ _ _ (Ne.symm htable)]
  · rw [State.rn, State.messageSent_rd _ _ _ (Ne.symm (hpba _))]
    exact s.vectorUnmasked_bit v
  · rw [State.messageSent, State.sendMsix_rd, State.rd_wr_same, s.vectorUnmasked_rd v _ (hpba _), hpend]
    exact putBits_shifted_zero ⟨v % 32, Nat.mod_lt _ (by decide)⟩
  · rw [State.messageSent, State.sendMsix, State.emit_goes _ _ rfl, State.rd64, State.rn, State.rn,
      State.rd_wr_ne _ _ _ _ (by simp only [MSIX_TABLE, MSIX_PBA]; omega), State.rd_wr_ne _ _ _ _ (by simp only [MSIX_TABLE, MSIX_PBA]; omega),
      ← s.vectorUnmasked_address v]
    rfl

end

/-! Each event as the spec tells it -/

section
variable (s : State)

theorem State.linkRate_eq (speed : Nat) : s.linkRate speed =
    if s.b PCIE_LINK_STAT_LINK_UP = true then max 1 (min 4 (min speed (s.pcie.cfgAt 0xA0 % 16))) else 1 := by
  unfold State.linkRate
  cases s.b PCIE_LINK_STAT_LINK_UP <;> rfl

theorem State.linkEnters_held (speed width : Nat) (h : s.power.perstLow = true ∨ s.inReset = true) : s.linkEnters speed width = s := by
  rw [State.linkEnters_eq, if_pos (by rcases h with h | h <;> simp [h])]

theorem State.regsBut.withPcie {s t : State} {l : List Nat} (h : s.regsBut t l) (p : Pcie) : s.regsBut (t.withPcie p) l := h

theorem State.linkLost_frozenShows (hup : s.b PCIE_LINK_STAT_LINK_UP = true) (hf : s.b DBG_STAT_FROZEN = true) :
    s.regsBut s.linkLost [PCIE_LINK_STAT] ∧ s.linkLost.pcie = { s.pcie with lostDue := true } ∧ s.linkLost.dmas = s.dmas ∧
      s.linkLost.intake = s.intake := by
  rw [s.linkLost_frozen hup hf]
  exact ⟨State.regsBut.withPcie s.linkZero_regsBut _, rfl, by simp only [State.withPcie, State.linkZero, State.setB, State.setF, State.wr_dmas],
    by simp only [State.withPcie, State.linkZero, State.setB, State.setF, State.wr_intake]⟩

theorem State.linkLost_awakeShows (hup : s.b PCIE_LINK_STAT_LINK_UP = true) (hf : s.b DBG_STAT_FROZEN = false) :
    s.linkLost.b PCIE_ERR_STAT_LINK_DOWN = true ∧ s.linkLost.b (FLT_SRC_LATCHED 16) = true ∧ ∀ q < 8, s.linkLost.intakeOf q = .idle := by
  rw [s.linkLost_gone hup hf]
  refine ⟨State.linkGone_down _, State.linkGone_latched _ ?_, State.linkGone_intakeOf _⟩
  rw [s.linkZero_b _ (by decide), hf]

theorem State.linkLost_down (hdown : s.b PCIE_LINK_STAT_LINK_UP = false) : s.linkLost = s := by
  rw [State.linkLost, if_pos (by simp [hdown])]

theorem State.printing_trans {s t u : State} (h : s.printing t) (h' : t.printing u) : s.printing u := by
  obtain ⟨hi, hl, hd, hq⟩ := h
  obtain ⟨hi', hl', hd', hq'⟩ := h'
  exact ⟨hi'.trans hi, hl'.trans hl, hd'.trans hd, hq'.trans hq⟩

theorem State.printing_wr (a : Nat) (v : Word) : s.printing (s.wr a v) := ⟨rfl, rfl, rfl, rfl⟩

theorem State.printing_perstLowered : s.printing s.perstLowered := ⟨rfl, rfl, rfl, rfl⟩

theorem State.printing_linkZero : s.printing s.linkZero :=
  State.printing_trans (State.printing_trans (s.printing_wr _ _) (State.printing_wr _ _ _))
    (State.printing_trans (State.printing_wr _ _ _) (State.printing_wr _ _ _))

theorem State.linkZero_dma (c : Nat) : s.linkZero.dma c = s.dma c := by
  simp only [State.linkZero, State.setB, State.setF, State.wr_dma]

theorem State.fundamental_printing (hr : s.inReset = false) (hidle : ∀ c < 32, (s.dma c).active = false) : s.printing s.fundamental := by
  rw [s.fundamental_gone hr]
  refine State.printing_trans (State.printing_trans (State.printing_trans s.printing_perstLowered (State.printing_linkZero _))
    (State.printing_wr _ _ _)) (State.functionGone_printing _ _ fun c hc => ?_)
  rw [State.wr_dma, State.linkZero_dma]
  exact hidle c hc

theorem State.fundamental_noFunction (hr : s.inReset = false) : s.fundamental.noFunction := by
  rw [s.fundamental_gone hr]
  exact State.functionGone_noFunction _ _ rfl

theorem State.fundamental_held (hr : s.inReset = true) : s.fundamental.mem = s.mem ∧ s.fundamental.regs = s.regs ∧
    s.fundamental.dmas = s.dmas := by
  rw [s.fundamental_inReset hr]
  exact ⟨rfl, rfl, rfl⟩

theorem State.perstRelease_held (hr : s.inReset = true) : s.perstRelease.power.perstAt = s.power.perstAt ∧ s.perstRelease.out = s.out := by
  rw [s.perstRelease_inReset hr]
  exact ⟨rfl, rfl⟩

theorem State.printing_out (o : List Out) : s.printing { s with out := o } := ⟨rfl, rfl, rfl, rfl⟩

theorem State.printing_flrShown : s.printing s.flrShown := State.printing_trans (s.printing_out _) (State.printing_wr _ _ _)

theorem State.flrShown_flr : s.flrShown.b PCIE_ERR_STAT_FLR = true := State.ev_b _ _ rfl (by decide)

theorem State.flrShown_dma (c : Nat) : s.flrShown.dma c = s.dma c := State.wr_dma _ _ _ _

theorem State.flrRequest_shows (hf : s.b DBG_STAT_FROZEN = false) (hc : s.b SYS_BOOT_STAT_CFG_READY = true) :
    ((∀ c < 32, (s.dma c).active = false) → s.printing s.flrRequest) ∧ s.flrRequest.noFunction ∧ s.flrRequest.b PCIE_ERR_STAT_FLR = true ∧
      s.flrRequest.b PCIE_LINK_STAT_LINK_UP = s.b PCIE_LINK_STAT_LINK_UP := by
  obtain ⟨p, hp, heq⟩ := s.flrRequest_gone hf hc
  rw [heq, State.functionGone_linkUp, State.flrShown_linkUp, State.b_congr PCIE_ERR_STAT_FLR (State.functionGone_errStat _ _),
    State.flrShown_flr]
  refine ⟨fun hidle => State.printing_trans s.printing_flrShown (State.functionGone_printing _ p fun c hc => ?_),
    State.functionGone_noFunction _ p hp, rfl, rfl⟩
  rw [State.flrShown_dma]
  exact hidle c hc

theorem State.unsupported_shows :
    let t := (s.emit (.completion 1 [])).aerError 20
    t.mem = s.mem ∧ t.regs = s.regs ∧ bitAt (t.pcie.aerAt 0x104) 20 = true ∧
      (t.out = .completion 1 [] :: s.out ∨ ∃ sev, t.out = .pcieError sev :: .completion 1 [] :: s.out) := by
  obtain ⟨hbit, hout⟩ := (s.emit (.completion 1 [])).aerError_shows 20 (by decide)
  refine ⟨?_, ?_, hbit, ?_⟩
  · rw [State.aerError_keeps _ State.mem (fun _ _ _ _ => rfl) (fun _ _ => rfl), State.emit_mem]
  · rw [State.aerError_keeps _ State.regs (fun _ _ _ _ => rfl) (fun _ _ => rfl), State.emit_regs]
  · rwa [State.emit_goes _ (.completion 1 []) rfl] at hout

theorem State.errorRx_shows (kind : Fin 4) (hf : s.b DBG_STAT_FROZEN = false) :
    let t := s.pcieEvent (rxEvent kind)
    t.mem = s.mem ∧ (kind ≠ 3 → t.b (FLT_SRC_LATCHED 17) = true) ∧
      (kind = 3 → s.regsBut t [PCIE_ERR_STAT]) ∧ t.b PCIE_ERR_STAT_UNEXPECTED_CPL = (s.b PCIE_ERR_STAT_UNEXPECTED_CPL || decide (kind = 3)) ∧
      t.b PCIE_ERR_STAT_UR_CA = (s.b PCIE_ERR_STAT_UR_CA || decide (kind = 0)) ∧
      t.b PCIE_ERR_STAT_POISONED = (s.b PCIE_ERR_STAT_POISONED || decide (kind = 1)) ∧
      t.b PCIE_ERR_STAT_MALFORMED = (s.b PCIE_ERR_STAT_MALFORMED || decide (kind = 2)) := by
  obtain ⟨hcpl, hur, hep, hmal⟩ := rxEvent_bits kind
  have hb : ∀ x : Field, x.addr = PCIE_ERR_STAT → x.lo = x.hi → x.lo < 24 →
      (s.pcieEvent (rxEvent kind)).b x = (s.b x || decide (x.lo = rxEvent kind)) :=
    fun x hx h1 h24 => (s.pcieEvent_b _ x hx h1 h24 (rxEvent_lt kind)).trans (Bool.or_comm _ _)
  refine ⟨s.pcieEvent_mem _, fun h => s.pcieEvent_latched _ hf (rxEvent_raises kind h),
    fun h => ⟨s.pcieEvent_mem _, fun a ha => ?_⟩, ?_, ?_, ?_, ?_⟩
  · subst h
    exact s.pcieEvent_rd _ rfl a fun e => ha (by simp [← e])
  · rw [hb _ rfl rfl (by decide), ← hcpl]; rfl
  · rw [hb _ rfl rfl (by decide), ← hur]; rfl
  · rw [hb _ rfl rfl (by decide), ← hep]; rfl
  · rw [hb _ rfl rfl (by decide), ← hmal]; rfl

theorem State.d3hot_shows : s.regsBut (s.setB PCIE_LINK_STAT_D3HOT true) [PCIE_LINK_STAT] ∧
    (s.setB PCIE_LINK_STAT_D3HOT true).b PCIE_LINK_STAT_D3HOT = true ∧
    (s.setB PCIE_LINK_STAT_D3HOT true).b PCIE_LINK_STAT_LINK_UP = s.b PCIE_LINK_STAT_LINK_UP :=
  ⟨State.regsBut.setB (State.regsBut.of_regs rfl rfl) _ _ (by simp [PCIE_LINK_STAT_D3HOT]), State.b_setB_same _ _ _ rfl (by decide),
    State.b_setB_apart _ _ _ _ (by decide) (by decide) (by decide)⟩

end

end Sys2Proof.Machine

open Sys2Proof Sys2Proof.Machine
open Sys2Proof.Machine.Reg Sys2Proof.Machine.Fld

/-- Settles O29: a register that no channel, queue or vector writes keeps what the event put there; a channel a reset ends runs only for a BAD
descriptor whose span waits for room; and every other event changes what it names. -/
theorem pcieEvents : Obligations.PcieEvents := by
  intro speed width kind k vec s up frozen prints gone
  refine ⟨fun hp hr => ?linkUp, fun h => ?linkHeld, fun hup => ?linkDown, fun hdown => ?noLink, ?perstLow, ?perstHigh,
    fun hr => ⟨fun hf hc => ?flr, fun h => ?flrRetried⟩, fun hr => ?unsupported, fun ha => ⟨?rx, fun h w => ?timeoutOff, fun h hi => ?timeout,
    ?bmeClear, ?bmeSet, ?d3hot, fun he hm hs hpend hother => ?unmask, fun hpark haspm hup h1 => ?l1⟩⟩
  case linkUp =>
    have hshows := s.begin.linkEnters_shows speed width hp hr
    refine ⟨_, rfl, ?_, ?_, (hshows _ rfl).trans (s.begin.linkShown_width _ _), ?_⟩
    · exact (congrArg (fun n => decide (n = 1)) (hshows _ rfl)).trans (s.begin.linkShown_up _ _)
    · exact (hshows _ rfl).trans ((s.begin.linkShown_speed _ _).trans (s.begin.linkRate_eq _))
    · exact (congrArg (fun n => decide (n = 1)) (hshows _ rfl)).trans (s.begin.linkShown_l1 _ _)
  case linkHeld => exact ⟨s.begin, congrArg Host.Outcome.next (s.begin.linkEnters_held _ _ h), rfl, rfl⟩
  case linkDown =>
    have hshows := s.begin.linkLost_shows hup
    obtain ⟨hlow, hspeed, hwidth⟩ := s.begin.linkZero_shows
    exact ⟨_, rfl, (congrArg (fun n => decide (n = 1)) (hshows _ rfl)).trans hlow, (hshows _ rfl).trans hspeed, (hshows _ rfl).trans hwidth,
      s.begin.linkLost_frozenShows hup, fun hf => s.begin.linkLost_awakeShows hup (Bool.eq_false_iff.2 hf)⟩
  case noLink => exact ⟨s.begin, congrArg Host.Outcome.next (s.begin.linkLost_down hdown), rfl, rfl⟩
  case perstLow =>
    exact ⟨_, rfl, s.begin.fundamental_perstLow, s.begin.fundamental_held, fun hr => ⟨s.begin.fundamental_printing hr,
      s.begin.fundamental_noFunction hr, s.begin.fundamental_shows hr⟩⟩
  case perstHigh =>
    obtain ⟨hmem, hregs, hlow⟩ := s.begin.perstRelease_keeps
    exact ⟨_, rfl, hmem, hregs, hlow, s.begin.perstRelease_held, s.begin.perstRelease_shows⟩
  case flr => exact ⟨_, congrArg Host.Outcome.next (s.hostAsks_of _ hr), s.begin.flrRequest_shows (Bool.eq_false_iff.2 hf) hc⟩
  case flrRetried =>
    exact ⟨_, congrArg Host.Outcome.next ((s.hostAsks_of _ hr).trans (s.begin.flrRequest_retried h)), rfl, rfl, rfl, rfl, rfl⟩
  case unsupported => exact ⟨_, congrArg Host.Outcome.next (s.hostAsks_of _ hr), s.begin.unsupported_shows⟩
  case rx => exact ⟨_, exec_pcieErrorRx s kind ha, s.begin.errorRx_shows kind (s.frozen_of_asleep ha)⟩
  case timeoutOff =>
    exact ⟨s.begin, (exec_cplTimeout s w ha).trans (congrArg Host.Outcome.next (s.begin.requestTimeout_disabled _ h)),
      ⟨rfl, fun _ _ => rfl⟩, rfl, rfl⟩
  case timeout =>
    have hw : (Fin.ofNat 64 (32 + k.val)).val = 32 + k.val := Nat.mod_eq_of_lt (by omega)
    refine ⟨_, ?_, s.begin.descTimeout_shows k (s.frozen_of_asleep ha)⟩
    rw [exec_cplTimeout s _ ha, hw, s.begin.requestTimeout_readDesc k k.isLt h hi]
  case bmeClear =>
    exact ⟨_, congrArg Host.Outcome.next (s.awake_of _ ha), s.begin.setBme_shows false⟩
  case bmeSet =>
    exact ⟨_, congrArg Host.Outcome.next (s.awake_of _ ha), s.begin.setBme_shows true⟩
  case d3hot => exact ⟨_, congrArg Host.Outcome.next (s.awake_of _ ha), s.begin.d3hot_shows⟩
  case unmask =>
    exact ⟨_, congrArg Host.Outcome.next (s.awake_of _ ha), s.begin.unmask_shows vec vec.isLt he hm hs hpend hother⟩
  case l1 =>
    exact ⟨_, congrArg Host.Outcome.next (s.awake_of _ ha), s.begin.l1Entry_shows hpark haspm hup h1⟩

end

section
/-!
PROOFS. Canonical form (04_register_model.md R103, R104): memory and the register map are written by State.writeMem and State.wr alone,
which keep them canonical; every operation is composed of these two and of changes of other parts, so each lemma below follows its
operation's definition, and every command and the tick keep the form.
-/

namespace Sys2Proof.Machine
open Reg Fld
set_option Elab.async false

/-- Memory and the register map are in canonical form (R103, R104). -/
structure State.Canonical (s : State) : Prop where
  mem : s.memWf
  regs : s.regsWf

namespace State.Canonical
variable {s : State}

theorem reset : State.reset.Canonical := ⟨rfl, rfl⟩

/-- The other parts of the state have no say in it. -/
theorem keep
    {poison soft tb pending out wire lineTx lineRx free firstThis fltRead engines items nextItem jobs intake intakeNext waitingCpl
     doneJobs replayOut unlocks w1Locked staged issueQ issueSeq taken expect streams dmas dmaTurn lanes vlanes holds nzDirty
     channels cmps emus domains heads axes groups rejects traces timerAt gateLast loopSat pwmDuty pwmAt ledger geode fuses supplies
     twin pcie power boot cal quartz sec frozenFaultIn planAt riseAt jtagIr bsr scanKey errPulseEnd errRelease}
    (h : s.Canonical) :
    State.Canonical
      { regs := s.regs, mem := s.mem,
        poison, soft, tb, pending, out, wire, lineTx, lineRx, free, firstThis, fltRead, engines, items, nextItem, jobs, intake,
        intakeNext, waitingCpl, doneJobs, replayOut, unlocks, w1Locked, staged, issueQ, issueSeq, taken, expect, streams, dmas,
        dmaTurn, lanes, vlanes, holds, nzDirty, channels, cmps, emus, domains, heads, axes, groups, rejects, traces, timerAt,
        gateLast, loopSat, pwmDuty, pwmAt, ledger, geode, fuses, supplies, twin, pcie, power, boot, cal, quartz, sec, frozenFaultIn,
        planAt, riseAt, jtagIr, bsr, scanKey, errPulseEnd, errRelease } :=
  ⟨h.mem, h.regs⟩

/-- A state drawn with something beside it. -/
theorem ofFst {α : Type} {p : State × α} {t a} (he : p = (t, a)) (h : p.1.Canonical) : t.Canonical := by
  rw [he] at h
  exact h

theorem ofSnd {α : Type} {p : α × State} {a t} (he : p = (a, t)) (h : p.2.Canonical) : t.Canonical := by
  rw [he] at h
  exact h

theorem fst {α : Type} {a : α} (h : s.Canonical) : (s, a).1.Canonical := h

/-! Repeated and conditional updates -/

theorem ite {c : Prop} [Decidable c] {t u : State} (ht : t.Canonical) (hu : u.Canonical) : (if c then t else u).Canonical := by
  split
  · exact ht
  · exact hu

theorem iteFst {α : Type} {c : Prop} [Decidable c] {t u : State × α} (ht : t.1.Canonical) (hu : u.1.Canonical) :
    (if c then t else u).1.Canonical := by
  split
  · exact ht
  · exact hu

theorem foldl {α : Type} {l : List α} {g : State → α → State} (h : s.Canonical) (hg : ∀ {t i}, t.Canonical → (g t i).Canonical) :
    (l.foldl g s).Canonical := by
  induction l generalizing s with
  | nil => exact h
  | cons a l ih => exact ih (hg h)

/-- A walk that gathers something beside the state. -/
theorem foldPair {α β : Type} {l : List α} {g : State × β → α → State × β} {r : State × β} (h : r.1.Canonical)
    (hg : ∀ {t : State × β} {i}, t.1.Canonical → (g t i).1.Canonical) : (l.foldl g r).1.Canonical := by
  induction l generalizing r with
  | nil => exact h
  | cons a l ih => exact ih (hg h)

/-! Registers, fields, memory, units and what leaves the part -/

theorem wr {a v} (h : s.Canonical) : (s.wr a v).Canonical := ⟨h.1, State.wr_wf s a v h.2⟩

theorem setF {x v} (h : s.Canonical) : (s.setF x v).Canonical := h.wr

theorem setB {x v} (h : s.Canonical) : (s.setB x v).Canonical := h.setF

theorem wn {a v} (h : s.Canonical) : (s.wn a v).Canonical := h.wr

theorem wr64 {a v} (h : s.Canonical) : (s.wr64 a v).Canonical := h.wn.wn

theorem wrS64 {a v} (h : s.Canonical) : (s.wrS64 a v).Canonical := h.wr64

theorem ev {x} (h : s.Canonical) : (s.ev x).Canonical := h.wr

theorem incSat {x n} (h : s.Canonical) : (s.incSat x n).Canonical := h.setF

theorem putBytes {a bs} (h : s.Canonical) : (s.putBytes a bs).Canonical := h.foldl fun h => h.wn

theorem writeMem {a bs} (h : s.Canonical) : (s.writeMem a bs).Canonical := ⟨State.writeMem_wf s a bs h.1, h.2⟩

theorem setEng {i v} (h : s.Canonical) : (s.setEng i v).Canonical := ⟨h.mem, h.regs⟩

theorem modEng {i g} (h : s.Canonical) : (s.modEng i g).Canonical := h.setEng

theorem setLane {i v} (h : s.Canonical) : (s.setLane i v).Canonical := ⟨h.mem, h.regs⟩

theorem modLane {i g} (h : s.Canonical) : (s.modLane i g).Canonical := h.setLane

theorem setDom {i v} (h : s.Canonical) : (s.setDom i v).Canonical := ⟨h.mem, h.regs⟩

theorem modDom {i g} (h : s.Canonical) : (s.modDom i g).Canonical := h.setDom

theorem setHead {i v} (h : s.Canonical) : (s.setHead i v).Canonical := ⟨h.mem, h.regs⟩

theorem modHead {i g} (h : s.Canonical) : (s.modHead i g).Canonical := h.setHead

theorem setAxis {i v} (h : s.Canonical) : (s.setAxis i v).Canonical := ⟨h.mem, h.regs⟩

theorem modAxis {i g} (h : s.Canonical) : (s.modAxis i g).Canonical := h.setAxis

theorem setGroup {i v} (h : s.Canonical) : (s.setGroup i v).Canonical := ⟨h.mem, h.regs⟩

theorem modGroup {i g} (h : s.Canonical) : (s.modGroup i g).Canonical := h.setGroup

theorem setRej {i v} (h : s.Canonical) : (s.setRej i v).Canonical := ⟨h.mem, h.regs⟩

theorem modRej {i g} (h : s.Canonical) : (s.modRej i g).Canonical := h.setRej

theorem setTrace {i v} (h : s.Canonical) : (s.setTrace i v).Canonical := ⟨h.mem, h.regs⟩

theorem modTrace {i g} (h : s.Canonical) : (s.modTrace i g).Canonical := h.setTrace

theorem setSupply {i v} (h : s.Canonical) : (s.setSupply i v).Canonical := ⟨h.mem, h.regs⟩

theorem modSupply {i g} (h : s.Canonical) : (s.modSupply i g).Canonical := h.setSupply

theorem setVLane {i v} (h : s.Canonical) : (s.setVLane i v).Canonical := ⟨h.mem, h.regs⟩

theorem modVLane {i g} (h : s.Canonical) : (s.modVLane i g).Canonical := h.setVLane

theorem setChan {i v} (h : s.Canonical) : (s.setChan i v).Canonical := ⟨h.mem, h.regs⟩

theorem modChan {i g} (h : s.Canonical) : (s.modChan i g).Canonical := h.setChan

theorem setCmp {i v} (h : s.Canonical) : (s.setCmp i v).Canonical := ⟨h.mem, h.regs⟩

theorem modCmp {i g} (h : s.Canonical) : (s.modCmp i g).Canonical := h.setCmp

theorem setEmu {i v} (h : s.Canonical) : (s.setEmu i v).Canonical := ⟨h.mem, h.regs⟩

theorem modEmu {i g} (h : s.Canonical) : (s.modEmu i g).Canonical := h.setEmu

theorem setStrm {i v} (h : s.Canonical) : (s.setStrm i v).Canonical := ⟨h.mem, h.regs⟩

theorem modStrm {i g} (h : s.Canonical) : (s.modStrm i g).Canonical := h.setStrm

theorem setDma {i v} (h : s.Canonical) : (s.setDma i v).Canonical := ⟨h.mem, h.regs⟩

theorem modDma {i g} (h : s.Canonical) : (s.modDma i g).Canonical := h.setDma

theorem setRx {l x} (h : s.Canonical) : (s.setRx l x).Canonical := ⟨h.mem, h.regs⟩

theorem emitHeld {hold o} (h : s.Canonical) : (s.emitHeld hold o).Canonical := .ite h h.keep

theorem emit {o} (h : s.Canonical) : (s.emit o).Canonical := h.emitHeld

theorem finishFrame {l} (h : s.Canonical) : (s.finishFrame l).Canonical := ⟨h.mem, h.regs⟩

theorem dropFrame {l} (h : s.Canonical) : (s.dropFrame l).Canonical := ⟨h.mem, h.regs⟩

theorem forEach {l} {g : State → Nat → State} (h : s.Canonical) (hg : ∀ {t i}, t.Canonical → (g t i).Canonical) :
    (s.forEach l g).Canonical := h.foldl hg

theorem when {c} {g : State → State} (h : s.Canonical) (hg : ∀ {t}, t.Canonical → (g t).Canonical) : (s.when c g).Canonical :=
  .ite (hg h) h

theorem begin (h : s.Canonical) : s.begin.Canonical := ⟨h.mem, h.regs⟩

theorem parkClash (h : s.Canonical) : s.parkClash.Canonical := .ite h.setB.setB h

theorem awake {g : State → State} (h : s.Canonical) (hg : ∀ {t}, t.Canonical → (g t).Canonical) : (s.awake g).Canonical :=
  .ite h (hg h.begin)

/-! Events, spoiling, stops and the fault collector -/

theorem engEvent {ev e} (h : s.Canonical) : (s.engEvent ev e).Canonical := h.modEng

theorem engEvents {ev es} (h : s.Canonical) : (s.engEvents ev es).Canonical := h.forEach fun h => h.engEvent

theorem hostRead {a n x} (h : s.Canonical) : (s.hostRead a n x).Canonical := h.foldl fun h => h.emit

theorem hostWrite {a bs x} (h : s.Canonical) : (s.hostWrite a bs x).Canonical := h.foldl fun h => h.emit

theorem sendMsix {v} (h : s.Canonical) : (s.sendMsix v).Canonical := h.emit

theorem msix {v} (h : s.Canonical) : (s.msix v).Canonical := .ite h (.ite h.wr h.sendMsix)

theorem modItem {id g} (h : s.Canonical) : (s.modItem id g).Canonical := ⟨h.mem, h.regs⟩

theorem spoil {code id} (h : s.Canonical) : (s.spoil code id).Canonical := h.modItem

theorem spoilWhere {code p} (h : s.Canonical) : (s.spoilWhere code p).Canonical := ⟨h.mem, h.regs⟩

theorem abortLane {l reason} (h : s.Canonical) : (s.abortLane l reason).Canonical := by
  unfold State.abortLane
  exact (h.when fun h => h.emit).modLane

theorem inhibitTests {l} (h : s.Canonical) : (s.inhibitTests l).Canonical := by
  unfold State.inhibitTests
  exact h.modVLane

theorem forceLoop {l} (h : s.Canonical) : (s.forceLoop l).Canonical := .ite h.setB.setB.ev h

theorem stopAxis {r a} (h : s.Canonical) : (s.stopAxis r a).Canonical := by
  dsimp only [State.stopAxis]
  split
  · exact h.modGroup.forEach fun h => h.forceLoop
  · exact .ite (h.setAxis.setF.forEach fun h => h.forceLoop) h.setAxis

theorem safeOutputs {s4} (h : s.Canonical) : (s.safeOutputs s4).Canonical :=
  h.forEach (fun h => h.when fun h => h.forceLoop)
    |>.forEach (fun h => h.when fun h => h.setB)
    |>.forEach (fun h => h.stopAxis.when fun h => h.setB)

theorem errDrive (h : s.Canonical) : s.errDrive.Canonical := h.setB

theorem firstFault {src sev injected} (h : s.Canonical) : (s.firstFault src sev injected).Canonical := by
  unfold State.firstFault
  exact .ev (.ite (h.foldl fun h => h.wn).setF.setF.setB.wr64.wr.keep (.ite (.ite h.wr.setF.setF.setB h.wr) h))

theorem react {src sev} (h : s.Canonical) : (s.react src sev).Canonical :=
  .ite (.ite h h.spoilWhere) (.ite (h.setF.spoilWhere.forEach fun h => h.abortLane.inhibitTests.modLane).safeOutputs h)

theorem latchSrc {injected src sev} (h : s.Canonical) : (s.latchSrc injected src sev).Canonical := .ite h.wr h.wr.keep

theorem latchWrites {injected src info sev} (h : s.Canonical) : (s.latchWrites injected src info sev).Canonical := h.latchSrc.wr.wn.incSat

theorem raiseWith {injected src info} (h : s.Canonical) : (s.raiseWith injected src info).Canonical :=
  .ite h
    (.errDrive
      (.when
        (.ite (h.latchWrites.firstFault.engEvents.react.when fun h => h.msix).keep
          (h.latchWrites.firstFault.engEvents.react.when fun h => h.msix)) fun h => h.setB))

theorem raise {src info} (h : s.Canonical) : (s.raise src info).Canonical := .ite h h.raiseWith

theorem setLive {src on} (h : s.Canonical) : (s.setLive src on).Canonical := .ite h.setB.wr.ev h.setB.wr

theorem raiseLive {src info} (h : s.Canonical) : (s.raiseLive src info).Canonical := .ite h h.setLive.raise

theorem liveFollows {src on} (h : s.Canonical) : (s.liveFollows src on).Canonical := .ite h (.ite h.raiseLive h.setLive)

theorem pair {ok off} (h : s.Canonical) : (s.pair ok off).Canonical := .ite h h.raise

/-! Mirror entries and nozzle-table writes -/

theorem setRole {r} (h : s.Canonical) : (s.setRole r).Canonical := .ite h.setF h.setF.keep.emit

theorem modBasalt {i g} (h : s.Canonical) : (s.modBasalt i g).Canonical := ⟨h.mem, h.regs⟩

theorem sendEnc {i kind payload} (h : s.Canonical) : (s.sendEnc i kind payload).Canonical := by
  dsimp only [State.sendEnc]
  split
  · exact h
  · exact h.emit.modBasalt

theorem sendAll {kind payload} (h : s.Canonical) : (s.sendAll kind payload).Canonical := h.forEach fun h => h.when fun h => h.sendEnc

theorem mirror {entry} (h : s.Canonical) : (s.mirror entry).Canonical := .ite h.keep.sendAll h

theorem nzChanged {n hold v now} (h : s.Canonical) : (s.nzChanged n hold v now).Canonical := by
  unfold State.nzChanged
  exact h.keep.when fun h => h.mirror

theorem writeNozzle {n v} (h : s.Canonical) : (s.writeNozzle n v).Canonical := by
  unfold State.writeNozzle
  exact .ite h.writeMem h.writeMem.nzChanged

/-! The ledger's chain and delivery -/

theorem fresh (h : s.Canonical) : s.fresh.2.Canonical := ⟨h.mem, h.regs⟩

theorem emitFree {o} (h : s.Canonical) : (s.emitFree o).Canonical := h.fresh.emitHeld

theorem ownRecord {kind aux body} (h : s.Canonical) : (s.ownRecord kind aux body).Canonical := ⟨h.mem, h.regs⟩

theorem modJob {queue slot g} (h : s.Canonical) : (s.modJob queue slot g).Canonical := ⟨h.mem, h.regs⟩

theorem noteDone {queue slot} (h : s.Canonical) : (s.noteDone queue slot).Canonical := by
  dsimp only [State.noteDone]
  split
  · exact h
  · exact .ite h h.keep

theorem dropItem {id} (h : s.Canonical) : (s.dropItem id).Canonical := ⟨h.mem, h.regs⟩

theorem decided {id counter} (h : s.Canonical) : (s.decided id counter).Canonical := by
  dsimp only [State.decided]
  split
  · exact h
  · exact .ite h.modJob.modItem.noteDone.dropItem h.modJob.modItem.noteDone

theorem blowMark (h : s.Canonical) : s.blowMark.Canonical := .ite (.ite h.keep.wn h.keep.setB.raiseLive) h

theorem linked {bytes} (h : s.Canonical) : (s.linked bytes).Canonical := h.mirror.keep

theorem bufferFull (h : s.Canonical) : s.bufferFull.Canonical := .ite h.setB.raiseLive h

theorem recordSettled {r} (h : s.Canonical) : (s.recordSettled r).Canonical := .ite h.keep (.ite h.setF.keep h)

theorem chain {r} (h : s.Canonical) : (s.chain r).Canonical := by
  refine .bufferFull (.when ?_ fun h => h.engEvents)
  split
  · exact h.linked.recordSettled.decided
  · exact h.linked.recordSettled

theorem checkpoint (h : s.Canonical) : s.checkpoint.Canonical := by
  dsimp only [State.checkpoint]
  split
  · exact h.chain.keep
  · exact h.chain

theorem acceptNext (h : s.Canonical) : s.acceptNext.Canonical := by
  refine .ite h (.ite h (.ite h.blowMark (.ite h.blowMark.checkpoint ?_)))
  split
  · exact h.blowMark
  · exact .ite h.blowMark.keep.chain h.blowMark.keep.chain

theorem acceptAll {n} (h : s.Canonical) : (State.acceptAll n s).Canonical := by
  induction n generalizing s with
  | zero => exact h
  | succ n ih => exact .ite h (ih h.acceptNext)

theorem logNozzle {line nozzle entry hold} (h : s.Canonical) : (s.logNozzle line nozzle entry hold).Canonical := .ite h.keep h.keep

theorem replayRecord {i} (h : s.Canonical) : (s.replayRecord i).Canonical := by
  dsimp only [State.replayRecord]
  split
  · exact h.keep
  · exact h

theorem sendReplay (h : s.Canonical) : s.sendReplay.Canonical := .ite h ((h.keep.foldl fun h => h.hostWrite).foldl fun h => h.noteDone)

theorem leaveVerifying {id result} (h : s.Canonical) : (s.leaveVerifying id result).Canonical := by
  dsimp only [State.leaveVerifying]
  split
  · exact h
  · refine .ite h (.ite ?_ ((h.modItem.when fun h => h.raise).when fun h => h.raise).keep)
    split
    · exact ((h.modItem.when fun h => h.raise).when fun h => h.raise).replayRecord.decided.sendReplay
    · exact (h.modItem.when fun h => h.raise).when fun h => h.raise

/-! Positions -/

theorem setPos64 {c x} (h : s.Canonical) : (s.setPos64 c x).Canonical := h.wrS64.wn

/-! Drop verification -/

theorem addHold {n} (h : s.Canonical) : (s.addHold n).1.Canonical := by
  dsimp only [State.addHold]
  split
  · exact h
  · split
    · exact h
    · exact h.keep.nzChanged

theorem releaseHold {n} (h : s.Canonical) : (s.releaseHold n).Canonical := .ite h.keep.nzChanged h

theorem clearHolds {k} (h : s.Canonical) : (s.clearHolds k).Canonical := h.keep.forEach fun h => h.nzChanged

theorem mirrorHolds {d} (h : s.Canonical) : (s.mirrorHolds d).Canonical := (h.foldl fun h => h.mirror).foldl fun h => h.mirror

theorem holdNow {n on} (h : s.Canonical) : (s.holdNow n on).Canonical := .keep (.ite h.addHold h.releaseHold)

theorem sendCtrl {l use op addr ws} (h : s.Canonical) : (s.sendCtrl l use op addr ws).Canonical := by
  unfold State.sendCtrl
  exact (h.when fun h => h.emitFree).modLane

theorem gapCfgError {l} (h : s.Canonical) : (s.gapCfgError l).Canonical := h.ev.raise

theorem judgeLane {id l m n} (h : s.Canonical) : (s.judgeLane id l m n).Canonical := h.modItem

theorem planGap {l d id gapLines period replay} (h : s.Canonical) : (s.planGap l d id gapLines period replay).Canonical :=
  .ite h.judgeLane.modVLane ((h.when fun h => h.gapCfgError).judgeLane.modVLane.when fun h => h.sendCtrl)

theorem gateUse {l} (h : s.Canonical) : (s.gateUse l).Canonical := by
  dsimp only [State.gateUse]
  split
  · exact h
  · exact .ite h (h.foldl fun h => h.wn).modVLane

theorem gateApply {l period} (h : s.Canonical) : (s.gateApply l period).Canonical := h.when fun h => h.gateUse

theorem gateConfirmed {l g} (h : s.Canonical) : (s.gateConfirmed l g).Canonical := h.modVLane.setB.when fun h => h.gateUse

theorem gateCal {l} (h : s.Canonical) : (s.gateCal l).Canonical := by
  dsimp only [State.gateCal]
  split
  · exact h
  · exact .ite h (.ite h.modVLane.ev.setF.raise (.ite h.modVLane.modVLane.gateConfirmed h.modVLane.modVLane.sendCtrl.sendCtrl))

theorem levelReply {l status} (h : s.Canonical) : (s.levelReply l status).Canonical := by
  dsimp only [State.levelReply]
  split
  · exact h
  · exact .ite h (.ite h.modVLane h.gateConfirmed)

theorem judgeItem {id} (h : s.Canonical) : (s.judgeItem id).Canonical := by
  dsimp only [State.judgeItem]
  split
  · split
    · exact h.when fun h => h.decided
    · exact .ite h.leaveVerifying h
  · exact h

theorem judgeAll (h : s.Canonical) : s.judgeAll.Canonical := h.forEach fun h => h.judgeItem

theorem resultRecord {l ws} (h : s.Canonical) : (s.resultRecord l ws).Canonical :=
  .ite h.incSat.raise (h.foldl fun h => h.wn).setF.engEvents

theorem classify {l t g had bad n sec report} (h : s.Canonical) : (s.classify l t g had bad n sec report).Canonical := by
  unfold State.classify
  extract_lets cls vel c parity firedBit
  split
  next u full heq =>
    have hu : u.Canonical := by
      split at heq
      · exact .ofFst heq h.ev.incSat.raise.addHold
      · exact .ofFst heq h
    exact (((hu.when fun h => h.ev.raise).when fun h => h.incSat).modItem).resultRecord

theorem finishTest {l t frame} (h : s.Canonical) : (s.finishTest l t frame).Canonical :=
  (((h.modVLane.foldl fun h => h.classify).when fun h => h.ev.raise).when fun h => h.ev.raise).modItem.judgeItem

theorem testTimeouts {l now} (h : s.Canonical) : (s.testTimeouts l now).Canonical := h.foldl fun h => h.finishTest

theorem gapDeadline {l now} (h : s.Canonical) : (s.gapDeadline l now).Canonical := by
  dsimp only [State.gapDeadline]
  split
  · exact .ite h h.gateCal.modVLane
  · exact h

theorem verifyEvents {l line rs} (h : s.Canonical) : (s.verifyEvents l line rs).Canonical := by
  dsimp only [State.verifyEvents]
  split
  · exact h.finishTest
  · exact h.ev

theorem verifyRaw {l line sec xs} (h : s.Canonical) : (s.verifyRaw l line sec xs).Canonical := by
  dsimp only [State.verifyRaw]
  split
  · exact h
  · exact .ite h (.ite h.modVLane.gateCal h.modVLane)

theorem verifyRx {l bs} (h : s.Canonical) : (s.verifyRx l bs).Canonical := .ite h (.ite h.verifyEvents h.verifyRaw)

theorem thrClear {l} (h : s.Canonical) : (s.thrClear l).Canonical := h.setB

/-! Head lanes -/

theorem lineStop {l} (h : s.Canonical) : (s.lineStop l).Canonical := h.dropFrame.setRx

theorem negStart {l} (h : s.Canonical) : (s.negStart l).Canonical := .ite h.thrClear h.thrClear.setF.lineStop.modLane

theorem negFail {l} (h : s.Canonical) : (s.negFail l).Canonical := h.setF.lineStop.modLane.ev.raise

theorem negSelect {l bound cap} (h : s.Canonical) : (s.negSelect l bound cap).Canonical := by
  dsimp only [State.negSelect]
  split
  · exact h.modLane
  · exact h.negFail

theorem linkLive (h : s.Canonical) : s.linkLive.Canonical := h.when fun h => h.setLive

theorem linkUp {l} (h : s.Canonical) : (s.linkUp l).Canonical := h.wn.modLane.ev.linkLive

theorem echoed {l bit} (h : s.Canonical) : (s.echoed l bit).Canonical := .ite h.modLane.linkUp h.modLane

theorem capTx {l hold} (h : s.Canonical) : (s.capTx l hold).Canonical := by
  dsimp only [State.capTx]
  split
  · exact h.emitHeld
  · exact h.emitHeld
  · exact h.emitHeld.echoed
  · exact h

theorem badFrame {l} (h : s.Canonical) : (s.badFrame l).Canonical := h.incSat.raise

theorem capRx {l bs} (h : s.Canonical) : (s.capRx l bs).Canonical := by
  unfold State.capRx
  extract_lets x _ u seen v same echo
  have hv : v.Canonical := h.putBytes.setRx.when fun h => h.ev.raise.thrClear
  refine .ite h.badFrame (.ite h ?_)
  split
  · exact .ite hv.modLane.modLane.negSelect hv.modLane
  · exact .ite hv.modLane.modLane hv.modLane
  · exact .ite hv.modLane.echoed hv.modLane
  · exact hv.modLane

theorem rateSwitch {l} (h : s.Canonical) : (s.rateSwitch l).Canonical := .ite h.lineStop.emit.modLane h

theorem negFallback {l} (h : s.Canonical) : (s.negFallback l).Canonical := .ite h.lineStop.negSelect h

theorem negTimeout {l} (h : s.Canonical) : (s.negTimeout l).Canonical := .ite h.negFail h

theorem leaseSpoils {l} (h : s.Canonical) : (s.leaseSpoils l).Canonical := h.when fun h => h.forEach fun h => h.spoil

theorem unleased {l} (h : s.Canonical) : (s.unleased l).Canonical := by
  unfold State.unleased
  exact h.leaseSpoils.modLane

theorem releaseLane {l} (h : s.Canonical) : (s.releaseLane l).Canonical :=
  ((h.forEach fun h => h.leaseSpoils).abortLane.when fun h => h.emitFree).setF.modLane.forEach fun h => h.unleased

theorem releaseAll (h : s.Canonical) : s.releaseAll.Canonical := h.forEach fun h => h.when fun h => h.releaseLane

theorem isolate (h : s.Canonical) : s.isolate.Canonical := .ite h h.releaseAll.setRole.ev.raiseLive

theorem loseLease {l abort peer} (h : s.Canonical) : (s.loseLease l abort peer).Canonical :=
  .ite h
    (h.forEach (fun h => h.leaseSpoils)
      |>.when (fun h => h.abortLane)
      |>.setF.setB.modLane.forEach (fun h => h.unleased)
      |>.ev.raise.when (fun h => h.isolate))

theorem leaseFrame {l op epoch hold} (h : s.Canonical) : (s.leaseFrame l op epoch hold).Canonical := h.emitHeld

theorem leaseRequest {l hold} (h : s.Canonical) : (s.leaseRequest l hold).Canonical := .ite h.leaseFrame.setF.modLane h

theorem leaseRenew {l hold} (h : s.Canonical) : (s.leaseRenew l hold).Canonical := .ite h.leaseFrame.modLane h

theorem leaseRenewed {l} (h : s.Canonical) : (s.leaseRenewed l).Canonical := .ite h.setLane h

theorem leaseGranted {l epoch} (h : s.Canonical) : (s.leaseGranted l epoch).Canonical := .ite h.setLane.setF.wr.ev h

theorem leaseExpire {l} (h : s.Canonical) : (s.leaseExpire l).Canonical := by
  dsimp only [State.leaseExpire]
  split
  · exact .ite h.loseLease h
  · exact h

theorem laneLost {l} (h : s.Canonical) : (s.laneLost l).Canonical :=
  .ite (h.when fun h => h.forEach fun h => h.leaseSpoils).abortLane.ev.raiseLive.modLane.loseLease.setF.negStart h

theorem laneDisable {l} (h : s.Canonical) : (s.laneDisable l).Canonical := by
  unfold State.laneDisable
  exact h.leaseSpoils.abortLane.setB.setF.lineStop.setF.modLane

theorem laneEnable {l} (h : s.Canonical) : (s.laneEnable l).Canonical :=
  .ite ((h.ev.when fun h => h.raise).when fun h => h.raise) (h.setB.foldl fun h => h.wn).modHead.clearHolds.negStart

theorem cxGo {l op} (h : s.Canonical) : (s.cxGo l op).Canonical := .ite h (.ite h.setB.sendCtrl h.setB.sendCtrl)

theorem ctrlReply {l tag status data} (h : s.Canonical) : (s.ctrlReply l tag status data).Canonical := by
  dsimp only [State.ctrlReply]
  split
  · exact h
  · split
    · exact .ite h.modLane.setB.setF.wr h.modLane.setB.setF
    · exact h.modLane.setB.setF
    · exact h.modLane.levelReply
    · exact h.modLane.levelReply
    · exact h.modLane

theorem ctrlTimeout {l} (h : s.Canonical) : (s.ctrlTimeout l).Canonical := by
  dsimp only [State.ctrlTimeout]
  split
  · exact h
  · split
    · exact h.modLane.setB.setF.ev.raise
    · exact h.modLane.setB.setF.ev.raise
    · exact h.modLane

theorem modSlice {l period g} (h : s.Canonical) : (s.modSlice l period g).Canonical := h.modLane

theorem fireTx {l hold} (h : s.Canonical) : (s.fireTx l hold).Canonical := by
  refine .ite h ?_
  split
  · exact h
  · exact h.emitHeld.modSlice

theorem syncTx {l} (h : s.Canonical) : (s.syncTx l).Canonical := by
  refine .ite h ?_
  split
  · exact h
  · exact .ite ((h.when fun h => h.finishFrame).emit.when fun h => h.gateApply).modLane
        ((h.when fun h => h.finishFrame).emit.when fun h => h.gateApply).modSlice

theorem idleTx {l hold} (h : s.Canonical) : (s.idleTx l hold).Canonical := h.when fun h => h.emitHeld

theorem renewedRx {l epoch} (h : s.Canonical) : (s.renewedRx l epoch).Canonical := .ite h.leaseRenewed h

theorem releasedRx {l} (h : s.Canonical) : (s.releasedRx l).Canonical := .ite h.setF h

theorem verifyFrame {l payload} (h : s.Canonical) : (s.verifyFrame l payload).Canonical := .ite h.badFrame (h.when fun h => h.verifyRx)

/-! The firing pipelines -/

theorem inhibit {k cause} (h : s.Canonical) : (s.inhibit k cause).Canonical :=
  .ite h (.ite h.modHead (h.abortLane.inhibitTests.ev.setB.setF.incSat.modHead.forEach fun h => h.spoil).raise)

theorem derateReq {k} (h : s.Canonical) : (s.derateReq k).Canonical := h.modDom

theorem tempLimits {k} (h : s.Canonical) : (s.tempLimits k).1.Canonical := by
  dsimp only [State.tempLimits]
  exact h.pair.modHead

theorem evalTemp {k ts} (h : s.Canonical) : (s.evalTemp k ts).Canonical :=
  .ite h.setF ((h.setF.tempLimits.when fun h => h.ev.raise.derateReq).when fun h => h.inhibit)

theorem supplyWin {k} (h : s.Canonical) : (s.supplyWin k).1.Canonical := by
  dsimp only [State.supplyWin]
  exact h.pair.modHead

theorem supplySense {k vm} (h : s.Canonical) : (s.supplySense k vm).Canonical := by
  unfold State.supplySense
  extract_lets s₁
  have h₁ : s₁.Canonical := h.setF
  refine .ite h₁ ?_
  split
  next t lo hi heq =>
    have ht : t.Canonical := .ofFst heq h₁.supplyWin
    exact .ite ht.inhibit ht.setF

theorem dataLost {l a b} (h : s.Canonical) : (s.dataLost l a b).Canonical := by
  refine (h.foldl fun h => ?_).ev.incSat.raise
  split
  · exact .ite h h.spoil
  · exact h

theorem senseRx {l bs} (h : s.Canonical) : (s.senseRx l bs).Canonical :=
  .ite h.ev.raise
    (h.when (fun h => h.dataLost)
      |>.when (fun h => .ite h.ev.raise h.dataLost)
      |>.when (fun h => h.modLane)
      |>.putBytes.pair.modHead.modHead.supplySense.evalTemp)

theorem riseHead {k} (h : s.Canonical) : (s.riseHead k).Canonical := (h.foldl fun h => h.wn).modHead.evalTemp

theorem clrInhibit {k} (h : s.Canonical) : (s.clrInhibit k).Canonical :=
  .ite h (.ite (h.tempLimits.supplyWin.when fun h => h.modHead) h.tempLimits.supplyWin.ev)

theorem fhCfgError {k} (h : s.Canonical) : (s.fhCfgError k).Canonical := h.ev.raise

theorem committed {ctl} (h : s.Canonical) : (s.committed ctl).Canonical := h.wn

theorem disarm {ctl} (h : s.Canonical) : (s.disarm ctl).Canonical := h.setB

theorem fhCommit {k} (h : s.Canonical) : (s.fhCommit k).Canonical := .ite h (.ite h.modHead.committed h.disarm.fhCfgError)

theorem fhCommits {d} (h : s.Canonical) : (s.fhCommits d).Canonical := h.forEach fun h => h.fhCommit

theorem headTakeUp {k p first} (h : s.Canonical) : (s.headTakeUp k p first).Canonical :=
  (((h.when fun h => h.inhibit).when fun h => h.inhibit).when fun h => h.setB.modHead).when fun h => h.wn

theorem entryError {n} (h : s.Canonical) : (s.entryError n).Canonical := ((h.when fun h => h.ev).when fun h => h.ev).setF.raise

theorem degraded {id lost} (h : s.Canonical) : (s.degraded id lost).Canonical := by
  dsimp only [State.degraded]
  split
  · exact h
  · exact h.modItem

theorem dutyBack {l c j fires} (h : s.Canonical) : (s.dutyBack l c j fires).Canonical := .ite h (.ite h h.writeMem)

theorem countDrops {l fire} (h : s.Canonical) : (s.countDrops l fire).Canonical := by
  unfold State.countDrops
  exact h.modHead

theorem countInk {l fire} (h : s.Canonical) : (s.countInk l fire).Canonical := by
  unfold State.countInk
  exact h.when fun h => h.wr64

theorem dotEffects {l c d} (h : s.Canonical) : (s.dotEffects l c d).Canonical := by
  dsimp only [State.dotEffects]
  split
  · exact (h.incSat.incSat.incSat.incSat.incSat.foldl fun h => h.entryError).foldl fun h => h.raise
  · exact h.incSat.incSat.incSat.incSat.incSat.foldl (fun h => h.entryError)
        |>.foldl (fun h => h.raise)
        |>.when (fun h => h.degraded.foldl fun h => h.raise)
        |>.modVLane

theorem checkDuty {k} (h : s.Canonical) : (s.checkDuty k).Canonical := by
  unfold State.checkDuty
  exact h.pair.modHead

theorem budgetAdd {l c} (h : s.Canonical) : (s.budgetAdd l c).Canonical := h.when fun h => h.wn.when fun h => h.ev.raise.derateReq

theorem handSlice {l c} (h : s.Canonical) : (s.handSlice l c).Canonical :=
  (h.modSlice.dotEffects.foldl fun h => h.dutyBack).countDrops.when fun h => h.countInk

theorem handover {l} (h : s.Canonical) : (s.handover l).Canonical := by
  dsimp only [State.handover]
  split
  · exact h.handSlice
  · exact h

theorem senseFrame {l payload} (h : s.Canonical) : (s.senseFrame l payload).Canonical := .ite h.badFrame (h.when fun h => h.senseRx)

theorem riseAll (h : s.Canonical) : s.riseAll.Canonical := .ite (h.keep.forEach fun h => h.riseHead) h

/-! Swaps of calibration sets -/

theorem swapped {x} (h : s.Canonical) : (s.swapped x).Canonical := by
  dsimp only [State.swapped]
  split
  · exact (h.keep.forEach fun h => .ite h.setF.wr h).engEvents
  · exact (h.keep.forEach fun h => .ite h.setF.wr h).ev

theorem nzSetWrite (h : s.Canonical) : s.nzSetWrite.Canonical := by
  unfold State.nzSetWrite
  exact h.forEach fun h => h.writeNozzle

theorem nzSetsDone {d} (h : s.Canonical) : (s.nzSetsDone d).Canonical := h.foldl fun h => h.nzSetWrite.swapped

/-! The DDR and the memory windows -/

theorem eccError {uncorrectable byScrub a} (h : s.Canonical) : (s.eccError uncorrectable byScrub a).Canonical := h.wr.wr64.incSat.raise

theorem eccCorrect {byScrub b} (h : s.Canonical) : (s.eccCorrect byScrub b).Canonical := h.keep.eccError

theorem eccRead {a n} (h : s.Canonical) : (s.eccRead a n).Canonical := (h.forEach fun h => h.eccCorrect).forEach fun h => h.eccError

theorem ddrWrite {a bs} (h : s.Canonical) : (s.ddrWrite a bs).Canonical := h.keep.eccRead.writeMem

theorem upset {xs} (h : s.Canonical) : (s.upset xs).Canonical := h.foldl fun h => .ite h (.ite h.keep (.ite h h.keep))

theorem winStore {o bs} (h : s.Canonical) : (s.winStore o bs).Canonical := .ite h.writeMem.writeMem h.writeMem

theorem nozzleWrites {o bs} (h : s.Canonical) : (s.nozzleWrites o bs).Canonical := by
  fun_induction State.nozzleWrites s o bs with
  | case1 s o b0 b1 b2 b3 b4 b5 b6 b7 rest ih => exact ih h.writeNozzle
  | case2 s o bs hbs => exact h

theorem deviceWrite {a bs} (h : s.Canonical) : (s.deviceWrite a bs).Canonical := .ite h.ddrWrite (.ite h.nozzleWrites.winStore h.winStore)

theorem ddrTrain {m} (h : s.Canonical) : (s.ddrTrain m).Canonical := .ite h h.setF.setF.setF

theorem trainDone {m pass step cap} (h : s.Canonical) : (s.trainDone m pass step cap).Canonical :=
  .ite h (.ite h.setF.setF h.setF.setF.raise)

theorem scrubStep {a err} (h : s.Canonical) : (s.scrubStep a err).Canonical :=
  .ite h (.ite (h.when fun h => h.upset).eccError (.ite (h.when fun h => h.upset).eccCorrect (h.when fun h => h.upset)))

/-! Device rings -/

theorem ringEcc {c count n} (h : s.Canonical) : (s.ringEcc c count n).Canonical := h.foldl fun h => h.eccRead

theorem ringWrite {c count bs} (h : s.Canonical) : (s.ringWrite c count bs).Canonical := h.ddrWrite.ddrWrite

theorem chMarks {c} (h : s.Canonical) : (s.chMarks c).1.Canonical := by
  dsimp only [State.chMarks]
  exact h.pair.modDma

theorem showChannel {c} (h : s.Canonical) : (s.showChannel c).Canonical := h.setF.setF.setF

theorem paceChannel {c} (h : s.Canonical) : (s.paceChannel c).Canonical := .ite h.showChannel h.chMarks.setDma.showChannel

/-! Requests to the host -/

theorem aerError {b} (h : s.Canonical) : (s.aerError b).Canonical := h.keep.when fun h => h.emit

theorem pcieEvent {bit} (h : s.Canonical) : (s.pcieEvent bit).Canonical := by
  refine .when ?_ fun h => h.raise
  split
  · exact h.wr.aerError
  · exact h.wr

theorem setIntake {k v} (h : s.Canonical) : (s.setIntake k v).Canonical := ⟨h.mem, h.regs⟩

theorem served {p} (h : s.Canonical) : (s.served p).Canonical := ⟨h.mem, h.regs⟩

theorem arbitrate {n} (h : s.Canonical) : (State.arbitrate n s).Canonical := by
  induction n generalizing s with
  | zero => exact h
  | succ n ih =>
    dsimp only [State.arbitrate]
    split
    · exact ih h.modDma.hostRead.served.showChannel
    · refine .ite ?_ h
      split
      · exact .ite (ih h.setIntake.hostRead.served) h
      · exact h

/-! Job queues -/

theorem drain {k} (h : s.Canonical) : (s.drain k).Canonical := h.setB

theorem keepTail {j} (h : s.Canonical) : (s.keepTail j).Canonical := h.when fun h => h.modDom

theorem freeSlot {k slot} (h : s.Canonical) : (s.freeSlot k slot).Canonical := by
  dsimp only [State.freeSlot]
  split
  · exact .ite h.keepTail.keep.drain h
  · exact h

theorem writeCpl {k n} (h : s.Canonical) : (State.writeCpl k n s).Canonical := by
  induction n generalizing s with
  | zero => exact h
  | succ n ih =>
    dsimp only [State.writeCpl]
    split
    · exact h
    · refine .ite h ?_
      split
      · exact h.keep
      · exact ih h.hostWrite.setF.msix.keep.modJob.freeSlot

theorem cqStall {k} (h : s.Canonical) : (s.cqStall k).Canonical := by
  refine .ite h (h.forEach fun h => ?_)
  split
  · exact h.when fun h => h.modJob.ev
  · exact h

theorem writeWaiting {k} (h : s.Canonical) : (s.writeWaiting k).Canonical := h.writeCpl.cqStall

theorem release {k slot} (h : s.Canonical) : (s.release k slot).Canonical := by
  unfold State.release
  exact h.modJob.keep.writeWaiting

theorem readItemArray {k d} (h : s.Canonical) : (s.readItemArray k d).Canonical := h.setIntake.arbitrate

theorem takeStep {k} (h : s.Canonical) : (s.takeStep k).Canonical := by
  dsimp only [State.takeStep]
  split
  · exact h.readItemArray
  · exact h.setIntake.hostRead.served.arbitrate

theorem jobIntake (h : s.Canonical) : s.jobIntake.Canonical := by
  dsimp only [State.jobIntake]
  split
  · exact h.keep.takeStep
  · exact h

theorem enterJob {k j d} (h : s.Canonical) : (s.enterJob k j d).Canonical := h.writeMem.keep.setIntake.setF.engEvent.drain

theorem releaseDone {k} (h : s.Canonical) : (s.releaseDone k).Canonical := h.foldl fun h => h.release

theorem refuse {k j d} (h : s.Canonical) : (s.refuse k j d).Canonical := h.enterJob.ev.setF.raise.noteDone.releaseDone

theorem refuseJob {k code d} (h : s.Canonical) : (s.refuseJob k code d).Canonical := h.refuse

theorem refuseUnread {k} (h : s.Canonical) : (s.refuseUnread k).Canonical := h.refuse

theorem enterItems {j d l} (h : s.Canonical) : (s.enterItems j d l).Canonical := by
  induction l generalizing s with
  | nil => exact h
  | cons e l ih => exact ih ⟨h.mem, h.regs⟩

theorem descReturn {k ret} (h : s.Canonical) : (s.descReturn k ret).Canonical := by
  refine .ite h ?_
  split
  · exact h.pcieEvent.refuseUnread
  · exact h.pcieEvent.refuseUnread
  · exact .ite h.refuseJob (.ite h.readItemArray h.setIntake)

theorem completeIntake {k d items stream} (h : s.Canonical) : (s.completeIntake k d items stream).Canonical :=
  .ite h.refuseJob (.ite h.setIntake (.ite h.setIntake.arbitrate h.enterItems.enterJob))

theorem itemsReturn {k ret} (h : s.Canonical) : (s.itemsReturn k ret).Canonical := by
  dsimp only [State.itemsReturn]
  split
  · refine .ite h ?_
    split
    · exact h.pcieEvent.refuseJob
    · exact h.pcieEvent.refuseJob
    · exact .ite h.setIntake.arbitrate h.completeIntake
  · refine .ite h ?_
    split
    · exact h.pcieEvent.refuseJob
    · exact h.pcieEvent.refuseJob
    · exact .ite h.completeIntake h.setIntake.arbitrate
  · exact h

theorem abandonIntake {k} (h : s.Canonical) : (s.abandonIntake k).Canonical := h.setIntake.drain

theorem abortJob {j} (h : s.Canonical) : (s.abortJob j).Canonical := (h.keep.modJob.when fun h => h.ownRecord).spoilWhere

theorem jqDone {req k slot abort} (h : s.Canonical) : (s.jqDone req k slot abort).Canonical := by
  refine .ite h.ev.raise ?_
  split
  · exact h.raise
  · exact .ite h.raise (h.modJob.when fun h => h.abortJob).noteDone.freeSlot

theorem jqCfgError {k} (h : s.Canonical) : (s.jqCfgError k).Canonical := h.ev.raise

theorem idxClr {k} (h : s.Canonical) : (s.idxClr k).Canonical := .ite h.wn.wn.wn.wn h.jqCfgError

theorem jqCtrlWrite {k new clr} (h : s.Canonical) : (s.jqCtrlWrite k new clr).Canonical :=
  .ite
    (.ite (.drain (.setB (.when (.when (.ite h h.wr) fun h => h.setB.abandonIntake) fun h => h.idxClr)))
      (.jqCfgError (.when (.when (.ite h h.wr) fun h => h.setB.abandonIntake) fun h => h.idxClr)))
    (.when (.when (.ite h h.wr) fun h => h.setB.abandonIntake) fun h => h.idxClr)

theorem jqTailWrite {k new} (h : s.Canonical) : (s.jqTailWrite k new).Canonical := .ite h (.ite h.setF h.ev.raise)

theorem jqCqHeadWrite {k new} (h : s.Canonical) : (s.jqCqHeadWrite k new).Canonical := .ite h.setF.writeWaiting h.ev.raise

theorem releaseNext {k} (h : s.Canonical) : (s.releaseNext k).Canonical := by
  dsimp only [State.releaseNext]
  split
  · exact h.release
  · exact h.writeWaiting

/-! Raster streams -/

theorem rasConsume {n} (h : s.Canonical) : (s.rasConsume n).Canonical := .ite h.setF.setStrm.modDma.paceChannel h

theorem rasTaken {n} (h : s.Canonical) : (s.rasTaken n).Canonical := h.setStrm.rasConsume

theorem rasCfgError {ns info} (h : s.Canonical) : (s.rasCfgError ns info).Canonical := (h.forEach fun h => h.ev).raise

theorem streamWrite {n new} (h : s.Canonical) : (s.streamWrite n new).Canonical :=
  .ite h (.ite (.ite h.wr.setF.setStrm.setB h.rasCfgError) (.ite h.wr.setB h.rasCfgError))

theorem laneRasterWrite {l a new} (h : s.Canonical) : (s.laneRasterWrite l a new).Canonical := .ite h.wr h.rasCfgError

theorem scanWrite {d new} (h : s.Canonical) : (s.scanWrite d new).Canonical := .ite h.wr h.rasCfgError

/-! DMA channels -/

theorem modDesc {c i g} (h : s.Canonical) : (s.modDesc c i g).Canonical := h.modDma

theorem beginDesc {c i d} (h : s.Canonical) : (s.beginDesc c i d).Canonical := by
  refine .ite ?_ h.modDesc
  split
  · exact h.modDesc.raise
  · exact h.modDesc

theorem showProd {c} (h : s.Canonical) : (s.showProd c).Canonical := .ite h (.ite h (h.setF.forEach fun h => h.rasConsume))

theorem showCons {c} (h : s.Canonical) : (s.showCons c).Canonical := .ite h h.setF

theorem fillSpan {c i d} (h : s.Canonical) : (s.fillSpan c i d).Canonical := .ite h h.ringWrite.modDma.modDesc

theorem runTurns {c n} (h : s.Canonical) : (State.runTurns c n s).Canonical := by
  induction n generalizing s with
  | zero => exact h
  | succ n ih =>
    dsimp only [State.runTurns]
    split
    · exact h
    · exact .ite (.ite h (ih h.beginDesc)) (.ite h.fillSpan (ih h.fillSpan))

theorem endChain {c} (h : s.Canonical) : (s.endChain c).Canonical := by
  refine .ite ?_ h
  split
  · exact h.setDma.ev
  · exact h.setDma.ev.raise
  · exact h.setDma

theorem landBytes {c i d bs} (h : s.Canonical) : (s.landBytes c i d bs).Canonical := by
  dsimp only [State.landBytes]
  split
  · exact h.ringWrite.modDesc
  · split
    · exact h.raise.modDesc
    · exact h.deviceWrite.modDesc

theorem deviceBytes {c d r} (h : s.Canonical) : (s.deviceBytes c d r).2.2.Canonical := by
  dsimp only [State.deviceBytes]
  split
  · exact h.ringEcc
  · exact .ite h.eccRead h

theorem passData {c i n} (h : s.Canonical) : (State.passData c i n s).Canonical := by
  induction n generalizing s with
  | zero => exact h
  | succ n ih =>
    dsimp only [State.passData]
    split
    · exact h
    · split
      · exact h
      · split
        · exact h
        · exact ih h.modDesc
        · exact .ite (ih h.modDesc) (.ite (.ite h (ih h.hostWrite.modDesc.modDesc)) (ih h.landBytes.modDesc))

theorem passAll {c} (h : s.Canonical) : (s.passAll c).Canonical := h.forEach fun h => h.passData

theorem endDesc {c i d refused} (h : s.Canonical) : (s.endDesc c i d refused).Canonical :=
  h.modDma.when (fun h => h.incSat.wr64.ev)
    |>.when (fun h => h.raise)
    |>.when (fun h => h.hostWrite)
    |>.when (fun h => h.incSat.ev.raise)
    |>.wn.when (fun h => h.msix)

theorem endAll {c n} (h : s.Canonical) : (State.endAll c n s).Canonical := by
  induction n generalizing s with
  | zero => exact h
  | succ n ih =>
    dsimp only [State.endAll]
    split
    · exact ih h.endDesc
    · exact h

theorem settle {c} (h : s.Canonical) : (s.settle c).Canonical :=
  (h.passAll.runTurns.showProd.showCons.when fun h => h.endAll).endChain.paceChannel

theorem fillOn {c} (h : s.Canonical) : (s.fillOn c).Canonical := h.when fun h => h.settle

theorem pump {c} (h : s.Canonical) : (s.pump c).Canonical := h.settle.arbitrate

theorem issueRequest {c} (h : s.Canonical) : (s.issueRequest c).Canonical := by
  unfold State.issueRequest
  extract_lets t n
  have ht : t.Canonical := h.pump
  clear_value t
  split
  · exact ht
  · split
    · exact ht
    · exact (State.Canonical.ite ht ht.hostRead).modDesc.modDma.served.pump

theorem arrive {c i j st err} (h : s.Canonical) : (s.arrive c i j st err).Canonical := h.modDesc

theorem dataReturn {c n ret} (h : s.Canonical) : (s.dataReturn c n ret).Canonical := by
  dsimp only [State.dataReturn]
  split
  · exact h
  · refine .ite ?_ ?_
    · split
      · exact h
      · exact .pump (.ite h.deviceBytes.arrive h.deviceBytes.arrive)
    · split
      · exact h.arrive.pump
      · exact h.pcieEvent.arrive.pump
      · exact h.pcieEvent.arrive.pump

theorem fetchError {c} (h : s.Canonical) : (s.fetchError c).Canonical := h.modDma.pump

theorem fetchReturn {c ret} (h : s.Canonical) : (s.fetchReturn c ret).Canonical := by
  refine .ite h ?_
  split
  · exact .ite h.modDma.pcieEvent.fetchError h.modDma.pcieEvent.pump
  · exact .ite h.modDma.pcieEvent.fetchError h.modDma.pcieEvent.pump
  · exact .ite h.modDma.pump (.ite h.modDma.modDma.pump (.pump (.ite h.modDma.modDma.modDma h.modDma.modDma)))

theorem completeDesc {c refused} (h : s.Canonical) : (s.completeDesc c refused).Canonical := by
  refine .ite h.pump ?_
  split
  · exact h.pump.endDesc.served.pump
  · exact h.pump

theorem abortChannel {c} (h : s.Canonical) : (s.abortChannel c).Canonical := .ite h h.modDma.pump

theorem endChannel {c} (h : s.Canonical) : (s.endChannel c).Canonical := .ite h h.modDma.ev.settle

theorem dmaCfgError {c} (h : s.Canonical) : (s.dmaCfgError c).Canonical := h.ev.raise

theorem goChannel {c} (h : s.Canonical) : (s.goChannel c).Canonical := .ite h.modDma.pump h.dmaCfgError

theorem kickChannel {c} (h : s.Canonical) : (s.kickChannel c).Canonical := .ite h.modDma.pump h

theorem flushChannel {c} (h : s.Canonical) : (s.flushChannel c).Canonical := .ite h.modDma.pump h

theorem chCtrlWrite {c new} (h : s.Canonical) : (s.chCtrlWrite c new).Canonical := by
  unfold State.chCtrlWrite
  exact .when (.when (.ite h.wn.abortChannel (h.wn.when fun h => h.goChannel)) fun h => h.kickChannel) fun h => h.flushChannel

theorem chSetWrite {c a new} (h : s.Canonical) : (s.chSetWrite c a new).Canonical := .ite (.ite h h.dmaCfgError) h.wr.modDma

theorem chSetWrite64 {c a v} (h : s.Canonical) : (s.chSetWrite64 c a v).Canonical := .ite (.ite h h.dmaCfgError) h.wr64.modDma

theorem chCountWrite {c prod v} (h : s.Canonical) : (s.chCountWrite c prod v).Canonical := .ite h (.ite h.setF.pump h.dmaCfgError)

/-! Reject stations -/

theorem rejShow {r} (h : s.Canonical) : (s.rejShow r).Canonical := by
  unfold State.rejShow
  exact h.setF.setB.modRej

theorem rejQueue {i line now} (h : s.Canonical) : (s.rejQueue i line now).Canonical :=
  .ite h (h.modRej.when fun h => h.spoil.ev.raise).rejShow

theorem rejRefs {d p} (h : s.Canonical) : (s.rejRefs d p).Canonical := h.forEach fun h => .ite h.modRej h

theorem rejDivert {r item} (h : s.Canonical) : (s.rejDivert r item).Canonical := .ite h.modRej.ev.incSat.rejShow h

theorem decisionLate {r item} (h : s.Canonical) : (s.decisionLate r item).Canonical := h.spoil.ev.incSat.raise.modItem

theorem rejStart {r e} (h : s.Canonical) : (s.rejStart r e).Canonical := by
  dsimp only [State.rejStart]
  split
  · exact h.modRej
  · exact ((h.when fun h => h.decisionLate).modItem.modRej.when fun h => h.rejDivert).when fun h => h.dropItem

theorem ownWindows (h : s.Canonical) : s.ownWindows.Canonical := h.foldl fun h => h.decisionLate.rejDivert

theorem rejAdvance {r} (h : s.Canonical) : (s.rejAdvance r).Canonical := (h.foldl fun h => h.rejStart).modRej.rejShow

theorem rejMoved {c} (h : s.Canonical) : (s.rejMoved c).Canonical := h.forEach fun h => .ite h.rejAdvance h

theorem rejWrite {r a new} (h : s.Canonical) : (s.rejWrite r a new).Canonical := .ite h.wr h.ev.raise

/-! Dot-clock domains -/

theorem dcdCfgError {d} (h : s.Canonical) : (s.dcdCfgError d).Canonical := h.ev.raise

theorem dcdCommit {d} (h : s.Canonical) : (s.dcdCommit d).1.Canonical := by
  dsimp only [State.dcdCommit]
  split
  · exact h
  · split
    · exact h.modDom.committed
    · exact h.disarm.dcdCfgError

theorem fbCfgError {c} (h : s.Canonical) : (s.fbCfgError c).Canonical := h.ev.raise

theorem cmpCommit {c k} (h : s.Canonical) : (s.cmpCommit c k).Canonical := .ite h (.ite h.disarm.fbCfgError h.setCmp.committed)

theorem unitFollow {d} (h : s.Canonical) : (s.unitFollow d).Canonical := .ite h h.setCmp.wn.wrS64.wr64

theorem unitOwn {d own} (h : s.Canonical) : (s.unitOwn d own).Canonical := by
  refine .ite h (.ite h.setB.setF.unitFollow (.ite h ?_))
  split
  · exact h.setF.unitFollow
  · exact h.setB.setB.cmpCommit

theorem speedShow {d} (h : s.Canonical) : (s.speedShow d).Canonical := h.setF.setF

theorem syncsOut {l} (h : s.Canonical) : (s.syncsOut l).Canonical := h.foldl fun h => h.syncTx

theorem dcdStart {d committed} (h : s.Canonical) : (s.dcdStart d committed).Canonical := by
  unfold State.dcdStart
  exact h.modDom.keep.forEach (fun h => h.syncsOut.modLane)
      |>.forEach (fun h => h.modVLane)
      |>.forEach (fun h => h.modStrm)
      |>.setF.setF.speedShow.unitOwn.parkClash

theorem dcdGo {d} (h : s.Canonical) : (s.dcdGo d).Canonical :=
  .ite h.dcdCfgError (.ite h.dcdCommit.dcdStart (.ite h.dcdCfgError h.dcdCommit.dcdCfgError))

theorem dcdStop {d} (h : s.Canonical) : (s.dcdStop d).Canonical := .ite h h.setF

theorem dcdCtrlWrite {d new} (h : s.Canonical) : (s.dcdCtrlWrite d new).Canonical :=
  .ite (.dcdStop (.when (.ite h (.ite h.setF h.ev)) fun h => h.modDom))
    (.ite (.dcdGo (.when (.ite h (.ite h.setF h.ev)) fun h => h.modDom)) (.when (.ite h (.ite h.setF h.ev)) fun h => h.modDom))

theorem dcdSetWrite {d a new} (h : s.Canonical) : (s.dcdSetWrite d a new).Canonical := .ite h.wr h.ev

theorem dcdArm {d arm} (h : s.Canonical) : (s.dcdArm d arm).Canonical := .ite (.ite h.setB h.disarm.dcdCfgError) h.disarm

theorem takeOrigin {d} (h : s.Canonical) : (s.takeOrigin d).Canonical := .ite (h.setB.modDom.when fun h => h.setF).unitFollow h

theorem pacingLoss {d} (h : s.Canonical) : (s.pacingLoss d).Canonical := h.spoilWhere.ev.raise

theorem pacingFault {c} (h : s.Canonical) : (s.pacingFault c).Canonical := h.forEach fun h => h.when fun h => h.pacingLoss

theorem pacingTurn {c} (h : s.Canonical) : (s.pacingTurn c).Canonical := h.forEach fun h => h.when fun h => h.pacingLoss

theorem bndStep {d i committed} (h : s.Canonical) : (s.bndStep d i committed).Canonical :=
  .ite h.setDom (((h.setDom.when fun h => h.takeOrigin).when fun h => h.when fun h => h.setF).unitFollow.when fun h => h.wn)

theorem bndMark {d p} (h : s.Canonical) : (s.bndMark d p).Canonical := h.wn.wr64.engEvents

theorem bndBlock {d i} (h : s.Canonical) : (s.bndBlock d i).Canonical :=
  .ite h (.ite h.setF.setB.setF.modDom (h.setF.setB.setF.modDom.forEach fun h => h.modLane).spoilWhere.raise)

theorem overspeedItem {id} (h : s.Canonical) : (s.overspeedItem id).1.Canonical := by
  dsimp only [State.overspeedItem]
  split
  · exact h
  · exact h.modItem

theorem bndLag {d p lag} (h : s.Canonical) : (s.bndLag d p lag).Canonical := by
  unfold State.bndLag
  extract_lets s₁ s₂ s₃ ids s₄
  have h₃ : s₃.Canonical := h.setF.ev.raise.modDom
  have h₄ : s₄.Canonical := by
    unfold s₄
    refine .ite ?_ h.setF
    split
    next t stop heq =>
      refine .when (.ofFst heq (.foldPair h₃ fun h => ?_)) fun h => h.raise
      split
      next heq' => exact .ofFst heq' h.overspeedItem
  exact .ite h (.ite h₄.ev.raise h₄)

theorem bndSpeed {d fill} (h : s.Canonical) : (s.bndSpeed d fill).Canonical := (h.when fun h => h.ev).setDom.speedShow

theorem speedTick {d} (h : s.Canonical) : (s.speedTick d).Canonical := h.setDom.speedShow

theorem pipeDone {id pipe} (h : s.Canonical) : (s.pipeDone id pipe).Canonical := by
  dsimp only [State.pipeDone]
  split
  · exact .ite h.modItem.modItem.engEvents h.modItem
  · exact h.modItem

theorem linesGone {gone} (h : s.Canonical) : (s.linesGone gone).Canonical := by
  refine h.keep.foldl fun h => ?_
  split
  · exact h.when fun h => h.pipeDone
  · exact h

theorem linesFired {d p ph} (h : s.Canonical) : (s.linesFired d p ph).Canonical := h.linesGone

theorem heldFired {d} (h : s.Canonical) : (s.heldFired d).Canonical := .ite h.linesFired.judgeAll h

theorem bndStopped {d} (h : s.Canonical) : (s.bndStopped d).Canonical := (h.unitOwn.setF.linesGone.forEach fun h => h.modLane).spoilWhere

theorem bndLate {d p} (h : s.Canonical) : (s.bndLate d p).Canonical := by
  refine h.forEach fun h => ((h.foldl fun h => ?_).when fun h => h.dropFrame).modLane
  split
  · exact h.ev.raise.when fun h => h.spoil
  · exact h.ev.raise

theorem lineUsed {d k line} (h : s.Canonical) : (s.lineUsed d k line).Canonical := ⟨h.mem, h.regs⟩

theorem enterPrinting {i line p} (h : s.Canonical) : (s.enterPrinting i line p).Canonical :=
  ((h.modItem.when fun h => h.spoil).when fun h => h.spoil).rejQueue

theorem issueLate {t} (h : s.Canonical) : (s.issueLate t).Canonical := by
  dsimp only [State.issueLate]
  split
  · exact .ite h.spoil.ev.raise h
  · exact h

theorem missed {p t} (h : s.Canonical) : (s.missed p t).Canonical := h.when fun h => h.issueLate

theorem passOver {d p k} (h : s.Canonical) : (s.passOver d p k).Canonical := h.foldl fun h => h.issueLate

theorem keepLine {d n r bs mine} (h : s.Canonical) : (s.keepLine d n r bs mine).Canonical := ⟨h.mem, h.regs⟩

theorem hashLines {d} (h : s.Canonical) : (s.hashLines d).Canonical := h.forEach fun h => .ite h h.modStrm.keepLine

theorem printLine {d p id line} (h : s.Canonical) : (s.printLine d p id line).Canonical := .ite h (h.modItem.forEach fun h => h.keepLine)

theorem lineTake {d k p seq x} (h : s.Canonical) : (s.lineTake d k p seq x).Canonical := by
  unfold State.lineTake
  refine .missed ?_
  split
  · exact h.lineUsed.keep
  · exact .ite h.lineUsed.keep ((h.lineUsed.keep.when fun h => h.enterPrinting).modItem.when fun h => h.printLine)

theorem lineBad {k x} (h : s.Canonical) : (s.lineBad k x).Canonical := by
  refine .raise ?_
  split
  · exact h.spoil
  · exact h

theorem lineSpent {d k seq line} (h : s.Canonical) : (s.lineSpent d k seq line).Canonical := by
  unfold State.lineSpent
  exact h.lineUsed.keep

theorem unqueue {k seq} (h : s.Canonical) : (s.unqueue k seq).Canonical := h.keep.when fun h => h.engEvent

theorem takeLines {d k p n} (h : s.Canonical) : (State.takeLines d k p n s).Canonical := by
  induction n generalizing s with
  | zero => exact h
  | succ n ih =>
    dsimp only [State.takeLines]
    split
    · exact h
    · exact .ite h (.ite (ih h.unqueue.lineBad) (.ite (ih h.unqueue.lineTake) (ih h.unqueue.lineBad.lineSpent)))

theorem bndTake {d p} (h : s.Canonical) : (s.bndTake d p).Canonical := h.forEach fun h => h.takeLines

theorem itemEvent {replay d line n v hold} (h : s.Canonical) : (s.itemEvent replay d line n v hold).Canonical := ⟨h.mem, h.regs⟩

theorem nozzleEvent {d line n v hold} (h : s.Canonical) : (s.nozzleEvent d line n v hold).Canonical := h.logNozzle.itemEvent

theorem logDirty {d} (h : s.Canonical) : (s.logDirty d).Canonical :=
  h.keep.foldl fun h => (h.when fun h => h.nozzleEvent).when fun h => h.nozzleEvent

theorem replayEntries {d} (h : s.Canonical) : (s.replayEntries d).Canonical := by
  unfold State.replayEntries
  exact (h.foldl fun h => h.modJob).modDom.foldl fun h => h.writeNozzle.itemEvent

theorem firstOnLane {i l} (h : s.Canonical) : (s.firstOnLane i l).Canonical := .ite h h.modVLane.modItem

theorem gapEnds {l period} (h : s.Canonical) : (s.gapEnds l period).Canonical := by
  dsimp only [State.gapEnds]
  split
  · exact h
  · exact .ite h h.modVLane.setF

theorem gapTakeUp {l d period i} (h : s.Canonical) : (s.gapTakeUp l d period i).1.Canonical := by
  dsimp only [State.gapTakeUp]
  split
  · exact h.when fun h => h.planGap
  · split
    · exact h.when fun h => h.planGap
    · exact .ite (h.when fun h => h.planGap) (.ite (h.when fun h => h.planGap).finishTest (h.when fun h => h.planGap).modVLane)

theorem sliceFaults {t stream under poisoned} (h : s.Canonical) : (s.sliceFaults t stream under poisoned).Canonical := by
  unfold State.sliceFaults
  extract_lets print u
  have hu : u.Canonical := by
    refine h.when fun h => ?_
    extract_lets v
    have hv : v.Canonical := by
      unfold v
      split
      · exact h.ev.raise
      · exact h.raise
    split
    · exact .ite hv.spoil.modItem hv
    · exact hv
  refine hu.when fun h => ?_
  extract_lets v
  have hv : v.Canonical := by
    unfold v
    split
    · exact h.spoil
    · exact h
  split
  · exact hv.ev.raise
  · exact hv

theorem takeUpLine {l d p r t} (h : s.Canonical) : (s.takeUpLine l d p r t).Canonical := by
  unfold State.takeUpLine
  extract_lets period w it replay s₁ s₂ s₃ bars s₄ rr
  have h₂ : s₂.Canonical := (h.when fun h => h.modLane).headTakeUp
  clear_value it
  have h₃ : s₃.Canonical := by
    unfold s₃
    split
    · exact .ite h₂ h₂.firstOnLane
    · exact h₂
  have h₄ : s₄.Canonical := by
    unfold s₄
    split
    · exact .ite h₃ (h₃.forEach fun h => h.spoil)
    · exact h₃
  split
  next stream data under poisoned _ =>
    extract_lets s₅ s₆ inBad s₇ dead
    have h₅ : s₅.Canonical := by
      unfold s₅
      split
      · exact h₄.when fun h => h.ringEcc
      · exact h₄
    have h₇ : s₇.Canonical := by
      unfold s₇
      split
      · exact h₅.sliceFaults.when fun h => h.spoilWhere
      · exact h₅.sliceFaults
    split
    next u fires testLine heq =>
      have hu : u.Canonical := by
        split at heq
        · split at heq
          · exact .ofFst heq h₇.gapTakeUp
          · exact .ofFst heq h₇
        · exact .ofFst heq h₇
      exact hu.checkDuty.modLane.budgetAdd

theorem passLine {l d r} (h : s.Canonical) : (s.passLine l d r).Canonical := by
  dsimp only [State.passLine]
  split
  · exact h.when fun h => h.ev.raise
  · exact h

theorem takeUp {d p l} (h : s.Canonical) : (s.takeUp d p l).Canonical := by
  refine .gapEnds ?_
  split
  · exact h.gapEnds.takeUpLine
  · exact h.gapEnds.when fun h => h.passLine
  · exact h.gapEnds

theorem disabledSpoils {d p} (h : s.Canonical) : (s.disabledSpoils d p).Canonical := by
  refine h.foldl fun h => ?_
  split
  · exact h.spoil
  · exact h

theorem takeUps {d p} (h : s.Canonical) : (s.takeUps d p).Canonical :=
  (h.replayEntries.logDirty.hashLines.forEach fun h => h.takeUp).disabledSpoils

theorem handAll {d} (h : s.Canonical) : (s.handAll d).Canonical := h.forEach fun h => h.foldl fun h => h.handover

theorem bndRest {d p lag} (h : s.Canonical) : (s.bndRest d p lag).Canonical := by
  unfold State.bndRest
  exact .judgeAll
      (.forEach
        (.rejRefs
          (.forEach
            (.ite (h.linesFired.bndBlock.when fun h => h.bndLag).bndLate.bndSpeed.bndStopped
              (h.linesFired.bndBlock.when (fun h => h.bndLag)
                |>.bndLate.when (fun h => h.bndTake)
                |>.takeUps.bndSpeed.forEach (fun h => h.rasTaken.fillOn))) fun h => h.testTimeouts.gapDeadline)) fun h =>
        h.when fun h => h.rejAdvance)

theorem boundary {d} (h : s.Canonical) : (s.boundary d).Canonical :=
  h.handAll.nzSetsDone.dcdCommit.bndStep.bndMark.fhCommits.mirrorHolds.mirror.bndRest

theorem boundaryEvent {d} (h : s.Canonical) : (s.boundaryEvent d).Canonical := .ite h.boundary h

/-! Calibration at samples and boundaries -/

theorem show16 {x v} (h : s.Canonical) : (s.show16 x v).Canonical := .ite h.setF h.fresh.setF

theorem calBoundary {n} (h : s.Canonical) : (s.calBoundary n).Canonical := by
  dsimp only [State.calBoundary]
  split
  · exact h
  · exact .swapped (.ite h.wr h.wr.wr)

theorem calAbort {reason} (h : s.Canonical) : (s.calAbort reason).Canonical := by
  dsimp only [State.calAbort]
  split
  · exact h
  · exact h.keep.setB.setF.ev.raise

theorem calLost {c} (h : s.Canonical) : (s.calLost c).Canonical := .ite h.calAbort h

theorem calSample {c raw pair d} (h : s.Canonical) : (s.calSample c raw pair d).Canonical := by
  dsimp only [State.calSample]
  split
  · exact h
  · exact .ite h.calAbort (.ite h (.ite h.calAbort (.ite h h.keep)))

/-! Feedback channels -/

theorem cmpHit {c k n} (h : s.Canonical) : (s.cmpHit c k n).Canonical := (h.engEvents.wn.modCmp.when fun h => h.ev.raise).cmpCommit

theorem cmpMoved {c k old new} (h : s.Canonical) : (s.cmpMoved c k old new).Canonical := .ite h.cmpHit h

theorem cmpWrite {c k a new} (h : s.Canonical) : (s.cmpWrite c k a new).Canonical := .ite (.ite h h.ev) h.wr

theorem cmpArm {c k arm} (h : s.Canonical) : (s.cmpArm c k arm).Canonical :=
  .ite (.ite h h.ev) (.ite h.disarm (.ite h.disarm.fbCfgError (.ite h.setB h.setB.cmpCommit)))

theorem emuLag {n} (h : s.Canonical) : (s.emuLag n).Canonical := .ite h (h.wn.modEmu.when fun h => h.ev.raise)

theorem emuStep {n} (h : s.Canonical) : (s.emuStep n).Canonical := .ite (h.when fun h => h.emit).modEmu.emuLag h.emuLag

theorem emuFollow {c} (h : s.Canonical) : (s.emuFollow c).Canonical := h.forEach fun h => h.when fun h => h.emuLag

theorem emuCfgWrite {n new} (h : s.Canonical) : (s.emuCfgWrite n new).Canonical :=
  .ite (.ite h.wr.raise h.wr.setEmu) (.ite h.wr.raise (.ite h.wr.emuLag h.wr.wn.setEmu))

theorem gearWatch {c old new} (h : s.Canonical) : (s.gearWatch c old new).Canonical := h.forEach fun h => h.when fun h => h.modAxis

theorem fbMoved {c old new} (h : s.Canonical) : (s.fbMoved c old new).Canonical :=
  (h.forEach fun h => h.cmpMoved).gearWatch.emuFollow.rejMoved

theorem fbCount {c d at_ turn} (h : s.Canonical) : (s.fbCount c d at_ turn).Canonical :=
  ((h.setPos64.setChan.setB.when fun h => h.setB).when fun h => h.ev.raise.pacingTurn).fbMoved

theorem fbError {c} (h : s.Canonical) : (s.fbError c).Canonical := .ite h.incSat.modChan.ev.raise.pacingFault h.incSat.modChan

theorem accepts {c age} (h : s.Canonical) : (s.accepts c age).1.Canonical := by
  dsimp only [State.accepts]
  split
  · exact h
  · split
    · exact h
    · exact h.fresh

theorem fbEdge {c a b age} (h : s.Canonical) : (s.fbEdge c a b age).Canonical := by
  unfold State.fbEdge
  split
  next t accepted heq =>
    have ht : t.Canonical := .ofFst heq h.accepts
    refine .ite ht (.ite ht.setChan ?_)
    split
    · exact (ht.setChan.when fun h => h.fbCount).when fun h => h.fbError
    · exact .ite ht.setChan ht.setChan.fbCount
    · split
      · exact ht.setChan
      · exact ht.setChan.fbCount
      · exact ht.setChan.fbCount
      · exact ht.setChan.fbError

theorem ampWin {c} (h : s.Canonical) : (s.ampWin c).1.Canonical := by
  dsimp only [State.ampWin]
  exact h.pair.modChan

theorem sigOk {c} (h : s.Canonical) : (s.sigOk c).Canonical := .ite h (h.setB.when fun h => h.setLive)

theorem sampleOut {c} (h : s.Canonical) : (s.sampleOut c).Canonical :=
  .ite h.modChan.setB.setB.modChan.ev.raiseLive.pacingFault.calLost h.modChan

theorem sampleCount {c a} (h : s.Canonical) : (s.sampleCount c a).Canonical := (h.setChan.when fun h => h.fbError).fbCount

theorem fbSample {c sn cs} (h : s.Canonical) : (s.fbSample c sn cs).Canonical :=
  .ite h.calBoundary.calBoundary.show16.show16.calSample
    (.ite h.calBoundary.calBoundary.show16.show16.ampWin.calSample.sampleOut
      (.ite h.calBoundary.calBoundary.show16.show16.ampWin.fresh.sampleCount.calSample
        (.ite h.calBoundary.calBoundary.show16.show16.ampWin.fresh.calSample.modChan.sigOk.sampleCount
          h.calBoundary.calBoundary.show16.show16.ampWin.fresh.calSample.modChan)))

theorem fbZero {c} (h : s.Canonical) : (s.fbZero c).Canonical := h.setPos64.modChan.emuFollow

theorem fbDecide {c mode} (h : s.Canonical) : (s.fbDecide c mode).Canonical := h.setF.setB

theorem detectStart {c} (h : s.Canonical) : (s.detectStart c).Canonical := by
  unfold State.detectStart
  exact h.fbZero.setB.setF.sigOk.modChan

theorem fbOff {c} (h : s.Canonical) : (s.fbOff c).Canonical := by
  unfold State.fbOff
  exact (h.when fun h => h.modChan).calLost.setB.setB.setF.sigOk.modChan

theorem fbOn {c} (h : s.Canonical) : (s.fbOn c).Canonical :=
  .ite h.fbCfgError (.ite h.setB.setB.modChan.detectStart h.setB.setB.modChan.fbDecide)

theorem fbCtrlWrite {c new} (h : s.Canonical) : (s.fbCtrlWrite c new).Canonical :=
  .when (.ite h.fbOn (.ite h.fbOff h)) fun h => h.detectStart

theorem cycleScale {c ip} (h : s.Canonical) : (s.cycleScale c ip).Canonical := .ite h h.setChan

theorem fbCfgWrite {c new} (h : s.Canonical) : (s.fbCfgWrite c new).Canonical := .ite h.setF.ev h.cycleScale.wr

theorem detect {c xs} (h : s.Canonical) : (s.detect c xs).Canonical :=
  .ite h
    (.ite (h.ampWin.calBoundary.calBoundary.foldl fun h => h.calSample).modChan.fbZero.fbDecide
      (.ite (h.ampWin.calBoundary.calBoundary.foldl fun h => h.calSample).modChan.fbZero.fbDecide
        (.ite (h.ampWin.calBoundary.calBoundary.foldl fun h => h.calSample).modChan.ev.raise.fbOff.pacingFault
          (h.ampWin.calBoundary.calBoundary.foldl fun h => h.calSample).modChan)))

theorem fbLoad {c v} (h : s.Canonical) : (s.fbLoad c v).Canonical := .ite h.setB h.setPos64.modChan.setB.emuFollow

theorem fbPosWrite {c v} (h : s.Canonical) : (s.fbPosWrite c v).Canonical := .ite h.fbLoad h.ev

theorem fbCorrect {c diff} (h : s.Canonical) : (s.fbCorrect c diff).Canonical := .ite h.ev h.setPos64.modChan.fbMoved

theorem idxCheck {c pos} (h : s.Canonical) : (s.idxCheck c pos).Canonical :=
  .ite h (.ite h.wn.setB (.ite h ((h.wn.ev.when fun h => h.ev.raise.pacingFault).when fun h => h.modChan)))

theorem correctNow {c} (h : s.Canonical) : (s.correctNow c).Canonical := by
  dsimp only [State.correctNow]
  split
  · exact h.modChan.fbCorrect
  · exact h

theorem correctDue {c} (h : s.Canonical) : (s.correctDue c).Canonical := h.when fun h => h.correctNow

theorem fbIndex {c age} (h : s.Canonical) : (s.fbIndex c age).Canonical :=
  .ite h.accepts (h.accepts.wrS64.idxCheck.forEach fun h => h.when fun h => h.emit)

theorem lowSpeed {c} (h : s.Canonical) : (s.lowSpeed c).Canonical := h.when fun h => h.setB

/-! Motion axes and groups -/

theorem motCfg {a} (h : s.Canonical) : (s.motCfg a).Canonical := h.ev

theorem motRefuse {a} (h : s.Canonical) : (s.motRefuse a).Canonical := h.motCfg.raise

theorem rateUse {a} (h : s.Canonical) : (s.rateUse a).Canonical := h.pair.modAxis

theorem speedUse {a} (h : s.Canonical) : (s.speedUse a).Canonical := by
  unfold State.speedUse
  exact h.pair.setB.modAxis

theorem profileAt {a k} (h : s.Canonical) : (s.profileAt a k).1.Canonical := h.rateUse.speedUse

theorem profile {a} (h : s.Canonical) : (s.profile a).1.Canonical := h.profileAt

theorem motState {a v} (h : s.Canonical) : (s.motState a v).Canonical := h.setF

theorem axisPut {a x v} (h : s.Canonical) : (s.axisPut a x v).Canonical := h.wrS64.wn.setB.modAxis.when fun h => h.emit

theorem axisMove {a p v'} (h : s.Canonical) : (s.axisMove a p v').Canonical := by
  unfold State.axisMove
  exact h.axisPut.modAxis

theorem overshot {a x target} (h : s.Canonical) : (s.overshot a x target).Canonical := h.when fun h => h.ev.raise

theorem axisLoad {a x} (h : s.Canonical) : (s.axisLoad a x).Canonical := by
  unfold State.axisLoad
  exact h.wrS64.modAxis

theorem axisIdle {a} (h : s.Canonical) : (s.axisIdle a).Canonical := h.modAxis.motState

theorem rampTick {a p} (h : s.Canonical) : (s.rampTick a p).Canonical := (h.axisMove.when fun h => h.overshot).when fun h => h.axisIdle

theorem axisDone {a} (h : s.Canonical) : (s.axisDone a).Canonical := h.ev.engEvents

theorem homeFault {a cause} (h : s.Canonical) : (s.homeFault a cause).Canonical := h.ev.setF.raise.stopAxis

theorem homeVel {a p slow neg} (h : s.Canonical) : (s.homeVel a p slow neg).Canonical := h.axisMove

theorem homeEnd {a} (h : s.Canonical) : (s.homeEnd a).Canonical := (h.axisLoad.when fun h => h.setB).axisIdle.axisDone

theorem homeRamp {a p quick} {next : State → State} (h : s.Canonical) (hg : ∀ {t}, t.Canonical → (next t).Canonical) :
    (s.homeRamp a p quick next).Canonical := h.axisMove.when hg

theorem homeLimit {a} (h : s.Canonical) : (s.homeLimit a).Canonical := .ite h (.ite h.homeFault (.ite h.homeFault h.modAxis))

theorem homePhase {a k} (h : s.Canonical) : (s.homePhase a k).Canonical := h.modAxis

theorem homeTurn {a} (h : s.Canonical) : (s.homeTurn a).Canonical := by
  refine .ite h.homeLimit ?_
  split
  · exact h.when fun h => h.homePhase
  · exact .ite h.modAxis (.ite h.homePhase h.modAxis)
  · exact h

theorem homeTick {a p} (h : s.Canonical) : (s.homeTick a p).Canonical := by
  dsimp only [State.homeTick]
  split
  · exact h.homeTurn.rampTick
  · exact h.homeTurn.homeVel
  · exact h.homeTurn.homeRamp fun h => h.modAxis
  · exact h.homeTurn.homeRamp fun h => h.homePhase
  · exact h.homeTurn.homeVel
  · exact h.homeTurn.homeRamp fun h => h.homePhase
  · exact h.homeTurn.homeVel
  · exact h.homeTurn.homeRamp fun h => h.homeEnd

theorem grpCfg {g} (h : s.Canonical) : (s.grpCfg g).Canonical := h.ev

theorem memberCfg {a g} (h : s.Canonical) : (s.memberCfg a g).Canonical := h.motCfg.grpCfg

theorem homeGo {a} (h : s.Canonical) : (s.homeGo a).Canonical := by
  refine .ite h.motRefuse ?_
  split
  · exact h.memberCfg
  · exact .ite h h.modAxis.motState

theorem homeChatter {a} (h : s.Canonical) : (s.homeChatter a).Canonical := .ite h (h.modAxis.when fun h => h.homeFault)

theorem homeQualified {a} (h : s.Canonical) : (s.homeQualified a).Canonical := by
  dsimp only [State.homeQualified]
  split
  · exact (h.modAxis.setB.when fun h => h.wrS64).homePhase
  · exact (h.modAxis.setB.when fun h => h.wrS64).homePhase
  · exact h.modAxis.setB.when fun h => h.wrS64

theorem homeSettle {a} (h : s.Canonical) : (s.homeSettle a).Canonical := h.when fun h => h.homeQualified

theorem showInputs {a} (h : s.Canonical) : (s.showInputs a).Canonical := h.setB.setB.setB

theorem limitQualified {a neg} (h : s.Canonical) : (s.limitQualified a neg).Canonical :=
  .ite h.modAxis.setB (.ite h.modAxis.setB.homeLimit (.ite h.modAxis.setB.ev.raise.stopAxis h.modAxis.setB))

theorem limitSettle {a neg} (h : s.Canonical) : (s.limitSettle a neg).Canonical := h.when fun h => h.limitQualified

theorem inputsSettle {a} (h : s.Canonical) : (s.inputsSettle a).Canonical := h.limitSettle.limitSettle.homeSettle

theorem limitTrip {a neg high} (h : s.Canonical) : (s.limitTrip a neg high).Canonical := h.inputsSettle.modAxis.limitSettle

theorem homeEdge {a high} (h : s.Canonical) : (s.homeEdge a high).Canonical :=
  .ite h.inputsSettle h.inputsSettle.modAxis.homeChatter.homeSettle

theorem gearCommit {a} (h : s.Canonical) : (s.gearCommit a).Canonical := .ite h.disarm.motRefuse h.modAxis.committed

theorem gearTick {a} (h : s.Canonical) : (s.gearTick a).Canonical :=
  .ite (.modAxis (.setAxis (.ite h.modAxis.gearCommit h.modAxis)))
    (.axisPut (.modAxis (.when (.rateUse (.setAxis (.ite h.modAxis.gearCommit h.modAxis))) fun h => h.ev.raise)))

theorem gearArm {a arm} (h : s.Canonical) : (s.gearArm a arm).Canonical := .ite h.disarm (.ite h.disarm.motRefuse h.modAxis.setB)

theorem axisGo {a} (h : s.Canonical) : (s.axisGo a).Canonical := by
  refine .ite h.motRefuse ?_
  split
  · exact h.memberCfg
  · exact .ite h.motRefuse (.ite h.modAxis.motState h.modAxis.motState)

theorem motTarget {a v} (h : s.Canonical) : (s.motTarget a v).Canonical := by
  refine .ite h ?_
  split
  · exact h.memberCfg
  · exact .ite h.motRefuse h.wrS64.modAxis

theorem motVel {a v} (h : s.Canonical) : (s.motVel a v).Canonical := .ite h (.ite h.motRefuse h.wr.modAxis)

theorem motPos {a v} (h : s.Canonical) : (s.motPos a v).Canonical := .ite h.axisLoad h.motCfg

theorem motCfgWrite {a new} (h : s.Canonical) : (s.motCfgWrite a new).Canonical := .ite h.wr (.ite h.wr.motCfg h.wr.showInputs.modAxis)

theorem motSetWrite {a r new} (h : s.Canonical) : (s.motSetWrite a r new).Canonical := .ite h.wr h.motCfg

theorem grpCfgWrite {g new} (h : s.Canonical) : (s.grpCfgWrite g new).Canonical := .ite h (.ite h.wr (h.grpCfg.forEach fun h => h.motCfg))

theorem pathStart {g} (h : s.Canonical) : (s.pathStart g).Canonical := h.setGroup.setF.forEach fun h => h.modAxis.motState

theorem grpGo {g} (h : s.Canonical) : (s.grpGo g).Canonical := .ite h.grpCfg.raise (.ite h.modGroup h.pathStart)

theorem grpStop {g} (h : s.Canonical) : (s.grpStop g).Canonical := .ite h.modGroup h

theorem pathProf {g} (h : s.Canonical) : (s.pathProf g).1.Canonical := by
  unfold State.pathProf
  extract_lets x k
  split
  next t p0 heq =>
    split
    next u q heq' =>
      refine .ofFst heq' (.foldPair (.ofFst heq h.profileAt) fun h => ?_)
      split
      next heq'' => exact .ofFst heq'' h.profileAt

theorem pathPut {g} (h : s.Canonical) : (s.pathPut g).Canonical := h.foldl fun h => h.axisPut.overshot

theorem pathEnd {g done} (h : s.Canonical) : (s.pathEnd g done).Canonical :=
  .ite ((h.setGroup.forEach fun h => h.axisPut.axisIdle).forEach fun h => h.axisDone) (h.setGroup.forEach fun h => h.axisPut.axisIdle)

theorem axisEnable {a on} (h : s.Canonical) : (s.axisEnable a on).Canonical := by
  refine .ite (.ite h.motCfg (.ite h.setB.axisLoad h.setB.axisLoad.axisIdle)) (.ite (.motState (.axisIdle (.axisPut (.setB ?_)))) h)
  split
  · exact h.pathEnd
  · exact h

theorem motCtrlWrite {a new} (h : s.Canonical) : (s.motCtrlWrite a new).Canonical :=
  (((h.axisEnable.when fun h => h.stopAxis).when fun h => h.stopAxis).when fun h => h.axisGo).when fun h => h.homeGo

theorem pathTick {g} (h : s.Canonical) : (s.pathTick g).Canonical := by
  unfold State.pathTick
  split
  · exact h
  · split
    next t p heq =>
      have ht : t.Canonical := .ofFst heq h.pathProf
      have hp {x} : ((t.setGroup g x).pathPut g).Canonical := ht.setGroup.pathPut
      exact .ite (.ite (.ite hp.pathEnd.pathStart hp.pathEnd) hp) (.ite hp.pathEnd.ev hp)

theorem posTick {a p} (h : s.Canonical) : (s.posTick a p).Canonical :=
  .ite h.axisPut.modAxis.overshot.axisIdle.axisDone h.axisPut.modAxis.overshot

theorem velTick {a p} (h : s.Canonical) : (s.velTick a p).Canonical :=
  .ite h.axisMove (.ite h.axisMove.modAxis.axisDone h.axisMove.modAxis)

theorem stallTick {a} (h : s.Canonical) : (s.stallTick a).Canonical := by
  dsimp only [State.stallTick]
  split
  · exact h
  · exact .ite h (h.wn.modAxis.when fun h => h.ev.raise.stopAxis)

theorem limitHold {a} (h : s.Canonical) : (s.limitHold a).Canonical := .ite h h.ev.raise.stopAxis

theorem moveTick {a} (h : s.Canonical) : (s.moveTick a).Canonical := by
  unfold State.moveTick
  extract_lets x
  split
  next t p heq =>
    have ht : t.Canonical := .ofFst heq h.profile
    exact .ite ht.rampTick (.ite ht.homeTick (.ite ht.posTick ht.velTick))

theorem axisTick {a} (h : s.Canonical) : (s.axisTick a).Canonical := (h.gearTick.when fun h => h.moveTick).limitHold.stallTick

theorem planningTick (h : s.Canonical) : s.planningTick.Canonical :=
  .ite h
    (h.keep.forEach (fun h => h.heldFired)
      |>.forEach (fun h => h.speedTick)
      |>.forEach (fun h => h.correctDue)
      |>.forEach (fun h => h.inputsSettle)
      |>.forEach (fun h => h.pathTick)
      |>.forEach (fun h => h.axisTick))

/-! Timers, loops, PWM outputs and traces -/

theorem wrS {a v} (h : s.Canonical) : (s.wrS a v).Canonical := h.wn

theorem loopStore {l x} (h : s.Canonical) : (s.loopStore l x).Canonical := h.wr.wr.wrS.wr.wr.wrS.wrS.wrS.wrS

theorem loopSatur {l x} (h : s.Canonical) : (s.loopSatur l x).Canonical :=
  (h.setB.setB.setB.when fun h => h.ev).keep.when fun h => h.raise

theorem loopOut {l y} (h : s.Canonical) : (s.loopOut l y).Canonical := by
  refine .ite h ?_
  split
  · exact h.keep
  · exact h.motVel
  · exact h

theorem loopCfgError {l} (h : s.Canonical) : (s.loopCfgError l).Canonical := h.ev.raise

theorem loopLoad {l} (h : s.Canonical) : (s.loopLoad l).Canonical := ((h.foldl fun h => h.wr).foldl fun h => h.wr).wr.wr.wr.wr

theorem loopCommit {l} (h : s.Canonical) : (s.loopCommit l).1.Canonical := by
  dsimp only [State.loopCommit]
  split
  · exact h
  · split
    · exact h.disarm.loopCfgError
    · exact h.loopLoad.committed.when fun h => h.wr.wr.wr.ev

theorem loopArm {l arm} (h : s.Canonical) : (s.loopArm l arm).Canonical := .ite h.disarm (.ite h.setB h.disarm.loopCfgError)

theorem traceRecord {u x} (h : s.Canonical) : (s.traceRecord u x).Canonical := .ite h.setTrace h.setTrace.setF

theorem traceTrigger {u} (h : s.Canonical) : (s.traceTrigger u).Canonical := h.setF.setB.engEvents.setTrace

theorem traceSample {u x commit satSet} (h : s.Canonical) : (s.traceSample u x commit satSet).Canonical := by
  unfold State.traceSample
  exact .modTrace
      (.ite
        (.ite (.modTrace (.setB (.setB (.ite h.traceRecord.traceTrigger h.traceRecord))))
          (.ite h.traceRecord.traceTrigger h.traceRecord))
        h)

theorem traceCtrlWrite {u new} (h : s.Canonical) : (s.traceCtrlWrite u new).Canonical :=
  .ite (h.when fun h => h.modTrace).wr.wn.modTrace (h.when fun h => h.modTrace).wr

theorem loopSample {start l commit} (h : s.Canonical) : (s.loopSample start l commit).Canonical :=
  h.loopStore.loopSatur.loopOut.forEach fun h => h.when fun h => h.traceSample

theorem loopTick {t} (h : s.Canonical) : (s.loopTick t).Canonical := by
  unfold State.loopTick
  refine .ite h ?_
  extract_lets start ts loops v
  have hv : v.Canonical := h.keep
  split
  next u cs heq =>
    refine .foldl (.ofFst heq (.foldPair hv fun h => ?_)) fun h => .ite h.loopSample h
    split
    next heq' => exact .ofFst heq' h.loopCommit

theorem timerStart {v} (h : s.Canonical) : (s.timerStart v).Canonical := ⟨h.mem, h.regs⟩

theorem timerWrite {t new} (h : s.Canonical) : (s.timerWrite t new).Canonical := h.wr.when fun h => h.timerStart

theorem loopInit {l} (h : s.Canonical) : (s.loopInit l).Canonical := (h.foldl fun h => h.wn).foldl fun h => h.wr

theorem loopCtrlWrite {l new} (h : s.Canonical) : (s.loopCtrlWrite l new).Canonical :=
  .ite (.ite (h.when fun h => h.loopInit).setB.setB (h.when fun h => h.loopInit).loopCfgError)
    (.ite (h.when fun h => h.loopInit).setB.setB (h.when fun h => h.loopInit))

theorem loopCfgWrite {l new} (h : s.Canonical) : (s.loopCfgWrite l new).Canonical := .ite h.wr h.ev

theorem pwmStart {p} (h : s.Canonical) : (s.pwmStart p).Canonical := .ite h (h.keep.when fun h => h.emit)

theorem pwmCfgWrite {p new} (h : s.Canonical) : (s.pwmCfgWrite p new).Canonical := by
  unfold State.pwmCfgWrite
  exact h.wr.when fun h => h.keep

/-! Calibration runs and the Quartz store -/

theorem runStart {asked subject inst} (h : s.Canonical) : (s.runStart asked subject inst).Canonical :=
  .ite h.setB.keep (h.when fun h => h.ev.raise)

theorem calCmdWrite {new} (h : s.Canonical) : (s.calCmdWrite new).Canonical := h.wr.when fun h => h.runStart

theorem runDone {r} (h : s.Canonical) : (s.runDone r).Canonical := h.keep.setB.ev

theorem adcRunEnd {r xs} (h : s.Canonical) : (s.adcRunEnd r xs).Canonical :=
  .ite h.calBoundary.calAbort (.ite h.calBoundary.calAbort (.ite h.calBoundary.calAbort h.calBoundary.wn.runDone))

theorem sincosRunEnd {r} (h : s.Canonical) : (s.sincosRunEnd r).Canonical := .ite h (.ite h.calAbort (.ite h.calAbort h.wn.wn.runDone))

theorem runEnd {xs} (h : s.Canonical) : (s.runEnd xs).Canonical := by
  dsimp only [State.runEnd]
  split
  · exact h
  · exact .ite (h.when fun h => h.adcRunEnd) h.sincosRunEnd

theorem runTimeout (h : s.Canonical) : s.runTimeout.Canonical := by
  dsimp only [State.runTimeout]
  split
  · exact .ite h.calAbort h
  · exact h

theorem armSet {n engine} (h : s.Canonical) : (s.armSet n engine).1.Canonical := by
  dsimp only [State.armSet]
  split
  · exact h
  · split
    · exact h.keep
    · split
      · split
        · exact h
        · split
          · exact h.nzSetWrite.swapped
          · exact h.keep
      · exact h.keep

theorem calApplyWrite {v} (h : s.Canonical) : (s.calApplyWrite v).Canonical := h.armSet.setF

theorem nzSetDue {l} (h : s.Canonical) : (s.nzSetDue l).Canonical := by
  dsimp only [State.nzSetDue]
  split
  · exact h
  · exact .ite h.nzSetWrite.swapped h

theorem nzBufWrite {a new} (h : s.Canonical) : (s.nzBufWrite a new).Canonical := .ite h (.ite h.ev h.wr)

theorem autoRun {k set} (h : s.Canonical) : (s.autoRun k set).Canonical := h.keep.runStart

theorem triggerEval (h : s.Canonical) : s.triggerEval.Canonical :=
  h.forEach fun h => .ite h ((h.when fun h => h.wr.raise).when fun h => h.autoRun)

theorem gateWindow {g test raw} (h : s.Canonical) : (s.gateWindow g test raw).Canonical := by
  unfold State.gateWindow
  extract_lets t fix inv ws u l
  have hu : u.Canonical := by
    unfold u
    split
    · exact h.calBoundary.keep
    · exact h.calBoundary
  clear_value u
  refine .ite h (.ite hu (.ite ?_ ?_))
  · split
    · exact hu
    · exact hu.finishTest
  · split
    · exact hu
    · exact hu.foldl fun h => h.verifyRaw

theorem qzBlow {a bs} (h : s.Canonical) : (s.qzBlow a bs).Canonical := h.foldl fun h => h.keep

theorem qzShow (h : s.Canonical) : s.qzShow.Canonical := h.setF

theorem qzLoad (h : s.Canonical) : s.qzLoad.Canonical := by
  dsimp only [State.qzLoad]
  split
  · exact (h.putBytes.setF.setB.forEach fun h => h.wn).forEach fun h => h.wn
  · exact h.putBytes.setF.setB

theorem qzSelect (h : s.Canonical) : s.qzSelect.Canonical := by
  unfold State.qzSelect
  exact .when (.qzShow (.qzLoad (.ite h.keep h))) fun h => h.raise

theorem qzProg (h : s.Canonical) : s.qzProg.Canonical := by
  dsimp only [State.qzProg]
  split
  · exact .ite h.ev.raise h.setB.qzBlow.qzShow.keep
  · exact h.ev.raise

theorem qzProgEnd {ok} (h : s.Canonical) : (s.qzProgEnd ok).Canonical := by
  dsimp only [State.qzProgEnd]
  split
  · exact h
  · exact .when (.qzShow (.ite h.setB.keep.qzBlow.ev h.setB.keep.ev.raise)) fun h => h.raise

/-! Writes of the collector's registers -/

theorem fltResume (h : s.Canonical) : s.fltResume.Canonical := .ite h.setF.errDrive h.ev

theorem errHoldWrite {hold} (h : s.Canonical) : (s.errHoldWrite hold).Canonical := .errDrive (.ite h.setB.keep h.setB)

theorem fltCtrlWrite {new} (h : s.Canonical) : (s.fltCtrlWrite new).Canonical := h.errHoldWrite.when fun h => h.fltResume

theorem errPulseOver (h : s.Canonical) : s.errPulseOver.Canonical := h.keep.errDrive

theorem fltForce {n} (h : s.Canonical) : (s.fltForce n).Canonical := .ite h (.ite h.ev h.raiseWith)

theorem sevWrite {n sev} (h : s.Canonical) : (s.sevWrite n sev).Canonical := .ite h (.ite h.ev h.setF)

theorem fltCfgWrite {n new} (h : s.Canonical) : (s.fltCfgWrite n new).Canonical := (h.when fun h => h.fltForce).sevWrite

theorem fltClear {n} (h : s.Canonical) : (s.fltClear n).Canonical := .ite h.setB.setB h.setB.setB.setB.wr

theorem faultInLow (h : s.Canonical) : s.faultInLow.Canonical := .ite h (.ite h.setB.keep h.setB.safeOutputs.raiseLive)

theorem faultInHigh (h : s.Canonical) : s.faultInHigh.Canonical := h.setB.when fun h => h.setLive

/-! The PCI Express function -/

theorem msixFlush (h : s.Canonical) : s.msixFlush.Canonical := .ite h (h.forEach fun h => .ite h.wr.sendMsix h)

theorem hostBack (h : s.Canonical) : s.hostBack.Canonical :=
  .ite (h.forEach fun h => h.settle) ((h.forEach fun h => h.settle).sendReplay.forEach fun h => h.writeWaiting).msixFlush.arbitrate

theorem linkEnters {speed width} (h : s.Canonical) : (s.linkEnters speed width).Canonical := by
  unfold State.linkEnters
  exact .ite h (.ite h.setF.setF.setB.setB.keep h.setF.setF.setB.setB.hostBack)

theorem linkZero (h : s.Canonical) : s.linkZero.Canonical := h.setF.setF.setB.setB

theorem abandonIntakes (h : s.Canonical) : s.abandonIntakes.Canonical := h.forEach fun h => h.abandonIntake

theorem linkGone (h : s.Canonical) : s.linkGone.Canonical := (h.ev.raise.forEach fun h => h.endChannel).abandonIntakes

theorem linkLost (h : s.Canonical) : s.linkLost.Canonical := by
  unfold State.linkLost
  exact .ite h (.ite h.linkZero.keep h.linkZero.linkGone)

theorem hostWakes (h : s.Canonical) : s.hostWakes.Canonical := (h.keep.when fun h => h.linkGone).when fun h => h.hostBack

theorem functionRegs (h : s.Canonical) : s.functionRegs.Canonical :=
  h.forEach (fun h => h.when fun h => h.modDma)
    |>.forEach (fun h => h.foldl fun h => h.wr)
    |>.forEach (fun h => h.modDma.showChannel)
    |>.forEach (fun h => h.wr)
    |>.forEach (fun h => h.wr)
    |>.wn.wn

theorem fundamental (h : s.Canonical) : s.fundamental.Canonical := by
  unfold State.fundamental
  exact .ite h.keep (h.keep.linkZero.ev.forEach fun h => h.endChannel).abandonIntakes.setB.setB.keep.functionRegs

theorem functionReset (h : s.Canonical) : s.functionReset.Canonical := by
  unfold State.functionReset
  exact (h.ev.forEach fun h => h.endChannel).abandonIntakes.setB.setB.keep.functionRegs

theorem perstRelease (h : s.Canonical) : s.perstRelease.Canonical := .ite h.keep h.keep.keep.emit

theorem setBme {on} (h : s.Canonical) : (s.setBme on).Canonical := h.setB.hostBack

theorem requestTimeout {what} (h : s.Canonical) : (s.requestTimeout what).Canonical := by
  unfold State.requestTimeout
  refine .ite h (.ite (.ite ?_ (.ite h ?_)) (.ite ?_ h))
  · exact .ite h.pcieEvent.setDma.fetchError h.pcieEvent.setDma.pump
  · split
    · exact h.pcieEvent.arrive.pump
    · exact h
  · extract_lets k
    split
    · exact h.pcieEvent.refuseUnread
    · exact .ite h h.pcieEvent.refuseJob
    · exact .ite h h.pcieEvent.refuseJob
    · exact h

theorem cfgRead {off} (h : s.Canonical) : (s.cfgRead off).Canonical := .ite h.fresh.emit h.emit

theorem cfgWrite {off v} (h : s.Canonical) : (s.cfgWrite off v).Canonical := by
  unfold State.cfgWrite
  exact .ite (h.emit.when fun h => h.keep).keep.setBme
      (.ite (.ite (h.emit.when fun h => h.keep).setB (.ite (h.emit.when fun h => h.keep).setB.hostBack (h.emit.when fun h => h.keep)))
        (.ite ((h.emit.when fun h => h.keep).keep.when fun h => h.functionReset)
          (.ite (h.emit.when fun h => h.keep).keep
            (.ite (h.emit.when fun h => h.keep).keep
              (.ite (h.emit.when fun h => h.keep).keep.msixFlush
                (.ite (h.emit.when fun h => h.keep).keep (.ite (h.emit.when fun h => h.keep).keep (h.emit.when fun h => h.keep))))))))

theorem cfgAsked {g : State → State} (h : s.Canonical) (hg : ∀ {t}, t.Canonical → (g t).Canonical) : (s.cfgAsked g).Canonical :=
  .ite h.emit (hg h)

theorem cfgRequest {write off v} (h : s.Canonical) : (s.cfgRequest write off v).Canonical := h.cfgAsked fun h => .ite h.cfgWrite h.cfgRead

theorem flrRequest (h : s.Canonical) : s.flrRequest.Canonical := h.cfgAsked fun h => h.emit.functionReset

theorem bar2Read {off len} (h : s.Canonical) : (s.bar2Read off len).Canonical := by
  refine .ite h.emit ?_
  split
  · exact h.eccRead.emit
  · exact h.raise.emit

theorem bar2Write {off bs} (h : s.Canonical) : (s.bar2Write off bs).Canonical := by
  refine .ite h ?_
  split
  · exact h.ddrWrite
  · exact h.raise

theorem unmask {v} (h : s.Canonical) : (s.unmask v).Canonical := h.wr.msixFlush

theorem l1Entry (h : s.Canonical) : s.l1Entry.Canonical := .ite h.setB.emit h

theorem hostAsks {g : State → State} (h : s.Canonical) (hg : ∀ {t}, t.Canonical → (g t).Canonical) : (s.hostAsks g).Canonical :=
  .ite h (hg h.begin)

/-! Fuses, tokens, the image loader and the Geode -/

theorem showFuses (h : s.Canonical) : s.showFuses.Canonical := (h.wn.wn.wn.wn.wn.wr.wr64.forEach fun h => h.putBytes).putBytes.setB.setB

theorem useToken {op t} (h : s.Canonical) (ht : s.useToken op = some t) : t.Canonical := by
  unfold State.useToken at ht
  split at ht <;> cases ht
  exact h.keep

theorem takeToken {op} (h : s.Canonical) : (s.takeToken op).Canonical := by
  unfold State.takeToken
  cases ht : s.useToken op with
  | none => exact h
  | some t => exact h.useToken ht

theorem fuseGo {field index} (h : s.Canonical) : (s.fuseGo field index).Canonical := .ite (h.when fun h => h.takeToken).keep h.ev

theorem fuseDone (h : s.Canonical) : s.fuseDone.Canonical := by
  dsimp only [State.fuseDone]
  split
  · exact h
  · exact h.keep.showFuses

theorem showGeode (h : s.Canonical) : s.showGeode.Canonical := h.setB.setB.setB.setB.setF.setF.setF.forEach fun h => h.wr64

theorem vaultFault {src} (h : s.Canonical) : (s.vaultFault src).Canonical := .ite h.keep (.ite h.raiseLive h.raise)

theorem railBit {r ok} (h : s.Canonical) : (s.railBit r ok).Canonical := h.wr

theorem vaultSync (h : s.Canonical) : s.vaultSync.Canonical := ⟨h.mem, h.regs⟩

theorem tamperRecord {e} (h : s.Canonical) : (s.tamperRecord e).Canonical := ⟨h.mem, h.regs⟩

theorem tamperLog {m acts} (h : s.Canonical) : (s.tamperLog m acts).Canonical := h.keep.when fun h => h.tamperRecord

theorem erase (h : s.Canonical) : s.erase.Canonical := h.keep.setB.putBytes.vaultFault

theorem debugLock (h : s.Canonical) : s.debugLock.Canonical := h.setB.setB

theorem tamperEvent {m} (h : s.Canonical) : (s.tamperEvent m).Canonical :=
  .ite h
    (h.when (fun h => h.erase)
      |>.when (fun h => h.tamperLog)
      |>.when (fun h => h.keep)
      |>.when (fun h => h.vaultFault)
      |>.when (fun h => h.debugLock)
      |>.showGeode)

theorem setActive {m on} (h : s.Canonical) : (s.setActive m on).Canonical := ⟨h.mem, h.regs⟩

theorem vaultOn {vbat} (h : s.Canonical) : (s.vaultOn vbat).Canonical := (h.keep.when fun h => h.setActive).showGeode

theorem sampleMonitor {m on} (h : s.Canonical) : (s.sampleMonitor m on).Canonical := h.setActive.when fun h => h.tamperEvent

theorem tamperSample {mesh switches die} (h : s.Canonical) : (s.tamperSample mesh switches die).Canonical :=
  h.vaultSync.keep.when (fun h => h.setF)
    |>.sampleMonitor.sampleMonitor.forEach (fun h => h.sampleMonitor)
    |>.sampleMonitor.setActive.when (fun h => h.liveFollows)
    |>.showGeode

theorem vaultWake (h : s.Canonical) : s.vaultWake.Canonical := h.keep.forEach fun h => .ite h.raiseLive h.raise

theorem collectorWake (h : s.Canonical) : s.collectorWake.Canonical :=
  .ite (h.liveFollows.liveFollows.vaultWake.when fun h => h.liveFollows) h.liveFollows.liveFollows.vaultWake.liveFollows

theorem newNonce (h : s.Canonical) : s.newNonce.Canonical := h.fresh.putBytes

theorem tokenGo {op} (h : s.Canonical) : (s.tokenGo op).Canonical :=
  .ite h.newNonce.ev.setB.setF.keep (h.newNonce.ev.setB.setF.when fun h => h.tamperEvent)

theorem tokenExpire (h : s.Canonical) : s.tokenExpire.Canonical := ⟨h.mem, h.regs⟩

theorem putImage {e wipe im} (h : s.Canonical) : (s.putImage e wipe im).Canonical := by
  unfold State.putImage
  exact (h.writeMem.setF.setF.when fun h => h.writeMem).writeMem.modEng

theorem showPending (h : s.Canonical) : s.showPending.Canonical := h.setF

theorem measured {e body} (h : s.Canonical) : (s.measured e body).Canonical := .ite h.ownRecord h.keep.showPending

theorem loadGo {e} (h : s.Canonical) : (s.loadGo e).Canonical := .ite h h.keep.setB

theorem loadDone {ddrError} (h : s.Canonical) : (s.loadDone ddrError).Canonical := by
  dsimp only [State.loadDone]
  split
  · exact h
  · exact .ite (h.when fun h => h.eccRead).keep.setB.setF.ev.raise
        (h.when fun h => h.eccRead).keep.setB.setF.putImage.modEng.setF.putBytes.measured.ev

theorem useKey {priv} (h : s.Canonical) : (s.useKey priv).Canonical := h.putBytes.setB

theorem keyLost (h : s.Canonical) : s.keyLost.Canonical := h.setB.raise

theorem unwrap (h : s.Canonical) : s.unwrap.Canonical := by
  dsimp only [State.unwrap]
  split
  · split
    · split
      · exact h.useKey
      · exact h.keyLost
    · exact h
  · exact h.when fun h => h.keyLost

theorem provision (h : s.Canonical) : s.provision.Canonical := by
  dsimp only [State.provision]
  split
  · exact .ite h.ev ((h.when fun h => h.takeToken).fresh.keep.useKey.showFuses.showGeode.when fun h => h.ownRecord).keep
  · exact h.ev

theorem geoUnlock (h : s.Canonical) : s.geoUnlock.Canonical := by
  unfold State.geoUnlock
  refine .ite h.ev ?_
  split
  next t ht => exact (h.useToken ht).keep.showGeode
  next => exact h

theorem openRecords (h : s.Canonical) : s.openRecords.Canonical :=
  h.keep.when (fun h => h.ownRecord)
    |>.foldl (fun h => h.ownRecord)
    |>.foldl (fun h => h.ownRecord)
    |>.keep.showPending.foldl (fun h => h.tamperRecord)
    |>.keep

theorem ledgerOpen (h : s.Canonical) : s.ledgerOpen.Canonical := .ite h.keep (.ite h.ev (.ite h h.keep.setB.openRecords.keep))

theorem ledgerClose (h : s.Canonical) : s.ledgerClose.Canonical := .ite h.ev (.ite h h.ownRecord)

theorem cpSig (h : s.Canonical) : s.cpSig.Canonical := by
  dsimp only [State.cpSig]
  split
  · exact h
  · exact h.fresh.keep.acceptNext

theorem stallEnd (h : s.Canonical) : s.stallEnd.Canonical := .ite h.setB.setLive h

theorem ledgerSend (h : s.Canonical) : s.ledgerSend.Canonical := by
  dsimp only [State.ledgerSend]
  split
  · exact h
  · exact .ite h (h.hostWrite.msix.wn.keep.when fun h => h.keep.setB).stallEnd

theorem ledgerCfgWrite {a new} (h : s.Canonical) : (s.ledgerCfgWrite a new).Canonical := .ite h (h.wr.when fun h => h.wn.wn)

theorem resumeNext (h : s.Canonical) : s.resumeNext.Canonical := .ite (.ite h.keep.showFuses h.keep.setB.raiseLive) h

theorem selfTestFail (h : s.Canonical) : s.selfTestFail.Canonical := h.setB.raise

theorem vaultDry (h : s.Canonical) : s.vaultDry.Canonical := .ite h.keep.showGeode h

theorem selfTested {ok} (h : s.Canonical) : (s.selfTested ok).Canonical :=
  .ite h ((h.keep.when fun h => h.selfTestFail).when fun h => h.ledgerOpen)

/-! Debug and freeze -/

theorem dbgUnlock (h : s.Canonical) : s.dbgUnlock.Canonical := by
  unfold State.dbgUnlock
  refine .ite h.setB ?_
  split
  next t ht => exact (h.useToken ht).setB
  next => exact h.ev.raise

theorem benchWrite {on} (h : s.Canonical) : (s.benchWrite on).Canonical := by
  unfold State.benchWrite
  refine .ite h.setB (.ite h (.ite h.setB ?_))
  split
  next t ht => exact (h.useToken ht).setB
  next => exact h

theorem freezeReq {stops} (h : s.Canonical) : (s.freezeReq stops).Canonical :=
  .ite h (.ite h.ev (.ite h (h.wr64.setB.setB.errDrive.fresh.keep.forEach fun h => h.setF)))

theorem freezeWrite (h : s.Canonical) : s.freezeWrite.Canonical := h.fresh.freezeReq

theorem dbgResume (h : s.Canonical) : s.dbgResume.Canonical :=
  .ite h.ev
    (.hostWakes
      (.collectorWake
        (.ite
          (.ite
            (h.setB.forEach (fun h => h.axisEnable.setB)
              |>.forEach (fun h => h.setB.modRej)
              |>.forEach (fun h => h.when fun h => h.setB)
              |>.when (fun h => h.setLive)
              |>.keep.errDrive.safeOutputs.raiseLive)
            (h.setB.forEach (fun h => h.axisEnable.setB)
              |>.forEach (fun h => h.setB.modRej)
              |>.forEach (fun h => h.when fun h => h.setB)
              |>.when (fun h => h.setLive)
              |>.keep.errDrive.raise))
          (h.setB.forEach (fun h => h.axisEnable.setB)
            |>.forEach (fun h => h.setB.modRej)
            |>.forEach (fun h => h.when fun h => h.setB)
            |>.when (fun h => h.setLive)
            |>.keep.errDrive))))

theorem dbgWrite {new} (h : s.Canonical) : (s.dbgWrite new).Canonical :=
  (((h.when fun h => h.dbgUnlock).when fun h => h.debugLock).when fun h => h.freezeWrite).benchWrite.when fun h => h.dbgResume

theorem mwinRead (h : s.Canonical) : s.mwinRead.1.Canonical := by
  dsimp only [State.mwinRead]
  split
  · exact h.setF
  · exact h

theorem mwinWrite {v} (h : s.Canonical) : (s.mwinWrite v).Canonical := .ite h.fresh.winStore.keep h

theorem jtagSelect {code ok} (h : s.Canonical) : (s.jtagSelect code ok).Canonical := ⟨h.mem, h.regs⟩

theorem jtagShift (h : s.Canonical) : s.jtagShift.Canonical := .ite h.emit (.ite h.emit (.ite h.emit h))

theorem boundaryShift {tdi} (h : s.Canonical) : (s.boundaryShift tdi).Canonical := .ite h h.fresh.keep.emit

theorem debugReset (h : s.Canonical) : s.debugReset.Canonical := (h.forEach fun h => h.wr).setB.keep

/-! Twin operation -/

theorem mirrorLag {info} (h : s.Canonical) : (s.mirrorLag info).Canonical := h.ev.raise

theorem authFail {i} (h : s.Canonical) : (s.authFail i).Canonical := h.ev.raise

theorem basaltLive (h : s.Canonical) : s.basaltLive.Canonical := h.when fun h => h.setLive

theorem showLanes (h : s.Canonical) : s.showLanes.Canonical := h.setF.basaltLive

theorem basaltStart {i} (h : s.Canonical) : (s.basaltStart i).Canonical := .ite h h.dropFrame.modBasalt.showLanes

theorem basaltFail {i} (h : s.Canonical) : (s.basaltFail i).Canonical := h.dropFrame.modBasalt.showLanes.raise

theorem basaltSelect {i bound cap} (h : s.Canonical) : (s.basaltSelect i bound cap).Canonical := by
  dsimp only [State.basaltSelect]
  split
  · exact h.modBasalt
  · exact h.basaltFail

theorem hello {i} (h : s.Canonical) : (s.hello i).Canonical := h.fresh.keep.emit

theorem basaltUpNow {i} (h : s.Canonical) : (s.basaltUpNow i).Canonical := h.modBasalt.showLanes.when fun h => h.hello

theorem basaltEchoed {i bit} (h : s.Canonical) : (s.basaltEchoed i bit).Canonical :=
  .ite h.modBasalt (.ite h.modBasalt.modBasalt h.modBasalt.basaltUpNow)

theorem basaltCapTx {i hold} (h : s.Canonical) : (s.basaltCapTx i hold).Canonical := by
  dsimp only [State.basaltCapTx]
  split
  · exact h.emitHeld
  · exact h.emitHeld.basaltEchoed
  · exact h.emitHeld.basaltEchoed
  · exact h
  · exact h
  · exact h
  · exact h

theorem basaltCapRx {i bs} (h : s.Canonical) : (s.basaltCapRx i bs).Canonical := by
  refine .ite h ?_
  split
  · exact .ite h.modBasalt (.ite h.modBasalt.basaltFail h.modBasalt.basaltSelect)
  · exact .ite h.basaltEchoed h
  · exact .ite h.basaltEchoed h
  · exact h
  · exact h
  · exact h
  · exact h

theorem basaltSwitch {i} (h : s.Canonical) : (s.basaltSwitch i).Canonical := .ite h.dropFrame.emit.modBasalt h

theorem basaltFallback {i} (h : s.Canonical) : (s.basaltFallback i).Canonical := .ite h.dropFrame.basaltSelect h

theorem basaltLost {i} (h : s.Canonical) : (s.basaltLost i).Canonical := .ite h.basaltStart.raiseLive h

theorem basaltTimeout {i} (h : s.Canonical) : (s.basaltTimeout i).Canonical := .ite h.basaltFail h

theorem sign {hash} (h : s.Canonical) : (s.sign hash).2.Canonical := h.fresh

theorem helloRx {i n} (h : s.Canonical) : (s.helloRx i n).Canonical := by
  unfold State.helloRx
  extract_lets u _ v
  have hv : v.Canonical := (h.when fun h => h.hello).keep
  split
  · exact h
  · split
    next heq => exact .emit (.ofSnd heq hv.sign)

theorem selectRole (h : s.Canonical) : s.selectRole.Canonical :=
  .ite h (.ite h.setB (h.when fun h => h.forEach fun h => h.modLane).setB.setRole)

theorem beatBack (h : s.Canonical) : s.beatBack.Canonical := h.when fun h => h.setB.setLive

theorem authRx {i bs} (h : s.Canonical) : (s.authRx i bs).Canonical := .ite h (.ite h.keep.beatBack.selectRole h.keep.modBasalt.authFail)

theorem basaltReneg {i} (h : s.Canonical) : (s.basaltReneg i).Canonical := by
  dsimp only [State.basaltReneg]
  split
  · exact .ite h.basaltStart.raiseLive h
  · exact h

theorem openEnc {i kind bs} (h : s.Canonical) : (s.openEnc i kind bs).1.Canonical := by
  unfold State.openEnc
  split
  · exact .fst h
  · split
    · exact .fst h.modBasalt
    · exact .fst h.authFail

theorem onFrame {i kind bs} {g : State → List Byte → State} (h : s.Canonical) (hg : ∀ {t p}, t.Canonical → (g t p).Canonical) :
    (s.onFrame i kind bs g).Canonical := by
  unfold State.onFrame
  split
  next heq => exact hg (.ofFst heq h.openEnc)
  next heq => exact .ofFst heq h.openEnc

theorem paceSelf {d} (h : s.Canonical) : (s.paceSelf d).Canonical := .ite h.setDom.passOver.wn h.setDom.passOver.wn.unitFollow

theorem takeoverCheck (h : s.Canonical) : s.takeoverCheck.Canonical :=
  .ite ((h.setRole.ev.raise.forEach fun h => h.modLane).forEach fun h => h.when fun h => h.paceSelf).judgeAll h

theorem takeover {switch} (h : s.Canonical) : (s.takeover switch).Canonical :=
  ((h.setRole.keep.spoilWhere.keep.foldl fun h => h.rejDivert).forEach fun h => h.setB).takeoverCheck

theorem yieldNow (h : s.Canonical) : s.yieldNow.Canonical := h.releaseAll.ev.raise.isolate

theorem heartbeat (h : s.Canonical) : s.heartbeat.Canonical := .ite h.sendAll.keep.emit h

theorem hbRx {p} (h : s.Canonical) : (s.hbRx p).Canonical := .ite h h.keep.beatBack.setF.wr64.selectRole

theorem quorumIn {q} (h : s.Canonical) : (s.quorumIn q).Canonical := h.setF.keep

theorem sampling {q} {g : State → State} (h : s.Canonical) (hg : ∀ {t}, t.Canonical → (g t).Canonical) : (s.sampling q g).Canonical :=
  .ite (hg h.quorumIn) h

theorem heartbeatLoss (h : s.Canonical) : s.heartbeatLoss.Canonical := .ite (h.setB.raiseLive.keep.when fun h => h.takeover) h

theorem quorumSilent (h : s.Canonical) : s.quorumSilent.Canonical := by
  refine .ite h ?_
  split
  · exact .ite h.takeover h.selectRole
  · exact h.selectRole

theorem standbyIsolates (h : s.Canonical) : s.standbyIsolates.Canonical := h.isolate.ownWindows.sendAll

theorem takeoverDecide (h : s.Canonical) : s.takeoverDecide.Canonical := by
  dsimp only [State.takeoverDecide]
  split
  · exact .ite (.ite h.takeover h.standbyIsolates) h
  · exact h

theorem mirrorBoundary {d line pos target} (h : s.Canonical) : (s.mirrorBoundary d line pos target).Canonical :=
  .ite h
    ((h.passOver.when fun h => h.mirrorLag).handAll.nzSetsDone.dcdCommit.setDom.when fun h => h.unitFollow).bndMark.fhCommits.keep.bndRest

theorem mirrorItem {r} (h : s.Canonical) : (s.mirrorItem r).Canonical := by
  dsimp only [State.mirrorItem]
  split
  · exact h.keep
  · exact (h.keep.modItem.when fun h => h.rejDivert).judgeItem

theorem countersign {r k} (h : s.Canonical) : (s.countersign r k).Canonical := by
  unfold State.countersign
  refine .ite (.ite ?_ h) h.mirrorLag
  split
  next heq => exact (State.Canonical.ofSnd heq h.sign).sendAll

theorem mirrorRecord {r} (h : s.Canonical) : (s.mirrorRecord r).Canonical := by
  refine .when ?_ fun h => h.mirrorItem
  split
  · exact ((h.when fun h => h.ddrWrite.wn).when fun h => h.countersign).keep
  · exact h.when fun h => h.ddrWrite.wn

theorem mirrorNozzle {hold n v} (h : s.Canonical) : (s.mirrorNozzle hold n v).Canonical := .ite h.holdNow h.writeNozzle

theorem mirrorEntry {e} (h : s.Canonical) : (s.mirrorEntry e).Canonical := by
  dsimp only [State.mirrorEntry]
  split
  · exact .ite h h.mirrorBoundary
  · exact .mirrorRecord (.ite h.keep h)
  · exact h.mirrorNozzle
  · exact h

theorem mirrorEntries {n k bs} (h : s.Canonical) : (State.mirrorEntries n s k bs).Canonical := by
  induction n generalizing s k bs with
  | zero => exact h
  | succ n ih => exact .ite h (ih (.ite h.keep.mirrorEntry h))

theorem mirrorRx {p} (h : s.Canonical) : (s.mirrorRx p).Canonical := .ite h.mirrorEntries h

theorem csignRx {p} (h : s.Canonical) : (s.csignRx p).Canonical := .ite h.keep.ownRecord h

theorem roleRx {p} (h : s.Canonical) : (s.roleRx p).Canonical := .ite h (h.when fun h => h.takeover)

theorem twinCfgWrite {new} (h : s.Canonical) : (s.twinCfgWrite new).Canonical :=
  .ite (.ite (h.wr.keep.setB.wn.setRole.forEach fun h => h.basaltStart.raiseLive) h.wr.ev)
    (.ite (((h.wr.setB.setRole.wn.when fun h => h.emit).keep.when fun h => h.ownWindows).forEach fun h => h.when fun h => h.setLive) h.wr)

theorem twinSwitch (h : s.Canonical) : s.twinSwitch.Canonical := .ite h.sendAll.releaseAll.setRole h

theorem twinRejoin (h : s.Canonical) : s.twinRejoin.Canonical := .ite h.setRole.setLive.hello h

theorem pairWrite {a new} (h : s.Canonical) : (s.pairWrite a new).Canonical := .ite h (.ite h.keep h.wr)

theorem leaseDeny {l holder remain} (h : s.Canonical) : (s.leaseDeny l holder remain).Canonical :=
  .ite (h.setF.setF.modLane.ev.raise.when fun h => h.isolate)
    (.ite (h.setF.setF.modLane.ev.raise.keep.when fun h => h.yieldNow) h.setF.setF.modLane.ev.raise)

theorem leaseNone {l holder} (h : s.Canonical) : (s.leaseNone l holder).Canonical := .ite h.ev.raise.thrClear.loseLease h

theorem grantRx {l epoch} (h : s.Canonical) : (s.grantRx l epoch).Canonical := h.leaseGranted.takeoverCheck

theorem lockLost {link} (h : s.Canonical) : (s.lockLost link).Canonical := .ite h.laneLost h.basaltLost

theorem negLate {link} (h : s.Canonical) : (s.negLate link).Canonical := .ite h.negTimeout h.basaltTimeout

theorem capOut {link hold} (h : s.Canonical) : (s.capOut link hold).Canonical := .ite h.capTx h.basaltCapTx

theorem linkSwitch {link} (h : s.Canonical) : (s.linkSwitch link).Canonical := .ite h.rateSwitch h.basaltSwitch

theorem linkFallback {link} (h : s.Canonical) : (s.linkFallback link).Canonical := .ite h.negFallback h.basaltFallback

theorem leaseWaitOver (h : s.Canonical) : s.leaseWaitOver.Canonical := .ite h.yieldNow h

theorem ackLate (h : s.Canonical) : s.ackLate.Canonical := .ite h.keep.mirrorLag h

theorem quorumDiffers (h : s.Canonical) : s.quorumDiffers.Canonical := h.when fun h => h.raise

/-! Bits that come in on a lane -/

theorem leaseRx {l bs} (h : s.Canonical) : (s.leaseRx l bs).Canonical :=
  .ite h.leaseDeny (.ite h.badFrame (.ite h.grantRx (.ite h.renewedRx (.ite h.releasedRx (.ite h.leaseNone h.badFrame)))))

theorem ctrlRx {l bs} (h : s.Canonical) : (s.ctrlRx l bs).Canonical := .ite h.ctrlReply h.badFrame

theorem frameRx {l kind bs} (h : s.Canonical) : (s.frameRx l kind bs).Canonical :=
  .ite h.capRx (.ite h.leaseRx (.ite h.ctrlRx (.ite h.senseFrame (.ite h.verifyFrame h))))

theorem lineEvent {l x} (h : s.Canonical) : (s.lineEvent l x).Canonical := by
  dsimp only [State.lineEvent]
  split
  · exact h.laneLost
  · exact h.badFrame
  · exact h.frameRx

theorem bitRx {l b} (h : s.Canonical) : (s.bitRx l b).Canonical := .ite h (h.setRx.foldl fun h => h.lineEvent)

theorem lineRxd {l x} (h : s.Canonical) : (s.lineRxd l x).Canonical := by
  dsimp only [State.lineRxd]
  split
  · exact h.badFrame
  · exact h.foldl fun h => h.bitRx

/-! What starts and ends an engine -/

theorem engRun {e} (h : s.Canonical) : (s.engRun e).Canonical := by
  unfold State.engRun
  exact h.modEng

theorem engStart {e} (h : s.Canonical) : (s.engStart e).Canonical := .ite h (.ite h.engRun h.raise)

theorem engStop {e} (h : s.Canonical) : (s.engStop e).Canonical := .ite h (.ite h.modEng h.modEng)

theorem engEvset {e ev} (h : s.Canonical) : (s.engEvset e ev).Canonical := .ite h.engEvents h

theorem haltAll (h : s.Canonical) : s.haltAll.Canonical := h.forEach fun h => h.when fun h => h.modEng

theorem xTrap {e cause tval} (h : s.Canonical) : (s.xTrap e cause tval).Canonical :=
  .ite (h.setEng.when fun h => h.raise) ((h.setEng.when fun h => h.raise).when fun h => h.raise)

/-! Resets, rails and the boot ROM -/

/-- A reset lists nothing but the registers it keeps. -/
theorem cleared {por} (_ : s.Canonical) : (s.cleared por).Canonical := by
  unfold State.cleared
  extract_lets u keep _ _ _ t v
  have ht : t.Canonical := ⟨rfl, rfl⟩
  have hv : v.Canonical := (ht.wr (a := SYS_RAIL_STAT)).when fun h => h.setB
  exact .ite hv (hv.wr (a := SYS_RST_CAUSE))

theorem resetNLow (h : s.Canonical) : s.resetNLow.Canonical := ⟨h.mem, h.regs⟩

theorem warmReset {cause} (h : s.Canonical) : (s.warmReset cause).Canonical := .ite (.ite h h.wr) h.cleared.wr

theorem pinReset (h : s.Canonical) : s.pinReset.Canonical := h.warmReset.resetNLow

theorem powerReset (h : s.Canonical) : s.powerReset.Canonical := h.cleared.resetNLow

theorem testReset (h : s.Canonical) : s.testReset.Canonical := h.cleared.keep

theorem sampleStraps {sel twin} (h : s.Canonical) : (s.sampleStraps sel twin).Canonical := h.keep.setF.setB

theorem resetRelease {sel twin} (h : s.Canonical) : (s.resetRelease sel twin).Canonical :=
  .ite ((h.keep.sampleStraps.when fun h => h.emit).setB.newNonce.forEach fun h => h.modChan).showGeode.collectorWake.errDrive h

theorem standby (h : s.Canonical) : s.standby.Canonical := h.powerReset.keep.setB

theorem railGlitch (h : s.Canonical) : s.railGlitch.Canonical := (h.when fun h => h.raiseLive).setActive.tamperEvent

theorem railOut {r} (h : s.Canonical) : (s.railOut r).Canonical :=
  .ite (((h.railBit.when fun h => h.vaultOn).when fun h => h.railGlitch).when fun h => h.standby) (h.railBit.when fun h => h.vaultOn)

theorem railBack {r} (h : s.Canonical) : (s.railBack r).Canonical :=
  .ite (h.railBit.when fun h => h.vaultOn).liveFollows.setActive.showGeode (h.railBit.when fun h => h.vaultOn)

theorem clockFails {out} (h : s.Canonical) : (s.clockFails out).Canonical := h.keep.liveFollows

theorem aonStart (h : s.Canonical) : s.aonStart.Canonical := .ite h.powerReset.keep.errDrive h

theorem parkWrite {park} (h : s.Canonical) : (s.parkWrite park).Canonical := .ite (.ite h (.ite h.keep.setB.setB h.setB)) h.setB

theorem lanesDown (h : s.Canonical) : s.lanesDown.Canonical := h.forEach fun h => .ite h (h.when fun h => h.loseLease).setF.modLane

theorem basaltDown (h : s.Canonical) : s.basaltDown.Canonical := h.forEach fun h => h.modBasalt.showLanes.when fun h => h.raiseLive

theorem parked (h : s.Canonical) : s.parked.Canonical := (h.forEach fun h => h.when fun h => h.modEng).lanesDown.basaltDown.setB

theorem unparked (h : s.Canonical) : s.unparked.Canonical :=
  .ite
    (.ite
      (((h.setB.forEach fun h => h.when fun h => h.modEng).forEach fun h => h.when fun h => h.negStart).forEach fun h => h.basaltStart)
      ((h.setB.forEach fun h => h.when fun h => h.modEng).forEach fun h => h.when fun h => h.negStart))
    h

theorem cfgReadySet (h : s.Canonical) : s.cfgReadySet.Canonical := h.keep.setB

theorem bootFail {code} (h : s.Canonical) : (s.bootFail code).Canonical := h.setF.setF.errDrive.cfgReadySet.haltAll

theorem flashRead {a} (h : s.Canonical) : (s.flashRead a).Canonical := h.emit

theorem fusesIn {error} (h : s.Canonical) : (s.fusesIn error).Canonical := by
  unfold State.fusesIn
  extract_lets _ t u v _ w
  have hu : u.Canonical := h.keep.showFuses
  have hw : w.Canonical := hu.qzSelect.unwrap.resumeNext.keep
  refine .ite h (.ite h.bootFail ?_)
  split
  · exact hw.cfgReadySet.setF
  · exact hw.bootFail
  · exact hw.setF.flashRead

theorem qspiIn {im} (h : s.Canonical) : (s.qspiIn im).Canonical := .ite h.writeMem.writeMem.setF h

theorem qspiLate (h : s.Canonical) : s.qspiLate.Canonical := .ite h.bootFail h

theorem stageFail {code} (h : s.Canonical) : (s.stageFail code).Canonical := .ite h.keep.setF.setF.flashRead (.ite h.setF.setF h.bootFail)

theorem stageRun {im} (h : s.Canonical) : (s.stageRun im).Canonical :=
  (h.setF.setB.when fun h => h.setF).setB.setF.errDrive.measured.putImage.putImage.setF.engRun.engRun

theorem stageCheck (h : s.Canonical) : s.stageCheck.Canonical := .ite (.ite h.stageRun h.stageFail) h

theorem bootWrite {new} (h : s.Canonical) : (s.bootWrite new).Canonical := .ite h.setB.setF h.setB

theorem firstStageLate (h : s.Canonical) : s.firstStageLate.Canonical := by
  dsimp only [State.firstStageLate]
  split
  · exact .ite h.bootFail h
  · exact h

/-! Ink supplies -/

theorem supSend {k cmd payload} (h : s.Canonical) : (s.supSend k cmd payload).Canonical := h.emit.emit

theorem supRecord {k kind sig} (h : s.Canonical) : (s.supRecord k kind sig).Canonical := h.ownRecord

theorem supPhase {k p} (h : s.Canonical) : (s.supPhase k p).Canonical := h.modSupply

theorem supChallenge {k p} (h : s.Canonical) : (s.supChallenge k p).Canonical := h.fresh.supPhase.modSupply.supSend

theorem supAuth {k} (h : s.Canonical) : (s.supAuth k).Canonical := .ite h.supPhase.modSupply.supSend h

theorem supAuthFail {k} (h : s.Canonical) : (s.supAuthFail k).Canonical := h.supPhase.setF.supRecord.ev.raise

theorem supNext {k} (h : s.Canonical) : (s.supNext k).Canonical := h.when fun h => h.supAuth

theorem supDecrFail {k sync} (h : s.Canonical) : (s.supDecrFail k sync).Canonical :=
  (h.supPhase.modSupply.ev.raise.when fun h => h.setF.modSupply).supNext

theorem supFail {k} (h : s.Canonical) : (s.supFail k).Canonical := by
  dsimp only [State.supFail]
  split
  · exact h
  · exact h.supDecrFail
  · exact h.supDecrFail
  · exact h.supAuthFail

theorem supLoad {k p} (h : s.Canonical) : (s.supLoad k p).Canonical := h.wr64.wn

theorem supSpend {k} (h : s.Canonical) : (s.supSpend k).Canonical := h.fresh.supPhase.modSupply.supSend

theorem supOk {k p} (h : s.Canonical) : (s.supOk k p).Canonical := by
  dsimp only [State.supOk]
  split
  · exact h
  · exact .ite h.putBytes.modSupply.supPhase.supSend h.supAuthFail
  · exact h.supPhase.supSend
  · exact .ite h.modSupply.supChallenge h.supAuthFail
  · exact .ite h.supLoad.supPhase.setF.supRecord h.supAuthFail
  · exact .ite h.supLoad.supPhase.modSupply.wr64.supRecord.supNext h.supDecrFail
  · exact .ite h.supLoad.supSpend h.supDecrFail

theorem supLost {k} (h : s.Canonical) : (s.supLost k).Canonical := .ite h (h.supFail.modSupply.when fun h => h.setF.ev.supRecord.supAuth)

theorem supHeard {k} (h : s.Canonical) : (s.supHeard k).Canonical := h.modSupply

theorem supResponse {k bs} (h : s.Canonical) : (s.supResponse k bs).Canonical := by
  refine .ite h (.ite h.supLost ?_)
  split
  · exact h.supHeard.supOk
  · exact h.modSupply
  · exact .ite h.supHeard.supDecrFail h.supHeard.supFail
  · exact h.supHeard.supFail

theorem supRetry {k} (h : s.Canonical) : (s.supRetry k).Canonical := by
  dsimp only [State.supRetry]
  split
  · exact .ite h.supLost (.ite h h.emit.modSupply)
  · exact h

theorem supDecrement {k} (h : s.Canonical) : (s.supDecrement k).Canonical := .ite (.ite h.modSupply.supChallenge h.modSupply.supSpend) h

theorem supReauth {k} (h : s.Canonical) : (s.supReauth k).Canonical := .ite h (.ite h.supDecrement.supAuth h.supDecrement.modSupply)

theorem supCfgWrite {k new} (h : s.Canonical) : (s.supCfgWrite k new).Canonical :=
  .ite (.ite h.wr h.wr.supAuth) (.ite h.wr.supPhase.modSupply.setF h.wr)

/-! What a register write does -/

theorem shadowWrite {a new pend} (h : s.Canonical) : (s.shadowWrite a new pend).Canonical := h.wr.setB

theorem hookSys {a new} (h : s.Canonical) : (s.hookSys a new).Canonical :=
  .ite h.parkWrite (.ite h.bootWrite (.ite (.ite h.warmReset h) h))

theorem hookFault {a new} (h : s.Canonical) : (s.hookFault a new).Canonical := .ite h.fltCtrlWrite (.ite h.fltCfgWrite h.wr)

theorem hookChannel {c off a new} (h : s.Canonical) : (s.hookChannel c off a new).Canonical := by
  dsimp only [State.hookChannel]
  split
  · exact h.chSetWrite
  · exact h.chCtrlWrite
  · exact h.wr.paceChannel
  · exact h.chCountWrite
  · exact h.chCountWrite
  · exact h.wr

theorem hookQueue {req k off a new} (h : s.Canonical) : (s.hookQueue req k off a new).Canonical := by
  dsimp only [State.hookQueue]
  split
  · exact h.jqCtrlWrite
  · exact h.jqTailWrite
  · exact h.jqCqHeadWrite
  · exact .ite h h.wr
  · exact h.jqDone
  · exact h.wr

theorem hookDma {req a new} (h : s.Canonical) : (s.hookDma req a new).Canonical :=
  .ite h.hookChannel (.ite h.hookQueue (.ite h.wr.msixFlush h.wr))

theorem hookMemc {a new} (h : s.Canonical) : (s.hookMemc a new).Canonical := .ite (h.wr.when fun h => h.ddrTrain) h.wr

theorem hookDcd {d off a new} (h : s.Canonical) : (s.hookDcd d off a new).Canonical := by
  dsimp only [State.hookDcd]
  split
  · exact h.dcdCtrlWrite
  · exact h.dcdSetWrite
  · exact h.dcdSetWrite
  · exact h.dcdSetWrite
  · exact h.shadowWrite
  · exact h.shadowWrite
  · exact h.dcdArm
  · exact h.wr.takeOrigin
  · exact h.wr

theorem hookRaster {a new} (h : s.Canonical) : (s.hookRaster a new).Canonical :=
  .ite h.hookDcd (.ite (.ite h.laneRasterWrite h.wr) (.ite h.streamWrite h.scanWrite))

theorem fhArm {k arm} (h : s.Canonical) : (s.fhArm k arm).Canonical := .ite h.disarm (.ite h.setB h.disarm.fhCfgError)

theorem fhCtrlWrite {k new} (h : s.Canonical) : (s.fhCtrlWrite k new).Canonical := by
  unfold State.fhCtrlWrite
  exact (h.setB.when fun h => h.inhibit).when fun h => h.clrInhibit

theorem hookFiring {a new} (h : s.Canonical) : (s.hookFiring a new).Canonical := by
  dsimp only [State.hookFiring]
  split
  · exact h.shadowWrite
  · exact h.shadowWrite
  · exact h.shadowWrite
  · exact h.fhArm
  · exact h.fhCtrlWrite
  · exact h.wr

theorem acquireWrite {l on} (h : s.Canonical) : (s.acquireWrite l on).Canonical := .ite h h.setB

theorem laneCtrlWrite {l new} (h : s.Canonical) : (s.laneCtrlWrite l new).Canonical :=
  .when (.acquireWrite (.when (.ite h.laneEnable (.ite h.laneDisable h)) fun h => h.releaseLane)) fun h => h.negStart

theorem laneCfgWrite {l a new} (h : s.Canonical) : (s.laneCfgWrite l a new).Canonical := .ite h.wr h.ev.raise

theorem cxWrite {l new} (h : s.Canonical) : (s.cxWrite l new).Canonical := h.setF.when fun h => h.cxGo

theorem hookLane {a new} (h : s.Canonical) : (s.hookLane a new).Canonical := by
  dsimp only [State.hookLane]
  split
  · exact h.laneCtrlWrite
  · exact h.laneCfgWrite
  · exact h.laneCfgWrite
  · exact h.cxWrite
  · exact h.wr

theorem hookVerify {a new} (h : s.Canonical) : (s.hookVerify a new).Canonical := by
  refine .ite h.releaseHold ?_
  split
  · exact h.when fun h => h.wr
  · exact h.wr

theorem hookAxis {x off a new} (h : s.Canonical) : (s.hookAxis x off a new).Canonical := by
  dsimp only [State.hookAxis]
  split
  · exact h.motCtrlWrite
  · exact h.motCfgWrite
  · exact h.motSetWrite
  · exact h.motSetWrite
  · exact h.motSetWrite
  · exact h.motVel
  · exact h.shadowWrite
  · exact h.shadowWrite
  · exact h.shadowWrite
  · exact h.gearArm
  · exact h.wr

theorem grpCtrlWrite {g new} (h : s.Canonical) : (s.grpCtrlWrite g new).Canonical := .ite h.grpStop (h.when fun h => h.grpGo)

theorem hookMotion {a new} (h : s.Canonical) : (s.hookMotion a new).Canonical :=
  .ite h.hookAxis (.ite (.ite h.grpCfgWrite h.grpCtrlWrite) (.ite h.rejWrite h.wr))

theorem cmpCtlWrite {c k a new} (h : s.Canonical) : (s.cmpCtlWrite c k a new).Canonical := h.cmpWrite.when fun h => h.cmpCommit

theorem hookFeedback {a new} (h : s.Canonical) : (s.hookFeedback a new).Canonical := by
  refine .ite ?_ (.ite ?_ ?_)
  · split
    · exact h.emuCfgWrite
    · exact h.wr.emuLag
    · exact h.wr.emuLag
    · exact h.wr
  · split
    · exact h.cmpCtlWrite
    · exact h.cmpArm
    · exact h.cmpWrite
  · split
    · exact h.fbCtrlWrite
    · exact h.fbCfgWrite
    · exact h.wr

theorem hookLoop {a new} (h : s.Canonical) : (s.hookLoop a new).Canonical := by
  refine .ite ?_ (.ite h.timerStart (.ite h.timerWrite (.ite h.pwmCfgWrite (.ite h.traceCtrlWrite h.wr))))
  split
  · exact h.loopCtrlWrite
  · exact h.loopCfgWrite
  · exact h.loopArm
  · exact h.wr
  · exact h.wr
  · exact h.wr
  · exact h.shadowWrite

theorem hookCal {a new} (h : s.Canonical) : (s.hookCal a new).Canonical :=
  .ite h.calCmdWrite (.ite h.calApplyWrite (.ite h.nzBufWrite (.ite (h.when fun h => h.qzProg) h.wr)))

theorem fprogWrite {new} (h : s.Canonical) : (s.fprogWrite new).Canonical := h.wr.when fun h => h.fuseGo

theorem tokenWrite {new} (h : s.Canonical) : (s.tokenWrite new).Canonical := h.wr.when fun h => h.tokenGo

theorem loadWrite {new} (h : s.Canonical) : (s.loadWrite new).Canonical := h.wr.when fun h => h.loadGo

theorem geoCmdWrite {new} (h : s.Canonical) : (s.geoCmdWrite new).Canonical :=
  ((h.when fun h => h.provision).when fun h => h.geoUnlock).when fun h => h.tamperEvent

theorem ledgerCtrlWrite {new} (h : s.Canonical) : (s.ledgerCtrlWrite new).Canonical := .ite h.ledgerClose (h.when fun h => h.ledgerOpen)

theorem hookSecurity {a new} (h : s.Canonical) : (s.hookSecurity a new).Canonical :=
  .ite h.fprogWrite
    (.ite h.tokenWrite (.ite h.loadWrite (.ite h.ledgerCtrlWrite (.ite h.ledgerCfgWrite (.ite h.geoCmdWrite (.ite h.supCfgWrite h.wr))))))

theorem hookTwin {a new} (h : s.Canonical) : (s.hookTwin a new).Canonical :=
  .ite h.twinCfgWrite (.ite ((h.when fun h => h.twinSwitch).when fun h => h.twinRejoin) (.ite h.pairWrite h.wr))

theorem hookDebug {a new} (h : s.Canonical) : (s.hookDebug a new).Canonical := .ite h.dbgWrite (.ite h.mwinWrite h.wr)

theorem hookEngine {a new} (h : s.Canonical) : (s.hookEngine a new).Canonical := by
  dsimp only [State.hookEngine]
  split
  · exact .ite h.engStop (h.when fun h => h.engStart)
  · exact h.engEvset
  · exact h.wr

theorem hook {req a new} (h : s.Canonical) : (s.hook req a new).Canonical := by
  dsimp only [State.hook]
  split
  · exact h.hookSys
  · exact h.hookFault
  · exact h.hookDma
  · exact h.hookMemc
  · exact h.hookRaster
  · exact h.hookFiring
  · exact h.hookLane
  · exact h.hookVerify
  · exact h.hookMotion
  · exact h.hookFeedback
  · exact h.hookLoop
  · exact h.hookCal
  · exact h.hookSecurity
  · exact h.hookTwin
  · exact h.hookDebug
  · exact h.hookEngine
  · exact h

theorem hookPair {base a v frac} (h : s.Canonical) : (s.hookPair base a v frac).Canonical := by
  dsimp only [State.hookPair]
  split
  · exact h.chSetWrite64
  · exact h.chSetWrite64
  · exact .ite h h.wr64
  · exact .ite h h.wr64
  · exact .ite h.wr64 h.ev
  · exact h.wr64.setB
  · exact h.motTarget
  · exact .ite h h.motPos
  · exact h.wr64.setB
  · exact .ite h h.fbPosWrite
  · exact .ite (.ite h h.ev) (.setB (.wr64 (.ite h.wr h)))
  · exact .ite (.ite h h.ev) (.setB (.wr64 (.ite h.wr h)))
  · exact .ite h h.wr64.wn.wn
  · exact h.wr64

/-! Accesses to BAR0 -/

theorem badAccess {req a} (h : s.Canonical) : (s.badAccess req a).Canonical := h.raise

theorem consume {req a} (h : s.Canonical) : (s.consume req a).2.Canonical := by
  dsimp only [State.consume]
  split
  · exact h.keep
  · exact h

theorem guardWrite {req v} (h : s.Canonical) : (s.guardWrite req v).Canonical :=
  .ite h.keep.setF (h.incSat.setF.when fun h => h.tamperEvent)

theorem unlockExpire {req} (h : s.Canonical) : (s.unlockExpire req).Canonical := ⟨h.mem, h.regs⟩

theorem guardRefuse {req a} (h : s.Canonical) : (s.guardRefuse req a).Canonical := h.ev.setF.setF.raise

theorem sqWrite {r a v} (h : s.Canonical) : (s.sqWrite r a v).Canonical := .ite h (.ite h.fltClear h.wr)

theorem stage {a v} (h : s.Canonical) : (s.stage a v).Canonical := ⟨h.mem, h.regs⟩

theorem lockW1 {a} (h : s.Canonical) : (s.lockW1 a).Canonical := ⟨h.mem, h.regs⟩

theorem onceViolation {req a} (h : s.Canonical) : (s.onceViolation req a).Canonical := h.raise

theorem pairLoad {req a hi v granted} (h : s.Canonical) : (s.pairLoad req a hi v granted).Canonical := by
  refine .ite (.onceViolation (.ite h.stage.stage h.stage)) ?_
  split
  · exact .ite h.stage.stage h.stage
  · exact .ite (.guardRefuse (.ite h.stage.stage h.stage))
        (.ite (.ite h.stage.stage h.stage) (.hookPair (.ite (.lockW1 (.ite h.stage.stage h.stage)) (.ite h.stage.stage h.stage))))

theorem regWrite {req a v} (h : s.Canonical) : (s.regWrite req a v).Canonical := by
  dsimp only [State.regWrite]
  split
  · exact h.consume.badAccess
  · exact .ite h.guardWrite
        (.ite (.ite (.onceViolation (.ite h h.consume)) (.stage (.ite h h.consume)))
          (.ite h.consume.sqWrite
            (.ite h.consume.pairLoad
              (.ite h.consume
                (.ite
                  (.ite ((h.consume.when fun h => h.guardRefuse).when fun h => h.onceViolation).lockW1
                    ((h.consume.when fun h => h.guardRefuse).when fun h => h.onceViolation))
                  (.hook
                    (.ite ((h.consume.when fun h => h.guardRefuse).when fun h => h.onceViolation).lockW1
                      ((h.consume.when fun h => h.guardRefuse).when fun h => h.onceViolation))))))))

theorem busReg {req a v} (h : s.Canonical) : (s.busReg req a v).Canonical := .ite h.regWrite h

theorem busField {req x v} (h : s.Canonical) : (s.busField req x v).Canonical := h.busReg

theorem memWrite {req o bs} (h : s.Canonical) : (s.memWrite req o bs).Canonical := by
  refine .ite h.badAccess (.ite (.ite h.nozzleWrites h.badAccess) ?_)
  split
  · exact h.raise
  · exact h.winStore

theorem maskWrite {req o v be} (h : s.Canonical) : (s.maskWrite req o v be).Canonical := by
  refine .ite h.badAccess ?_
  split
  · exact h.raise
  · exact h.forEach fun h => h.winStore

theorem longStore {req a bs} (h : s.Canonical) : (s.longStore req a bs).Canonical :=
  h.forEach fun h => .ite h.busReg (.ite h.consume.badAccess h)

theorem busStore {req a bs} (h : s.Canonical) : (s.busStore req a bs).Canonical :=
  .ite h (.ite h.memWrite (.ite h.regWrite (.ite h.regWrite.busReg (.ite h.longStore h.consume.badAccess))))

theorem regRead {req a} (h : s.Canonical) : (s.regRead req a).1.Canonical := by
  dsimp only [State.regRead]
  split
  · exact h.badAccess
  · split
    · exact h.mwinRead
    · split
      · exact h.keep
      · exact h

theorem wordRead {req a o} (h : s.Canonical) : (s.wordRead req a o).1.Canonical := by
  dsimp only [State.wordRead]
  split
  · exact h.badAccess
  · exact h.regRead.badAccess

theorem longRead {req a n} (h : s.Canonical) : (s.longRead req a n).1.Canonical :=
  .foldPair h fun h => by split; exacts [h.regRead, h.wordRead]

theorem busRead {req a n} (h : s.Canonical) : (s.busRead req a n).1.Canonical := by
  dsimp only [State.busRead]
  split
  · split
    · exact h
    · exact h.badAccess
  · split
    · exact h.regRead
    · split
      · exact h.regRead.regRead
      · split
        · exact h.longRead
        · exact h.wordRead

theorem answer {req bs} (h : s.Canonical) : (s.answer req bs).Canonical := .ite h.emit h.emit

theorem busAnswer {req a n} (h : s.Canonical) : (s.busAnswer req a n).Canonical := .ite h.busRead.answer (.ite h.emit h)

/-! Commands that are accesses -/

theorem busPair {req a v} (h : s.Canonical) : (s.busPair req a v).Canonical := h.busReg.busReg

theorem enabledWrite {req a v be} (h : s.Canonical) : (s.enabledWrite req a v be).Canonical :=
  .ite h.busStore (.ite h (.ite h.maskWrite h.consume.badAccess))

theorem dbgAcc {write a v} (h : s.Canonical) : (s.dbgAcc write a v).Canonical :=
  .ite h.jtagSelect (.ite h.jtagSelect.busStore h.jtagSelect.busAnswer)

/-! Requests and acts of an instruction -/

theorem xAct {c a} (h : s.Canonical) : (State.xAct c s a).Canonical := by
  dsimp only [State.xAct]
  split
  · exact h.modEng
  · exact h.modEng
  · exact h.writeMem
  · exact h.modEng
  · exact h.modEng
  · exact h.modEng
  · exact h.modEng
  · exact h.keep
  · exact h.modEng

theorem xRetire {c l} (h : s.Canonical) : (State.xRetire c l s).Canonical := (h.modEng.foldl fun h => h.xAct).modEng

theorem xStall {i c} (h : s.Canonical) : (State.xStall i s c).Canonical := h.modEng

theorem lockstep (h : s.Canonical) : s.lockstep.Canonical := h.modEng.modEng.raise

theorem storeTakes {e p} (h : s.Canonical) : (State.storeTakes e s p).Canonical :=
  .ite h.writeNozzle (.ite h.busStore (.ite (.ite h.deviceWrite h.raise) h.raise))

theorem drainOne {e} (h : s.Canonical) : (State.drainOne e s).Canonical := by
  dsimp only [State.drainOne]
  split
  · exact h
  · exact h.modEng.storeTakes

theorem drainStores {e n} (h : s.Canonical) : (State.drainStores e n s).Canonical := by
  induction n generalizing s with
  | zero => exact h
  | succ n ih => exact ih h.drainOne

theorem drainAll {e} (h : s.Canonical) : (s.drainAll e).Canonical := h.drainStores

theorem post {e p} (h : s.Canonical) : (State.post e p s).1.Canonical := by
  unfold State.post
  split
  · exact .fst h.modEng
  · exact .fst h

theorem loadTakes {e a n} (h : s.Canonical) : (State.loadTakes e a n s).1.Canonical := by
  dsimp only [State.loadTakes]
  split
  · exact h.busRead
  · exact h.eccRead

theorem ledgerPut {e r} (h : s.Canonical) : (State.ledgerPut e r s).1.Canonical := by
  unfold State.ledgerPut
  extract_lets s₁ t s₂ s₃
  have h₁ : s₁.Canonical := h.acceptAll
  have h₂ : s₂.Canonical := h₁.blowMark
  have h₃ : s₃.Canonical := .ite h₂.checkpoint.blowMark h₂
  refine .iteFst (.fst h₁) (.iteFst (.fst h₁) (.iteFst (.fst h₁) (.iteFst (.fst h₁) (.iteFst (.fst h₁) ?_))))
  exact .iteFst (.fst h₂) (.iteFst (.fst h₃) (.iteFst (.fst h₃) (.fst h₃.chain)))

theorem issueLine {e bs} (h : s.Canonical) : (State.issueLine e bs s).1.Canonical := by
  dsimp only [State.issueLine]
  split
  · exact h.keep
  · exact h

theorem mail {q v} (h : s.Canonical) : (State.mail q v s).1.Canonical := by
  dsimp only [State.mail]
  split
  · exact h.forEach fun h => h.modEng
  · exact h

theorem serve {back e r} (h : s.Canonical) : (State.serve back e r s).1.Canonical := by
  unfold State.serve
  split
  · exact .fst h
  · exact .iteFst (.fst h) (.iteFst h.loadTakes (.fst h))
  · exact h.post
  · exact .iteFst (.fst h) (.fst h)
  · exact h.post
  · exact .iteFst (.fst (.ite h.writeNozzle h)) (.fst h)
  · exact h.issueLine
  · exact .fst h.ledgerPut
  · exact .fst h.armSet
  · exact h.mail
  · exact .fst h
  · exact .fst h
  · exact .fst h
  · exact .fst h

theorem xTrapAll {e cause tval} (h : s.Canonical) : (State.xTrapAll e cause tval s).Canonical := h.forEach fun h => h.xTrap

theorem xStallAll {e i} (h : s.Canonical) : (State.xStallAll e i s).Canonical := h.forEach fun h => h.xStall

theorem perform {back e i p} (h : s.Canonical) : (State.perform back e i p s).Canonical := by
  unfold State.perform
  extract_lets c p0 other pair
  clear_value p0
  split
  · exact h.lockstep
  · split
    · exact h.xTrapAll
    · exact h.xStallAll
    · split
      next heq => exact (ofFst heq h.serve).xStallAll
      next heq => exact (ofFst heq h.serve).xTrapAll
      next heq =>
        have ht := ofFst heq h.serve
        exact .ite ht.lockstep (ht.forEach fun h => h.xRetire)

theorem issue {e i p} (h : s.Canonical) : (State.issue e i p s).Canonical := .ite h.perform h

theorem stopDue {e} (h : s.Canonical) : (s.stopDue e).Canonical := h.when fun h => h.modEng

/-! What befalls a stalled engine -/

theorem retry {back e} (h : s.Canonical) : (State.retry back e s).Canonical := by
  dsimp only [State.retry]
  split
  · exact h.perform
  · exact h

theorem waitWakes {e} (h : s.Canonical) : (s.waitWakes e).Canonical := h.when fun h => h.retry

theorem fenceRetires {e} (h : s.Canonical) : (s.fenceRetires e).Canonical := h.when fun h => h.drainAll.retry.stopDue

theorem loadReturns {e} (h : s.Canonical) : (s.loadReturns e).Canonical := h.when fun h => h.drainAll.retry.stopDue

theorem loadLate {e} (h : s.Canonical) : (s.loadLate e).Canonical := by
  unfold State.loadLate
  exact h.when fun h => h.xTrapAll.stopDue

theorem stallEnds {e} (h : s.Canonical) : (s.stallEnds e).Canonical := h.when fun h => h.drainOne.retry

theorem wdogExpires {e} (h : s.Canonical) : (s.wdogExpires e).Canonical := h.when fun h => h.xTrapAll.stopDue

theorem timerMatches {e} (h : s.Canonical) : (s.timerMatches e).Canonical := by
  unfold State.timerMatches
  exact h.when fun h => h.forEach fun h => h.engEvent.modEng

theorem parkDone (h : s.Canonical) : s.parkDone.Canonical :=
  h.when fun h => ((h.forEach fun h => h.drainAll).forEach fun h => h.loadReturns).parked

theorem samplesDue (h : s.Canonical) : s.samplesDue.Canonical := (h.forEach fun h => h.correctDue).forEach fun h => h.inputsSettle

theorem idle (h : s.Canonical) : s.idle.Canonical :=
  .ite (.ite h h.keep) (.forEach (.samplesDue (.begin (.ite h h.keep))) fun h => h.drainOne)

/-! Commands -/

/-- Whatever state an outcome leaves is in canonical form. -/
def Kept (o : Host.Outcome State Fault Refusal) : Prop := ∀ t, o = .next t → t.Canonical

theorem next (h : s.Canonical) : Kept (.next s) := by
  intro t ht
  cases ht
  exact h

theorem execSpelled {i} (h : s.Canonical) : Kept (execSpelled i s) := by
  unfold Machine.execSpelled
  split
  rotate_right
  · exact h.begin.next
  all_goals exact h.begin.issue.next

theorem execSnop {e w} (h : s.Canonical) : Kept (execSnop e w s) := by
  unfold Machine.execSnop
  split
  · exact h.execSpelled
  · exact h.begin.issue.next

theorem execVbatLow (h : s.Canonical) : Kept (execVbatLow s) := by
  unfold Machine.execVbatLow
  extract_lets t u _ v
  have hu : u.Canonical := h.begin.railBit
  split
  · exact .next hu.keep.setActive.tamperEvent
  · exact hu.next

theorem exec {i} (h : s.Canonical) : Kept (exec i s) := by
  cases i with
  | powerOnReset => exact h.begin.powerReset.next
  | resetRelease => exact h.begin.resetRelease.next
  | warmReset => exact h.begin.pinReset.next
  | softReset | park | unpark | hostGo | cfgReady | engStart | engStop | dmaGo | dmaKick | dmaAbort | dmaFlush | dcdGo | dcdStop
  | derate | clrInhibit | forceInhibit | laneEnable | laneDisable | acquire | release | reneg | axisEnable | axisGo | axisStop
  | axisQstop | axisHome | groupGo | groupStop | fbEnable | fbDisable | redetect | emuEnable | loopRun | loopStop | loopInit | qzProg
  | faultResume | errHoldRelease | faultForce | sevWrite | provision | geoUnlock | classc | ledgerOpen | ledgerClose | twinEnable
  | twinSwitch | twinRejoin | debugUnlock | debugLock | bench | freeze | debugResume => exact h.begin.busField.next
  | perstAssert => exact h.begin.fundamental.next
  | perstRelease => exact h.begin.perstRelease.next
  | functionLevelReset => exact .next (h.hostAsks fun h => h.flrRequest)
  | debugReset => exact h.begin.debugReset.next
  | testEnHigh => exact h.begin.testReset.next
  | railExcursion => exact h.begin.railOut.next
  | vaultSupplySwitch => exact .next (h.begin.when fun h => h.vaultOn)
  | vbatLoss => exact h.begin.vaultDry.next
  | clockFail | clockReturn => exact h.begin.clockFails.next
  | parkDone => exact .next (h.awake fun h => h.parkDone)
  | unparkDone => exact .next (h.awake fun h => h.unparked)
  | fusesRead => exact .next (h.awake fun h => h.fusesIn)
  | qspiReadDone => exact .next (h.awake fun h => h.qspiIn)
  | qspiTimeout => exact .next (h.awake fun h => h.qspiLate)
  | firstStageChecksDone => exact .next (h.awake fun h => h.stageCheck)
  | firstStageLate => exact .next (h.awake fun h => h.firstStageLate)
  | configRequest => exact .next (h.hostAsks fun h => h.cfgRequest)
  | guardUnlock | loStageWrite | sqWriteBack | shadowArm | engEvset | jqEnable | jqDisable | idxClr | doorbell | jqDone | jqAbort
  | cqHeadWrite | ringCountWrite | ddrTrain | streamEnable | streamDisable | cxRead | cxWrite | holdRelease | timerStart | calRun
  | calApply | fltSrcClear | fuseProgram | tokenCheck | imageLoad | lgRingHiWrite | mwinDataWrite => exact h.begin.busReg.next
  | unlockExpire => exact h.begin.unlockExpire.next
  | registerWrite => exact h.begin.enabledWrite.next
  | badRegisterRead | mwinDataRead => exact h.begin.busAnswer.next
  | memoryWindowWrite | nozzleTableWrite => exact h.begin.busStore.next
  | add | sub | and | or | xor | sll | srl | sra | slt | sltu | mul | mulh | mulhu | mulq | addi | andi | ori | xori | slti | sltiu
  | slli | srli | srai | lui | lw | lh | lhu | lb | lbu | sw | sh | sb | callr | csrr | csrw | csrm | beq | bne | blt | bge | bltu
  | bgeu | j | call | halt | trap | rett | wait | fenceE | fenceD | fenceH | fenceL | lissue | nzld | nzst | nzcas | lgput | cswap
  | emit | recv => exact h.begin.issue.next
  | snop e w => exact h.execSnop
  | waitWake => exact h.begin.waitWakes.next
  | fenceRetire => exact h.begin.fenceRetires.next
  | loadReturn => exact h.begin.loadReturns.next
  | loadTimeout => exact h.begin.loadLate.next
  | stallRelease => exact h.begin.stallEnds.next
  | watchdogExpire => exact h.begin.wdogExpires.next
  | timerMatch => exact h.begin.timerMatches.next
  | jobIntake => exact .next (h.awake fun h => h.jobIntake)
  | jobDescReturn => exact .next (h.awake fun h => h.descReturn)
  | itemArrayReturn => exact .next (h.awake fun h => h.itemsReturn)
  | completionRelease => exact .next (h.awake fun h => h.releaseNext)
  | linkUp => exact h.begin.linkEnters.next
  | linkDown => exact h.begin.linkLost.next
  | pcieErrorRx => exact .next (h.awake fun h => h.pcieEvent)
  | cplTimeout => exact .next (h.awake fun h => h.requestTimeout)
  | bmeClear | bmeSet => exact .next (h.awake fun h => h.setBme)
  | d3hotEntry => exact .next (h.awake fun h => h.setB)
  | bar2Read => exact .next (h.hostAsks fun h => h.upset.bar2Read)
  | bar2Write => exact .next (h.hostAsks fun h => h.bar2Write)
  | unsupportedRequest => exact .next (h.hostAsks fun h => h.emit.aerError)
  | msixUnmask => exact .next (h.awake fun h => h.unmask)
  | aspmL1Entry => exact .next (h.awake fun h => h.l1Entry)
  | descFetchReturn => exact .next (h.awake fun h => h.fetchReturn)
  | dmaRequestIssue => exact .next (h.awake fun h => h.issueRequest)
  | dataReturn => exact .next (h.awake fun h => h.upset.dataReturn)
  | descComplete => exact .next (h.awake fun h => h.completeDesc)
  | trainDone => exact .next (h.awake fun h => h.trainDone)
  | scrubStep => exact .next (h.awake fun h => h.scrubStep)
  | lineBoundary => exact .next (h.awake fun h => h.boundaryEvent)
  | sliceHandover => exact .next (h.awake fun h => h.handover)
  | planningTick => exact .next (h.awake fun h => h.planningTick)
  | senseRx => exact .next (h.awake fun h => h.senseFrame)
  | riseUpdate => exact .next (h.awake fun h => h.riseAll)
  | capTx => exact .next (h.awake fun h => h.capOut)
  | capRx => exact .next (h.awake fun h => h.capRx)
  | rateSwitch => exact .next (h.awake fun h => h.linkSwitch)
  | negFallback => exact .next (h.awake fun h => h.linkFallback)
  | negTimeout => exact .next (h.awake fun h => h.negLate)
  | fireTx => exact .next (h.awake fun h => h.fireTx)
  | syncTx => exact .next (h.awake fun h => h.syncTx)
  | idleTx => exact .next (h.awake fun h => h.idleTx)
  | leaseRequestTx => exact .next (h.awake fun h => h.leaseRequest)
  | leaseRenewTx => exact .next (h.awake fun h => h.leaseRenew)
  | leaseGrantRx => exact .next (h.awake fun h => h.grantRx)
  | leaseRenewedRx => exact .next (h.awake fun h => h.renewedRx)
  | leaseNoLeaseRx => exact .next (h.awake fun h => h.leaseNone)
  | leaseDenyRx => exact .next (h.awake fun h => h.leaseDeny)
  | leaseReleasedRx => exact .next (h.awake fun h => h.releasedRx)
  | leaseExpire => exact .next (h.awake fun h => h.leaseExpire)
  | linkLockLoss => exact .next (h.awake fun h => h.lockLost)
  | upstreamSilence => exact .next (h.awake fun h => h.laneLost)
  | badFrameRx => exact .next (h.awake fun h => h.lineRxd)
  | ctrlReplyRx => exact .next (h.awake fun h => h.ctrlReply)
  | ctrlTimeout => exact .next (h.awake fun h => h.ctrlTimeout)
  | verifyRx => exact .next (h.awake fun h => h.verifyFrame)
  | motPosWrite | fbPosWrite => exact h.begin.busPair.next
  | limitTrip => exact .next (h.awake fun h => h.limitTrip)
  | homeEdge => exact .next (h.awake fun h => h.homeEdge.when fun h => h.homeEdge)
  | detectAttempt => exact .next (h.awake fun h => h.detect)
  | encoderEdge => exact .next (h.awake fun h => h.fbEdge)
  | sincosSample => exact .next (h.awake fun h => h.fbSample.when fun h => h.correctNow)
  | lowSpeedTimeout => exact .next (h.awake fun h => h.lowSpeed)
  | indexEvent => exact .next (h.awake fun h => h.fbIndex)
  | emuStep => exact .next (h.awake fun h => h.emuStep)
  | loopTick => exact .next (h.awake fun h => h.loopTick)
  | pwmPeriodStart => exact .next (h.awake fun h => h.pwmStart)
  | calRunEnd => exact .next (h.awake fun h => h.runEnd)
  | calTimeout => exact .next (h.awake fun h => h.runTimeout)
  | nzSetWrite => exact .next (h.awake fun h => h.nzSetDue)
  | calTriggerEval => exact .next (h.awake fun h => h.triggerEval)
  | qzProgEnd => exact .next (h.awake fun h => h.qzProgEnd)
  | errPulseEnd => exact .next (h.awake fun h => h.errPulseOver)
  | faultInAssert => exact h.begin.faultInLow.next
  | faultInRelease => exact h.begin.faultInHigh.next
  | fuseProgramDone => exact .next (h.awake fun h => h.fuseDone)
  | tokenExpire => exact .next (h.awake fun h => h.tokenExpire)
  | imageLoadDone => exact .next (h.awake fun h => h.loadDone)
  | tamperSample => exact h.begin.tamperSample.next
  | vbatLow => exact h.execVbatLow
  | xtalStop => exact h.begin.vaultSync.setActive.tamperEvent.next
  | ledgerAccept => exact .next (h.awake fun h => h.acceptNext)
  | cpSig => exact .next (h.awake fun h => h.cpSig)
  | ledgerSend => exact .next (h.awake fun h => h.ledgerSend)
  | supplyAuth => exact .next (h.awake fun h => h.supAuth)
  | supplyResponse => exact .next (h.awake fun h => h.supResponse)
  | supplyBusyRetry => exact .next (h.awake fun h => h.supRetry)
  | supplyReauth => exact .next (h.awake fun h => h.supReauth)
  | supplyTimeout => exact .next (h.awake fun h => h.supLost)
  | supplyDecrement => exact .next (h.awake fun h => h.supDecrement)
  | selfTest => exact .next (h.awake fun h => h.selfTested)
  | entropyTestFail => exact .next (h.awake fun h => h.selfTestFail)
  | basaltCapRx => exact .next (h.awake fun h => h.basaltCapRx)
  | helloRx => exact .next (h.awake fun h => h.helloRx)
  | authRx => exact .next (h.awake fun h => h.authRx)
  | basaltReneg => exact .next (h.awake fun h => h.basaltReneg)
  | heartbeatTx => exact .next (h.awake fun h => h.heartbeat)
  | hbRx => exact .next (h.awake fun h => h.sampling fun h => h.onFrame fun h => h.hbRx)
  | mirrorRx => exact .next (h.awake fun h => h.onFrame fun h => h.mirrorRx)
  | csignRx => exact .next (h.awake fun h => h.onFrame fun h => h.csignRx)
  | roleRx => exact .next (h.awake fun h => h.onFrame fun h => h.roleRx)
  | heartbeatLoss => exact .next (h.awake fun h => h.sampling fun h => h.heartbeatLoss)
  | quorumSilent => exact .next (h.awake fun h => h.sampling fun h => h.quorumSilent)
  | takeoverDecide => exact .next (h.awake fun h => h.sampling fun h => h.takeoverDecide)
  | leaseWaitExpire => exact .next (h.awake fun h => h.leaseWaitOver)
  | mirrorAckTimeout => exact .next (h.awake fun h => h.ackLate)
  | quorumMismatch => exact .next (h.awake fun h => h.sampling fun h => h.quorumDiffers)
  | freezePin => exact h.begin.freezeReq.next
  | dbgacc => exact h.begin.dbgAcc.next
  | scanout | idcode | clamp | highz | bypass => exact h.begin.jtagSelect.jtagShift.next
  | extest => exact h.begin.jtagSelect.jtagShift.boundaryShift.next
  | samplePreload => exact h.begin.jtagSelect.boundaryShift.next
  | aonIslandRuns => exact h.begin.aonStart.next
  | railReturn => exact h.begin.railBack.next
  | localGateWindow => exact .next (h.awake fun h => h.gateWindow)

theorem step (h : s.Canonical) : Kept (step s) := by
  unfold Machine.step
  split
  · exact h.idle.next
  · exact h.keep.exec

end State.Canonical

end Sys2Proof.Machine

open Sys2Proof Sys2Proof.Machine

/-- Settles O58: `State.writeMem` and `State.wr` keep the form, no other part of the state has a say in it, and every command and the
tick are composed of such changes. -/
theorem everyStepKeepsCanonicalForm : Obligations.EveryStepKeepsCanonicalForm := by
  intro s t hm hr ht
  obtain ⟨hm, hr⟩ := State.Canonical.step ⟨hm, hr⟩ t ht
  exact ⟨hm, hr⟩

end

section
/-!
PROOFS. CSRR, CSRW and CSRM (05_xaone_isa.md Table 5.1, R114, R115, R160, R161, R163, R167): the copies of an engine read and plan alike,
so an instruction on a number of Table 5.1 retires and one on any other number traps.
-/

namespace Sys2Proof.Machine
open Reg Fld

/-! An instruction that every copy of a ready engine plans alike -/

namespace State.ready
variable {s : State} {e : Nat} (h : s.ready e) {p : State → Nat → XPlan}
include h

/-- An instruction word that is not legal enters the handler with ILLEGAL (R163). -/
theorem issue_illegal (i : Instr) (w : Word) (hn : (s.eng (xReq e)).inTrap = false) (hp : ∀ c ∈ xCopies e, p s.begin c = .trap 1 w) :
    s.engineOnly (s.begin.issue e i p) e (Engine.trapEntered s.tb 1 w) := by
  have hcopies : ∀ c ∈ xCopies e, (s.begin.eng c).inTrap = false := fun c hc =>
    (h.oneEngine.copy Engine.inTrap (fun _ _ => rfl) c hc).trans hn
  rw [State.issue_ready s.begin e i p h, State.perform_traps false s.begin e i p 1 w (s.begin.ready_inPage e h)
    (s.begin.plansAlike_of_copies e p _ hp) (hp _ (xReq_mem_xCopies e))]
  obtain ⟨heng, hrest⟩ := s.begin.xTrapAll_effect e 1 w hcopies (by decide) (by decide)
  exact ⟨heng, s.begin.withEngines_of _ hrest⟩

/-- Acts that change the engine alone retire on every copy. -/
theorem issue_acts (i : Instr) (l : List XAct) (g : Engine → Engine) (hp : ∀ c ∈ xCopies e, p s.begin c = .pure l)
    (hl : l.all XAct.engineOnly = true) (hg : ∀ x, l.foldl (fun x a => a.onEngine s.tb x) x = g x) :
    s.retired (s.begin.issue e i p) e g :=
  s.issue_retires e i p l (fun x => g x.ahead) h (s.begin.plansAlike_of_copies e p _ hp) (hp _ (xReq_mem_xCopies e)) hl fun _ => hg _

end State.ready

/-! What the numbers read (Table 5.1) -/

/-- The copies of an engine read the same. -/
theorem State.oneEngine.csr? {s : State} {e : Nat} (h : s.oneEngine e) (n : Nat) : ∀ c ∈ xCopies e, s.csr? c n = s.csr? (xReq e) n := by
  intro c hc
  rcases xCopies_cases e with ⟨-, hcopies, hreq⟩ | ⟨he, hcopies, hreq⟩ <;> rw [hcopies] at hc <;> rw [hreq]
  · rw [List.mem_singleton.1 hc]
  · obtain ⟨b, hb⟩ := h he
    rcases List.mem_pair.1 hc with rfl | rfl
    · rfl
    · simp only [State.csr?, State.xCycles, hb]
      rfl

/-- What the numbers of Table 5.1 read but those of the events. -/
def State.csrShown (s : State) (c : Nat) : List (Nat × Nat) :=
  let x := s.eng c
  [(0x000, xReq c + 16 * xRole c), (0x001, s.xCycles c), (0x002, s.xCycles c / 0x100000000), (0x003, s.tb),
   (0x004, s.tb / 0x100000000), (0x010, x.status.toNat), (0x011, x.tvec.toNat), (0x012, x.tpc.toNat), (0x013, x.tcause.toNat),
   (0x014, x.tval.toNat), (0x015, x.tscratch.toNat), (0x020, x.wdogLoad.toNat), (0x021, 0), (0x022, x.wdogCount s.tb),
   (0x030, x.timer.toNat), (0x031, x.timer.toNat / 0x100000000), (0x050, x.mailbox.length)]

theorem State.csr?_shown (s : State) (c : Nat) : ∀ p ∈ s.csrShown c, s.csr? c p.1 = some (BitVec.ofNat 32 p.2) := by
  simp [State.csrShown, State.csr?]

theorem State.csr?_none (s : State) (c n : Nat) (hn : ∀ p ∈ s.csrShown c, n ≠ p.1) (hr : n < 0x040 ∨ 0x050 ≤ n) : s.csr? c n = none := by
  simp only [State.csrShown, List.forall_mem_cons, List.not_mem_nil, false_imp_iff, implies_true, and_true] at hn
  simp (disch := omega) only [State.csr?, hn, Bool.and_eq_true, decide_eq_true_eq, if_neg, if_false]

theorem State.csr?_pendRange (s : State) (c k : Nat) (hk : k < 8) :
    s.csr? c (0x040 + k) =
      some (if k = 0 then putBits ((s.eng c).pendingEv.extractLsb' (32 * k) 32) 0 0 (b2n ((s.eng c).pending 0))
        else (s.eng c).pendingEv.extractLsb' (32 * k) 32) := by
  simp (disch := omega) only [State.csr?, Bool.and_eq_true, decide_eq_true_eq, if_neg, if_pos, Nat.add_sub_cancel_left,
    Nat.add_eq_left]

/-- EV_PEND[k] shows the latches of events 32 k to 32 k + 31, and for event 0 the level of the mailbox (R179). -/
theorem State.csr?_evPend (s : State) (c k : Nat) (hk : k < 8) :
    ∃ w, s.csr? c (0x040 + k) = some w ∧ ∀ i < 32, w.getLsbD i =
      if 32 * k + i = 0 then decide ((s.eng c).mailbox ≠ []) else (s.eng c).pendingEv.getLsbD (32 * k + i) := by
  refine ⟨_, s.csr?_pendRange c k hk, fun i hi => ?_⟩
  by_cases h0 : k = 0
  · subst h0
    rw [if_pos rfl, getLsbD_putBits _ 0 0 _ _ (Nat.le_refl 0) hi]
    by_cases hi0 : i = 0
    · subst hi0
      cases h : (s.eng c).mailbox <;> simp [Engine.pending, b2n, h]
    · simp [hi0, hi]
  · simp [h0, hi]

theorem State.csr?_evClr (s : State) (c k : Nat) (hk : k < 8) : s.csr? c (0x048 + k) = some 0 := by
  simp (disch := omega) only [State.csr?, Bool.and_eq_true, decide_eq_true_eq, if_neg, if_pos]
  rfl

/-! What a write of them does -/

theorem Engine.csrWrite_evClr (tb k : Nat) (v : Word) (x : Engine) (hk : k < 8) : x.csrWrite tb (0x048 + k) v = x.evClear k v := by
  simp (disch := omega) only [Engine.csrWrite, Bool.and_eq_true, decide_eq_true_eq, if_neg, if_pos, Nat.add_sub_cancel_left]

/-- EV_CLR[k] clears the latches of the ones written. -/
theorem Engine.evClear_pending (k : Nat) (v : Word) (x : Engine) (i : Nat) (hi : i < 256) :
    (x.evClear k v).pendingEv.getLsbD i =
      (x.pendingEv.getLsbD i && !(decide (32 * k ≤ i) && decide (i < 32 * k + 32) && v.getLsbD (i - 32 * k))) := by
  have h : decide (i < 256) = true := decide_eq_true hi
  simp only [Engine.evClear, BitVec.getLsbD_and, BitVec.getLsbD_not, BitVec.getLsbD_shiftLeft, h, Bool.true_and]
  by_cases hk : 32 * k ≤ i
  · by_cases hk' : i < 32 * k + 32
    · have hge : i - 32 * k < 256 := by omega
      simp [hk, hk', hge, Nat.not_lt.2 hk]
    · have hv : v.getLsbD (i - 32 * k) = false := BitVec.getLsbD_of_ge _ _ (by omega)
      simp [hk, hk', hv]
  · simp [hk, Nat.not_le.1 hk]

/-- Every other number is read-only or no number of Table 5.1. -/
theorem Engine.csrWrite_readOnly (tb n : Nat) (v : Word) (x : Engine)
    (hn : n ∉ [0x010, 0x011, 0x012, 0x015, 0x020, 0x021, 0x030, 0x031]) (hr : n < 0x048 ∨ 0x050 ≤ n) : x.csrWrite tb n v = x := by
  simp only [List.mem_cons, List.not_mem_nil, or_false, not_or] at hn
  obtain ⟨hstatus, htvec, htpc, hscratch, hload, hkick, hlo, hhi⟩ := hn
  simp (disch := omega) only [Engine.csrWrite, Bool.and_eq_true, decide_eq_true_eq, if_neg]

/-- Of the pair, SPE0's number is shown (R154). -/
theorem xReq_of_lt (c : Fin 16) : xReq c = if c.val = 15 then 14 else c.val := by
  simp only [xReq]
  split <;> omega

/-! The number in the immediate -/

theorem toNat_csrImm (n : BitVec 12) : (n.zeroExtend 16).toNat = n.toNat := BitVec.toNat_setWidth_of_le (by decide)

/-- CSRM's value (R167). -/
theorem csrMasked_eq (high : Bool) (old v : Word) :
    csrMasked high old v = (old &&& ~~~((v >>> 16) <<< (if high then 16 else 0))) |||
      (((v &&& (0xFFFF : Word)) &&& (v >>> 16)) <<< (if high then 16 else 0)) := by
  simp only [csrMasked, BitVec.shiftLeft_and_distrib]

theorem toNat_csrNumber_mod (n : BitVec 12) : n.toNat % 4096 = n.toNat := Nat.mod_eq_of_lt n.isLt

/-- The number stands in bits 11:0 of CSRM's immediate, and bit 12 says which half (R167). -/
theorem toNat_csrmImm (n : BitVec 12) (high : Bool) :
    let imm : BitVec 16 := n.zeroExtend 16 ||| (if high then 0x1000 else 0)
    imm.toNat % 4096 = n.toNat ∧ bitAt imm.toNat 12 = high ∧ imm.toNat < 8192 := by
  have hlt : n.toNat < 2 ^ 12 := n.isLt
  cases high
  · simp [bitAt]
    omega
  · have hor : n.toNat ||| 0x1000 = 2 ^ 12 * 1 + n.toNat := by
      rw [Nat.lor_comm, Nat.two_pow_add_eq_or_of_lt hlt]
    have himm : (n.zeroExtend 16 ||| 0x1000).toNat = 2 ^ 12 * 1 + n.toNat := by rw [BitVec.toNat_or, toNat_csrImm, ← hor]; rfl
    simp only [if_true, himm, bitAt, decide_eq_true_eq]
    omega

namespace State.ready
variable {s : State} {e : Fin 16} (h : s.ready e) (rd rs1 : Fin 32) (n : BitVec 12)
include h

/-- A number that is none of Table 5.1 is an illegal instruction (R160). -/
theorem csr_illegal (hn : (s.eng (xReq e)).inTrap = false) (hc : s.csr? (xReq e) n.toNat = none) (i : Instr)
    (hi : i ∈ [Instr.csrr e rd 0 (n.zeroExtend 16), .csrw e 0 rs1 (n.zeroExtend 16), .csrm e rd rs1 (n.zeroExtend 16)]) :
    ∃ w t, exec i s = .next t ∧ s.engineOnly t e (Engine.trapEntered s.tb 1 w) := by
  have hcsr : ∀ c ∈ xCopies e, s.begin.csr? c n.toNat = none := fun c hm => (h.oneEngine.csr? n.toNat c hm).trans hc
  simp only [List.mem_cons, List.not_mem_nil, or_false] at hi
  rcases hi with rfl | rfl | rfl
  · refine ⟨encI 0x30 rd 0 (n.zeroExtend 16), _, rfl, h.issue_illegal _ _ hn fun c hm => ?_⟩
    simp only [planCsrr, toNat_csrImm, toNat_csrNumber_mod, hcsr c hm]
  · refine ⟨encI 0x31 0 rs1 (n.zeroExtend 16), _, rfl, h.issue_illegal _ _ hn fun c hm => ?_⟩
    simp only [planCsrw, toNat_csrImm, toNat_csrNumber_mod, hcsr c hm]
  · refine ⟨encI 0x32 rd rs1 (n.zeroExtend 16), _, rfl, h.issue_illegal _ _ hn fun c hm => ?_⟩
    simp only [planCsrm, toNat_csrImm, toNat_csrNumber_mod, hcsr c hm]

variable {old : Word} (hc : s.csr? (xReq e) n.toNat = some old)
include hc

theorem csr_some : ∀ c ∈ xCopies e, s.begin.csr? c n.toNat = some old := fun c hm => (h.oneEngine.csr? n.toNat c hm).trans hc

/-- CSRR reads the number into rd. -/
theorem csrr_retires : ∃ t, exec (.csrr e rd 0 (n.zeroExtend 16)) s = .next t ∧ s.retired t e fun x => x.setG rd old := by
  refine ⟨_, rfl, h.issue_acts _ [.reg rd old] _ (fun c hm => ?_) rfl fun x => rfl⟩
  have hlt : n.toNat < 4096 := n.isLt
  simp only [planCsrr, toNat_csrImm, toNat_csrNumber_mod, csr_some h n hc c hm, hlt, XPlan.legal, decide_true, Bool.and_self, if_true]

/-- CSRW writes rs1 to the number. -/
theorem csrw_retires :
    ∃ t, exec (.csrw e 0 rs1 (n.zeroExtend 16)) s = .next t ∧ s.retired t e fun x => x.csrWrite s.tb n.toNat (s.g (xReq e) rs1) := by
  refine ⟨_, rfl, h.issue_acts _ [.csr n.toNat (s.g (xReq e) rs1)] _ (fun c hm => ?_) rfl fun x => rfl⟩
  have hlt : n.toNat < 4096 := n.isLt
  have hg : s.begin.g c rs1 = s.g (xReq e) rs1 := h.oneEngine.g c hm rs1
  simp only [planCsrw, toNat_csrImm, toNat_csrNumber_mod, csr_some h n hc c hm, hlt, hg, XPlan.legal, decide_true, Bool.and_self, if_true]

/-- What CSRM does to its engine (R114, R115, R167). -/
theorem csrm_retires (high : Bool) :
    ∃ t, exec (.csrm e rd rs1 (n.zeroExtend 16 ||| (if high then 0x1000 else 0))) s = .next t ∧ s.retired t e fun x =>
      (if s.g (xReq e) rs1 >>> 16 = 0 then x else x.csrWrite s.tb n.toNat (csrMasked high old (s.g (xReq e) rs1))).setG rd old := by
  obtain ⟨hnumber, hhalf, hlt⟩ := toNat_csrmImm n high
  have hmask : s.g (xReq e) rs1 >>> 16 = 0 ↔ (s.g (xReq e) rs1).toNat < 65536 := by
    rw [← BitVec.toNat_inj, BitVec.toNat_ushiftRight, Nat.shiftRight_eq_div_pow]
    exact Nat.div_eq_zero_iff_lt (by decide)
  refine ⟨_, rfl, h.issue_acts _ ((if s.g (xReq e) rs1 >>> 16 = 0 then []
    else [.csr n.toNat (csrMasked high old (s.g (xReq e) rs1))]) ++ [.reg rd old]) _ (fun c hm => ?_) ?_ fun x => ?_⟩
  · have hg : s.begin.g c rs1 = s.g (xReq e) rs1 := h.oneEngine.g c hm rs1
    simp only [planCsrm, hnumber, hhalf, csr_some h n hc c hm, hlt, hg, hmask, XPlan.legal, decide_true, if_true]
  · split <;> rfl
  · split <;> rfl

end State.ready

end Sys2Proof.Machine

open Sys2Proof Sys2Proof.Machine

/-- Settles O9: the copies of an engine read a number and plan alike, so the instruction retires, or traps where no number is. -/
theorem csrInstructions : Obligations.CsrInstructions := by
  refine ⟨fun e rd rs1 n s hr hn hc i hi => hr.csr_illegal rd rs1 n hn hc i hi, fun c s => ?_, fun tb v x => ⟨?_, fun k hk => ?_, ?_⟩, ?_⟩
  · refine ⟨?_, fun k hk => ⟨s.csr?_evClr c k hk, s.csr?_evPend c k hk⟩, ?_⟩
    · rw [← xReq_of_lt c]
      exact s.csr?_shown c
    · intro n hn hr
      rw [← xReq_of_lt c] at hn
      exact s.csr?_none c n hn hr
  · simp [Engine.csrWrite, Engine.kick]
  · exact ⟨_, x.csrWrite_evClr tb k v hk, fun i hi => x.evClear_pending k v i hi⟩
  · exact fun n hn hr => x.csrWrite_readOnly tb n v hn hr
  · intro e rd rs1 n high old s hr hc
    refine ⟨hr.csrr_retires rd n hc, hr.csrw_retires rs1 n hc, ?_⟩
    have h := hr.csrm_retires rd rs1 n hc high
    rw [csrMasked_eq] at h
    exact h

end

section
/-!
PROOFS. Guarded writes (O25): REGISTER_WRITE of a whole register word, and MOT_STEPCFG of an enabled axis, which an unlock does not open
(13_motion.md: GD fields of MOT_STEPCFG are accepted only while ENABLE is 0).
-/

namespace Sys2Proof.Machine
open Reg Fld

/-! REGISTER_WRITE of a whole word (R105) -/

theorem ofLe_leBytes_word (v : Word) : BitVec.ofNat 32 (ofLe (leBytes 4 v.toNat)) = v := by
  rw [ofLe_leBytes, Nat.mod_eq_of_lt (show v.toNat < 256 ^ 4 from v.isLt), BitVec.ofNat_toNat, BitVec.setWidth_eq]

/-- A word write at an aligned offset outside the memory windows is a register write. -/
theorem State.exec_registerWrite (s : State) (req : Req) (a : Nat) (v : Word) (hup : s.reaches req a) (ha : a % 4 = 0)
    (hw : windowRange a = false) : exec (.registerWrite req a v 15) s = .next (s.begin.regWrite req a v) := by
  have hbus : s.begin.busUp req a = true := hup
  refine congrArg Host.Outcome.next ?_
  simp only [State.enabledWrite, State.busStore, hbus, hw, ha, leBytes_length, ofLe_leBytes_word, Bool.not_true, Bool.false_eq_true,
    decide_true, Bool.and_self, if_true, if_false]

/-! MOT_STEPCFG -/

theorem motStepcfg_plain : ∀ x : Fin 16, plainRegister true (MOT_STEPCFG x) 0xFFFF = true := by decide

theorem motStepcfg_outside : ∀ x : Fin 16, windowRange (MOT_STEPCFG x) = false := by decide

theorem State.hook_motStepcfg (s : State) (req : Nat) (x : Fin 16) (w : Word) :
    s.hook req (MOT_STEPCFG x) w = s.motSetWrite x (MOT_STEPCFG x) w := by
  have hblock : MOT_STEPCFG x / 0x10000 = 0x0A := by simp only [MOT_STEPCFG]; omega
  have haxis : MOT_STEPCFG x < 0xA8000 := by simp only [MOT_STEPCFG]; omega
  have hoff : MOT_STEPCFG x % 0x200 = 8 := by simp only [MOT_STEPCFG]; omega
  have hidx : (MOT_STEPCFG x - 0xA0000) / 0x200 = x := by simp only [MOT_STEPCFG]; omega
  simp only [State.hook, hblock, State.hookMotion, haxis, if_true, State.hookAxis, hoff, hidx]

/-- While an axis is enabled a change of its MOT_STEPCFG is a CFG_ERROR, whether an unlock is in force or not. -/
theorem State.motSetWrite_enabled (s : State) (x r : Nat) (w : Word) (hw : w ≠ s.rd r) (he : s.b (MOT_CTRL_ENABLE x) = true) :
    s.motSetWrite x r w = s.motCfg x := by
  simp only [State.motSetWrite, hw, he, decide_false, Bool.not_true, Bool.or_self, Bool.false_eq_true, if_false]

/-- A granted write does not change MOT_STEPCFG of an enabled axis. -/
theorem State.motStepcfg_kept (s : State) (req : Req) (x : Fin 16) (v : Word) (hg : s.granted req (MOT_STEPCFG x))
    (he : s.b (MOT_CTRL_ENABLE x) = true) (hv : (s.rd (MOT_STEPCFG x) &&& ~~~0xFFFF) ||| (v &&& 0xFFFF) ≠ s.rd (MOT_STEPCFG x)) :
    ∃ t, exec (.registerWrite req (MOT_STEPCFG x) v 15) s = .next t ∧ t.rd (MOT_STEPCFG x) = s.rd (MOT_STEPCFG x) := by
  obtain ⟨hup, hgr⟩ := hg
  obtain ⟨l, hl⟩ := s.begin.regWrite_plain req (MOT_STEPCFG x) v 0xFFFF (by rw [State.begin_consume, hgr]; exact motStepcfg_plain x)
  have hstat : MOT_STAT x ≠ MOT_STEPCFG x := by simp only [MOT_STAT, MOT_STEPCFG]; omega
  refine ⟨_, s.exec_registerWrite req _ v hup (by simp only [MOT_STEPCFG]; omega) (motStepcfg_outside x), ?_⟩
  rw [hl, State.hook_motStepcfg]
  exact (congrArg (State.rd · (MOT_STEPCFG x)) ((s.begin.withUnlocks l).motSetWrite_enabled x _ _ hv he)).trans (State.rd_wr_ne _ _ _ _ hstat)

end Sys2Proof.Machine

open Sys2Proof Sys2Proof.Machine
open Sys2Proof.Machine.Reg Sys2Proof.Machine.Fld

/-- Refutes O25: the host holds an unlock of MOTION and axis 0 is enabled; a write of 5 to MOT_STEPCFG[0] is a CFG_ERROR and leaves the register at its
reset value 0xA0A, where the statement has it read 5. -/
theorem not_guardedWrites : ¬ Obligations.GuardedWrites := by
  intro h
  let s : State := { ({} : State).setB (MOT_CTRL_ENABLE 0) true with unlocks := [(16, 0x0A, 0)] }
  let a : Nat := MOT_STEPCFG (0 : Fin 16)
  have hg : s.granted 16 a := ⟨by decide, by decide⟩
  have held : s.rd a = 0xA0A := by decide
  obtain ⟨-, -, -, hguarded⟩ := h 16 0 0 5 s
  obtain ⟨t, ht, -, hput, -⟩ := (hguarded (a, 0xFFFF) (by simp [a])).1 hg
  obtain ⟨u, hu, hkept⟩ := s.motStepcfg_kept 16 0 5 hg (by decide) (by decide)
  obtain rfl : t = u := Host.Outcome.next.inj (ht.symm.trans hu)
  have hclash : (s.rd a &&& ~~~0xFFFF) ||| (5 &&& 0xFFFF) = s.rd a := hput.symm.trans hkept
  rw [held] at hclash
  exact absurd hclash (by decide)

end

section
/-!
PROOFS. Access shapes (O26): staged pairs, status written back, ARM, accesses that meet no register, memory windows, and BAR2.
-/

namespace Sys2Proof.Machine
open Reg Fld

/-! A register write that reaches its block -/

theorem State.busReg_eq (s : State) (req : Req) (a : Nat) (v : Word) (hup : s.reaches req a) :
    s.begin.busReg req a v = s.begin.regWrite req a v := if_pos (show s.begin.busUp req a = true from hup)

/-- An access that reaches a block other than DEBUG meets a collector that is not frozen. -/
theorem State.frozen_of_reaches (s : State) (req : Req) (a : Nat) (hup : s.reaches req a) (ha : a / 0x10000 ≠ 0x10) :
    s.b DBG_STAT_FROZEN = false := s.frozen_of_asleep (s.awake_of_reaches req a hup ha)

/-- Neither has the host's access to any block (R721). -/
theorem State.frozen_of_hostReaches (s : State) (a : Nat) (hup : s.reaches 16 a) : s.b DBG_STAT_FROZEN = false := by
  simp only [State.reaches, State.busUp, Bool.and_eq_true, Bool.not_eq_true', Bool.or_eq_true, decide_eq_true_eq] at hup
  obtain ⟨-, hfrozen⟩ := hup
  exact hfrozen.resolve_right fun h => absurd h.1 (by decide)

/-! 64-bit pairs (R118) -/

theorem State.stagedAt_stage (s : State) (a : Nat) (v : Word) : (s.stage a v).stagedAt a = v := Map.get_set_same _ _ _ _

/-- Are the halves of SEC_LD_SRC one RW field each, at their places among the LO and HI registers? -/
def ldSrcRows : Bool :=
  (rowOf SEC_LD_SRC_LO).any (fun r => decide (r.fields = [(31, 0, .rw)] ∧ r.base = 0xE0400)) &&
  (rowOf SEC_LD_SRC_HI).any fun r => decide (r.fields = [(31, 0, .rw)] ∧ r.base = 0xE0404)

theorem ldSrcRows_eq : ldSrcRows = true := by decide

theorem rowOf_ldSrcLo : ∃ r, rowOf SEC_LD_SRC_LO = some r ∧ r.fields = [(31, 0, .rw)] ∧ r.base = 0xE0400 := by
  obtain ⟨r, hr, h⟩ := (Option.any_eq_true _ _).1 ((Bool.and_eq_true _ _).mp ldSrcRows_eq).1
  exact ⟨r, hr, of_decide_eq_true h⟩

theorem rowOf_ldSrcHi : ∃ r, rowOf SEC_LD_SRC_HI = some r ∧ r.fields = [(31, 0, .rw)] ∧ r.base = 0xE0404 := by
  obtain ⟨r, hr, h⟩ := (Option.any_eq_true _ _).1 ((Bool.and_eq_true _ _).mp ldSrcRows_eq).2
  exact ⟨r, hr, of_decide_eq_true h⟩

/-- A LO write stages its word. -/
theorem State.regWrite_ldSrcLo (s : State) (req : Nat) (v : Word) :
    ∃ l, s.regWrite req SEC_LD_SRC_LO v = (s.withUnlocks l).stage SEC_LD_SRC_LO v := by
  obtain ⟨r, hrow, hfields, hbase⟩ := rowOf_ldSrcLo
  obtain ⟨l, hl⟩ := s.consume_unlocks req SEC_LD_SRC_LO
  have hlo : loBases.contains r.base = true := by rw [hbase]; decide
  have honce : r.writeOnce = false := by rw [RegRow.writeOnce, hfields]; decide
  have hguard : r.guarded = false := by rw [RegRow.guarded, hfields]; decide
  refine ⟨l, ?_⟩
  simp only [State.regWrite, hrow, hlo, honce, hguard, hl, show SEC_LD_SRC_LO ≠ GUARD_UNLOCK by decide, Bool.false_and, Bool.false_eq_true,
    if_true, if_false]

theorem merge_word (r : RegRow) (hr : r.fields = [(31, 0, .rw)]) (held w : Word) (granted locked : Bool) :
    r.merge held w granted locked = { word := w } := by
  have hmask : writeFields r.fields held w = w := by
    rw [writeFields_mask r.fields 0xFFFFFFFF held w (by rw [hr]; decide)]
    rw [show (0xFFFFFFFF : Word) = BitVec.allOnes 32 by decide]
    simp only [BitVec.not_allOnes, BitVec.and_zero, BitVec.zero_or, BitVec.and_allOnes]
  rw [RegRow.merge, Merge.foldl_rw _ _ _ _ _ (by simp [hr]), hmask]

/-- The HI write loads both halves and discards what was staged. -/
theorem State.regWrite_ldSrcHi (s : State) (req : Nat) (w : Word) : ∃ l, s.regWrite req SEC_LD_SRC_HI w =
    ((s.withUnlocks l).stage SEC_LD_SRC_LO 0).wr64 SEC_LD_SRC_LO ((s.stagedAt SEC_LD_SRC_LO).toNat + w.toNat * 0x100000000) := by
  obtain ⟨q, hlow, hqfields, hqbase⟩ := rowOf_ldSrcLo
  obtain ⟨r, hrow, hfields, hbase⟩ := rowOf_ldSrcHi
  obtain ⟨l, hl⟩ := s.consume_unlocks req SEC_LD_SRC_HI
  rcases hcons : s.consume req SEC_LD_SRC_HI with ⟨granted, u⟩
  obtain rfl : u = s.withUnlocks l := by rw [← hl, hcons]
  have hnlo : loBases.contains r.base = false := by rw [hbase]; decide
  have hhi : hiBases.contains r.base = true := by rw [hbase]; decide
  have hsq : r.isSq = false := by rw [RegRow.isSq, hfields]; decide
  have honce : r.writeOnce = false := by rw [RegRow.writeOnce, hfields]; decide
  have hag : q.allGuarded = false := by rw [RegRow.allGuarded, hqfields]; decide
  have hb : (r.base = 0xB010C) = False := by rw [hbase]; decide
  refine ⟨l, ?_⟩
  simp only [State.regWrite, hrow, hnlo, hcons, hsq, hhi, show SEC_LD_SRC_HI ≠ GUARD_UNLOCK by decide, Bool.false_eq_true, if_true, if_false,
    State.pairLoad, hb, honce, show SEC_LD_SRC_HI - 4 = SEC_LD_SRC_LO by decide, hlow, merge_word r hfields, merge_word q hqfields, hag,
    Bool.false_and, Bool.or_self, hqbase]
  rfl

theorem State.rd_wr64_lo (s : State) (a v : Nat) : (s.wr64 a v).rd a = BitVec.ofNat 32 v :=
  (State.rd_wr_ne _ _ _ _ (by omega)).trans ((State.rd_wr_same _ _ _).trans (BitVec.eq_of_toNat_eq (by simp)))

theorem State.rd_wr64_hi (s : State) (a v : Nat) : (s.wr64 a v).rd (a + 4) = BitVec.ofNat 32 (v / 0x100000000) := State.rd_wr_same _ _ _

/-! Status written back (R121) -/

/-- Does a register hold events, cleared together, that take up a mask? -/
def eventRegister (a : Nat) (mask : Word) : Bool :=
  (rowOf a).any (fun r => r.isSq && fieldsMask (r.fields.filter fun x => decide (x.2.2 = .sq) && decide (x.1 < 24)) mask &&
    !loBases.contains r.base) && decide (a ≠ GUARD_UNLOCK ∧ ¬ (0x31000 ≤ a ∧ a < 0x31800))

theorem eventRegister_eccStat : ∀ m : Fin 2, eventRegister (MEMC_ECC_STAT m) 7 = true := by decide
theorem eventRegister_motStat : ∀ i : Fin 16, eventRegister (MOT_STAT i) 0x7F = true := by decide
theorem eventRegister_fhStat : ∀ h : Fin 64, eventRegister (FH_STAT h) 0xF = true := by decide
theorem eventRegister_qzStat : eventRegister QZ_STAT 7 = true := by decide

theorem bits_seq (w : Word) : bits w.toNat 31 24 = (w >>> 24).toNat := by
  have hw : w.toNat < 2 ^ 32 := w.isLt
  rw [BitVec.toNat_ushiftRight, Nat.shiftRight_eq_div_pow, bits]
  omega

theorem bits_seq_eq (v w : Word) : bits v.toNat 31 24 = bits w.toNat 31 24 ↔ v >>> 24 = w >>> 24 := by
  rw [bits_seq, bits_seq, BitVec.toNat_inj]

theorem clearFields_mask (fs : List (Nat × Nat × Acc)) (mask held : Word) (h : fieldsMask fs mask = true) :
    fs.foldl (fun w x => putBits w x.1 x.2.1 0) held = held &&& ~~~mask := by
  have hzero : ∀ x : Nat × Nat × Acc, bits (0 : Word).toNat x.1 x.2.1 = 0 := fun x => by simp [bits]
  have hfold : fs.foldl (fun w x => putBits w x.1 x.2.1 0) held = writeFields fs held 0 := by simp only [writeFields, hzero]
  rw [hfold, writeFields_mask fs mask held 0 h]
  simp

/-- A write of such a register clears its events where it carries the held SEQ, and does nothing where it does not. -/
theorem State.regWrite_events (s : State) (req a : Nat) (v mask : Word) (hr : eventRegister a mask = true) :
    ∃ l, s.regWrite req a v =
      if v >>> 24 = s.rd a >>> 24 then (s.withUnlocks l).wr a (s.rd a &&& ~~~mask) else s.withUnlocks l := by
  obtain ⟨hr, hplace⟩ := (Bool.and_eq_true _ _).mp hr
  obtain ⟨hguard, hflt⟩ := of_decide_eq_true hplace
  obtain ⟨r, hrow, hr⟩ := (Option.any_eq_true _ _).1 hr
  simp only [Bool.and_eq_true, Bool.not_eq_true'] at hr
  obtain ⟨⟨hsq, hmask⟩, hlo⟩ := hr
  obtain ⟨l, hl⟩ := s.consume_unlocks req a
  rcases hcons : s.consume req a with ⟨granted, u⟩
  obtain rfl : u = s.withUnlocks l := by rw [← hl, hcons]
  refine ⟨l, ?_⟩
  have hrn : bits ((s.withUnlocks l).rn a) 31 24 = bits (s.rd a).toNat 31 24 := rfl
  have hclear := clearFields_mask _ mask ((s.withUnlocks l).rd a) hmask
  simp only [State.regWrite, hrow, hguard, hlo, hcons, hsq, Bool.false_eq_true, if_true, if_false, State.sqWrite, hrn, ne_eq, bits_seq_eq,
    Bool.and_eq_true, decide_eq_true_eq, hflt, ite_not]
  rw [hclear]
  rfl

/-! ARM (R744) -/

theorem fhShctl_plain : ∀ (h : Fin 64) (g : Bool), plainRegister g (FH_SHCTL h) 1 = true := by decide

theorem State.hook_fhShctl (s : State) (req : Nat) (h : Fin 64) (w : Word) : s.hook req (FH_SHCTL h) w = s.fhArm h (bitAt w.toNat 0) := by
  have hblock : FH_SHCTL h / 0x10000 = 0x07 := by simp only [FH_SHCTL]; omega
  have hoff : FH_SHCTL h % 0x100 = 0x0C := by simp only [FH_SHCTL]; omega
  have hidx : (FH_SHCTL h - 0x70000) / 0x100 = h := by simp only [FH_SHCTL]; omega
  simp only [State.hook, hblock, State.hookFiring, hoff, hidx]

/-- SHADOW_ARM of a group in order sets ARM. -/
theorem State.exec_shadowArm (s : State) (req : Req) (h : Fin 64) (v : Word) (hup : s.reaches req (FH_SHCTL h))
    (hok : s.fhShadowOk h = true) :
    ∃ l, exec (.shadowArm req (FH_SHCTL h) v) s = .next ((s.begin.withUnlocks l).setB (FH_SHCTL_ARM h) true) := by
  obtain ⟨l, hl⟩ := s.busReg_reaches req (FH_SHCTL h) (putBits v 0 0 1) 1 (fhShctl_plain h) hup
  have harm : bitAt ((s.rd (FH_SHCTL h) &&& ~~~1) ||| (putBits v 0 0 1 &&& 1)).toNat 0 = true := by
    have hbits := bits_masked (s.rd (FH_SHCTL h)) (putBits v 0 0 1) 1 0 0 (by decide) (by decide)
    rw [bits_putBits_same _ _ _ _ (by decide) (by decide)] at hbits
    simpa [bits, bitAt] using hbits
  refine ⟨l, congrArg Host.Outcome.next (hl.trans ?_)⟩
  rw [State.hook_fhShctl, harm, State.fhArm, if_neg (by decide)]
  exact if_pos hok

/-! Accesses that meet no register (R106, R107) -/

theorem requester_lt (req : Req) : requester req < 18 := by
  simp only [requester]
  split <;> omega

/-- What an access error shows (R634). -/
theorem State.badAccess_shows (s : State) (req : Req) (a : Nat) (ha : a < 0x1000000) (hf : s.b DBG_STAT_FROZEN = false) :
    (s.badAccess req a).b (FLT_SRC_LATCHED 20) = true ∧ (s.badAccess req a).rn (FLT_INFO 20) = a + requester req * 0x1000000 := by
  have hreq := requester_lt req
  refine ⟨s.raise_latched 20 _ (by decide) hf, ?_⟩
  rw [State.rn, State.badAccess, s.raise_info 20 _ (by decide) hf, accessInfo, Nat.mod_eq_of_lt ha]
  rw [BitVec.toNat_ofNat, Nat.mod_eq_of_lt (by omega)]

/-- A write of a word that is no register, or of four bytes that are no word. -/
theorem State.exec_registerWrite_nowhere (s : State) (req : Req) (a : Nat) (v : Word) (hup : s.reaches req a) (hw : windowRange a = false)
    (ha : a % 4 ≠ 0 ∨ rowOf a = none) : ∃ l, exec (.registerWrite req a v 15) s = .next ((s.begin.withUnlocks l).badAccess req a) := by
  obtain ⟨l, hl⟩ := s.begin.consume_unlocks req a
  refine ⟨l, ?_⟩
  by_cases h4 : a % 4 = 0
  · have hrow := ha.resolve_left (not_not_intro h4)
    rw [s.exec_registerWrite req a v hup h4 hw]
    simp only [State.regWrite, hrow, hl]
  · have hbus : s.begin.busUp req a = true := hup
    have hlong : longHost req 4 = false := by simp [longHost]
    refine congrArg Host.Outcome.next ?_
    simp only [State.enabledWrite, State.busStore, hbus, hw, h4, leBytes_length, hlong, hl, Bool.not_true, Bool.false_eq_true,
      show ¬ (4 : Nat) = 8 by decide, decide_false, Bool.false_and, Bool.and_false, if_true, if_false]

/-- A host read of a word that is no register returns 0 (R107). -/
theorem State.exec_badRegisterRead_nowhere (s : State) (a : Nat) (hup : s.reaches 16 a) (hw : windowRange a = false) (h4 : a % 4 = 0)
    (hrow : rowOf a = none) :
    exec (.badRegisterRead 16 a 4) s = .next ((s.begin.badAccess (16 : Req) a).emit (.completion 0 [0, 0, 0, 0])) := by
  have hbus : s.begin.busUp (16 : Req) a = true := hup
  refine congrArg Host.Outcome.next ?_
  simp only [State.busAnswer, hbus, State.busRead, hw, h4, State.regRead, hrow, Bool.false_eq_true, decide_true, Bool.and_self, if_true, if_false]
  rfl

/-- A latch counts, up to the counter's end (R620). -/
theorem State.raise_count (s : State) (src info : Nat) (hd : sourceDefined src = true) (hf : s.b DBG_STAT_FROZEN = false) :
    (s.raise src info).f (FLT_CNT_COUNT src) =
      min (s.f (FLT_CNT_COUNT src) + 1) (2 ^ ((FLT_CNT_COUNT src).hi + 1 - (FLT_CNT_COUNT src).lo) - 1) := by
  have hl := sourceDefined_lt src hd
  have hrange : 0x31000 ≤ FLT_CNT src ∧ FLT_CNT src < 0x31800 := by simp only [FLT_CNT]; omega
  have hsrc : FLT_SRC src ≠ FLT_CNT src := by simp only [FLT_SRC, FLT_CNT]; omega
  have hsum : FLT_LATCH_SUM (src / 32) ≠ FLT_CNT src := by simp only [FLT_LATCH_SUM, FLT_CNT]; omega
  have hinfo : FLT_INFO src ≠ FLT_CNT src := by simp only [FLT_INFO, FLT_CNT]; omega
  have hown := s.raiseWith_own false src info (FLT_CNT src) hd hrange
  have hlatch : (s.latchSrc false src (s.severity src)).rd (FLT_CNT src) = s.rd (FLT_CNT src) :=
    (State.rd_congr (s.latchSrc_regs false src _) _).trans (State.rd_wr_ne _ _ _ _ hsrc)
  rw [State.raise, if_neg (by simp [hf]), State.f, show (FLT_CNT_COUNT src).addr = FLT_CNT src from rfl, hown, State.latchWrites]
  refine (State.f_setF_same _ (FLT_CNT_COUNT src) _ (Nat.zero_le 15) (show 15 < 32 by decide)).trans ?_
  rw [State.f, show (FLT_CNT_COUNT src).addr = FLT_CNT src from rfl, State.wn, State.rd_wr_ne _ _ _ _ hinfo, State.rd_wr_ne _ _ _ _ hsum, hlatch]
  exact Nat.mod_eq_of_lt (show min _ (2 ^ 16 - 1) < 2 ^ 16 by omega)

/-- A four-byte write of the nozzle table is one access error whatever bytes it enables, all four alone excepted (log 94). -/
theorem State.exec_registerWrite_halfEntry (s : State) (req : Req) (a : Nat) (v : Word) (be : BitVec 4) (hup : s.reaches req a)
    (hbe : be ≠ 15) (ha : 0x800000 ≤ a ∧ a < 0xA00000) : exec (.registerWrite req a v be) s = .next (s.begin.badAccess req a) := by
  have hbus : s.begin.busUp req a = true := hup
  have hw : windowRange a = true := by simp [windowRange]; omega
  refine congrArg Host.Outcome.next ?_
  simp only [State.enabledWrite, hbe, hbus, hw, State.maskWrite, ha, Bool.not_true, Bool.false_eq_true, decide_true, Bool.and_self, Bool.or_true,
    if_true, if_false]

/-! Memory windows (R108 to R110) -/

section
variable (s : State) (req : Req) (a : Nat) (bs : List Byte) (hup : s.reaches req a) (hlen : 0 < bs.length ∧ bs.length ≤ 512)
  (hpage : a % 4096 + bs.length ≤ 4096) (hall : windowAll a bs.length = true)
include hup hlen hpage hall

theorem State.exec_memoryWindowWrite (hr : windowRange a = true) (hn : a < 0x800000) :
    exec (.memoryWindowWrite req a bs) s = .next (match s.signedHit a bs.length with
      | some e => s.begin.raise 4 e
      | none => s.begin.winStore a bs) := by
  have hbus : s.begin.busUp req a = true := hup
  refine congrArg Host.Outcome.next ?_
  simp only [State.busStore, hbus, hr, State.memWrite, hall, show bs.length ≠ 0 by omega, show ¬ 512 < bs.length by omega,
    show ¬ 4096 < a % 4096 + bs.length by omega, show ¬ 0x800000 ≤ a by omega, decide_false, Bool.or_self, Bool.not_true, Bool.false_and,
    Bool.false_eq_true, if_true, if_false]
  rfl

theorem State.exec_nozzleTableWrite (hr : windowRange a = true) (hn : 0x800000 ≤ a ∧ a < 0xA00000) (h8 : bs.length = 8) (ha : a % 8 = 0) :
    exec (.nozzleTableWrite req a bs) s = .next (s.begin.writeNozzle ((a - 0x800000) / 8) (ofLe bs)) := by
  have hbus : s.begin.busUp req a = true := hup
  have hentry : s.begin.nozzleWrites a bs = s.begin.writeNozzle ((a - 0x800000) / 8) (ofLe bs) := by
    match bs, h8 with
    | [_, _, _, _, _, _, _, _], _ => rfl
  rw [h8] at hall hpage
  refine congrArg Host.Outcome.next ?_
  simp only [State.busStore, hbus, hr, State.memWrite, hall, h8, ha, hn, show ¬ 4096 < a % 4096 + 8 by omega, hentry, show (8 : Nat) ≠ 0 by decide,
    show ¬ 512 < 8 by decide, decide_true,
    decide_false, Bool.or_self, Bool.not_true, Bool.false_eq_true, Bool.and_self, if_true, if_false]

end

/-! DMEM and IMEM of an engine that is not of the pair (R108, R110) -/

/-- The BAR0 offset of a byte of an engine's memories: IMEM, then DMEM. -/
def engineOffset (e : Fin 14) (i : Nat) : Nat := 0x400000 + 0x40000 * e + i

section
variable (e : Fin 14) (i : Nat)

theorem engineOffset_range (hi : i < 0x30000) : 0x400000 ≤ engineOffset e i ∧ engineOffset e i < 0x780000 := by
  simp only [engineOffset]
  omega

theorem engineOffset_mod (hi : i < 0x30000) : engineOffset e i % 0x40000 = i := by
  simp only [engineOffset]
  omega

theorem engineOffset_engine (hi : i < 0x30000) : (engineOffset e i - 0x400000) / 0x40000 = e := by
  simp only [engineOffset]
  omega

theorem engineOffset_add (k : Nat) : engineOffset e i + k = engineOffset e (i + k) := by
  simp only [engineOffset]
  omega

theorem windowRange_engineOffset (hi : i < 0x30000) : windowRange (engineOffset e i) = true := by
  have hrange := engineOffset_range e i hi
  simp only [windowRange, Bool.and_eq_true, decide_eq_true_eq]
  omega

theorem windowAll_engineOffset (n : Nat) (hi : i + n ≤ 0x30000) : windowAll (engineOffset e i) n = true := by
  refine List.all_eq_true.2 fun k hk => ?_
  have hlt : i + k < 0x30000 := by have := List.mem_range.1 hk; omega
  have hrange := engineOffset_range e (i + k) hlt
  have hmod := engineOffset_mod e (i + k) hlt
  simp only [engineOffset_add, windowMapped, hmod, Bool.or_eq_true, Bool.and_eq_true, decide_eq_true_eq]
  omega

/-- Offsets outside SPE1's memories stand for themselves. -/
theorem pairOffset_engineOffset (hi : i < 0x30000) : pairOffset (engineOffset e i) = engineOffset e i := by
  have hrange := engineOffset_range e i hi
  exact if_neg (by simp only [Bool.and_eq_true, decide_eq_true_eq]; omega)

/-- DMEM has no pages to lock. -/
theorem State.signedHit_dmem (s : State) (n : Nat) (hd : 0x10000 ≤ i) (hi : i + n ≤ 0x30000) : s.signedHit (engineOffset e i) n = none := by
  refine Option.map_eq_none_iff.2 (List.find?_eq_none.2 fun k hk => ?_)
  have hlt : i + k < 0x30000 := by have := List.mem_range.1 hk; omega
  simp only [engineOffset_add, pairOffset_engineOffset e _ hlt, engineOffset_mod e _ hlt, show ¬ i + k < 0x10000 by omega, decide_false,
    Bool.and_false, Bool.false_and, Bool.false_eq_true, not_false_eq_true]

/-- A byte of a page locked as signed. -/
theorem State.signedHit_locked (s : State) (hi : i < 0x10000) (hp : bitAt (s.f (ENG_SIGPAGES_LOCKED e)) (i / 4096) = true) :
    s.signedHit (engineOffset e i) 1 = some e.val := by
  have hlt : i < 0x30000 := by omega
  have hrange := engineOffset_range e i hlt
  have hw := windowRange_engineOffset e i hlt
  simp only [State.signedHit, List.range_one, List.find?_singleton, Nat.add_zero, pairOffset_engineOffset e i hlt, hw, engineOffset_mod e i hlt,
    engineOffset_engine e i hlt, hi, hp, show engineOffset e i < 0x800000 by omega, decide_true, Bool.and_self, if_true, Option.map_some]

theorem State.winStore_engineOffset (s : State) (bs : List Byte) (hi : i < 0x30000) :
    s.winStore (engineOffset e i) bs = s.writeMem (barBase + engineOffset e i) bs := by
  have hrange := engineOffset_range e i hi
  simp only [State.winStore, pairOffset_engineOffset e i hi]
  exact if_neg (by simp only [Bool.and_eq_true, decide_eq_true_eq]; omega)

end

/-! BAR2 (R244, R245) -/

/-- An offset in an enabled page of BAR2 whose bytes are installed. -/
theorem State.bar2Addr_page (s : State) (i : Fin 16) (o len : Nat) (ho : o < 0x1000000) (he : s.b (BAR2_PAGE_EN i) = true)
    (hin : s.f (BAR2_PAGE_BASE i) * 0x1000000 + o + len ≤ s.installed) :
    s.bar2Addr (0x1000000 * i + o) len = some (s.f (BAR2_PAGE_BASE i) * 0x1000000 + o) := by
  have hpage : (0x1000000 * i.val + o) / 0x1000000 = i := by omega
  have hoff : (0x1000000 * i.val + o) % 0x1000000 = o := by omega
  simp only [State.bar2Addr, hpage, hoff, he, hin, i.isLt, decide_true, Bool.and_self, if_true]

theorem State.bar2Addr_none (s : State) (i : Fin 16) (o len : Nat) (ho : o < 0x1000000)
    (h : s.b (BAR2_PAGE_EN i) = false ∨ ¬ s.f (BAR2_PAGE_BASE i) * 0x1000000 + o + len ≤ s.installed) :
    s.bar2Addr (0x1000000 * i + o) len = none := by
  have hpage : (0x1000000 * i.val + o) / 0x1000000 = i := by omega
  have hoff : (0x1000000 * i.val + o) % 0x1000000 = o := by omega
  simp only [State.bar2Addr, hpage, hoff]
  rcases h with h | h <;> simp [h]

/-- Bit errors come about in the marks of beats alone. -/
theorem State.upset_beats (s : State) (ups : List (Nat × Bool)) : ∃ po so, s.upset ups = s.withBeats po so := by
  rw [State.upset]
  generalize ups.filter _ = l
  induction l generalizing s with
  | nil => exact ⟨s.poison, s.soft, rfl⟩
  | cons x l ih =>
    rw [List.foldl_cons]
    split
    · exact ih s
    · split
      · exact ih { s with poison := x.1 :: s.poison, soft := s.soft.filter (· ≠ x.1) }
      · split
        · exact ih s
        · exact ih { s with soft := x.1 :: s.soft }

theorem State.upset_nil (s : State) : s.upset [] = s := rfl

section
variable (s : State) (ha : s.asleep = false)
include ha

theorem State.inReset_of_awake : s.inReset = false := (Bool.or_eq_false_iff.1 ha).2

section
variable (ups : List (Nat × Bool)) (off len : Nat)

/-- A read of installed bytes checks them and returns them (R245, R292, R293). -/
theorem State.exec_bar2Read_page (a : Nat) (h : s.bar2Addr off len = some a) :
    exec (.bar2Read off len ups) s = .next (((s.begin.upset ups).eccRead a len).emit
      (.completion (if (s.begin.upset ups).badBeats a len = [] then 0 else 8) (s.readMem a len))) := by
  obtain ⟨po, so, hups⟩ := s.begin.upset_beats ups
  have hf : (s.begin.withBeats po so).b DBG_STAT_FROZEN = false := s.frozen_of_asleep ha
  have haddr : (s.begin.withBeats po so).bar2Addr off len = some a := h
  refine congrArg Host.Outcome.next ((s.hostAsks_of _ (s.inReset_of_awake ha)).trans ?_)
  simp only [hups, State.bar2Read, hf, haddr, Bool.false_eq_true, if_false]
  rfl

/-- Any other read returns 0 with source 27 (R246). -/
theorem State.exec_bar2Read_none (h : s.bar2Addr off len = none) :
    exec (.bar2Read off len ups) s = .next (((s.begin.upset ups).raise 27 0).emit (.completion 0 (zeros len))) := by
  obtain ⟨po, so, hups⟩ := s.begin.upset_beats ups
  have hf : (s.begin.withBeats po so).b DBG_STAT_FROZEN = false := s.frozen_of_asleep ha
  have haddr : (s.begin.withBeats po so).bar2Addr off len = none := h
  refine congrArg Host.Outcome.next ((s.hostAsks_of _ (s.inReset_of_awake ha)).trans ?_)
  simp only [hups, State.bar2Read, hf, haddr, Bool.false_eq_true, if_false]

end

theorem State.exec_bar2Write_page (off : Nat) (bs : List Byte) (a : Nat) (h : s.bar2Addr off bs.length = some a) :
    exec (.bar2Write off bs) s = .next (s.begin.ddrWrite a bs) := by
  have hf : s.begin.b DBG_STAT_FROZEN = false := s.frozen_of_asleep ha
  have haddr : s.begin.bar2Addr off bs.length = some a := h
  refine congrArg Host.Outcome.next ((s.hostAsks_of _ (s.inReset_of_awake ha)).trans ?_)
  simp only [State.bar2Write, hf, haddr, Bool.false_eq_true, if_false]

end

/-! A read that meets one beat in error (R292, R293) -/

theorem beatsIn_single (b a n : Nat) (hn : 0 < n) (h1 : a / 4 ≤ b) (h2 : b ≤ (a + n - 1) / 4) : beatsIn [b] a n = [b] := by
  have hne : n ≠ 0 := by omega
  simp [beatsIn, hne, h1, h2]

theorem beatsIn_nil (a n : Nat) : beatsIn [] a n = [] := by simp [beatsIn]

theorem State.forEach_nil (s : State) (g : State → Nat → State) : s.forEach [] g = s := rfl

theorem State.forEach_single (s : State) (b : Nat) (g : State → Nat → State) : s.forEach [b] g = g s b := rfl

section
variable (s : State) (b a n : Nat) (hn : 0 < n) (h1 : a / 4 ≤ b) (h2 : b ≤ (a + n - 1) / 4)

/-- Correcting the only beat marked. -/
theorem State.eccCorrect_single (hs : s.soft = [b]) : s.eccCorrect false b = (s.withBeats s.poison []).eccError false false (4 * b) := by
  rw [State.eccCorrect, hs, show [b].filter (fun x => decide (x ≠ b)) = [] by simp]
  rfl

include hn h1 h2

/-- The only single-bit error of the DDR is corrected. -/
theorem State.eccRead_soft (hs : s.soft = [b]) (hp : s.poison = []) :
    s.eccRead a n = (s.withBeats [] []).eccError false false (4 * b) := by
  have hpoison : ((s.withBeats [] []).eccError false false (4 * b)).poison = [] := State.eccError_poison _ _ _ _
  have hfix := s.eccCorrect_single b hs
  rw [hp] at hfix
  simp only [State.eccRead, hs, beatsIn_single b a n hn h1 h2, State.forEach_single, hfix, State.badBeats, hpoison, beatsIn_nil, State.forEach_nil]

/-- The only poisoned beat of the DDR is an uncorrectable error. -/
theorem State.eccRead_poison (hs : s.soft = []) (hp : s.poison = [b]) : s.eccRead a n = s.eccError true false (4 * b) := by
  have hread : s.eccRead a n = s.forEach (s.badBeats a n) fun s b => s.eccError true false (4 * b) := by
    rw [State.eccRead, hs, beatsIn_nil, State.forEach_nil]
  rw [hread, State.badBeats, hp, beatsIn_single b a n hn h1 h2, State.forEach_single]

end

section
variable (s : State) (hs : s.soft = []) (hp : s.poison = []) (b : Nat) (hb : 4 * b < s.installed)
include hs hp hb

theorem State.upset_clean_single : s.upset [(b, false)] = s.withBeats [] [b] := by
  have h := s.upset_single (4 * b) hb (by simp [hp])
  rwa [Nat.mul_div_cancel_left b (by decide), hs, hp, if_neg (by simp)] at h

theorem State.upset_clean_double : s.upset [(b, true)] = s.withBeats [b] [] := by
  have h := s.upset_double (4 * b) hb (by simp [hp])
  rwa [Nat.mul_div_cancel_left b (by decide), hs, hp, List.filter_nil] at h

end

/-- What goes out with a completion changes nothing that the host reads. -/
theorem State.emit_completion_shows (s : State) (st : Nat) (bs : List Byte) :
    (s.emit (.completion st bs)).mem = s.mem ∧ (s.emit (.completion st bs)).regs = s.regs ∧ (s.emit (.completion st bs)).soft = s.soft ∧
    (s.emit (.completion st bs)).poison = s.poison ∧ (∀ x, (s.emit (.completion st bs)).b x = s.b x) ∧
    (s.emit (.completion st bs)).out = .completion st bs :: s.out := by
  rw [State.emit_completion]
  exact ⟨rfl, rfl, rfl, rfl, fun _ => rfl, rfl⟩

section
variable (s : State) (i : Fin 16) (o len : Nat) (ha : s.asleep = false) (hpoison : s.poison = []) (hsoft : s.soft = []) (ho : o < 0x1000000)
include ha hpoison hsoft ho

section
variable (he : s.b (BAR2_PAGE_EN i) = true) (hin : s.f (BAR2_PAGE_BASE i) * 0x1000000 + o + len ≤ s.installed)
include he hin

/-- A read of BAR2 that meets no beat in error (R245). -/
theorem State.bar2Read_clean : ∃ t, exec (.bar2Read (0x1000000 * i + o) len []) s = .next t ∧ t.mem = s.mem ∧ t.regs = s.regs ∧
    t.out = .completion 0 (s.readMem (s.f (BAR2_PAGE_BASE i) * 0x1000000 + o) len) :: s.out := by
  refine ⟨_, s.exec_bar2Read_page ha [] _ len _ (s.bar2Addr_page i o len ho he hin), ?_⟩
  rw [State.upset_nil, s.begin.eccRead_of_clean _ _ hsoft hpoison, State.badBeats, show s.begin.poison = [] from hpoison, beatsIn_nil, if_pos rfl]
  obtain ⟨hmem, hregs, -, -, -, hout⟩ := s.begin.emit_completion_shows 0 (s.readMem (s.f (BAR2_PAGE_BASE i) * 0x1000000 + o) len)
  exact ⟨hmem, hregs, hout⟩

variable (hlen : 0 < len) (b : Nat) (h1 : (s.f (BAR2_PAGE_BASE i) * 0x1000000 + o) / 4 ≤ b)
  (h2 : b ≤ (s.f (BAR2_PAGE_BASE i) * 0x1000000 + o + len - 1) / 4)
include hlen h1 h2

/-- A read of a beat with a single-bit error corrects it (R292). -/
theorem State.bar2Read_single : ∃ t, exec (.bar2Read (0x1000000 * i + o) len [(b, false)]) s = .next t ∧ t.mem = s.mem ∧ t.soft = [] ∧
    t.poison = [] ∧ t.b (FLT_SRC_LATCHED 13) = true ∧
    t.out.head? = some (.completion 0 (s.readMem (s.f (BAR2_PAGE_BASE i) * 0x1000000 + o) len)) := by
  have hups := s.begin.upset_clean_single hsoft hpoison b (show 4 * b < s.installed by omega)
  have hread := (s.begin.withBeats [] [b]).eccRead_soft b _ len hlen h1 h2 rfl rfl
  obtain ⟨-, -, -, hlatched⟩ := ((s.begin.withBeats [] [b]).withBeats [] []).eccError_shows false false (4 * b) (s.frozen_of_asleep ha)
  refine ⟨_, s.exec_bar2Read_page ha _ _ len _ (s.bar2Addr_page i o len ho he hin), ?_⟩
  rw [hups, hread, State.badBeats, show (s.begin.withBeats [] [b]).poison = [] from rfl, beatsIn_nil, if_pos rfl]
  obtain ⟨hmem, -, hsoft, hpoison, hb, hout⟩ := State.emit_completion_shows
    (((s.begin.withBeats [] [b]).withBeats [] []).eccError false false (4 * b)) 0 (s.readMem (s.f (BAR2_PAGE_BASE i) * 0x1000000 + o) len)
  exact ⟨hmem.trans (State.eccError_mem _ _ _ _), hsoft.trans (State.eccError_soft _ _ _ _), hpoison.trans (State.eccError_poison _ _ _ _),
    (hb _).trans hlatched, congrArg List.head? hout⟩

/-- A read of a beat with more than one wrong bit returns poisoned data (R293). -/
theorem State.bar2Read_double : ∃ t, exec (.bar2Read (0x1000000 * i + o) len [(b, true)]) s = .next t ∧ t.mem = s.mem ∧ t.soft = [] ∧
    t.poison = [b] ∧ t.b (FLT_SRC_LATCHED 14) = true ∧
    t.out.head? = some (.completion 8 (s.readMem (s.f (BAR2_PAGE_BASE i) * 0x1000000 + o) len)) := by
  have hups := s.begin.upset_clean_double hsoft hpoison b (show 4 * b < s.installed by omega)
  have hread := (s.begin.withBeats [b] []).eccRead_poison b _ len hlen h1 h2 rfl rfl
  obtain ⟨-, -, -, hlatched⟩ := (s.begin.withBeats [b] []).eccError_shows true false (4 * b) (s.frozen_of_asleep ha)
  refine ⟨_, s.exec_bar2Read_page ha _ _ len _ (s.bar2Addr_page i o len ho he hin), ?_⟩
  rw [hups, hread, State.badBeats, show (s.begin.withBeats [b] []).poison = [b] from rfl, beatsIn_single b _ len hlen h1 h2,
    if_neg (List.cons_ne_nil _ _)]
  obtain ⟨hmem, -, hsoft, hpoison, hb, hout⟩ := State.emit_completion_shows
    ((s.begin.withBeats [b] []).eccError true false (4 * b)) 8 (s.readMem (s.f (BAR2_PAGE_BASE i) * 0x1000000 + o) len)
  exact ⟨hmem.trans (State.eccError_mem _ _ _ _), hsoft.trans (State.eccError_soft _ _ _ _), hpoison.trans (State.eccError_poison _ _ _ _),
    (hb _).trans hlatched, congrArg List.head? hout⟩

end

/-- A write of BAR2 puts its bytes (R245). -/
theorem State.bar2Write_puts (bs : List Byte) (he : s.b (BAR2_PAGE_EN i) = true)
    (hin : s.f (BAR2_PAGE_BASE i) * 0x1000000 + o + bs.length ≤ s.installed) :
    exec (.bar2Write (0x1000000 * i + o) bs) s = .next (s.begin.writeMem (s.f (BAR2_PAGE_BASE i) * 0x1000000 + o) bs) := by
  rw [s.exec_bar2Write_page ha _ bs _ (s.bar2Addr_page i o bs.length ho he hin), s.begin.ddrWrite_of_clean _ _ hsoft hpoison]

omit hpoison hsoft in
/-- A read of a page that is not enabled, or beyond installed DDR (R246). -/
theorem State.bar2Read_nowhere (ups : List (Nat × Bool))
    (h : s.b (BAR2_PAGE_EN i) = false ∨ ¬ s.f (BAR2_PAGE_BASE i) * 0x1000000 + o + len ≤ s.installed) :
    ∃ t, exec (.bar2Read (0x1000000 * i + o) len ups) s = .next t ∧ t.mem = s.mem ∧ t.out.head? = some (.completion 0 (zeros len)) ∧
      t.b (FLT_SRC_LATCHED 27) = true := by
  obtain ⟨po, so, hups⟩ := s.begin.upset_beats ups
  refine ⟨_, s.exec_bar2Read_none ha ups _ len (s.bar2Addr_none i o len ho h), ?_⟩
  rw [hups]
  obtain ⟨hmem, -, -, -, hb, hout⟩ := ((s.begin.withBeats po so).raise 27 0).emit_completion_shows 0 (zeros len)
  exact ⟨hmem.trans (State.raise_mem _ _ _), congrArg List.head? hout,
    (hb _).trans ((s.begin.withBeats po so).raise_latched 27 0 (by decide) (s.frozen_of_asleep ha))⟩

end

theorem State.writeNozzle_regs (s : State) (n v : Nat) : (s.writeNozzle n v).regs = s.regs :=
  State.writeNozzle_keeps State.regs (fun _ _ _ _ => rfl) (fun _ _ => rfl) (fun _ _ => rfl) s n v

theorem engineOffset_dmem (e : Fin 14) (o : Nat) : dmemBase e + o = barBase + engineOffset e (0x10000 + o) := by
  simp only [dmemBase, engineOffset]
  omega

theorem State.wr64_stagedAt (s : State) (a v b : Nat) : (s.wr64 a v).stagedAt b = s.stagedAt b := rfl

theorem windowAll_nozzle (n : Fin 262144) : windowAll (0x800000 + 8 * n) 8 = true := by
  refine List.all_eq_true.2 fun k hk => ?_
  have hlt := List.mem_range.1 hk
  simp only [windowMapped, Bool.or_eq_true, Bool.and_eq_true, decide_eq_true_eq]
  omega

/-! What each kind of access comes to -/

section
variable (s : State) (req : Req)

/-- The LO write of SEC_LD_SRC (R118). -/
theorem State.loStageWrite_stages (v : Word) (hup : s.reaches req SEC_LD_SRC_LO) :
    ∃ t, exec (.loStageWrite req SEC_LD_SRC_LO v) s = .next t ∧ t.mem = s.mem ∧ t.regs = s.regs ∧ t.stagedAt SEC_LD_SRC_LO = v := by
  obtain ⟨l, hl⟩ := s.begin.regWrite_ldSrcLo req v
  exact ⟨_, congrArg Host.Outcome.next ((s.busReg_eq req _ v hup).trans hl), rfl, rfl, State.stagedAt_stage _ _ _⟩

/-- The HI write of SEC_LD_SRC (R118). -/
theorem State.ldSrcHi_loads (w : Word) (hup : s.reaches req SEC_LD_SRC_HI) :
    ∃ t, exec (.registerWrite req SEC_LD_SRC_HI w 15) s = .next t ∧ s.regsBut t [SEC_LD_SRC_LO, SEC_LD_SRC_HI] ∧
      t.rd SEC_LD_SRC_LO = s.stagedAt SEC_LD_SRC_LO ∧ t.rd SEC_LD_SRC_HI = w ∧ t.stagedAt SEC_LD_SRC_LO = 0 := by
  obtain ⟨l, hl⟩ := s.begin.regWrite_ldSrcHi req w
  have hbut : s.regsBut ((s.begin.withUnlocks l).stage SEC_LD_SRC_LO 0) [SEC_LD_SRC_LO, SEC_LD_SRC_HI] := State.regsBut.of_regs rfl rfl
  have hlow := (s.stagedAt SEC_LD_SRC_LO).isLt
  refine ⟨_, (s.exec_registerWrite req _ w hup (by decide) (by decide)).trans (congrArg Host.Outcome.next hl),
    (hbut.wr _ _ (by simp)).wr _ _ (by simp [show SEC_LD_SRC_LO + 4 = SEC_LD_SRC_HI by decide]),
    (State.rd_wr64_lo _ _ _).trans ?_, (State.rd_wr64_hi _ SEC_LD_SRC_LO _).trans ?_,
    (State.wr64_stagedAt _ _ _ _).trans (State.stagedAt_stage _ _ _)⟩
  · refine BitVec.eq_of_toNat_eq ?_
    rw [BitVec.toNat_ofNat, show s.begin.stagedAt SEC_LD_SRC_LO = s.stagedAt SEC_LD_SRC_LO from rfl]
    omega
  · refine BitVec.eq_of_toNat_eq ?_
    rw [BitVec.toNat_ofNat, show s.begin.stagedAt SEC_LD_SRC_LO = s.stagedAt SEC_LD_SRC_LO from rfl]
    omega

/-- A write of events with the held SEQ, and with another (R121). -/
theorem State.sqWriteBack_clears (a : Nat) (v mask : Word) (hr : eventRegister a mask = true) (hup : s.reaches req a) :
    (v >>> 24 = s.rd a >>> 24 → ∃ t, exec (.sqWriteBack req a v) s = .next t ∧ s.regsBut t [a] ∧ t.rd a = s.rd a &&& ~~~mask) ∧
    (v >>> 24 ≠ s.rd a >>> 24 → ∃ t, exec (.sqWriteBack req a v) s = .next t ∧ t.mem = s.mem ∧ t.regs = s.regs) := by
  obtain ⟨l, hl⟩ := s.begin.regWrite_events req a v mask hr
  have hexec : exec (.sqWriteBack req a v) s = .next _ := congrArg Host.Outcome.next ((s.busReg_eq req a v hup).trans hl)
  constructor
  · intro hseq
    exact ⟨_, hexec.trans (congrArg _ (if_pos hseq)), (State.regsBut.of_regs rfl rfl).wr _ _ (by simp), State.rd_wr_same _ _ _⟩
  · intro hseq
    exact ⟨_, hexec.trans (congrArg _ (if_neg hseq)), rfl, rfl⟩

/-- An ARM write of a group in order (R744). -/
theorem State.shadowArm_arms (h : Fin 64) (v : Word) (hup : s.reaches req (FH_SHCTL h)) (hok : s.fhShadowOk h = true) :
    ∃ t, exec (.shadowArm req (FH_SHCTL h) v) s = .next t ∧ s.regsBut t [FH_SHCTL h] ∧ t.b (FH_SHCTL_ARM h) = true ∧
      t.b (FH_SHCTL_PENDING h) = s.b (FH_SHCTL_PENDING h) := by
  obtain ⟨l, hl⟩ := s.exec_shadowArm req h v hup hok
  exact ⟨_, hl, State.regsBut.setB (State.regsBut.of_regs rfl rfl) _ _ (by simp [FH_SHCTL_ARM]), State.b_setB_same _ _ _ rfl (show 0 < 32 by decide),
    State.b_setB_apart _ _ _ _ (Nat.le_refl 0) (show 1 < 32 by decide) (.inl (show 0 < 1 by decide))⟩

/-- A write that meets no register (R106). -/
theorem State.unmappedWrite_errs (a : Nat) (v : Word) (hup : s.reaches req a) (hw : windowRange a = false) (ha : a % 4 ≠ 0 ∨ rowOf a = none)
    (hlt : a < 0x1000000) :
    ∃ t, exec (.registerWrite req a v 15) s = .next t ∧ t.mem = s.mem ∧
      (s.b DBG_STAT_FROZEN = true → t.rd (FLT_SRC 20) = s.rd (FLT_SRC 20)) ∧
      (s.b DBG_STAT_FROZEN = false → t.b (FLT_SRC_LATCHED 20) = true ∧ t.rn (FLT_INFO 20) = a + requester req * 0x1000000) := by
  obtain ⟨l, hl⟩ := s.exec_registerWrite_nowhere req a v hup hw ha
  refine ⟨_, hl, State.raise_mem _ _ _, fun hf => ?_, fun hf => (s.begin.withUnlocks l).badAccess_shows req a hlt hf⟩
  rw [State.badAccess, State.raise, if_pos (show (s.begin.withUnlocks l).b DBG_STAT_FROZEN = true from hf)]
  rfl

/-- A host read that meets no register (R107). -/
theorem State.unmappedRead_errs (a : Nat) (hw : windowRange a = false) (h4 : a % 4 = 0) (hrow : rowOf a = none) (hlt : a < 0x1000000) :
    ∃ t, exec (.badRegisterRead 16 a 4) s = .next t ∧ (s.reaches 16 a → t.mem = s.mem ∧
      t.out.head? = some (.completion 0 [0, 0, 0, 0]) ∧ t.b (FLT_SRC_LATCHED 20) = true) := by
  refine ⟨_, rfl, fun hup => ?_⟩
  have hread := Host.Outcome.next.inj (s.exec_badRegisterRead_nowhere a hup hw h4 hrow)
  obtain ⟨hlatched, -⟩ := s.begin.badAccess_shows 16 a hlt (s.frozen_of_hostReaches a hup)
  rw [hread]
  obtain ⟨hmem, -, -, -, hb, hout⟩ := (s.begin.badAccess (16 : Req) a).emit_completion_shows 0 [0, 0, 0, 0]
  exact ⟨hmem.trans (State.raise_mem _ _ _), congrArg List.head? hout, (hb _).trans hlatched⟩

/-- Bytes written to DMEM through its window (R108). -/
theorem State.dmemWindow_puts (e : Fin 14) (o : Nat) (bs : List Byte) (ho : o < 0x20000) (hlen : 0 < bs.length ∧ bs.length ≤ 512)
    (hpage : o % 4096 + bs.length ≤ 4096) (hup : s.reaches req (engineOffset e (0x10000 + o))) :
    exec (.memoryWindowWrite req (engineOffset e (0x10000 + o)) bs) s = .next (s.begin.writeMem (dmemBase e + o) bs) := by
  have hfit : 0x10000 + o + bs.length ≤ 0x30000 := by omega
  have hrange := engineOffset_range e (0x10000 + o) (by omega)
  have hmod : engineOffset e (0x10000 + o) % 4096 = o % 4096 := by simp only [engineOffset]; omega
  rw [s.exec_memoryWindowWrite req _ bs hup hlen (by omega) (windowAll_engineOffset e _ _ hfit) (windowRange_engineOffset e _ (by omega))
    (by omega), s.signedHit_dmem e _ _ (by omega) hfit, engineOffset_dmem]
  exact congrArg Host.Outcome.next (s.begin.winStore_engineOffset e _ bs (by omega))

/-- A byte written to a page of IMEM that is locked as signed (R110). -/
theorem State.lockedWindow_refused (e : Fin 14) (o : Nat) (bs : List Byte) (ho : o < 0x10000) (hlen : bs.length = 1)
    (hp : bitAt (s.f (ENG_SIGPAGES_LOCKED e)) (o / 4096) = true) (hup : s.reaches req (engineOffset e o)) :
    exec (.memoryWindowWrite req (engineOffset e o) bs) s = .next (s.begin.raise 4 e) := by
  have hrange := engineOffset_range e o (by omega)
  have hone : bs.length ≤ 1 := by omega
  rw [s.exec_memoryWindowWrite req _ bs hup (by omega) (by omega) (windowAll_engineOffset e o _ (by omega))
    (windowRange_engineOffset e o (by omega)) (by omega), hlen, s.signedHit_locked e o ho hp]

end

end Sys2Proof.Machine

open Sys2Proof Sys2Proof.Machine
open Sys2Proof.Machine.Reg Sys2Proof.Machine.Fld

/-- Settles O26: one lemma for each kind of access. -/
theorem accessShapes : Obligations.AccessShapes := by
  intro req e i h m n a o len v w be bytes s
  refine ⟨s.loStageWrite_stages req v, s.ldSrcHi_loads req w, ?_, s.shadowArm_arms req h v, ?_, ?_, ?_, ?_, ?_, ?_⟩
  · intro p hp hup
    simp only [List.mem_cons, List.not_mem_nil, or_false] at hp
    rcases hp with rfl | rfl | rfl | rfl
    · exact s.sqWriteBack_clears req _ v 7 (eventRegister_eccStat m) hup
    · exact s.sqWriteBack_clears req _ v 0x7F (eventRegister_motStat i) hup
    · exact s.sqWriteBack_clears req _ v 0xF (eventRegister_fhStat h) hup
    · exact s.sqWriteBack_clears req _ v 7 eventRegister_qzStat hup
  · intro hup hw ha hlt
    refine ⟨s.unmappedWrite_errs req a v hup hw ha hlt, fun h4 => ?_⟩
    exact s.unmappedRead_errs a hw h4 (ha.resolve_left (not_not_intro h4)) hlt
  · intro ho h0 h512 hpage hup
    have ha : 0x410000 + 0x40000 * e.val + o = engineOffset e (0x10000 + o) := by simp only [engineOffset]; omega
    rw [ha] at hup ⊢
    exact ⟨_, s.dmemWindow_puts req e o bytes ho ⟨h0, h512⟩ hpage hup, rfl, fun b => s.begin.byte_writeMem_getD _ b bytes⟩
  · intro ho hlen hp hup
    have hf := s.frozen_of_reaches req _ hup (by omega)
    refine ⟨_, s.lockedWindow_refused req e o bytes ho hlen hp hup, State.raise_mem _ _ _, s.begin.raise_latched 4 _ (by decide) hf, ?_⟩
    rw [State.rn, s.begin.raise_info 4 _ (by decide) hf, BitVec.toNat_ofNat]
    omega
  · intro hup h8
    have hall : windowAll (0x800000 + 8 * n) bytes.length = true := by rw [h8]; exact windowAll_nozzle n
    have hexec := s.exec_nozzleTableWrite req (0x800000 + 8 * n) bytes hup (by omega) (by omega) hall (by simp [windowRange]; omega) (by omega)
      h8 (by omega)
    have hentry : (0x800000 + 8 * n.val - 0x800000) / 8 = n := by omega
    rw [hentry] at hexec
    refine ⟨_, hexec, State.writeNozzle_regs _ _ _, ?_, ?_, fun b hb => State.writeNozzle_byte _ _ _ b hb⟩
    · rw [State.writeNozzle_nozzle, withParity_mod]
    · rw [State.writeNozzle_nozzle, withParity_even]
  · intro hup hbe
    have hf := s.frozen_of_reaches req _ hup (by omega)
    exact ⟨_, s.exec_registerWrite_halfEntry req _ v be hup hbe (by omega), State.raise_mem _ _ _, s.begin.raise_latched 20 _ (by decide) hf,
      s.begin.raise_count 20 _ (by decide) hf⟩
  · intro ha hpoison hsoft ho hlen
    refine ⟨fun he hin => ⟨s.bar2Read_clean i o len ha hpoison hsoft ho he hin, fun b h1 h2 =>
      ⟨s.bar2Read_single i o len ha hpoison hsoft ho he hin hlen b h1 h2, s.bar2Read_double i o len ha hpoison hsoft ho he hin hlen b h1 h2⟩⟩,
      fun he hin => ?_, fun hno ups => ?_⟩
    · exact ⟨_, s.bar2Write_puts i o ha hpoison hsoft ho bytes he hin, rfl, fun b => s.begin.byte_writeMem_getD _ b bytes⟩
    · exact s.bar2Read_nowhere i o len ha ho ups (hno.imp_right fun h => by omega)

end
